-- ==== Sys2Proof/Word.lean ====
section
/-! DEFINITION. The words of the GW384 (00_scope.md R3, R4) and the plainest arithmetic on them: bytes, little-endian
fields and rounded division.  Nothing here is particular to one unit of the device. -/

namespace Sys2Proof

abbrev Byte := BitVec 8
abbrev B16 := BitVec 16
abbrev Word := BitVec 32
abbrev DWord := BitVec 64

/-- R3: the bytes of a number, least significant first. -/
def leBytes : Nat → Nat → List Byte
  | 0, _ => []
  | n + 1, v => BitVec.ofNat 8 v :: leBytes n (v / 256)

/-- R3: the number that a little-endian list of bytes spells. -/
def leNat : List Byte → Nat
  | [] => 0
  | b :: bs => b.toNat + 256 * leNat bs

/-- The little-endian field of `size` bytes at byte offset `off`; bytes beyond the end read as zero. -/
def leField (bs : List Byte) (off size : Nat) : Nat :=
  leNat ((bs.drop off).take size)

/-- Bits [hi:lo] of a number. -/
def bitsOf (v hi lo : Nat) : Nat := (v >>> lo) % 2 ^ (hi + 1 - lo)

/-- Bit `i` of a number. -/
def bitOf (v i : Nat) : Bool := v.testBit i

def natOfBool (b : Bool) : Nat := if b then 1 else 0

def ceilDiv (a b : Nat) : Nat := if b = 0 then 0 else (a + b - 1) / b

def roundUp (a b : Nat) : Nat := ceilDiv a b * b

/-- Overwrite `bs` from offset `off` with `new`, keeping the length of `bs`. -/
def setBytes (bs : List Byte) (off : Nat) (new : List Byte) : List Byte :=
  (bs.take off ++ new ++ bs.drop (off + new.length)).take bs.length

/-- A list cut or filled with zero bytes to exactly `n` bytes. -/
def padTo (n : Nat) (bs : List Byte) : List Byte :=
  bs.take n ++ List.replicate (n - bs.length) 0#8

/-- Replace element `i` of a list by a function of it (no effect beyond the end). -/
def modifyAt {α : Type} (l : List α) (i : Nat) (f : α → α) : List α := l.modify i f

/-- Saturating increment: the counters the manual calls saturating stop at `top`. -/
def satInc (v top : Nat) : Nat := if v < top then v + 1 else top

end Sys2Proof
end

