-- ==== Sys2Proof/Syntax.lean ====
section
/-! DEFINITION. The commands of the GW384: one constructor of `Instr` per row of spec/opcode_table.json.  The table
gives no row any operand bits, so the operands are this model's own (log entry 1): what the row's event brings from
outside the device (a pin level, a host access, a packet's port, bytes read from an expander, a measured value) and
what names the unit it happens at.  The types of those operands come first. -/

namespace Sys2Proof

/-- R503, Table 21.1: the supply rails. -/
inductive Rail where
  | aon | vddio | transit | hub | hbm | field0 | field1 | field2 | field3
deriving DecidableEq, Repr

/-- R392: the rates the host link settles on (`lower` is a rate outside the list of R392). -/
inductive HostRate where
  | g64 | g32 | g16 | lower
deriving DecidableEq, Repr

/-- R392: the widths the host link settles on (`other` is a width outside the list of R392). -/
inductive HostWidth where
  | x16 | x8 | x4 | other
deriving DecidableEq, Repr

/-- R393, R395: the registers of the owner function's configuration space whose writes change what the device does: the power state of
Power Management, and the size of BAR4 in Resizable BAR. -/
inductive ConfigReg where
  | powerState | bar4Size
deriving DecidableEq, Repr

/-- What a register write addresses: an offset of BAR0, or a register of the configuration space. -/
inductive RegPlace where
  | bar0 (off : Nat) | config (r : ConfigReg)
deriving DecidableEq, Repr

/-- R460, R461, R473: the levels of SEAL_SENSE_B, LOCK_STRAP_N and HOLDUP_OK that the Sheepdog samples together. -/
structure SealPins where
  senseB : Bool
  strap : Bool
  holdup : Bool
deriving DecidableEq, Repr

/-- R263, Table 10.1: the four request classes; RT is the highest. -/
inductive NpClass where
  | rt | hi | norm | bulk
deriving DecidableEq, Repr

/-- R263, R266, R271: the requesters of near pasture, as far as a rule tells them apart.  `fabric` is a
fabric-sinked PUT or PUT_ACC, `fabricGet` a fabric-sinked GET. -/
inductive NpSource where
  | fold | comet | shears | drover | video | host | queue | queueData | fabric | fabricGet | fabricData | scrub | wipe
deriving DecidableEq, Repr

/-- R405, Table 16.9: what enumeration learns of the expander behind a Talsen port.  `rate32` and `width8` give the
link mode of R404; the last five say which rows of Table 16.9 it meets. -/
structure Expander where
  serial : DWord
  mib : Nat
  rate32 : Bool
  width8 : Bool
  deviceOk : Bool
  decoderOk : Bool
  poisonOk : Bool
  latencyOk : Bool
deriving DecidableEq, Repr

/-- The commands, in the order of the table. -/
inductive Instr where
  /-- R443: RESET_N held low for at least 1 µs starts a cold reset of the device. -/
  | resetNLow
  /-- R440: Release of RESET_N lets the Sheepdog run the boot ROM and read the fuses. -/
  | resetNRelease
  /-- R443: Assertion of PERST_N starts a warm reset and resets the PCIe endpoint, its link and its configuration space. -/
  | perstNAssert
  /-- R441: Release of PERST_N starts host-link training; the endpoint answers configuration requests from 100 ms later. -/
  | perstNRelease
  /-- R443: Loss of the always-on supply is a cold reset, and the fault banks and counters are emptied. -/
  | vddAonLoss
  /-- R443: Loss of VDD_TRANSIT is a cold reset; the fault banks are kept if VDD_AON stays up. -/
  | vddTransitLoss (aonUp : Bool)
  /-- R505: A rail whose sense voltage has stayed within tolerance for 1 ms is good, and the power-on sequence continues. -/
  | railGood (rail : Rail)
  /-- R505: A rail that leaves its tolerance for more than 10 µs deasserts FIELD_EN and HUB_EN and holds the device at stage 1. -/
  | railHold (rail : Rail)
  /-- R505: A rail that is not good 20 ms after its enable causes rail hold. -/
  | railGoodTimeout (rail : Rail)
  /-- R512: A die at its trip temperature has its clocks stopped by an analogue circuit, and THERMTRIP_N is asserted. -/
  | thermtrip (die : Fin 5)
  /-- R501: POWER_BRAKE_N low for 1 µs forces duty 4 and then the reduced point, and overrides the capping loop. -/
  | powerBrakeNAsserted
  /-- R501: POWER_BRAKE_N high for 1 ms releases the brake, and the loop resumes from the reduced point. -/
  | powerBrakeNReleased
  /-- R459: PRESENCE_N low for 50 ms with the seal loop intact opens or restarts the 30 s presence window and clears SEAL_BROKEN. -/
  | presencePress (rested : Bool)
  /-- R459: A press held low for more than 10 s closes the window and logs PRESENCE_STUCK. -/
  | presenceStuck
  /-- R459: The 30 s presence window expires and closes. -/
  | presenceWindowExpiry
  /-- R461: Every 1 ms the Sheepdog changes SEAL_SENSE_A and compares SEAL_SENSE_B against it. -/
  | sealSample (pins : SealPins)
  /-- R437: Once the always-on supply, reference clock, RESET_N and fuses are ready, the device enters stage 1. -/
  | stageManagement
  /-- R437: Once the boot ROM has verified and started the firmware and the host link is up, the device enters stage 2. -/
  | stageFirmware
  /-- R437: Once the Fold and commons self-tests have run and the commons has passed, the device enters stage 3. -/
  | stageReduced (badFolds : List Nat) (badCommons : List Nat)
  /-- R437: Once the stacks are trained and wiped, the Talsen ports are enumerated and the regions reserved, the device enters stage 4. -/
  | stageMemory (badStacks : List Nat) (expanders : List (Option Expander))
  /-- R437: Once the device is placed, has a port up on every axis and is synchronised or is the Bellwether, it enters stage 5. -/
  | stageFull
  /-- R443: A keyed write of RESET_CTRL.CC requests a control-complex reset. -/
  | resetCtrlCc (value : Word)
  /-- R443: A keyed write of RESET_CTRL.WARM requests a warm reset. -/
  | resetCtrlWarm (value : Word)
  /-- R443: A keyed write of RESET_CTRL.COLD requests a cold reset. -/
  | resetCtrlCold (value : Word)
  /-- R443: HEARTBEAT unchanged for 1 s at stage 2 or above starts a control-complex reset. -/
  | heartbeatReset
  /-- R443: A control-complex reset whose Shepherd has not run again within 5 s becomes a warm reset. -/
  | ccResetEscalation
  /-- R357: When the drain of the running pens ends, the Shepherd is reset. -/
  | ccDrainComplete
  /-- R357: After a control-complex reset the Shepherd runs again, and pens return to their prior states with repeatable operators reissued. -/
  | shepherdRestart
  /-- R477: After 300 s without confirmation the BCB falls back to the confirmed image and FW_HEALTH_TIMEOUT is logged. -/
  | fwHealthTimeout
  /-- R477: With no reset 600 s after the health timer started, a control-complex reset starts the old image. -/
  | healthWatchdog
  /-- R476: A passed firmware self-test with CONFIRM_MODE 1 confirms the new image, commits its settings and advances the floor. -/
  | firmwareSelftestPass
  /-- R498: Every 100 µs the Sheepdog measures device power from the rail sensors. -/
  | powerMeasurement (milliwatts : Nat) (dieTemps : List Nat)
  /-- R500: Every 1 ms the capping loop adjusts the duty and the FCLK operating point against the power limit and die temperatures. -/
  | capIteration
  /-- R493: A tick, every 1 s or at a requested time, latches every counter and gauge into the shadow and increments SNAP_EPOCH. -/
  | tallyTick
  /-- R495: A TALLY_REQ from the time tree schedules a tick and is passed on to the children. -/
  | tallyReq
  /-- R399: A GO write submits the slot's request; it is ignored while the slot is BUSY. -/
  | mbCtrlGo (fn : Fin 9) (slot : Fin 4) (irq : Bool)
  /-- R401: An ABORT write withdraws a request not yet taken. -/
  | mbCtrlAbort (fn : Fin 9) (slot : Fin 4)
  /-- R403: A command that exceeds its time limit responds with TIMEOUT. -/
  | commandTimeout (fn : Fin 9) (slot : Fin 4)
  /-- R8: A write to a register field that has no row of its own takes effect as its access code defines. -/
  | registerWrite (fn : Fin 9) (place : RegPlace) (wide : Bool) (value : DWord)
  /-- R11: A misaligned or wrongly sized BAR0 access returns all ones or is ignored, and is logged as a corrected fault. -/
  | bar0Access (fn : Fin 9) (bar2 : Bool) (write : Bool) (off : Nat) (size : Nat)
  /-- R339: A read of TIME_NOW bits [31:0] latches bits [63:32] and EPOCH for the next read. -/
  | timeNowRead
  /-- R303: A doorbell write adds entries to TAIL, or to HEAD for a CPL queue; an out-of-range value or an overflow halts the queue. -/
  | doorbellAdd (fn : Fin 9) (q : Nat) (value : Word)
  /-- R304: A doorbell RESTART clears HALTED and, with SKIP, first advances HEAD by one. -/
  | doorbellRestart (fn : Fin 9) (q : Nat) (value : Word)
  /-- R396: A host read through BAR4 is translated through the window pen's page table and served at NORM class. -/
  | bar4Read (fn : Fin 9) (off : Nat) (len : Nat)
  /-- R396: A host write through BAR4 is translated and written at NORM class, through write combining when it is partial. -/
  | bar4Write (fn : Fin 9) (off : Nat) (bytes : List Byte)
  /-- R394: An FLR of a virtual function aborts its bound pen and resets its mailbox slot. -/
  | functionLevelReset (fn : Fin 9)
  /-- R393: A request to enter D3hot is accepted only when no pen is RUNNING. -/
  | d3hotEntry
  /-- R463: An I3C private write sets the offset and optionally writes data, such as RESET_CTRL. -/
  | i3cPrivateWrite (bytes : List Byte)
  /-- R463: An I3C private read returns bytes from the last offset, incrementing. -/
  | i3cPrivateRead (len : Nat)
  /-- R463: The I3C CCC ENTDAA is served by the management port. -/
  | entdaa (addr : BitVec 7)
  /-- R463: The I3C CCC SETDASA is served by the management port. -/
  | setdasa (target : BitVec 7) (addr : BitVec 7)
  /-- R463: The I3C CCC RSTDAA is served by the management port. -/
  | rstdaa
  /-- R463: GETPID returns the random-marked provisional ID derived from SERIAL. -/
  | getpid
  /-- R463: The I3C CCC GETBCR is served by the management port. -/
  | getbcr
  /-- R463: The I3C CCC GETDCR is served by the management port. -/
  | getdcr
  /-- R463: The I3C CCC GETSTATUS is served by the management port. -/
  | getstatus
  /-- R463: The I3C CCC GETMWL is served by the management port. -/
  | getmwl
  /-- R463: The I3C CCC GETMRL is served by the management port. -/
  | getmrl
  /-- R415: Returns the vendor, device, stepping, Eszer version, firmware version, serial number and life-cycle state. -/
  | devIdentify (fn : Fin 9) (slot : Fin 4)
  /-- R416: Returns the stage, pen states, time and, optionally, the pen's recovery record. -/
  | devStatus (fn : Fin 9) (slot : Fin 4)
  /-- R417: Returns the enabled Folds, FCLK, capacities, links and power limit. -/
  | devCaps (fn : Fin 9) (slot : Fin 4)
  /-- R346: Creates an EMPTY pen as READY and PRIMARY, with zero quotas and counters. -/
  | penCreate (fn : Fin 9) (slot : Fin 4)
  /-- R360: Moves a READY or FAULTED pen to WIPING and starts its wipe. -/
  | penDestroy (fn : Fin 9) (slot : Fin 4)
  /-- R352: Sets a pen's NEAR_MIN and FAR_MAX, subject to the pool bounds. -/
  | penSetQuota (fn : Fin 9) (slot : Fin 4)
  /-- R349: Sets a READY pen's class to PRIMARY or GRAZING. -/
  | penSetPriority (fn : Fin 9) (slot : Fin 4)
  /-- R348: Binds a READY pen to a virtual function, or unbinds it. -/
  | penBindVf (fn : Fin 9) (slot : Fin 4)
  /-- R419: Registers a tensor, a view or a recipe for the pen after checking it. -/
  | tensorRegister (fn : Fin 9) (slot : Fin 4)
  /-- R420: Releases a registered tensor, cancelling its moves and freeing its copies once it is unused. -/
  | tensorRelease (fn : Fin 9) (slot : Fin 4)
  /-- R234: Checks and loads or unloads the pen's itinerary, effective at once or at the point-0 mark. -/
  | itineraryLoad (fn : Fin 9) (slot : Fin 4)
  /-- R420: Returns the pool, far and shared capacities and the pen's quotas and usage. -/
  | poolQuery (fn : Fin 9) (slot : Fin 4)
  /-- R247: Registers a shared base with a PINNED near copy and a checked golden copy, or releases a base. -/
  | baseRegister (fn : Fin 9) (slot : Fin 4)
  /-- R422: Writes the coordinate, extents, Bellwether and deputy to FAB_TOPO and the settings, with drain and retrain when they change. -/
  | fabricTopologySet (fn : Fin 9) (slot : Fin 4)
  /-- R423: Returns the port status, topology, ring state and Talsen records. -/
  | linkStatus (fn : Fin 9) (slot : Fin 4)
  /-- R424: Allocates the lowest free queue id and sets its context. -/
  | queueCreate (fn : Fin 9) (slot : Fin 4)
  /-- R299: Stops a queue and frees its context once its operations in flight have ended. -/
  | queueDestroy (fn : Fin 9) (slot : Fin 4)
  /-- R425: Sets the Bellwether's time source and optionally applies a host reference time under R338. -/
  | timeRoleSet (fn : Fin 9) (slot : Fin 4)
  /-- R367: Opens a decode or encode stream bound to a VID queue of the pen. -/
  | videoStreamOpen (fn : Fin 9) (slot : Fin 4)
  /-- R368: Closes a stream after its running picture ends, and frees its marks and context. -/
  | videoStreamClose (fn : Fin 9) (slot : Fin 4)
  /-- R369: Sets or removes the pen's frame-buffer pool while no stream is open. -/
  | videoPoolSet (fn : Fin 9) (slot : Fin 4)
  /-- R427: Opens an update session and starts erasing the target region. -/
  | fwUpdateBegin (fn : Fin 9) (slot : Fin 4) (holdup : Bool)
  /-- R428: Programs the next 2,048-byte block of the image in sequence. -/
  | fwUpdateBlock (fn : Fin 9) (slot : Fin 4) (holdup : Bool)
  /-- R474: Verifies the target and commits it with one BCB write, optionally activating it by a control-complex reset. -/
  | fwUpdateCommit (fn : Fin 9) (slot : Fin 4) (holdup : Bool)
  /-- R476: Confirms an UNCONFIRMED image's health. -/
  | fwConfirmHealth (fn : Fin 9) (slot : Fin 4)
  /-- R429: Closes the session and marks its region invalid. -/
  | fwUpdateAbort (fn : Fin 9) (slot : Fin 4)
  /-- R430: Returns the flash mode, slot states and the health time left. -/
  | fwSlotStatus (fn : Fin 9) (slot : Fin 4)
  /-- R431: Returns the life-cycle state, the presence window, the physical inputs and TRANSITIONS. -/
  | lcStateGet (fn : Fin 9) (slot : Fin 4) (strap : Bool)
  /-- R455: Performs an authorised life-cycle transition, then a warm reset. -/
  | lcTransition (fn : Fin 9) (slot : Fin 4) (strap : Bool)
  /-- R458: Sets the owner lock after presence and credential checks. -/
  | ownerLock (fn : Fin 9) (slot : Fin 4) (strap : Bool)
  /-- R458: Clears the owner lock after presence, strap and credential checks. -/
  | ownerUnlock (fn : Fin 9) (slot : Fin 4) (strap : Bool)
  /-- R433: Returns whole records of a fault bank. -/
  | faultRead (fn : Fin 9) (slot : Fin 4)
  /-- R486: Frees one record or a whole bank, or schedules a retired Fold for self-test at the next cold reset. -/
  | faultClear (fn : Fin 9) (slot : Fin 4)
  /-- R494: Raises a Tally tick now or at a given time, and on the Bellwether sends TALLY_REQ. -/
  | tallySnapshot (fn : Fin 9) (slot : Fin 4)
  /-- R497: Returns live telemetry item values. -/
  | telemetryRead (fn : Fin 9) (slot : Fin 4)
  /-- R498: Sets the power limit that the capping loop uses from its next iteration. -/
  | powerLimitSet (fn : Fin 9) (slot : Fin 4)
  /-- R434: Binds a READY pen to a job with a placement record and moves it to RUNNING. -/
  | jobSubmit (fn : Fin 9) (slot : Fin 4)
  /-- R355: Moves a RUNNING pen to QUIESCING and starts its drain. -/
  | jobQuiesce (fn : Fin 9) (slot : Fin 4)
  /-- R356: Returns a QUIESCED pen to RUNNING, continuing its operators. -/
  | jobResume (fn : Fin 9) (slot : Fin 4)
  /-- R435: Brings the named tensors of a QUIESCED pen near and holds them for host reads. -/
  | checkpointDrain (fn : Fin 9) (slot : Fin 4)
  /-- R358: Discards the pen's work, frees its queues, zeroes its counters and returns it to READY. -/
  | jobAbort (fn : Fin 9) (slot : Fin 4)
  /-- R432: Sets the debug level after presence and credential checks, or locks it at level 0. -/
  | debugUnlock (fn : Fin 9) (slot : Fin 4) (strap : Bool)
  /-- R432: Reads control-address words, subject to the debug level. -/
  | debugRegRead (fn : Fin 9) (slot : Fin 4)
  /-- R432: Writes a control-address word, subject to the debug level. -/
  | debugRegWrite (fn : Fin 9) (slot : Fin 4)
  /-- R88: A GEMM descriptor issues from its OPR ring, is checked and planned, and its tasks are listed. -/
  | gemm (q : Nat)
  /-- R98: A CONV descriptor issues, is checked for geometry and planned, and its tasks are listed. -/
  | conv (q : Nat)
  /-- R104: A CROP_RESIZE descriptor issues and resamples boxes into the output. -/
  | cropResize (q : Nat)
  /-- R119: A NORM descriptor issues and normalises forward or backward. -/
  | norm (q : Nat)
  /-- R123: A SOFTMAX descriptor issues and computes row softmax or log-softmax, forward or backward. -/
  | softmax (q : Nat)
  /-- R125: An ELTWISE descriptor issues and applies its element-wise function. -/
  | eltwise (q : Nat)
  /-- R128: A REDUCE descriptor issues and reduces over the masked dimensions. -/
  | reduce (q : Nat)
  /-- R129: An RNG_FILL descriptor issues and fills its output with Philox draws. -/
  | rngFill (q : Nat)
  /-- R130: An OPT_STEP descriptor issues and updates master weights and moments in place. -/
  | optStep (q : Nat)
  /-- R133: A LOSS descriptor issues and computes the loss and optionally its gradient. -/
  | loss (q : Nat)
  /-- R135: A CAST descriptor issues and converts its input to the output format. -/
  | cast (q : Nat)
  /-- R136: A MOVE descriptor issues and copies its input without conversion. -/
  | move (q : Nat)
  /-- R137: A FENCE operator issues and holds its ring until earlier operators of the ring or pen have completed. -/
  | fence (q : Nat)
  /-- R138: A LAYER_MARK issues, completes as a RING FENCE, and reports its layer to the Drover. -/
  | layerMark (q : Nat)
  /-- R139: A COLL_STEP issues and makes COUNT further ROP descriptors eligible, as a doorbell would. -/
  | collStep (q : Nat)
  /-- R174: An ATTN_FWD descriptor issues; the page service checks the sequence and page tables and tasks run forward attention. -/
  | attnFwd (q : Nat)
  /-- R177: An ATTN_BWD descriptor issues and runs its two backward passes. -/
  | attnBwd (q : Nat)
  /-- R162: When an accumulator half frees or a task becomes ready, the scheduler places a task on a free ACTIVE slot. -/
  | taskIssue
  /-- R68: A task finishes its work; if confirmed, its held effects are released in order. -/
  | taskCompletion (phys : Fin 136) (half : Bool)
  /-- R65: CONFIRM of a provisional chunk confirms the tasks that read it and releases their held effects. -/
  | confirm (handle : Word) (chunk : Nat)
  /-- R69: REJECT of a chunk stops, zeroes and discards every provisional task that read it. -/
  | reject (handle : Word) (chunk : Nat)
  /-- R57: A single-bit Fold buffer error is corrected in place and logged. -/
  | foldBufferCe (phys : Fin 136) (buffer : Fin 4)
  /-- R74: An uncorrectable Fold buffer error puts the Fold into FAILED and records its retirement. -/
  | foldBufferUe (phys : Fin 136) (gone0 : Nat) (gone1 : Nat)
  /-- R74: A parity error on the engine datapaths puts the Fold into FAILED. -/
  | foldParity (phys : Fin 136) (gone0 : Nat) (gone1 : Nat)
  /-- R74: A task overrunning four times its predicted cycles plus 10,000 puts the Fold into FAILED. -/
  | foldTaskTimeout (phys : Fin 136) (half : Bool) (gone0 : Nat) (gone1 : Nat)
  /-- R77: At the next layer boundary after a failure, a spare is reset and mapped into the failed slot. -/
  | spareTakeover (bad : Bool)
  /-- R79: Every 60 s an idle spare runs its self-test, and a failing spare is retired. -/
  | spareSelftest (phys : Fin 136) (pass : Bool)
  /-- R240: Every 10 µs and at its deadline, a fetch in flight is predicted again and may switch to its recipe. -/
  | fetchRepredict
  /-- R240: A waiting need with no path 1 s after its deadline fails at the pen layer. -/
  | needWaitTimeout (handle : Word)
  /-- R208: A far chunk arrives and is checked, and CONFIRM or REJECT is sent; the last chunk completes the fetch. -/
  | farReadComplete (handle : Word) (chunk : Nat) (bytes : List Byte) (poison : Bool)
  /-- R242: A far read not completed 100 µs after issue is abandoned and its dependent chunks are rejected. -/
  | farReadTimeout (handle : Word) (chunk : Nat)
  /-- R230: A finished write-behind with a valid far table sets the tensor BOTH. -/
  | writeBehindComplete (handle : Word)
  /-- R230: A failed far write ends the write-behind; one retry is made without the failed port. -/
  | farWriteFailure (handle : Word) (port : Fin 4)
  /-- R232: A finished recipe run leaves the rebuilt tensor near, and its scratch tensors return to NONE. -/
  | recipeComplete (handle : Word)
  /-- R198: The Shears finish a DLT encode and the destination becomes available. -/
  | dltEncodeComplete (handle : Word)
  /-- R229: An allocation above NEAR_MIN waiting 50 ms with no candidate faults the pen. -/
  | poolExhausted (handle : Word)
  /-- R227: Every 60 s the Drover saturates the ages of old entries. -/
  | lastUseSweep
  /-- R248: Every 24 h each golden copy is read and checked in full. -/
  | goldenScrub (base : Fin 64) (chunks : List (List Byte)) (poison : Bool)
  /-- R258: A read request is served at its pseudo-channel, with open write-combining bytes overlaid. -/
  | nearPastureRead (cls : NpClass) (source : NpSource) (addr : Nat) (len : Nat)
  /-- R256: A write goes directly when it covers a whole line, and otherwise enters the write-combining buffer. -/
  | nearPastureWrite (cls : NpClass) (source : NpSource) (addr : Nat) (bytes : List Byte)
  /-- R260: An accumulate-write adds its addend to each masked element atomically with one rounding. -/
  | accumulateWrite (cls : NpClass) (source : NpSource) (addr : Nat) (targetBf16 : Bool) (addendBf16 : Bool) (addends : List (Option Word))
  /-- R257: A write-combining entry open for 1 µs is flushed at NORM class. -/
  | wcAgeFlush (line : Nat)
  /-- R264: A request waiting for the aging threshold is promoted one class. -/
  | requestAging (index : Nat)
  /-- R265: A request that has waited 20 µs is served before every other at its pseudo-channel. -/
  | requestWaitBound (index : Nat)
  /-- R266: Every 1 ms each controller reads its stack temperature and updates the stack's thermal state. -/
  | stackTemperatureRead (stack : Fin 8) (celsius : Nat)
  /-- R267: Every 10 ms while a stack is Hot or Critical the SLOW notice is repeated. -/
  | slowRepeat
  /-- R270: A correctable sector error is corrected, written back and logged. -/
  | npCe (addr : Nat)
  /-- R271: An uncorrectable sector poisons its line, logs a deferred record, and the Drover discards the near copy. -/
  | npUe (addr : Nat)
  /-- R273: Each line is scrubbed once a day, and noisy groups are scheduled for retraining. -/
  | patrolScrub (group : Fin 64) (corrected : List Nat)
  /-- R274: Fifteen minutes after a group's last training, it is due for retraining. -/
  | retrainPeriod (group : Fin 64)
  /-- R274: When the limits allow, a due pseudo-channel group starts a retraining window. -/
  | retrainWindowStart
  /-- R275: A retraining window ends, and the held requests of the group are served. -/
  | retrainWindowEnd
  /-- R281: Signal detected on two lanes starts port negotiation. -/
  | portSignalDetect (port : Fin 8) (lanes : Byte)
  /-- R282: Salholt training frames exchange capabilities and the peer is checked against the wiring. -/
  | trainingFrame (port : Fin 8) (coord : B16) (extent : B16) (peerPort : Fin 8) (slOk : Bool)
  /-- R281: After the mode is fixed, deskew and credits are initialised and the port is UP. -/
  | portUp (port : Fin 8) (goodFast : Byte) (goodSlow : Byte) (lightBer : Byte)
  /-- R281: A negotiation not UP within 500 ms restarts and increments RETRAINS. -/
  | negotiationTimeout (port : Fin 8)
  /-- R281: After three failures the port retries every 1 s. -/
  | negotiationRetry (port : Fin 8)
  /-- R283: A lane over 10⁻⁵ pre-FEC or out of lock narrows the port at an agreed flit boundary. -/
  | laneNarrowing (port : Fin 8) (lane : Fin 8)
  /-- R283: When all eight lanes pass 10 s of measurement, the port widens again. -/
  | laneWidening (port : Fin 8)
  /-- R285: A received flit is checked, acknowledged and delivered, or NAKed and replayed. -/
  | flit (port : Fin 8) (bytes : List Byte)
  /-- R287: 10 µs without a valid flit takes the port DOWN. -/
  | validFlitTimeout (port : Fin 8)
  /-- R287: Loss of signal on every lane of the width takes the port DOWN. -/
  | lossOfSignal (port : Fin 8)
  /-- R291: A packet at the transit plane is routed on, ejected, refused or dropped. -/
  | packet (input : Fin 9) (cls : Fin 8)
  /-- R316: A REFUSAL at the source ends its fragment and leads to re-injection or failure of the operation. -/
  | refusal
  /-- R292: A ring notice updates FAB_RING, increments ROUTE_EPOCH and raises a route-change event. -/
  | ringNotice
  /-- R296: An ISOLATE from the Bellwether or deputy puts the device in transit-only mode. -/
  | isolate
  /-- R297: After the drain of a topology change, all ports are link-reset to retrain under the new topology. -/
  | topologyDrainComplete
  /-- R337: A received TIME_SYNC updates the follower's time by step or slew and is sent on to the children. -/
  | timeSync
  /-- R336: Every 1 ms the master sends TIME_SYNC down the time tree. -/
  | timeSyncPeriod
  /-- R336: A received DELAY_REQ is answered with DELAY_RESP. -/
  | delayReq
  /-- R336: A received DELAY_RESP gives the link's one-way delay. -/
  | delayResp
  /-- R336: Every 1 ms each link sends DELAY_REQ to measure its delay. -/
  | delayReqPeriod (port : Fin 8)
  /-- R337: After 10 ms without TIME_SYNC, the follower runs at its last corrected rate. -/
  | holdover
  /-- R338: At the master, an EPOCH_REQ begins a new epoch without a step. -/
  | epochReq
  /-- R332: A BEACON received by the deputy resets its takeover timer. -/
  | beacon
  /-- R332: Every 1 ms the Bellwether sends a BEACON to the deputy. -/
  | beaconPeriod
  /-- R332: After 20 ms without a BEACON, the deputy sends a PROBE. -/
  | beaconTimeout
  /-- R332: A PROBE is answered, and its answer cancels the deputy's takeover. -/
  | probe
  /-- R332: A PROBE unanswered within 1 ms, or refused, makes the deputy take over as Bellwether. -/
  | probeTimeout
  /-- R332: A received BELLWETHER_CHANGE updates the topology, and members send JOIN again. -/
  | bellwetherChange
  /-- R342: A member's JOIN is recorded in the coordinator's job table. -/
  | join
  /-- R342: At the Bellwether a FAULT_NOTICE starts or restarts collection for recovery. -/
  | faultNotice
  /-- R342: After 50 ms of collection the generation is incremented and RECOVERY HALT is sent. -/
  | collectEnd (key : B16)
  /-- R342: A member that has not acknowledged HALT within 1 s is failed and sent ISOLATE. -/
  | haltAckTimeout (key : B16)
  /-- R342: A member acts on a RECOVERY phase of its generation, aborting or restarting, and acknowledges. -/
  | recovery
  /-- R342: Acknowledgements advance the Bellwether's recovery phases. -/
  | recoveryAck
  /-- R334: Every 10 ms an unanswered non-periodic management packet is sent again. -/
  | managementResend
  /-- R333: A FAULT_NOTICE unanswered for 1 s makes the member report COORDINATOR_LOST. -/
  | coordinatorLost (pen : Fin 8)
  /-- R267: A received SLOW notice multiplies the collective watchdogs and ROP timeouts by four, or ends that. -/
  | slow
  /-- R267: After 50 ms without a repeated SLOW, the watchdogs return to normal. -/
  | slowExpiry (port : Fin 8)
  /-- R340: A job ring waiting on a counter for WATCHDOG_MS faults the pen. -/
  | collWatchdog (q : Nat)
  /-- R307: A PUT descriptor is taken, checked and injected as PUT_DATA fragments. -/
  | put (q : Nat)
  /-- R307: A GET descriptor is taken, checked and injected as GET_REQ fragments. -/
  | get (q : Nat)
  /-- R307: A PUT_ACC descriptor is taken, checked and injected as PUT_ACC_DATA fragments on VC2. -/
  | putAcc (q : Nat)
  /-- R307: An ATOMIC descriptor is taken, checked and injected as ATOMIC_REQ. -/
  | atomic (q : Nat)
  /-- R311: A SIGNAL descriptor is taken and injected once every earlier operation of its queue is complete. -/
  | signal (q : Nat)
  /-- R311: A ROP FENCE holds later descriptors of its queue until earlier operations complete. -/
  | ropFence (q : Nat)
  /-- R312: At the destination a PUT_DATA fragment is checked, translated and written, with an ACK after the last. -/
  | putData
  /-- R312: At the destination a GET_REQ is checked and answered with GET_DATA. -/
  | getReq
  /-- R312: At the destination an ATOMIC_REQ is applied atomically and answered with VALUE_RESP. -/
  | atomicReq
  /-- R312: At the destination a SIGNAL_REQ adds to the counter and is answered. -/
  | signalReq
  /-- R312: At the destination a PUT_ACC_DATA fragment is applied by accumulate-write, with an ACK after the last. -/
  | putAccData
  /-- R310: An ACK completes a PUT, PUT_ACC or SIGNAL at its source, with local signal and completion. -/
  | ack
  /-- R310: GET_DATA writes its fragment locally and completes the GET after the last. -/
  | getData
  /-- R310: VALUE_RESP writes the prior or readback value and completes the operation. -/
  | valueResp
  /-- R317: An operation without a response TIMEOUT_US after its last packet fails with TIMEOUT. -/
  | ropTimeout (q : Nat) (seq : Word)
  /-- R372: A VID DATA entry supplies bitstream bytes to its stream. -/
  | data (q : Nat)
  /-- R372: A VID OUTPUT entry names the destination of the next picture in output order. -/
  | output (q : Nat)
  /-- R372: A VID ENCODE entry supplies an input picture and its bitstream region. -/
  | encode (q : Nat)
  /-- R372: A VID FLUSH entry ends the stream's data and completes when the remaining work ends. -/
  | flush (q : Nat)
  /-- R384: A freed core takes a ready picture of its kind by class, deadline and age. -/
  | picturePick (core : Fin 6)
  /-- R375: A picture ends on its core; its outputs become visible, its counter is incremented and its event written. -/
  | pictureEnd (core : Fin 6)
  /-- R382: A core overrunning its picture time is reset, and the picture is concealed or re-encoded. -/
  | coreReset (core : Fin 6)
  /-- R355: When no task of a QUIESCING pen remains, the pen enters QUIESCED. -/
  | quiesceDrainComplete (pen : Fin 8)
  /-- R355: A drain unfinished 1 s after JOB_QUIESCE faults the pen. -/
  | quiesceTimeout (pen : Fin 8)
  /-- R360: When a pen's last wipe write is visible, the pen becomes EMPTY. -/
  | wipeComplete (pen : Fin 8)
  /-- R490: An uncorrectable hub SRAM error is a hub fault and puts the device in transit-only mode. -/
  | hubEcc (unit : Fin 7)
  /-- R488: A corrected flit error on the hub NoC or a die-to-die link is logged. -/
  | droveRoadCe (unit : Fin 5)
  /-- R490: An uncorrectable drove-road flit error is a hub fault. -/
  | droveRoadUe (unit : Fin 5)
  /-- R490: An uncorrectable commons error is a hub fault. -/
  | commonsUe (bank : Fin 16)
  /-- R490: An uncorrectable page-service SRAM error is a hub fault. -/
  | cometSramUe
  /-- R243: A Talsen port that goes down unannounced fails its far reads as transfer failures. -/
  | talsenLinkDown (port : Fin 4)
  /-- R406: A Talsen port comes up or finishes relinking, and waiting needs are decided again. -/
  | talsenLinkUp (port : Fin 4) (expander : Expander)
  /-- R406: A corrected CXL error is counted; over 1,000 in 60 s triggers a relink. -/
  | talsenCorrectedError (port : Fin 4)
  /-- R473: When HOLDUP_OK becomes asserted, the flash writes that the Sheepdog started on its own and held back for it proceed. -/
  | holdupOkAsserted
  /-- R472: A background sector erase of the update target ends, is journaled ERASE_DONE, and makes that sector available to blocks. -/
  | flashSectorErased
  /-- R445: After a cold or warm reset the Drover's background overwrite of a portion of expander capacity completes, and that capacity becomes allocatable. -/
  | farPastureOverwrite (port : Fin 4) (bytes : Nat)
  /-- R443: Every 1 ms the Eszer service core increments HEARTBEAT while it runs. -/
  | heartbeatIncrement
  /-- R392: A PCIe recovery or retrain during operation settles the host link at a new rate or width, updating HOST_LINK and STAGE.DEGRADED. -/
  | hostLinkRetrain (partner : List (HostRate × HostWidth)) (channel : List (HostRate × HostWidth)) (flitMode : Bool)
  /-- R382: A video core reset ends within 2 ms, the core returns to service, and the next queued core reset may begin. -/
  | videoCoreResetEnd (core : Fin 6)
deriving DecidableEq, Repr

end Sys2Proof
end

