-- ==== Sys2Proof/Decode.lean ====
section
/-! DEFINITION. The table's words: spec/opcode_table.json gives no row any bits, so no word spells a command. -/

namespace Sys2Proof

/-- No row of the table has bits: a word spells no command. -/
def decodeTableWord (_nbits _w : Nat) : Option Instr := none

end Sys2Proof
end

