-- ==== Sys2Proof/Config.lean ====
section
/-! DEFINITION. What the manual leaves to an implementation or leaves open: constants without a body, so that no proof
can use a value of theirs.  Every one has its entry in the assumption log. -/

namespace Sys2Proof

/-- Log entry 3: the free values.  Every value the manual calls indeterminate or does not state is drawn from here. -/
opaque Config.freeBits : Nat → BitVec 64

/-- R457: the public key of Salholt ROM key 0-3 as its affine coordinates (log entry 13). -/
opaque Config.salholtKey : Nat → Nat × Nat

/-- R6: a byte of near pasture that is indeterminate until something writes it, by the number of the time it became so and its device
address (log entry 33). -/
opaque Config.looseByte : Nat → Nat → BitVec 8

/-- R313: the line of near pasture that an update of a pen's signal counter needs at a moment of the run, none while the queue engine's
cache holds the counter (log entry 161). -/
opaque Config.counterPlace : Nat → Nat → Nat → Option Nat

/-- R432: the physical Fold and the accumulator half that an address of the Fold-local region belongs to; the manual gives
neither the region's place nor its layout (log entry 67). -/
opaque Config.foldLocal : Nat → Option (Nat × Bool)

/-- Table 16.4 ESZER_MINOR of the image programmed at provisioning (log entry 5). -/
opaque Config.factoryEszerMinor : BitVec 8

/-! ## Video (chapter 15)

The standards of Table 15.1 and the encoder's own choices (R364, R387) are not part of the manual: what they compute is a
constant without a body (log entry 61). -/

/-- A picture's sample planes, in raster order: its size, bit depth, whether it is monochrome, the signalled chroma location
(0 default, 1 centre, 2 co-sited), matrix (0 unspecified, 1 BT.601, 2 BT.709, 3 BT.2020, others of the standard) and range, and
the marked blocks of its concealment map (R381) in raster order. -/
structure Planes where
  width : Nat
  height : Nat
  depth : Nat
  mono : Bool
  luma : List Nat
  cb : List Nat
  cr : List Nat
  chromaLoc : Nat
  matrix : Nat
  full : Bool
  map : List Bool
deriving DecidableEq, Repr, Inhabited

/-- R379: a fault of the bitstream that the standard finds: its byte offset in the picture's data, and whether the data ends there inside
a slice, tile or OBU (cause 2, else cause 1). -/
structure DecodeFault where
  offset : Nat
  truncated : Bool
deriving DecidableEq, Repr, Inhabited

/-- Table 15.1: the profiles that are supported; others are not told apart. -/
inductive VideoProfile where
  | h264High | h265Main | h265Main10 | av1Main | other
deriving DecidableEq, Repr, Inhabited

/-- R365: what the parameter sets of a picture say of it: profile, ten times the level, chroma format (0 monochrome, 1 4:2:0, others of
the standard), a field picture, MBAFF, large-scale tile decoding. -/
structure PictureInfo where
  profile : VideoProfile
  level : Nat
  chroma : Nat
  field : Bool
  mbaff : Bool
  largeScale : Bool
deriving DecidableEq, Repr, Inhabited

/-- R381: what the predictions of one 64 × 64 luma block read: blocks of references, by the number of the picture, and blocks of the
same picture. -/
structure BlockReads where
  inter : List (Nat × Nat)
  intra : List Nat
deriving DecidableEq, Repr, Inhabited

/-- What the decoder of a stream is given for one picture: its number, the bytes of the base layer (a poisoned one is none), the pictures
held for reference with the stand-ins of R379, and the blocks of references, by picture and block, whose reads return poisoned data. -/
structure DecodeInput where
  codec : Nat
  hashCheck : Bool
  depth : Nat
  context : Nat
  number : Nat
  data : List (Option (BitVec 8))
  refs : List (Nat × Planes)
  badRefs : List (Nat × Nat)
  recent : Option Planes
deriving DecidableEq, Repr, Inhabited

/-- What the standard gives for one picture: its samples (those of lost positions say nothing), the rectangle of them that the standard
outputs (first column and row, columns and rows), the place of its header in the data, whether its parameter sets are valid (R379) and
what they say, whether it is a random-access point, the references that are not held, the faults, where a hash disagrees, what each
block reads, whether and where it stands in output order, below which place pictures may be output, an earlier picture shown again, the
numbers of the pictures that stay references (its own too), and the decoder's new context. -/
structure Decoded where
  picture : Option Planes
  window : Nat × Nat × Nat × Nat
  header : Nat
  params : Bool
  info : PictureInfo
  randomAccess : Bool
  missing : List (Nat × Nat)
  faults : List DecodeFault
  hashBad : Option Nat
  reads : List BlockReads
  output : Bool
  outNumber : Nat
  outUpTo : Nat
  again : Option (Nat × Nat)
  refs : List Nat
  context : Nat
deriving DecidableEq, Repr, Inhabited

/-- R364, R387: how a 16 × 16 luma block is coded: in intra form, or predicted from an earlier picture (by its place among the
references) at a vector in quarter samples. -/
inductive BlockMode where
  | intra
  | inter (ref : Nat) (vector : Int × Int)
deriving DecidableEq, Repr, Inhabited

/-- What the encoder is given for one picture. -/
structure EncodeInput where
  codec : Nat
  depth : Nat
  qp : Nat
  key : Bool
  band : Option (Nat × Nat)
  refs : List Planes
  input : Planes
  number : Nat
  /-- R389: of each reference, the luma columns of its refreshed region. -/
  fresh : List Nat
  /-- R387: the final vectors of the motion search, in quarter samples: of each reference, the blocks row by row; none where no vector
  is allowed (R389). -/
  vectors : List (List (Option (Int × Int)))
deriving DecidableEq, Repr, Inhabited

/-- R364: a coded picture: its profile, its bit depth and QP, whether it is a key picture, its number, its input, its references and the
modes of its blocks, row by row. -/
structure CodedPicture where
  profile : VideoProfile
  depth : Nat
  qp : Nat
  key : Bool
  number : Nat
  input : Planes
  refs : List Planes
  modes : List BlockMode
deriving DecidableEq, Repr, Inhabited

/-- R363: decoding by the named standard. -/
opaque Config.decode : DecodeInput → Decoded

/-- R379: AV1: the offset of the next tile of the tile group, else of the next OBU, after a fault. -/
opaque Config.nextTile : DecodeInput → Nat → Option Nat

/-- R379: the luma samples, by raster index, that the data from an offset on gives, up to a second offset or to the picture's end. -/
opaque Config.samplesBetween : DecodeInput → Nat → Option Nat → List Nat

/-- R379: of a block of a reference: the luma samples, by raster index, whose prediction reads it, and the offset of the first; none where
no prediction does. -/
opaque Config.predictedFrom : DecodeInput → Nat × Nat → Option (Nat × List Nat)

/-- R370: the lines of near pasture that hold a 64 × 64 block of a picture in a pen's pool: by pen, stream, picture and block. -/
opaque Config.bufferLines : Nat → Nat → Nat → Nat → List Nat

/-- R376: AV1 film grain as the standard applies it to a picture's samples. -/
opaque Config.filmGrain : DecodeInput → Planes → Planes

/-- R372: the bytes of the first access unit or temporal unit, once the start of the next has been received. -/
opaque Config.unitEnd : Nat → List (Option (BitVec 8)) → Option Nat

/-- R366: the luma samples of the picture that a context and its data announce. -/
opaque Config.lumaSamples : Nat → Nat → List (Option (BitVec 8)) → Nat

/-- R387: the luma samples of a picture at 1/2 or 1/4 of its samples per axis; the manual does not say how they are formed. -/
opaque Config.scaledLuma : Nat → Planes → List Nat

/-- R387: the standard's sample of a reference at a position in quarter samples. -/
opaque Config.lumaAt : Nat → Planes → Int → Int → Nat

/-- R387: the vector-cost term fixed for each QP, of a vector in quarter samples. -/
opaque Config.vectorCost : Nat → Int → Int → Nat

/-- R389: how far the interpolation of a codec reads beyond a block, in luma samples. -/
opaque Config.filterReach : Nat → Nat

/-- R364: the encoder's choice for a block, by its number row by row: the reference it is predicted from, or none for intra form. -/
opaque Config.blockChoice : EncodeInput → Nat → Option Nat

/-- R364: the NAL units of H.265, or the OBUs of AV1 by type and payload, that the standard has for a coded picture. -/
opaque Config.nalUnits : CodedPicture → List (List (BitVec 8))
opaque Config.obus : CodedPicture → List (Nat × List (BitVec 8))

/-- R364: the picture that the standard's decoder gives for a coded picture. -/
opaque Config.reconstruct : CodedPicture → Planes

/-- R388: the QP of VBR, from BITRATE_KBPS, RATE_MHZ, the starting QP and the coded sizes so far. -/
opaque Config.vbrQp : Nat → Nat → Nat → List Nat → Nat

/-- R377: (Kr, Kb) in ten-thousandths of a signalled matrix that the manual does not name (log entry 61). -/
opaque Config.otherMatrix : Nat → Nat × Nat

/-- R283, R284, R286: the 240 bytes of slots of a CONTROL flit, which no rule gives: 0 for the grant of R286, 1 for a change of width
(log entry 150). -/
opaque Config.controlSlots : Nat → List Byte

/-- R15, Table 9.2: a byte of the Shepherd's working memory (commons bank 15), by the start of the firmware that keeps it there (log
entry 135) and by its place. -/
opaque Config.shepherdMemory : Nat → Nat → BitVec 8

end Sys2Proof
end

