-- ==== Sys2Proof/Machine/State.lean ====
section
/-! DEFINITION. Everything the manual gives the GW384 to remember, as plain data, and the machine right after a cold
reset.  Each field's docstring names its width, the rule that names it and its value at reset; a value that the
manual does not state is marked DESIGN CHOICE with its log entry. -/

namespace Sys2Proof.Machine

/-! ## Life cycle, presence, flash and update: the Sheepdog (chapter 19) -/

/-- R454: one of the eight owner slots of the fuses: the SHA-384 of the owner key and the revoke bit. -/
structure OwnerSlot where
  hash : Nat
  revoked : Bool
deriving DecidableEq, Repr

/-- Table 17.9: the state of a firmware image. -/
inductive ImageState where
  | empty | valid | invalid | active | pending | unconfirmed
deriving DecidableEq, Repr

/-- R469, Table 19.7: one copy of the boot control block: the fields of its bytes and the CRC stored with them; `ok` says that the
MAGIC and the CRC pass, which a page left indeterminate (R479) does not. -/
structure Bcb where
  ok : Bool
  crc : Word
  seq : Word
  boot : Nat
  confirmed : Nat
  staging : Bool
  settingsCur : Nat
  settingsPending : Bool
  states : List ImageState
  versions : List Word
  bytes : List Nat
deriving DecidableEq, Repr

/-- R469, Table 19.8: one copy of the identity block, as a BCB copy is held. -/
structure Identity where
  ok : Bool
  crc : Word
  seq : Word
  locked : Bool
  ret : Bool
  ownerLock : Bool
  transitions : Word
  sealCount : Word
  retired : List Nat
deriving DecidableEq, Repr

/-- R478, Table 19.9: one settings copy, its items decoded, with the CRC stored at the end of its block. -/
structure Settings where
  ok : Bool
  crc : Word
  formatVersion : Nat
  coord : B16
  extent : B16
  bellwether : B16
  deputy : B16
  placed : Bool
  thresh : Byte
  confirmMode : Nat
  powerLimit : Nat
deriving DecidableEq, Repr

/-- R471: the record types of the flash journal. -/
inductive JournalType where
  | eraseStart | eraseDone | programStart | programDone | resolved
deriving DecidableEq, Repr

/-- R471: one record of the flash journal, with the CRC stored in its last four bytes. -/
structure JournalRec where
  type : JournalType
  addr : Nat
  seq : Word
  crc : Word
deriving DecidableEq, Repr

/-- R472, R436: an open firmware update session; it lives in Sheepdog memory. -/
structure Session where
  number : Word
  imageBytes : Nat
  version : Word
  target : Nat
  accepted : Nat
  lastOffset : Nat
  lastData : List Byte
deriving DecidableEq, Repr

/-- R473: a flash or fuse write that the Sheepdog starts on its own and that waits for HOLDUP_OK. -/
inductive OwnWrite where
  | retire (phys : Nat)
  | unretire (phys : Nat)
  | sealCount
  | bcbFallback
  | bcbConfirm
  | bcbSelect (b : Bcb)
  | settings (x : Settings)
  /-- R478: the migrated settings, written into a copy. -/
  | settingsCopy (copy : Nat) (x : Settings)
  | identity
  | floor (value : Nat)
  /-- R476 step 4: the confirmation is complete. -/
  | confirmed
deriving DecidableEq, Repr

/-- The Sheepdog's fuses, flash and registers. -/
structure Sheepdog where
  /-- R454: the PROVISIONED fuse; 1 bit.  Reset: kept (Table 18.6); DESIGN CHOICE true, log entry 5. -/
  fuseProvisioned : Bool
  /-- R454: the DECOMMISSIONED fuse; 1 bit.  Reset: kept; DESIGN CHOICE false, log entry 5. -/
  fuseDecommissioned : Bool
  /-- R454: the owner slots programmed so far, at most 8, oldest first.  Reset: kept; DESIGN CHOICE none, log entry 5. -/
  ownerSlots : List OwnerSlot
  /-- R457: the revoke fuses of Salholt keys 0-3; 4 bits.  Reset: kept; DESIGN CHOICE none blown, log entry 5. -/
  salholtRevoked : List Bool
  /-- R466: the fused floor, 0-64.  Reset: kept; DESIGN CHOICE 0, log entry 5. -/
  floor : Nat
  /-- R415, Table 16.4: the fused serial number; 64 bits.  Reset: fuses; DESIGN CHOICE 0, log entry 5. -/
  serial : DWord
  /-- R454, Table 17.13: the life-cycle state derived at the last start, as its code 0-5.  Reset: DESIGN CHOICE 1
  PROVISIONED (the state as shipped, R453), log entry 5. -/
  lcState : Nat
  /-- R467: the flash density found through SFDP in MiB; 0 when the SFDP table is missing.  Reset: DESIGN CHOICE 128,
  log entry 5. -/
  flashMib : Nat
  /-- R468: the image regions, CRC tables and reserved areas of the flash as (address, byte) pairs; an unlisted
  address reads 0xFF (erased).  Reset: kept; DESIGN CHOICE nothing programmed, log entry 5. -/
  flash : List Host.Cell
  /-- R468: images (0, 1, 2 for recovery) whose regions still hold what Salholt programmed at provisioning.  The model
  does not hold their bytes.  Reset: kept; DESIGN CHOICE slot A and the recovery image, log entry 5. -/
  factory : List Nat
  /-- R469: the two BCB copies.  Reset: kept; DESIGN CHOICE one copy naming image 0 ACTIVE, log entry 5. -/
  bcb : List Bcb
  /-- R469: the two identity copies.  Reset: kept; DESIGN CHOICE flags clear, nothing retired, log entry 5. -/
  identity : List Identity
  /-- R478: the two settings copies.  Reset: kept; the defaults of Table 19.9. -/
  settings : List Settings
  /-- R471: the journal, oldest record first.  Reset: kept; DESIGN CHOICE empty, log entry 5. -/
  journal : List JournalRec
  /-- R471: the next SEQ of the journal; 32 bits.  Reset: DESIGN CHOICE 0, log entry 5. -/
  journalSeq : Word
  /-- R472: the sectors of the update target still to be erased in the background, ascending.  Reset: none. -/
  erasing : List Nat
  /-- R472: the open update session.  Reset: none (R436). -/
  session : Option Session
  /-- R472: the incrementing session counter; 32 bits.  Reset: DESIGN CHOICE 0, log entry 5. -/
  sessionCounter : Word
  /-- R473: the Sheepdog's own writes held back until HOLDUP_OK.  Reset: none. -/
  ownWrites : List OwnWrite
  /-- R464: index of the image that runs (0, 1, or 2 for recovery), if the Shepherd has been started.  Reset: none. -/
  running : Option Nat
  /-- R476: STAGE.FW_UNCONFIRMED; 1 bit.  Reset: 0. -/
  fwUnconfirmed : Bool
  /-- R476: the clock value at which the health timer started.  Reset: none. -/
  healthStart : Option Nat
  /-- R459: the clock value at which the open presence window expires.  Reset: none (closed). -/
  window : Option Nat
  /-- R459: a stuck press is being held; no window opens until the release.  Reset: 0. -/
  presenceStuck : Bool
  /-- R461, R508: the level driven on SEAL_SENSE_A; 1 bit.  Reset: 0, DESIGN CHOICE, log entry 6. -/
  sealA : Bool
  /-- R461: consecutive mismatches, 0-3.  Reset: 0. -/
  sealMiss : Nat
  /-- R461: the SEAL_BROKEN latch; 1 bit.  Reset: 0. -/
  sealBroken : Bool
  /-- R460, R508: LOCK_STRAP_N asserted at its last sample; 1 bit.  Reset: pin; the internal bias gives not asserted. -/
  strap : Bool
  /-- R473, R508: HOLDUP_OK at its last sample; 1 bit.  Reset: pin; the internal bias gives deasserted. -/
  holdup : Bool
  /-- R431, R432: the debug level 0-2.  Reset: 0. -/
  debugLevel : Nat
  /-- R80: retired Folds scheduled for self-test at the next cold reset.  Reset: none. -/
  retest : List Nat
deriving DecidableEq, Repr

/-! ## Bring-up, rails and resets (chapters 18 and 21) -/

/-- R443: the reset kinds that a device can be in the middle of. -/
inductive ResetKind where
  | cold | warm | controlComplex
deriving DecidableEq, Repr

/-- Stages, rails, pins and resets. -/
structure Boot where
  /-- Table 16.5 STAGE: 3 bits.  Reset: 0. -/
  stage : Nat
  /-- R508: level of RESET_N.  Reset: low, DESIGN CHOICE, log entry 7. -/
  resetN : Bool
  /-- R508: level of PERST_N.  Reset: low, DESIGN CHOICE, log entry 7. -/
  perstN : Bool
  /-- R505: the rails that are good.  Reset: VDD_AON and VDDIO_AON, DESIGN CHOICE, log entry 7. -/
  railsGood : List Rail
  /-- R440, R508: TRANSIT_EN; 1 bit.  Reset: 0 (held low). -/
  transitEn : Bool
  /-- R440, R508: HUB_EN; 1 bit.  Reset: 0. -/
  hubEn : Bool
  /-- R440, R508: FIELD_EN; 1 bit.  Reset: 0. -/
  fieldEn : Bool
  /-- R505: the device is in rail hold.  Reset: 0. -/
  railHold : Bool
  /-- R490: a hub fault has come since the hub was last rebuilt by a warm or cold reset.  Reset: 0. -/
  hubFaulted : Bool
  /-- R512: THERMTRIP_N asserted.  Reset: 0. -/
  thermtrip : Bool
  /-- R512: dies whose clocks the trip has stopped (0-3 field, 4 hub).  Reset: none. -/
  stoppedDies : List Nat
  /-- R440: the boot ROM has read the fuses.  Reset: 0. -/
  fusesRead : Bool
  /-- R437: the host link is up.  Reset: 0. -/
  linkUp : Bool
  /-- R392, Table 17.5 HOST_LINK: rate.  Reset: 64 GT/s, DESIGN CHOICE, log entry 7. -/
  linkRate : HostRate
  /-- R392, Table 17.5 HOST_LINK: width.  Reset: x16, DESIGN CHOICE, log entry 7. -/
  linkWidth : HostWidth
  /-- R392: flit mode.  Reset: 1, DESIGN CHOICE, log entry 7. -/
  linkFlit : Bool
  /-- R392: the modes that the partner and the channel allow, best not first, and whether the partner supports flit mode at every rate:
  what lies outside the device.  Reset: every mode of R392 and flit mode, DESIGN CHOICE, log entry 7. -/
  linkModes : List (HostRate × HostWidth)
  partnerFlit : Bool
  /-- R393: the owner function is in D3hot.  Reset: 0. -/
  d3hot : Bool
  /-- R443: the Shepherd runs (SCLK is not stopped).  Reset: 0. -/
  shepherdRuns : Bool
  /-- R357: the drain of a control-complex reset is in progress.  Reset: 0. -/
  ccDraining : Bool
  /-- R439: the stage that the control-complex reset in progress will return to.  Reset: 0. -/
  ccStage : Nat
  /-- R443: the reset in progress, from its trigger until its domain serves again.  Reset: none. -/
  resetting : Option ResetKind
  /-- R268: the device waits below 95 °C for a warm reset after a stack shutdown.  Reset: 0. -/
  thermalWait : Bool
  /-- Table 18.7 HOLD_AT_2; 1 bit, RWS.  Reset: 0. -/
  holdAt2 : Bool
  /-- Table 18.8 LAST; 4 bits.  Reset: the cold reset's own cause, 0 power-on. -/
  lastCause : Nat
  /-- Table 18.7: the cause of the last warm or cold reset, which HOLD_AT_2 and the self-test of R80 depend on; as LAST.
  Reset: 0 power-on. -/
  lastDeep : Nat
  /-- Table 18.8 CC_COUNT; 8 bits, saturating.  Reset: 0. -/
  ccCount : Nat
  /-- Table 18.8 WARM_COUNT; 8 bits, saturating.  Reset: 0. -/
  warmCount : Nat
  /-- Table 16.5 HEARTBEAT; 32 bits.  Reset: 0. -/
  heartbeat : Word
  /-- Table 16.5 COORDINATOR_LOST; 1 bit.  Reset: 0. -/
  coordinatorLost : Bool
  /-- R445: bytes of each expander's used capacity not yet overwritten after a reset, one per Talsen port.  Reset: 0 each. -/
  farUnwiped : List Nat
deriving DecidableEq, Repr

/-! ## Host link: BAR0 registers, mailboxes, MSI-X (chapter 16) -/

/-- R398, Table 16.6: one mailbox slot. -/
structure Mailbox where
  /-- MB_CTRL.GO as read; reset 0. -/
  go : Bool
  /-- MB_CTRL.DONE_IRQ; reset 0. -/
  irq : Bool
  /-- MB_STATUS.STATE: 0 IDLE, 1 BUSY, 2 DONE; reset 0. -/
  state : Nat
  /-- MB_STATUS.LAST_STATUS; 8 bits; reset 0. -/
  last : Byte
  /-- MB_REQ_LEN; 13 bits; reset 0. -/
  reqLen : Nat
  /-- MB_RSP_LEN; 13 bits; reset 0. -/
  rspLen : Nat
  /-- MB_EVT.DONE; reset 0. -/
  evt : Bool
  /-- Request area, 4,032 bytes from slot offset 0x0040, trailing zeros left out; reset zero (log entry 8). -/
  req : List Byte
  /-- Response area, 4,096 bytes from slot offset 0x1000, trailing zeros left out; reset zero (log entry 8). -/
  rsp : List Byte
  /-- R399: the request copied at the take, while STATE is BUSY. -/
  taken : List Byte
  /-- R407: an FLR arrived while BUSY, so the response will be discarded. -/
  discard : Bool
deriving DecidableEq, Repr

/-- R397: one MSI-X table entry and its pending bit. -/
structure MsixEntry where
  vector : Nat
  addr : DWord
  data : Word
  masked : Bool
  pending : Bool
deriving DecidableEq, Repr

/-- The registers of one function, 0 the owner, 1-8 the virtual functions. -/
structure FnRegs where
  /-- Table 16.5 HEALTH_EVT; 5 bits, W1C.  Reset: 0. -/
  healthEvt : BitVec 5
  /-- Table 16.5 HEALTH_MASK; 5 bits.  Reset: 0. -/
  healthMask : BitVec 5
  /-- Table 16.5 BAR4_WINDOW.PEN; 3 bits.  Reset: 0. -/
  winPen : Nat
  /-- Table 16.5 BAR4_WINDOW.ENABLE; 1 bit.  Reset: 0. -/
  winEnable : Bool
  /-- Table 16.5 BAR4_WINDOW.BASE; 27 bits, in 2 MiB units.  Reset: 0. -/
  winBase : Nat
  /-- R10: the held lower words of wide registers, as (offset, word).  Reset: none. -/
  heldLow : List (Nat × Word)
  /-- R397: the MSI-X table entries written so far; an unlisted vector is at its reset value.  Reset: none listed;
  every vector masked, DESIGN CHOICE, log entry 8. -/
  msix : List MsixEntry
deriving DecidableEq, Repr

/-- The endpoint's registers and slots, and the I3C port. -/
structure HostIf where
  /-- R395, Table 16.2: the owner function's BAR4 is 2^bar4Bits bytes, 28 to 39.  Reset: 28, 256 MiB. -/
  bar4Bits : Nat
  /-- The nine functions' registers. -/
  fns : List FnRegs
  /-- R398, R402: slots 0-3 of the owner function, then slot 0 of virtual functions 1-8. -/
  slots : List Mailbox
  /-- R402: the slot that the service core took last, from which its round goes on.  Reset: 11, so that slot 0 is first, DESIGN
  CHOICE, log entry 157. -/
  lastSlot : Nat
  /-- R463: the dynamic I3C address.  Reset: none. -/
  i3cAddr : Option (BitVec 7)
  /-- R463: the offset of the last private write or read.  Reset: 0, DESIGN CHOICE, log entry 9. -/
  i3cOffset : Nat
  /-- R339: the latched bits [63:32] of TIME_NOW, until they are read.  Reset: none. -/
  timeHigh : Option Word
  /-- R339: the latched EPOCH, until it is read.  Reset: none. -/
  timeEpoch : Option B16
deriving DecidableEq, Repr

/-! ## Folds (chapter 3) and operators in flight (chapters 4 to 7) -/

/-- Table 3.2 STATE. -/
inductive FoldState where
  | off | active | spare | failed | retired
deriving DecidableEq, Repr

/-- A value of a floating-point format: (−1)^neg × m × 2^e, an infinity or NaN.  A zero keeps its sign. -/
inductive Val where
  | nan
  | inf (neg : Bool)
  | fin (neg : Bool) (m : Nat) (e : Int)
deriving DecidableEq, Repr

/-- R65, R208: a chunk of a far copy, named by its tensor's handle and its far-chunk number. -/
structure ChunkId where
  handle : Word
  chunk : Nat
deriving DecidableEq, Repr

/-- R67, Table 3.6: a store or an accumulate-write of a task.  The address is a pen address. -/
inductive Effect where
  | store (addr : Nat) (bytes : List Byte)
  | acc (addr : Nat) (targetBf16 : Bool) (addend : Word)
  /-- A value of an output that is encoded whole: reference, element of the view, value. -/
  | stage (ref elem : Nat) (v : Val)
  /-- R152: a partial plane's store, at a device address of the partial pool. -/
  | plane (addr : Nat) (bytes : List Byte)
  /-- R127: the tensor scale of a BS4 tensor. -/
  | scale (addr : Nat) (bytes : List Byte)
deriving DecidableEq, Repr

/-- What one task computes: a tile of a GEMM or CONV, a range of output elements, an attention task, or one of the
passes of an attention backward. -/
inductive Tile where
  | matrix (batch rowLo rowHi colLo colHi kLo kHi seg : Nat) (last : Bool)
  | range (lo hi : Nat)
  | attn (pass seq head lo hi : Nat)
deriving DecidableEq, Repr

/-- R69, R162: where a task of an operator stands. -/
inductive TaskPhase where
  | waiting | running | held | done
deriving DecidableEq, Repr

/-- One task of an issued operator. -/
structure Task where
  tile : Tile
  phase : TaskPhase
  /-- R70: a reissued task receives only confirmed chunks. -/
  confirmedOnly : Bool
  /-- R154: the chain slot of a chain's tasks, while it holds one. -/
  chain : Option Nat
  /-- R162: the Fold on which the task was last placed. -/
  fold : Option Nat
  /-- R161: the gang that the task starts with, by the place its members share; none once the task runs alone. -/
  gang : Option (List Nat)
  /-- R76, R77: the failed Fold whose work the task is, once it has been reissued for it. -/
  redo : Option Nat
  /-- R150: the row group of a matrix task. -/
  group : Nat
  /-- R18, R75: what stood, by pen address, where a run on a Fold that failed had stored already: the rerun reads that. -/
  undo : List Host.Cell
deriving DecidableEq, Repr

/-- R85: an operator that has issued and not yet completed, or a descriptor run for a recipe. -/
structure Op where
  /-- The model's own number of the operator, in issue order. -/
  id : Nat
  pen : Nat
  queue : Nat
  index : Word
  desc : List Byte
  tasks : List Task
  flags : Byte
  discards : Nat
  recomputes : Nat
  issuedAt : Nat
  /-- R137: operators that a FENCE or LAYER_MARK waits for, by id. -/
  waitsFor : List Nat
  /-- R144: the tensor that a recipe run rebuilds; none for an operator of a ring. -/
  recipeFor : Option Word
  /-- R158: the role chosen by the plan: true when Ref 1 is stationary. -/
  ref1Stationary : Bool
  /-- R170: the page service has read the tables and made the task list; true for every other operator. -/
  served : Bool
  /-- R223: the outputs have their room, and R67: their residence has changed, which a provisional task does not cause. -/
  roomed : Bool
  opened : Bool
  /-- R87: the tensors that the operator reads and that another operator in flight with it writes: the values read are
  indeterminate. -/
  racy : List Nat
  /-- Element values staged for the outputs that are encoded whole: (reference, element of the view, value). -/
  staged : List (Nat × Nat × Val)
  /-- R189: the last task has written the frames of the compressed outputs. -/
  framed : Bool
  /-- R110: every effect has left; only the release is to come. -/
  closed : Bool
deriving DecidableEq, Repr

/-- R58, Table 3.4: an operand tile in its stored form, as a Fold buffer or the commons holds it: the bytes of the tensor by
pen address, and the base tile of a DLT operand by device address (R61). -/
structure Loaded where
  own : List Host.Cell
  base : List Host.Cell
deriving DecidableEq, Repr

/-- R150, R213: a stationary tile staged in commons banks 0-11 for the tasks of its block: its operator, the block's batch,
column tile, row group and segment, the tensor that it is a tile of, with the base of a DLT operand, and the tile. -/
structure StagedTile where
  op : Nat
  block : List Nat
  handles : List Nat
  tile : Loaded
deriving DecidableEq, Repr

/-- R59, R60, Table 3.2: one accumulator half of a Fold, with the halves of the stationary and the stream buffer and the
vector-scratch regions that serve its task. -/
structure AccHalf where
  /-- The operator and task held, HALFn_BUSY. -/
  busy : Option (Nat × Nat)
  /-- HALFn_PEN; 3 bits.  Reset 0. -/
  pen : Nat
  /-- R65: provisional chunks read and not yet resolved; HALFn_PROV when not empty. -/
  prov : List ChunkId
  /-- R60: the pen whose task used this half last. -/
  lastPen : Option Nat
  /-- R58: the stationary half: the resident operand of the task, once it has been loaded.  Reset: none. -/
  stationary : Option Loaded
  /-- Table 3.4: the stream half: the streamed operand of the task.  Reset: none. -/
  stream : Option Loaded
  /-- Table 3.4: accumulator entries of this half that are not zero-valued leftovers, in entry order. -/
  acc : List Word
  /-- Table 3.4, R67: vector scratch: the staged effects of the task, held until it is confirmed. -/
  scratch : List Effect
  /-- R67: status flags held with them. -/
  flags : Byte
  /-- R62: a decode fault held until the task resolves: its cause and the granule's pen address. -/
  fault : Option (Nat × Nat)
  /-- R351: the clock value at which the task was placed. -/
  started : Nat
deriving DecidableEq, Repr

/-- Table 3.2: one physical Fold. -/
structure Fold where
  state : FoldState
  half0 : AccHalf
  half1 : AccHalf
  /-- PROV_HIDDEN; 1 bit, W1C.  Reset 0. -/
  provHidden : Bool
  /-- R77, R81: the layer boundary of the failure has come, and the takeover that it opens has not ended. -/
  dueTakeover : Bool
deriving DecidableEq, Repr

/-- Table 3.1: one logical slot. -/
structure FoldSlot where
  /-- PHYS; 6 bits: local index 0-33. -/
  phys : Nat
  /-- STATE: 0 ACTIVE (true) or 1 EMPTY (false). -/
  active : Bool
  /-- TAKEOVERS; 8 bits, saturating.  Reset 0. -/
  takeovers : Nat
deriving DecidableEq, Repr

/-- R146: one cached plan: its tiling key, the stationary operand, the tile, the segments and the halo mode. -/
structure Plan where
  key : List Nat
  ref1Stationary : Bool
  rt : Nat
  ct : Nat
  kt : Nat
  nseg : Nat
  /-- R160: the halo mode: true for HALO_EXCHANGE. -/
  exchange : Bool
deriving DecidableEq, Repr

/-- The Fold array, the Shepherd's scheduler and its plan cache. -/
structure Compute where
  /-- R53: FOLD_SLOT 0-127.  Reset: fuse and retirement map; slot s maps to local index s (R52). -/
  slots : List FoldSlot
  /-- R53: FOLD_STATUS 0-135.  Reset: OFF (no stage powers them). -/
  folds : List Fold
  /-- R85: operators issued and not completed, oldest first.  Reset: none. -/
  ops : List Op
  /-- The next operator number.  The model's own; reset 0. -/
  nextOp : Nat
  /-- R146: the plan cache, most recent first, at most 2,048.  Reset: empty. -/
  plans : List Plan
  /-- R153: the chain slots taken, 0-255.  Reset: none. -/
  chains : List Nat
  /-- R213: the stationary tiles staged in the 96 MiB of commons banks 0-11.  Reset: none. -/
  staged : List StagedTile
  /-- R15, Table 9.2: the Shepherd's working memory, the 8 MiB of commons bank 15: zeros from the wipe of R445 (none), or what the
  firmware that runs keeps there, named by the free value drawn at its start (log entry 135).  Reset: none. -/
  bank15 : Option Nat
  /-- R350: the grazing pen served last.  Reset: 7, so that pen 0 is first, DESIGN CHOICE, log entry 10. -/
  lastGrazing : Nat
deriving DecidableEq, Repr

/-! ## Pens, tensors and the Drover (chapters 9 and 14) -/

/-- Table 9.4 RES. -/
inductive Res where
  | none | near | far | both | poisoned
deriving DecidableEq, Repr

/-- R208, R242: where one far chunk of a fetch stands.  A chunk that passed its check holds its bytes in transfer
staging until the fetch completes. -/
inductive FarChunk where
  | waiting
  | issued
  | confirmed (bytes : List Byte)
  | rejected
  | cancelled
deriving DecidableEq, Repr

/-- R215: a far copy: its stripe set, its size and its place on each port. -/
structure FarCopy where
  stripe : List Nat
  bytes : Nat
  place : List Nat
  /-- R205: the form was byte for byte the near form (an SPA container that was PACKED already). -/
  exact : Bool
deriving DecidableEq, Repr

/-- R222, R240: a fetch in flight. -/
structure Fetch where
  chunks : List FarChunk
  deadline : Nat
  /-- R240: a need switches at most once. -/
  switched : Bool
  /-- R243: a chunk of the copy was rejected. -/
  bad : Bool
deriving DecidableEq, Repr

/-- R230: a write-behind in flight: the far form read from the near copy, its stripe set, and whether it is the retry. -/
structure WriteBehind where
  form : List Byte
  stripe : List Nat
  place : List Nat
  exact : Bool
  retry : Bool
deriving DecidableEq, Repr

/-- R216, Tables 9.3 and 9.4: a tensor-table entry, with what the Drover keeps beside it. -/
structure Tensor where
  handle : Word
  fmt : Nat
  mx : Bool
  comp : Nat
  rank : Nat
  interleaved : Bool
  hostLoaded : Bool
  extents : List Nat
  strides : List Nat
  base : Word
  pinned : Bool
  /-- Table 9.3 RECIPE: index 0 for none, and the descriptors of R231. -/
  recipeIndex : Nat
  recipe : List (List Byte)
  /-- R218: ORIGIN and LOGICAL of the shard record. -/
  shard : Option (List Nat × List Nat)
  res : Res
  isBase : Bool
  /-- R249, R250: the base is lost. -/
  lost : Bool
  /-- Table 9.3 LAST_USE; 32 bits. -/
  lastUse : Word
  /-- R220: the start of the pen-address range. -/
  penAddr : Nat
  /-- R220, R228: the near allocation, none while empty: the pages of the range with their near pages.  They are in the pen's page
  table while the tensor has a near copy. -/
  room : List (Nat × Nat)
  /-- R226: the bytes of FAR_MAX reserved for the far form of an allocation above NEAR_MIN, 0 for none. -/
  farReserved : Nat
  /-- R221: the accounted size. -/
  accounted : Nat
  /-- R207: the near table; none marks an invalid entry. -/
  nearTable : List (Option Word)
  /-- R207: the far table. -/
  farTable : List (Option Word)
  far : Option FarCopy
  fetch : Option Fetch
  wb : Option WriteBehind
  /-- R230, R275: a write-behind that waits for near pasture to serve its read: its stripe set, and whether it is the retry. -/
  wbDue : Option (List Nat × Bool)
  /-- R198: the source of a DLT encode in progress. -/
  encodeFrom : Option Word
  /-- R239: the path of a need is "wait", since a deadline. -/
  waitUntil : Option Nat
  /-- R231: a recipe run for this tensor is in flight, at this descriptor. -/
  run : Option Nat
  /-- R232: the deadline of the need that the run serves. -/
  runBy : Nat
  /-- R435: held by CHECKPOINT_DRAIN. -/
  held : Bool
  /-- R251: released; its copies go when the operators that reference it have completed. -/
  released : Bool
  /-- R229: an allocation for this tensor is waiting for room. -/
  allocWait : Bool
  /-- R233: its contents are dead, and its copies go once no operator uses it. -/
  dead : Bool
deriving DecidableEq, Repr

/-- R219: a view entry. -/
structure View where
  number : Nat
  extents : List Nat
  strides : List Nat
deriving DecidableEq, Repr

/-- R233, Table 9.7: a point of an itinerary, with its needs (handle, kind). -/
structure Point where
  layer : Nat
  phase : Nat
  microBatch : Nat
  needs : List (Word × Nat)
  durationUs : Nat
deriving DecidableEq, Repr

/-- R233: an itinerary as the Drover keeps it. -/
structure Itinerary where
  lookahead : Nat
  points : List Point
  bytes : Nat
deriving DecidableEq, Repr

/-- R322, Table 13.1: the placement record of a pen's job. -/
structure Placement where
  expertGroup : Nat
  cutMap : B16
  lextent : B16
  lcoord : B16
  jobKey : B16
  watchdogMs : Nat
  generation : Word
  spare : DWord
  checkpointId : DWord
deriving DecidableEq, Repr

/-- Table 14.1. -/
inductive PenState where
  | empty | ready | running | quiescing | quiesced | faulted | wiping
deriving DecidableEq, Repr

/-- R416: the last RECOVERY packet received for a job. -/
structure RecoveryReport where
  phase : Nat
  status : Nat
  generation : Word
  subs : List (B16 × B16)
deriving DecidableEq, Repr

/-- R342, Table 13.4: a FAULT_NOTICE that is sent again until it is answered. -/
structure Notice where
  key : B16
  generation : Word
  cause : Nat
  suspect : B16
deriving DecidableEq, Repr

/-- One of the eight pens. -/
structure Pen where
  /-- R345.  Reset: EMPTY. -/
  state : PenState
  /-- R349: GRAZING class.  Reset: PRIMARY. -/
  grazing : Bool
  /-- R348: the bound virtual function, 0 for none.  Reset: 0. -/
  vf : Nat
  /-- R224: NEAR_MIN in bytes.  Reset: 0. -/
  nearMin : Nat
  /-- R224: FAR_MAX in bytes.  Reset: 0. -/
  farMax : Nat
  /-- R108: the 65,536 signal counters of 64 bits; an unlisted counter is zero.  Reset: all zero. -/
  counters : List (Nat × DWord)
  /-- R312: JOB_KEY; 16 bits.  Reset: 0. -/
  jobKey : B16
  /-- R322: the placement record of the pen's last job; an abort keeps it (R416).  Reset: none. -/
  placement : Option Placement
  /-- R416: JOB_STATUS keeps SPARES_EXHAUSTED until the next JOB_SUBMIT.  Reset: 0. -/
  jobStatus : Nat
  /-- R216: the tensor table.  Reset: empty. -/
  tensors : List Tensor
  /-- R219: the view table.  Reset: empty. -/
  views : List View
  /-- R353: the page table as (pen page, near page).  Reset: empty. -/
  pages : List (Nat × Nat)
  /-- R220: the next pen address to give out.  Reset: 0x20_0000 (pen page 0 is never mapped), DESIGN CHOICE, log entry 11. -/
  nextAddr : Nat
  /-- R221: the small-tensor page being filled, and its next 64 KiB lot.  Reset: none. -/
  smallPage : Option (Nat × Nat)
  /-- R419: the next recipe index.  Reset: 1, DESIGN CHOICE, log entry 11. -/
  nextRecipe : Nat
  /-- R234: the itinerary in force.  Reset: none. -/
  itinerary : Option Itinerary
  /-- R234: an itinerary waiting for its point-0 mark.  Reset: none. -/
  pendingItin : Option Itinerary
  /-- R235: demand mode.  Reset: 1 (no itinerary). -/
  demand : Bool
  /-- R235: the point the Drover expects next.  Reset: 0. -/
  expect : Nat
  /-- R237: completion time of the latest matched mark.  Reset: 0. -/
  lastMark : Nat
  /-- R237: a mark of the itinerary in force has been matched, so that the time to the next one is a measurement.  Reset: 0. -/
  marked : Bool
  /-- R237: measured durations by point, ns.  Reset: none. -/
  measured : List (Nat × Nat)
  /-- R369: COUNT and BUFFER_BYTES of the frame-buffer pool.  Reset: none. -/
  pool : Option (Nat × Nat)
  /-- R355: the Drover's quiesced handling applies (R251).  Reset: 0. -/
  drained : Bool
  /-- R334, R342: a JOIN is outstanding.  Reset: 0. -/
  joining : Bool
  /-- R334, R342: the FAULT_NOTICEs not answered yet.  Reset: none. -/
  notices : List Notice
deriving DecidableEq, Repr

/-- The Drover's device-wide records. -/
structure Drover where
  /-- R247: registered bases, with pen field 0 and index 0x1000_0000 + n. -/
  bases : List (Nat × Tensor)
  /-- R214, R353: near pages (2 MiB) of the pool in use.  Reset: none. -/
  nearUsed : List Nat
  /-- R406: far capacity fixed at stage 4, bytes.  Reset: 0. -/
  farCapacity : Nat
  /-- R66: CONFIRM (true) and REJECT (false) messages sent and not yet received by the Folds.  Reset: none. -/
  verdicts : List (ChunkId × Bool)
  /-- R249: (base number, pen) for each pen that takes BASE_POISON at its next read of the base.  Reset: none. -/
  basePens : List (Nat × Nat)
deriving DecidableEq, Repr

/-! ## Talsen ports (chapter 16) -/

/-- R423: STATE of a Talsen record. -/
inductive TalsenState where
  | down | training | up | unused
deriving DecidableEq, Repr

/-- One Talsen port. -/
structure Talsen where
  /-- Reset: DOWN. -/
  state : TalsenState
  /-- R404: true at 32 GT/s.  Reset: 0. -/
  rate32 : Bool
  /-- R404: true at x8.  Reset: 0. -/
  width8 : Bool
  /-- R244: a planned relink is in progress.  Reset: 0. -/
  relinking : Bool
  /-- R405: the failed row of Table 16.9, 0 for none.  Reset: 0. -/
  failed : Nat
  /-- R406: serial number of the expander enumerated at stage 4.  Reset: none. -/
  serial : Option DWord
  /-- R405: used capacity, MiB.  Reset: 0. -/
  usedMib : Nat
  /-- R406: the port has passed 1,000 corrected errors in 60 s and waits for its relink.  Reset: 0. -/
  relinkDue : Bool
  /-- R406: the clock values of the corrected errors of the last 60 s.  Reset: none. -/
  corrected : List Nat
deriving DecidableEq, Repr

/-! ## Near pasture (chapter 10) -/

/-- R256: an entry of the write-combining buffer: its line, its masked bytes, the source and class of the write that opened it, and
every source that has data in it; and the class of a flush that is due and waits for the entry's stack. -/
structure WcEntry where
  line : Nat
  bytes : List (Nat × Byte)
  source : NpSource
  cls : NpClass
  writers : List NpSource
  due : Option NpClass
deriving DecidableEq, Repr

/-- What a waiting near-pasture request will do when it is served. -/
inductive NpKind where
  | read (addr len : Nat)
  | write (addr : Nat) (bytes : List Byte)
  | acc (addr : Nat) (targetBf16 addendBf16 : Bool) (addends : List (Option Word))
  /-- R257: the flush of a line's entry, ahead of an accumulate-write that waits. -/
  | merge (line : Nat) (bytes : List (Nat × Byte))
  /-- R383: a read of the video engine; what waits for it takes the bytes once nothing holds the read. -/
  | fetch (addr len : Nat)
deriving DecidableEq, Repr

/-- R264, R265: a request waiting at its pseudo-channel. -/
structure NpReq where
  kind : NpKind
  source : NpSource
  cls : NpClass
  urgent : Bool
deriving DecidableEq, Repr

/-- Table 10.4: one stack. -/
structure Stack where
  /-- R253: trained.  Reset: 0. -/
  trained : Bool
  /-- R268: powered.  Reset: 0. -/
  powered : Bool
  /-- TEMP; 8 bits.  Reset: 0. -/
  temp : Nat
  /-- TSTATE: 0 Normal, 1 Warm, 2 Hot, 3 Critical, 4 Shutdown.  Reset: 0. -/
  tstate : Nat
  /-- SLOW; 1 bit.  Reset: 0. -/
  slow : Bool
  /-- MAX_TEMP; 8 bits, RWS.  Reset: 0. -/
  maxTemp : Nat
deriving DecidableEq, Repr

/-- R274: a pseudo-channel group: the temperature at its last training, whether a retraining is due, and (R273) the clock values of
its corrected sectors of the last 60 s. -/
structure PcGroup where
  trainedTemp : Nat
  due : Bool
  corrected : List Nat
deriving DecidableEq, Repr

/-- R6: device addresses `lo` to `hi` − 1, which hold no determinate value; `seed` tells one time from another. -/
structure Loose where
  lo : Nat
  hi : Nat
  seed : Nat
deriving DecidableEq, Repr

/-- Near pasture and its controllers. -/
structure NearMem where
  /-- R252, R255: the 384 GiB of near pasture as (device address, byte); an unlisted byte reads 0 (R273).  Reset: none listed. -/
  mem : List Host.Cell
  /-- R6: the bytes that are indeterminate until they are written, of which `mem` lists none (log entry 33).  Reset: none. -/
  loose : List Loose
  /-- R271: poisoned lines, by line address, ascending.  Reset: none (R273). -/
  poison : List Nat
  /-- R256: the write-combining buffer, oldest entry first.  Reset: empty. -/
  wc : List WcEntry
  /-- R264, R275: requests waiting at their pseudo-channels, oldest first.  Reset: none. -/
  waiting : List NpReq
  /-- Table 10.2 THRESH; 8 bits.  Reset: 0x08. -/
  thresh : Byte
  /-- The eight stacks. -/
  stackList : List Stack
  /-- R274: the 64 pseudo-channel groups, group 8 × stack + g. -/
  groups : List PcGroup
  /-- R274: the group being retrained.  Reset: none. -/
  retraining : Option Nat
  /-- R274: clock value at which the last window began.  Reset: none. -/
  lastWindow : Option Nat
deriving DecidableEq, Repr

/-! ## Virwezen fabric (chapter 11) -/

/-- R290: a packet: its bytes, header first. -/
abbrev Packet := List Byte

/-- R285: a flit kept in the replay buffer: its FSEQ, its 256 bytes, and whether a packet starts in its first slot. -/
structure SentFlit where
  fseq : Nat
  bytes : List Byte
  start : Bool
deriving DecidableEq, Repr

/-- Table 11.6 LSTATE. -/
inductive LinkState where
  | down | training | up | disabled
deriving DecidableEq, Repr

/-- R289: a packet of which an output port has sent some flits: the input and its class, the packet as the input holds it and as it
leaves, the bytes still to send, the number of its first flit, and whether the input still holds it (it does not once its port has gone
DOWN). -/
structure Sending where
  input : Nat
  cls : Nat
  packet : Packet
  out : Packet
  left : List Byte
  first : Nat
  alive : Bool
deriving DecidableEq, Repr

/-- One fabric port. -/
structure Port where
  /-- LSTATE; 2 bits.  Reset: DOWN. -/
  lstate : LinkState
  /-- WIDTH: 0 x8, 1 x4, 2 x2.  Reset: 0. -/
  width : Nat
  /-- R281: the lowest lane of the width.  Reset: 0. -/
  laneLo : Nat
  /-- RATE: true at 106.25 Gb/s.  Reset: 0. -/
  slowRate : Bool
  /-- FEC: true for SL.  Reset: 0. -/
  sl : Bool
  /-- R281: both ends permit SL.  Reset: 0. -/
  slPermitted : Bool
  /-- PEER_VALID.  Reset: 0. -/
  peerValid : Bool
  /-- LANE_GOOD; 8 bits.  Reset: 0. -/
  laneGood : Byte
  /-- PEER_PORT; 3 bits.  Reset: 0. -/
  peerPort : Nat
  /-- RETRAINS; 8 bits, saturating.  Reset: 0. -/
  retrains : Nat
  /-- PEER_COORD; 16 bits.  Reset: 0. -/
  peerCoord : B16
  /-- R281: failed negotiations in a row.  Reset: 0. -/
  failures : Nat
  /-- R285: FSEQ of the next flit to send; 12 bits.  Reset: 0. -/
  txSeq : Nat
  /-- R285: FSEQ expected of the next flit received; 12 bits.  Reset: 0. -/
  rxSeq : Nat
  /-- R285: the clock value at which the NAK was sent whose replay is awaited.  Reset: none. -/
  nakSent : Option Nat
  /-- R285: the replay buffer, oldest first, at most 512.  Reset: empty. -/
  replay : List SentFlit
  /-- R287: consecutive replays of the oldest flit.  Reset: 0. -/
  replays : Nat
  /-- R286: credits held for the eight classes.  Reset: 0 each. -/
  credits : List Nat
  /-- R284: flit buffers freed since the last report, by class.  Reset: 0 each. -/
  freed : List Nat
  /-- R284, R286: the slots still taken in each flit buffer of a class that is not free, oldest first.  Reset: empty each. -/
  held : List (List Nat)
  /-- R284, R286: received slots of each class not yet made into packets.  Reset: empty each. -/
  partials : List (List Byte)
  /-- R286: packets held in the receive buffers, by class.  Reset: empty each. -/
  buffers : List (List Packet)
  /-- R336: one-way delay of the link, ns.  Reset: 0. -/
  delay : Nat
  /-- R267: SLOW is in force from the neighbour on this port.  Reset: 0. -/
  slow : Bool
  /-- R281: the port has negotiated since the cold reset, so that a further negotiation is a restart.  Reset: 0. -/
  trained : Bool
  /-- R289: flits of other channels that VC3 still has to let pass.  Reset: 0. -/
  vc3Wait : Nat
  /-- R289: the last of VC0 to VC2 served.  Reset: 2, so that VC0 is first, DESIGN CHOICE, log entry 133. -/
  lastVc : Nat
  /-- R289: the input last served, by virtual channel.  Reset: 8 each, so that input 0 is first, DESIGN CHOICE, log entry 133. -/
  lastInput : List Nat
  /-- R289: the packet whose flits the port is sending, by virtual channel.  Reset: none each. -/
  sending : List (Option Sending)
deriving DecidableEq, Repr

/-- Table 11.7 FAB_RING, one axis. -/
structure Ring where
  breaks : List Nat
deriving DecidableEq, Repr

/-- R297, R422: a topology that waits for its drain, and the mailbox slot to answer. -/
structure TopoChange where
  coord : B16
  extent : B16
  bellwether : B16
  deputy : B16
  placed : Bool
  slot : Option Nat
deriving DecidableEq, Repr

/-- The transit plane. -/
structure Fabric where
  /-- The eight ports. -/
  ports : List Port
  /-- FAB_TOPO COORD; 16 bits, RWS.  Reset: settings. -/
  coord : B16
  /-- FAB_TOPO EXTENT; 16 bits, RWS.  Reset: settings. -/
  extent : B16
  /-- FAB_TOPO PLACED; 1 bit, RWS.  Reset: settings. -/
  placed : Bool
  /-- FAB_TOPO TRANSIT_ONLY; 1 bit, RWS.  Reset: 0. -/
  transitOnly : Bool
  /-- FAB_TOPO ROUTE_EPOCH; 8 bits.  Reset: 0. -/
  routeEpoch : Nat
  /-- FAB_RING: the known breaks of each axis's ring, ascending.  Reset: none. -/
  rings : List Ring
  /-- R297: Bellwether's coordinate.  Reset: settings. -/
  bellwether : B16
  /-- R297: deputy's coordinate.  Reset: settings. -/
  deputy : B16
  /-- R294: packets waiting at the injection port, oldest first.  Reset: none. -/
  inject : List Packet
  /-- R294: packets ejected to the hub or kept for the transit plane itself, with the port they came by (8 for local).
  Reset: none. -/
  ejected : List (Nat × Packet)
  /-- R297: a topology drain is in progress.  Reset: none. -/
  draining : Option TopoChange
deriving DecidableEq, Repr

/-! ## Queues and remote operations (chapter 12) -/

/-- Table 12.1. -/
inductive QType where
  | free | opr | rop | cpl | vid
deriving DecidableEq, Repr

/-- R300, Tables 12.2 and 12.3: a queue context. -/
structure Queue where
  id : Nat
  type : QType
  pen : Nat
  enabled : Bool
  halted : Bool
  log2 : Nat
  cplHost : Bool
  cplIrq : Bool
  routeHold : Bool
  ringAddr : Nat
  head : Word
  tail : Word
  cplQid : Word
  expectSeq : Word
  irqVector : Nat
  timeoutUs : Nat
  maxOut : Nat
  out : Nat
  haltInfo : Word
  taken : DWord
  /-- R299: QUEUE_DESTROY or an abort waits for the operations in flight. -/
  dying : Bool
  /-- R305: completion entries waiting for room, oldest first: (KIND, source queue, payload). -/
  waitingCpl : List (Nat × Nat × List Byte)
deriving DecidableEq, Repr

/-- R309, R316: where one fragment of an operation stands at its source. -/
inductive FragState where
  | inFlight | answered | refused
  /-- Injected again after a refusal. -/
  | again
deriving DecidableEq, Repr

/-- R310: a remote operation in flight at its source. -/
structure RopOp where
  queue : Nat
  pen : Nat
  index : Word
  desc : List Byte
  frags : List FragState
  /-- R309, R320: the packets of the fragments, formed when the descriptor was taken. -/
  packets : List Packet
  /-- R316: ROUTE_EPOCH at the first injection. -/
  epoch : Nat
  /-- R311: not yet injected: waiting for earlier operations. -/
  waiting : Bool
  /-- R318: some data was poisoned. -/
  poison : Bool
  /-- Status kept for the completion (0 OK). -/
  status : Nat
  /-- R321: the pen has been aborted; completions and increments are dropped. -/
  dropped : Bool
  /-- R257, R321: the operation has succeeded with this result, and its release waits for near pasture. -/
  due : Option Nat
deriving DecidableEq, Repr

/-- R309: per-tag state of an operation open at this destination. -/
structure OpenOp where
  src : B16
  tag : Word
  /-- Fragments that have arrived. -/
  arrived : Nat
  /-- Fragments that have been applied. -/
  applied : Nat
  total : Option Nat
  rsig : Option Nat
  pen : Nat
  status : Nat
  /-- Header and operation of the fragment that arrived last. -/
  head : List Byte
deriving DecidableEq, Repr

/-- The queue engine. -/
structure QueueEngine where
  /-- R300: the contexts that are not FREE, ascending by id.  Reset: none. -/
  queues : List Queue
  /-- R310: operations in flight, in taking order.  Reset: none. -/
  rops : List RopOp
  /-- R309: operations open at this destination.  Reset: none. -/
  opens : List OpenOp
  /-- R321: GET, ATOMIC and SIGNAL requests that wait for near pasture, in order of arrival.  Reset: none. -/
  held : List Packet
deriving DecidableEq, Repr

/-! ## Time and coordination (chapter 13) -/

/-- R335 to R339: the time unit. -/
structure TimeUnit where
  /-- The model's own clock: nanoseconds since power was applied.  Reset: 0 (log entry 2). -/
  clock : Nat
  /-- R335: device time; 64 bits.  Reset: 0. -/
  now : DWord
  /-- R335: the epoch; 16 bits.  Reset: 0. -/
  epoch : B16
  /-- R337, R338: the rate correction in force, parts per billion.  Reset: 0. -/
  ratePpb : Int
  /-- R338: at the master, the nanoseconds still to be slewed out, after which the correction ends; none for a
  correction that lasts until it is changed.  Reset: none. -/
  slewLeft : Option Int
  /-- R337: fraction of a nanosecond carried, parts per billion.  Reset: 0. -/
  frac : Int
  /-- Table 13.6 ROLE: 0 UNPLACED, 1 MASTER, 2 FOLLOWER, 3 HOLDOVER.  Reset: 0. -/
  role : Nat
  /-- Table 13.6 SYNCED.  Reset: 0. -/
  synced : Bool
  /-- R339: consecutive TIME_SYNC with an offset below 1 µs.  Reset: 0. -/
  goodSyncs : Nat
  /-- Table 13.6 PARENT_PORT; 3 bits.  Reset: 0. -/
  parentPort : Nat
  /-- Table 13.6 OFFSET; 24 bits, two's complement, saturating.  Reset: 0. -/
  offset : Int
  /-- R334, R337: the offset of the last TIME_SYNC, in ns, as EPOCH_REQ carries it.  Reset: 0. -/
  measured : Int
  /-- R334: sync number of the next TIME_SYNC.  Reset: 0. -/
  syncNumber : B16
  /-- R338: the master's source is HOST.  Reset: FREE. -/
  hostSource : Bool
  /-- R337: an EPOCH_REQ is outstanding.  Reset: 0. -/
  epochReq : Bool
deriving DecidableEq, Repr

/-- Table 13.7. -/
inductive RecPhase where
  | forming | running | collect | halt | plan | restart | stopped
deriving DecidableEq, Repr

/-- R342: a member of a job in the coordinator's job table. -/
structure Member where
  coord : B16
  lcoord : B16
  /-- A JOIN of the job's current generation has come. -/
  joined : Bool
  /-- The last RECOVERY sent has been acknowledged. -/
  acked : Bool
  failed : Bool
deriving DecidableEq, Repr

/-- R332, R342: a job as the coordinator (or the deputy) holds it. -/
structure Job where
  key : B16
  lextent : B16
  members : List Member
  phase : RecPhase
  generation : Word
  /-- R344: notices counted once per member and cause. -/
  notices : List (B16 × Nat)
  subs : List (B16 × B16)
deriving DecidableEq, Repr

/-- The Bellwether's, the deputy's and the member's coordination state. -/
structure Coord where
  /-- R332: the job table.  Reset: empty. -/
  jobs : List Job
  /-- R332: a PROBE is outstanding.  Reset: 0. -/
  probing : Bool
  /-- R331, R341: coordinates known to be unplaced or in transit-only mode.  Reset: none. -/
  unusable : List B16
  /-- R322, R416: by JOB_KEY, the last RECOVERY packet received.  Reset: none. -/
  reports : List (B16 × RecoveryReport)
deriving DecidableEq, Repr

/-! ## Video engine (chapter 15) -/

/-- R367, Table 15.3: the stream record. -/
structure StreamRec where
  encode : Bool
  codec : Nat
  cls : Nat
  filmGrain : Bool
  hashCheck : Bool
  refresh : Bool
  queue : Nat
  maxW : Nat
  maxH : Nat
  depth : Nat
  reserve : Nat
  starveMs : Nat
  deadlineUs : Nat
  vbr : Bool
  qp : Nat
  keyInterval : Nat
  refreshPeriod : Nat
  refs : Nat
  bitrateKbps : Nat
  rateMhz : Nat
deriving DecidableEq, Repr

/-- A decoded or reconstructed picture in the pool: its number in decode order, its samples, the samples that are output with the
rectangle of them that the standard outputs (R376), and the marks REF and OUT of R370. -/
structure Picture where
  number : Nat
  planes : Planes
  shown : Planes
  window : Nat × Nat × Nat × Nat
  ref : Bool
  out : Bool
  outNumber : Nat
  /-- Table 15.10: PTS of the DATA entry that holds the picture's first byte. -/
  pts : DWord
  /-- R385. -/
  late : Bool
  /-- R389: encode: the luma columns of its refreshed region. -/
  fresh : Nat
deriving DecidableEq, Repr

/-- Bitstream bytes that one DATA entry supplied (none for a poisoned byte), the entry, and whether it carries END. -/
structure DataPiece where
  bytes : List (Option Byte)
  entry : List Byte
  ends : Bool
deriving DecidableEq, Repr

/-- A picture's work: the bitstream bytes of a picture to decode and their offset in the stream, or the entry of one to
encode. -/
structure PicWork where
  /-- Decode: the bitstream bytes; encode: empty. -/
  data : List (Option Byte)
  /-- Decode: the byte offset of the picture in the bitstream. -/
  offset : Nat
  /-- The VID entry: of the DATA that holds the first byte, or the ENCODE. -/
  entry : List Byte
  /-- R366: luma samples. -/
  samples : Nat
  /-- R384: when the picture became ready. -/
  readyAt : Nat
  /-- R382: an encode picture whose core was reset: it goes on the next free encode core. -/
  redo : Bool
deriving DecidableEq, Repr

/-- One open stream. -/
structure Stream where
  number : Nat
  pen : Nat
  conf : StreamRec
  /-- Decode: bitstream bytes received and not yet made into a ready picture, oldest first. -/
  pieces : List DataPiece
  /-- Decode: the byte offset of the first of them. -/
  offset : Nat
  /-- Encode: the ENCODE entries waiting, oldest first. -/
  work : List (List Byte)
  /-- R372, R384: the picture that is ready and not yet on a core; it holds its buffer (mark CUR). -/
  ready : Option PicWork
  /-- R370: the pictures in the pool that carry a mark. -/
  pictures : List Picture
  /-- R372: OUTPUT entries waiting, in order. -/
  outputs : List (List Byte)
  /-- R372: a FLUSH waits for the remaining work. -/
  flush : Option (List Byte)
  /-- R366: the decoder's context: parameter sets and the state of the standard. -/
  context : Nat
  /-- R372: pictures below this place in output order may be output. -/
  outUpTo : Nat
  nextPicture : Nat
  /-- R388: the QP of the last picture, and the coded sizes so far, oldest first. -/
  qp : Nat
  sizes : List Nat
  /-- R389: pictures since the last key picture, none before the first; and the next band of the sweep. -/
  sinceKey : Option Nat
  band : Nat
  /-- R379: decode: pictures are skipped until the next random-access point with valid parameters: the cause, the byte offset of the
  fault in the bitstream, the DATA entry, and the pictures skipped so far. -/
  skipping : Option (Nat × Nat × List Byte × Nat)
  /-- R391: an entry of the stream that has not completed, and an entry of another stream that wrote a part of its output meanwhile. -/
  clashes : List (List Byte × List Byte)
  /-- R368: closing with its queue; and the mailbox slots of the VIDEO_STREAM_CLOSE commands that wait for its end. -/
  closing : Bool
  closeSlots : List Nat
deriving DecidableEq, Repr

/-- One of the six cores. -/
structure VideoCore where
  /-- R366: the stream and the picture on the core (mark CUR). -/
  busy : Option (Nat × PicWork)
  /-- R382: in core reset. -/
  inReset : Bool
  /-- R391: the reset waits for another core's. -/
  resetQueued : Bool
deriving DecidableEq, Repr

/-- R391: an increment or an event that is released after the Shepherd restarts. -/
inductive VideoAct where
  | signal (pen counter : Nat)
  | event (cpl queue : Nat) (payload : List Byte)
deriving DecidableEq, Repr

/-- The video engine. -/
structure Video where
  /-- R366: cores 0-3 decode, 4-5 encode.  Reset: idle. -/
  cores : List VideoCore
  /-- R367: open streams, by context number.  Reset: none. -/
  streams : List Stream
  /-- R391: increments and events held while the Shepherd is stopped, oldest first.  Reset: none. -/
  deferred : List VideoAct
deriving DecidableEq, Repr

/-! ## Faults, Tally and power (chapter 20) -/

/-- R484. -/
inductive Severity where
  | corrected | deferred | uncontained
deriving DecidableEq, Repr

/-- R483, Tables 20.2 and 20.3: a fault record. -/
structure FaultRec where
  code : Nat
  severity : Severity
  more : Bool
  penValid : Bool
  addrValid : Bool
  count : Word
  addr : DWord
  info : BitVec 128
  time : DWord
  epoch : B16
  pen : Nat
  unit : Nat
  lastTime : DWord
  lastEpoch : B16
deriving DecidableEq, Repr

/-- R482, R485: a bank: its records (none for a free record) and LOST. -/
structure FaultBank where
  records : List (Option FaultRec)
  lost : Word
deriving DecidableEq, Repr

/-- R496: the Tally shadow. -/
structure Shadow where
  snapEpoch : Word
  time : DWord
  epoch : B16
  items : List DWord
deriving DecidableEq, Repr

/-- Table 17.5 FCLK_POINT. -/
inductive FclkPoint where
  | nominal | boost | efficiency | reduced
deriving DecidableEq, Repr

/-- R498 to R501: power measurement and the capping loop. -/
structure Power where
  /-- R498: the limit in force, W.  Reset: the POWER_LIMIT settings item, 1,200. -/
  limit : Nat
  /-- R499: the operating point.  Reset: reduced. -/
  point : FclkPoint
  /-- R499: the issue duty D, 4-16.  Reset: 16. -/
  duty : Nat
  /-- R501: the brake is asserted.  Reset: 0. -/
  brake : Bool
  /-- R500.  Reset: 0. -/
  unmetMs : Nat
  /-- R500: POWER_LIMIT_UNMET has been logged since power last fell within the limit.  Reset: 0. -/
  unmetLogged : Bool
  /-- R500: clock values of the last over-limit iteration and the last raise.  Reset: 0. -/
  lastOver : Nat
  lastRaise : Nat
  /-- R498: the measurements of the last second, mW, newest first, at most 10,000.  Reset: none. -/
  samples : List Nat
  /-- Table 20.6 ENERGY_MJ: the part below 1 mJ, in units of 0.1 µJ.  Reset: 0. -/
  energyRest : Nat
  /-- R510: temperatures of field dies 0-3 and the hub die, °C.  Reset: 0 each, DESIGN CHOICE, log entry 12. -/
  dieTemps : List Nat
deriving DecidableEq, Repr

/-- Faults, counters and power. -/
structure Health where
  /-- R482: the sixteen banks.  Reset: empty (power-on). -/
  banks : List FaultBank
  /-- R492: the counters of Table 20.6 by item; gauges' places hold zero.  Reset: zero. -/
  counters : List DWord
  /-- R496: the shadow.  Reset: zero. -/
  shadow : Shadow
  /-- R493: SNAP_EPOCH; 32 bits.  Reset: 0. -/
  snapEpoch : Word
  /-- R494: the pending snapshot: EPOCH, TIME and the mailbox slot to answer.  Reset: none. -/
  snapshot : Option (B16 × DWord × Option Nat)
  power : Power
deriving DecidableEq, Repr

/-! ## What leaves the device, and the whole machine -/

/-- What a command sends across the device's boundary or returns to its sender. -/
inductive Output where
  /-- R397: an MSI-X message of a function. -/
  | msix (fn vector : Nat) (addr : DWord) (data : Word)
  /-- The data of a read, and whether it carries the poisoned indication (R271). -/
  | readData (bytes : List Byte) (poisoned : Bool)
  /-- R285: a flit sent on a port. -/
  | flit (port : Nat) (bytes : List Byte)
  /-- R305: a completion entry written to host memory by DMA, with its requester function; R392: whether the write may use relaxed
  ordering. -/
  | dma (fn : Nat) (addr : Nat) (bytes : List Byte) (relaxed : Bool)
  /-- R230, R247, R360: far bytes written through a Talsen port. -/
  | farWrite (port : Nat) (addr : Nat) (bytes : List Byte)
  /-- R242: the read of one far chunk issued to a port. -/
  | farRead (port : Nat) (addr : Nat) (len : Nat)
  /-- R360, R445: far bytes overwritten with zeros. -/
  | farZero (port : Nat) (addr : Nat) (len : Nat)
  /-- R463: the answer to a CCC. -/
  | i3c (bytes : List Byte)
  /-- R393: the D3hot request was refused. -/
  | d3Refused
  /-- R512: THERMTRIP_N asserted. -/
  | thermtrip
deriving DecidableEq, Repr

/-- The whole machine. -/
structure State where
  dog : Sheepdog
  boot : Boot
  host : HostIf
  comp : Compute
  pens : List Pen
  drover : Drover
  talsen : List Talsen
  np : NearMem
  fab : Fabric
  qe : QueueEngine
  time : TimeUnit
  coord : Coord
  video : Video
  health : Health
  /-- What the last command sent out.  The model's own; reset none. -/
  out : List Output
  /-- How many free values have been drawn.  The model's own; reset 0 (log entry 3). -/
  free : Nat
  /-- The commands that are waiting, first in, first out. -/
  pending : List Instr
deriving DecidableEq, Repr

/-! ## The machine right after a cold reset with the always-on supplies good -/

/-- R60, Table 3.2: a half that has held no task. -/
def AccHalf.idle : AccHalf :=
  { busy := none, pen := 0, prov := [], lastPen := none, stationary := none, stream := none, acc := [], scratch := [],
    flags := 0, fault := none, started := 0 }

/-- Table 3.2: an unpowered Fold. -/
def Fold.off : Fold :=
  { state := .off, half0 := .idle, half1 := .idle, provHidden := false, dueTakeover := false }

/-- Table 16.6 at its reset values. -/
def Mailbox.idle : Mailbox :=
  { go := false, irq := false, state := 0, last := 0, reqLen := 0, rspLen := 0, evt := false, req := [], rsp := [],
    taken := [], discard := false }

/-- Table 16.5 at its reset values. -/
def FnRegs.initial : FnRegs :=
  { healthEvt := 0, healthMask := 0, winPen := 0, winEnable := false, winBase := 0, heldLow := [], msix := [] }

/-- R345, R346: an EMPTY pen, zero quotas and counters. -/
def Pen.vacant : Pen :=
  { state := .empty, grazing := false, vf := 0, nearMin := 0, farMax := 0, counters := [], jobKey := 0,
    placement := none, jobStatus := 0, tensors := [], views := [], pages := [],
    nextAddr := 0x200000, smallPage := none, nextRecipe := 1, itinerary := none, pendingItin := none,
    demand := true, expect := 0, lastMark := 0, marked := false, measured := [], pool := none, drained := false,
    joining := false, notices := [] }

/-- R442: a Talsen port before stage 2. -/
def Talsen.initial : Talsen :=
  { state := .down, rate32 := false, width8 := false, relinking := false, failed := 0, serial := none, usedMib := 0,
    relinkDue := false, corrected := [] }

/-- Table 10.4 at its reset values. -/
def Stack.initial : Stack :=
  { trained := false, powered := false, temp := 0, tstate := 0, slow := false, maxTemp := 0 }

/-- Table 11.6 at its reset values. -/
def Port.initial : Port :=
  { lstate := .down, width := 0, laneLo := 0, slowRate := false, sl := false, slPermitted := false,
    peerValid := false, laneGood := 0, peerPort := 0, retrains := 0, peerCoord := 0, failures := 0, txSeq := 0,
    rxSeq := 0, nakSent := none, replay := [], replays := 0, credits := List.replicate 8 0,
    freed := List.replicate 8 0, held := List.replicate 8 [], partials := List.replicate 8 [], buffers := List.replicate 8 [], delay := 0,
    slow := false, trained := false, vc3Wait := 0, lastVc := 2, lastInput := List.replicate 4 8, sending := List.replicate 4 none }

/-- R482: an empty bank of `n` records. -/
def FaultBank.empty (n : Nat) : FaultBank := { records := List.replicate n none, lost := 0 }

/-- Table 20.1: the sizes of the sixteen banks. -/
def bankSizes : List Nat := [16, 16, 16, 16, 8, 8, 16, 32, 32, 8, 8, 16, 8, 16, 4, 32]

/-- R496: the shadow before the first tick. -/
def Shadow.initial : Shadow := { snapEpoch := 0, time := 0, epoch := 0, items := List.replicate 58 0 }

/-- R498, R499: power control below stage 4, with the default limit. -/
def Power.initial (limit : Nat) : Power :=
  { limit := limit, point := .reduced, duty := 16, brake := false, unmetMs := 0, unmetLogged := false, lastOver := 0,
    lastRaise := 0, samples := [], energyRest := 0, dieTemps := List.replicate 5 0 }

/-- R478, Table 19.9: a settings copy with every item at its default, its CRC not yet computed. -/
def Settings.default (format : Nat) : Settings :=
  { ok := true, crc := 0, formatVersion := format, coord := 0, extent := 0, bellwether := 0, deputy := 0, placed := false,
    thresh := 8, confirmMode := 1, powerLimit := 1200 }

/-- R443, R454: a device as shipped, its Sheepdog just reset (log entry 5). -/
def Sheepdog.initial : Sheepdog :=
  { fuseProvisioned := true, fuseDecommissioned := false, ownerSlots := [],
    salholtRevoked := [false, false, false, false], floor := 0, serial := 0, lcState := 1, flashMib := 128,
    flash := [], factory := [0, 2],
    bcb := [{ ok := true, crc := 0x1932825D, seq := 1, boot := 0, confirmed := 0, staging := false, settingsCur := 0,
              settingsPending := false, states := [.active, .empty, .valid],
              versions := [0x02000001, 0, 0x02000001], bytes := [8192, 0, 8192] },
            { ok := false, crc := 0xFFFFFFFF, seq := 0, boot := 0, confirmed := 0, staging := false, settingsCur := 0,
              settingsPending := false, states := [.empty, .empty, .empty], versions := [0, 0, 0],
              bytes := [0, 0, 0] }],
    identity := [{ ok := true, crc := 0x98ACD3D8, seq := 1, locked := false, ret := false, ownerLock := false, transitions := 0,
                   sealCount := 0, retired := [] },
                 { ok := false, crc := 0xFFFFFFFF, seq := 0, locked := false, ret := false, ownerLock := false, transitions := 0,
                   sealCount := 0, retired := [] }],
    settings := [{ Settings.default 1 with crc := 0xC1F01CB2 }, { Settings.default 1 with crc := 0xC1F01CB2 }],
    journal := [], journalSeq := 0, erasing := [], session := none, sessionCounter := 0, ownWrites := [],
    running := none, fwUnconfirmed := false, healthStart := none,
    window := none, presenceStuck := false, sealA := false, sealMiss := 0, sealBroken := false, strap := false,
    holdup := false, debugLevel := 0, retest := [] }

/-- R392: the modes of the endpoint in its order of preference. -/
def linkOrder : List (HostRate × HostWidth) := [.g64, .g32, .g16].flatMap (fun r => [(r, .x16), (r, .x8), (r, .x4)])

/-- R440: the board still holds RESET_N low and the always-on supplies are good (log entry 7). -/
def Boot.initial : Boot :=
  { stage := 0, resetN := false, perstN := false, railsGood := [.aon, .vddio], transitEn := false, hubEn := false,
    fieldEn := false, railHold := false, hubFaulted := false, thermtrip := false, stoppedDies := [], fusesRead := false, linkUp := false,
    linkRate := .g64, linkWidth := .x16, linkFlit := true, linkModes := linkOrder, partnerFlit := true, d3hot := false, shepherdRuns := false,
    ccDraining := false, ccStage := 0, resetting := none, thermalWait := false, holdAt2 := false, lastCause := 0, lastDeep := 0,
    ccCount := 0, warmCount := 0, heartbeat := 0, coordinatorLost := false, farUnwiped := List.replicate 4 0 }

/-- Tables 16.5 and 16.6 at their reset values. -/
def HostIf.initial : HostIf :=
  { bar4Bits := 28, fns := List.replicate 9 .initial, slots := List.replicate 12 .idle, lastSlot := 11, i3cAddr := none, i3cOffset := 0,
    timeHigh := none, timeEpoch := none }

/-- R52, R53: slot s holds local index s mod 32 of its die. -/
def Compute.initial : Compute :=
  { slots := (List.range 128).map (fun s => { phys := s % 32, active := true, takeovers := 0 }),
    folds := List.replicate 136 .off, ops := [], nextOp := 0, plans := [], chains := [], staged := [], bank15 := none, lastGrazing := 7 }

def Drover.initial : Drover :=
  { bases := [], nearUsed := [], farCapacity := 0, verdicts := [], basePens := [] }

/-- R273, Tables 10.2 and 10.4: near pasture with nothing written. -/
def NearMem.initial : NearMem :=
  { mem := [], loose := [], poison := [], wc := [], waiting := [], thresh := 8, stackList := List.replicate 8 .initial,
    groups := List.replicate 64 { trainedTemp := 0, due := false, corrected := [] }, retraining := none, lastWindow := none }

/-- Tables 11.6 and 11.7 at their reset values. -/
def Fabric.initial : Fabric :=
  { ports := List.replicate 8 .initial, coord := 0, extent := 0, placed := false, transitOnly := false,
    routeEpoch := 0, rings := List.replicate 4 { breaks := [] }, bellwether := 0, deputy := 0, inject := [],
    ejected := [], draining := none }

def TimeUnit.initial : TimeUnit :=
  { clock := 0, now := 0, epoch := 0, ratePpb := 0, slewLeft := none, frac := 0, role := 0, synced := false,
    goodSyncs := 0, parentPort := 0, offset := 0, measured := 0, syncNumber := 0, hostSource := false, epochReq := false }

def Video.initial : Video :=
  { cores := List.replicate 6 { busy := none, inReset := false, resetQueued := false }, streams := [], deferred := [] }

def Health.initial : Health :=
  { banks := bankSizes.map FaultBank.empty, counters := List.replicate 58 0, shadow := .initial, snapEpoch := 0,
    snapshot := none, power := Power.initial 1200 }

/-- The machine right after a cold reset at power-on (Table 18.6), with the settings at their defaults. -/
def State.reset : State :=
  { dog := .initial, boot := .initial, host := .initial, comp := .initial, pens := List.replicate 8 .vacant,
    drover := .initial, talsen := List.replicate 4 .initial, np := .initial, fab := .initial,
    qe := { queues := [], rops := [], opens := [], held := [] }, time := .initial,
    coord := { jobs := [], probing := false, unusable := [], reports := [] }, video := .initial, health := .initial,
    out := [], free := 0, pending := [] }

/-- Why a step stops with a fault. -/
inductive Fault where
  /-- Raised by NEAR_PASTURE_READ, NEAR_PASTURE_WRITE, ACCUMULATE_WRITE, NP_CE and NP_UE for a device address
  outside the 384 GiB of R255.  Safe: the manual gives such an address no meaning, and the model stops. -/
  | noSuchNearAddress (addr : Nat)
deriving DecidableEq, Repr

/-- Why a step is refused. -/
inductive Refusal where
  /-- The arm of a command that has no meaning yet.  Safe: the model stops. -/
  | notModelled (mnemonic : String)
deriving DecidableEq, Repr

end Sys2Proof.Machine
end

