-- ==== Sys2Proof/Machine/Ops.lean ====
section
/-! DEFINITION. The operations that every unit shares: what leaves the device, sparse maps in canonical form, counters,
the fault log (R482 to R486), interrupts and health events (R397, Table 16.5), free values, and the accessors of the
numbered parts of the state. -/

namespace Sys2Proof.Machine

abbrev Result := Host.Outcome State Fault Refusal

/-! ## Sparse maps: keys strictly rising, no entry equal to the default -/

/-- The value at a key; an unlisted key holds the default `d`. -/
def cellGet {α : Type} (d : α) : List (Nat × α) → Nat → α
  | [], _ => d
  | (k, v) :: r, a => if k = a then v else cellGet d r a

/-- Store one value, keeping the canonical form: storing the default removes the entry. -/
def cellPut {α : Type} [DecidableEq α] (d : α) : List (Nat × α) → Nat → α → List (Nat × α)
  | [], a, b => if b = d then [] else [(a, b)]
  | (k, v) :: r, a, b =>
    if a < k then (if b = d then (k, v) :: r else (a, b) :: (k, v) :: r)
    else if a = k then (if b = d then r else (a, b) :: r)
    else (k, v) :: cellPut d r a b

/-- Store consecutive values from key `a`. -/
def cellPutAll {α : Type} [DecidableEq α] (d : α) (m : List (Nat × α)) (a : Nat) : List α → List (Nat × α)
  | [] => m
  | b :: bs => cellPutAll d (cellPut d m a b) (a + 1) bs

/-- The values at `n` consecutive keys from `a`. -/
def cellGetAll {α : Type} (d : α) (m : List (Nat × α)) (a n : Nat) : List α :=
  (List.range n).map (fun i => cellGet d m (a + i))

/-- The canonical form of a sparse map. -/
def cellsWf {α : Type} [DecidableEq α] (d : α) : List (Nat × α) → Bool
  | [] => true
  | (_, v) :: [] => v != d
  | (k, v) :: (k', v') :: r => v != d && k < k' && cellsWf d ((k', v') :: r)

/-! ## What leaves the device -/

/-- Every command starts with nothing sent. -/
def State.quiet (s : State) : State := { s with out := [] }

def State.emit (s : State) (o : Output) : State := { s with out := s.out ++ [o] }

/-- Answer a next state. -/
def done (s : State) : Result := .next s

/-! ## Numbered parts of the state -/

def State.pen (s : State) (p : Nat) : Pen := s.pens.getD p .vacant
def State.modPen (s : State) (p : Nat) (f : Pen → Pen) : State := { s with pens := s.pens.modify p f }
def State.port (s : State) (p : Nat) : Port := s.fab.ports.getD p .initial
def State.modPort (s : State) (p : Nat) (f : Port → Port) : State :=
  { s with fab := { s.fab with ports := s.fab.ports.modify p f } }
def State.stackAt (s : State) (k : Nat) : Stack := s.np.stackList.getD k .initial
def State.modStack (s : State) (k : Nat) (f : Stack → Stack) : State :=
  { s with np := { s.np with stackList := s.np.stackList.modify k f } }
def State.talsenAt (s : State) (k : Nat) : Talsen := s.talsen.getD k .initial
def State.modTalsen (s : State) (k : Nat) (f : Talsen → Talsen) : State := { s with talsen := s.talsen.modify k f }
def State.fnRegs (s : State) (fn : Nat) : FnRegs := s.host.fns.getD fn .initial
def State.modFn (s : State) (fn : Nat) (f : FnRegs → FnRegs) : State :=
  { s with host := { s.host with fns := s.host.fns.modify fn f } }
def State.slotAt (s : State) (i : Nat) : Mailbox := s.host.slots.getD i .idle
def State.modSlot (s : State) (i : Nat) (f : Mailbox → Mailbox) : State :=
  { s with host := { s.host with slots := s.host.slots.modify i f } }
def State.fold (s : State) (k : Nat) : Fold := s.comp.folds.getD k .off
def State.modFold (s : State) (k : Nat) (f : Fold → Fold) : State :=
  { s with comp := { s.comp with folds := s.comp.folds.modify k f } }
def State.modBoot (s : State) (f : Boot → Boot) : State := { s with boot := f s.boot }
def State.modDog (s : State) (f : Sheepdog → Sheepdog) : State := { s with dog := f s.dog }
def State.modNp (s : State) (f : NearMem → NearMem) : State := { s with np := f s.np }
def State.modFab (s : State) (f : Fabric → Fabric) : State := { s with fab := f s.fab }
def State.modComp (s : State) (f : Compute → Compute) : State := { s with comp := f s.comp }
def State.modQe (s : State) (f : QueueEngine → QueueEngine) : State := { s with qe := f s.qe }
def State.modTime (s : State) (f : TimeUnit → TimeUnit) : State := { s with time := f s.time }
def State.modCoord (s : State) (f : Coord → Coord) : State := { s with coord := f s.coord }
def State.modVideo (s : State) (f : Video → Video) : State := { s with video := f s.video }
def State.modHealth (s : State) (f : Health → Health) : State := { s with health := f s.health }
def State.modPower (s : State) (f : Power → Power) : State :=
  s.modHealth (fun h => { h with power := f h.power })
def State.modDrover (s : State) (f : Drover → Drover) : State := { s with drover := f s.drover }
def State.modHost (s : State) (f : HostIf → HostIf) : State := { s with host := f s.host }

/-- Fold a state operation over a list. -/
def State.forAll {α : Type} (s : State) (l : List α) (f : State → α → State) : State := l.foldl f s

/-- Draw the next free value (log entry 3): nothing constrains its bits. -/
def State.draw (s : State) : DWord × State := (Config.freeBits s.free, { s with free := s.free + 1 })

/-- `n` free values have been used. -/
def State.spend (s : State) (n : Nat) : State := { s with free := s.free + n }

/-- Draw `n` free bytes. -/
def State.drawBytes (s : State) : Nat → List Byte × State
  | 0 => ([], s)
  | n + 1 =>
    let r := s.draw
    let q := State.drawBytes r.2 n
    (BitVec.ofNat 8 r.1.toNat :: q.1, q.2)

/-! ## Counters (R492) -/

/-- R492: a counter of Table 20.6 grows modulo 2⁶⁴. -/
def State.count (s : State) (item n : Nat) : State :=
  s.modHealth (fun h => { h with counters := h.counters.modify item (fun c => c + BitVec.ofNat 64 n) })

/-! ## Interrupts and health events -/

/-- R397: raise a vector of a function.  A masked (or never written) vector sets its pending bit. -/
def State.raiseVector (s : State) (fn vec : Nat) : State :=
  match (s.fnRegs fn).msix.find? (fun e => e.vector = vec) with
  | some e =>
    if e.masked then
      s.modFn fn (fun r => { r with msix := r.msix.map (fun x => if x.vector = vec then { x with pending := true } else x) })
    else s.emit (.msix fn vec e.addr e.data)
  | none =>
    s.modFn fn (fun r => { r with msix := r.msix ++
      [{ vector := vec, addr := 0, data := 0, masked := true, pending := true }] })

/-- Table 16.5: set HEALTH_EVT bit `bit` of a function, raising vector 1 when HEALTH_MASK enables it. -/
def State.healthEvent (s : State) (fn bit : Nat) : State :=
  let s1 := s.modFn fn (fun r => { r with healthEvt := r.healthEvt ||| (1#5 <<< bit) })
  if (s.fnRegs fn).healthMask.getLsbD bit then s1.raiseVector fn 1 else s1

/-- A health event that every function sees. -/
def State.healthEventAll (s : State) (bit : Nat) : State :=
  s.forAll (List.range 9) (fun t fn => t.healthEvent fn bit)

/-- R448, R499: below stage 4 the point is reduced with D = 16, and at entry to stage 4 nominal; R501: the brake overrides. -/
def Power.atStage (p : Power) (old new : Nat) : Power :=
  if p.brake then p
  else if new < 4 then { p with point := .reduced, duty := 16 }
  else if old < 4 then { p with point := .nominal, duty := 16 }
  else p

/-- R437: change STAGE; every change sets HEALTH_EVT.STAGE_CHANGE. -/
def State.setStage (s : State) (n : Nat) : State :=
  if s.boot.stage = n then s
  else ((s.modBoot (fun b => { b with stage := n })).modPower (fun p => p.atStage s.boot.stage n)).healthEventAll 0

/-- Table 18.6: the stage whose state the device keeps: STAGE, or, during a control-complex reset, in which STAGE reads 2, the stage
that it returns to. -/
def State.keptStage (s : State) : Nat := if s.boot.resetting = some .controlComplex then s.boot.ccStage else s.boot.stage

/-! ## The fault log (R482 to R486) -/

/-- R484: rank of a severity as Table 20.2 codes it. -/
def Severity.code : Severity → Nat
  | .corrected => 1
  | .deferred => 2
  | .uncontained => 3

/-- R485: age compared by EPOCH, then TIME. -/
def FaultRec.olderThan (a b : FaultRec) : Bool :=
  a.epoch < b.epoch || (a.epoch == b.epoch && a.time < b.time)

/-- The oldest record that satisfies `p`; of equal ages the lower-numbered. -/
def oldestRecord (p : FaultRec → Bool) (rs : List (Option FaultRec)) : Option Nat :=
  let go := rs.zipIdx.foldl (fun (best : Option (FaultRec × Nat)) x =>
    match x.1 with
    | none => best
    | some r =>
      if p r then
        match best with
        | none => some (r, x.2)
        | some b => if r.olderThan b.1 then some (r, x.2) else best
      else best) none
  go.map Prod.snd

/-- R485: COUNT and LAST_TIME of a record that takes a further occurrence. -/
def FaultRec.absorb (old new : FaultRec) : FaultRec :=
  { old with count := if old.count = BitVec.allOnes 32 then old.count else old.count + 1
             lastTime := new.time, lastEpoch := new.epoch
             more := old.more || old.code != new.code || old.addr != new.addr || old.unit != new.unit }

/-- R485: LOST saturates and never wraps. -/
def satWord (w : Word) : Word := if w = BitVec.allOnes 32 then w else w + 1

/-- R485: the index of the lowest-severity records present below the occurrence's severity. -/
def lowestSeverity (rs : List (Option FaultRec)) : Nat :=
  rs.foldl (fun m r => match r with | none => m | some x => min m x.severity.code) 4

/-- R485: a new occurrence enters its bank by the first step that applies. -/
def FaultBank.enter (b : FaultBank) (r : FaultRec) : FaultBank :=
  match oldestRecord (fun x => x.code == r.code && x.severity == r.severity && x.addr == r.addr && x.unit == r.unit)
      b.records with
  | some i => { b with records := b.records.modify i (Option.map (fun x => x.absorb r)) }
  | none =>
    match b.records.findIdx? Option.isNone with
    | some i => { b with records := b.records.set i (some r) }
    | none =>
      let low := lowestSeverity b.records
      if low < r.severity.code then
        match oldestRecord (fun x => x.severity.code == low) b.records with
        | some i => { records := b.records.set i (some r), lost := satWord b.lost }
        | none => b
      else
        match oldestRecord (fun x => x.severity == r.severity && x.code == r.code) b.records with
        | some i => { b with records := b.records.modify i (Option.map (fun x => x.absorb r)) }
        | none =>
          match oldestRecord (fun x => x.severity == r.severity) b.records with
          | some i => { b with records := b.records.modify i (Option.map (fun x => x.absorb r)) }
          | none => { b with lost := satWord b.lost }

/-- R483: the record of one occurrence now. -/
def State.occurrence (s : State) (code : Nat) (sev : Severity) (unit : Nat) (pen : Option Nat) (addr : Option Nat)
    (info : Nat) : FaultRec :=
  { code := code, severity := sev, more := false, penValid := pen.isSome, addrValid := addr.isSome, count := 1
    addr := BitVec.ofNat 64 (addr.getD 0), info := BitVec.ofNat 128 info, time := s.time.now, epoch := s.time.epoch
    pen := pen.getD 0, unit := unit, lastTime := s.time.now, lastEpoch := s.time.epoch }

/-- R485, R486, Table 20.6: offer an occurrence to a bank: FAULT_RECORDS counts it, and an UNCONTAINED one sets
HEALTH_EVT.FAULT of the owner function whichever step takes it. -/
def State.logFault (s : State) (bank code : Nat) (sev : Severity) (unit : Nat := 0) (pen : Option Nat := none)
    (addr : Option Nat := none) (info : Nat := 0) : State :=
  let r := s.occurrence code sev unit pen addr info
  let s1 := (s.modHealth (fun h => { h with banks := h.banks.modify bank (fun b => b.enter r) })).count 40 1
  if sev = .uncontained then s1.healthEvent 0 1 else s1

/-- R486: STAGE.FAULT_PENDING of the owner function. -/
def State.faultPending (s : State) : Bool :=
  s.health.banks.any (fun b => b.records.any (fun r => match r with
    | some x => x.severity == .uncontained
    | none => false))

/-! ## Pens and functions -/

/-- R348: the pen bound to virtual function `v`. -/
def State.boundPen (s : State) (v : Nat) : Option Nat :=
  if v = 0 then none else s.pens.findIdx? (fun p => p.vf = v && p.state != .empty)

/-- The function whose registers show a pen's events: its virtual function, or the owner function. -/
def State.penFunction (s : State) (p : Nat) : Nat := (s.pen p).vf

/-- Table 14.1: the code of a pen state. -/
def PenState.code : PenState → Nat
  | .empty => 0
  | .ready => 1
  | .running => 2
  | .quiescing => 3
  | .quiesced => 4
  | .faulted => 5
  | .wiping => 6

/-- R346: the states in which a pen exists and is not being wiped. -/
def PenState.live (x : PenState) : Bool := x != .empty && x != .wiping

/-- R447: the transit plane is enabled and its rail is good. -/
def State.transitLive (s : State) : Bool := s.boot.transitEn && s.boot.railsGood.contains .transit

/-- Table 16.5: STAGE.THERMAL: any stack Hot or Critical. -/
def State.thermal (s : State) : Bool := s.np.stackList.any (fun k => k.tstate = 2 || k.tstate = 3)

/-- R454: the state codes of Table 17.13 used by name. -/
def lcBlank : Nat := 0
def lcProvisioned : Nat := 1
def lcOwned : Nat := 2
def lcLocked : Nat := 3
def lcReturn : Nat := 4
def lcDecommissioned : Nat := 5

end Sys2Proof.Machine
end

