-- ==== Sys2Proof/Machine/Clock.lean ====
section
/-! DEFINITION. The time unit's own running: one nanosecond of TBCLK, with the rate correction of R337 and R338. -/

namespace Sys2Proof.Machine

/-- R337, R338: the sum of the carried fraction, one nanosecond and the rate correction, in parts per billion. -/
def TimeUnit.step (t : TimeUnit) : TimeUnit :=
  let total : Int := t.frac + 1000000000 + (if t.slewLeft = some 0 then 0 else t.ratePpb)
  let whole := total / 1000000000
  let moved := whole - 1
  { t with clock := t.clock + 1
           now := t.now + BitVec.ofInt 64 whole
           frac := total - whole * 1000000000
           slewLeft := t.slewLeft.map (fun x => x - moved) }

/-- R335, log entry 2: one tick of TBCLK.  TBCLK runs while the transit plane is powered and not in cold reset. -/
def idleTick (s : State) : State :=
  if s.transitLive then (s.quiet).modTime TimeUnit.step
  else (s.quiet).modTime (fun t => { t with clock := t.clock + 1 })

end Sys2Proof.Machine
end

