-- ==== Sys2Proof/Machine/Crypto.lean ====
section
/-! DEFINITION. CRC-32C (R206), and the two algorithms that R457 names by their standards: SHA-384 (FIPS 180-4) and the
verification of ECDSA P-384 signatures (FIPS 186-5).  Their details are taken from the standards (log entry 13). -/

namespace Sys2Proof.Machine

/-! ## CRC-32C -/

def crcBit (c : Nat) : Nat := if c % 2 = 1 then (c / 2) ^^^ 0x82F63B78 else c / 2

def crcByte (c : Nat) (b : Byte) : Nat := (List.range 8).foldl (fun x _ => crcBit x) (c ^^^ b.toNat)

/-- R206: CRC-32C of a sequence of bytes. -/
def crc32c (bs : List Byte) : Nat := bs.foldl crcByte 0xFFFFFFFF ^^^ 0xFFFFFFFF

/-! ## SHA-384 -/

/-- The first 64 bits of the fractional parts of the cube roots of the first eighty primes. -/
def sha512K : List Nat := [
  0x428A2F98D728AE22, 0x7137449123EF65CD, 0xB5C0FBCFEC4D3B2F, 0xE9B5DBA58189DBBC,
  0x3956C25BF348B538, 0x59F111F1B605D019, 0x923F82A4AF194F9B, 0xAB1C5ED5DA6D8118,
  0xD807AA98A3030242, 0x12835B0145706FBE, 0x243185BE4EE4B28C, 0x550C7DC3D5FFB4E2,
  0x72BE5D74F27B896F, 0x80DEB1FE3B1696B1, 0x9BDC06A725C71235, 0xC19BF174CF692694,
  0xE49B69C19EF14AD2, 0xEFBE4786384F25E3, 0x0FC19DC68B8CD5B5, 0x240CA1CC77AC9C65,
  0x2DE92C6F592B0275, 0x4A7484AA6EA6E483, 0x5CB0A9DCBD41FBD4, 0x76F988DA831153B5,
  0x983E5152EE66DFAB, 0xA831C66D2DB43210, 0xB00327C898FB213F, 0xBF597FC7BEEF0EE4,
  0xC6E00BF33DA88FC2, 0xD5A79147930AA725, 0x06CA6351E003826F, 0x142929670A0E6E70,
  0x27B70A8546D22FFC, 0x2E1B21385C26C926, 0x4D2C6DFC5AC42AED, 0x53380D139D95B3DF,
  0x650A73548BAF63DE, 0x766A0ABB3C77B2A8, 0x81C2C92E47EDAEE6, 0x92722C851482353B,
  0xA2BFE8A14CF10364, 0xA81A664BBC423001, 0xC24B8B70D0F89791, 0xC76C51A30654BE30,
  0xD192E819D6EF5218, 0xD69906245565A910, 0xF40E35855771202A, 0x106AA07032BBD1B8,
  0x19A4C116B8D2D0C8, 0x1E376C085141AB53, 0x2748774CDF8EEB99, 0x34B0BCB5E19B48A8,
  0x391C0CB3C5C95A63, 0x4ED8AA4AE3418ACB, 0x5B9CCA4F7763E373, 0x682E6FF3D6B2B8A3,
  0x748F82EE5DEFB2FC, 0x78A5636F43172F60, 0x84C87814A1F0AB72, 0x8CC702081A6439EC,
  0x90BEFFFA23631E28, 0xA4506CEBDE82BDE9, 0xBEF9A3F7B2C67915, 0xC67178F2E372532B,
  0xCA273ECEEA26619C, 0xD186B8C721C0C207, 0xEADA7DD6CDE0EB1E, 0xF57D4F7FEE6ED178,
  0x06F067AA72176FBA, 0x0A637DC5A2C898A6, 0x113F9804BEF90DAE, 0x1B710B35131C471B,
  0x28DB77F523047D84, 0x32CAAB7B40C72493, 0x3C9EBE0A15C9BEBC, 0x431D67C49C100D4C,
  0x4CC5D4BECB3E42B6, 0x597F299CFC657E2A, 0x5FCB6FAB3AD6FAEC, 0x6C44198C4A475817]

/-- The initial hash value of SHA-384. -/
def sha384Init : List Nat := [0xCBBB9D5DC1059ED8, 0x629A292A367CD507, 0x9159015A3070DD17, 0x152FECD8F70E5939, 0x67332667FFC00B31, 0x8EB44A8768581511, 0xDB0C2E0D64F98FA7, 0x47B5481DBEFA4FA4]

def rotr64 (x n : Nat) : Nat := (x >>> n) ||| ((x <<< (64 - n)) % 2 ^ 64)
def shaS0 (x : Nat) : Nat := rotr64 x 28 ^^^ rotr64 x 34 ^^^ rotr64 x 39
def shaS1 (x : Nat) : Nat := rotr64 x 14 ^^^ rotr64 x 18 ^^^ rotr64 x 41
def shaG0 (x : Nat) : Nat := rotr64 x 1 ^^^ rotr64 x 8 ^^^ (x >>> 7)
def shaG1 (x : Nat) : Nat := rotr64 x 19 ^^^ rotr64 x 61 ^^^ (x >>> 6)
def shaCh (e f g : Nat) : Nat := (e &&& f) ^^^ ((2 ^ 64 - 1 - e) &&& g)
def shaMaj (a b c : Nat) : Nat := (a &&& b) ^^^ (a &&& c) ^^^ (b &&& c)

/-- The big-endian number that bytes spell. -/
def beNat (bs : List Byte) : Nat := bs.foldl (fun n b => n * 256 + b.toNat) 0

/-- The message schedule, newest word first. -/
def shaSchedule (first : List Nat) : List Nat :=
  (List.range 64).foldl (fun w _ =>
    ((shaG1 (w.getD 1 0) + w.getD 6 0 + shaG0 (w.getD 14 0) + w.getD 15 0) % 2 ^ 64) :: w) first.reverse

/-- One round on the eight working words. -/
def shaRound (v : List Nat) (kw : Nat × Nat) : List Nat :=
  match v with
  | [a, b, c, d, e, f, g, h] =>
    let t1 := h + shaS1 e + shaCh e f g + kw.1 + kw.2
    [(t1 + shaS0 a + shaMaj a b c) % 2 ^ 64, a, b, c, (d + t1) % 2 ^ 64, e, f, g]
  | _ => v

def shaBlock (h : List Nat) (block : List Byte) : List Nat :=
  let first := (List.range 16).map (fun i => beNat ((block.drop (8 * i)).take 8))
  let v := (sha512K.zip (shaSchedule first).reverse).foldl shaRound h
  (h.zip v).map (fun x => (x.1 + x.2) % 2 ^ 64)

def beBytes : Nat → Nat → List Byte
  | 0, _ => []
  | n + 1, v => BitVec.ofNat 8 (v / 256 ^ n) :: beBytes n v

def shaBlocks : Nat → List Nat → List Byte → List Nat
  | 0, h, _ => h
  | n + 1, h, bs => shaBlocks n (shaBlock h (bs.take 128)) (bs.drop 128)

/-- SHA-384 of bytes, as the big-endian number of its 48 bytes. -/
def sha384 (m : List Byte) : Nat :=
  let pad := (239 - m.length % 128) % 128
  let full := m ++ [0x80#8] ++ List.replicate pad 0#8 ++ beBytes 16 (8 * m.length)
  ((shaBlocks (full.length / 128) sha384Init full).take 6).foldl (fun n w => n * 2 ^ 64 + w) 0

/-! ## ECDSA P-384 -/

def p384 : Nat := 2 ^ 384 - 2 ^ 128 - 2 ^ 96 + 2 ^ 32 - 1
def p384N : Nat := 0xFFFFFFFFFFFFFFFFFFFFFFFFFFFFFFFFFFFFFFFFFFFFFFFFC7634D81F4372DDF581A0DB248B0A77AECEC196ACCC52973
def p384B : Nat := 0xB3312FA7E23EE7E4988E056BE3F82D19181D9C6EFE8141120314088F5013875AC656398D8A2ED19D2A85C8EDD3EC2AEF
def p384Gx : Nat := 0xAA87CA22BE8B05378EB1C71EF320AD746E1D3B628BA79B9859F741E082542A385502F25DBF55296C3A545E3872760AB7
def p384Gy : Nat := 0x3617DE4A96262C6F5D9E98BF9292DC29F8F41DBD289A147CE9DA3113B5F0B8C00A60B1CE1D7E819D7A431D7C90EA0E5F

/-- x^(2^(i) bits of k) mod n: the power of x to the number whose bits i−1..0 are k's. -/
def powMod (x n k : Nat) : Nat → Nat
  | 0 => 1 % n
  | i + 1 =>
    let r := powMod x n (k / 2) i
    if k % 2 = 1 then r * r % n * x % n else r * r % n

/-- Inverse modulo a prime of at most 384 bits. -/
def invMod (x n : Nat) : Nat := powMod x n (n - 2) 384

/-- A point in Jacobian coordinates; z = 0 is the point at infinity. -/
structure JPoint where
  x : Nat
  y : Nat
  z : Nat
deriving DecidableEq, Repr

def subMod (a b : Nat) : Nat := (a + p384 - b % p384) % p384

def JPoint.double (p : JPoint) : JPoint :=
  let d := p.z * p.z % p384
  let g := p.y * p.y % p384
  let b := p.x * g % p384
  let a := 3 * (subMod p.x d) * ((p.x + d) % p384) % p384
  let x3 := subMod (a * a) (8 * b)
  { x := x3
    z := subMod (subMod ((p.y + p.z) * (p.y + p.z)) g) d
    y := subMod (a * subMod (4 * b) x3) (8 * g * g) }

def JPoint.addTo (p q : JPoint) : JPoint :=
  if p.z = 0 then q
  else if q.z = 0 then p
  else
    let z1 := p.z * p.z % p384
    let z2 := q.z * q.z % p384
    let u1 := p.x * z2 % p384
    let u2 := q.x * z1 % p384
    let s1 := p.y * q.z % p384 * z2 % p384
    let s2 := q.y * p.z % p384 * z1 % p384
    if u1 = u2 then (if s1 = s2 then p.double else { x := 1, y := 1, z := 0 })
    else
      let h := subMod u2 u1
      let r := subMod s2 s1
      let hh := h * h % p384
      let hhh := h * hh % p384
      let v := u1 * hh % p384
      let x3 := subMod (subMod (r * r) hhh) (2 * v)
      { x := x3, y := subMod (r * subMod v x3) (s1 * hhh), z := h * p.z % p384 * q.z % p384 }

/-- Multiple of a point by the low `i` bits of k. -/
def JPoint.times (p : JPoint) (k : Nat) : Nat → JPoint
  | 0 => { x := 1, y := 1, z := 0 }
  | i + 1 =>
    let r := (JPoint.times p (k / 2) i).double
    if k % 2 = 1 then r.addTo p else r

/-- Whether affine coordinates name a point of the curve. -/
def onCurve (x y : Nat) : Bool :=
  x < p384 && y < p384 && (y * y % p384 == (x * x % p384 * x + (p384 - 3) * x + p384B) % p384)

/-- FIPS 186-5 verification of (r, s) over a hash of 384 bits by the public key (x, y). -/
def ecdsaVerify (x y hash r s : Nat) : Bool :=
  if onCurve x y && 0 < r && r < p384N && 0 < s && s < p384N then
    let w := invMod s p384N
    let u1 := hash * w % p384N
    let u2 := r * w % p384N
    let g : JPoint := { x := p384Gx, y := p384Gy, z := 1 }
    let q : JPoint := { x := x, y := y, z := 1 }
    let pt := (g.times u1 384).addTo (q.times u2 384)
    if pt.z = 0 then false
    else
      let zi := invMod pt.z p384
      pt.x * (zi * zi % p384) % p384 % p384N == r
  else false

end Sys2Proof.Machine
end

