-- ==== Sys2Proof/Machine/Numbers.lean ====
section
/-! DEFINITION. Numbers (chapter 2): exact values, the element formats of Tables 2.1 and 2.2, rounding to nearest even
and stochastic rounding (R41 to R43), and FP32 arithmetic.  Every operation forms the exact value first and narrows it
once. -/

namespace Sys2Proof.Machine

def Val.zero : Val := .fin false 0 0

def Val.isNan : Val → Bool
  | .nan => true
  | _ => false

def Val.isZero : Val → Bool
  | .fin _ 0 _ => true
  | _ => false

def Val.isFinite : Val → Bool
  | .fin _ _ _ => true
  | _ => false

def Val.neg? : Val → Bool
  | .nan => false
  | .inf n => n
  | .fin n _ _ => n

def Val.negate : Val → Val
  | .nan => .nan
  | .inf n => .inf (!n)
  | .fin n m e => .fin (!n) m e

def Val.abs : Val → Val
  | .nan => .nan
  | .inf _ => .inf false
  | .fin _ m e => .fin false m e

def Val.ofInt (i : Int) : Val := .fin (i < 0) i.natAbs 0

/-- The signed integer of a finite value scaled to exponent `e0` (`e0` at most its own exponent). -/
def Val.scaled (neg : Bool) (m : Nat) (e e0 : Int) : Int :=
  let x : Int := (m <<< (e - e0).toNat : Nat)
  if neg then -x else x

/-- R26, R260: exact sum; +0 plus −0 gives +0, −0 plus −0 gives −0, ∞ − ∞ gives NaN. -/
def Val.add : Val → Val → Val
  | .nan, _ => .nan
  | _, .nan => .nan
  | .inf a, .inf b => if a = b then .inf a else .nan
  | .inf a, _ => .inf a
  | _, .inf b => .inf b
  | .fin an am ae, .fin bn bm be =>
    let e0 := min ae be
    let x := Val.scaled an am ae e0 + Val.scaled bn bm be e0
    if x = 0 then .fin (an && bn) 0 0 else .fin (x < 0) x.natAbs e0

/-- R26: exact product; 0 × ∞ is NaN. -/
def Val.mul : Val → Val → Val
  | .nan, _ => .nan
  | _, .nan => .nan
  | .inf a, .inf b => .inf (a != b)
  | .inf a, .fin bn bm _ => if bm = 0 then .nan else .inf (a != bn)
  | .fin an am _, .inf b => if am = 0 then .nan else .inf (an != b)
  | .fin an am ae, .fin bn bm be => .fin (an != bn) (am * bm) (ae + be)

def Val.sub (a b : Val) : Val := a.add b.negate

/-- R26: quotient to at least 128 significant bits with a sticky lowest bit, so that one later rounding is exact. -/
def Val.div : Val → Val → Val
  | .nan, _ => .nan
  | _, .nan => .nan
  | .inf _, .inf _ => .nan
  | .inf a, .fin bn _ _ => .inf (a != bn)
  | .fin an _ _, .inf b => .fin (an != b) 0 0
  | .fin an am ae, .fin bn bm be =>
    if bm = 0 then (if am = 0 then .nan else .inf (an != bn))
    else
      let k := 130 + Nat.log2 bm
      let q := (am <<< k) / bm
      let sticky := if (am <<< k) % bm = 0 then 0 else 1
      .fin (an != bn) (2 * q + sticky) (ae - be - k - 1)

/-- Integer square root, one result bit per unit of fuel, from bit `i - 1` down. -/
def isqrtBits (n : Nat) : Nat → Nat → Nat
  | 0, r => r
  | i + 1, r => if (r + 2 ^ i) * (r + 2 ^ i) ≤ n then isqrtBits n i (r + 2 ^ i) else isqrtBits n i r

def isqrt (n : Nat) : Nat := isqrtBits n (Nat.log2 n / 2 + 1) 0

/-- Comparison of values that are not NaN: a < b. -/
def Val.lt (a b : Val) : Bool :=
  match a, b with
  | .nan, _ => false
  | _, .nan => false
  | .inf x, .inf y => x && !y
  | .inf x, .fin _ _ _ => x
  | .fin _ _ _, .inf y => !y
  | .fin an am ae, .fin bn bm be =>
    let e0 := min ae be
    Val.scaled an am ae e0 < Val.scaled bn bm be e0

/-- Equality of values as numbers: the two zeros are equal; NaN equals nothing. -/
def Val.eq (a b : Val) : Bool := !a.isNan && !b.isNan && !(a.lt b) && !(b.lt a)

/-! ## Rounding -/

/-- R41: the rounding mode: RNE, or SR with its 16-bit random integer. -/
inductive Rounding where
  | rne
  | sr (r : Nat)
deriving DecidableEq, Repr

/-- R43: whether the kept magnitude goes up, from the discarded part `rem` of `shift` bits. -/
def roundUpBit (mode : Rounding) (keep rem shift : Nat) : Bool :=
  match mode with
  | .rne => 2 * rem > 2 ^ shift || (2 * rem = 2 ^ shift && keep % 2 = 1)
  | .sr r =>
    let top := if 16 ≤ shift then rem >>> (shift - 16) else rem <<< (16 - shift)
    65536 ≤ top + r % 65536

/-- The magnitude m × 2^e rounded to a whole number of units 2^p. -/
def roundMag (mode : Rounding) (m : Nat) (e p : Int) : Nat :=
  if p ≤ e then m <<< (e - p).toNat
  else
    let shift := (p - e).toNat
    let keep := m >>> shift
    if roundUpBit mode keep (m % 2 ^ shift) shift then keep + 1 else keep

/-! ## Floating-point formats (Table 2.2) -/

/-- One row of Table 2.2: `maxCode` is the magnitude code of the largest finite value; infinity, where there is one, is
the next code. -/
structure FloatFmt where
  width : Nat
  mbits : Nat
  bias : Nat
  maxCode : Nat
  hasInf : Bool
  nanCode : Option Nat
  saturates : Bool
deriving DecidableEq, Repr

def fmtFp32 : FloatFmt := ⟨32, 23, 127, 0x7F7FFFFF, true, some 0x7FC00000, false⟩
def fmtBf16 : FloatFmt := ⟨16, 7, 127, 0x7F7F, true, some 0x7FC0, false⟩
def fmtFp16 : FloatFmt := ⟨16, 10, 15, 0x7BFF, true, some 0x7E00, false⟩
def fmtE4m3 : FloatFmt := ⟨8, 3, 7, 0x7E, false, some 0x7F, true⟩
def fmtE5m2 : FloatFmt := ⟨8, 2, 15, 0x7B, true, some 0x7E, true⟩
def fmtE3m2 : FloatFmt := ⟨6, 2, 3, 0x1F, false, none, true⟩
def fmtE2m3 : FloatFmt := ⟨6, 3, 1, 0x1F, false, none, true⟩
def fmtE2m1 : FloatFmt := ⟨4, 1, 1, 0x7, false, none, true⟩

/-- Exponent of the smallest subnormal. -/
def FloatFmt.emin (f : FloatFmt) : Int := 1 - f.bias - f.mbits

/-- R24: the magnitude a finite code stands for. -/
def FloatFmt.magOf (f : FloatFmt) (c : Nat) : Nat × Int :=
  let ex := c >>> f.mbits
  let mant := c % 2 ^ f.mbits
  if ex = 0 then (mant, f.emin) else (2 ^ f.mbits + mant, f.emin + ex - 1)

/-- R24: the value of a code. -/
def FloatFmt.decode (f : FloatFmt) (code : Nat) : Val :=
  let neg := code.testBit (f.width - 1)
  let c := code % 2 ^ (f.width - 1)
  if f.maxCode < c then (if f.hasInf && c = f.maxCode + 1 then .inf neg else .nan)
  else .fin neg (f.magOf c).1 (f.magOf c).2

/-- The magnitude code of m × 2^e rounded, with no upper limit. -/
def FloatFmt.roundCode (f : FloatFmt) (mode : Rounding) (m : Nat) (e : Int) : Nat :=
  if m = 0 then 0
  else
    let p := max (e + Nat.log2 m - f.mbits) f.emin
    (p - f.emin).toNat * 2 ^ f.mbits + roundMag mode m e p

def FloatFmt.withSign (f : FloatFmt) (neg : Bool) (c : Nat) : Nat := if neg then c + 2 ^ (f.width - 1) else c

/-- Whether m × 2^e lies above the largest finite value. -/
def FloatFmt.above (f : FloatFmt) (m : Nat) (e : Int) : Bool :=
  Val.lt (.fin false (f.magOf f.maxCode).1 (f.magOf f.maxCode).2) (.fin false m e)

/-- R42: a value converted to a format, and whether the conversion saturated.  A format without NaN encodes a NaN input
as code 0 (only R33 and R34 meet one, and they write zero element codes). -/
def FloatFmt.encode (f : FloatFmt) (mode : Rounding) : Val → Nat × Bool
  | .nan => (f.nanCode.getD 0, false)
  | .inf n => if f.hasInf then (f.withSign n (f.maxCode + 1), false) else (f.withSign n f.maxCode, true)
  | .fin n m e =>
    let mode' := if f.above m e then .rne else mode
    let c := f.roundCode mode' m e
    if f.maxCode < c then
      if f.saturates then (f.withSign n f.maxCode, true) else (f.withSign n (f.maxCode + 1), false)
    else (f.withSign n c, f.saturates && f.above m e)

/-- The value after rounding to a format. -/
def FloatFmt.round (f : FloatFmt) (v : Val) : Val := f.decode (f.encode .rne v).1

/-- R42, key I: rounded to an integer, then clamped; NaN becomes 0. -/
def intEncode (lo hi : Int) (mode : Rounding) : Val → Int × Bool
  | .nan => (0, false)
  | .inf n => (if n then lo else hi, true)
  | .fin n m e =>
    let a : Int := roundMag mode m e 0
    let x := if n then -a else a
    if x < lo then (lo, true) else if hi < x then (hi, true) else (x, false)

/-! ## FP32 arithmetic with one RNE rounding (words as their 32-bit codes) -/

/-- An FP32 word as a value. -/
def f32 (w : Nat) : Val := fmtFp32.decode w
/-- A value as an FP32 word, RNE. -/
def toF32 (v : Val) : Nat := (fmtFp32.encode .rne v).1
/-- A value rounded once to FP32. -/
def r32 (v : Val) : Val := f32 (toF32 v)

def fadd (a b : Val) : Val := r32 (a.add b)
def fsub (a b : Val) : Val := r32 (a.sub b)
def fmul (a b : Val) : Val := r32 (a.mul b)
def fdiv (a b : Val) : Val := r32 (a.div b)
/-- a × b + c with a single rounding. -/
def ffma (a b c : Val) : Val := r32 ((a.mul b).add c)

def fOne : Val := .fin false 1 0
def fHalf : Val := .fin false 1 (-1)
def fTwo : Val := .fin false 2 0

/-- The larger of two FP32 values; NaN if either is NaN; +0 is taken as larger than −0. -/
def fmax (a b : Val) : Val :=
  if a.isNan || b.isNan then .nan
  else if a.lt b then b else if b.lt a then a else if a.neg? then b else a

/-- floor of a finite value. -/
def Val.floor (v : Val) : Int :=
  match v with
  | .fin n m e =>
    if 0 ≤ e then Val.scaled n m e 0
    else
      let q : Int := Val.scaled n m 0 0
      q.fdiv (2 ^ (-e).toNat : Nat)
  | _ => 0

/-- floor(log2) of a non-zero finite magnitude. -/
def Val.log2Floor : Val → Int
  | .fin _ m e => e + Nat.log2 m
  | _ => 0

end Sys2Proof.Machine
end

