-- ==== Sys2Proof/Machine/NearMem.lean ====
section
/-! DEFINITION. Near pasture (chapter 10): placement, write combining, accumulate-writes, classes, poison and live
retraining; and access through a pen's page table (R353). -/

namespace Sys2Proof.Machine

/-! ## Placement (R254, R255) -/

/-- R255: 384 GiB. -/
def nearBytes : Nat := 412316860416

/-- R255: the pseudo-channel number p of an address. -/
def npChannel (a : Nat) : Nat :=
  let g := a / 256
  bitsOf g 8 0 ^^^ bitsOf g 17 9 ^^^ bitsOf g 26 18 ^^^ bitsOf g 30 27

/-- R255: where a line lies: its stack, channel, pseudo-channel within the channel, and byte offset within the pseudo-channel. -/
structure NpPlace where
  stack : Nat
  channel : Nat
  pseudo : Nat
  offset : Nat
deriving DecidableEq, Repr

/-- R255: stack = p[2:0]. -/
def npStack (a : Nat) : Nat := npChannel a % 8

/-- R255: the local index L of a line. -/
def npLocal (a : Nat) : Nat := bitsOf (a / 256) 30 9

/-- R255: the one place of an address. -/
def npPlace (a : Nat) : NpPlace :=
  { stack := npStack a, channel := bitsOf (npChannel a) 7 3, pseudo := bitsOf (npChannel a) 8 8, offset := 256 * npLocal a + a % 256 }

/-- R252: stack `s` is driven by controller `s` on field die floor(s ÷ 2). -/
def stackDie (stack : Nat) : Nat := stack / 2

/-- R274: the group of the device, 8 × stack + p[7:5]. -/
def npGroup (a : Nat) : Nat := 8 * npStack a + bitsOf (npChannel a) 7 5

def lineOf (a : Nat) : Nat := a / 256 * 256

/-- Table 10.1: the code of a class. -/
def classCode : NpClass → Nat
  | .rt => 0
  | .hi => 1
  | .norm => 2
  | .bulk => 3

/-- R264: promoted one class; RT is never promoted. -/
def promoteClass : NpClass → NpClass
  | .rt => .rt
  | .hi => .rt
  | .norm => .hi
  | .bulk => .norm

/-- R263, Table 10.1: the classes of a source's reads, plain writes and accumulate-writes.  Where the table names no row for a source's
access the class is that of its neighbouring row (log entry 146). -/
def tableClasses (src : NpSource) (isRead isAcc : Bool) : List NpClass :=
  match src with
  | .fold => if isRead || isAcc then [.hi] else [.norm, .hi]
  | .comet => [.rt]
  | .shears => if isRead then [.hi] else [.norm]
  | .drover => if isRead then [.bulk] else [.norm]
  | .video => if isRead then [.norm] else [.norm, .rt]
  | .host => [.norm]
  | .queue | .queueData | .fabric | .fabricGet | .fabricData => [.hi]
  | .scrub | .wipe => [.bulk]

/-- R262, R263: the class in which a request travels: its source's, and where the table gives a source two, the one it names. -/
def tableClass (src : NpSource) (isRead isAcc : Bool) (named : NpClass) : NpClass :=
  let l := tableClasses src isRead isAcc
  if l.contains named then named else l.headD .norm

/-! ## The pieces of an access, one per line -/

/-- Cut bytes at line boundaries: (address, bytes), each within one line. -/
def linePieces : Nat → Nat → List Byte → List (Nat × List Byte)
  | 0, _, _ => []
  | fuel + 1, a, bs =>
    if bs = [] then []
    else
      let n := 256 - a % 256
      (a, bs.take n) :: linePieces fuel (a + n) (bs.drop n)

def piecesOf (a : Nat) (bs : List Byte) : List (Nat × List Byte) := linePieces (bs.length / 256 + 2) a bs

/-- The lines that a range touches. -/
def linesOf (a len : Nat) : List Nat :=
  if len = 0 then []
  else (List.range ((a + len - 1) / 256 - a / 256 + 1)).map (fun i => (a / 256 + i) * 256)

/-! ## Requests that wait (R266, R268, R275) -/

def NpKind.addr : NpKind → Nat
  | .read a _ => a
  | .fetch a _ => a
  | .write a _ => a
  | .acc a _ _ _ => a
  | .merge l _ => l

/-- The lines that a request touches; what waits of a write or an accumulate-write lies in one line. -/
def NpKind.lines : NpKind → List Nat
  | .read a len => linesOf a len
  | .fetch a len => linesOf a len
  | .write a _ => [lineOf a]
  | .acc a _ _ _ => [lineOf a]
  | .merge l _ => [l]

/-- Whether a request changes a line: a plain write, a flush or an accumulate-write. -/
def NpKind.writes (line : Nat) : NpKind → Bool
  | .write a _ | .acc a _ _ _ => lineOf a == line
  | .merge l _ => l == line
  | .read _ _ | .fetch _ _ => false

def NpKind.isRead : NpKind → Bool
  | .read _ _ | .fetch _ _ => true
  | .write _ _ | .acc _ _ _ _ | .merge _ _ => false

def NpKind.isAcc : NpKind → Bool
  | .acc _ _ _ _ => true
  | .read _ _ | .fetch _ _ | .write _ _ | .merge _ _ => false

/-- The byte that a waiting plain write or flush holds for an address. -/
def NpKind.byteAt (a : Nat) : NpKind → Option Byte
  | .write at' bs => if at' ≤ a then bs[a - at']? else none
  | .merge l bs => (bs.find? (fun x => l + x.1 = a)).map Prod.snd
  | .read _ _ | .fetch _ _ | .acc _ _ _ _ => none

/-- R266: only fabric-sinked PUT and PUT_ACC are served by a Critical stack; R268: a shut-down stack, and one not yet trained, serves
nothing; R275: requests to the group being retrained wait. -/
def State.npBlocked (s : State) (src : NpSource) (a : Nat) : Bool :=
  let k := s.stackAt (npStack a)
  !k.trained || k.tstate == 4 || (k.tstate == 3 && src != .fabric) || s.np.retraining == some (npGroup a)

/-- Whether any part of near pasture may hold requests. -/
def State.npHolds (s : State) : Bool :=
  s.np.retraining.isSome || s.np.stackList.any (fun k => !k.trained || 3 ≤ k.tstate)

/-- Whether a request to a range of device addresses waits. -/
def State.npHeld (s : State) (src : NpSource) (a len : Nat) : Bool := s.npHolds && (linesOf a len).any (s.npBlocked src)

/-- A request waits at its pseudo-channel. -/
def State.npHold (s : State) (kind : NpKind) (src : NpSource) (cls : NpClass) : State :=
  s.modNp (fun n => { n with waiting := n.waiting ++ [{ kind := kind, source := src, cls := cls, urgent := false }] })

/-! ## Indeterminate bytes (R6) -/

/-- What is left of the indeterminate ranges when `n` bytes from `a` on are written. -/
def cutLoose (l : List Loose) (a n : Nat) : List Loose :=
  l.flatMap (fun x =>
    if x.hi ≤ a || a + n ≤ x.lo then [x]
    else (if x.lo < a then [{ x with hi := a }] else []) ++ (if a + n < x.hi then [{ x with lo := a + n }] else []))

/-- Bytes written to memory. -/
def NearMem.put (n : NearMem) (a : Nat) (bs : List Byte) : NearMem :=
  { n with mem := cellPutAll 0 n.mem a bs, loose := cutLoose n.loose a bs.length }

/-- A byte of memory: an indeterminate one is a free value. -/
def NearMem.memByte (n : NearMem) (a : Nat) : Byte :=
  match n.loose.find? (fun x => x.lo ≤ a && a < x.hi) with
  | some x => Config.looseByte x.seed a
  | none => cellGet 0 n.mem a

/-- Lines from `lo` to `hi` become indeterminate; nothing that waited to be written there is left. -/
def NearMem.loosen (n : NearMem) (lo hi seed : Nat) : NearMem :=
  let inside (a : Nat) : Bool := lo ≤ a && a < hi
  { n with
    mem := n.mem.filter (fun c => !(inside c.1)), loose := cutLoose n.loose lo (hi - lo) ++ [{ lo := lo, hi := hi, seed := seed }]
    wc := n.wc.filter (fun e => !(inside e.line)), waiting := n.waiting.filter (fun r => r.kind.isRead || !(inside (lineOf r.kind.addr))) }

/-- R6: the lines that hold a range become indeterminate. -/
def State.npLoosen (s : State) (a len : Nat) : State :=
  if len = 0 then s
  else (s.modNp (fun n => n.loosen (lineOf a) (roundUp (a + len) 256) s.free)).spend 1

/-! ## Reading (R258, R271) -/

/-- The byte of the latest waiting write of an address. -/
def NearMem.pendingByte (n : NearMem) (a : Nat) : Option Byte := n.waiting.foldl (fun b r => (r.kind.byteAt a).or b) none

/-- The byte of an open entry. -/
def NearMem.openByte (n : NearMem) (a : Nat) : Option Byte :=
  (n.wc.find? (fun e => e.line = lineOf a)).bind (fun e => (e.bytes.find? (fun x => x.1 = a % 256)).map Prod.snd)

/-- R258: a byte as any reader sees it: the open entry's byte, a waiting write's, or memory. -/
def State.npByte (s : State) (a : Nat) : Byte :=
  match s.np.openByte a with
  | some b => b
  | none => match s.np.pendingByte a with
    | some b => b
    | none => s.np.memByte a

def State.npRead (s : State) (a len : Nat) : List Byte := (List.range len).map (fun i => s.npByte (a + i))

/-- R271: whether any line of a range is poisoned. -/
def State.npPoisoned (s : State) (a len : Nat) : Bool := (linesOf a len).any (fun l => s.np.poison.contains l)

/-! ## Writing (R256, R257, R272) -/

/-- R271, R491: poison a line. -/
def State.npPoison (s : State) (line : Nat) : State :=
  s.modNp (fun n => { n with poison := (n.poison.filter (· < line)) ++ [line] ++ n.poison.filter (line < ·) })

/-- R272: a write that does not cover a poisoned line is dropped and logged with the class of its source. -/
def State.npPoisonWrite (s : State) (line : Nat) (cls : NpClass) : State :=
  s.logFault 8 0x0203 .deferred (npStack line) none (some line) (classCode cls)

/-- Write bytes of one line to the stack: a whole line clears poison; a part of a poisoned line is dropped. -/
def State.npStore (s : State) (cls : NpClass) (a : Nat) (bs : List Byte) : State :=
  let line := lineOf a
  if bs.length = 256 then
    (s.modNp (fun n => { n.put a bs with poison := n.poison.filter (· != line) })).count 17 256
  else if s.np.poison.contains line then s.npPoisonWrite line cls
  else (s.modNp (fun n => n.put a bs)).count 17 bs.length

/-- Store the masked bytes of an entry. -/
def State.npStoreMasked (s : State) (e : WcEntry) (cls : NpClass) : State :=
  if e.bytes.length = 256 then
    s.npStore cls e.line (e.bytes.map Prod.snd)
  else if s.np.poison.contains e.line then s.npPoisonWrite e.line cls
  else
    (s.modNp (fun n => e.bytes.foldl (fun m x => m.put (e.line + x.1) [x.2]) n)).count 17 e.bytes.length

/-- The buffer without the entry of a line. -/
def State.npDrop (s : State) (line : Nat) : State := s.modNp (fun n => { n with wc := n.wc.filter (fun x => x.line != line) })

/-- R260: one element: the exact sum rounded once to the target format. -/
def accElement (targetBf16 addendBf16 : Bool) (x y : Nat) : Nat :=
  let t := if targetBf16 then fmtBf16 else fmtFp32
  let a := if addendBf16 then fmtBf16 else fmtFp32
  (t.encode .rne ((t.decode x).add (a.decode y))).1

/-- R260: one element of an accumulate-write from address `a`, with its place; a masked-off one is none. -/
def NearMem.accPut (targetBf16 addendBf16 : Bool) (a : Nat) (m : NearMem) (y : Option Word × Nat) : NearMem :=
  match y.1 with
  | none => m
  | some v =>
    let w := if targetBf16 then 2 else 4
    let x := leNat ((List.range w).map (fun i => m.memByte (a + y.2 * w + i)))
    m.put (a + y.2 * w) (leBytes w (accElement targetBf16 addendBf16 x v.toNat))

/-- R260: the sums of the elements of one line from address `a`. -/
def State.npAdd (s : State) (cls : NpClass) (targetBf16 addendBf16 : Bool) (a : Nat) (ys : List (Option Word)) : State :=
  let line := lineOf a
  if s.np.poison.contains line then s.npPoisonWrite line cls
  else
    let w := if targetBf16 then 2 else 4
    ((s.modNp (fun n => ys.zipIdx.foldl (NearMem.accPut targetBf16 addendBf16 a) n)).count 16 (ys.length * w)).count 17 (ys.length * w)

/-! ## The order of a line (R261, R269) -/

/-- A waiting write, flush or accumulate-write reaches memory. -/
def State.npApply (s : State) (r : NpReq) : State :=
  match r.kind with
  | .read _ _ | .fetch _ _ => s
  | .write a bs => s.npStore r.cls a bs
  | .acc a t d ys => s.npAdd r.cls t d a ys
  | .merge line bs => s.npStoreMasked { line := line, bytes := bs, source := r.source, cls := r.cls, writers := [r.source], due := none } r.cls

/-- Of the requests `rs`, those to a line that must reach memory before one that is served now, and the rest: every one that changes the
line, or with `all` false those up to the last plain write or flush, since the accumulate-writes of unordered sources may pass one
another (Table 10.5). -/
def npAhead (line : Nat) (all : Bool) : List NpReq → List NpReq × List NpReq
  | [] => ([], [])
  | r :: rs =>
    let x := npAhead line all rs
    if r.kind.writes line && (all || !(r.kind.isAcc) || x.1 != []) then (r :: x.1, x.2) else (x.1, r :: x.2)

/-- R257, R261, R269: what a request that is served changes comes after what older requests to the line, among the first `n` that wait,
have to write: they reach memory first (log entry 167). -/
def State.npSettle (s : State) (line : Nat) (all : Bool) (n : Nat) : State :=
  let x := npAhead line all (s.np.waiting.take n)
  if x.1 = [] then s
  else (s.modNp (fun m => { m with waiting := x.2 ++ m.waiting.drop n })).forAll x.1 State.npApply

/-- R257: flush the entry of a line, at a class, ahead of the request that is being served. -/
def State.npFlushNow (s : State) (line : Nat) (cls : Option NpClass) : State :=
  match s.np.wc.find? (fun e => e.line = line) with
  | none => s
  | some e => ((s.npDrop line).npSettle line true s.np.waiting.length).npStoreMasked e (cls.getD e.cls)

/-- R257, R276: flush the entry of a line, at a class; while its stack holds its source's requests the flush is due and waits. -/
def State.npFlush (s : State) (line : Nat) (cls : Option NpClass) : State :=
  match s.np.wc.find? (fun e => e.line = line) with
  | none => s
  | some e =>
    if s.npBlocked e.source line then
      s.modNp (fun n => { n with wc := n.wc.map (fun x => if x.line = line then { x with due := some (cls.getD e.cls) } else x) })
    else s.npFlushNow line cls

/-- R257: the flushes that were due while their stacks held them. -/
def State.npFlushDue (s : State) : State := s.forAll (s.np.wc.filter (fun e => e.due.isSome)) (fun t e => t.npFlush e.line e.due)

/-- Merge a byte into an entry's mask, kept in order. -/
def maskPut : List (Nat × Byte) → Nat → Byte → List (Nat × Byte)
  | [], k, b => [(k, b)]
  | (i, v) :: r, k, b => if k < i then (k, b) :: (i, v) :: r else if k = i then (k, b) :: r else (i, v) :: maskPut r k b

def maskPutAll (m : List (Nat × Byte)) (k : Nat) : List Byte → List (Nat × Byte)
  | [] => m
  | b :: bs => maskPutAll (maskPut m k b) (k + 1) bs

/-- R256: the reserve of 1,024 entries is the fabric-sinked writes' pool; the other 7,168 are everyone else's. -/
def fabricPool : NpSource → Bool
  | .fabric | .fabricData => true
  | .fold | .comet | .shears | .drover | .video | .host | .queue | .queueData | .fabricGet | .scrub | .wipe => false

def poolSize (x : NpSource) : Nat := if fabricPool x then 1024 else 7168

/-- R259: the users of the narrow path that write: the queue engine's counters and ATOMICs, and the host. -/
def narrowWriter : NpSource → Bool
  | .queue | .host => true
  | .fold | .comet | .shears | .drover | .video | .queueData | .fabric | .fabricGet | .fabricData | .scrub | .wipe => false

/-- A new entry of the buffer. -/
def State.npOpen (s : State) (cls : NpClass) (src : NpSource) (a : Nat) (bs : List Byte) : State :=
  s.modNp (fun n => { n with wc := n.wc ++ [{ line := lineOf a, bytes := maskPutAll [] (a % 256) (bs.take (256 - a % 256)), source := src
                                              cls := cls, writers := [src], due := none }] })

/-- R256, R257: a partial write enters the buffer, merging into its line's entry; with its pool full the oldest entry that its stack
serves goes, and with none the hub holds the write. -/
def State.npCombine (s : State) (cls : NpClass) (src : NpSource) (a : Nat) (bs : List Byte) : State :=
  let line := lineOf a
  match s.np.wc.find? (fun e => e.line = line) with
  | some e =>
    let m := maskPutAll e.bytes (a % 256) (bs.take (256 - a % 256))
    let s1 := s.modNp (fun n => { n with wc := n.wc.map (fun x =>
      if x.line = line then { x with bytes := m, writers := if x.writers.contains src then x.writers else x.writers ++ [src] } else x) })
    if m.length = 256 then s1.npFlush line none else s1
  | none =>
    let same := s.np.wc.filter (fun e => fabricPool e.source == fabricPool src)
    if same.length < poolSize src then s.npOpen cls src a bs
    else match same.find? (fun (e : WcEntry) => !(s.npBlocked e.source e.line)) with
      | some e => (s.npFlush e.line none).npOpen cls src a bs
      | none => s.npHold (.write a (bs.take (256 - a % 256))) src cls

/-- A write that goes to its controller: at once, or after the requests that the stack holds. -/
def State.npDirect (s : State) (cls : NpClass) (src : NpSource) (a : Nat) (bs : List Byte) : State :=
  if s.npBlocked src a then s.npHold (.write a bs) src cls
  else (s.npSettle (lineOf a) true s.np.waiting.length).npStore cls a bs

/-- R259: whether the open entry of a line has data in the sector of an address. -/
def NearMem.sectorOpen (n : NearMem) (a : Nat) : Bool :=
  n.wc.any (fun e => e.line = lineOf a && e.bytes.any (fun x => x.1 / 32 = a % 256 / 32))

/-- R256, R259: a plain write of bytes within one line. -/
def State.npWriteLine (s : State) (cls : NpClass) (src : NpSource) (a : Nat) (bs : List Byte) : State :=
  if bs.length = 256 then (s.npDrop (lineOf a)).npDirect cls src a bs
  else if narrowWriter src && bs.length ≤ 32 && a / 32 == (a + bs.length - 1) / 32 && !(s.np.sectorOpen a) then s.npDirect cls src a bs
  else s.npCombine cls src a bs

/-- A plain write of any length. -/
def State.npWrite (s : State) (cls : NpClass) (src : NpSource) (a : Nat) (bs : List Byte) : State :=
  s.forAll (piecesOf a bs) (fun t x => t.npWriteLine cls src x.1 x.2)

/-- R257, R68: flush every open entry of a writer before its release becomes visible. -/
def State.npFlushSource (s : State) (src : NpSource) : State :=
  s.forAll (s.np.wc.filter (fun e => e.writers.contains src)) (fun t e => t.npFlush e.line none)

/-! ## Accumulate-write (R260 to R262) -/

/-- R260, R261: the elements of one line from address `a`: what older requests to the line have to write first, then the flush of its
entry, then the sums. -/
def State.npAccNow (s : State) (cls : NpClass) (targetBf16 addendBf16 : Bool) (a : Nat) (ys : List (Option Word)) : State :=
  ((s.npSettle (lineOf a) false s.np.waiting.length).npFlushNow (lineOf a) none).npAdd cls targetBf16 addendBf16 a ys

/-- R257: the flush of a line's entry waits at its pseudo-channel. -/
def State.npHoldEntry (s : State) (line : Nat) : State :=
  match s.np.wc.find? (fun e => e.line = line) with
  | some e => (s.npDrop line).npHold (.merge line e.bytes) e.source e.cls
  | none => s

/-- R257, R261, R276: an accumulate-write at its pseudo-channel: served now, or waiting in order of entry behind the flush of its line's
entry. -/
def State.npAccLine (s : State) (cls : NpClass) (src : NpSource) (targetBf16 addendBf16 : Bool) (a : Nat) (ys : List (Option Word)) :
    State :=
  let line := lineOf a
  if s.npBlocked src line then (s.npHoldEntry line).npHold (.acc a targetBf16 addendBf16 ys) src cls
  else s.npAccNow cls targetBf16 addendBf16 a ys

/-- Cut the elements of an accumulate-write at line boundaries. -/
def accPieces (w : Nat) : Nat → Nat → List (Option Word) → List (Nat × List (Option Word))
  | 0, _, _ => []
  | fuel + 1, a, ys =>
    if ys = [] then []
    else
      let n := (256 - a % 256) / w
      (a, ys.take n) :: accPieces w fuel (a + n * w) (ys.drop n)

def State.npAcc (s : State) (cls : NpClass) (src : NpSource) (targetBf16 addendBf16 : Bool) (a : Nat) (ys : List (Option Word)) : State :=
  s.forAll (accPieces (if targetBf16 then 2 else 4) (ys.length / 64 + 2) a ys)
    (fun t x => t.npAccLine cls src targetBf16 addendBf16 x.1 x.2)

/-! ## Serving and waiting (R263 to R266, R275) -/

/-- R257: an uncached narrow read flushes its line's entry first. -/
def narrowReader : NpSource → Bool
  | .comet | .queue | .host => true
  | .fold | .shears | .drover | .video | .queueData | .fabric | .fabricGet | .fabricData | .scrub | .wipe => false

/-- A read served now. -/
def State.npServeRead (s : State) (src : NpSource) (a len : Nat) : State :=
  let s1 := if narrowReader src && len ≤ 32 && a / 32 == (a + len - 1) / 32 then s.npFlushNow (lineOf a) none else s
  (s1.count 16 len).emit (.readData (s1.npRead a len) (s1.npPoisoned a len))

/-- Serve one request that has waited, if it still does: a write, flush or accumulate-write behind the older ones to its line. -/
def State.npServe (s : State) (r : NpReq) : State :=
  if s.np.waiting.contains r then
    match r.kind with
    | .read a len => (s.modNp (fun n => { n with waiting := n.waiting.erase r })).npServeRead r.source a len
    | .fetch _ _ => s.modNp (fun n => { n with waiting := n.waiting.erase r })
    | .write _ _ | .acc _ _ _ _ | .merge _ _ =>
      ((s.npSettle (lineOf r.kind.addr) (!r.kind.isAcc) (s.np.waiting.idxOf r)).modNp (fun n =>
        { n with waiting := n.waiting.erase r })).npApply r
  else s

/-- R263, R265: the rank of a waiting request: past the bound, then by class. -/
def NpReq.rank (r : NpReq) : Nat := if r.urgent then 0 else 1 + classCode r.cls

/-- R261, R269: what changes one line keeps the order of its entry. -/
def NpReq.keepsOrder (r x : NpReq) : Bool := !r.kind.isRead && x.kind.writes (lineOf r.kind.addr)

/-- Insert a request behind those it may not pass. -/
def npInsert (r : NpReq) : List NpReq → List NpReq
  | [] => [r]
  | x :: xs => if r.rank < x.rank && !((x :: xs).any r.keepsOrder) then r :: x :: xs else x :: npInsert r xs

/-- R264, R265: the order of service at a pseudo-channel: requests past the bound, then by class, oldest first. -/
def npOrder (rs : List NpReq) : List NpReq := rs.foldl (fun l r => npInsert r l) []

/-- Whether a waiting request still waits. -/
def State.npWaits (s : State) (r : NpReq) : Bool := r.kind.lines.any (s.npBlocked r.source)

/-- Serve every waiting request that nothing holds any more, and flush what was due. -/
def State.npServeWaiting (s : State) : State :=
  (s.forAll (npOrder (s.np.waiting.filter (fun r => !(s.npWaits r)))) State.npServe).npFlushDue

/-- R257: whether data that a source has written still waits for its stack, in the buffer or at its pseudo-channel. -/
def State.flushHeld (s : State) (src : NpSource) : Bool :=
  s.npHolds && (s.np.wc.any (fun e => e.writers.contains src && s.npBlocked e.source e.line) ||
    s.np.waiting.any (fun r => r.source == src && !r.kind.isRead && s.npWaits r))

/-- A request at its pseudo-channel, in the class of its source: served at once, or held. -/
def State.npRequest (s : State) (r : NpReq) : State :=
  match r.kind with
  | .read a len =>
    if (linesOf a len).any (s.npBlocked r.source) then s.npHold r.kind r.source (tableClass r.source true false r.cls)
    else s.npServeRead r.source a len
  | .fetch a len => if (linesOf a len).any (s.npBlocked r.source) then s.npHold r.kind r.source r.cls else s
  | .write a bs => s.npWrite (tableClass r.source false false r.cls) r.source a bs
  | .acc a t d ys => s.npAcc (tableClass r.source false true r.cls) r.source t d a ys
  | .merge line _ => s.npFlush line none

/-! ## Through a pen's page table (R353) -/

/-- 2 MiB pages. -/
def pageBytes : Nat := 2097152

/-- R353: the device address of a pen address; pen page 0 is never mapped. -/
def State.penTranslate (s : State) (pen a : Nat) : Option Nat :=
  match (s.pen pen).pages.find? (fun x => x.1 = a / pageBytes) with
  | some x => some (x.2 * pageBytes + a % pageBytes)
  | none => none

/-- Whether every byte of a range is mapped. -/
def State.penMapped (s : State) (pen a len : Nat) : Bool :=
  if len = 0 then true
  else (List.range ((a + len - 1) / pageBytes - a / pageBytes + 1)).all
    (fun i => (s.penTranslate pen ((a / pageBytes + i) * pageBytes)).isSome)

/-- One byte of a pen's space; an unmapped byte reads zero (no rule reads one). -/
def State.penByte (s : State) (pen a : Nat) : Byte :=
  match s.penTranslate pen a with
  | some d => s.npByte d
  | none => 0

def State.penRead (s : State) (pen a len : Nat) : List Byte := (List.range len).map (fun i => s.penByte pen (a + i))

def State.penPoisoned (s : State) (pen a len : Nat) : Bool :=
  (linesOf a len).any (fun l => match s.penTranslate pen l with
    | some d => s.np.poison.contains d
    | none => false)

/-- A plain write in a pen's space; bytes of unmapped pages are not written. -/
def State.penWrite (s : State) (cls : NpClass) (src : NpSource) (pen a : Nat) (bs : List Byte) : State :=
  s.forAll (piecesOf a bs) (fun t x => match t.penTranslate pen x.1 with
    | some d => t.npWriteLine cls src d x.2
    | none => t)

/-- R6: the lines that hold a pen's range become indeterminate. -/
def State.penLoosen (s : State) (pen a len : Nat) : State :=
  if len = 0 then s
  else s.forAll ((List.range ((a + len - 1) / pageBytes - a / pageBytes + 1)).map (a / pageBytes + ·)) (fun t p =>
    let lo := max a (p * pageBytes)
    match t.penTranslate pen lo with
    | some d => t.npLoosen d (min (a + len) ((p + 1) * pageBytes) - lo)
    | none => t)

/-- R266, R275: whether near pasture holds a read of a pen's range. -/
def State.penHeld (s : State) (src : NpSource) (pen a len : Nat) : Bool :=
  s.npHolds && (linesOf a len).any (fun l => match s.penTranslate pen l with
    | some d => s.npBlocked src d
    | none => false)

/-- A pen's range in device addresses, page by page. -/
def State.penPieces (s : State) (pen a len : Nat) : List (Nat × Nat) :=
  if len = 0 then []
  else ((List.range ((a + len - 1) / pageBytes - a / pageBytes + 1)).map (a / pageBytes + ·)).filterMap (fun p =>
    let lo := max a (p * pageBytes)
    (s.penTranslate pen lo).map (fun d => (d, min (a + len) ((p + 1) * pageBytes) - lo)))

/-- R264, R265, R383: the reads of a pen's range stand at their pseudo-channels while near pasture holds them; with `wait` false they have
been served. -/
def State.penFetch (s : State) (src : NpSource) (cls : NpClass) (pen a len : Nat) (wait : Bool) : State :=
  s.forAll (s.penPieces pen a len) (fun t x =>
    let k : NpKind := .fetch x.1 x.2
    if !wait then t.modNp (fun n => { n with waiting := n.waiting.filter (fun r => r.kind != k) })
    else if t.np.waiting.any (fun r => r.kind == k) then t
    else t.npRequest { kind := k, source := src, cls := cls, urgent := false })

/-- R257: the entries of the lines of a pen's range are flushed ahead of a narrow access to them. -/
def State.penFlush (s : State) (pen a len : Nat) : State :=
  s.forAll (linesOf a len) (fun t l => match t.penTranslate pen l with
    | some d => t.npFlushNow d none
    | none => t)

/-- An accumulate-write in a pen's space. -/
def State.penAcc (s : State) (cls : NpClass) (src : NpSource) (targetBf16 addendBf16 : Bool) (pen a : Nat) (ys : List (Option Word)) :
    State :=
  s.forAll (accPieces (if targetBf16 then 2 else 4) (ys.length / 64 + 2) a ys) (fun t x =>
    match t.penTranslate pen x.1 with
    | some d => t.npAccLine cls src targetBf16 addendBf16 d x.2
    | none => t)

/-! ## The commands of near pasture -/

/-- R255: an access beyond the 384 GiB has no meaning. -/
def npCommand (s : State) (r : NpReq) (len : Nat) : Result :=
  if nearBytes < r.kind.addr + len then .fault (.noSuchNearAddress r.kind.addr)
  else done (s.quiet.npRequest r)

def execNearPastureRead (cls : NpClass) (source : NpSource) (addr len : Nat) (s : State) : Result :=
  npCommand s { kind := .read addr len, source := source, cls := cls, urgent := false } len

def execNearPastureWrite (cls : NpClass) (source : NpSource) (addr : Nat) (bytes : List Byte) (s : State) : Result :=
  npCommand s { kind := .write addr bytes, source := source, cls := cls, urgent := false } bytes.length

def execAccumulateWrite (cls : NpClass) (source : NpSource) (addr : Nat) (targetBf16 addendBf16 : Bool)
    (addends : List (Option Word)) (s : State) : Result :=
  npCommand s { kind := .acc addr targetBf16 addendBf16 addends, source := source, cls := cls, urgent := false }
    (addends.length * (if targetBf16 then 2 else 4))

/-- R257: 1 µs after the entry was opened; entries of local writers wait for a Critical stack (R276). -/
def execWcAgeFlush (line : Nat) (s : State) : Result :=
  let t := s.quiet
  done (t.npFlush line (some .norm))

/-- R264: one more threshold has passed for a waiting request. -/
def execRequestAging (index : Nat) (s : State) : Result :=
  done (s.quiet.modNp (fun n => { n with waiting := n.waiting.modify index (fun r => { r with cls := promoteClass r.cls }) }))

/-- R265: a waiting request has counted 20 µs: it is served before every other, at once when nothing holds it. -/
def execRequestWaitBound (index : Nat) (s : State) : Result :=
  let t := s.quiet.modNp (fun n => { n with waiting := n.waiting.modify index (fun r => { r with urgent := true }) })
  match t.np.waiting[index]? with
  | some r =>
    done (if t.npWaits r then t else t.npServe r)
  | none => done t

/-- R273: `n` more corrected sectors of a group: with more than 1,000 in 60 s it is scheduled for retraining. -/
def PcGroup.correct (g : PcGroup) (now n : Nat) : PcGroup :=
  let l := g.corrected.filter (fun c => now ≤ c + 60000000000) ++ List.replicate (min n 1001) now
  { g with corrected := l, due := g.due || 1000 < l.length }

def State.npCorrected (s : State) (group n : Nat) : State :=
  s.modNp (fun m => { m with groups := m.groups.modify group (fun g => g.correct s.time.clock n) })

/-- R270: a corrected sector is counted, and logged with its device address. -/
def State.npCe (s : State) (addr : Nat) : State :=
  ((s.npCorrected (npGroup addr) 1).count 18 1).logFault 8 0x0201 .corrected (npStack addr) none (some (addr / 32 * 32))

def execNpCe (addr : Nat) (s : State) : Result :=
  if nearBytes ≤ addr then .fault (.noSuchNearAddress addr) else done (s.quiet.npCe addr)

/-- R270, R273: the patrol scrub has passed over a group and corrected the sectors at `corrected`, those of other groups apart.  Its
corrections come by this row alone; NP_CE stands for those that other reads have met. -/
def execPatrolScrub (group : Fin 64) (corrected : List Nat) (s : State) : Result :=
  done (s.quiet.forAll (corrected.filter (fun a => a < nearBytes && npGroup a = group.val)) State.npCe)

/-- R274: 15 minutes have passed since the group's last training. -/
def execRetrainPeriod (group : Fin 64) (s : State) : Result :=
  done (s.quiet.modNp (fun n => { n with groups := n.groups.modify group (fun g => { g with due := true }) }))

/-- R274: never while the stack is Hot, Critical or in Shutdown; the due group of the lowest number goes first (log
entry 15). -/
def State.retrainable (s : State) : Option Nat :=
  s.np.groups.zipIdx.findSome? (fun g =>
    let k := s.stackAt (g.2 / 8)
    if g.1.due && k.trained && k.tstate ≤ 1 then some g.2 else none)

/-- R274: one group at a time, and one window in any 10 ms. -/
def execRetrainWindowStart (s : State) : Result :=
  let t := s.quiet
  let spaced := match t.np.lastWindow with
    | some w => w + 10000000 ≤ t.time.clock
    | none => true
  match t.retrainable with
  | some g =>
    done (if t.np.retraining.isSome || !spaced then t
      else t.modNp (fun n => { n with
        retraining := some g
        lastWindow := some t.time.clock
        groups := n.groups.modify g (fun x => { x with due := false }) }))
  | none => done t

end Sys2Proof.Machine
end

