-- ==== Sys2Proof/Machine/Packets.lean ====
section
/-! DEFINITION. Packets and flits (R284 to R290) and the coordinates of the torus (R277, R278): their fields, how a
packet is formed, and how it leaves through a port. -/

namespace Sys2Proof.Machine

/-! ## Coordinates (R277, R278) -/

/-- R277: coordinate field of axis `a`. -/
def axisOf (c : B16) (a : Nat) : Nat := (c.toNat >>> (4 * a)) % 16

/-- R277: the extent E_a from the packed E_a − 1. -/
def extentOf (e : B16) (a : Nat) : Nat := axisOf e a + 1

/-- A coordinate with the field of axis `a` replaced. -/
def setAxis (c : B16) (a v : Nat) : B16 :=
  BitVec.ofNat 16 (((List.range 4).map (fun i => (if i = a then v % 16 else axisOf c i) <<< (4 * i))).sum)

/-- R277: whether a coordinate lies within the extents. -/
def inExtents (e c : B16) : Bool := (List.range 4).all (fun a => axisOf c a < extentOf e a)

/-- R277: the device number. -/
def deviceNumber (e c : B16) : Nat :=
  axisOf c 0 + extentOf e 0 * (axisOf c 1 + extentOf e 1 * (axisOf c 2 + extentOf e 2 * axisOf c 3))

/-- The coordinate of a device number. -/
def coordOf (e : B16) (n : Nat) : B16 :=
  let n1 := n / extentOf e 0
  let n2 := n1 / extentOf e 1
  setAxis (setAxis (setAxis (setAxis 0 0 (n % extentOf e 0)) 1 (n1 % extentOf e 1)) 2 (n2 % extentOf e 2)) 3
    (n2 / extentOf e 2 % extentOf e 3)

/-- R277: the product of the extents. -/
def extentProduct (e : B16) : Nat := extentOf e 0 * extentOf e 1 * extentOf e 2 * extentOf e 3

/-- One step from `c` on axis `a`, plus or minus, round the ring. -/
def stepOn (e c : B16) (a : Nat) (minus : Bool) : B16 :=
  let n := extentOf e a
  setAxis c a (if minus then (axisOf c a + n - 1) % n else (axisOf c a + 1) % n)

/-- R278: the device at the other end of a port. -/
def neighbourOf (e c : B16) (port : Nat) : B16 := stepOn e c (port / 2) (port % 2 = 1)

/-- R307: the own coordinate: COORD when placed, zero when not. -/
def State.ownCoord (s : State) : B16 := if s.fab.placed then s.fab.coord else 0

/-- R295: packets to this device are ejected only while its hub is present at stage 5. -/
def State.hubPresent (s : State) : Bool := s.boot.stage = 5 && s.boot.shepherdRuns && !s.fab.transitOnly

/-- R355, R357: the responses that the drain of a control-complex reset waits for are still ejected (log entry 58). -/
def State.hubAnswers (s : State) : Bool :=
  s.hubPresent || (s.boot.ccDraining && s.boot.ccStage = 5 && s.boot.shepherdRuns && !s.fab.transitOnly)

/-! ## Packets (R290, Tables 11.4 and 12.10) -/

def pType (p : Packet) : Nat := leField p 0 1
def pRoute (p : Packet) : Nat := leField p 1 1
def pVc (p : Packet) : Nat := pRoute p % 4
def pSub (p : Packet) : Nat := pRoute p / 4 % 2
def pMinus (p : Packet) : Bool := (pRoute p).testBit 3
def pAxis (p : Packet) : Nat := pRoute p / 16 % 4
def pDest (p : Packet) : B16 := BitVec.ofNat 16 (leField p 2 2)
def pSrc (p : Packet) : B16 := BitVec.ofNat 16 (leField p 4 2)
def pHops (p : Packet) : Nat := leField p 6 1
def pSlots (p : Packet) : Nat := leField p 7 1
def pClass (p : Packet) : Nat := 2 * pVc p + pSub p
def pPayload (p : Packet) : List Byte := p.drop 32

/-- R290: a packet of a type on a virtual channel: the header, 24 operation bytes and a payload in whole slots. -/
def mkPacket (ptype vc : Nat) (dest src : B16) (op payload : List Byte) : Packet :=
  [BitVec.ofNat 8 ptype, BitVec.ofNat 8 vc] ++ leBytes 2 dest.toNat ++ leBytes 2 src.toNat
    ++ [0, BitVec.ofNat 8 (2 + ceilDiv payload.length 16)] ++ padTo 24 op ++ padTo (roundUp payload.length 16) payload

/-- R291: a packet with ROUTE and HOPS set. -/
def withRoute (p : Packet) (sub : Nat) (minus : Bool) (axis hops : Nat) : Packet :=
  setBytes (setBytes p 1 [BitVec.ofNat 8 (pVc p + 4 * sub + (if minus then 8 else 0) + 16 * axis)]) 6
    [BitVec.ofNat 8 hops]

/-- R293: the REFUSAL of a request. -/
def mkRefusal (s : State) (p : Packet) (status : Nat) : Packet :=
  mkPacket 0x11 1 (pSrc p) s.ownCoord ((p.drop 8).take 23 ++ [BitVec.ofNat 8 status]) []

/-! ## Flits (R284, Table 11.3) -/

/-- The CRC of a flit: over bytes 0–11 and then 16–255. -/
def flitCrc (f : List Byte) : Nat := crc32c (f.take 12 ++ (f.drop 16).take 240)

/-- R284: the freed buffers to report, at most 63 a class, and those left to report. -/
def creditReport (freed : List Nat) : Nat × List Nat :=
  (((freed.map (min 63)).zipIdx.map (fun x => x.1 <<< (6 * x.2))).sum, freed.map (fun n => n - min 63 n))

/-- A flit of a port: its type, class, NAK bit and slots. -/
def buildFlit (p : Port) (type cls : Nat) (nak : Bool) (slots : List Byte) : List Byte × Port :=
  let rep := creditReport p.freed
  let head := leBytes 2 (p.txSeq % 4096 + type * 4096) ++
    leBytes 2 ((p.rxSeq + 4095) % 4096 + 4096 + (if nak then 8192 else 0)) ++
    [BitVec.ofNat 8 (cls / 2 + 4 * (cls % 2)), 0] ++ leBytes 6 rep.1
  let body := padTo 240 slots
  (head ++ leBytes 4 (crc32c (head ++ body)) ++ body, { p with freed := rep.2 })

/-- Send an IDLE flit, which carries ACK, NAK and credits (log entry 16: only DATA flits are numbered). -/
def State.sendIdle (s : State) (port : Nat) (nak : Bool) : State :=
  let r := buildFlit (s.port port) 1 0 nak []
  (s.modPort port (fun _ => r.2)).emit (.flit port r.1)

/-- R283, R284: a CONTROL flit (log entry 150). -/
def State.sendControl (s : State) (port purpose : Nat) : State :=
  let r := buildFlit (s.port port) 2 0 false (Config.controlSlots purpose)
  (s.modPort port (fun _ => r.2)).emit (.flit port r.1)

/-- A port has sent a numbered flit: it takes a credit and a place in the replay buffer. -/
def Port.sent (p : Port) (cls : Nat) (start : Bool) (flit : List Byte) : Port :=
  { p with txSeq := (p.txSeq + 1) % 4096, replay := p.replay ++ [{ fseq := p.txSeq, bytes := flit, start := start }]
           credits := p.credits.modify cls (· - 1) }

/-- Send a DATA flit. -/
def State.sendData (s : State) (port cls : Nat) (start : Bool) (slots : List Byte) : State :=
  let r := buildFlit (s.port port) 0 cls false slots
  (s.modPort port (fun _ => r.2.sent cls start r.1)).emit (.flit port r.1)

/-- R285, R286: whether a port can send a DATA flit of a class now. -/
def Port.canSend (p : Port) (cls : Nat) : Bool := p.lstate == .up && 1 ≤ p.credits.getD cls 0 && p.replay.length < 512

/-- R289: what a flit leaves of VC3's wait: one flit of VC3 in any 64. -/
def Port.paced (x : Port) (vc : Nat) : Port := { x with vc3Wait := if vc = 3 then x.vc3Wait + 63 else x.vc3Wait - 1 }

/-- R289, R334: a per-hop packet to the neighbour on a port, its route set: it waits at local injection, where other packets wait too.
One for a port that is not UP, or that comes while the plane drains (R297), is dropped and counted. -/
def State.sendHop (s : State) (port ptype : Nat) (op : List Byte) : State :=
  let p0 := mkPacket ptype 3 (neighbourOf s.fab.extent s.ownCoord port) s.ownCoord op []
  if (s.port port).lstate == .up && s.fab.draining.isNone then
    s.modFab (fun f => { f with inject := f.inject ++ [withRoute p0 0 (port % 2 = 1) (port / 2) 1] })
  else s.count 29 1

/-- Put a packet at the injection port; one for this device itself is ejected at once. -/
def State.enqueue (s : State) (p : Packet) : State :=
  if pDest p = s.ownCoord then s.modFab (fun f => { f with ejected := f.ejected ++ [(8, p)] })
  else s.modFab (fun f => { f with inject := f.inject ++ [p] })

/-- R332: a BEACON or PROBE, which a device without its hub refuses (log entry 187). -/
def isBeacon (p : Packet) : Bool := pType p = 0x24 && pVc p = 3

/-- R293: a packet that cannot be delivered: VC0 and VC2 are refused to their source, and a BEACON or PROBE for want of the hub (R332);
the rest is dropped and counted. -/
def State.cannotDeliver (s : State) (p : Packet) (status : Nat) : State :=
  if pVc p = 0 || pVc p = 2 || (isBeacon p && (status = 1 || status = 5)) then s.enqueue (mkRefusal s p status) else s.count 29 1

/-- R294, R297: a packet comes to the injection port, which refuses it while a topology change drains (log entry 151). -/
def State.inject (s : State) (p : Packet) : State :=
  if s.fab.draining.isSome && pDest p != s.ownCoord then s.cannotDeliver p 2 else s.enqueue p

/-- R334: a management packet to a device. -/
def State.sendMgmt (s : State) (ptype : Nat) (dest : B16) (op payload : List Byte) : State :=
  s.inject (mkPacket ptype 3 dest s.ownCoord op payload)

/-- R336: the device that the topology names as Bellwether. -/
def State.isMaster (s : State) : Bool := s.fab.placed && s.fab.coord == s.fab.bellwether

/-- R336: the packets that carry times: TIME_SYNC, DELAY_REQ and DELAY_RESP. -/
def timed (p : Packet) : Bool := 0x20 ≤ pType p && pType p ≤ 0x22 && pSlots p = 2

/-- R336: the transit plane keeps behind a packet that carries times the device time of its arrival. -/
def stamped (now : DWord) (p : Packet) : Packet := if timed p then p ++ leBytes 8 now.toNat else p

/-- R336: the device time at which a packet arrived. -/
def State.arrival (s : State) (p : Packet) : Nat := if 32 < p.length then leField p 32 8 else s.time.now.toNat

/-- R334, R336: the times that a packet of this device carries are those of its departure: the master's, that of a DELAY_REQ and of a
reply; and a follower's TIME_SYNC carries the time that it has stayed here. -/
def State.departing (s : State) (p : Packet) : Packet :=
  let now := leBytes 8 s.time.now.toNat
  if !(timed p) then p
  else if pType p = 0x20 then (if s.isMaster then setBytes p 8 now else setBytes p 20 (leBytes 8 (leField p 20 8 + s.time.now.toNat)))
  else if pType p = 0x21 then setBytes p 8 now
  else setBytes p 24 now

/-- The ports that are UP. -/
def State.upPorts (s : State) : List Nat := (List.range 8).filter (fun p => (s.port p).lstate == .up)

/-- R267: a SLOW notice on every trained port. -/
def State.sendSlow (s : State) (inForce : Bool) (stack : Nat) : State :=
  s.forAll s.upPorts (fun t p => t.sendHop p 0x2B [BitVec.ofNat 8 (natOfBool inForce), BitVec.ofNat 8 stack])

/-- The first ejected packet of a virtual channel, when its type is the one wanted. -/
def State.headPacket (s : State) (vc ptype : Nat) : Option (Nat × Packet) :=
  match s.fab.ejected.find? (fun x => pVc x.2 = vc) with
  | some x => if pType x.2 = ptype then some x else none
  | none => none

/-- The first ejected packet of a type (management packets are not ordered among themselves). -/
def State.mgmtPacket (s : State) (ptype : Nat) : Option (Nat × Packet) :=
  s.fab.ejected.find? (fun x => pType x.2 = ptype && pVc x.2 = 3)

/-- Remove the first occurrence of a packet from the ejected ones. -/
def State.takePacket (s : State) (x : Nat × Packet) : State :=
  s.modFab (fun f => { f with ejected := f.ejected.erase x })

end Sys2Proof.Machine
end

