-- ==== Sys2Proof/Machine/Fabric.lean ====
section
/-! DEFINITION. The transit plane (chapter 11): negotiation, flits, ring notices and the routing of packets. -/

namespace Sys2Proof.Machine

/-! ## Rings (R292) -/

/-- R292: the coordinate from which a port's link leads in the plus direction. -/
def linkStart (e c : B16) (port : Nat) : Nat :=
  let a := port / 2
  if port % 2 = 0 then axisOf c a else (axisOf c a + extentOf e a - 1) % extentOf e a

/-- Breaks of a ring with one link broken or restored, ascending. -/
def setBreak (bs : List Nat) (at' : Nat) (broken : Bool) : List Nat :=
  let rest := bs.filter (· != at')
  if broken then rest.filter (· < at') ++ [at'] ++ rest.filter (at' < ·) else rest

/-- The ROP queues with an unanswered fragment whose route takes an axis. -/
def State.queuesOnAxis (s : State) (axis : Nat) : List Nat :=
  (s.qe.rops.filter (fun r => !r.waiting && (r.frags.contains .inFlight || r.frags.contains .again) &&
    axisOf (BitVec.ofNat 16 (leField r.desc 4 2)) axis != axisOf s.ownCoord axis)).map (·.queue)

/-- R292, R316: update FAB_RING, count a route epoch and hold the queues with packets in flight on the axis. -/
def State.ringChange (s : State) (axis at' : Nat) (broken : Bool) : State :=
  let held := s.queuesOnAxis axis
  ((s.modFab (fun f => { f with
      rings := f.rings.modify axis (fun r => { r with breaks := setBreak r.breaks at' broken })
      routeEpoch := (f.routeEpoch + 1) % 256 })).modQe
    (fun q => { q with queues := q.queues.map (fun x => if held.contains x.id then { x with routeHold := true } else x) }))

/-- The RING_NOTICE bytes: axis, link, broken (log entry 17). -/
def ringNoticeOp (axis at' : Nat) (broken : Bool) : List Byte :=
  [BitVec.ofNat 8 axis, BitVec.ofNat 8 at', BitVec.ofNat 8 (natOfBool broken)]

/-- R292: whether a ring's entry shows a link as broken. -/
def State.linkBroken (s : State) (axis at' : Nat) : Bool := ((s.fab.rings.getD axis { breaks := [] }).breaks).contains at'

/-- R292: a port of this device changed: the ring's entry follows, and the notice goes both ways round the axis. -/
def State.portChange (s : State) (port : Nat) (broken : Bool) : State :=
  if s.fab.placed then
    let axis := port / 2
    let at' := linkStart s.fab.extent s.fab.coord port
    let t := if s.linkBroken axis at' = broken then s else s.ringChange axis at' broken
    t.forAll ((t.upPorts).filter (fun p => p / 2 = axis)) (fun u p => u.sendHop p 0x2C (ringNoticeOp axis at' broken))
  else s

/-! ## Slots into packets (R284) -/

/-- Cut whole packets off a run of slots; a slot that starts with zero where a packet would start is free.  Answers
the packets, the rest and the number of free slots. -/
def cutPackets : Nat → List Byte → List Packet → Nat → List Packet × List Byte × Nat
  | 0, rest, acc, fr => (acc, rest, fr)
  | n + 1, bs, acc, fr =>
    if bs = [] then (acc, [], fr)
    else if pType bs = 0 then cutPackets n (bs.drop 16) acc (fr + 1)
    else
      let len := 16 * max 2 (pSlots bs)
      if bs.length < len then (acc, bs, fr) else cutPackets n (bs.drop len) (acc ++ [bs.take len]) fr

/-- Table 11.3 CLASS. -/
def flitClass (f : List Byte) : Nat := 2 * (leField f 4 1 % 4) + leField f 4 1 / 4 % 2

/-- R287: the packets that a replay buffer still holds whole; one whose first flit was acknowledged is the receiver's. -/
def replayPackets (replay : List SentFlit) : List Packet :=
  (List.range 8).flatMap (fun cls =>
    (cutPackets 8192 (((replay.filter (fun f => flitClass f.bytes = cls)).dropWhile (fun f => !f.start)).flatMap
      (fun f => f.bytes.drop 16)) [] 0).1)

/-- R287: a packet received in part; one without its whole header cannot be refused. -/
def State.lostPart (s : State) (bs : List Byte) : State :=
  if bs = [] then s else if bs.length < 32 then s.count 29 1 else s.cannotDeliver bs 2

/-- R287: a port's link state after it went DOWN: its buffers are empty. -/
def Port.fallen (p : Port) : Port :=
  { p with
    lstate := .down, peerValid := false, replay := [], replays := 0, nakSent := none
    partials := List.replicate 8 [], buffers := List.replicate 8 [], held := List.replicate 8 [], credits := List.replicate 8 0
    freed := List.replicate 8 0, slow := false, vc3Wait := 0, sending := List.replicate 4 none }

/-- The rest of a run of flit buffers, by the slots taken in each, once `n` slots have left, and how many buffers that frees. -/
def takeSlots : List Nat → Nat → List Nat × Nat
  | [], _ => ([], 0)
  | b :: r, n => if n < b then ((b - n) :: r, 0) else ((takeSlots r (n - b)).1, (takeSlots r (n - b)).2 + 1)

/-- R284: the head packet of a class leaves the receive side. -/
def Port.forwarded (x : Port) (cls slots : Nat) : Port :=
  let r := takeSlots (x.held.getD cls []) slots
  { x with buffers := x.buffers.modify cls List.tail, held := x.held.set cls r.1, freed := x.freed.modify cls (· + r.2) }

/-- R284: a port reports the buffers it has freed: with nothing to send, in an IDLE flit. -/
def State.reportFreed (s : State) (port : Nat) : State :=
  if (s.port port).lstate == .up && (creditReport (s.port port).freed).1 != 0 then s.sendIdle port false else s

/-- R284: the buffers of a packet that leaves a port's receive side are freed. -/
def State.freePacket (s : State) (input : Nat) (p : Packet) : State :=
  if input < 8 then (s.modPort input (fun x => x.forwarded (pClass p) (max 2 (pSlots p)))).reportFreed input
  else s.modFab (fun f => { f with inject := f.inject.erase p })

/-- R289: whether some port is sending the packet at the head of a class of an input. -/
def State.inProgress (s : State) (input cls : Nat) : Bool :=
  (List.range 8).any (fun o => (s.port o).sending.any (fun x => x.any (fun y => y.input = input && y.cls = cls && y.alive)))

/-- R287: the packets in a port's receive buffers, but for those of which flits have left already. -/
def State.heldPackets (s : State) (port : Nat) : List Packet :=
  (s.port port).buffers.zipIdx.flatMap (fun x => if s.inProgress port x.2 then x.1.tail else x.1)

/-- R287: an output port goes DOWN in the middle of a packet: the packet is still at its input unless its first flit was acknowledged;
then it is the receiver's. -/
def State.breakOff (s : State) (old : Port) (x : Sending) : State :=
  if old.replay.any (fun f => f.start && f.fseq = x.first) then (if x.alive then s else s.cannotDeliver x.packet 2)
  else if x.alive then s.freePacket x.input x.packet else s

/-- R287: the packets that ports are sending from an input that goes DOWN are with those ports alone. -/
def Port.orphan (p : Port) (input : Nat) : Port :=
  { p with sending := p.sending.map (fun x => x.map (fun y => if y.input = input then { y with alive := false } else y)) }

/-! ## A port going DOWN (R287) -/

/-- R287: discard the port's buffers, handle their packets under R293, log, and give the ring notices. -/
def State.portDown (s : State) (port : Nat) : State :=
  let old := s.port port
  let held := s.heldPackets port ++ replayPackets old.replay
  let t := ((s.modPort port Port.fallen).forAll (List.range 8) (fun u o => u.modPort o (fun p => p.orphan port))).forAll old.partials State.lostPart
  let u := (t.forAll (old.sending.filterMap id) (fun v x => v.breakOff old x)).forAll held (fun v p => v.cannotDeliver p 2)
  (u.logFault 11 0x0702 .corrected port).portChange port true

/-! ## Negotiation (R281 to R283) -/

/-- Table 11.1: lane sets by width, widest first, lowest-numbered lanes first: (WIDTH code, lowest lane, lanes). -/
def laneSets : List (Nat × Nat × Nat) :=
  [(0, 0, 0xFF), (1, 0, 0x0F), (1, 4, 0xF0), (2, 0, 0x03), (2, 2, 0x0C), (2, 4, 0x30), (2, 6, 0xC0)]

/-- The widest wholly good lane set. -/
def bestLanes (good : Byte) : Option (Nat × Nat × Nat) := laneSets.find? (fun x => good.toNat &&& x.2.2 == x.2.2)

/-- The number of lanes set. -/
def laneCount (b : Byte) : Nat := ((List.range 8).filter (fun i => b.getLsbD i)).length

/-- R278: a placed device with extent 1 on the axis has the port disabled. -/
def State.portDisabled (s : State) (port : Nat) : Bool := s.fab.placed && extentOf s.fab.extent (port / 2) = 1

/-- R281: a negotiation starts; every start but the first is a restart. -/
def Port.negotiate (p : Port) : Port :=
  { p with lstate := .training, peerValid := false, trained := true, retrains := if p.trained then satInc p.retrains 255 else p.retrains }

/-- R281, T0: signal on two lanes starts training, whatever the device's stage; a port that has failed three times waits for its
retry. -/
def execPortSignalDetect (port : Fin 8) (lanes : Byte) (s : State) : Result :=
  let t := s.quiet
  let p := t.port port
  done (if t.transitLive && p.lstate == .down && 2 ≤ laneCount lanes && p.failures < 3 then
      t.modPort port (fun p => if t.portDisabled port then { p with lstate := .disabled, peerValid := false } else p.negotiate)
    else t)

/-- R282: the peer that a placed device expects behind a port. -/
def State.peerExpected (s : State) (port : Nat) (coord extent : B16) (peer : Nat) : Bool :=
  coord == neighbourOf s.fab.extent s.fab.coord port && extent == s.fab.extent && peer = (if port % 2 = 0 then port + 1 else port - 1)

/-- R281 T3, R282: the training frames give the peer; a placed device checks it against the wiring. -/
def execTrainingFrame (port : Fin 8) (coord extent : B16) (peerPort : Fin 8) (slOk : Bool) (s : State) : Result :=
  let t := s.quiet
  if (t.port port).lstate == .training then
    let u := t.modPort port (fun p => { p with peerValid := true, peerCoord := coord, peerPort := peerPort.val, slPermitted := slOk })
    done (if t.fab.placed && !t.peerExpected port coord extent peerPort then
        (u.modPort port (fun p => { p with lstate := .disabled })).logFault 11 0x0701 .uncontained port none none
          (coord.toNat + peerPort.val <<< 16)
      else u)
  else done t

/-- R281 T2: two adjacent lanes, which keep the negotiation at the higher rate. -/
def adjacentLanes (b : Byte) : Bool := (List.range 7).any (fun i => b.getLsbD i && b.getLsbD (i + 1))

/-- R281 T5: the mode of lanes measured good at each rate: whether it is the lower rate, the good lanes, and the lanes of the width; the
lower rate is trained only where no two adjacent lanes converged at the higher. -/
def linkMode (goodFast goodSlow : Byte) : Option (Bool × Byte × (Nat × Nat × Nat)) :=
  match bestLanes goodFast with
  | some l => some (false, goodFast, l)
  | none => if adjacentLanes goodFast then none else (bestLanes goodSlow).map (fun l => (true, goodSlow, l))

/-- R281 T6: the port is UP in its mode, with every buffer granted (R286). -/
def Port.rise (p : Port) (slow : Bool) (good : Byte) (l : Nat × Nat × Nat) (lightBer : Byte) : Port :=
  { p with
    lstate := .up, width := l.1, laneLo := l.2.1, slowRate := slow, laneGood := good, failures := 0
    sl := p.slPermitted && (lightBer.toNat &&& l.2.2 == l.2.2)
    txSeq := 0, rxSeq := 0, nakSent := none, replay := [], replays := 0, credits := List.replicate 8 256
    freed := List.replicate 8 0, held := List.replicate 8 [], partials := List.replicate 8 [], buffers := List.replicate 8 []
    vc3Wait := 0, sending := List.replicate 4 none }

/-- R281 T5 and T6: the mode is fixed and the CONTROL flits grant every buffer (R286); R283: on a port that is UP, the measurement of its
idle lanes, retrained in the background (log entry 147). -/
def execPortUp (port : Fin 8) (goodFast goodSlow lightBer : Byte) (s : State) : Result :=
  let t := s.quiet
  let p := t.port port
  if p.lstate == .up then done (t.modPort port (fun p => { p with laneGood := p.laneGood ||| (if p.slowRate then goodSlow else goodFast) }))
  else match linkMode goodFast goodSlow with
    | some (slow, good, l) =>
      done (if p.lstate == .training && p.peerValid then
          ((t.modPort port (fun p => p.rise slow good l lightBer)).sendControl port 0).portChange port false
        else t)
    | none => done t

/-- R281: a negotiation not UP within 500 ms is restarted; after the third failure the port waits. -/
def execNegotiationTimeout (port : Fin 8) (s : State) : Result :=
  let t := s.quiet
  let p := t.port port
  done (if p.lstate == .training then
      t.modPort port (fun p => if p.failures + 1 < 3
        then { p.negotiate with failures := p.failures + 1 }
        else { p with failures := p.failures + 1, lstate := .down, peerValid := false })
    else t)

/-- R281: after three failures the port retries every 1 s; every restart counts. -/
def execNegotiationRetry (port : Fin 8) (s : State) : Result :=
  let t := s.quiet
  let p := t.port port
  done (if p.lstate == .down && 3 ≤ p.failures then
      t.modPort port Port.negotiate
    else t)

/-- R283: control flits agree the boundary at which a port's lanes change from what they were. -/
def State.controlWidth (s : State) (port : Nat) (old : Port) : State :=
  if (s.port port).width = old.width && (s.port port).laneLo = old.laneLo then s else s.sendControl port 1

/-- R283: a bad lane of the width moves the port to the widest all-good width; with none left it goes DOWN (log entry
18). -/
def execLaneNarrowing (port lane : Fin 8) (s : State) : Result :=
  let t := s.quiet
  let p := t.port port
  if p.lstate == .up && p.laneGood.getLsbD lane then
    let good := p.laneGood &&& ~~~(1#8 <<< lane.val)
    match bestLanes good with
    | some l => done ((t.modPort port (fun p => { p with laneGood := good, width := l.1, laneLo := l.2.1 })).controlWidth port p)
    | none => done ((t.modPort port (fun p => { p with laneGood := good })).portDown port)
  else done t

/-- R283: all eight lanes have passed 10 s of measurement. -/
def execLaneWidening (port : Fin 8) (s : State) : Result :=
  let t := s.quiet
  done (if (t.port port).lstate == .up then
      (t.modPort port (fun p => { p with laneGood := 0xFF, width := 0, laneLo := 0 })).controlWidth port (t.port port)
    else t)

def execLossOfSignal (port : Fin 8) (s : State) : Result :=
  let t := s.quiet
  match (t.port port).lstate with
  | .up => done (t.portDown port)
  | .training => done (t.modPort port (fun p => { p with lstate := .down, peerValid := false }))
  | .down | .disabled => done t

def execValidFlitTimeout (port : Fin 8) (s : State) : Result :=
  let t := s.quiet
  done (if (t.port port).lstate == .up then t.portDown port else t)

/-! ## Flits received (R284 to R287) -/

/-- R285: acknowledged flits leave the replay buffer. -/
def dropAcked (ack : Nat) (replay : List SentFlit) : List SentFlit :=
  match replay.findIdx? (fun x => x.fseq = ack) with
  | some i => replay.drop (i + 1)
  | none => replay

/-- R284, R285: ACK and CREDITS of a good flit. -/
def Port.heard (p : Port) (f : List Byte) : Port :=
  let ackField := leField f 2 2
  let replay := if ackField.testBit 12 then dropAcked (ackField % 4096) p.replay else p.replay
  let cr := leField f 6 6
  { p with replay := replay
           replays := if replay.head?.map (·.fseq) = p.replay.head?.map (·.fseq) then p.replays else 0
           credits := p.credits.zipIdx.map (fun x => min 256 (x.1 + bitsOf cr (6 * x.2 + 5) (6 * x.2))) }

/-- R285: a NAK replays every flit still held; the eighth replay of one flit takes the port DOWN (R287). -/
def State.replayAll (s : State) (port : Nat) : State :=
  let p := s.port port
  if p.replay = [] then s
  else
    let t := ((s.modPort port (fun p => { p with replays := p.replays + 1 })).count 28 p.replay.length).forAll p.replay
      (fun t x => t.emit (.flit port x.bytes))
    if 7 ≤ p.replays then t.portDown port else t

/-- R286: the longest time in ns from a NAK to the first flit of its replay, over a channel of 250 ns each way. -/
def roundTrip : Nat := 500

/-- R285: ask for replay; not again while the replay can still be on its way (log entry 184). -/
def State.sendNak (s : State) (port : Nat) : State :=
  if (s.port port).nakSent.any (fun t => s.time.clock < t + roundTrip) then s
  else (s.modPort port (fun p => { p with nakSent := some s.time.clock })).sendIdle port true

/-- The slots of a DATA flit accepted at `now` join their class. -/
def Port.accept (p : Port) (cls : Nat) (slots : List Byte) (now : DWord) : Port :=
  let r := cutPackets 64 (p.partials.getD cls [] ++ slots) [] 0
  { p with rxSeq := (p.rxSeq + 1) % 4096, nakSent := none
           partials := p.partials.set cls r.2.1
           buffers := p.buffers.modify cls (· ++ r.1.map (stamped now))
           held := if r.2.2 < 15 then p.held.modify cls (· ++ [15 - r.2.2]) else p.held
           freed := if r.2.2 < 15 then p.freed else p.freed.modify cls (· + 1) }

/-- R284, R285: the header of a flit takes effect: its ACK and CREDITS, and a NAK. -/
def State.hear (s : State) (port : Nat) (f : List Byte) : State :=
  let t := s.modPort port (fun p => p.heard f)
  if (leField f 2 2).testBit 13 then t.replayAll port else t

/-- R284, R285: a good DATA flit: the next in order is taken; a repetition, and what follows a lost one, is discarded whole. -/
def State.dataFlit (s : State) (port : Nat) (f : List Byte) : State :=
  let p := s.port port
  let seq := leField f 0 2 % 4096
  if seq = p.rxSeq then
    let t := s.hear port f
    if (t.port port).lstate == .up then (t.modPort port (fun x => x.accept (flitClass f) (f.drop 16) t.time.now)).sendIdle port false else t
  else if (p.rxSeq + 4096 - seq) % 4096 ≤ 512 then s.sendIdle port false
  else s.sendNak port

/-- R285: a good flit without data shows by its number whether a DATA flit before it is missing (log entry 16). -/
def State.idleFlit (s : State) (port : Nat) (f : List Byte) : State :=
  let t := s.hear port f
  if (t.port port).lstate != .up then t
  else if leField f 0 2 % 4096 = (t.port port).rxSeq then t.modPort port (fun p => { p with nakSent := none })
  else t.sendNak port

def execFlit (port : Fin 8) (bytes : List Byte) (s : State) : Result :=
  let t := s.quiet
  done (if (t.port port).lstate != .up then t
    else if bytes.length != 256 || leField bytes 12 4 != flitCrc bytes then t.sendNak port
    else if bitsOf (leField bytes 0 2) 13 12 = 0 then t.dataFlit port bytes
    else t.idleFlit port bytes)

/-! ## Routing (R291, R293) -/

/-- Whether the way from `c` to `d` on a ring of `n` crosses one of the breaks. -/
def crosses (n c d : Nat) (minus : Bool) (breaks : List Nat) : Bool :=
  breaks.any (fun b => if minus then (b + n - d) % n < (c + n - d) % n else (b + n - c) % n < (d + n - c) % n)

/-- R291: the direction on entering an axis; none beyond two breaks. -/
def chooseDir (n c d src : Nat) (breaks : List Nat) : Option Bool :=
  let fwd := (d + n - c) % n
  let usual := if fwd < n - fwd then false else if n - fwd < fwd then true else src % 2 = 1
  if breaks = [] then some usual
  else if !(crosses n c d usual breaks) then some usual
  else if !(crosses n c d (!usual) breaks) then some (!usual)
  else none

/-- What the transit plane does with a packet. -/
inductive Routed where
  | eject
  | forward (port : Nat) (p : Packet)
  | refuse (status : Nat)
  | drop
deriving DecidableEq, Repr

/-- The way onward: the axis, the direction and the sub-channel before the link. -/
def State.onward (s : State) (fromPort : Bool) (p : Packet) : Option (Nat × Option Bool × Nat) :=
  let e := s.fab.extent
  let c := s.fab.coord
  if fromPort && axisOf c (pAxis p) != axisOf (pDest p) (pAxis p) then some (pAxis p, some (pMinus p), pSub p)
  else
    (List.range 4).findSome? (fun a =>
      if axisOf c a = axisOf (pDest p) a then none
      else some (a, chooseDir (extentOf e a) (axisOf c a) (axisOf (pDest p) a) (axisOf (pSrc p) a)
        ((s.fab.rings.getD a { breaks := [] }).breaks), 0))

/-- R334: the management types defined; the rest of 0x20–0x2F and undefined types are dropped and counted. -/
def knownType (t : Nat) : Bool :=
  (1 ≤ t && t ≤ 5) || (0x10 ≤ t && t ≤ 0x13) || (0x20 ≤ t && t ≤ 0x2D)

/-- R291, R293, R295 to R297: the fate of a packet; a per-hop packet of this device, which alone has HOPS set before it leaves, goes by
its own port. -/
def State.routePacket (s : State) (fromPort : Bool) (p : Packet) : Routed :=
  if !fromPort && pHops p != 0 then
    let port := 2 * pAxis p + natOfBool (pMinus p)
    if (s.port port).lstate == .up then .forward port p else .drop
  else if !s.fab.placed then .drop
  else if !(inExtents s.fab.extent (pDest p)) then .refuse 3
  else if pDest p = s.fab.coord then
    if !(knownType (pType p)) then .drop
    else if pVc p = 3 && (!(isBeacon p) || s.hubPresent) then .eject
    else if s.hubPresent || (pVc p = 1 && s.hubAnswers) then .eject
    else .refuse (if s.fab.transitOnly then 5 else 1)
  else
    match s.onward fromPort p with
    | none => .drop
    | some (_, none, _) => .refuse 2
    | some (a, some minus, sub) =>
      let port := 2 * a + natOfBool minus
      let c := axisOf s.fab.coord a
      let dateline := if minus then c = 0 else c + 1 = extentOf s.fab.extent a
      if 60 < pHops p + 1 then .refuse 4
      else if (s.port port).lstate != .up then .refuse 2
      else .forward port (withRoute p (if dateline then 1 else sub) minus a (pHops p + 1))

/-- The packet at the head of an input's class; input 8 is local injection. -/
def State.inputHead (s : State) (input cls : Nat) : Option Packet :=
  if input < 8 then ((s.port input).buffers.getD cls []).head? else s.fab.inject.find? (fun p => pClass p = cls)

/-! ## Arbitration (R289) -/

/-- Of the packets that a port could begin to send on a virtual channel: the input. -/
def State.newFor (s : State) (port : Nat) : List (Nat × Nat) :=
  (List.range 9).flatMap (fun i => (List.range 8).filterMap (fun c => match s.inputHead i c with
    | none => none
    | some p => match s.routePacket (i < 8) p with
      | .forward o q => if o = port && !(s.inProgress i c) && (s.port port).canSend (pClass q) then some (i, pVc q) else none
      | .eject | .refuse _ | .drop => none))

/-- What an output port could send now: input and virtual channel: on each channel the packet that it is sending, else new ones. -/
def State.readyFor (s : State) (port : Nat) : List (Nat × Nat) :=
  let fresh := s.newFor port
  (List.range 4).flatMap (fun v => match (s.port port).sending.getD v none with
    | some x => if (s.port port).canSend (pClass x.out) then [(x.input, v)] else []
    | none => fresh.filter (fun r => r.2 = v))

/-- The next of `n` in turn after `last` that satisfies `ready`. -/
def turnAfter (n last : Nat) (ready : Nat → Bool) : Option Nat :=
  ((List.range n).map (fun k => (last + 1 + k) % n)).find? ready

/-- R289: the virtual channel and the input of the next flit of an output port: VC3 first, once 64 flits have passed since its last or
nothing else is ready; VC0 to VC2 in turn; and within a channel the inputs in turn, a packet at a time. -/
def State.nextTurn (s : State) (port : Nat) : Option (Nat × Nat) :=
  let x := s.port port
  let ready := s.readyFor port
  let has (v : Nat) : Bool := ready.any (fun r => r.2 = v)
  let vc := if has 3 && (x.vc3Wait = 0 || !(has 0 || has 1 || has 2)) then some 3 else turnAfter 3 x.lastVc has
  match vc with
  | none => none
  | some v => (turnAfter 9 (x.lastInput.getD v 8) (fun i => ready.contains (i, v))).map (fun i => (v, i))

/-- R289: a port begins a packet of an input: the turn of the inputs moves on. -/
def Port.begin (p : Port) (x : Sending) : Port :=
  { p with sending := p.sending.set (pVc x.out) (some { x with first := p.txSeq }), lastInput := p.lastInput.set (pVc x.out) x.input }

/-- R289: a port has sent a flit of a channel, of whose packet `left` remains. -/
def Port.flitSent (p : Port) (vc : Nat) (left : List Byte) : Port :=
  { p.paced vc with lastVc := if vc = 3 then p.lastVc else vc
                    sending := p.sending.modify vc (fun x => if left = [] then none else x.map (fun y => { y with left := left })) }

/-- R284, R289: a port sends the next flit of the packet in progress on a channel; with its last one the packet leaves its input. -/
def State.sendFlit (s : State) (port : Nat) (x : Sending) (start : Bool) : State :=
  let left := x.left.drop 240
  let t := (s.sendData port (pClass x.out) start (x.left.take 240)).modPort port (fun p => p.flitSent (pVc x.out) left)
  if left = [] then (if x.alive then t.freePacket x.input x.packet else t).count (if x.input = 8 then 25 else 27) (16 * pSlots x.out) else t

/-- The packet that a port is sending from a class of an input, one that the input no longer holds before others. -/
def State.sendingFrom (s : State) (input cls : Nat) : Option (Nat × Sending) :=
  let all := (List.range 8).flatMap (fun o => ((s.port o).sending.filterMap id).filterMap (fun x =>
    if x.input = input && x.cls = cls then some (o, x) else none))
  (all.filter (fun x => !x.2.alive) ++ all).head?

/-- R288 to R297: the transit plane takes the packet at the head of an input; one that is to be forwarded waits for its turn at the
output port and then leaves flit by flit, a command each (log entry 133). -/
def execPacket (input : Fin 9) (cls : Fin 8) (s : State) : Result :=
  let t := s.quiet
  match t.sendingFrom input cls with
  | some (port, x) =>
    done (if (t.port port).canSend (pClass x.out) && t.nextTurn port = some (pVc x.out, input.val) then t.sendFlit port x false else t)
  | none => match t.inputHead input cls with
    | none => done t
    | some p =>
      match t.routePacket (input.val < 8) p with
      | .eject => done (((t.freePacket input p).modFab (fun f => { f with ejected := f.ejected ++ [(input.val, p)] })).count 26 (16 * pSlots p))
      | .drop => done ((t.freePacket input p).count 29 1)
      | .refuse st => done ((t.freePacket input p).cannotDeliver p st)
      | .forward port q =>
        let out := if input.val = 8 then t.departing q else q
        let x : Sending := { input := input, cls := cls, packet := p, out := out, left := out.take (16 * pSlots out), first := 0, alive := true }
        done (if (t.port port).canSend (pClass q) && t.nextTurn port = some (pVc q, input.val) then
            (t.modPort port (fun y => y.begin x)).sendFlit port x true
          else t)

/-- R292: a notice updates FAB_RING and is sent on round the ring while it brings something new. -/
def execRingNotice (s : State) : Result :=
  let t := s.quiet
  match t.mgmtPacket 0x2C with
  | none => done t
  | some (inp, p) =>
    let axis := leField p 8 1 % 4
    let at' := leField p 9 1
    let broken := leField p 10 1 = 1
    let u := t.takePacket (inp, p)
    if t.linkBroken axis at' = broken then done u
    else
      let v := u.ringChange axis at' broken
      done (v.forAll (v.upPorts.filter (fun q => q / 2 = axis && q != inp))
        (fun w q => w.sendHop q 0x2C (ringNoticeOp axis at' broken)))

end Sys2Proof.Machine
end

