-- ==== Sys2Proof/Machine/Queue.lean ====
section
/-! DEFINITION. Hardware queues (R299 to R305): contexts, rings, completion entries and doorbells. -/

namespace Sys2Proof.Machine

/-! ## Contexts -/

/-- Table 12.1. -/
def QType.code : QType → Nat
  | .free => 0
  | .opr => 1
  | .rop => 2
  | .cpl => 3
  | .vid => 4

/-- Table 12.1: bytes of an entry. -/
def QType.entryBytes : QType → Nat
  | .opr => 256
  | .vid => 128
  | _ => 64

/-- R300: the context of a queue that is not FREE. -/
def State.queue? (s : State) (q : Nat) : Option Queue := s.qe.queues.find? (fun x => x.id = q)

def State.modQueue (s : State) (q : Nat) (f : Queue → Queue) : State :=
  s.modQe (fun e => { e with queues := e.queues.map (fun x => if x.id = q then f x else x) })

/-- Table 12.3: entries of the ring. -/
def Queue.size (q : Queue) : Nat := 2 ^ (q.log2 + 6)

/-- Entries between HEAD and TAIL. -/
def Queue.fill (q : Queue) : Nat := (q.tail - q.head).toNat

/-- R303, Table 12.2: the queue takes no entry; HALT_INFO holds the status and the entry index (log entry 19). -/
def Queue.halt (q : Queue) (status : Nat) : Queue :=
  { q with halted := true, haltInfo := BitVec.ofNat 32 (status + (q.head.toNat % 2 ^ 24) * 256) }

/-- R348, R397, R424: the function whose vectors and requester ID a queue uses. -/
def State.queueFunction (s : State) (q : Queue) : Nat := s.penFunction q.pen

/-! ## Completion entries (R305) -/

/-- Table 12.5: the 64 bytes of an entry. -/
def cplEntry (kind src : Nat) (payload : List Byte) (phase : Bool) : List Byte :=
  padTo 32 payload ++ leBytes 4 (src % 2 ^ 20 + kind <<< 20) ++ List.replicate 27 0 ++ [BitVec.ofNat 8 (natOfBool phase)]

/-- R305: an event of a CPL queue itself goes to no ring; it is logged. -/
def State.logQueueEvent (s : State) (q : Queue) (status : Nat) : State :=
  s.logFault 9 0x0505 .corrected (s.queueFunction q) none none (q.id + status <<< 32)

/-- Write one entry into a CPL ring with room; an unmapped ring halts and keeps the entry, ahead of those produced after it. -/
def State.putCpl (s : State) (q : Queue) (e : Nat × Nat × List Byte) : State :=
  let phase := q.tail.toNat / q.size % 2 = 0
  let bytes := cplEntry e.1 e.2.1 e.2.2 phase
  let addr := q.ringAddr + 64 * (q.tail.toNat % q.size)
  if !q.cplHost && !(s.penMapped q.pen addr 64) then
    (s.modQueue q.id (fun x => { x.halt 0x21 with waitingCpl := e :: x.waitingCpl })).logQueueEvent q 0x21
  else
    let s1 := if q.cplHost then s.emit (.dma (s.queueFunction q) addr bytes true) else s.penWrite .norm .queueData q.pen addr bytes
    let s2 := s1.modQueue q.id (fun x => { x with tail := x.tail + 1 })
    if q.cplIrq && q.head == q.tail then s2.raiseVector (s.queueFunction q) q.irqVector else s2

/-- R305: an entry for a CPL queue: discarded when FREE, held when the ring is halted or full, written otherwise. -/
def State.cpl (s : State) (cq kind src : Nat) (payload : List Byte) : State :=
  match s.queue? cq with
  | none => s
  | some q =>
    if q.type != .cpl then s
    else if q.halted || q.waitingCpl != [] || q.size ≤ q.fill then
      s.modQueue cq (fun x => { x with waitingCpl := x.waitingCpl ++ [(kind, src, payload)] })
    else s.putCpl q (kind, src, payload)

/-- Write the held entries that now fit, in the order they were produced. -/
def State.drainCpl (s : State) (cq : Nat) : Nat → State
  | 0 => s
  | n + 1 =>
    match s.queue? cq with
    | none => s
    | some q =>
      match q.waitingCpl with
      | [] => s
      | e :: rest =>
        if q.halted || q.size ≤ q.fill then s
        else
          let s1 := s.modQueue cq (fun x => { x with waitingCpl := rest })
          match s1.queue? cq with
          | some q1 => State.drainCpl (s1.putCpl q1 e) cq n
          | none => s1

/-- Device time as the records carry it: ns and epoch. -/
def State.timeBytes (s : State) : List Byte := leBytes 8 s.time.now.toNat ++ leBytes 2 s.time.epoch.toNat

/-- R305, Table 12.6: a queue event: an entry of KIND 2, or, of a CPL queue, a logged record. -/
def State.queueEvent (s : State) (q : Queue) (status : Nat) : State :=
  if q.type = .cpl then s.logQueueEvent q status
  else s.cpl q.cplQid.toNat 2 q.id
    (leBytes 4 q.head.toNat ++ [BitVec.ofNat 8 status, BitVec.ofNat 8 q.type.code, 0, 0] ++ s.timeBytes)

/-- Halt a queue with an event of Table 12.6. -/
def State.haltEvent (s : State) (q : Queue) (status : Nat) : State :=
  (s.modQueue q.id (fun x => x.halt status)).queueEvent q status

/-! ## Taking entries (R302, R347) -/

/-- R347: whether the pen's state lets a queue's entries be taken. -/
def takingState (t : QType) (p : PenState) : Bool :=
  match t with
  | .opr | .rop => p = .running
  | .vid => p = .ready || p = .running || p = .quiescing || p = .quiesced
  | .cpl | .free => false

/-- Where the head entry lies. -/
def Queue.headAddr (q : Queue) : Nat := q.ringAddr + q.type.entryBytes * (q.head.toNat % q.size)

/-- R305: a completion of an OPR ring waits for room in its CPL ring. -/
def State.completionWaits (s : State) (q : Queue) : Bool :=
  match s.queue? q.cplQid.toNat with
  | some c => c.waitingCpl.any (fun e => e.1 = 0 && e.2.1 = q.id)
  | none => false

/-- Whether a queue takes its head entry now; R266, R275: near pasture may hold the read of it. -/
def State.takes (s : State) (q : Queue) : Bool :=
  q.enabled && !q.halted && !q.dying && q.head != q.tail && takingState q.type (s.pen q.pen).state && s.boot.shepherdRuns &&
    !(s.boot.ccDraining && (q.type = .opr || q.type = .rop)) && !(q.type = .opr && s.completionWaits q) &&
    !(s.penHeld .queue q.pen q.headAddr q.type.entryBytes)

/-- R302: the head entry's bytes, or the status that halts the queue. -/
def State.headEntry (s : State) (q : Queue) : Except Nat (List Byte) :=
  let n := q.type.entryBytes
  if !(s.penMapped q.pen q.headAddr n) then .error 0x21
  else if s.penPoisoned q.pen q.headAddr n then .error 0x23
  else .ok (s.penRead q.pen q.headAddr n)

/-- An entry has been taken: HEAD and TAKEN advance. -/
def Queue.advance (q : Queue) : Queue := { q with head := q.head + 1, taken := q.taken + 1 }

/-- Table 20.6: the entry that a queue takes is read from its ring. -/
def State.takeEntry (s : State) (q : Queue) (f : Queue → Queue) : State :=
  (s.modQueue q.id (fun x => f x.advance)).count 16 q.type.entryBytes

/-! ## Doorbells (R303, R304) -/

/-- R303: add entries to TAIL (or consume from a CPL queue): none when the ring would overflow. -/
def Queue.add (q : Queue) (n : Nat) : Option Queue :=
  if q.type = .cpl then
    if q.fill < n then none
    else some { q with head := q.head + BitVec.ofNat 32 n, taken := q.taken + BitVec.ofNat 64 n }
  else if q.size < q.fill + n then none
  else some { q with tail := q.tail + BitVec.ofNat 32 n }

/-- R304: RESTART of a halted queue, with SKIP first advancing HEAD. -/
def Queue.restart (q : Queue) (skip : Bool) : Queue :=
  if q.halted then
    { q with head := if skip && q.head != q.tail then q.head + 1 else q.head
             halted := false, haltInfo := 0 }
  else q

/-- R303, R348: the queue that a doorbell through a function reaches. -/
def State.doorbellQueue (s : State) (fn q : Nat) : Option Queue :=
  match s.queue? q with
  | some x => if fn = 0 || s.boundPen fn = some x.pen then some x else none
  | none => none

/-- R303, R304, Table 12.4: a doorbell word: the ADD first, then RESTART with SKIP unless the ADD failed. -/
def State.doorbell (s : State) (fn q : Nat) (w : Word) : State :=
  let add := w.toNat % 2 ^ 17
  match s.doorbellQueue fn q with
  | none => s.logFault 9 0x0502 .corrected fn none none (q % 2 ^ 20)
  | some x =>
    if 65536 < add then s.queueEvent x 0x22
    else
      match x.add add with
      | none => s.haltEvent x 0x20
      | some y =>
        let z := if w.getLsbD 31 then y.restart (w.getLsbD 30) else y
        let t := s.modQueue q (fun _ => z)
        if z.type = .cpl then t.drainCpl q (z.waitingCpl.length) else t

def execDoorbellAdd (fn : Fin 9) (q : Nat) (value : Word) (s : State) : Result := done (s.quiet.doorbell fn q value)

def execDoorbellRestart (fn : Fin 9) (q : Nat) (value : Word) (s : State) : Result :=
  done (s.quiet.doorbell fn q value)

/-! ## Freeing queues (R299, R321) -/

/-- R366, R382: the stream's picture is on a core, or goes on the next free one after its core was reset. -/
def State.streamRuns (s : State) (n : Nat) : Bool :=
  s.video.cores.any (fun c => c.busy.map Prod.fst = some n) || s.video.streams.any (fun x => x.number = n && x.ready.any PicWork.redo)

/-- R368: a stream closes: it and all that it holds is gone, at once or at the end of the picture on a core. -/
def State.closeStream (s : State) (n : Nat) (slot : Option Nat) : State :=
  s.modVideo (fun v => { v with streams := v.streams.filterMap (fun x =>
    if x.number != n then some x
    else if s.streamRuns n then some { x with closing := x.closing || slot.isNone, closeSlots := x.closeSlots ++ slot.toList }
    else none) })

/-- R368: a stream takes no further entry: it closes, with its queue or for a command that waits for its end. -/
def Stream.shutting (x : Stream) : Bool := x.closing || x.closeSlots != []

/-- R368: the streams that queues feed close. -/
def State.closeStreamsOf (s : State) (feeds : Nat → Bool) : State :=
  s.forAll ((s.video.streams.filter (fun x => feeds x.conf.queue)).map Stream.number) (fun t n => t.closeStream n none)

/-- Whether a queue that is being destroyed still has work in flight, or is named by a live queue. -/
def State.queueBusy (s : State) (q : Queue) : Bool :=
  s.video.streams.any (fun x => x.conf.queue = q.id) || s.qe.rops.any (fun r => r.queue = q.id) || s.comp.ops.any (fun o => o.queue = q.id && o.recipeFor.isNone) ||
    (q.type = .cpl && s.qe.queues.any (fun x => x.id != q.id && x.type != .cpl && x.cplQid.toNat = q.id))

/-- Free the queues that are being destroyed and have nothing in flight; CPL queues after the queues that name them. -/
def State.sweepQueues (s : State) : State :=
  let s1 := s.modQe (fun e => { e with queues := e.queues.filter (fun q => !(q.dying && q.type != .cpl && !(s.queueBusy q))) })
  s1.modQe (fun e => { e with queues := e.queues.filter (fun q => !(q.dying && q.type = .cpl && !(s1.queueBusy q))) })

/-- R358, R360: increments of a pen's counters that the video engine still holds are dropped with the pen's work. -/
def State.dropVideoSignals (s : State) (pen : Nat) : State :=
  s.modVideo (fun v => { v with deferred := v.deferred.filter (fun a => match a with
    | .signal p _ => p != pen
    | .event _ _ _ => true) })

/-- R358: every queue of a pen becomes FREE once its operations have ended. -/
def State.freePenQueues (s : State) (pen : Nat) : State :=
  (((s.dropVideoSignals pen).closeStreamsOf (fun q => s.qe.queues.any (fun x => x.id = q && x.pen = pen))).modQe (fun e => { e with queues := e.queues.map (fun q => if q.pen = pen then { q with dying := true } else q) })).sweepQueues

/-! ## Signal counters (R108, R109, R111) -/

/-- R108, R109: a counter of a pen. -/
def State.signalCounter (s : State) (pen id : Nat) : DWord := cellGet 0 (s.pen pen).counters id

/-- R313, R321: whether near pasture holds the update of a counter. -/
def State.counterHeld (s : State) (pen id : Nat) : Bool :=
  s.npHolds && (Config.counterPlace s.free pen id).any (s.npBlocked .queue)

/-- R110, R111: add to a counter, modulo 2⁶⁴. -/
def State.addCounter (s : State) (pen id : Nat) (n : DWord) : State :=
  s.modPen pen (fun p => { p with counters := cellPut 0 p.counters id (cellGet 0 p.counters id + n) })

end Sys2Proof.Machine
end

