-- ==== Sys2Proof/Machine/Special.lean ====
section
/-! DEFINITION. The special functions of Table 2.4 (R45, R46) and the random numbers of R47 to R50.  A special function
is evaluated in fixed point with 512 fractional bits and rounded once (log entry 14); Philox is exact. -/

namespace Sys2Proof.Machine

/-! ## Fixed point with 512 fractional bits -/

/-- Fractional bits of the fixed-point evaluations. -/
def fxP : Nat := 512
def fxOne : Int := 2 ^ fxP
def fxMul (a b : Int) : Int := (a * b) / fxOne
def fxDiv (a b : Int) : Int := if b = 0 then 0 else (a * fxOne) / b

/-- A finite value in fixed point (the formats' smallest subnormal lies far above the last fixed-point bit). -/
def fxOf (v : Val) : Int :=
  match v with
  | .fin n m e =>
    let p := e + fxP
    let a : Int := if 0 ≤ p then (m <<< p.toNat : Nat) else (m >>> (-p).toNat : Nat)
    if n then -a else a
  | _ => 0

/-- A fixed-point number as a value; zero takes the sign given. -/
def fxVal (zeroNeg : Bool) (x : Int) : Val :=
  if x = 0 then .fin zeroNeg 0 0 else .fin (x < 0) x.natAbs (-(fxP : Int))

/-- Σ over odd powers of 1/n: atan (alternating) or atanh of 1/n. -/
def fxAtanInv (alternating : Bool) (n : Nat) : Int :=
  ((List.range 340).foldl (fun (st : Int × Int) (k : Nat) =>
    let term := st.2 / ((2 * k + 1 : Nat) : Int)
    (if alternating && k % 2 = 1 then st.1 - term else st.1 + term, st.2 / (n * n))) (0, fxOne / n)).1

/-- π. -/
def fxPi : Int := 16 * fxAtanInv true 5 - 4 * fxAtanInv true 239
/-- ln 2. -/
def fxLn2 : Int := 2 * fxAtanInv false 3

/-- Power series Σ t_k with t_0 given and t_(k+1) = t_k × num k ÷ den k. -/
def fxSeries (n : Nat) (t0 : Int) (next : Nat → Int → Int) : Int :=
  ((List.range n).foldl (fun (st : Int × Int) (k : Nat) => (st.1 + st.2, next k st.2)) (0, t0)).1

/-- e^x as a fixed-point number in [1, 2) and a power of two; x is cut to ±2000, where every format over- or
underflows. -/
def fxExp (x0 : Int) : Int × Int :=
  let x := max (-2000 * fxOne) (min (2000 * fxOne) x0)
  let k := x.fdiv fxLn2
  let r := x - k * fxLn2
  (fxSeries 130 fxOne (fun i t => fxMul t r / (i + 1)), k)

/-- e^x in fixed point (zero when below the last bit). -/
def fxExpPlain (x : Int) : Int :=
  let p := fxExp x
  if 0 ≤ p.2 then p.1 * 2 ^ p.2.toNat else p.1 / 2 ^ (-p.2).toNat

/-- e^x as a value. -/
def fxExpVal (x : Int) : Val := .fin false (fxExp x).1.natAbs ((fxExp x).2 - fxP)

/-- 2 × atanh(z) in fixed point, |z| at most 1/3. -/
def fxAtanh2 (z : Int) : Int :=
  let z2 := fxMul z z
  2 * ((List.range 170).foldl (fun (st : Int × Int) (k : Nat) =>
    (st.1 + st.2 / ((2 * k + 1 : Nat) : Int), fxMul st.2 z2)) (0, z)).1

/-- ln of a positive value m × 2^e, as ln of the mantissa in [1, 2) and the exponent. -/
def fxLog (m : Nat) (e : Int) : Int × Int :=
  let l := Nat.log2 m
  let f : Int := if l ≤ fxP then (m <<< (fxP - l) : Nat) else (m >>> (l - fxP) : Nat)
  (fxAtanh2 (fxDiv (f - fxOne) (f + fxOne)), e + l)

/-- ln of 1 + y in fixed point, 0 ≤ y ≤ 1. -/
def fxLog1p (y : Int) : Int := fxAtanh2 (fxDiv y (2 * fxOne + y))

/-- sin and cos of x in [−π/4, π/4]. -/
def fxSinCos (x : Int) : Int × Int :=
  let x2 := fxMul x x
  (fxSeries 70 x (fun i t => -(fxMul t x2) / ((2 * i + 2) * (2 * i + 3) : Nat)),
   fxSeries 70 fxOne (fun i t => -(fxMul t x2) / ((2 * i + 1) * (2 * i + 2) : Nat)))

/-- sin and cos of any x, reduced by multiples of π/2. -/
def fxSinCosAll (x : Int) : Int × Int :=
  let h := fxPi / 2
  let k := (2 * x + h).fdiv (2 * h)
  let sc := fxSinCos (x - k * h)
  match (k % 4).toNat with
  | 0 => sc
  | 1 => (sc.2, -sc.1)
  | 2 => (-sc.1, -sc.2)
  | _ => (-sc.2, sc.1)

/-- erf of x ≥ 0: 2/√π × e^(−x²) × Σ 2^n x^(2n+1) / (2n+1)!!; above 13 the result is 1 in every format (1 − erf is
below 2⁻²⁴⁰). -/
def fxErf (x : Int) : Int :=
  if 13 * fxOne < x then fxOne
  else
    let x2 := fxMul x x
    let sum := fxSeries 900 x (fun i t => 2 * fxMul t x2 / (2 * i + 3))
    let root : Int := isqrt (fxPi.natAbs * 2 ^ fxP)
    fxDiv (2 * fxMul (fxExpPlain (-x2)) sum) root

/-! ## The functions of Table 2.4 -/

inductive SFn where
  | exp | exp2 | log | log2 | sqrt | rsqrt | reciprocal | tanh | sigmoid | erf | gelu | silu | softplus | sin | cos
deriving DecidableEq, Repr

/-- 1/(1 + e^(−x)) in fixed point. -/
def fxSigmoid (x : Int) : Int :=
  let t := fxExpPlain (-(x.natAbs : Int))
  if 0 ≤ x then fxDiv fxOne (fxOne + t) else fxDiv t (fxOne + t)

/-- √(m × 2^e) with a sticky lowest bit. -/
def sqrtVal (m : Nat) (e : Int) : Val :=
  let odd := (e % 2).toNat
  let m2 := (m * 2 ^ odd) <<< 320
  let r := isqrt m2
  .fin false (2 * r + (if r * r = m2 then 0 else 1)) ((e - odd) / 2 - 161)

/-- 1/√(m × 2^e) with a sticky lowest bit. -/
def rsqrtVal (m : Nat) (e : Int) : Val :=
  let odd := (e % 2).toNat
  let m2 := m * 2 ^ odd
  let q := (1 <<< 640) / m2
  let r := isqrt q
  .fin false (2 * r + (if r * r * m2 = 1 <<< 640 then 0 else 1)) (-((e - odd) / 2) - 321)

/-- The result on a finite non-zero argument: the exact value to at least 300 significant bits, or exactly where it is
representable. -/
def SFn.finite (f : SFn) (n : Bool) (m : Nat) (e : Int) : Val :=
  let v : Val := .fin n m e
  let x := fxOf v
  match f with
  | .exp => fxExpVal x
  | .exp2 =>
    let y := max (-2000 * fxOne) (min (2000 * fxOne) x)
    let k := y.fdiv fxOne
    let fr := y - k * fxOne
    let r := fxSeries 130 fxOne (fun i t => fxMul t (fxMul fr fxLn2) / (i + 1))
    .fin false r.natAbs (k - fxP)
  | .log => if n then .nan else fxVal false ((fxLog m e).1 + (fxLog m e).2 * fxLn2)
  | .log2 => if n then .nan else fxVal false (fxDiv (fxLog m e).1 fxLn2 + (fxLog m e).2 * fxOne)
  | .sqrt => if n then .nan else sqrtVal m e
  | .rsqrt => if n then .nan else rsqrtVal m e
  | .reciprocal => fOne.div v
  | .tanh =>
    let t := fxExpPlain (-2 * (x.natAbs : Int))
    let r := fxDiv (fxOne - t) (fxOne + t)
    fxVal n (if n then -r else r)
  | .sigmoid => fxVal false (fxSigmoid x)
  | .erf =>
    let r := fxErf x.natAbs
    fxVal n (if n then -r else r)
  | .gelu =>
    let z := fxDiv (x.natAbs : Int) (isqrt (2 * 2 ^ (2 * fxP)) : Nat)
    let r := fxErf z
    let w := if n then fxOne - r else fxOne + r
    fxVal n (fxMul x w / 2)
  | .silu => fxVal n (fxMul x (fxSigmoid x))
  | .softplus =>
    let t := fxLog1p (fxExpPlain (-(x.natAbs : Int)))
    fxVal false (if n then t else x + t)
  | .sin => fxVal n (fxSinCosAll x).1
  | .cos => fxVal false (fxSinCosAll x).2

/-- R46, Table 2.4: the function on any value, before rounding. -/
def SFn.eval (f : SFn) (v : Val) : Val :=
  match v with
  | .nan => .nan
  | .inf n =>
    match f with
    | .exp | .exp2 => if n then .zero else .inf false
    | .log | .log2 => if n then .nan else .inf false
    | .sqrt => if n then .nan else .inf false
    | .rsqrt => if n then .nan else .zero
    | .reciprocal => .fin n 0 0
    | .tanh | .erf => .fin n 1 0
    | .sigmoid => if n then .zero else fOne
    | .gelu | .silu => if n then .fin true 0 0 else .inf false
    | .softplus => if n then .zero else .inf false
    | .sin | .cos => .nan
  | .fin n 0 _ =>
    match f with
    | .exp | .exp2 | .cos => fOne
    | .log | .log2 => .inf true
    | .sqrt => .fin n 0 0
    | .rsqrt | .reciprocal => .inf n
    | .tanh | .erf | .gelu | .silu | .sin => .fin n 0 0
    | .sigmoid => fHalf
    | .softplus => fxVal false fxLn2
  | .fin n m e => f.finite n m e

/-- R45: how a special function's result overflows: to an infinity in a format that has one, and to ±448 in E4M3. -/
def FloatFmt.special (f : FloatFmt) : FloatFmt := { f with saturates := !f.hasInf }

/-- R45: the function rounded RNE to a format; the result as a value. -/
def SFn.round (f : SFn) (fmt : FloatFmt) (v : Val) : Val := fmt.special.round (f.eval v)

/-- R45: the function in FP32. -/
def SFn.f32 (f : SFn) (v : Val) : Val := f.round fmtFp32 v

/-! ## Philox4x32-10 (R47) -/

/-- One round of Philox4x32 on the counter words, with the key words. -/
def philoxRound (c : Nat × Nat × Nat × Nat) (k0 k1 : Nat) : Nat × Nat × Nat × Nat :=
  let p0 := 0xD2511F53 * c.1
  let p1 := 0xCD9E8D57 * c.2.2.1
  ((p1 >>> 32) ^^^ c.2.1 ^^^ k0, p1 % 2 ^ 32, (p0 >>> 32) ^^^ c.2.2.2 ^^^ k1, p0 % 2 ^ 32)

/-- R47: ten rounds; the key words grow by the increments after each round. -/
def philox (seed : Nat) (c : Nat × Nat × Nat × Nat) : Nat × Nat × Nat × Nat :=
  ((List.range 10).foldl (fun (st : (Nat × Nat × Nat × Nat) × Nat × Nat) _ =>
    (philoxRound st.1 st.2.1 st.2.2, (st.2.1 + 0x9E3779B9) % 2 ^ 32, (st.2.2 + 0xBB67AE85) % 2 ^ 32))
    (c, seed % 2 ^ 32, (seed >>> 32) % 2 ^ 32)).1

/-- What a draw is counted with besides the element (Table 2.5). -/
structure DrawKey where
  seed : Nat
  handle : Nat
  layer : Nat
  step : Nat
deriving DecidableEq, Repr

/-- Table 2.5: the four output words of group `g`. -/
def DrawKey.words (d : DrawKey) (g : Nat) : List Nat :=
  let w := philox d.seed (g % 2 ^ 32, (g >>> 32) % 2 ^ 32, d.handle, (d.layer % 2 ^ 24) * 256 + d.step % 256)
  [w.1, w.2.1, w.2.2.1, w.2.2.2]

/-- R49: the output word of element `i`. -/
def DrawKey.word (d : DrawKey) (i : Nat) : Nat := (d.words (i / 4)).getD (i % 4) 0

/-- R44: the random integer of stochastic rounding: the seed with bit 63 inverted. -/
def DrawKey.srBits (d : DrawKey) (i : Nat) : Nat :=
  ({ d with seed := d.seed ^^^ 2 ^ 63 }.word i) % 65536

/-- R50: uniform in (0, 1). -/
def uniformOf (w : Nat) : Val := .fin false (2 * (w >>> 9) + 1) (-24)

/-- R50: the normal draw of element `i`. -/
def DrawKey.normal (d : DrawKey) (i : Nat) : Val :=
  let w := d.words (i / 4)
  let lane := i % 4
  let ua := uniformOf (w.getD (2 * (lane / 2)) 0)
  let ub := uniformOf (w.getD (2 * (lane / 2) + 1) 0)
  let r := SFn.sqrt.f32 (fmul (.ofInt (-2)) (SFn.log.f32 ua))
  let th := fmul (f32 0x40C90FDB) ub
  fmul r (if lane % 2 = 0 then SFn.cos.f32 th else SFn.sin.f32 th)

/-- R50: floor(p × 2³²) for the drop probability p in [0, 1). -/
def dropThreshold (p : Val) : Nat :=
  match p with
  | .fin _ m e => if 0 ≤ e + 32 then m <<< (e + 32).toNat else m >>> (-(e + 32)).toNat
  | _ => 0

/-- R50: whether element `i` is dropped. -/
def DrawKey.dropped (d : DrawKey) (p : Val) (i : Nat) : Bool := d.word i < dropThreshold p

/-- R50: the kept-element factor 1 ÷ (1 − p). -/
def keptFactor (p : Val) : Val := fdiv fOne (fsub fOne p)

end Sys2Proof.Machine
end

