-- ==== Sys2Proof/Machine/Formats.lean ====
section
/-! DEFINITION. Element formats (chapter 2): the format codes of Table 2.1, packing (R29), block layout (R30, R31),
element values (R32), conversion (R41 to R44) and the choice of block scales (R33, R34). -/

namespace Sys2Proof.Machine

/-! ## Format codes (R22, R23) -/

/-- Table 2.1: element width in bits. -/
def fmtWidth (fmt : Nat) : Nat :=
  if fmt = 0 || fmt = 0xD then 32
  else if fmt = 1 || fmt = 2 then 16
  else if fmt = 6 || fmt = 7 then 6
  else if fmt = 8 || fmt = 9 || fmt = 0xB then 4
  else 8

/-- Table 2.1, R23: elements of a block, 0 for an unscaled format. -/
def blockOf (fmt : Nat) (mx : Bool) : Nat :=
  if 5 ≤ fmt && fmt ≤ 8 then 32
  else if fmt = 9 then 16
  else if (fmt = 4 || fmt = 0xA) && mx then 32
  else 0

/-- R22, R23: codes 0xE and 0xF are reserved, and only 0x4 and 0xA take the MX bit. -/
def fmtOk (fmt : Nat) (mx : Bool) : Bool := fmt < 0xE && (!mx || fmt = 4 || fmt = 0xA)

/-- R35: the formats that accumulate in INT32. -/
def intOperand (fmt : Nat) (mx : Bool) : Bool := (fmt = 0xA && !mx) || fmt = 0xB || fmt = 0xC

/-- Formats whose elements are plain integers. -/
def intFmt (fmt : Nat) (mx : Bool) : Bool := intOperand fmt mx || fmt = 0xD

/-- The floating-point format of the element codes; MXINT8 and the integer formats have none. -/
def elemFloat (fmt : Nat) : Option FloatFmt :=
  match fmt with
  | 0 => some fmtFp32
  | 1 => some fmtBf16
  | 2 => some fmtFp16
  | 3 => some fmtE4m3
  | 4 => some fmtE5m2
  | 5 => some fmtE4m3
  | 6 => some fmtE3m2
  | 7 => some fmtE2m3
  | 8 => some fmtE2m1
  | 9 => some fmtE2m1
  | _ => none

/-- The formats of R46 in which a special function is evaluated: BF16, FP16, E4M3, E5M2. -/
def specialFmt (fmt : Nat) (mx : Bool) : FloatFmt :=
  if fmt = 1 then fmtBf16 else if fmt = 2 then fmtFp16 else if fmt = 3 then fmtE4m3
  else if fmt = 4 && !mx then fmtE5m2 else fmtFp32

/-! ## Reading elements (R24, R27 to R32) -/

/-- The two's-complement value of the low `w` bits. -/
def signedBits (w c : Nat) : Int := if c % 2 ^ w < 2 ^ (w - 1) then (c % 2 ^ w : Nat) else (c % 2 ^ w : Nat) - (2 ^ w : Nat)

/-- The element's own value, without a block scale. -/
def elemVal (fmt : Nat) (mx : Bool) (code : Nat) : Val :=
  match elemFloat fmt with
  | some f => f.decode code
  | none =>
    if fmt = 0xA && mx then
      let q := signedBits 8 code
      .fin (q < 0) q.natAbs (-6)
    else if fmt = 0xC then .ofInt (code % 256 : Nat)
    else .ofInt (signedBits (fmtWidth fmt) code)

/-- R24: E8M0. -/
def e8m0Val (c : Nat) : Val := if c % 256 = 255 then .nan else .fin false 1 ((c % 256 : Nat) - 127)

/-- R32: a BS4 tensor scale is good when positive and finite. -/
def tScaleGood (t : Nat) : Bool :=
  match f32 t with
  | .fin false m _ => m != 0
  | _ => false

/-- R32: the BS4 block scale B; NaN for a code with its sign bit set. -/
def bs4BlockVal (c : Nat) : Val := if (c % 256).testBit 7 then .nan else fmtE4m3.decode c

/-- R32: the value of an element from its code, its block-scale byte and the tensor scale. -/
def scaledVal (fmt : Nat) (mx : Bool) (code scale tScale : Nat) : Val :=
  if blockOf fmt mx = 0 then elemVal fmt mx code
  else if fmt = 9 then
    if tScaleGood tScale then (f32 tScale).mul ((bs4BlockVal scale).mul (elemVal fmt mx code)) else .nan
  else (e8m0Val scale).mul (elemVal fmt mx code)

/-- Table 2.3: conversion of a decoded element to FP32; one RNE rounding where it is not exact. -/
def elemF32 (v : Val) : Val := r32 v

/-! ## Converting one element (Table 2.3) -/

/-- The two's-complement code of an integer in `w` bits. -/
def intCode (w : Nat) (i : Int) : Nat := (i % (2 ^ w : Nat)).toNat

/-- R42: a value converted to an unscaled format: its code and whether it saturated. -/
def encodeElem (fmt : Nat) (mode : Rounding) (v : Val) : Nat × Bool :=
  match elemFloat fmt with
  | some f => f.encode mode v
  | none =>
    let lim : Int × Int := if fmt = 0xB then (-8, 7) else if fmt = 0xC then (0, 255)
      else if fmt = 0xD then (-2147483648, 2147483647) else (-128, 127)
    let r := intEncode lim.1 lim.2 mode v
    (intCode (fmtWidth fmt) r.1, r.2)

/-- R95: whether a value counts as NaN when written to a format. -/
def nanWritten (fmt : Nat) (mx : Bool) (v : Val) : Bool := v.isNan && !(intFmt fmt mx)

/-! ## Blocks on write (R33, R34) -/

/-- R33: an infinity is written as the largest finite FP32 value. -/
def finiteOf : Val → Val
  | .inf n => .fin n 0xFFFFFF 104
  | v => v

/-- The largest magnitude of finite values. -/
def amaxOf (vs : List Val) : Val := vs.foldl (fun a v => if a.lt v.abs then v.abs else a) .zero

/-- R33: emax. -/
def emaxOf (fmt : Nat) (mx : Bool) : Int :=
  if fmt = 5 then 8 else if fmt = 6 then 4 else if fmt = 7 then 2 else if fmt = 8 then 2
  else if fmt = 4 && mx then 15 else 0

/-- One element of a block divided by its scale and converted, saturating. -/
def blockElem (fmt : Nat) (mx : Bool) (mode : Rounding) (x : Val) : Nat × Bool :=
  if fmt = 0xA && mx then
    let r := intEncode (-128) 127 mode (x.mul (.fin false 1 6))
    (intCode 8 r.1, r.2)
  else
    match elemFloat fmt with
    | some f => f.encode mode x
    | none => (0, false)

/-- A block as written: its scale byte, its element codes, whether anything saturated and whether it is a NaN block. -/
structure BlockOut where
  scale : Nat
  codes : List Nat
  sat : Bool
  nan : Bool
deriving DecidableEq, Repr

/-- R33: an MX block, each element with its rounding mode. -/
def encodeMx (fmt : Nat) (mx : Bool) (xs : List (Val × Rounding)) : BlockOut :=
  if xs.any (fun x => x.1.isNan) then { scale := 0xFF, codes := xs.map (fun _ => 0), sat := false, nan := true }
  else
    let ys := xs.map (fun x => (finiteOf x.1, x.2))
    let amax := amaxOf (ys.map Prod.fst)
    if amax.isZero then { scale := 0, codes := xs.map (fun _ => 0), sat := false, nan := false }
    else
      let raw := amax.log2Floor - emaxOf fmt mx
      let sh := max (-127) (min 127 raw)
      let es := ys.map (fun x => blockElem fmt mx x.2 (x.1.mul (.fin false 1 (-sh))))
      { scale := (sh + 127).toNat, codes := es.map Prod.fst, sat := es.any Prod.snd || 127 < raw, nan := false }

/-- R34: B: amax ÷ (6 × T) rounded up to E4M3, from 2⁻⁹ to 448, and whether it saturated. -/
def bs4Scale (amax t : Val) : Nat × Bool :=
  match (List.range 0x7E).find? (fun c => !(((fmtE4m3.decode (c + 1)).mul ((Val.ofInt 6).mul t)).lt amax)) with
  | some c => (c + 1, false)
  | none => (0x7E, true)

/-- R34: a BS4 block. -/
def encodeBs4 (tScale : Nat) (xs : List (Val × Rounding)) : BlockOut :=
  let t := f32 tScale
  if xs.any (fun x => x.1.isNan) then { scale := 0x7F, codes := xs.map (fun _ => 0), sat := false, nan := true }
  else
    let ys := xs.map (fun x => (finiteOf x.1, x.2))
    let amax := amaxOf (ys.map Prod.fst)
    if amax.isZero then { scale := 0, codes := xs.map (fun _ => 0), sat := false, nan := false }
    else
      let b := bs4Scale amax t
      let es := ys.map (fun x => fmtE2m1.encode x.2 (x.1.div (t.mul (fmtE4m3.decode b.1))))
      { scale := b.1, codes := es.map Prod.fst, sat := es.any Prod.snd || b.2, nan := false }

/-- A block of a block-scaled format. -/
def encodeBlock (fmt : Nat) (mx : Bool) (tScale : Nat) (xs : List (Val × Rounding)) : BlockOut :=
  if fmt = 9 then encodeBs4 tScale xs else encodeMx fmt mx xs

/-! ## Packing (R29) -/

/-- The code of element `i` in a plane of `w`-bit elements that starts at byte `base`. -/
def codeAt (rd : Nat → Byte) (base w i : Nat) : Nat :=
  let bit := i * w
  let first := bit / 8
  let n := (bit + w - 1) / 8 - first + 1
  (leNat ((List.range n).map (fun k => rd (base + first + k))) >>> (bit % 8)) % 2 ^ w

/-- A run of codes as packed bytes, padded with zero bits to a whole byte. -/
def packCodes (w : Nat) (cs : List Nat) : List Byte :=
  if w % 8 = 0 then cs.flatMap (fun c => leBytes (w / 8) c)
  else leBytes (ceilDiv (cs.length * w) 8) ((cs.zipIdx.map (fun x => (x.1 % 2 ^ w) <<< (w * x.2))).sum)

end Sys2Proof.Machine
end

