-- ==== Sys2Proof/Machine/Shears.lean ====
section
/-! DEFINITION. Compressed operands (chapter 8): granules and containers (R188 to R191), SPA (R192, R193), DLT (R194 to
R196), FRL (R199 to R201), the decode checks of Table 8.6 and chunk check values (R206). -/

namespace Sys2Proof.Machine

/-! ## Granules and containers -/

/-- Table 9.4 COMP. -/
def compSpa : Nat := 1
def compDlt : Nat := 2
def compFrl2 : Nat := 3
def compFrl4 : Nat := 4

/-- Table 8.1: whether a form applies to a format. -/
def compFormatOk (comp fmt : Nat) : Bool :=
  match comp with
  | 1 => [0, 1, 2, 3, 4, 0xA, 0xC, 0xD].contains fmt
  | 2 => [1, 2, 3, 4, 0xA].contains fmt
  | 3 | 4 => fmt = 1 || fmt = 2
  | 0 => true
  | _ => false

/-- The shape of a compressed tensor: compression code, format, extents and base handle. -/
structure CompShape where
  comp : Nat
  fmt : Nat
  ext : List Nat
  base : Nat
deriving DecidableEq, Repr

def CompShape.g0 (k : CompShape) : Nat := ceilDiv (k.ext.getD 0 1) 64
def CompShape.g1 (k : CompShape) : Nat := ceilDiv (k.ext.getD 1 1) 16
def CompShape.ngran (k : CompShape) : Nat := k.g0 * k.g1 * (k.ext.drop 2).foldl (· * ·) 1
def CompShape.frl (k : CompShape) : Bool := k.comp = 3 || k.comp = 4

/-- R199: bytes of an FRL granule. -/
def CompShape.frlBytes (k : CompShape) : Nat := if k.comp = 3 then 1024 else 512

/-- R189. -/
def CompShape.payloadOffset (k : CompShape) : Nat := if k.frl then 4096 else roundUp (64 + 8 * k.ngran) 256

/-- R191: the largest payload of a granule, in 32-byte units. -/
def CompShape.umax (k : CompShape) : Nat := 4 * fmtWidth k.fmt

/-- The bytes of the container with the largest payload (R203; log entry 20). -/
def CompShape.bound (k : CompShape) : Nat :=
  roundUp (k.payloadOffset + k.ngran * (if k.frl then k.frlBytes else 32 * k.umax)) 4096

/-- R188: the granule and the granule index of the element with logical coordinates `c`. -/
def CompShape.place (k : CompShape) (c : List Nat) : Nat × Nat :=
  let c0 := c.getD 0 0
  let c1 := c.getD 1 0
  let o := c.getD 2 0 + k.ext.getD 2 1 * (c.getD 3 0 + k.ext.getD 3 1 * (c.getD 4 0 + k.ext.getD 4 1 * c.getD 5 0))
  (c0 / 64 + k.g0 * (c1 / 16 + k.g1 * o), c0 % 64 + 64 * (c1 % 16))

/-- R188: the logical linear index of position `e` of granule `g`; none for padding. -/
def CompShape.elementOf (k : CompShape) (g e : Nat) : Option Nat :=
  let c0 := 64 * (g % k.g0) + e % 64
  let c1 := 16 * (g / k.g0 % k.g1) + e / 64
  let o := g / (k.g0 * k.g1)
  if c0 < k.ext.getD 0 1 && c1 < k.ext.getD 1 1 then some (c0 + k.ext.getD 0 1 * (c1 + k.ext.getD 1 1 * o)) else none

/-! ## Granule payloads -/

/-- R192, R193: a granule as SPA: mode, payload and NNZ. -/
def spaGranule (w : Nat) (codes : List Nat) : Nat × List Byte × Nat :=
  let nz := codes.filter (· != 0)
  let sparse := ceilDiv (128 + nz.length * w / 8) 32
  if nz = [] then (0, [], 0)
  else if sparse < 4 * w then
    let bitmap := leBytes 128 ((codes.zipIdx.map (fun x => if x.1 = 0 then 0 else 2 ^ x.2)).sum)
    (1, padTo (32 * sparse) (bitmap ++ packCodes w nz), nz.length)
  else (2, packCodes w codes, nz.length)

/-- R195: the order map. -/
def orderMap (isInt : Bool) (w x : Nat) : Nat :=
  if isInt then x ^^^ 0x80
  else if x.testBit (w - 1) then 2 ^ w - 1 - x else x + 2 ^ (w - 1)

/-- R195: the inverse of the order map. -/
def orderInv (isInt : Bool) (w y : Nat) : Nat :=
  if isInt then y ^^^ 0x80
  else if y.testBit (w - 1) then y - 2 ^ (w - 1) else 2 ^ w - 1 - y

/-- R196: the delta width of a mode. -/
def dltWidth (mode : Nat) : Nat := if mode = 0 then 0 else 2 ^ mode

/-- R195, R196: a granule as DLT: mode and payload. -/
def dltGranule (fmt w : Nat) (codes base : List Nat) : Nat × List Byte :=
  let ds := (codes.zip base).map (fun x =>
    signedBits w ((orderMap (fmt = 0xA) w x.1 + 2 ^ w - orderMap (fmt = 0xA) w x.2) % 2 ^ w))
  let fits (n : Nat) : Bool :=
    ds.all (fun d => if n = 0 then d = 0 else -(2 ^ (n - 1) : Nat) ≤ d && d < (2 ^ (n - 1) : Nat))
  let mode := ([0, 1, 2, 3].find? (fun m => fits (dltWidth m))).getD 4
  (mode, packCodes (dltWidth mode) (if mode = 0 then [] else ds.map (intCode (dltWidth mode))))

/-- R199: the mantissa width. -/
def frlBits (comp : Nat) : Nat := if comp = 3 then 7 else 3

/-- R199: granule index of element j of block β. -/
def frlElement (beta j : Nat) : Nat := 4 * (beta % 16) + j % 4 + 64 * (4 * (beta / 16) + j / 4)

/-- R200: one FRL block of sixteen values, and whether it is a NaN block. -/
def frlBlock (n : Nat) (xs : List Val) : List Byte × Bool :=
  if xs.any (fun x => !x.isFinite) then ([0, 0xFF] ++ List.replicate (2 * n) 0, true)
  else
    let a := amaxOf xs
    if a.isZero then ([0, 0] ++ List.replicate (2 * n) 0, false)
    else
      let eb := max a.log2Floor (-127)
      let rows := (List.range 4).map (fun k =>
        let ak := amaxOf ((xs.drop (4 * k)).take 4)
        if ak.isZero then 3 else min 3 (eb - ak.log2Floor).toNat)
      let lim : Int := (2 ^ (n - 1) : Nat) - 1
      let qs := xs.zipIdx.map (fun x =>
        let sh : Int := eb - rows.getD (x.2 / 4) 3 - n + 2
        intCode n (intEncode (-lim) lim .rne (x.1.mul (.fin false 1 (-sh)))).1)
      ([BitVec.ofNat 8 (eb + 128).toNat, BitVec.ofNat 8 ((rows.zipIdx.map (fun r => r.1 <<< (2 * r.2))).sum)]
        ++ packCodes n qs, false)

/-- R200: an FRL granule of 1,024 element codes, and whether it holds a NaN block. -/
def frlGranule (comp fmt : Nat) (codes : List Nat) : List Byte × Bool :=
  let bs := (List.range 64).map (fun beta => frlBlock (frlBits comp)
    ((List.range 16).map (fun j => elemVal fmt false (codes.getD (frlElement beta j) 0))))
  (bs.flatMap Prod.fst, bs.any Prod.snd)

/-! ## Writing a container -/

/-- Table 8.2. -/
def CompShape.header (k : CompShape) (packed : Bool) (payloadBytes : Nat) : List Byte :=
  [BitVec.ofNat 8 k.comp, BitVec.ofNat 8 k.fmt, 1, BitVec.ofNat 8 (natOfBool packed)] ++ leBytes 4 k.g0 ++ leBytes 4 k.g1
    ++ leBytes 4 0 ++ leBytes 8 k.ngran ++ leBytes 8 k.payloadOffset ++ leBytes 8 payloadBytes ++ leBytes 4 k.base
    ++ List.replicate 20 0

/-- Table 8.3. -/
def indexEntry (offset mode units nnz : Nat) : List Byte :=
  leBytes 8 (offset + mode <<< 40 + units <<< 44 + nnz <<< 52)

/-- The codes of granule `g`, with padding coded zero. -/
def CompShape.granuleCodes (k : CompShape) (code : Nat → Nat) (g : Nat) : List Nat :=
  (List.range 1024).map (fun e => match k.elementOf g e with
    | some i => code i
    | none => 0)

/-- A granule as the device encodes it: mode, payload, NNZ. -/
def CompShape.encodeGranule (k : CompShape) (code base : Nat → Nat) (g : Nat) : Nat × List Byte × Nat :=
  let cs := k.granuleCodes code g
  if k.comp = 2 then
    let d := dltGranule k.fmt (fmtWidth k.fmt) cs (k.granuleCodes base g)
    (d.1, d.2, 0)
  else if k.frl then (0, (frlGranule k.comp k.fmt cs).1, 0)
  else spaGranule (fmtWidth k.fmt) cs

/-- Place granules one after another (PACKED) or in their slots: the index and the payload pieces. -/
def placeGranules (slot : Option Nat) : Nat → Nat → List (Nat × List Byte × Nat) → List (List Byte) × List (Nat × List Byte)
  | _, _, [] => ([], [])
  | g, at', x :: rest =>
    let off := match slot with
      | some u => g * u
      | none => at'
    let units := x.2.1.length / 32
    let r := placeGranules slot (g + 1) (at' + units) rest
    (indexEntry off x.1 units x.2.2 :: r.1, (32 * off, x.2.1) :: r.2)

/-- R189 to R191: the pieces (offset, bytes) that an encoder writes: header, index, payloads and the zero tail.  A
SLOTTED slot beyond its payload is not written. -/
def CompShape.encode (k : CompShape) (packed : Bool) (code base : Nat → Nat) : List (Nat × List Byte) :=
  let gs := (List.range k.ngran).map (k.encodeGranule code base)
  let po := k.payloadOffset
  if k.frl then
    let payload := gs.flatMap (fun x => x.2.1)
    let all := padTo 4096 (k.header false payload.length) ++ payload
    [(0, padTo (roundUp all.length 4096) all)]
  else
    let r := placeGranules (if packed then none else some k.umax) 0 0 gs
    let total := if packed then (gs.map (fun x => x.2.1.length)).sum else k.ngran * 32 * k.umax
    let head := padTo po (k.header packed total ++ r.1.flatten)
    let tail := List.replicate (roundUp (po + total) 4096 - (po + total)) 0
    (0, head) :: r.2.map (fun x => (po + x.1, x.2)) ++ [(po + total, tail)]

/-- R191: the pieces that a Fold's writeback writes of granule `g` of a SLOTTED container, or of FRL: its index entry and its slot. -/
def CompShape.granulePieces (k : CompShape) (code : Nat → Nat) (g : Nat) : List (Nat × List Byte) :=
  let x := k.encodeGranule code (fun _ => 0) g
  if k.frl then [(k.payloadOffset + g * k.frlBytes, x.2.1)]
  else [(64 + 8 * g, indexEntry (g * k.umax) x.1 (x.2.1.length / 32) x.2.2), (k.payloadOffset + 32 * (g * k.umax), x.2.1)]

/-- R189: the pieces of such a container that belong to no granule: the header, the zeros up to the payload, and the zero tail. -/
def CompShape.framePieces (k : CompShape) : List (Nat × List Byte) :=
  let total := k.ngran * (if k.frl then k.frlBytes else 32 * k.umax)
  let index := if k.frl then 64 else 64 + 8 * k.ngran
  let fin := k.payloadOffset + total
  [(0, k.header false total), (index, List.replicate (k.payloadOffset - index) 0), (fin, List.replicate (roundUp fin 4096 - fin) 0)]

/-- The pieces laid out as one run of bytes, unwritten bytes zero. -/
def piecesBytes (ps : List (Nat × List Byte)) : List Byte :=
  let len := ps.foldl (fun n p => max n (p.1 + p.2.length)) 0
  ps.foldl (fun acc p => setBytes acc p.1 p.2) (List.replicate len 0)

/-- R205: the far form of an uncompressed tensor, or a compacted SPA container: a PACKED SPA container. -/
def packedSpa (fmt : Nat) (ext : List Nat) (code : Nat → Nat) : List Byte :=
  piecesBytes (CompShape.encode { comp := 1, fmt := fmt, ext := ext, base := 0 } true code (fun _ => 0))

/-! ## Reading a container (R210, Table 8.6) -/

def readLe (rd : Nat → Byte) (off n : Nat) : Nat := leNat ((List.range n).map (fun i => rd (off + i)))

/-- Table 8.6, causes 1 and 2. -/
def CompShape.headerFault (k : CompShape) (rd : Nat → Byte) : Option Nat :=
  let layout := readLe rd 3 1
  let po := readLe rd 24 8
  let pb := readLe rd 32 8
  let ok := readLe rd 0 1 = k.comp && readLe rd 1 1 = k.fmt && readLe rd 2 1 = 1 && readLe rd 4 4 = k.g0 &&
    readLe rd 8 4 = k.g1 && readLe rd 12 4 = 0 && readLe rd 16 8 = k.ngran && layout ≤ (if k.frl then 0 else 1) &&
    po = k.payloadOffset && pb % 32 = 0 && (k.frl || layout = 1 || pb = k.ngran * 32 * k.umax) && po + pb ≤ k.bound &&
    readLe rd 44 20 = 0
  if !ok then some 1 else if k.comp = 2 && readLe rd 40 4 != k.base then some 2 else none

/-- R191: UNITS summed over the granules before `g`. -/
def unitsBefore (rd : Nat → Byte) (g : Nat) : Nat :=
  ((List.range g).map (fun i => bitsOf (readLe rd (64 + 8 * i) 8) 51 44)).sum

/-- Table 8.6, cause 7: padding positions hold the code zero. -/
def CompShape.padOk (k : CompShape) (g : Nat) (codes : List Nat) : Bool :=
  codes.zipIdx.all (fun x => x.1 = 0 || (k.elementOf g x.2).isSome)

/-- An SPA or DLT granule: its codes, or the first failed check. -/
def CompShape.readIndexed (k : CompShape) (rd : Nat → Byte) (base : Nat → Nat) (g : Nat) : Except Nat (List Nat) :=
  let e := readLe rd (64 + 8 * g) 8
  let w := fmtWidth k.fmt
  let off := bitsOf e 39 0
  let mode := bitsOf e 43 40
  let units := bitsOf e 51 44
  let nnz := bitsOf e 62 52
  let modeOk := if k.comp = 2 then mode ≤ 3 || (mode = 4 && w = 16) else mode ≤ 2
  let want := if k.comp = 2 then 4 * dltWidth mode
    else if mode = 0 then 0 else if mode = 1 then ceilDiv (128 + nnz * w / 8) 32 else 4 * w
  let offOk := (if readLe rd 3 1 = 0 then off = g * k.umax else off = unitsBefore rd g) &&
    32 * (off + units) ≤ readLe rd 32 8
  let at' := readLe rd 24 8 + 32 * off
  let bitmap := readLe rd at' 128
  let ones := (List.range 1024).filter (fun i => bitmap.testBit i)
  let nnzOk := if k.comp = 2 || mode = 0 then nnz = 0 else mode != 1 || nnz = ones.length
  if !modeOk then .error 3
  else if units != want then .error 4
  else if !offOk then .error 5
  else if !nnzOk then .error 6
  else
    let codes :=
      if k.comp = 2 then
        let n := dltWidth mode
        let bs := k.granuleCodes base g
        bs.zipIdx.map (fun x =>
          let d := if n = 0 then 0 else signedBits n (codeAt rd at' n x.2)
          orderInv (k.fmt = 0xA) w (intCode w ((orderMap (k.fmt = 0xA) w x.1 : Nat) + d)))
      else if mode = 0 then List.replicate 1024 0
      else if mode = 1 then
        (List.range 1024).map (fun i => if bitmap.testBit i
          then codeAt rd (at' + 128) w ((ones.filter (· < i)).length) else 0)
      else (List.range 1024).map (fun i => codeAt rd at' w i)
    let used := if k.comp = 2 then 128 * dltWidth mode else if mode = 1 then 128 + nnz * w / 8 else 32 * units
    let padBytes := (List.range (32 * units - used)).all (fun i => rd (at' + used + i) = 0)
    if !(k.padOk g codes) || !padBytes || e.testBit 63 then .error 7 else .ok codes

/-- R201, R210: an FRL granule: its element codes, or the first failed check.  Its payload lies within PAYLOAD_BYTES (cause 5), and every
padding position decodes to zero, which a NaN block's does not (log entry 21). -/
def CompShape.readFrl (k : CompShape) (rd : Nat → Byte) (g : Nat) : Except Nat (List Nat) :=
  let n := frlBits k.comp
  let f := (elemFloat k.fmt).getD fmtBf16
  let blk (beta : Nat) : Nat := 4096 + g * k.frlBytes + beta * (2 + 2 * n)
  let q (beta j : Nat) : Nat := codeAt rd (blk beta + 2) n j
  let special := (List.range 64).all (fun b => rd (blk b) != 0 ||
    ((rd (blk b + 1) = 0 || rd (blk b + 1) = 0xFF) && (List.range 16).all (fun j => q b j = 0)))
  let code (e : Nat) : Nat :=
    let c := e % 64
    let r := e / 64
    let b := c / 4 + 16 * (r / 4)
    let j := c % 4 + 4 * (r % 4)
    let eb := (rd (blk b)).toNat
    if eb = 0 then (if rd (blk b + 1) = 0 then 0 else f.nanCode.getD 0)
    else
      let rs : Nat := bitsOf (rd (blk b + 1)).toNat (2 * (r % 4) + 1) (2 * (r % 4))
      let v := signedBits n (q b j)
      (f.encode .rne ((Val.ofInt v).mul (.fin false 1 ((eb : Int) - 128 - rs - n + 2)))).1
  let pad := (List.range 1024).all (fun e => (k.elementOf g e).isSome || code e = 0)
  if readLe rd 32 8 < (g + 1) * k.frlBytes then .error 5 else if !pad then .error 7 else if !special then .error 8 else .ok ((List.range 1024).map code)

/-- One granule of a container, with every check of Table 8.6. -/
def CompShape.readGranule (k : CompShape) (rd : Nat → Byte) (base : Nat → Nat) (g : Nat) : Except Nat (List Nat) :=
  match k.headerFault rd with
  | some c => .error c
  | none => if k.frl then k.readFrl rd g else k.readIndexed rd base g

/-! ## Chunks (R206) -/

/-- R206: a stored form cut into 4 KiB chunks, the last padded with zeros. -/
def chunksOf (form : List Byte) : List (List Byte) :=
  (List.range (ceilDiv form.length 4096)).map (fun i => padTo 4096 ((form.drop (4096 * i)).take 4096))

/-- The chunk table of a stored form, every entry valid. -/
def chunkTable (form : List Byte) : List (Option Word) := (chunksOf form).map (fun c => some (BitVec.ofNat 32 (crc32c c)))

end Sys2Proof.Machine
end

