-- ==== Sys2Proof/Machine/Operands.lean ====
section
/-! DEFINITION. Operand forms: the descriptor (R83, Table 4.2), tensor references and views (R86), the stored form of a
tensor (R29 to R31, R156, R189), the reading of its elements, and their global index (R48, R218). -/

namespace Sys2Proof.Machine

/-! ## The descriptor (R83) -/

def dOpcode (d : List Byte) : Nat := leField d 0 1
def dVariant (d : List Byte) : Nat := leField d 1 1
def dFlags (d : List Byte) : Nat := leField d 2 2
def dSr (d : List Byte) : Bool := (dFlags d).testBit 0
def dCpl (d : List Byte) : Bool := (dFlags d).testBit 1
def dPen (d : List Byte) : Nat := leField d 4 1
def dLayer (d : List Byte) : Nat := leField d 5 3
def dSeq (d : List Byte) : Nat := leField d 8 4
def dWaitId (d : List Byte) : Nat := leField d 12 4
def dWaitValue (d : List Byte) : Nat := leField d 16 4
def dSignalId (d : List Byte) : Nat := leField d 20 4
def dDeadline (d : List Byte) : Nat := leField d 24 4
def dSeed (d : List Byte) : Nat := leField d 176 8
def dStep (d : List Byte) : Nat := leField d 184 4
/-- An FP32 parameter. -/
def dF32 (d : List Byte) (off : Nat) : Val := f32 (leField d off 4)

/-- 0xFFFF_FFFF: no counter. -/
def noCounter : Nat := 0xFFFFFFFF

/-! ## References (Tables 4.4 and 4.5) -/

def refOff (n : Nat) : Nat := 32 + 24 * n
def refHandle (d : List Byte) (n : Nat) : Nat := leField d (refOff n) 4
def refElem (d : List Byte) (n : Nat) : Nat := leField d (refOff n + 4) 8
def refView (d : List Byte) (n : Nat) : Nat := leField d (refOff n + 12) 2
def refFlags (d : List Byte) (n : Nat) : Nat := leField d (refOff n + 14) 1
def refPresent (d : List Byte) (n : Nat) : Bool := (refFlags d n).testBit 0
def refTranspose (d : List Byte) (n : Nat) : Bool := (refFlags d n).testBit 1

/-! ## Tensors and their stored form -/

/-- Extent of dimension `k`. -/
def extAt (e : List Nat) (k : Nat) : Nat := e.getD k 1

/-- R86: the logical strides: products of the extents below. -/
def logStrides (e : List Nat) : List Nat :=
  (List.range 6).map (fun k => (e.take k).foldl (· * ·) 1)

def prodOf (l : List Nat) : Nat := l.foldl (· * ·) 1

def Tensor.elements (t : Tensor) : Nat := prodOf t.extents
def Tensor.width (t : Tensor) : Nat := fmtWidth t.fmt
def Tensor.block (t : Tensor) : Nat := blockOf t.fmt t.mx
def Tensor.compShape (t : Tensor) : CompShape :=
  { comp := t.comp, fmt := t.fmt, ext := t.extents, base := t.base.toNat }

/-- Coordinates of a linear index within extents. -/
def coordsIn (e : List Nat) (i : Nat) : List Nat :=
  (List.range 6).map (fun k => i / prodOf (e.take k) % extAt e k)

def Tensor.coords (t : Tensor) (lin : Nat) : List Nat := coordsIn t.extents lin

/-- R86: the storage index of an element: through the STRIDE fields. -/
def Tensor.storageIndex (t : Tensor) (lin : Nat) : Nat :=
  let c := t.coords lin
  c.getD 0 0 + ((List.range 5).map (fun k => c.getD (k + 1) 0 * t.strides.getD k 0)).sum

/-- R30: blocks of a block-scaled tensor. -/
def Tensor.blocks (t : Tensor) : Nat :=
  if t.block = 0 then 0 else ceilDiv (extAt t.extents 0) t.block * prodOf (t.extents.drop 1)

/-- R31: the scale plane's first byte. -/
def Tensor.scaleBase (t : Tensor) : Nat := roundUp (t.blocks * t.block * t.width / 8) 256

/-- R31: the scale byte of a block. -/
def Tensor.scaleAt (t : Tensor) (block : Nat) : Nat := t.scaleBase + (if t.fmt = 9 then 16 else 0) + block

/-- R156: the span of a tensor that is not compressed or block-scaled, in bytes. -/
def Tensor.spanBytes (t : Tensor) : Nat :=
  ceilDiv ((1 + ((List.range 5).map (fun k => (extAt t.extents (k + 1) - 1) * t.strides.getD k 0)).sum +
    (extAt t.extents 0 - 1)) * t.width) 8

/-- R156: the bytes of the near form. -/
def Tensor.storedBytes (t : Tensor) : Nat :=
  if t.comp != 0 then t.compShape.bound
  else if t.block != 0 then t.scaleAt t.blocks
  else t.spanBytes

/-- R205: the far form is a PACKED SPA container of the logical elements. -/
def Tensor.farCoded (t : Tensor) : Bool := t.comp = 0 && !t.mx && compFormatOk 1 t.fmt

/-- R48, R218: the global index of an element. -/
def Tensor.globalIndex (t : Tensor) (lin : Nat) : Nat :=
  match t.shard with
  | none => lin
  | some (org, log) =>
    let c := t.coords lin
    ((List.range 6).map (fun k => (org.getD k 0 + c.getD k 0) * prodOf (log.take k))).sum

/-! ## Finding tensors -/

/-- R216: the live tensor under a handle. -/
def State.tensor? (s : State) (handle : Nat) : Option Tensor :=
  (s.pen (handle / 2 ^ 29)).tensors.find? (fun t => t.handle.toNat = handle)

def State.modTensor (s : State) (handle : Nat) (f : Tensor → Tensor) : State :=
  s.modPen (handle / 2 ^ 29) (fun p => { p with tensors := p.tensors.map (fun t => if t.handle.toNat = handle then f t else t) })

/-- R247: whether a handle is a base's. -/
def isBaseHandle (h : Nat) : Bool := 0x10000000 ≤ h && h < 0x10000040

/-- R247: the registered base under a handle. -/
def State.base? (s : State) (handle : Nat) : Option Tensor :=
  if isBaseHandle handle then (s.drover.bases.find? (fun b => b.1 = handle - 0x10000000)).map Prod.snd else none

/-! ## Reading the stored forms -/

/-- The near form of a tensor of a pen. -/
def State.nearForm (s : State) (pen : Nat) (t : Tensor) (a : Nat) : Byte := s.penByte pen (t.penAddr + a)

/-- The near form of a base, which lies at a device address. -/
def State.baseForm (s : State) (t : Tensor) (a : Nat) : Byte := s.npByte (t.penAddr + a)

/-- The bytes of a far chunk in transfer staging. -/
def FarChunk.bytes? : FarChunk → Option (List Byte)
  | .confirmed b => some b
  | .waiting | .issued | .rejected | .cancelled => none

/-- The far form of a tensor being fetched. -/
def Fetch.form (f : Fetch) (a : Nat) : Byte :=
  (((f.chunks[a / 4096]?).bind FarChunk.bytes?).getD []).getD (a % 4096) 0

/-- Table 9.4: whether a near copy can be read. -/
def Res.isNear : Res → Bool
  | .near | .both | .poisoned => true
  | .none | .far => false

/-- The element code at a storage index or position of a container, read through `rd`; a granule that does not decode
reads zero (its fault is reported by `decodeFault`). -/
def codeThrough (t : Tensor) (rd : Nat → Byte) (base : Nat → Nat) (container : Option CompShape) (lin : Nat) : Nat :=
  match container with
  | some k =>
    let p := k.place (t.coords lin)
    match k.readGranule rd base p.1 with
    | .ok cs => cs.getD p.2 0
    | .error _ => 0
  | none => codeAt rd 0 t.width (t.storageIndex lin)

/-- The element codes of a base. -/
def State.baseCode (s : State) (t : Tensor) (lin : Nat) : Nat :=
  match s.base? t.base.toNat with
  | some b => codeAt (s.baseForm b) 0 b.width (b.storageIndex lin)
  | none => 0

/-- How a tensor is read now: the reader of its form and the container it is in, if any. -/
def State.source (s : State) (pen : Nat) (t : Tensor) : (Nat → Byte) × Option CompShape :=
  let own := if t.comp = 0 then none else some t.compShape
  match t.res, t.fetch with
  | .far, some f =>
    (f.form, if t.farCoded then some { comp := 1, fmt := t.fmt, ext := t.extents, base := 0 } else own)
  | _, _ => (s.nearForm pen t, own)

/-- R32: the code of an element. -/
def State.elemCode (s : State) (pen : Nat) (t : Tensor) (lin : Nat) : Nat :=
  let src := s.source pen t
  codeThrough t src.1 (s.baseCode t) src.2 lin

/-- R31, R34: the tensor scale of a BS4 tensor. -/
def State.tScale (s : State) (pen : Nat) (t : Tensor) : Nat := readLe (s.source pen t).1 t.scaleBase 4

/-- The block-scale byte of an element. -/
def State.scaleByte (s : State) (pen : Nat) (t : Tensor) (lin : Nat) : Nat :=
  if t.block = 0 then 0
  else readLe (s.source pen t).1 (t.scaleAt (t.storageIndex lin / t.block)) 1

/-- R32: the exact value of an element. -/
def State.elemValue (s : State) (pen : Nat) (t : Tensor) (lin : Nat) : Val :=
  scaledVal t.fmt t.mx (s.elemCode pen t lin) (s.scaleByte pen t lin) (if t.fmt = 9 then s.tScale pen t else 0)

/-- R189, R199: the offset of a granule's payload in its container. -/
def CompShape.granuleAt (k : CompShape) (rd : Nat → Byte) (g : Nat) : Nat :=
  if k.frl then k.payloadOffset + g * k.frlBytes else k.payloadOffset + 32 * bitsOf (readLe rd (64 + 8 * g) 8) 39 0

/-- R210: the first fault among the granules `gs` of a compressed tensor: the cause and the granule's pen address. -/
def State.decodeFault (s : State) (pen : Nat) (t : Tensor) (gs : List Nat) : Option (Nat × Nat) :=
  let src := s.source pen t
  match src.2 with
  | none => none
  | some k => gs.findSome? (fun g =>
      match k.readGranule src.1 (s.baseCode t) g with
      | .ok _ => none
      | .error c => some (c, t.penAddr + k.granuleAt src.1 g))

/-! ## Operands (R86) -/

/-- A reference as it stands after its view, offset and TRANSPOSE. -/
structure Operand where
  ref : Nat
  t : Tensor
  off : Nat
  ext : List Nat
  str : List Nat
deriving DecidableEq, Repr

/-- Exchange dimensions 0 and 1. -/
def swap01 (l : List Nat) : List Nat :=
  match l with
  | a :: b :: r => b :: a :: r
  | _ => l

/-- R419: a view entry as an issued operator keeps it: 46 bytes behind the 256 of its descriptor. -/
def View.bytes (v : View) : List Byte := leBytes 2 v.number ++ v.extents.flatMap (leBytes 4) ++ v.strides.flatMap (leBytes 4)

/-- R419: the entry of a view that an issued operator keeps. -/
def keptView (d : List Byte) (view : Nat) : Option View :=
  ((List.range ((d.length - 256) / 46)).find? (fun i => leField d (256 + 46 * i) 2 = view)).map (fun i =>
    { number := view, extents := (List.range 6).map (fun k => leField d (258 + 46 * i + 4 * k) 4)
      strides := (List.range 5).map (fun k => leField d (282 + 46 * i + 4 * k) 4) })

/-- R86, R219: the extents and strides of a reference's view; none for a view that does not exist. -/
def State.viewOf (s : State) (d : List Byte) (pen : Nat) (t : Tensor) (view : Nat) : Option (List Nat × List Nat) :=
  if view = 0 then some (t.extents, logStrides t.extents)
  else (match keptView d view with
    | some v => some v
    | none => (s.pen pen).views.find? (fun v => v.number = view)).map (fun (v : View) => (v.extents, 1 :: v.strides))

/-- R419: the descriptor of an operator that issues, with the view entries that its references name: a view that is replaced later
leaves it as it is. -/
def State.bindViews (s : State) (d : List Byte) : List Byte :=
  let views := ((List.range 6).filter (fun n => refPresent d n && refView d n != 0)).map (refView d)
  d ++ (views.eraseDups.filterMap (fun k => (s.pen (dPen d % 8)).views.find? (fun v => v.number = k))).flatMap View.bytes

def State.operand (s : State) (d : List Byte) (n : Nat) : Option Operand :=
  if refPresent d n then
    match s.tensor? (refHandle d n) with
    | none => none
    | some t =>
      match s.viewOf d (dPen d % 8) t (refView d n) with
      | none => none
      | some (e, st) =>
        let tr := refTranspose d n && dOpcode d = 0x10 && n ≤ 1
        some { ref := n, t := t, off := refElem d n, ext := if tr then swap01 e else e, str := if tr then swap01 st else st }
  else none

def Operand.count (o : Operand) : Nat := prodOf o.ext

/-- The logical linear index of the element at view coordinates. -/
def Operand.linOf (o : Operand) (c : List Nat) : Nat :=
  o.off + ((List.range 6).map (fun k => c.getD k 0 * o.str.getD k 0)).sum

/-- The logical linear index of element `v` of the view, taken in linear order. -/
def Operand.lin (o : Operand) (v : Nat) : Nat := o.linOf (coordsIn o.ext v)

/-- The largest index that the view reaches, without the offset. -/
def Operand.reach (o : Operand) : Nat :=
  ((List.range 6).map (fun k => (extAt o.ext k - 1) * o.str.getD k 0)).sum

/-- The linear indices of every element of the view. -/
def Operand.lins (o : Operand) : List Nat := (List.range o.count).map o.lin

/-- R87: whether two views share an element. -/
def Operand.overlaps (a b : Operand) : Bool :=
  a.t.handle = b.t.handle && a.lins.any (fun i => b.lins.contains i)

/-- R219: a view that maps two of its coordinates to one element. -/
def Operand.aliased (o : Operand) : Bool := !(decide o.lins.Nodup)

/-- The value at view coordinates. -/
def State.at' (s : State) (o : Operand) (c : List Nat) : Val :=
  s.elemValue (o.t.handle.toNat / 2 ^ 29) o.t (o.linOf c)

/-- The value at an element of the view in linear order. -/
def State.val (s : State) (o : Operand) (v : Nat) : Val := s.at' o (coordsIn o.ext v)

/-- Broadcast: the value at output coordinates, extents of 1 repeated (R125). -/
def State.atBroadcast (s : State) (o : Operand) (c : List Nat) : Val :=
  s.at' o ((List.range 6).map (fun k => if extAt o.ext k = 1 then 0 else c.getD k 0))

/-- The value converted to FP32 (R116 step 1). -/
def State.f32At (s : State) (o : Operand) (c : List Nat) : Val := elemF32 (s.at' o c)

/-- R44, R48: the draw key of an operator on a tensor. -/
def drawKey (d : List Byte) (handle : Nat) : DrawKey :=
  { seed := dSeed d, handle := handle, layer := dLayer d, step := dStep d % 256 }

/-- R41, R44: the rounding of the conversion of an output's element. -/
def Operand.rounding (o : Operand) (d : List Byte) (v : Nat) : Rounding :=
  if dSr d then .sr ((drawKey d o.t.handle.toNat).srBits (o.t.globalIndex (o.lin v))) else .rne

end Sys2Proof.Machine
end

