-- ==== Sys2Proof/Machine/Mailbox.lean ====
section
/-! DEFINITION. The mailbox transport (R398 to R403, R407, R408 to R414): taking a request, the checks of R400, answering a
slot, and the commands that wait. -/

namespace Sys2Proof.Machine

/-! ## Statuses (Table 17.1) -/

def stOk : Nat := 0x00
def stBusy : Nat := 0x01
def stBadOpcode : Nat := 0x02
def stBadLength : Nat := 0x03
def stBadParam : Nat := 0x04
def stNoResource : Nat := 0x05
def stNotPermitted : Nat := 0x06
def stPresence : Nat := 0x07
def stRefused : Nat := 0x08
def stIntegrity : Nat := 0x09
def stTimeout : Nat := 0x0A
def stNotReady : Nat := 0x0B
def stPenFaulted : Nat := 0x0C
def stLocked : Nat := 0x0D
def stHoldup : Nat := 0x0E
def stJobActive : Nat := 0x0F
def stSpares : Nat := 0x10
def stNotFound : Nat := 0x11
def stSequence : Nat := 0x12
def stRollback : Nat := 0x13
def stNoSession : Nat := 0x14

/-! ## Acceptance (Table 17.2) -/

/-- Opcode, whether a virtual function may issue it, and the lowest stage. -/
def cmdTable : List (Nat × Bool × Nat) :=
  [(0x0101, true, 2), (0x0102, true, 2), (0x0103, true, 2), (0x0201, false, 4), (0x0202, false, 4), (0x0203, false, 4),
    (0x0204, false, 4), (0x0205, false, 4), (0x0301, true, 4), (0x0302, true, 4), (0x0303, true, 4), (0x0304, true, 4),
    (0x0305, false, 4), (0x0401, false, 3), (0x0402, false, 3), (0x0403, true, 4), (0x0404, true, 4), (0x0405, false, 3)] ++
  [(0x0501, true, 4), (0x0502, true, 4), (0x0503, true, 4), (0x0601, false, 2), (0x0602, false, 2), (0x0603, false, 2),
    (0x0604, false, 4), (0x0605, false, 2), (0x0606, false, 2), (0x0701, false, 2), (0x0702, false, 2), (0x0703, false, 2),
    (0x0704, false, 2), (0x0801, false, 3), (0x0802, false, 3), (0x0803, false, 3), (0x0804, false, 3), (0x0805, false, 3)] ++
  [(0x0901, true, 4), (0x0902, true, 4), (0x0903, true, 4), (0x0904, true, 4), (0x0905, true, 4), (0x0A01, false, 3),
    (0x0A02, false, 3), (0x0A03, false, 3)]

def cmdRow (op : Nat) : Option (Bool × Nat) := (cmdTable.find? (fun r => r.1 = op)).map Prod.snd

/-- R408: whether a payload has its command's length. -/
def payloadOk (op : Nat) (p : List Byte) : Bool :=
  match op with
  | 0x0101 | 0x0103 | 0x0402 | 0x0604 | 0x0606 | 0x0701 => p.length = 0
  | 0x0203 | 0x0403 => p.length = 24
  | 0x0301 =>
    if leField p 1 1 = 2 then p.length = 16 + 256 * leField p 4 4
    else if leField p 1 1 = 0 && (leField p 2 2).testBit 1 then p.length = 144 else p.length = 80
  | 0x0401 | 0x0405 | 0x0503 | 0x0601 | 0x0803 | 0x0A02 | 0x0A03 => p.length = 16
  | 0x0501 | 0x0901 => p.length = 72
  | 0x0602 => 16 ≤ p.length && p.length = 16 + leField p 8 2
  | 0x0702 | 0x0703 | 0x0704 | 0x0A01 => 8 ≤ p.length && p.length = 8 + leField p 2 2
  | 0x0904 => 8 ≤ p.length && p.length = 8 + 4 * leField p 2 2
  | _ => p.length = 8

/-! ## Slots -/

/-- R402: the twelve slots of the device: 0–3 of the owner function, then one of each virtual function. -/
def slotIndex (fn : Fin 9) (slot : Fin 4) : Nat := if fn.val = 0 then slot.val else fn.val + 3

/-- The function of a slot. -/
def slotFn (i : Nat) : Nat := if i < 4 then 0 else i - 3

def trimZeros (bs : List Byte) : List Byte := (bs.reverse.dropWhile (· == 0)).reverse

/-- R399: the request that a GO submits; its header is copied whole whatever its length, since R400 answers with a header. -/
def Mailbox.request (m : Mailbox) : List Byte := padTo (max 8 m.reqLen) m.req

/-- R453: in DECOMMISSIONED, from stage 2, the boot ROM's own command handler serves. -/
def State.bootHandler (s : State) : Bool := s.dog.lcState = lcDecommissioned && 2 ≤ s.boot.stage

/-- R453: what that handler accepts: DEV_IDENTIFY, DEV_STATUS and LC_STATE_GET in slot 0 of the owner function. -/
def bootHandles (slot op : Nat) : Bool := slot = 0 && (op = 0x0101 || op = 0x0102 || op = 0x0701)

/-- Whether something answers requests: the Shepherd, or the boot ROM's handler. -/
def State.served (s : State) : Bool := s.boot.shepherdRuns || s.bootHandler

/-- R400, R407, R453: the first failing check of a request in a slot of a function. -/
def State.precheck (s : State) (fn slot : Nat) (m : Mailbox) : Option Nat :=
  let r := m.request
  if s.boot.stage < 2 || !s.served then some stNotReady
  else if s.bootHandler && !(bootHandles slot (leField r 0 2)) then some stNotReady
  else if m.reqLen < 8 || 4032 < m.reqLen then some stBadLength
  else if leField r 2 1 != 2 then some stBadParam
  else
    match cmdRow (leField r 0 2) with
    | none => some stBadOpcode
    | some (vfOk, minStage) =>
      if fn != 0 && (!vfOk || (s.boundPen fn).isNone) then some stNotPermitted
      else if s.boot.stage < minStage || (fn != 0 && s.boot.stage < 4) then some stNotReady
      else if !(payloadOk (leField r 0 2) (r.drop 8)) then some stBadLength
      else if leField r 3 1 != 0 then some stBadParam
      else none

/-- R399: the device takes GO: STATE is BUSY and the request is copied. -/
def State.takeGo (s : State) (i : Nat) : State :=
  ((s.modSlot i (fun m => { m with go := false, state := 1, taken := m.request })).modHost (fun h => { h with lastSlot := i })).count 38 1

/-- R402: the slot that the service core takes next: round robin over the slots with GO set, from the one after the last taken. -/
def State.slotDue (s : State) : Option Nat :=
  ((List.range 12).map (fun k => (s.host.lastSlot + 1 + k) % 12)).find? (fun i => (s.slotAt i).go && (s.slotAt i).state != 1)

/-- R399, R407: the whole response, then DONE; after a function-level reset the slot returns to IDLE. -/
def State.answer (s : State) (i status : Nat) (payload : List Byte) : State :=
  let m := s.slotAt i
  if m.discard then s.modSlot i (fun _ => .idle)
  else
    let rsp := (m.taken.take 2) ++ [BitVec.ofNat 8 status, 0] ++ ((m.taken.drop 4).take 4) ++ payload
    let t := s.modSlot i (fun x => { x with state := 2, last := BitVec.ofNat 8 status, rsp := trimZeros rsp
                                            rspLen := rsp.length, evt := true, taken := [] })
    if m.irq then t.raiseVector (slotFn i) 0 else t

/-- The end of a command's body: an answer now, or a wait with the slot BUSY. -/
inductive Answer where
  | reply (s : State) (status : Nat) (payload : List Byte)
  | wait (s : State)

/-- A refusal with nothing done. -/
def refuse (s : State) (status : Nat) : Answer := .reply s status []

/-- A command's request as its body sees it. -/
structure Req where
  fn : Nat
  slot : Nat
  pay : List Byte

def Req.f (r : Req) (off size : Nat) : Nat := leField r.pay off size
/-- R5: reserved bytes of the payload. -/
def Req.zero (r : Req) (lo hi : Nat) : Bool := ((r.pay.drop lo).take (hi - lo)).all (· == 0)

/-- R407: a GO is answered by what serves requests, and during a warm reset with NOT_READY. -/
def State.goServed (s : State) : Bool := s.served || s.boot.resetting = some .warm

/-- R400, R402: the requests at the head of the round that fail a check of R400 are answered at once. -/
def State.refuseDue (s : State) : Nat → State
  | 0 => s
  | n + 1 => match s.slotDue with
    | none => s
    | some i =>
      if s.goServed then
        match s.precheck (slotFn i) i (s.slotAt i) with
        | some st => State.refuseDue ((s.takeGo i).answer i st []) n
        | none => s
      else s

/-- R400, R402: the round goes on past the requests that fail a check. -/
def State.settleRound (s : State) : State := s.refuseDue 12

/-- R399, R402: the service core takes the slot whose turn it is, if its request has this opcode, and the command runs. -/
def State.serve (s : State) (fn : Fin 9) (slot : Fin 4) (op : Nat) (body : Req → State → Answer) : State :=
  let i := slotIndex fn slot
  let m := s.slotAt i
  if s.slotDue = some i && s.served && leField m.request 0 2 = op then
    let t := s.takeGo i
    (match s.precheck fn.val i m with
      | some st => t.answer i st []
      | none =>
        match body { fn := fn.val, slot := i, pay := m.request.drop 8 } t with
        | .reply u st p => u.answer i st p
        | .wait u => u).settleRound
  else s

/-- R410: the pen that a command names, or its status. -/
def Req.pen (r : Req) (s : State) : Except Nat Nat :=
  let b := r.f 0 1
  if 8 ≤ b then .error stBadParam
  else if r.fn != 0 && s.boundPen r.fn != some b then .error stNotPermitted
  else .ok b

/-- A command on a pen. -/
def withPen (r : Req) (s : State) (k : Nat → Answer) : Answer :=
  match r.pen s with
  | .error st => refuse s st
  | .ok p => k p

/-- R410, R347: a command on a pen that exists and is not being wiped. -/
def withLivePen (r : Req) (s : State) (k : Nat → Answer) : Answer :=
  withPen r s (fun p => if (s.pen p).state.live then k p else refuse s stRefused)

/-! ## Commands that wait with their slot BUSY -/

/-- The slots that are BUSY with an opcode and whose payload satisfies `p`. -/
def State.busySlots (s : State) (op : Nat) (p : List Byte → Bool) : List Nat :=
  (List.range 12).filter (fun i => let m := s.slotAt i
    m.state = 1 && leField m.taken 0 2 = op && p (m.taken.drop 8))

/-- Answer every waiting command of an opcode on a pen. -/
def State.answerPen (s : State) (op pen status : Nat) : State :=
  s.forAll (s.busySlots op (fun p => leField p 0 1 = pen)) (fun t i => t.answer i status [])

/-- R407: after a control-complex reset every BUSY slot completes with NOT_READY. -/
def State.answerBusy (s : State) : State :=
  s.forAll ((List.range 12).filter (fun i => (s.slotAt i).state = 1)) (fun t i => t.answer i stNotReady [])

/-- R414: jobs in the way of an exclusive command. -/
def State.jobActive (s : State) : Bool :=
  s.pens.any (fun p => p.state = .running || p.state = .quiescing || p.state = .quiesced)

/-! ## GO and ABORT (R399 to R401) -/

/-- R399, R401, R441: a GO write; it is ignored while the slot is BUSY, and below stage 2. -/
def State.mbGo (s : State) (i : Nat) (irq : Bool) : State :=
  if s.boot.stage < 2 then s else
  let t := s.modSlot i (fun m => { m with irq := irq })
  if (s.slotAt i).state = 1 then t else (t.modSlot i (fun m => { m with go := true })).settleRound

/-- R401: ABORT withdraws a request while GO still reads 1. -/
def State.mbAbort (s : State) (i : Nat) : State :=
  (s.modSlot i (fun m => if m.go then { m with go := false } else m)).settleRound

def execMbCtrlGo (fn : Fin 9) (slot : Fin 4) (irq : Bool) (s : State) : Result :=
  done (s.quiet.mbGo (slotIndex fn slot) irq)

def execMbCtrlAbort (fn : Fin 9) (slot : Fin 4) (s : State) : Result := done (s.quiet.mbAbort (slotIndex fn slot))

/-! ## Time limits (R403) -/

/-- Pages of a base's near copy; none when a registration has ended without success. -/
def basePages (t : Tensor) : List Nat :=
  if t.penAddr = 0 then [] else (List.range (roundUp t.storedBytes pageBytes / pageBytes)).map (fun i => t.penAddr / pageBytes + i)

def State.freeBasePages (s : State) (t : Tensor) : State :=
  s.modDrover (fun d => { d with nearUsed := d.nearUsed.filter (fun p => !((basePages t).contains p)) })

/-- R421: a registration that ends without success registers nothing; a lost base stays lost. -/
def State.abandonBase (s : State) (n : Nat) : State :=
  let gone := (s.drover.bases.filter (fun b => b.1 = n && b.2.res = .none)).map Prod.snd
  let keep (b : Nat × Tensor) : Option (Nat × Tensor) :=
    if b.1 = n && b.2.res = .none then
      (if b.2.lost then some (n, { b.2 with res := .poisoned, penAddr := 0, fetch := none, far := none, farTable := [] }) else none)
    else some b
  (s.forAll gone State.freeBasePages).modDrover (fun d => { d with bases := d.bases.filterMap keep })

/-- Answer the BASE_REGISTER that waits for base `n`. -/
def State.answerBase (s : State) (n status : Nat) (payload : List Byte) : State :=
  s.forAll (s.busySlots 0x0305 (fun p => leField p 1 1 = n)) (fun t i => t.answer i status payload)

/-- R435: the handles of a CHECKPOINT_DRAIN payload. -/
def drainHandles (p : List Byte) : List Nat := (List.range (leField p 2 2)).map (fun i => leField p (8 + 4 * i) 4)

/-- R435: the first tensor not brought near. -/
def State.firstFar (s : State) (hs : List Nat) : Option Nat :=
  hs.findIdx? (fun h => match s.tensor? h with
    | some t => !(t.res = .near || t.res = .both)
    | none => true)

/-- R435: after a failure only the tensors already brought near stay held. -/
def State.holdNear (s : State) (hs : List Nat) : State :=
  s.forAll hs (fun t h => t.modTensor h (fun x => { x with held := x.held && (x.res = .near || x.res = .both) }))

/-- R435: a drain ends with a failure. -/
def State.drainFails (s : State) (i status : Nat) : State :=
  let hs := drainHandles ((s.slotAt i).taken.drop 8)
  (s.holdNear hs).answer i status (leBytes 2 ((s.firstFar hs).getD 0))

/-- R435: answer the drains whose tensors are all near. -/
def State.settleDrains (s : State) : State :=
  s.forAll (s.busySlots 0x0904 (fun _ => true)) (fun t i =>
    let hs := drainHandles ((t.slotAt i).taken.drop 8)
    if (t.firstFar hs).isNone then t.answer i stOk (leBytes 2 hs.length) else t)

/-- Tables 14.5 and 17.14: what the commands waiting on a pen answer when the pen faults or is aborted. -/
def State.endWaits (s : State) (pen status : Nat) (index : Bool) : State :=
  (s.answerPen 0x0902 pen status).forAll ((s.answerPen 0x0902 pen status).busySlots 0x0904 (fun p => leField p 0 1 = pen))
    (fun t i => if index then t.drainFails i status else t.answer i status [])

/-- R409: what a command that ends with TIMEOUT leaves behind. -/
def State.cancelWait (s : State) (i : Nat) : State :=
  let m := s.slotAt i
  let p := m.taken.drop 8
  match leField m.taken 0 2 with
  | 0x0305 => s.abandonBase (leField p 1 1)
  | 0x0401 => s.modFab (fun f => { f with draining := match f.draining with
      | some x => if x.slot = some i then none else some x
      | none => none })
  | 0x0502 => s.modVideo (fun v => { v with streams := v.streams.map (fun x =>
      { x with closeSlots := x.closeSlots.filter (· != i) }) })
  | 0x0803 => s.modHealth (fun h => { h with snapshot := match h.snapshot with
      | some (e, t, some j) => if j = i then none else some (e, t, some j)
      | x => x })
  | _ => s

/-- R428, R473: the end of a block whose sectors are not erased in its 40 ms: BUSY with NEXT_OFFSET. -/
def State.blockBusy (s : State) (i : Nat) : State :=
  let n := leField (s.slotAt i).taken 8 4
  s.answer i stBusy (leBytes 4 (match s.dog.session with
    | some x => if x.number.toNat = n then x.accepted else 0
    | none => 0))

def execCommandTimeout (fn : Fin 9) (slot : Fin 4) (s : State) : Result :=
  let i := slotIndex fn slot
  if (s.slotAt i).state = 1 then
    let t := s.quiet.cancelWait i
    match leField (s.slotAt i).taken 0 2 with
    | 0x0904 => done (t.drainFails i stTimeout)
    | 0x0602 => done (t.blockBusy i)
    | _ => done (t.answer i stTimeout [])
  else done s.quiet

end Sys2Proof.Machine
end

