-- ==== Sys2Proof/Machine/Flags.lean ====
section
/-! DEFINITION. Status flags (Table 5.2, R95) and the output stage: conversion (R41, R42), block encoding (R33, R34),
compression (R190 to R200) and the stores that carry the result. -/

namespace Sys2Proof.Machine

/-! ## OP_FLAGS (Table 5.2) -/

def flagSat : Nat := 1
def flagNan : Nat := 2
def flagDecode : Nat := 4
def flagBoxRange : Nat := 8
def flagRowEmpty : Nat := 16
def flagRowInvalid : Nat := 32
def flagLabelRange : Nat := 64

/-- A flag, when its condition holds. -/
def flagIf (b : Bool) (f : Nat) : Nat := if b then f else 0

/-- Flags of several parts together. -/
def orAll (fs : List Nat) : Nat := fs.foldl (fun a b => a ||| b) 0

/-- R95: SAT and NAN of one conversion. -/
def convFlags (fmt : Nat) (mx : Bool) (v : Val) (sat : Bool) : Nat :=
  flagIf sat flagSat ||| flagIf (nanWritten fmt mx v) flagNan

/-! ## The stores of an output -/

/-- An output that is encoded whole once every element is known: block-scaled, compressed or narrower than a byte. -/
def Operand.whole (o : Operand) : Bool := o.t.comp != 0 || o.t.block != 0 || o.t.width < 8

/-- A part of an operator's result: its effects and its flags. -/
structure Part where
  effects : List Effect
  flags : Nat
deriving DecidableEq, Repr

def Part.empty : Part := { effects := [], flags := 0 }
def Part.append (a b : Part) : Part := { effects := a.effects ++ b.effects, flags := a.flags ||| b.flags }
def joinParts (ps : List Part) : Part := { effects := ps.flatMap Part.effects, flags := orAll (ps.map Part.flags) }

/-- The store of an element code of a tensor of whole-byte elements. -/
def Tensor.storeCode (t : Tensor) (lin code : Nat) : Effect :=
  .store (t.penAddr + t.storageIndex lin * (t.width / 8)) (leBytes (t.width / 8) code)

/-- Convert and write a value to element `v` of an output view, or stage it for an output encoded whole. -/
def Operand.write (o : Operand) (d : List Byte) (v : Nat) (x : Val) : Part :=
  if o.whole then { effects := [.stage o.ref v x], flags := 0 }
  else
    let c := encodeElem o.t.fmt (o.rounding d v) x
    { effects := [o.t.storeCode (o.lin v) c.1], flags := convFlags o.t.fmt o.t.mx x c.2 }

/-- R131, R132: an in-place FP32 output, always RNE. -/
def Operand.writeRne (o : Operand) (v : Nat) (x : Val) : Part :=
  let c := encodeElem o.t.fmt .rne x
  { effects := [o.t.storeCode (o.lin v) c.1], flags := convFlags o.t.fmt o.t.mx x c.2 }

/-- R96: the accumulate-write of an element, carrying an FP32 value. -/
def Operand.accumulate (o : Operand) (v : Nat) (x : Val) : Part :=
  { effects := [.acc (o.t.penAddr + o.t.storageIndex (o.lin v) * (o.t.width / 8)) (o.t.fmt = 1) (BitVec.ofNat 32 (toF32 x))]
    flags := flagIf x.isNan flagNan }

/-! ## Outputs encoded whole -/

/-- The values staged for a reference: by element of the view. -/
def stagedFor (staged : List (Nat × Nat × Val)) (ref : Nat) : List (Nat × Val) :=
  staged.filterMap (fun x => if x.1 = ref then some (x.2.1, x.2.2) else none)

/-- A staged value with the logical index it lands on and its rounding. -/
def Operand.landed (o : Operand) (d : List Byte) (xs : List (Nat × Val)) : List (Nat × Val × Rounding) :=
  xs.map (fun x => (o.lin x.1, x.2, o.rounding d x.1))

def landedAt (l : List (Nat × Val × Rounding)) (lin : Nat) : Option (Val × Rounding) :=
  (l.find? (fun x => x.1 = lin)).map Prod.snd

/-- R33, R34: the blocks that a block-scaled output's view covers. -/
def Operand.encodeBlocks (o : Operand) (tScale : Nat) (l : List (Nat × Val × Rounding)) : Part :=
  let t := o.t
  let bs := t.block
  let e0 := extAt t.extents 0
  let rowBlocks := ceilDiv e0 bs
  let touched := ((l.map (fun x => x.1 / e0 * rowBlocks + x.1 % e0 / bs)).eraseDups)
  joinParts (touched.map (fun b =>
    let row := b / rowBlocks
    let c0 := b % rowBlocks * bs
    let xs := (List.range (min bs (e0 - c0))).map (fun i => (landedAt l (row * e0 + c0 + i)).getD (.zero, .rne))
    let r := encodeBlock t.fmt t.mx tScale xs
    let bytes := packCodes t.width (r.codes ++ List.replicate (bs - r.codes.length) 0)
    { effects := [.store (t.penAddr + b * (bs * t.width / 8)) bytes,
                  .store (t.penAddr + t.scaleAt b) [BitVec.ofNat 8 r.scale]]
      flags := flagIf r.sat flagSat ||| flagIf r.nan flagNan }))

/-- R29: unscaled elements narrower than a byte, merged into the bytes that hold them. -/
def Operand.encodeNarrow (o : Operand) (old : Nat → Byte) (l : List (Nat × Val × Rounding)) : Part :=
  let t := o.t
  let cs := l.map (fun x => (t.storageIndex x.1, encodeElem t.fmt x.2.2 x.2.1, x.2.1))
  let bytes := (cs.map (fun c => c.1 / 2)).eraseDups
  let code (i : Nat) : Nat := match cs.find? (fun c => c.1 = i) with
    | some c => c.2.1.1 % 16
    | none => codeAt old 0 4 i
  { effects := bytes.map (fun b => .store (t.penAddr + b) [BitVec.ofNat 8 (code (2 * b) + 16 * code (2 * b + 1))])
    flags := orAll (cs.map (fun c => convFlags t.fmt t.mx c.2.2 c.2.1.2)) }

/-- R189 to R200: granules of a compressed output; a NaN block of FRL counts as NaN written. -/
def Operand.encodeGranules (o : Operand) (l : List (Nat × Val × Rounding)) : Part :=
  let t := o.t
  let k := t.compShape
  let cs := l.map (fun x => (x.1, encodeElem t.fmt x.2.2 x.2.1, x.2.1))
  let code (lin : Nat) : Nat := match cs.find? (fun c => c.1 = lin) with
    | some c => c.2.1.1
    | none => 0
  let gs := (cs.map (fun c => (k.place (t.coords c.1)).1)).eraseDups
  let frlNan := k.frl && gs.any (fun g => (frlGranule k.comp k.fmt (k.granuleCodes code g)).2)
  { effects := gs.flatMap (fun g => (k.granulePieces code g).map (fun p => .store (t.penAddr + p.1) p.2))
    flags := orAll (cs.map (fun c => convFlags t.fmt t.mx c.2.2 c.2.1.2)) ||| flagIf frlNan flagNan }

/-- What is encoded together with an element: its granule, its block, or the byte that it shares. -/
def Operand.unitOf (o : Operand) (lin : Nat) : Nat :=
  let t := o.t
  if t.comp != 0 then (t.compShape.place (t.coords lin)).1
  else if t.block != 0 then lin / extAt t.extents 0 * ceilDiv (extAt t.extents 0) t.block + lin % extAt t.extents 0 / t.block
  else t.storageIndex lin / 2

/-- The stores and flags of whole units of one output, from their landed values. -/
def State.encodeUnits (s : State) (o : Operand) (l : List (Nat × Val × Rounding)) : Part :=
  let pen := o.t.handle.toNat / 2 ^ 29
  if l = [] then .empty
  else if o.t.comp != 0 then o.encodeGranules l
  else if o.t.block != 0 then o.encodeBlocks (readLe (s.nearForm pen o.t) o.t.scaleBase 4) l
  else o.encodeNarrow (s.nearForm pen o.t) l

/-- The units of an output whose every element in the view has been staged; at the `last` of them, every unit begun. -/
def Operand.unitsReady (o : Operand) (l : List (Nat × Val × Rounding)) (last : Bool) : List Nat :=
  ((l.map (fun x => o.unitOf x.1)).eraseDups).filter (fun u =>
    last || (o.lins.filter (fun i => o.unitOf i = u)).length ≤ (l.filter (fun x => o.unitOf x.1 = u)).length)

/-- What a release writes of the outputs that are encoded in units (R211): its effects and flags; the values that stay staged; and where
it wrote units with values that earlier releases had staged. -/
structure UnitWrite where
  part : Part
  left : List (Nat × Nat × Val)
  shared : List Nat

def Effect.addr? : Effect → Option Nat
  | .store a _ | .scale a _ => some a
  | .acc _ _ _ | .stage _ _ _ | .plane _ _ => none

/-- R207, R211: a writer writes the units that it completes, each its own; the last writes what is left and the container's frame.
`prev` are the values that earlier releases have left staged. -/
def State.writeUnits (s : State) (d : List Byte) (prev staged : List (Nat × Nat × Val)) (last : Bool) : UnitWrite :=
  let outs := ((List.range 6).filterMap (s.operand d)).filter Operand.whole
  let ready (o : Operand) (x : Nat × Nat × Val) : Bool :=
    x.1 = o.ref && (o.unitsReady (o.landed d (stagedFor staged o.ref)) last).contains (o.unitOf (o.lin x.2.1))
  let units (o : Operand) (xs : List (Nat × Nat × Val)) : Part := s.encodeUnits o (o.landed d (stagedFor xs o.ref))
  let frame (o : Operand) : List Effect :=
    if last && o.t.comp != 0 then o.t.compShape.framePieces.map (fun p => .store (o.t.penAddr + p.1) p.2) else []
  let old (o : Operand) : List Nat := (prev.filter (ready o)).map (fun x => o.unitOf (o.lin x.2.1))
  { part := joinParts (outs.map (fun o => let p := units o (staged.filter (ready o))
      { p with effects := p.effects ++ frame o }))
    left := staged.filter (fun x => !(outs.any (fun o => ready o x)))
    shared := outs.flatMap (fun o =>
      (units o (staged.filter (fun x => ready o x && (old o).contains (o.unitOf (o.lin x.2.1))))).effects.filterMap Effect.addr?) }

end Sys2Proof.Machine
end

