-- ==== Sys2Proof/Machine/Matrix.lean ====
section
/-! DEFINITION. The values of GEMM and CONV (R35 to R39, R88 to R103, R147, R149): products, group sums in K order,
partial planes and the epilogue. -/

namespace Sys2Proof.Machine

/-! ## Accumulation (R36 to R39) -/

/-- R36: how products are summed: integers, exactly by groups, or by the tree of eight. -/
structure AccKind where
  int : Bool
  group : Nat
  tree : Bool
deriving DecidableEq, Repr

/-- R36: the group size of one operand of 8 bits or fewer. -/
def ownGroup (fmt : Nat) (mx : Bool) : Nat := if blockOf fmt mx = 32 then 32 else 16

/-- R35, R36: the row of the group table for two operand formats. -/
def accKind (fa : Nat) (ma : Bool) (fb : Nat) (mb : Bool) : AccKind :=
  if intOperand fa ma && intOperand fb mb then { int := true, group := 16, tree := false }
  else if fmtWidth fa = 16 || fmtWidth fb = 16 then { int := false, group := 8, tree := true }
  else { int := false, group := min (ownGroup fa ma) (ownGroup fb mb), tree := false }

/-- R149: an exact group sum of zero is +0. -/
def plusZero (v : Val) : Val := if v.isZero then .zero else v

/-- R36: the tree of eight products, RNE to FP32 at each node. -/
def treeOf8 (p : Nat → Val) : Val :=
  let s (a b : Nat) : Val := fadd (p a) (p b)
  fadd (fadd (s 0 1) (s 2 3)) (fadd (s 4 5) (s 6 7))

/-- The sum of one group from its products. -/
def groupSum (kind : AccKind) (p : Nat → Val) : Val :=
  if kind.tree then treeOf8 p
  else plusZero ((List.range kind.group).foldl (fun a i => a.add (p i)) .zero)

/-- The signed value of an INT32 accumulator entry. -/
def accInt (w : Nat) : Int := signedBits 32 w

/-- R39: the saturating addition of an integer group sum. -/
def accAddInt (w : Nat) (g : Int) : Nat × Bool :=
  let x := accInt w + g
  if x < -2147483648 then (0x80000000, true)
  else if 2147483647 < x then (0x7FFFFFFF, true) else (intCode 32 x, false)

/-- One group added to an accumulator entry, with the saturation flag. -/
def accAdd (kind : AccKind) (w : Nat) (g : Val) : Nat × Bool :=
  if kind.int then accAddInt w g.floor else (toF32 ((f32 w).add g), false)

/-- R149: the groups of K indices kLo to kHi − 1 added in ascending order; indices from `k` on are zeros. -/
def accRun (kind : AccKind) (p : Nat → Val) (k kLo kHi w : Nat) : Nat × Bool :=
  ((List.range (ceilDiv (min kHi k) kind.group)).filter (fun j => kLo / kind.group ≤ j)).foldl (fun a j =>
    let r := accAdd kind a.1 (groupSum kind (fun i => if kind.group * j + i < k then p (kind.group * j + i) else .zero))
    (r.1, a.2 || r.2)) (w, false)

/-! ## Operand values -/

/-- R32, R38: an element as the engine takes it: with its block scale and without the tensor scale.  Where the blocks of an
operand do not run along K (GEMM Ref 1, the operands of CONV), a K group is not one block as R36 has it: DESIGN CHOICE, each
product takes the block scales of its own two elements and the group is summed exactly (log entry 131). -/
def State.engineVal (s : State) (o : Operand) (c : List Nat) : Val :=
  let pen := o.t.handle.toNat / 2 ^ 29
  let lin := o.linOf c
  let e := elemVal o.t.fmt o.t.mx (s.elemCode pen o.t lin)
  if o.t.fmt = 9 then (bs4BlockVal (s.scaleByte pen o.t lin)).mul e
  else if o.t.block != 0 then (e8m0Val (s.scaleByte pen o.t lin)).mul e
  else e

/-- R38: the tensor scale of a BS4 operand at the epilogue. -/
def State.operandScale (s : State) (o : Operand) : Option Val :=
  if o.t.fmt = 9 then
    let t := s.tScale (o.t.handle.toNat / 2 ^ 29) o.t
    some (if tScaleGood t then f32 t else .nan)
  else none

/-! ## Geometry -/

/-- A product in terms of rows, columns and K for each batch: the view coordinates of an output element and the products
that it sums. -/
structure Geometry where
  batches : Nat
  /-- The dimensions that rows run over, innermost first. -/
  rowDims : List Nat
  cols : Nat
  k : Nat

/-- Table 4.9, R88: the pass and dimensions of a CONV. -/
def convDims (d : List Byte) : Nat := dVariant d % 4
def convPass (d : List Byte) : Nat := dVariant d / 4 % 4
def convGroups (d : List Byte) : Nat := leField d 208 2
/-- Table 4.7: a geometry byte of spatial dimension `a`. -/
def convKernel (d : List Byte) (a : Nat) : Nat := leField d (212 + a) 1
def convStride (d : List Byte) (a : Nat) : Nat := leField d (215 + a) 1
def convDilation (d : List Byte) (a : Nat) : Nat := leField d (218 + a) 1
def convPadLo (d : List Byte) (a : Nat) : Nat := leField d (221 + a) 1
def convPadHi (d : List Byte) (a : Nat) : Nat := leField d (224 + a) 1

/-- R98 to R100: extents of X, W and Y whichever references hold them in this pass: (X, W, Y). -/
def convExtents (d : List Byte) (r0 r1 r2 : List Nat) : List Nat × List Nat × List Nat :=
  match convPass d with
  | 1 => (r2, r1, r0)
  | 2 => (r0, r2, r1)
  | _ => (r0, r1, r2)

/-- R101: the coordinates of an input dimension with a given residue. -/
def phaseCount (extent stride r : Nat) : Nat := ceilDiv (extent - r) stride

/-- R101, R147: the taps of a spatial dimension that contribute to input coordinates of residue `r`. -/
def phaseTaps (d : List Byte) (a r : Nat) : List Nat :=
  (List.range (convKernel d a)).filter (fun x =>
    (r + convPadLo d a + convStride d a * 256 - x * convDilation d a) % convStride d a = 0)

/-- Residues of a phase number. -/
def phaseResidue (d : List Byte) (ph a : Nat) : Nat :=
  match a with
  | 0 => ph % convStride d 0
  | 1 => ph / convStride d 0 % convStride d 1
  | _ => ph / (convStride d 0 * convStride d 1) % convStride d 2

def phases (d : List Byte) : Nat := convStride d 0 * convStride d 1 * convStride d 2

/-- The coordinates, in the reference's view, of entry `i` of dimensions `dims`. -/
def unrank (dims : List Nat) (i : Nat) : List Nat :=
  (List.range dims.length).map (fun k => i / prodOf (dims.take k) % dims.getD k 1)

/-- R89, R147: the geometry of batch `b` of a GEMM or CONV, from the extents of references 0 to 2. -/
def matGeometry (d : List Byte) (e0 e1 e2 : List Nat) (b : Nat) : Geometry :=
  if dOpcode d = 0x10 then
    { batches := prodOf (e2.drop 2), rowDims := [extAt e2 1], cols := extAt e2 0, k := extAt e0 0 }
  else
    let g := convGroups d
    let x := (convExtents d e0 e1 e2).1
    let w := (convExtents d e0 e1 e2).2.1
    let y := (convExtents d e0 e1 e2).2.2
    let taps := convKernel d 0 * convKernel d 1 * convKernel d 2
    match convPass d with
    | 1 =>
      let ph := b / g
      { batches := g * phases d
        rowDims := (List.range 3).map (fun a => phaseCount (extAt x a) (convStride d a) (phaseResidue d ph a)) ++ [extAt x 4]
        cols := extAt x 3 / g
        k := prodOf ((List.range 3).map (fun a => (phaseTaps d a (phaseResidue d ph a)).length)) * (extAt w 0 / g) }
    | 2 =>
      { batches := g, rowDims := [convKernel d 0, convKernel d 1, convKernel d 2, extAt w 4], cols := extAt w 0 / g
        k := prodOf (y.take 3) * extAt y 4 }
    | _ =>
      { batches := g, rowDims := y.take 3 ++ [extAt y 4], cols := extAt w 0 / g, k := taps * extAt w 4 }

/-- The view coordinates in Ref 2 of row `r` and column `c` of batch `b`, in B-stationary orientation. -/
def matOut (d : List Byte) (e0 e1 e2 : List Nat) (b r c : Nat) : List Nat :=
  let geo := matGeometry d e0 e1 e2 b
  if dOpcode d = 0x10 then [c, r] ++ unrank (e2.drop 2) b
  else
    let p := unrank geo.rowDims r
    let g := b % convGroups d
    match convPass d with
    | 1 =>
      (List.range 3).map (fun a => p.getD a 0 * convStride d a + phaseResidue d (b / convGroups d) a)
        ++ [g * geo.cols + c, p.getD 3 0, 0]
    | 2 => [g * geo.cols + c, p.getD 0 0, p.getD 1 0, p.getD 2 0, p.getD 3 0, 0]
    | _ => [p.getD 0 0, p.getD 1 0, p.getD 2 0, g * geo.cols + c, p.getD 3 0, 0]

/-- A spatial position of X under output position `o` and tap `x`, none in the padding (R63). -/
def convInput (d : List Byte) (a extent o x : Nat) : Option Nat :=
  let i := o * convStride d a + x * convDilation d a
  if i < convPadLo d a then none
  else if extent ≤ i - convPadLo d a then none else some (i - convPadLo d a)

/-- The output position fed by input position `i` through tap `x` in DGRAD, none in the padding. -/
def convOutput (d : List Byte) (a extent i x : Nat) : Option Nat :=
  let n := i + convPadLo d a
  if n < x * convDilation d a then none
  else
    let q := (n - x * convDilation d a) / convStride d a
    if q < extent then some q else none

/-- Three spatial positions when all exist. -/
def three (a b c : Option Nat) : Option (List Nat) :=
  match a, b, c with
  | some x, some y, some z => some [x, y, z]
  | _, _, _ => none

/-- The batch coordinates of a GEMM operand: an extent of 1 is broadcast (R89). -/
def batchCoords (e e2 : List Nat) (b : Nat) : List Nat :=
  (unrank (e2.drop 2) b).zipIdx.map (fun x => if extAt e (x.2 + 2) = 1 then 0 else x.1)

/-- The view coordinates in Ref 0 of row `r` at K index `k` of batch `b`, in B-stationary orientation; none in the padding. -/
def matCoord0 (d : List Byte) (e0 e1 e2 : List Nat) (b r k : Nat) : Option (List Nat) :=
  let geo := matGeometry d e0 e1 e2 b
  if dOpcode d = 0x10 then some ([k, r] ++ batchCoords e0 e2 b)
  else
    let p := unrank geo.rowDims r
    let gr := convGroups d
    let g := b % gr
    match convPass d with
    | 1 =>
      let ph := b / gr
      let taps := (List.range 3).map (fun a => phaseTaps d a (phaseResidue d ph a))
      let nt := prodOf (taps.map List.length)
      let ti := unrank (taps.map List.length) (k % nt)
      let tap (a : Nat) : Nat := (taps.getD a []).getD (ti.getD a 0) 0
      let pos (a : Nat) : Option Nat :=
        convOutput d a (extAt e0 a) (p.getD a 0 * convStride d a + phaseResidue d ph a) (tap a)
      (three (pos 0) (pos 1) (pos 2)).map (fun q => q ++ [g * (extAt e1 0 / gr) + k / nt, p.getD 3 0, 0])
    | 2 =>
      let y := unrank (e1.take 3 ++ [extAt e1 4]) k
      let pos (a : Nat) : Option Nat := convInput d a (extAt e0 a) (y.getD a 0) (p.getD a 0)
      (three (pos 0) (pos 1) (pos 2)).map (fun q => q ++ [g * extAt e2 4 + p.getD 3 0, y.getD 3 0, 0])
    | _ =>
      let kern := [convKernel d 0, convKernel d 1, convKernel d 2]
      let t := unrank kern (k % prodOf kern)
      let pos (a : Nat) : Option Nat := convInput d a (extAt e0 a) (p.getD a 0) (t.getD a 0)
      (three (pos 0) (pos 1) (pos 2)).map (fun q => q ++ [g * extAt e1 4 + k / prodOf kern, p.getD 3 0, 0])

/-- The view coordinates in Ref 1 of column `c` at K index `k` of batch `b`. -/
def matCoord1 (d : List Byte) (e0 e1 e2 : List Nat) (b c k : Nat) : List Nat :=
  let geo := matGeometry d e0 e1 e2 b
  if dOpcode d = 0x10 then [c, k] ++ batchCoords e1 e2 b
  else
    let gr := convGroups d
    let g := b % gr
    match convPass d with
    | 1 =>
      let taps := (List.range 3).map (fun a => phaseTaps d a (phaseResidue d (b / gr) a))
      let nt := prodOf (taps.map List.length)
      let ti := unrank (taps.map List.length) (k % nt)
      [g * (extAt e1 0 / gr) + k / nt] ++ (List.range 3).map (fun a => (taps.getD a []).getD (ti.getD a 0) 0) ++ [c, 0]
    | 2 =>
      let y := unrank (e1.take 3 ++ [extAt e1 4]) k
      [y.getD 0 0, y.getD 1 0, y.getD 2 0, g * geo.cols + c, y.getD 3 0, 0]
    | _ =>
      let kern := [convKernel d 0, convKernel d 1, convKernel d 2]
      let t := unrank kern (k % prodOf kern)
      [g * geo.cols + c, t.getD 0 0, t.getD 1 0, t.getD 2 0, k / prodOf kern, 0]

/-- The product of GEMM and CONV at K index `k` of row `r`, column `c` of batch `b`.  A padding element contributes a
zero product (R63). -/
def State.matProduct (s : State) (d : List Byte) (o0 o1 o2 : Operand) (b r c k : Nat) : Val :=
  match matCoord0 d o0.ext o1.ext o2.ext b r k with
  | none => .zero
  | some x => (s.engineVal o0 x).mul (s.engineVal o1 (matCoord1 d o0.ext o1.ext o2.ext b c k))

/-! ## The epilogue (R92 to R97) -/

def epiBias (d : List Byte) : Bool := (leField d 205 1).testBit 0
def epiResidual (d : List Byte) : Bool := (leField d 205 1).testBit 1
def epiDropout (d : List Byte) : Bool := (leField d 205 1).testBit 2
def epiAux (d : List Byte) : Bool := (leField d 205 1).testBit 3
def epiAcc (d : List Byte) : Bool := (leField d 205 1).testBit 4
def epiAct (d : List Byte) : Nat := leField d 204 1

/-- R92: an empty epilogue. -/
def epiEmpty (d : List Byte) : Bool :=
  leField d 188 4 = 0x3F800000 && leField d 196 4 = 0x3F800000 && leField d 205 1 = 0 && epiAct d = 0

/-- Table 4.9: the special function of an activation. -/
def actFn (act : Nat) : Option SFn :=
  match act with
  | 2 => some .gelu
  | 3 => some .silu
  | 4 => some .tanh
  | 5 => some .sigmoid
  | 6 => some .softplus
  | _ => none

/-- R93: RELU. -/
def reluVal (v : Val) : Val := if v.isNan then .nan else if Val.zero.lt v then v else .zero

/-- R46, R126: a special function in the format of its output.  DESIGN CHOICE: what saturates inside the evaluation sets no
OP_FLAGS.SAT, which R95 sets for the conversions of a write (log entry 138). -/
def specialIn (fn : SFn) (fmt : Nat) (mx : Bool) (v : Val) : Val :=
  let f := specialFmt fmt mx
  fn.round f (f.round v)

/-- R93. -/
def activate (act fmt : Nat) (mx : Bool) (v : Val) : Val :=
  if act = 1 then reluVal v
  else match actFn act with
    | some fn => specialIn fn fmt mx v
    | none => v

/-- R94, R50: dropout of an element. -/
def dropVal (k : DrawKey) (p : Val) (i : Nat) (v : Val) : Val := if k.dropped p i then .zero else fmul v (keptFactor p)

/-- The bias's column: the bias of CONV runs along the channel, of GEMM along dimension 0. -/
def biasCoord (d : List Byte) (c : List Nat) : List Nat :=
  if dOpcode d = 0x10 then [c.getD 0 0] else [c.getD 3 0]

/-- R92: the epilogue of output element with view coordinates `c` from its accumulator entry. -/
def State.epilogue (s : State) (d : List Byte) (int : Bool) (o0 o1 o2 : Operand) (bias res aux : Option Operand)
    (c : List Nat) (w : Nat) : Part :=
  let v := c.zipIdx.foldl (fun a x => a + x.1 * prodOf (o2.ext.take x.2)) 0
  if int && o2.t.fmt = 0xD && epiEmpty d then
    (if o2.whole then o2.write d v (.ofInt (accInt w)) else { effects := [o2.t.storeCode (o2.lin v) w], flags := 0 })
  else
    let v1 := if int then r32 (.ofInt (accInt w)) else f32 w
    let v2 := match s.operandScale o0 with
      | some t => fmul v1 t
      | none => v1
    let v3 := match s.operandScale o1 with
      | some t => fmul v2 t
      | none => v2
    let v4 := fmul v3 (dF32 d 188)
    let v5 := match bias with
      | some o => fadd v4 (s.f32At o (biasCoord d c))
      | none => v4
    let v6 := match res with
      | some o => ffma (dF32 d 192) (s.f32At o c) v5
      | none => v5
    let p := match aux with
      | some o => o.write d v v6
      | none => .empty
    let v7 := activate (epiAct d) o2.t.fmt o2.t.mx v6
    let v8 := if epiDropout d
      then dropVal (drawKey d o2.t.handle.toNat) (dF32 d 200) (o2.t.globalIndex (o2.lin v)) v7 else v7
    let v9 := fmul v8 (dF32 d 196)
    p.append (if epiAcc d then o2.accumulate v v9 else o2.write d v v9)

/-- R151: the accumulator entries of one matrix task, row by row of the tile: output row, output column, entry and
whether an addition saturated. -/
def State.matrixEntries (s : State) (d : List Byte) (ref1Stationary : Bool) (tile : Tile) (planeIn : Option Nat) :
    List (Nat × Nat × Nat × Bool) :=
  match s.operand d 0, s.operand d 1, s.operand d 2, tile with
  | some o0, some o1, some o2, .matrix batch rowLo rowHi colLo colHi kLo kHi _ _ =>
    let kind := accKind o0.t.fmt o0.t.mx o1.t.fmt o1.t.mx
    let k := (matGeometry d o0.ext o1.ext o2.ext batch).k
    let cols := colHi - colLo
    (List.range (rowHi - rowLo)).flatMap (fun i => (List.range cols).map (fun j =>
      let m := if ref1Stationary then rowLo + i else colLo + j
      let n := if ref1Stationary then colLo + j else rowLo + i
      let w0 := match planeIn with
        | some a => leNat (s.npRead (a + 4 * (i * cols + j)) 4)
        | none => 0
      (m, n, accRun kind (s.matProduct d o0 o1 o2 batch m n) k kLo kHi w0)))
  | _, _, _, _ => []

/-- R151: the effects of one matrix task: the last segment runs the epilogue, an earlier one writes its plane. -/
def State.matrixPart (s : State) (d : List Byte) (tile : Tile) (entries : List (Nat × Nat × Nat × Bool))
    (planeOut : Option Nat) : Part :=
  match s.operand d 0, s.operand d 1, s.operand d 2, tile with
  | some o0, some o1, some o2, .matrix batch _ _ _ _ _ _ _ last =>
    let sat := flagIf (entries.any (fun e => e.2.2.2)) flagSat
    match last, planeOut with
    | false, some a => { effects := [.plane a (entries.flatMap (fun e => leBytes 4 e.2.2.1))], flags := sat }
    | _, _ =>
      let bias := if epiBias d then s.operand d 3 else none
      let res := if epiResidual d then s.operand d 4 else none
      let aux := if epiAux d then s.operand d 5 else none
      let int := (accKind o0.t.fmt o0.t.mx o1.t.fmt o1.t.mx).int
      let p := joinParts (entries.map (fun e =>
        let c := matOut d o0.ext o1.ext o2.ext batch e.1 e.2.1
        s.epilogue d int o0 o1 o2 bias res aux c e.2.2.1))
      { p with flags := p.flags ||| sat }
  | _, _, _, _ => .empty

/-! ## CROP_RESIZE (R104 to R106) -/

def cropMode (d : List Byte) : Nat := leField d 188 1
def cropNormalised (d : List Byte) : Bool := leField d 189 1 = 1

/-- R105: the sample position of output index `i` along an axis. -/
def samplePos (norm : Bool) (lo hi : Val) (size out i : Nat) : Val :=
  let n : Val := .ofInt (size : Nat)
  let a := if norm then fmul lo n else lo
  let b := if norm then fmul hi n else hi
  let step := fdiv (fsub b a) (.ofInt (out : Nat))
  fsub (fadd a (fmul (fadd (.ofInt (i : Nat)) fHalf) step)) fHalf

/-- floor of a sample position; an infinite or NaN position lies outside every image (log entry 24). -/
def floorPos (v : Val) : Option Int := if v.isFinite then some v.floor else none

/-- R104 to R106: one output element of CROP_RESIZE.  DESIGN CHOICE: a box with both an IMAGE out of range and a coordinate that
is not finite takes EXTRAP and BOX_RANGE alone (log entry 134). -/
def State.cropElement (s : State) (d : List Byte) (o0 o1 o2 : Operand) (v : Nat) : Part :=
  let c := coordsIn o2.ext v
  let b := c.getD 3 0
  let byteAt (k : Nat) : Nat := match s.at' o1 [k, b] with
    | .fin _ m e => m <<< e.toNat
    | _ => 0
  let word (k : Nat) : Nat := leNat ((List.range 4).map (fun i => BitVec.ofNat 8 (byteAt (k + i))))
  let image := word 0
  let images := extAt o0.ext 3 * extAt o0.ext 4 * extAt o0.ext 5
  let x0 := f32 (word 8)
  let y0 := f32 (word 12)
  let x1 := f32 (word 16)
  let y1 := f32 (word 20)
  let extrap := dF32 d 192
  if images ≤ image then let p := o2.write d v extrap; { p with flags := p.flags ||| flagBoxRange }
  else if !([x0, y0, x1, y1].all Val.isFinite) then
    let p := o2.write d v .nan
    { p with flags := p.flags ||| flagNan }
  else
    let w := extAt o0.ext 0
    let h := extAt o0.ext 1
    let i3 := unrank (o0.ext.drop 3) image
    let tap (x y : Option Int) : Val :=
      match x, y with
      | some i, some j =>
        if i < 0 || j < 0 || (w : Int) ≤ i || (h : Int) ≤ j then extrap
        else s.f32At o0 ([i.toNat, j.toNat, c.getD 2 0] ++ i3)
      | _, _ => extrap
    let sx := samplePos (cropNormalised d) x0 x1 w (extAt o2.ext 0) (c.getD 0 0)
    let sy := samplePos (cropNormalised d) y0 y1 h (extAt o2.ext 1) (c.getD 1 0)
    if cropMode d = 0 then o2.write d v (tap (floorPos (fadd sx fHalf)) (floorPos (fadd sy fHalf)))
    else
      let xl := floorPos sx
      let yl := floorPos sy
      let next (x : Option Int) : Option Int := x.map (· + 1)
      let frac (v : Val) (x : Option Int) : Val := match x with
        | some i => fsub v (.ofInt i)
        | none => .nan
      let fx := frac sx xl
      let fy := frac sy yl
      let lerp (a b f : Val) : Val := ffma f (fsub b a) a
      let top := lerp (tap xl yl) (tap (next xl) yl) fx
      let bottom := lerp (tap xl (next yl)) (tap (next xl) (next yl)) fx
      o2.write d v (lerp top bottom fy)

end Sys2Proof.Machine
end

