-- ==== Sys2Proof/Machine/Vector.lean ====
section
/-! DEFINITION. The values of the vector and training operators (chapter 5): NORM, SOFTMAX, ELTWISE, REDUCE, RNG_FILL,
OPT_STEP, LOSS, CAST and MOVE. -/

namespace Sys2Proof.Machine

/-! ## Shared rules (R116 to R118) -/

/-- One level of pair sums; an element without a partner passes up unchanged. -/
def treeLevel : List Val → List Val
  | a :: b :: r => fadd a b :: treeLevel r
  | l => l

/-- R117: the fixed tree sum. -/
def treeSum (l : List Val) : Val :=
  ((List.range (Nat.log2 l.length + 1)).foldl (fun a _ => treeLevel a) l).headD .zero

/-- R116: an FP32 value divided by an exact integer, rounded once. -/
def divN (v : Val) (n : Nat) : Val := r32 (v.div (.ofInt n))

/-- R118: minimum. -/
def fmin (a b : Val) : Val :=
  if a.isNan || b.isNan then .nan
  else if a.lt b then a else if b.lt a then b else if a.neg? then a else b

def maxOf (l : List Val) : Val :=
  match l with
  | [] => .inf true
  | a :: r => r.foldl fmax a

def minOf (l : List Val) : Val :=
  match l with
  | [] => .inf false
  | a :: r => r.foldl fmin a

/-- The FP32 values of consecutive elements of a view. -/
def State.run (s : State) (o : Operand) (from' n : Nat) : List Val :=
  (List.range n).map (fun i => s.f32At o (coordsIn o.ext (from' + i)))

/-! ## NORM (R119 to R122) -/

def normKind (d : List Byte) : Nat := dVariant d % 4
def isNormBwd (d : List Byte) : Bool := dVariant d / 4 % 4 = 1
def normAffine (d : List Byte) : Bool := (leField d 196 1).testBit 0
def normSave (d : List Byte) : Bool := (leField d 196 1).testBit 1

/-- R120: elements of a set, and the γ index of element `v` of the view and the γ count. -/
def normSet (d : List Byte) (ext : List Nat) : Nat :=
  if normKind d = 2 then
    let c := leField d 193 1
    prodOf (ext.take c) * (extAt ext c / leField d 194 2)
  else prodOf (ext.take (leField d 192 1))

def normGamma (d : List Byte) (ext : List Nat) (v : Nat) : Nat :=
  if normKind d = 2 then v / prodOf (ext.take (leField d 193 1)) % extAt ext (leField d 193 1)
  else v % normSet d ext

def normGammaCount (d : List Byte) (ext : List Nat) : Nat :=
  if normKind d = 2 then extAt ext (leField d 193 1) else normSet d ext

/-- γ for element `v`, 1.0 without AFFINE. -/
def State.normScale (s : State) (d : List Byte) (gamma : Option Operand) (ext : List Nat) (v : Nat) : Val :=
  match gamma with
  | some o => s.f32At o (coordsIn o.ext (normGamma d ext v))
  | none => fOne

/-- R121: one set of FWD. -/
def State.normFwdSet (s : State) (d : List Byte) (x y : Operand) (gamma beta stats : Option Operand) (set : Nat) : Part :=
  let n := normSet d x.ext
  let rms := normKind d = 1
  let xs := s.run x (set * n) n
  let mean := if rms then .zero else divN (treeSum xs) n
  let ds := xs.map (fun v => if rms then v else fsub v mean)
  let var := divN (treeSum (ds.map (fun v => fmul v v))) n
  let rstd := SFn.rsqrt.f32 (fadd var (dF32 d 188))
  let ys := joinParts (ds.zipIdx.map (fun p =>
    let v := set * n + p.2
    let b := match beta with
      | some o => s.f32At o (coordsIn o.ext (normGamma d x.ext v))
      | none => .zero
    y.write d v (ffma (fmul p.1 rstd) (s.normScale d gamma x.ext v) b)))
  match stats with
  | some o => ys.append ((o.write d (2 * set) mean).append (o.write d (2 * set + 1) rstd))
  | none => ys

/-- R122: h and dY of each element, and dX, of one set of BWD. -/
def State.normBwdSet (s : State) (d : List Byte) (x dy stats : Operand) (gamma : Option Operand) (set : Nat) :
    List (Val × Val × Val) :=
  let n := normSet d x.ext
  let rms := normKind d = 1
  let mean := s.f32At stats [0, set]
  let rstd := s.f32At stats [1, set]
  let hs := (s.run x (set * n) n).map (fun v => fmul (if rms then v else fsub v mean) rstd)
  let dys := s.run dy (set * n) n
  let gs := dys.zipIdx.map (fun p => fmul p.1 (s.normScale d gamma x.ext (set * n + p.2)))
  let a := if rms then .zero else divN (treeSum gs) n
  let b := divN (treeSum ((gs.zip hs).map (fun p => fmul p.1 p.2))) n
  ((gs.zip hs).map (fun p => fmul rstd (fsub (fsub p.1 a) (fmul p.2 b)))).zip (hs.zip dys)
    |>.map (fun p => (p.2.1, p.2.2, p.1))

/-- R122: the whole of BWD, with the accumulation of dγ and dβ. -/
def State.normBwd (s : State) (d : List Byte) (x dx dy stats : Operand) (gamma grads : Option Operand) : Part :=
  let n := normSet d x.ext
  let all := (List.range (x.count / n)).flatMap (s.normBwdSet d x dy stats gamma)
  let out := joinParts (all.zipIdx.map (fun p => dx.write d p.2 p.1.2.2))
  match grads with
  | some o => out.append (joinParts ((List.range (normGammaCount d x.ext)).map (fun g =>
      let mine := (all.zipIdx.filter (fun p => normGamma d x.ext p.2 = g)).map Prod.fst
      (o.accumulate (2 * g) (treeSum (mine.map (fun e => fmul e.2.1 e.1)))).append
        (o.accumulate (2 * g + 1) (treeSum (mine.map (fun e => e.2.1)))))))
  | none => out

/-! ## SOFTMAX (R123, R124) -/

def softLog (d : List Byte) : Bool := (dVariant d).testBit 0
def softBwd (d : List Byte) : Bool := (dVariant d).testBit 1
def softAxis (d : List Byte) : Nat := leField d 188 1

/-- The view elements of a row along an axis. -/
def rowElements (ext : List Nat) (axis row : Nat) : List Nat :=
  let below := prodOf (ext.take axis)
  let n := extAt ext axis
  (List.range n).map (fun i => row % below + below * (i + n * (row / below)))

/-- The exponentials of a row against its maximum, and their tree sum. -/
def softTerms (xs : List Val) : Val × List Val × Val :=
  let m := maxOf xs
  let es := xs.map (fun v => SFn.exp.f32 (fsub v m))
  (m, es, treeSum es)

/-- R123, R124: one row of FWD.  A row whose only NaN comes from SCALE 0 times an infinite input has no NaN input and no s of +∞: its
result is NaN, and ROW_INVALID is not set (log entry 155). -/
def State.softFwdRow (s : State) (d : List Byte) (x y : Operand) (row : Nat) : Part :=
  let vs := rowElements x.ext (softAxis d) row
  let raw := vs.map (fun v => s.f32At x (coordsIn x.ext v))
  let xs := raw.map (fun v => fmul v (dF32 d 192))
  let put (l : List Val) (f : Nat) : Part :=
    let p := joinParts ((vs.zip l).map (fun q => y.write d q.1 q.2))
    { p with flags := p.flags ||| f }
  if raw.any Val.isNan || xs.contains (.inf false) then put (xs.map (fun _ => .nan)) flagRowInvalid
  else if xs.all (fun v => v == .inf true) then
    put (xs.map (fun _ => if softLog d then .inf true else .zero)) flagRowEmpty
  else
    let t := softTerms xs
    if softLog d then
      let lg := SFn.log.f32 t.2.2
      put (xs.map (fun v => fsub (fsub v t.1) lg)) 0
    else put (t.2.1.map (fun e => fdiv e t.2.2)) 0

/-- R123: one row of BWD. -/
def State.softBwdRow (s : State) (d : List Byte) (y dy dx : Operand) (row : Nat) : Part :=
  let vs := rowElements y.ext (softAxis d) row
  let ys := vs.map (fun v => s.f32At y (coordsIn y.ext v))
  let gs := vs.map (fun v => s.f32At dy (coordsIn dy.ext v))
  let sum := treeSum (if softLog d then gs else (ys.zip gs).map (fun p => fmul p.1 p.2))
  joinParts ((vs.zip (ys.zip gs)).map (fun p =>
    let g := if softLog d then fsub p.2.2 (fmul (SFn.exp.f32 p.2.1) sum) else fmul p.2.1 (fsub p.2.2 sum)
    dx.write d p.1 (fmul g (dF32 d 192))))

/-! ## ELTWISE (R125 to R127) -/

/-- Table 5.5: the special functions 0x10 to 0x1E, in the order of Table 2.4. -/
def eltFn (code : Nat) : Option SFn :=
  match code with
  | 0x10 => some .exp
  | 0x11 => some .exp2
  | 0x12 => some .log
  | 0x13 => some .log2
  | 0x14 => some .sqrt
  | 0x15 => some .rsqrt
  | 0x16 => some .reciprocal
  | 0x17 => some .tanh
  | 0x18 => some .sigmoid
  | 0x19 => some .erf
  | 0x1A => some .gelu
  | 0x1B => some .silu
  | 0x1C => some .softplus
  | 0x1D => some .sin
  | 0x1E => some .cos
  | _ => none

/-- Table 5.5: inputs of a function, 0 for a reserved code. -/
def eltInputs (code : Nat) : Nat :=
  if code = 0 || code = 7 || code = 8 then 1
  else if 1 ≤ code && code ≤ 5 then 2
  else if code = 6 then 3
  else if 0x10 ≤ code && code ≤ 0x21 then 1
  else if 0x22 ≤ code && code ≤ 0x24 then 2
  else if code = 0x25 then 1 else 0

def geluBwd (a b : Val) : Val :=
  let p := fmul fHalf (fadd fOne (SFn.erf.f32 (fmul a (f32 0x3F3504F3))))
  let q := fmul (SFn.exp.f32 (fmul (fmul fHalf.negate a) a)) (f32 0x3ECC422A)
  fmul b (fadd p (fmul a q))

def siluBwd (a b : Val) : Val :=
  let g := SFn.sigmoid.f32 a
  fmul b (fmul g (fadd fOne (fmul a (fsub fOne g))))

/-- Table 5.5: the value of one element, from its exact first input, the other inputs in FP32 and its global index in Ref 2.
A special function and RELU take the first input as it is, so that R46 converts it once; the others take it in FP32 (R116). -/
def eltValue (d : List Byte) (fmt : Nat) (mx : Bool) (handle index : Nat) (a0 b c : Val) : Val :=
  let code := dVariant d
  let alpha := dF32 d 188
  let a := elemF32 a0
  match eltFn code with
  | some fn => specialIn fn fmt mx a0
  | none =>
    if code = 0 then fmul alpha a
    else if code = 1 then ffma (dF32 d 192) b (fmul alpha a)
    else if code = 2 then fmul a b
    else if code = 3 then fdiv a b
    else if code = 4 then fmax a b
    else if code = 5 then fmin a b
    else if code = 6 then ffma a b c
    else if code = 7 then a.abs
    else if code = 8 then a.negate
    else if code = 0x1F then reluVal ((specialFmt fmt mx).round a0)
    else if code = 0x20 then dropVal (drawKey d handle) (dF32 d 196) index a
    else if code = 0x21 then dropVal (drawKey d (leField d 200 4)) (dF32 d 196) index a
    else if code = 0x22 then (if Val.zero.lt a then b else .zero)
    else if code = 0x23 then geluBwd a b
    else siluBwd a b

def State.eltElement (s : State) (d : List Byte) (o0 o2 : Operand) (o1 o3 : Option Operand) (v : Nat) : Part :=
  let c := coordsIn o2.ext v
  let inp (o : Option Operand) : Val := match o with
    | some x => elemF32 (s.atBroadcast x c)
    | none => .zero
  o2.write d v (eltValue d o2.t.fmt o2.t.mx o2.t.handle.toNat (o2.t.globalIndex (o2.lin v)) (s.atBroadcast o0 c) (inp o1) (inp o3))

/-- R127: BS4_SET_SCALE. -/
def State.setScale (s : State) (d : List Byte) (o0 o2 : Operand) : Part :=
  let a := s.f32At o0 []
  let v := fmul (dF32 d 188) a.abs
  let put (w f : Nat) : Part := { effects := [.scale (o2.t.penAddr + o2.t.scaleBase) (leBytes 4 w)], flags := f }
  if !a.isFinite then { effects := [], flags := flagNan }
  else if a.isZero then put 0x3F800000 0
  else if v.isZero then put 0x00800000 flagSat
  else if v.isFinite then put (toF32 v) 0
  else put 0x7F7FFFFF flagSat

/-! ## REDUCE (R128) -/

def reduceMask (d : List Byte) : Nat := leField d 188 1

/-- The input coordinates reduced into output coordinates `c`, dimension 0 innermost. -/
def reduceCoords (mask : Nat) (ext c : List Nat) : List (List Nat) :=
  let red := (List.range 6).map (fun k => if mask.testBit k then extAt ext k else 1)
  (List.range (prodOf red)).map (fun i =>
    let r := coordsIn red i
    (List.range 6).map (fun k => if mask.testBit k then r.getD k 0 else c.getD k 0))

/-- R128: an exact integer that saturates at the largest finite value of the output's format, and whether it did. -/
def saturated (fmt : Nat) (x : Val) : Val × Bool :=
  match elemFloat fmt, x with
  | some f, .fin n m e => if !f.saturates && f.above m e then (.fin n (f.magOf f.maxCode).1 (f.magOf f.maxCode).2, true) else (x, false)
  | _, _ => (x, false)

/-- R128: one element of REDUCE (SAT of a floating output: log entry 154). -/
def State.reduceElement (s : State) (d : List Byte) (o0 o2 : Operand) (v : Nat) : Part :=
  let cs := reduceCoords (reduceMask d) o0.ext (coordsIn o2.ext v)
  let var := dVariant d
  let exact := cs.map (s.at' o0)
  if intFmt o0.t.fmt o0.t.mx && (var = 0 || var = 2 || var = 3) then
    let x := saturated o2.t.fmt (if var = 0 then exact.foldl Val.add .zero else if var = 2 then maxOf exact else minOf exact)
    let p := o2.write d v x.1
    { p with flags := p.flags ||| flagIf x.2 flagSat }
  else
    let xs := exact.map elemF32
    o2.write d v (match var with
      | 0 => treeSum xs
      | 1 => divN (treeSum xs) cs.length
      | 2 => maxOf xs
      | 3 => minOf xs
      | 4 => maxOf (xs.map Val.abs)
      | _ => treeSum (xs.map (fun x => fmul x x)))

/-! ## RNG_FILL (R129) -/

def rngElement (d : List Byte) (o2 : Operand) (v : Nat) : Part :=
  let key := drawKey d o2.t.handle.toNat
  let i := o2.t.globalIndex (o2.lin v)
  let a := dF32 d 188
  let b := dF32 d 192
  o2.write d v (match dVariant d with
    | 0 => ffma (fsub b a) (uniformOf (key.word i)) a
    | 1 => ffma b (key.normal i) a
    | _ => if key.word i < dropThreshold a then fOne else .zero)

/-! ## OPT_STEP (R130 to R132) -/

def optCopy (d : List Byte) : Bool := (leField d 220 1).testBit 1
def optNesterov (d : List Byte) : Bool := (leField d 220 1).testBit 0

/-- R131, AdamW: w, m and v after the update. -/
def adamW (d : List Byte) (g0 w m v : Val) : Val × Val × Val :=
  let g := fmul (dF32 d 216) g0
  let m1 := ffma (dF32 d 192) (fsub m g) g
  let q := fmul g g
  let v1 := ffma (dF32 d 196) (fsub v q) q
  let u := fdiv (fmul m1 (dF32 d 208)) (fadd (SFn.sqrt.f32 (fmul v1 (dF32 d 212))) (dF32 d 200))
  let t := ffma (dF32 d 204) w u
  (ffma (dF32 d 188).negate t w, m1, v1)

/-- R131, SGD-momentum: w and m after the update. -/
def sgdMomentum (d : List Byte) (g0 w m : Val) : Val × Val :=
  let g := ffma (dF32 d 204) w (fmul (dF32 d 216) g0)
  let m1 := ffma (dF32 d 192) m g
  let u := if optNesterov d then ffma (dF32 d 192) m1 g else m1
  (ffma (dF32 d 188).negate u w, m1)

def State.optElement (s : State) (d : List Byte) (o0 o1 o3 : Operand) (copy o4 : Option Operand) (v : Nat) : Part :=
  let x (o : Operand) : Val := s.f32At o (coordsIn o.ext v)
  let out (w : Val) : Part := match copy with
    | some o => o.write d v w
    | none => .empty
  match o4 with
  | some o =>
    let r := adamW d (x o0) (x o1) (x o3) (x o)
    (((o1.writeRne v r.1).append (o3.writeRne v r.2.1)).append (o.writeRne v r.2.2)).append (out r.1)
  | none =>
    let r := sgdMomentum d (x o0) (x o1) (x o3)
    ((o1.writeRne v r.1).append (o3.writeRne v r.2)).append (out r.1)

/-! ## LOSS (R133, R134) -/

def lossReduction (d : List Byte) : Nat := leField d 188 1
def lossSampleDim (d : List Byte) : Nat := leField d 189 1
def lossGrad (d : List Byte) : Bool := (leField d 190 1).testBit 0

/-- One CROSS_ENTROPY row: its loss, its gradient and whether its label is out of range (log entry 26). -/
def crossEntropy (d : List Byte) (xs : List Val) (label : Int) : Val × List Val × Bool :=
  let zeros := xs.map (fun _ => Val.zero)
  if label = signedBits 32 (leField d 196 4) then (.zero, zeros, false)
  else if label < 0 || (xs.length : Int) ≤ label then (.zero, zeros, true)
  else
    let t := softTerms xs
    let l := fsub (fadd (SFn.log.f32 t.2.2) t.1) (xs.getD label.toNat .zero)
    (l, t.2.1.zipIdx.map (fun e =>
      let y := fdiv e.1 t.2.2
      if e.2 = label.toNat then fsub y fOne else y), false)

/-- R133: an element loss and gradient of MSE (1) and L1 (2). -/
def diffLoss (variant : Nat) (p t : Val) : Val × Val :=
  let dd := fsub p t
  if variant = 1 then (fmul dd dd, fmul fTwo dd)
  else (dd.abs, if dd.isNan then .nan else if dd.isZero then .zero else if dd.neg? then fOne.negate else fOne)

/-- The element losses, gradients and LABEL_RANGE of one sample. -/
def State.lossSample (s : State) (d : List Byte) (p t : Operand) (sample : Nat) : List Val × List Val × Bool :=
  let ns := prodOf (p.ext.take (lossSampleDim d))
  if dVariant d = 0 then
    let n := extAt p.ext 0
    let rows := (List.range (ns / n)).map (fun r =>
      let row := sample * (ns / n) + r
      crossEntropy d (s.run p (row * n) n) (s.val t row).floor)
    (rows.map Prod.fst, rows.flatMap (fun r => r.2.1), rows.any (fun r => r.2.2))
  else
    let es := (List.range ns).map (fun i =>
      let v := sample * ns + i
      diffLoss (dVariant d) (s.f32At p (coordsIn p.ext v)) (s.f32At t (coordsIn t.ext v)))
    (es.map Prod.fst, es.map Prod.snd, false)

/-- R133, R134: the loss, the gradient and LABEL_RANGE, which a label out of range sets in an excluded sample too. -/
def State.lossPart (s : State) (d : List Byte) (p t out : Operand) (omega grad : Option Operand) : Part :=
  let ns := prodOf (p.ext.take (lossSampleDim d))
  let samples := (List.range (p.count / ns)).map (fun i =>
    let w := match omega with
      | some o => s.f32At o (coordsIn o.ext i)
      | none => fOne
    let r := s.lossSample d p t i
    if w.isZero then (false, Val.zero, List.replicate ns Val.zero, 0, r.2.2)
    else (true, fmul (treeSum r.1) w, r.2.1.map (fun g => fmul (fmul (dF32 d 192) w) g), r.1.length, r.2.2))
  let count := (samples.map (fun x => x.2.2.2.1)).sum
  let sum := treeSum (samples.map (fun x => x.2.1))
  let losses := match lossReduction d with
    | 2 => joinParts (samples.zipIdx.map (fun (x : (Bool × Val × List Val × Nat × Bool) × Nat) => out.write d x.2 x.1.2.1))
    | 1 => out.write d 0 sum
    | _ => out.write d 0 (if count = 0 then .zero else divN sum count)
  let grads := match grad with
    | some o => joinParts (samples.zipIdx.map (fun (x : (Bool × Val × List Val × Nat × Bool) × Nat) => joinParts (x.1.2.2.1.zipIdx.map (fun g =>
        o.write d (x.2 * ns + g.2) (if lossReduction d = 0 && x.1.1 then divN g.1 count else g.1)))))
    | none => .empty
  let p' := losses.append grads
  { p' with flags := p'.flags ||| flagIf (samples.any (fun x => x.2.2.2.2)) flagLabelRange }

/-! ## CAST and MOVE (R135, R136) -/

def State.castElement (s : State) (d : List Byte) (o0 o2 : Operand) (v : Nat) : Part :=
  let x := s.val o0 v
  o2.write d v (if leField d 188 4 = 0x3F800000 then x else fmul (elemF32 x) (dF32 d 188))

/-- The near form of a tensor as bytes, from whichever copy it is read. -/
def State.formBytes (s : State) (pen : Nat) (t : Tensor) : List Byte :=
  let src := s.source pen t
  match t.comp, src.2 with
  | 0, some _ =>
    piecesBytes ((0, List.replicate t.storedBytes 0) :: (List.range t.elements).map (fun i =>
      (t.storageIndex i * (t.width / 8), leBytes (t.width / 8) (s.elemCode pen t i))))
  | _, _ => (List.range t.storedBytes).map src.1

/-- R136: whether the stored form is copied byte for byte (log entry 27). -/
def moveWhole (d : List Byte) : Bool :=
  refElem d 0 = 0 && refView d 0 = 0 && refElem d 2 = 0 && refView d 2 = 0

def State.movePart (s : State) (d : List Byte) (o0 o2 : Operand) : Part :=
  let pen := dPen d % 8
  let a := o0.t
  let b := o2.t
  let nan := a.comp != 2 && (List.range o0.count).any (fun v => nanWritten a.fmt a.mx (s.val o0 v))
  let vs := List.range o0.count
  let effects : List Effect :=
    if moveWhole d then [.store b.penAddr ((s.formBytes pen a).take b.storedBytes)]
    else if a.block != 0 then
      let ab := (vs.map (fun v => (a.storageIndex (o0.lin v) / a.block, b.storageIndex (o2.lin v) / b.block))).eraseDups
      let bytes := a.block * a.width / 8
      let rd := (s.source pen a).1
      ab.flatMap (fun p => [Effect.store (b.penAddr + p.2 * bytes) ((List.range bytes).map (fun i => rd (p.1 * bytes + i))),
        Effect.store (b.penAddr + b.scaleAt p.2) [rd (a.scaleAt p.1)]]) ++
      (if a.fmt = 9 then [Effect.scale (b.penAddr + b.scaleBase) (leBytes 4 (s.tScale pen a))] else [])
    else if a.width < 8 then vs.map (fun v => .stage 2 v (s.val o0 v))
    else vs.map (fun v => b.storeCode (o2.lin v) (s.elemCode pen a (o0.lin v)))
  { effects := effects, flags := flagIf nan flagNan }

/-! ## Tasks of the vector operators -/

/-- How many elements, sets or rows a vector operator has, and how many one task takes (log entry 28). -/
def vectorUnits (d : List Byte) (o0 o2 : Option Operand) : Nat × Nat :=
  let n (o : Option Operand) : Nat := match o with
    | some x => x.count
    | none => 0
  let ext (o : Option Operand) : List Nat := match o with
    | some x => x.ext
    | none => []
  let whole := match o2 with
    | some x => x.whole
    | none => false
  match dOpcode d with
  | 0x30 => if isNormBwd d then (1, 1) else (n o0 / normSet d (ext o0), max 1 (16384 / normSet d (ext o0)))
  | 0x31 => (n o0 / extAt (ext o0) (softAxis d), max 1 (16384 / extAt (ext o0) (softAxis d)))
  | 0x35 => (n o0, 16384)
  | 0x36 | 0x40 => (1, 1)
  | 0x32 => if dVariant d = 0x25 then (1, 1) else (n o2, if whole then n o2 else 16384)
  | _ => (n o2, if whole then n o2 else 16384)

def vectorTiles (d : List Byte) (o0 o2 : Option Operand) : List Tile :=
  let u := vectorUnits d o0 o2
  (List.range (ceilDiv u.1 u.2)).map (fun i => .range (i * u.2) (min u.1 ((i + 1) * u.2)))

/-- The result of units lo to hi − 1 of a vector operator. -/
def State.vectorPart (s : State) (d : List Byte) (lo hi : Nat) : Part :=
  let o := s.operand d
  let each (f : Nat → Part) : Part := joinParts ((List.range (hi - lo)).map (fun i => f (lo + i)))
  match dOpcode d, o 0, o 1, o 2 with
  | 0x12, some a, some b, some c => each (s.cropElement d a b c)
  | 0x30, some x, _, some y =>
    if isNormBwd d then
      match o 3, o 4 with
      | some dy, some st => s.normBwd d x y dy st (if normAffine d then o 1 else none) (if normAffine d then o 5 else none)
      | _, _ => .empty
    else each (s.normFwdSet d x y (if normAffine d then o 1 else none) (if normAffine d then o 3 else none)
      (if normSave d then o 4 else none))
  | 0x31, some x, _, some y =>
    if softBwd d then
      match o 3 with
      | some dy => each (s.softBwdRow d x dy y)
      | none => .empty
    else each (s.softFwdRow d x y)
  | 0x32, some a, b, some c => if dVariant d = 0x25 then s.setScale d a c else each (s.eltElement d a c b (o 3))
  | 0x33, some a, _, some c => each (s.reduceElement d a c)
  | 0x34, _, _, some c => each (rngElement d c)
  | 0x35, some g, some w, copy =>
    match o 3 with
    | some m => each (s.optElement d g w m (if optCopy d then copy else none) (o 4))
    | none => .empty
  | 0x36, some p, some t, some out => s.lossPart d p t out (o 3) (if lossGrad d then o 5 else none)
  | 0x37, some a, _, some c => each (s.castElement d a c)
  | 0x40, some a, _, some c => s.movePart d a c
  | _, _, _, _ => .empty

end Sys2Proof.Machine
end

