-- ==== Sys2Proof/Machine/Attention.lean ====
section
/-! DEFINITION. Comet attention (chapter 7): sequences, masks, paged caches, and the values of ATTN_FWD and ATTN_BWD. -/

namespace Sys2Proof.Machine

/-! ## Parameters (Table 7.3) -/

def atnBwd (d : List Byte) : Bool := dOpcode d = 0x21
def atnPaged (d : List Byte) : Bool := dOpcode d = 0x20 && (dVariant d).testBit 0
def atnScale (d : List Byte) : Val := dF32 d 188
def atnMask (d : List Byte) (bit : Nat) : Bool := (leField d 192 1).testBit bit
def atnInfShare (d : List Byte) : Bool := (leField d 193 1).testBit 0
def atnSaveLse (d : List Byte) : Bool := (leField d 193 1).testBit 1
def atnAppend (d : List Byte) : Bool := (leField d 193 1).testBit 2
def atnGridW (d : List Byte) : Nat := leField d 194 2
def atnGridH (d : List Byte) : Nat := leField d 196 2
def atnPadHeads (d : List Byte) : Nat := leField d 202 2
def atnKvFmt (d : List Byte) : Nat := leField d 204 1
/-- Handle slots: 0 SEQ_TABLE, 1 BITMAP, 2 SLOT_A, 3 SLOT_B, 4 SLOT_C. -/
def atnSlot (d : List Byte) (k : Nat) : Nat := leField d (212 + 4 * k) 4

/-- R169: a handle slot as a whole tensor; the model numbers it as reference 6 + k. -/
def State.slotOperand (s : State) (d : List Byte) (k : Nat) : Option Operand :=
  if atnSlot d k = noCounter then none
  else (s.tensor? (atnSlot d k)).map (fun t => { ref := 6 + k, t := t, off := 0, ext := t.extents, str := logStrides t.extents })

/-- The operands of an attention operator. -/
structure Atn where
  q : Operand
  k : Option Operand
  v : Option Operand
  o : Operand
  seqs : Operand
  bitmap : Option Operand
  pages : Option Operand
  pool : Option Operand
  hq : Nat
  hkv : Nat
  dh : Nat
  dv : Nat
  tq : Nat
deriving DecidableEq, Repr

/-- Head counts and sizes: in PAGED mode without new keys, Hkv and Dv come from the output and the query (Dh). -/
def State.atn (s : State) (d : List Byte) : Option Atn :=
  match s.operand d 0, s.operand d 2, s.slotOperand d 0 with
  | some q, some o, some sq =>
    let k := s.operand d 1
    let v := s.operand d 3
    let out := if atnBwd d then s.operand d 4 else some o
    some { q := q, k := k, v := v, o := o, seqs := sq, bitmap := s.slotOperand d 1
           pages := if atnPaged d then s.slotOperand d 2 else none
           pool := if atnPaged d then s.slotOperand d 3 else none
           hq := extAt q.ext 2
           hkv := match k with
             | some x => extAt x.ext 2
             | none => extAt q.ext 2
           dh := extAt q.ext 0
           dv := match out with
             | some x => extAt x.ext 0
             | none => 16
           tq := extAt q.ext 1 }
  | _, _, _ => none

/-- The number of query slots that share a key-value head. -/
def Atn.group (a : Atn) : Nat := a.hq / a.hkv

/-! ## The sequence table (Table 7.4) -/

structure SeqRec where
  qStart : Nat
  qLen : Nat
  kvStart : Nat
  kvLen : Nat
  qPos0 : Nat
  ptStart : Nat
  bmOff : Nat
  bmStride : Nat
deriving DecidableEq, Repr

/-- A little-endian field of a byte tensor. -/
def State.bytesField (s : State) (o : Operand) (off n : Nat) : Nat :=
  leNat ((List.range n).map (fun i => BitVec.ofNat 8 (s.elemCode (o.t.handle.toNat / 2 ^ 29) o.t (off + i))))

def State.seqRec (s : State) (a : Atn) (n : Nat) : SeqRec :=
  let f (off size : Nat) : Nat := s.bytesField a.seqs (32 * n + off) size
  { qStart := f 0 4, qLen := f 4 4, kvStart := f 8 4, kvLen := f 12 4, qPos0 := f 16 4, ptStart := f 20 4
    bmOff := f 24 4, bmStride := f 28 2 }

def Atn.nseq (a : Atn) : Nat := extAt a.seqs.ext 1

/-- A page-table entry. -/
def State.pageEntry (s : State) (a : Atn) (i : Nat) : Nat := match a.pages with
  | some o => s.elemCode (o.t.handle.toNat / 2 ^ 29) o.t i
  | none => 0

/-! ## Paged caches (R180 to R182) -/

/-- R180: element bits b. -/
def kvBits (fmt : Nat) : Nat := if fmt = 0xB then 4 else 8

def pageStride (d : List Byte) (a : Atn) : Nat := roundUp (64 + 16 * (a.dh + a.dv) * kvBits (atnKvFmt d) / 8) 256

def pageCount (d : List Byte) (a : Atn) : Nat := match a.pool with
  | some o => o.t.elements / (pageStride d a * a.hkv)
  | none => 0

def pageRecord (d : List Byte) (a : Atn) (pp kh : Nat) : Nat := (pp * a.hkv + kh) * pageStride d a

/-- Byte offset in a record of the scale of channel group `c`, and of element `ch` of slot `u`; `isV` picks V. -/
def scaleOff (a : Atn) (isV : Bool) (c : Nat) : Nat := if isV then 4 * (ceilDiv a.dh 32 + c) else 4 * c

def elemOff (d : List Byte) (a : Atn) (isV : Bool) (u : Nat) : Nat :=
  let b := kvBits (atnKvFmt d)
  if isV then 64 + 16 * a.dh * b / 8 + u * a.dv * b / 8 else 64 + u * a.dh * b / 8

/-- R183: the largest code magnitude. -/
def kvQmax (fmt : Nat) : Nat := if fmt = 0xA then 127 else if fmt = 0xB then 7 else 448

/-- The new elements of a sequence that fall into a channel group of one page: (query row, channel). -/
def newElements (a : Atn) (r : SeqRec) (isV : Bool) (page c : Nat) : List (Nat × Nat) :=
  let rows := (List.range r.qLen).filter (fun i => (r.qPos0 + i) / 16 = page)
  let n := if isV then a.dv else a.dh
  rows.flatMap (fun i => ((List.range n).filter (fun ch => ch / 32 = c)).map (fun ch => (i, ch)))

/-- An element of the new K or V. -/
def State.newKv (s : State) (a : Atn) (r : SeqRec) (isV : Bool) (kh i ch : Nat) : Val :=
  match (if isV then a.v else a.k) with
  | some o => s.at' o [ch, r.qStart + i, kh]
  | none => .zero

/-- R183 steps 1 and 2: the scale of a channel group, and whether this operator sets it. -/
def State.kvScale (s : State) (d : List Byte) (a : Atn) (r : SeqRec) (isV : Bool) (page kh c : Nat) : Nat × Bool :=
  match a.pool with
  | none => (0, false)
  | some pool =>
    let pp := s.pageEntry a (r.ptStart + page)
    let stored := s.bytesField pool (pageRecord d a pp kh + scaleOff a isV c) 4
    if !(atnAppend d) || !(f32 stored).isZero then (stored, false)
    else
      let xs := (newElements a r isV page c).map (fun x => s.newKv a r isV kh x.1 x.2)
      let amax := amaxOf (xs.filter Val.isFinite)
      if amax.isZero then (0, false)
      else
        let v := fdiv (fmul amax (dF32 d 208)) (.ofInt (kvQmax (atnKvFmt d) : Nat))
        (if v.isFinite then toF32 v else 0x7F7FFFFF, true)

/-- R183 step 3: the code of a new element, an infinity's included: at most the largest code either way (log entry 180). -/
def kvEncode (fmt scale : Nat) (x : Val) : Nat × Bool :=
  if (f32 scale).isZero then (0, false)
  else
    let q := if x.isFinite then x.div (f32 scale) else x
    if fmt = 3 then fmtE4m3.encode .rne q
    else
      let m : Int := (kvQmax fmt : Nat)
      let r := intEncode (-m) m .rne q
      (intCode (kvBits fmt) r.1, r.2)

/-- R182: key or value element `ch` at position `j`, BF16. -/
def State.pagedKv (s : State) (d : List Byte) (a : Atn) (r : SeqRec) (isV : Bool) (kh j ch : Nat) : Val :=
  match a.pool with
  | none => .zero
  | some pool =>
    let page := j / 16
    let pp := s.pageEntry a (r.ptStart + page)
    let sc := (s.kvScale d a r isV page kh (ch / 32)).1
    let fmt := atnKvFmt d
    let b := kvBits fmt
    let code :=
      if atnAppend d && r.qPos0 ≤ j then (kvEncode fmt sc (s.newKv a r isV kh (j - r.qPos0) ch)).1
      else
        let bit := 8 * (pageRecord d a pp kh + elemOff d a isV (j % 16)) + ch * b
        (s.bytesField pool (bit / 8) 1 >>> (bit % 8)) % 2 ^ b
    fmtBf16.round ((elemVal fmt false code).mul (f32 sc))

/-- A key (or value) element of a sequence, dense or paged. -/
def State.kvAt (s : State) (d : List Byte) (a : Atn) (r : SeqRec) (isV : Bool) (kh j ch : Nat) : Val :=
  if atnPaged d then s.pagedKv d a r isV kh j ch
  else match (if isV then a.v else a.k) with
    | some o => s.at' o [ch, r.kvStart + j, kh]
    | none => .zero

/-- The format of keys or values as the engine takes them. -/
def kvFmtOf (d : List Byte) (a : Atn) (isV : Bool) : Nat :=
  if atnPaged d then 1
  else match (if isV then a.v else a.k) with
    | some o => o.t.fmt
    | none => 1

/-- R183: the stores of KV_APPEND for one sequence.  DEDUCED from Table 5.2: a NaN stored in an E4M3 page sets OP_FLAGS.NAN, which
R183 does not name (log entry 144). -/
def State.appendPart (s : State) (d : List Byte) (a : Atn) (n : Nat) : Part :=
  match a.pool with
  | none => .empty
  | some pool =>
    let r := s.seqRec a n
    let fmt := atnKvFmt d
    let side (isV : Bool) (kh : Nat) : Part :=
      let pages := ((List.range r.qLen).map (fun i => (r.qPos0 + i) / 16)).eraseDups
      let dim := if isV then a.dv else a.dh
      let scales := pages.flatMap (fun page => (List.range (ceilDiv dim 32)).filterMap (fun c =>
        let sc := s.kvScale d a r isV page kh c
        if sc.2 then some (Effect.store (pool.t.penAddr + pageRecord d a (s.pageEntry a (r.ptStart + page)) kh + scaleOff a isV c)
          (leBytes 4 sc.1)) else none))
      let rows := (List.range r.qLen).map (fun i =>
        let j := r.qPos0 + i
        let cs := (List.range dim).map (fun ch =>
          kvEncode fmt (s.kvScale d a r isV (j / 16) kh (ch / 32)).1 (s.newKv a r isV kh i ch))
        ({ effects := [Effect.store (pool.t.penAddr + pageRecord d a (s.pageEntry a (r.ptStart + j / 16)) kh +
              elemOff d a isV (j % 16)) (packCodes (kvBits fmt) (cs.map Prod.fst))]
           flags := flagIf (cs.any Prod.snd) flagSat ||| flagIf (cs.any (fun x => (elemVal fmt false x.1).isNan)) flagNan } : Part))
      Part.append { effects := scales, flags := 0 } (joinParts rows)
    joinParts ((List.range a.hkv).flatMap (fun kh => [side false kh, side true kh]))

/-! ## Masks (R172) -/

def absDiff (a b : Nat) : Nat := if a < b then b - a else a - b

/-- R172: whether query row `i` admits key `j` of its sequence. -/
def State.admits (s : State) (d : List Byte) (a : Atn) (r : SeqRec) (i j : Nat) : Bool :=
  let pq := r.qPos0 + i
  let w := atnGridW d
  let f := w * atnGridH d
  let row (p : Nat) : Nat := p % f / w
  (!(atnMask d 0) || j ≤ pq) && (!(atnMask d 1) || j / f ≤ pq / f) &&
    (!(atnMask d 2) || (absDiff (pq % w) (j % w) ≤ leField d 198 1 && absDiff (row pq) (row j) ≤ leField d 199 1 &&
      absDiff (pq / f) (j / f) ≤ leField d 200 2)) &&
    (!(atnMask d 3) || (match a.bitmap with
      | some o => (s.bytesField o (r.bmOff + i / 64 * r.bmStride + j / 64 / 8) 1).testBit (j / 64 % 8)
      | none => false))

/-! ## Scores and products -/

/-- An engine dot product over `n` indices: FP32. -/
def engineDot (fa fb : Nat) (n : Nat) (p : Nat → Val) : Val := f32 (accRun (accKind fa false fb false) p n 0 n 0).1

/-- R174: the score of row `i` against key `j`. -/
def State.score (s : State) (d : List Byte) (a : Atn) (r : SeqRec) (h i j : Nat) : Val :=
  fmul (atnScale d) (engineDot a.q.t.fmt (kvFmtOf d a false) a.dh (fun c =>
    (s.at' a.q [c, r.qStart + i, h]).mul (s.kvAt d a r false (h / a.group) j c)))

/-- The admitted keys of a row with their scores. -/
def State.scores (s : State) (d : List Byte) (a : Atn) (r : SeqRec) (h i : Nat) : List (Nat × Val) :=
  ((List.range r.kvLen).filter (s.admits d a r i)).map (fun j => (j, s.score d a r h i j))

/-- The running state of R174. -/
structure RowState where
  m : Val
  l : Val
  acc : List Nat

/-- R174: the value product of a block added to the accumulators; an excluded position's value is zero. -/
def State.valueGroups (s : State) (d : List Byte) (a : Atn) (r : SeqRec) (kh blk : Nat) (p : Nat → Option Val)
    (acc : List Nat) : List Nat :=
  let len := min 128 (r.kvLen - 128 * blk)
  acc.zipIdx.map (fun x => (accRun (accKind 1 false (kvFmtOf d a true) false) (fun t =>
    match p (128 * blk + t) with
    | some w => w.mul (s.kvAt d a r true kh (128 * blk + t) x.2)
    | none => .zero) len 0 len x.1).1)

/-- R174: one block of keys. -/
def State.attendBlock (s : State) (d : List Byte) (a : Atn) (r : SeqRec) (kh : Nat) (sc : List (Nat × Val)) (st : RowState)
    (blk : Nat) : RowState :=
  let here := sc.filter (fun x => x.1 / 128 = blk && x.2 != .inf true)
  if here = [] then st
  else
    let mb := maxOf (here.map Prod.snd)
    let mNew := fmax st.m mb
    let c := if st.m = .inf true then Val.zero else SFn.exp.f32 (fsub st.m mNew)
    let ps := here.map (fun x => (x.1, SFn.exp.f32 (fsub x.2 mNew)))
    let p (j : Nat) : Option Val := (ps.find? (fun x => x.1 = j)).map Prod.snd
    let len := min 128 (r.kvLen - 128 * blk)
    let sum := treeSum ((List.range len).map (fun t => (p (128 * blk + t)).getD .zero))
    let scaled := st.acc.map (fun w => toF32 (fmul c (f32 w)))
    { m := mNew, l := ffma c st.l sum
      acc := s.valueGroups d a r kh blk (fun j => (p j).map fmtBf16.round) scaled }

/-- The outcome of a row: O, LSE and flags. -/
structure RowOut where
  o : List Val
  lse : Val
  flags : Nat

def constRow (n : Nat) (v lse : Val) (flags : Nat) : RowOut := { o := List.replicate n v, lse := lse, flags := flags }

/-- R173, R176: whether a row meets a NaN at a position that is not excluded. -/
def State.rowNan (s : State) (d : List Byte) (a : Atn) (r : SeqRec) (h i : Nat) (sc : List (Nat × Val)) : Bool :=
  (List.range a.dh).any (fun c => (s.at' a.q [c, r.qStart + i, h]).isNan) ||
    (sc.filter (fun x => x.2 != .inf true)).any (fun x => x.2.isNan || (List.range a.dh).any (fun c => (s.kvAt d a r false (h / a.group) x.1 c).isNan) ||
      (List.range a.dv).any (fun c => (s.kvAt d a r true (h / a.group) x.1 c).isNan))

/-- R174, R176: one query row. -/
def State.attendRow (s : State) (d : List Byte) (a : Atn) (r : SeqRec) (h i : Nat) : RowOut :=
  let sc := s.scores d a r h i
  let kh := h / a.group
  let blocks := List.range (ceilDiv r.kvLen 128)
  let tops := sc.filter (fun x => x.2 == .inf false)
  if s.rowNan d a r h i sc then constRow a.dv .nan .nan flagRowInvalid
  else if tops != [] && !(atnInfShare d) then constRow a.dv .nan .nan flagRowInvalid
  else if tops != [] then
    let w (j : Nat) : Option Val :=
      if tops.any (fun x => x.1 = j) then some fOne
      else if sc.any (fun x => x.1 = j && x.2 != .inf true) then some .zero else none
    let acc := blocks.foldl (fun ac b => s.valueGroups d a r kh b w ac) (List.replicate a.dv 0)
    { o := acc.map (fun x => divN (f32 x) tops.length), lse := .inf false, flags := 0 }
  else if sc.all (fun x => x.2 == .inf true) then constRow a.dv .zero (.inf true) flagRowEmpty
  else
    let st := blocks.foldl (s.attendBlock d a r kh sc) { m := .inf true, l := .zero, acc := List.replicate a.dv 0 }
    { o := st.acc.map (fun w => fdiv (f32 w) st.l), lse := fadd st.m (SFn.log.f32 st.l), flags := 0 }

/-- Write a row of O and its LSE. -/
def State.putRow (s : State) (d : List Byte) (a : Atn) (h row : Nat) (x : RowOut) : Part :=
  let os := joinParts (x.o.zipIdx.map (fun v => a.o.write d (v.2 + a.dv * (row + a.tq * h)) v.1))
  let lse := match (if atnSaveLse d then s.operand d 4 else none) with
    | some l => l.write d (row + a.tq * h) x.lse
    | none => .empty
  { os.append lse with flags := os.flags ||| lse.flags ||| x.flags }

/-- R168, R171: rows of padding heads and rows of no sequence, in O and LSE, or in dQ. -/
def State.fillPart (s : State) (d : List Byte) (a : Atn) : Part :=
  let used (row : Nat) : Bool := (List.range a.nseq).any (fun n =>
    let r := s.seqRec a n
    r.qStart ≤ row && row < r.qStart + r.qLen)
  joinParts ((List.range a.hq).flatMap (fun h => ((List.range a.tq).filter (fun row =>
      a.hq - atnPadHeads d ≤ h || !(used row))).map (fun row =>
    if atnBwd d then joinParts ((List.range a.dh).map (fun c => a.o.write d (c + a.dh * (row + a.tq * h)) .zero))
    else s.putRow d a h row { o := List.replicate a.dv .zero, lse := .inf true, flags := 0 })))

/-! ## Backward (R177 to R179) -/

/-- What one row contributes: for each key, its probability and dS; and the class of its dQ. -/
structure BwdRow where
  terms : List (Nat × Val × Val)
  dqZero : Bool
  dqNan : Bool

/-- R177, R178: a row of backward, from its stored LSE. -/
def State.bwdRow (s : State) (d : List Byte) (a : Atn) (r : SeqRec) (h i : Nat) : BwdRow :=
  let row := r.qStart + i
  match s.slotOperand d 2, s.operand d 4, s.operand d 5 with
  | some lseO, some o, some dO =>
    let lse := s.f32At lseO [row, h]
    let sc := (s.scores d a r h i).filter (fun x => x.2 != .inf true)
    match lse with
    | .nan => { terms := sc.map (fun x => (x.1, .nan, .nan)), dqZero := false, dqNan := true }
    | .inf true => { terms := [], dqZero := true, dqNan := false }
    | .inf false =>
      if atnInfShare d then
        let tops := sc.filter (fun x => x.2 == .inf false)
        let w := divN fOne tops.length
        { terms := sc.map (fun x => (x.1, if x.2 == .inf false then w else .zero, .zero)), dqZero := true, dqNan := false }
      else { terms := sc.map (fun x => (x.1, .nan, .nan)), dqZero := false, dqNan := true }
    | .fin _ _ _ =>
      let dsum := treeSum ((List.range a.dv).map (fun c => fmul (s.f32At dO [c, row, h]) (s.f32At o [c, row, h])))
      { terms := sc.map (fun x =>
          let p := SFn.exp.f32 (fsub x.2 lse)
          let dp := engineDot dO.t.fmt (kvFmtOf d a true) a.dv (fun c =>
            (s.at' dO [c, row, h]).mul (s.kvAt d a r true (h / a.group) x.1 c))
          (x.1, p, fmul p (fsub dp dsum)))
        dqZero := false, dqNan := false }
  | _, _, _ => { terms := [], dqZero := true, dqNan := false }

/-- R178, R179: dQ of one row. -/
def State.dqPart (s : State) (d : List Byte) (a : Atn) (r : SeqRec) (h i : Nat) : Part :=
  let b := s.bwdRow d a r h i
  let row := r.qStart + i
  joinParts ((List.range a.dh).map (fun c =>
    let v := if b.dqNan then Val.nan else if b.dqZero then Val.zero
      else fmul (engineDot 1 (kvFmtOf d a false) r.kvLen (fun j =>
        match b.terms.find? (fun x => x.1 = j) with
        | some x => (fmtBf16.round x.2.2).mul (s.kvAt d a r false (h / a.group) j c)
        | none => .zero)) (atnScale d)
    a.o.write d (c + a.dh * (row + a.tq * h)) v))

/-- R178, R179: dK and dV of keys lo to hi − 1 of one key-value head; keys of no record stay unwritten, and of keys that two records
share the later task's store stands (log entry 179). -/
def State.dkvPart (s : State) (d : List Byte) (a : Atn) (r : SeqRec) (kh lo hi : Nat) : Part :=
  match s.slotOperand d 3, s.slotOperand d 4, s.operand d 5 with
  | some dk, some dvO, some dO =>
    let g := a.group
    let rows := (List.range (r.qLen * g)).map (fun k =>
      let h := kh * g + k / r.qLen
      (h, k % r.qLen, if a.hq - atnPadHeads d ≤ h then { terms := [], dqZero := true, dqNan := false }
        else s.bwdRow d a r h (k % r.qLen)))
    let tk := match a.k with
      | some o => extAt o.ext 1
      | none => 1
    let term (j k : Nat) : Option (Nat × Nat × Val × Val) := (rows[k]?).bind (fun x =>
      (x.2.2.terms.find? (fun t => t.1 = j)).map (fun t => (x.1, x.2.1, t.2.1, t.2.2)))
    let n := r.qLen * g
    joinParts ((List.range (hi - lo)).flatMap (fun t =>
      let j := lo + t
      let dks := (List.range a.dh).map (fun c =>
        dk.write d (c + a.dh * (r.kvStart + j + tk * kh)) (fmul (engineDot 1 a.q.t.fmt n (fun k => match term j k with
          | some x => (fmtBf16.round x.2.2.2).mul (s.at' a.q [c, r.qStart + x.2.1, x.1])
          | none => .zero)) (atnScale d)))
      let dvs := (List.range a.dv).map (fun c =>
        dvO.write d (c + a.dv * (r.kvStart + j + tk * kh)) (engineDot 1 dO.t.fmt n (fun k => match term j k with
          | some x => (fmtBf16.round x.2.2.1).mul (s.at' dO [c, r.qStart + x.2.1, x.1])
          | none => .zero)))
      dks ++ dvs))
  | _, _, _ => .empty

/-! ## Tasks -/

/-- The tasks of an attention operator.  Pass 0 is a query block of 128 of ATTN_FWD, 1 a key block and 2 a query block of
ATTN_BWD, and 3 the append of one sequence (log entry 29); no task is run for the rows of R168 and R171. -/
def State.atnTiles (s : State) (d : List Byte) : List Tile :=
  match s.atn d with
  | none => []
  | some a =>
    let heads := a.hq - atnPadHeads d
    let blocks (len size : Nat) : List (Nat × Nat) :=
      (List.range (ceilDiv len size)).map (fun b => (b * size, min len ((b + 1) * size)))
    let seqs := (List.range a.nseq).map (fun n => (n, s.seqRec a n))
    if atnBwd d then
      (seqs.flatMap (fun x => (List.range a.hkv).flatMap (fun kh =>
        (blocks x.2.kvLen 128).map (fun b => Tile.attn 1 x.1 kh b.1 b.2)))) ++
      seqs.flatMap (fun x => (List.range heads).flatMap (fun h =>
        (blocks x.2.qLen 64).map (fun b => Tile.attn 2 x.1 h b.1 b.2)))
    else
      (if atnAppend d then seqs.map (fun x => Tile.attn 3 x.1 0 0 0) else []) ++
      seqs.flatMap (fun x => (List.range heads).flatMap (fun h =>
        (blocks x.2.qLen 128).map (fun b => Tile.attn 0 x.1 h b.1 b.2)))

/-- The result of one attention task. -/
def State.atnPart (s : State) (d : List Byte) (pass seq head lo hi : Nat) : Part :=
  match s.atn d with
  | none => .empty
  | some a =>
    let r := s.seqRec a seq
    let rows := (List.range (hi - lo)).map (fun i => lo + i)
    match pass with
    | 0 => joinParts (rows.map (fun i => s.putRow d a head (r.qStart + i) (s.attendRow d a r head i)))
    | 1 => s.dkvPart d a r head lo hi
    | 2 => joinParts (rows.map (s.dqPart d a r head))
    | 3 => s.appendPart d a seq
    | _ => .empty

/-- R168, R171: what an attention operator writes beside its tasks' results. -/
def State.atnFill (s : State) (d : List Byte) : Part :=
  if dOpcode d = 0x20 || dOpcode d = 0x21 then
    match s.atn d with
    | none => .empty
    | some a => s.fillPart d a
  else .empty

/-! ## The checks of the page service (R170, R181) -/

/-- R170: one sequence record against the tensors and the record before it; lengths above those of Table 7.4 meet no other check (log
entry 178). -/
def seqOk (d : List Byte) (a : Atn) (prevEnd : Nat) (r : SeqRec) : Bool :=
  let tk := match a.k with
    | some o => extAt o.ext 1
    | none => 0
  prevEnd ≤ r.qStart && r.qStart + r.qLen ≤ a.tq &&
    (if atnPaged d then (match a.pages with
      | some o => r.ptStart + ceilDiv r.kvLen 16 ≤ o.t.elements
      | none => false)
    else r.kvStart + r.kvLen ≤ tk) &&
    (!(atnAppend d) || (r.qLen ≤ r.kvLen && r.qPos0 = r.kvLen - r.qLen)) &&
    (!(atnMask d 3) || (ceilDiv (ceilDiv r.kvLen 64) 8 ≤ r.bmStride && (match a.bitmap with
      | some o => r.bmOff + ceilDiv r.qLen 64 * r.bmStride ≤ o.t.elements
      | none => false)))

/-- The first element of a list that occurs again later. -/
def firstRepeat : List Nat → Option Nat
  | [] => none
  | x :: r => if r.contains x then some x else firstRepeat r

/-- The fault that the page service finds, with its INFO: 1 SEQ_TABLE_RANGE (record), 2 PAGE_RANGE (page-table entry),
3 PAGE_ALIAS (physical page). -/
def State.atnFault (s : State) (d : List Byte) : Option (Nat × Nat) :=
  match s.atn d with
  | none => none
  | some a =>
    let recs := (List.range a.nseq).map (s.seqRec a)
    let ends := 0 :: recs.map (fun r => r.qStart + r.qLen)
    match (recs.zip ends).findIdx? (fun x => !(seqOk d a x.2 x.1)) with
    | some i => some (1, i)
    | none =>
      if atnPaged d then
        let ix := recs.flatMap (fun r => (List.range (ceilDiv r.kvLen 16)).map (fun i => r.ptStart + i))
        match ix.find? (fun i => pageCount d a ≤ s.pageEntry a i) with
        | some i => some (2, i)
        | none => (firstRepeat (ix.map (s.pageEntry a))).map (fun p => (3, p))
      else none

end Sys2Proof.Machine
end

