-- ==== Sys2Proof/Machine/Residence.lean ====
section
/-! DEFINITION. Residence and room (R214, R215, R220 to R226): accounted sizes, quotas and usage, near pages, far space,
and the chunk tables of R207. -/

namespace Sys2Proof.Machine

/-! ## Sizes (R156, R203, R221) -/

/-- R156: the packed elements and the scale bytes of `n` elements. -/
def plainBound (fmt : Nat) (mx : Bool) (n : Nat) : Nat :=
  ceilDiv (n * fmtWidth fmt) 8 + (if blockOf fmt mx = 0 then 0 else ceilDiv n (blockOf fmt mx))

/-- R156, R203: the stored bound of compressed elements: `ngran` granules that hold `n` elements. -/
def codedBound (t : Tensor) (ngran n : Nat) : Nat :=
  let plain := plainBound t.fmt t.mx n
  let grans := ngran * (128 * fmtWidth t.fmt + 8)
  match t.comp with
  | 1 => grans
  | 2 => grans + plain
  | 3 => ceilDiv plain 2
  | 4 => ceilDiv plain 4
  | _ => plain

/-- R217: a tensor whose strides are the products of the (padded) extents below. -/
def Tensor.dense (t : Tensor) : Bool :=
  let e := if t.block = 0 then t.extents else t.extents.modify 0 (fun n => roundUp n t.block)
  t.strides = (List.range 5).map (fun k => prodOf (e.take (k + 1)))

/-- R156, R203: the stored bound of a whole tensor: the same function of its elements as a tile's, and the storage span of one that
is neither compressed nor dense (log entry 20). -/
def Tensor.storedBound (t : Tensor) : Nat :=
  if t.comp = 0 && !t.dense then t.spanBytes else codedBound t t.compShape.ngran t.elements

/-- R221: large tensors have a stored bound of 2 MiB or more. -/
def Tensor.small (t : Tensor) : Bool := t.storedBound < pageBytes

/-- R221: whether the far form can differ from the near form. -/
def Tensor.farDiffers (t : Tensor) : Bool := t.farCoded || t.comp = 1

/-- R221: the bound of the far form. -/
def Tensor.farBound (t : Tensor) : Nat :=
  if t.farCoded then
    let k : CompShape := { comp := 1, fmt := t.fmt, ext := t.extents, base := 0 }
    k.payloadOffset + k.ngran * 128 * t.width
  else t.storedBound

/-- R221: both chunk tables, 4 bytes an entry. -/
def Tensor.tableBytes (t : Tensor) : Nat :=
  4 * ceilDiv t.storedBound 4096 + (if t.farDiffers then 4 * ceilDiv t.farBound 4096 else 0)

/-- R221: the granularity of a near allocation: whole pages, or 64 KiB lots. -/
def Tensor.grain (t : Tensor) : Nat := if t.small then 65536 else pageBytes

/-- R221: what is charged for the near copy. -/
def Tensor.chargedBytes (t : Tensor) : Nat := roundUp t.storedBound t.grain

/-- The room that the near form takes of the pen's addresses; the container of a compressed tensor can be longer than its stored
bound (log entry 20). -/
def Tensor.roomBytes (t : Tensor) : Nat := roundUp t.storedBytes t.grain

def Tensor.accountedSize (t : Tensor) : Nat := t.chargedBytes + t.tableBytes

/-- R220: the length of the pen-address range. -/
def Tensor.rangeBytes (t : Tensor) : Nat := roundUp (max t.accountedSize t.roomBytes) t.grain

/-! ## Quotas and usage (R214, R224, R225) -/

/-- R214: the pool is 392,896 MiB from offset 0x1400_0000. -/
def poolBytes : Nat := 392896 * 1048576
def poolFirstPage : Nat := 160
def poolPages : Nat := 196448

/-- R225: the tables of a pen that exists, in 2 MiB pages of the entries in use, and its itinerary (log entry 32); R313: its signal
counters. -/
def Pen.metadata (p : Pen) : Nat :=
  if p.state = .empty then 0 else roundUp (64 * p.tensors.length + 64 * p.views.length + 64 * (p.tensors.filter (fun t => t.shard.isSome)).length +
    256 * (p.tensors.map (fun t => t.recipe.length)).sum) pageBytes +
    p.itinerary.elim 0 Itinerary.bytes + p.pendingItin.elim 0 Itinerary.bytes + 524288

/-- R369: the frame-buffer pool is charged as PINNED bytes. -/
def Pen.poolUse (p : Pen) : Nat := match p.pool with
  | some (count, size) => count * size
  | none => 0

/-- R225: PINNED tensors, small tensors, the frame-buffer pool and metadata. -/
def Pen.fixedUse (p : Pen) : Nat :=
  p.poolUse + ((p.tensors.filter (fun t => t.pinned || t.small)).map Tensor.accountedSize).sum + p.metadata

/-- R225: the near usage: the accounted size of every near allocation; tables are charged whatever the residence (R221). -/
def Pen.nearUse (p : Pen) : Nat :=
  (p.tensors.map (fun t => if t.room != [] then t.accountedSize else t.tableBytes)).sum + p.metadata + p.poolUse

/-- R225: the far copies of a tensor in whole chunks, one that is being written among them. -/
def Tensor.farBytes (t : Tensor) : Nat :=
  (match t.far with
    | some f => roundUp f.bytes 4096
    | none => 0) + (match t.wb with
    | some w => roundUp w.form.length 4096
    | none => 0)

def Pen.farUse (p : Pen) : Nat := (p.tensors.map Tensor.farBytes).sum

/-- R226: the far room that is kept for the tensors of a pen other than `h`, beyond what their far copies take. -/
def Pen.farHeld (p : Pen) (h : Word) : Nat := ((p.tensors.filter (fun t => t.handle != h)).map (fun t => t.farReserved - t.farBytes)).sum

/-- R224, R247: the near and far shared accounts of the bases. -/
def State.nearShared (s : State) : Nat := (s.drover.bases.map (fun b => roundUp b.2.storedBytes pageBytes + b.2.tableBytes)).sum
def State.farShared (s : State) : Nat := (s.drover.bases.map (fun b => match b.2.far with
  | some f => roundUp f.bytes 4096
  | none => 0)).sum

def State.poolFree (s : State) : Nat := poolBytes - ((s.pens.map Pen.nearUse).sum + s.nearShared)

/-- R224: whether quotas of a pen fit beside the others'. -/
def State.quotaFits (s : State) (pen nearMin farMax : Nat) : Bool :=
  let others := s.pens.zipIdx.filter (fun p => p.2 != pen)
  (others.map (fun p => p.1.nearMin)).sum + nearMin + s.nearShared ≤ poolBytes &&
    (others.map (fun p => p.1.farMax)).sum + farMax + s.farShared ≤ s.drover.farCapacity

/-! ## Near pages (R220, R353) -/

/-- The `n` lowest pool pages not in use (log entry 11). -/
def freeFrom (used : List Nat) : Nat → Nat → Nat → List Nat
  | 0, _, _ => []
  | _, _, 0 => []
  | fuel + 1, p, n + 1 => if used.contains p then freeFrom used fuel (p + 1) (n + 1) else p :: freeFrom used fuel (p + 1) n

def State.freeNearPages (s : State) (n : Nat) : Option (List Nat) :=
  let ps := freeFrom s.drover.nearUsed (n + s.drover.nearUsed.length) poolFirstPage n
  if ps.length = n && ps.all (· < poolFirstPage + poolPages) then some ps else none

/-- The pen pages of a tensor's near form. -/
def Tensor.penPages (t : Tensor) : List Nat :=
  let lo := t.penAddr / pageBytes
  (List.range (ceilDiv (t.penAddr + t.roomBytes) pageBytes - lo)).map (lo + ·)

/-- The near page behind a pen page, mapped or kept in the room of a tensor that shares it. -/
def Pen.pageOf (p : Pen) (page : Nat) : Option Nat :=
  ((p.pages ++ p.tensors.flatMap Tensor.room).find? (fun x => x.1 = page)).map Prod.snd

/-- R220: the pages of a tensor's room in the pen's page table. -/
def State.mapRoom (s : State) (pen h : Nat) : State :=
  match s.tensor? h with
  | none => s
  | some t => s.modPen pen (fun p => { p with pages := p.pages ++ t.room.filter (fun x => p.pages.all (fun y => y.1 != x.1)) })

/-- The page table of a pen as it stood in another state. -/
def State.pagesAs (s : State) (pen : Nat) (old : State) : State := s.modPen pen (fun p => { p with pages := (old.pen pen).pages })

/-- R205: whether elements, given by their storage indices, occupy byte `b` whole: of elements narrower than a byte, every one in it. -/
def Tensor.occupied (t : Tensor) (taken : List Nat) (b : Nat) : Bool :=
  if t.width < 8 then (List.range (8 / max 1 t.width)).all (fun i => taken.contains (8 / max 1 t.width * b + i))
  else taken.contains (b / (t.width / 8))

/-- R205: the gap bytes of a tensor that is not dense are written zero when its near copy is allocated. -/
def State.zeroGaps (s : State) (pen : Nat) (t : Tensor) : State :=
  if t.dense || t.comp != 0 || t.block != 0 then s
  else
    let taken := (List.range t.elements).map t.storageIndex
    (((s.mapRoom pen t.handle.toNat).forAll ((List.range t.storedBytes).filter (fun b => !(t.occupied taken b)))
      (fun u b => u.penWrite .norm .drover pen (t.penAddr + b) [0]))).pagesAs pen s

/-- The pen pages of a tensor that have no near page yet. -/
def Pen.pagesWanted (p : Pen) (t : Tensor) : List Nat := t.penPages.filter (fun x => (p.pageOf x).isNone)

/-- R6, R34, R354: near pages that become a tensor's room hold nothing determinate (log entry 33). -/
def State.loosenRoom (s : State) (t : Tensor) (room : List (Nat × Nat)) : State :=
  s.forAll room (fun u x =>
    let lo := max t.penAddr (x.1 * pageBytes)
    u.npLoosen (x.2 * pageBytes + lo % pageBytes) (min (t.penAddr + t.roomBytes) ((x.1 + 1) * pageBytes) - lo))

/-- Near pages become a tensor's room, beside those that its pen pages have already. -/
def State.giveRoom (s : State) (pen : Nat) (t : Tensor) (ps : List Nat) : State :=
  let fresh := ((s.pen pen).pagesWanted t).zip ps
  let room := t.penPages.filterMap (fun p => match (s.pen pen).pageOf p with
    | some n => some (p, n)
    | none => fresh.find? (fun x => x.1 = p))
  (((s.modTensor t.handle.toNat (fun x => { x with room := room })).modDrover
    (fun d => { d with nearUsed := d.nearUsed ++ ps })).loosenRoom t room).zeroGaps pen t

/-- R220, R228: near pages for a tensor's room, where it has none; none when the pool has too few. -/
def State.takeRoom (s : State) (pen : Nat) (t : Tensor) : Option State :=
  if t.room != [] then some s else (s.freeNearPages ((s.pen pen).pagesWanted t).length).map (s.giveRoom pen t)

/-- A tensor's room is freed: its pages are unmapped and return to the pool, but for a page that other small tensors still use; R360,
R362: the pages of a pen that is being wiped stay with it until they are zeroed. -/
def State.freeRoom (s : State) (pen : Nat) (t : Tensor) : State :=
  if (s.pen pen).state = .wiping then s
  else
    let others := (s.pen pen).tensors.filter (fun x => x.handle != t.handle)
    let kept (page : Nat) : Bool := others.any (fun x => x.room.any (fun y => y.1 = page))
    let gone := ((s.pen pen).tensors.filter (fun x => x.handle = t.handle)).flatMap Tensor.room |>.filter (fun x => !(kept x.1))
    ((s.modPen pen (fun p => { p with pages := p.pages.filter (fun y => !(gone.contains y)) })).modDrover
      (fun d => { d with nearUsed := d.nearUsed.filter (fun n => !(gone.any (fun y => y.2 = n))) })).modTensor t.handle.toNat
        (fun x => { x with room := [], farReserved := 0 })

/-- Free a tensor's room unless a near copy or a recipe run uses it. -/
def State.freeIdleRoom (s : State) (pen h : Nat) : State :=
  match s.tensor? h with
  | some t => if t.res = .near || t.res = .both || t.run.isSome then s else s.freeRoom pen t
  | none => s

/-! ## Far space (R215) -/

/-- R215: the ports that are up and trained, ascending. -/
def State.stripeNow (s : State) : List Nat :=
  (List.range 4).filter (fun k => (s.talsenAt k).state == .up && !(s.talsenAt k).relinking)

/-- The chunks of a copy held by the port at position `i` of a stripe of `n` ports. -/
def chunksOnPort (bytes n i : Nat) : Nat := ceilDiv (ceilDiv bytes 4096 - i) n

/-- What a copy takes of a port: its place and its bytes. -/
def FarCopy.onPort (f : FarCopy) (p : Nat) : List (Nat × Nat) :=
  (f.stripe.zipIdx.filter (fun x => x.1 = p)).map (fun x => (f.place.getD x.2 0, 4096 * chunksOnPort f.bytes f.stripe.length x.2))

/-- The far space of a port that copies and write-behinds hold. -/
def State.farExtents (s : State) (p : Nat) : List (Nat × Nat) :=
  (s.pens.flatMap Pen.tensors ++ s.drover.bases.map Prod.snd).flatMap (fun t =>
    (match t.far with
      | some f => f.onPort p
      | none => []) ++
    (match t.wb with
      | some w => ({ stripe := w.stripe, bytes := w.form.length, place := w.place, exact := w.exact : FarCopy }).onPort p
      | none => []))

/-- R445: the far space of a port that may be allocated: what has been overwritten, from address 0 up (log entry 11). -/
def State.farUsable (s : State) (p : Nat) : Nat := (s.talsenAt p).usedMib * 2 ^ 20 - s.boot.farUnwiped.getD p 0

/-- The lowest free place of `n` bytes on a port (log entry 11). -/
def State.farPlace (s : State) (p n : Nat) : Option Nat :=
  let used := s.farExtents p
  let fits (a : Nat) : Bool := a + n ≤ s.farUsable p && used.all (fun x => a + n ≤ x.1 || x.1 + x.2 ≤ a)
  (0 :: used.map (fun x => x.1 + x.2)).foldl (fun best a => if fits a then some (match best with
    | some b => min a b
    | none => a) else best) none

/-- R215: the places of a copy on the ports of a stripe set. -/
def State.reserveFar (s : State) (bytes : Nat) (stripe : List Nat) : Option (List Nat) :=
  stripe.zipIdx.mapM (fun x => s.farPlace x.1 (4096 * chunksOnPort bytes stripe.length x.2))

/-- R215: the port and the port address of chunk `c` of a copy. -/
def FarCopy.chunkPlace (f : FarCopy) (c : Nat) : Nat × Nat :=
  let n := f.stripe.length
  (f.stripe.getD (c % n) 0, f.place.getD (c % n) 0 + 4096 * (c / n))

/-- R215: whether every port of the stripe set is up. -/
def State.fetchable (s : State) (f : FarCopy) : Bool := f.stripe != [] && f.stripe.all (fun p => s.stripeNow.contains p)

/-! ## Chunk tables (R207) -/

/-- R207: the near table after one writer's stores, given as (offset, length): a chunk that the writer wrote whole takes its
value, and one written in part loses its entry until it is computed for its first move. -/
def State.touchTable (s : State) (pen handle : Nat) (spans : List (Nat × Nat)) : State :=
  match s.tensor? handle with
  | none => s
  | some t =>
    let len (c : Nat) : Nat := min 4096 (t.storedBytes - 4096 * c)
    let part (c : Nat) : Bool := spans.any (fun x => x.1 < 4096 * (c + 1) && 4096 * c < x.1 + x.2)
    let whole (c : Nat) : Bool := len c ≤ (spans.map (fun x => min (x.1 + x.2) (4096 * (c + 1)) - max x.1 (4096 * c))).sum
    s.modTensor handle (fun x => { x with nearTable := x.nearTable.zipIdx.map (fun e =>
      if !(part e.2) then e.1
      else if whole e.2 then
        some (BitVec.ofNat 32 (crc32c (padTo 4096 ((List.range (len e.2)).map (fun i => s.nearForm pen t (4096 * e.2 + i))))))
      else none) })

/-- The tensor whose range holds a pen address. -/
def State.tensorAt (s : State) (pen addr : Nat) : Option Tensor :=
  (s.pen pen).tensors.find? (fun t => t.penAddr ≤ addr && addr < t.penAddr + t.roomBytes)

/-- R207: a fresh near table: every entry invalid. -/
def Tensor.freshTables (t : Tensor) : Tensor :=
  { t with nearTable := List.replicate (ceilDiv t.storedBytes 4096) none, farTable := [] }

/-! ## Leaving a residence (R223) -/

/-- Discard the far copy, and any fetch or write-behind in flight. -/
def Tensor.dropFar (t : Tensor) : Tensor :=
  { t with far := none, farTable := [], wb := none, wbDue := none
           res := match t.res with
             | .both => .near
             | .far => .none
             | x => x }

/-- R18, R150: the tiles of a tensor that the commons hold go with its near copy. -/
def State.unstage (s : State) (h : Nat) : State :=
  s.modComp (fun c => { c with staged := c.staged.filter (fun x => !(x.handles.contains h)) })

/-- R223: the near copy goes: to FAR from BOTH, else to NONE, and a write-behind with it. -/
def State.dropNear (s : State) (pen : Nat) (t : Tensor) : State :=
  ((s.freeRoom pen t).unstage t.handle.toNat).modTensor t.handle.toNat (fun x =>
    { x with res := if x.res = .both then .far else .none, wbDue := none, wb := if x.res = .both then x.wb else none
             nearTable := if x.res = .both then x.nearTable else List.replicate (ceilDiv x.storedBytes 4096) none })

/-- R233: every copy goes and the tensor becomes NONE. -/
def State.freeCopies (s : State) (pen : Nat) (t : Tensor) : State :=
  ((s.freeRoom pen t).unstage t.handle.toNat).modTensor t.handle.toNat (fun x =>
    { (x.dropFar).freshTables with res := .none, fetch := none, wb := none })

/-- R220, R222: the near copy is whole: its pages are mapped. -/
def State.becomeNear (s : State) (pen h : Nat) (res : Res) : State :=
  (s.mapRoom pen h).modTensor h (fun x => { x with res := res, allocWait := false })

/-- R227: LAST_USE. -/
def State.useTensor (s : State) (handle : Nat) : State :=
  s.modTensor handle (fun t => { t with lastUse := BitVec.ofNat 32 (s.time.now.toNat / 1024) })

end Sys2Proof.Machine
end

