-- ==== Sys2Proof/Machine/Roles.lean ====
section
/-! DEFINITION. What a descriptor reads and writes: the roles of its references and handle slots (Tables 4.6, 4.12, 5.3, 5.5, 5.7,
7.2), and what a recipe reads and can be run from (R231, R232). -/

namespace Sys2Proof.Machine

/-! ## Roles: 0 unused, 1 input, 2 output, 3 both -/

def roleIf (b : Bool) (r : Nat) : Nat := if b then r else 0

/-- R88, R99: GEMM and CONV. -/
def matRoles (d : List Byte) : List Nat :=
  let wgrad := dOpcode d = 0x11 && convPass d = 2
  [1, 1, if epiAcc d then 3 else 2, roleIf (epiBias d && !wgrad) 1, roleIf (epiResidual d && !wgrad) 1,
    roleIf (epiAux d && !wgrad) 2]

/-- Table 5.3. -/
def normRoles (d : List Byte) : List Nat :=
  let aff := normAffine d
  if isNormBwd d then [1, roleIf aff 1, 2, 1, 1, roleIf aff 3]
  else [1, roleIf aff 1, 2, roleIf (aff && normKind d != 1) 1, roleIf (normSave d) 2, 0]

/-- Table 7.2. -/
def atnRoles (d : List Byte) : List Nat :=
  if dOpcode d = 0x21 then [1, 1, 2, 1, 1, 1]
  else
    let kv := roleIf (!(atnPaged d) || atnAppend d) 1
    [1, kv, 2, kv, roleIf (atnSaveLse d) 2, 0]

/-- The roles of Ref 0 to Ref 5; an optional reference that is absent has no role. -/
def refRoles (d : List Byte) : List Nat :=
  match dOpcode d with
  | 0x10 | 0x11 => matRoles d
  | 0x12 => [1, 1, 2, 0, 0, 0]
  | 0x20 | 0x21 => atnRoles d
  | 0x30 => normRoles d
  | 0x31 => [1, 0, 2, roleIf (softBwd d) 1, 0, 0]
  | 0x32 => [1, roleIf (2 ≤ eltInputs (dVariant d)) 1, if dVariant d = 0x25 then 3 else 2,
             roleIf (3 ≤ eltInputs (dVariant d)) 1, 0, 0]
  | 0x33 | 0x37 | 0x40 => [1, 0, 2, 0, 0, 0]
  | 0x34 => [0, 0, 2, 0, 0, 0]
  | 0x35 => [1, 3, roleIf (optCopy d) 2, 3, roleIf (dVariant d = 0) 3, 0]
  | 0x36 => [1, 1, 2, roleIf (refPresent d 3) 1, 0, roleIf (lossGrad d) 2]
  | _ => [0, 0, 0, 0, 0, 0]

/-- Table 7.2: the roles of the handle slots. -/
def slotRoles (d : List Byte) : List Nat :=
  match dOpcode d with
  | 0x20 => [1, roleIf (atnMask d 3) 1, roleIf (atnPaged d) 1, roleIf (atnPaged d) (if atnAppend d then 3 else 1), 0]
  | 0x21 => [1, roleIf (atnMask d 3) 1, 1, 2, 2]
  | _ => []

/-- A reference or handle slot with its role. -/
structure Used where
  role : Nat
  op : Operand

def isIn (r : Nat) : Bool := r = 1 || r = 3
def isOut (r : Nat) : Bool := r = 2 || r = 3

/-- Every reference and handle slot that the operator uses and that resolves. -/
def State.used (s : State) (d : List Byte) : List Used :=
  ((refRoles d).zipIdx.filterMap (fun x => if x.1 = 0 then none else (s.operand d x.2).map (fun o => ⟨x.1, o⟩))) ++
    ((slotRoles d).zipIdx.filterMap (fun x => if x.1 = 0 then none else (s.slotOperand d x.2).map (fun o => ⟨x.1, o⟩)))

/-- Handles of the inputs and of the outputs. -/
def State.inputHandles (s : State) (d : List Byte) : List Nat :=
  ((s.used d).filter (fun u => isIn u.role)).map (fun u => u.op.t.handle.toNat)
def State.outputHandles (s : State) (d : List Byte) : List Nat :=
  ((s.used d).filter (fun u => isOut u.role)).map (fun u => u.op.t.handle.toNat)

/-- The handles that a descriptor names: references present and handle slots used. -/
def namedHandles (d : List Byte) : List Nat :=
  ((List.range 6).filter (refPresent d)).map (refHandle d) ++
    ((slotRoles d).zipIdx.filterMap (fun x => if atnSlot d x.2 = noCounter then none else some (atnSlot d x.2)))

/-! ## Recipes (R231, R232) -/

/-- R222, Table 9.4: a near copy that can be read. -/
def Tensor.readable (t : Tensor) : Bool := t.res = .near || t.res = .both

/-- Whether a tensor has a copy, near, far or on its way; the near copy of a POISONED one is discarded (R245). -/
def Tensor.hasCopy (t : Tensor) : Bool := (t.res != .none && t.res != .poisoned) || t.fetch.isSome

/-- R231: the tensors that a recipe's earlier descriptors write and a later one reads. -/
def State.scratchHandles (s : State) (r : List (List Byte)) : List Nat :=
  (r.zipIdx.flatMap (fun x => (s.outputHandles x.1).filter (fun h => (r.drop (x.2 + 1)).any (fun d => (s.inputHandles d).contains h)))).eraseDups

/-- The checkpoints: what the recipe reads and does not write itself. -/
def State.checkpoints (s : State) (r : List (List Byte)) : List Nat :=
  ((r.flatMap s.inputHandles).filter (fun h => !((s.scratchHandles r).contains h))).eraseDups

/-- A tensor whose contents are at hand or can be fetched. -/
def State.supplied (s : State) (t : Tensor) : Bool :=
  t.readable || (t.res = .far && (match t.far with
    | some f => s.fetchable f
    | none => false))

/-- The base of a DLT tensor is good; any other tensor has none. -/
def State.baseGood (s : State) (t : Tensor) : Bool :=
  t.comp != 2 || (match s.base? t.base.toNat with
    | some b => b.res = .both && !b.lost
    | none => false)

/-- R232. -/
def State.usable (s : State) (t : Tensor) : Bool :=
  t.recipe != [] && (s.checkpoints t.recipe).all (fun h => match s.tensor? h with
    | some c => s.supplied c && s.baseGood c
    | none => false)

/-- R34, R127: the target of BS4_SET_SCALE that has no contents and no way to any: it gets a fresh near copy, as a plain output does. -/
def State.freshScale (s : State) (d : List Byte) (h : Nat) : Bool :=
  dOpcode d = 0x32 && dVariant d = 0x25 && refHandle d 2 = h && (match s.tensor? h with
    | some t => t.res != .poisoned && !t.hasCopy && !(s.usable t) && t.encodeFrom.isNone
    | none => false)

end Sys2Proof.Machine
end

