-- ==== Sys2Proof/Machine/PenOps.lean ====
section
/-! DEFINITION. What stops a pen or an operator: discarding tasks (R69, R72), completion records (R113), the Drover's abort
handling (R251), the end of remote operations (R321), pen faults (R359) and aborts (R358), and the hub faults of R490. -/

namespace Sys2Proof.Machine

/-! ## Halves and operators -/

def State.half (s : State) (phys : Nat) (h : Bool) : AccHalf := if h then (s.fold phys).half1 else (s.fold phys).half0

def State.modHalf (s : State) (phys : Nat) (h : Bool) (f : AccHalf → AccHalf) : State :=
  s.modFold phys (fun x => if h then { x with half1 := f x.half1 } else { x with half0 := f x.half0 })

/-- Every accumulator half of the device. -/
def allHalves : List (Nat × Bool) := (List.range 136).flatMap (fun k => [(k, false), (k, true)])

def State.op? (s : State) (id : Nat) : Option Op := s.comp.ops.find? (fun o => o.id = id)

def State.modOp (s : State) (id : Nat) (f : Op → Op) : State :=
  s.modComp (fun c => { c with ops := c.ops.map (fun o => if o.id = id then f o else o) })

/-- The halves that hold a task of an operator. -/
def State.halvesOf (s : State) (id : Nat) : List (Nat × Bool) :=
  allHalves.filter (fun x => (s.half x.1 x.2).busy.map Prod.fst = some id)

/-- R60, R69: a half zeroed: nothing of its task is left but the pen that used it last. -/
def AccHalf.zeroed (h : AccHalf) : AccHalf := { AccHalf.idle with lastPen := h.lastPen, pen := h.pen }

/-! ## Tensors and bases under one handle -/

def baseHandle (n : Nat) : Nat := 0x10000000 + n

def State.modBase (s : State) (n : Nat) (f : Tensor → Tensor) : State :=
  s.modDrover (fun d => { d with bases := d.bases.map (fun b => if b.1 = n then (b.1, f b.2) else b) })

/-- The tensor or base under a handle. -/
def State.any? (s : State) (h : Nat) : Option Tensor := if isBaseHandle h then s.base? h else s.tensor? h

def State.modAny (s : State) (h : Nat) (f : Tensor → Tensor) : State :=
  if isBaseHandle h then s.modBase (h - 0x10000000) f else s.modTensor h f

/-- Every tensor and base with its handle. -/
def State.allTensors (s : State) : List (Nat × Tensor) :=
  s.pens.flatMap (fun p => p.tensors.map (fun t => (t.handle.toNat, t))) ++
    s.drover.bases.map (fun b => (baseHandle b.1, b.2))

/-! ## Provisional chunks (R65, R208, R241) -/

/-- R205: the container that far pasture holds of an uncompressed tensor. -/
def Tensor.farShape (t : Tensor) : CompShape := { comp := 1, fmt := t.fmt, ext := t.extents, base := 0 }

/-- Whether far chunk `c` of a fetch has passed its check. -/
def Fetch.passed (f : Fetch) (c : Nat) : Bool := match f.chunks[c]? with
  | some (.confirmed _) => true
  | _ => false

/-- The chunks that hold a run of bytes. -/
def chunksUnder (at' len : Nat) : List Nat :=
  if len = 0 then [] else (List.range ((at' + len - 1) / 4096 - at' / 4096 + 1)).map (at' / 4096 + ·)

/-- R208: the granules whose elements lie in near-form chunk `c` of an uncompressed tensor. -/
def Tensor.granulesIn (t : Tensor) (c : Nat) : List Nat :=
  ((List.range t.elements).filterMap (fun lin =>
    let b := t.storageIndex lin * t.width / 8
    if 4096 * c < b + t.width / 8 && b < 4096 * (c + 1) then some (t.farShape.place (t.coords lin)).1 else none)).eraseDups

/-- R208: whether every far chunk from which a byte of near-form chunk `c` is expanded has been confirmed: the header, the index
up to each of its granules' entries, and the payload that the entry names. -/
def Tensor.expandable (t : Tensor) (f : Fetch) (c : Nat) : Bool :=
  let k := t.farShape
  (t.granulesIn c).all (fun g =>
    (chunksUnder 0 (64 + 8 * (g + 1))).all f.passed &&
      (let e := readLe f.form (64 + 8 * g) 8
       (chunksUnder (k.payloadOffset + 32 * bitsOf e 39 0) (32 * min k.umax (bitsOf e 51 44))).all f.passed))

/-- R65, R208: the chunks of a tensor being fetched that are still provisional: near-form chunks where the far form is expanded, far
chunks where it is the near form. -/
def Tensor.provisionalChunks (t : Tensor) (f : Fetch) : List Nat :=
  if t.farCoded then (List.range (ceilDiv t.storedBytes 4096)).filter (fun c => !(t.expandable f c))
  else (List.range f.chunks.length).filter (fun c => !(f.passed c))

/-! ## Abandoning (R246) -/

/-- R66: send a verdict for a chunk that some Fold still holds as provisional. -/
def State.sendVerdict (s : State) (id : ChunkId) (ok : Bool) : State :=
  if allHalves.any (fun x => (s.half x.1 x.2).prov.contains id) && !(s.drover.verdicts.any (fun v => v.1 = id)) then
    s.modDrover (fun d => { d with verdicts := d.verdicts ++ [(id, ok)] })
  else s

/-- R246: every chunk of a tensor not yet resolved is rejected. -/
def State.rejectOpen (s : State) (h : Nat) : State :=
  match s.any? h with
  | none => s
  | some t => match t.fetch with
    | none => s
    | some f => s.forAll (t.provisionalChunks f) (fun u c => u.sendVerdict { handle := BitVec.ofNat 32 h, chunk := c } false)

/-- R240: after a switch the reads already issued end on their own merits, and with the last of them the fetch; R251: so does a fetch
whose recipe run is abandoned. -/
def State.endSwitched (s : State) (h : Nat) : State :=
  match s.any? h with
  | none => s
  | some t => match t.fetch with
    | none => s
    | some f =>
      if (t.res = .both || f.switched) && t.run.isNone && !(isBaseHandle h) && !(f.chunks.contains .issued) then
        ((s.rejectOpen h).modAny h (fun x => { x with fetch := none })).freeIdleRoom (h / 2 ^ 29) h
      else s

/-- End a fetch; its near room is freed unless the tensor has a near copy. -/
def State.endFetch (s : State) (pen h : Nat) : State :=
  match s.tensor? h with
  | none => s
  | some t =>
    if t.fetch.isSome then ((s.rejectOpen h).modTensor h (fun x => { x with fetch := none })).freeIdleRoom pen h
    else s

/-! ## Layer boundaries (R77, R81) -/

/-- No task is in flight on the device. -/
def State.foldsIdle (s : State) : Bool := s.comp.folds.all (fun f => f.half0.busy.isNone && f.half1.busy.isNone)

/-- R77, R81: a layer boundary opens the takeovers of the Folds that have failed; one failure that comes during a takeover waits for
the boundary after it. -/
def State.layerBoundary (s : State) : State :=
  if s.comp.folds.any Fold.dueTakeover then s
  else s.modComp (fun c => { c with folds := c.folds.map (fun f => if f.state = .failed then { f with dueTakeover := true } else f) })

/-- R77: the moment no task is in flight is a layer boundary. -/
def State.idleBoundary (s : State) : State := if s.foldsIdle then s.layerBoundary else s

/-! ## Discarding -/

/-- Table 5.1: DISCARDS saturates.  R70: a task that is issued again takes only confirmed chunks; R161: it runs alone; R76: after a
failure it is the work of the failed Fold. -/
def Op.discard (o : Op) (task : Nat) (failed : Option Nat) : Op :=
  { o with discards := satInc o.discards 0xFFFF
           tasks := o.tasks.modify task (fun t => { t with
             phase := .waiting, confirmedOnly := true, gang := none, redo := if failed.isSome then failed else t.redo }) }

/-- R69, R75: the task of a half is discarded without trace and waits to be issued again. -/
def State.discardTask (s : State) (phys : Nat) (h : Bool) (failed : Option Nat) : State :=
  match (s.half phys h).busy with
  | none => s
  | some (id, task) =>
    (((s.modHalf phys h AccHalf.zeroed).modOp id (fun o => o.discard task failed)).count 14 1).idleBoundary

/-! ## Completion (R110, R113) -/

/-- Table 5.1; the PEN byte is the descriptor's, also where it differs from the ring's pen (log entry 174). -/
def State.completionRecord (s : State) (d : List Byte) (status flags discards recomputes : Nat) : List Byte :=
  leBytes 4 (dSeq d) ++ [BitVec.ofNat 8 (dOpcode d), BitVec.ofNat 8 (dPen d % 8), BitVec.ofNat 8 status,
    BitVec.ofNat 8 flags] ++ leBytes 3 (dLayer d) ++ [0] ++ leBytes 2 discards ++ leBytes 2 recomputes ++ s.timeBytes ++
    List.replicate 6 0

/-- R113: a completion record of an operator of a ring, to the CPL queue of that ring. -/
def State.completeOn (s : State) (queue : Nat) (rec : List Byte) : State :=
  match s.queue? queue with
  | some q => s.cpl q.cplQid.toNat 0 queue rec
  | none => s

/-- An operator leaves the device: its halves are zeroed, its chain slots and its commons staging freed, its tensors no longer in
use. -/
def State.removeOp (s : State) (o : Op) : State :=
  ((s.forAll (s.halvesOf o.id) (fun t x => t.modHalf x.1 x.2 AccHalf.zeroed)).modComp
    (fun c => { c with ops := c.ops.filter (fun x => x.id != o.id)
                       chains := c.chains.filter (fun n => !(o.tasks.any (fun t => t.chain = some n)))
                       staged := c.staged.filter (fun x => x.op != o.id) })).idleBoundary

/-- R489, R359: an operator ends with a fault after issue: a record carrying the code, no increment. -/
def State.endFaulted (s : State) (o : Op) (code extraFlags : Nat) : State :=
  let t := s.removeOp o
  if o.recipeFor.isSome then t
  else t.completeOn o.queue (t.completionRecord o.desc code (o.flags.toNat ||| extraFlags) o.discards o.recomputes)

/-! ## Repeatable operators (R355) -/

/-- R355: operators that add into or update memory in place. -/
def nonRepeatable (d : List Byte) : Bool :=
  ((dOpcode d = 0x10 || dOpcode d = 0x11) && epiAcc d) || (dOpcode d = 0x30 && isNormBwd d && normAffine d) ||
    dOpcode d = 0x35

def Op.repeatable (o : Op) : Bool := !(nonRepeatable o.desc)

/-- R96: the tensor that an operator accumulates into. -/
def accHandle (d : List Byte) : Option Nat :=
  if (dOpcode d = 0x10 || dOpcode d = 0x11) && epiAcc d then some (refHandle d 2)
  else if dOpcode d = 0x30 && isNormBwd d && normAffine d then some (refHandle d 5)
  else none

/-- R355: the tensors that an operator updates in place. -/
def State.updated (s : State) (d : List Byte) : List Nat :=
  if dOpcode d = 0x35 then s.outputHandles d else (accHandle d).toList

/-- R358: what an operator has updated in part holds indeterminate values until it is written whole. -/
def State.spoil (s : State) (o : Op) : State :=
  s.forAll (if o.recipeFor.isSome then [] else s.updated o.desc) (fun u h => match u.tensor? h with
    | some t => if t.readable then (u.penLoosen o.pen t.penAddr t.storedBytes).modTensor h (fun x =>
        { x with nearTable := x.nearTable.map (fun _ => none) }) else u
    | none => u)

/-- R358: an operator that has released some of its effects and not all. -/
def Op.partial' (o : Op) : Bool := !o.closed && o.tasks.any (fun t => t.phase = .done)

/-! ## The Drover's quiesce and abort handling (R251) -/

/-- The scratch tensors of a recipe return to NONE. -/
def State.freeScratch (s : State) (pen : Nat) (r : List (List Byte)) : State :=
  s.forAll (s.scratchHandles r) (fun u h => match u.tensor? h with
    | some t => u.freeCopies pen t
    | none => u)

/-- R231, R251: a recipe run ends without its tensor: its operator leaves, its scratch tensors return to NONE, and the tensor keeps
its prior residence; the room allocated for it is freed unless a near copy or a fetch uses it. -/
def State.abandonRun (s : State) (h : Nat) : State :=
  match s.tensor? h with
  | none => s
  | some t =>
    if t.run.isSome then
      let s1 := ((s.forAll (s.comp.ops.filter (fun o => o.recipeFor = some (BitVec.ofNat 32 h))) State.removeOp).freeScratch (h / 2 ^ 29)
        t.recipe).modTensor h (fun x => { x with run := none })
      if t.fetch.isSome then s1.endSwitched h else s1.freeIdleRoom (h / 2 ^ 29) h
    else s

/-- R251: the recipe runs of a pen are abandoned. -/
def State.abandonRecipes (s : State) (pen : Nat) : State :=
  s.forAll ((s.pen pen).tensors.map (fun t => t.handle.toNat)) State.abandonRun

/-- R251, R246: fetches in flight are cancelled and their near allocations freed. -/
def State.cancelFetches (s : State) (pen : Nat) : State :=
  s.forAll ((s.pen pen).tensors.filter (fun t => t.fetch.isSome)) (fun u t =>
    (u.modTensor t.handle.toNat (fun x => { x with fetch := none })).freeIdleRoom pen t.handle.toNat)

/-- R251: on a quiesce no new path is chosen and recipe runs end. -/
def State.droverQuiesce (s : State) (pen : Nat) : State :=
  (s.abandonRecipes pen).modPen pen (fun p => { p with drained := true
                                                       tensors := p.tensors.map (fun t => { t with waitUntil := none }) })

def State.droverAbort (s : State) (pen : Nat) : State := (s.droverQuiesce pen).cancelFetches pen

/-- R198, R211: a DLT encode of a pen is abandoned; its destination stays NONE. -/
def State.abandonEncodes (s : State) (pen : Nat) : State :=
  s.modPen pen (fun p => { p with tensors := p.tensors.map (fun t => { t with encodeFrom := none }) })

/-! ## Notices (R342) -/

/-- R342: the pen is a member of a job of more than one device. -/
def Pen.member (p : Pen) : Bool := match p.placement with
  | some x => x.lextent != 0
  | none => false

/-- Table 13.4: FAULT_NOTICE. -/
def noticeOp (key : B16) (cause : Nat) (suspect : B16) (gen : Word) : List Byte :=
  leBytes 2 key.toNat ++ [BitVec.ofNat 8 cause, 0] ++ leBytes 2 suspect.toNat ++ leBytes 2 0 ++ leBytes 4 gen.toNat

/-- R334: to the Bellwether and to the deputy. -/
def State.sendLeaders (s : State) (ptype : Nat) (op : List Byte) : State :=
  let t := s.sendMgmt ptype s.fab.bellwether op []
  if s.fab.deputy = s.fab.bellwether then t else t.sendMgmt ptype s.fab.deputy op []

/-- The last RECOVERY packet for a job. -/
def State.report (s : State) (key : B16) : Option RecoveryReport := (s.coord.reports.find? (fun x => x.1 = key)).map Prod.snd

/-- R322, R342: a job's current recovery generation as this device knows it. -/
def State.generation (s : State) (key : B16) : Word := (s.report key).elim 0 RecoveryReport.generation

def State.sendNotice (s : State) (n : Notice) : State := s.sendLeaders 0x27 (noticeOp n.key n.cause n.suspect n.generation)

/-- R342: a member sends FAULT_NOTICE and keeps it for resending (R334). -/
def State.faultNotice (s : State) (pen cause : Nat) (suspect : B16) : State :=
  match (s.pen pen).placement with
  | none => s
  | some x =>
    if x.lextent = 0 then s
    else
      let n : Notice := { key := x.jobKey, generation := s.generation x.jobKey, cause := cause, suspect := suspect }
      (s.modPen pen (fun p => if p.notices.contains n then p else { p with notices := p.notices ++ [n] })).sendNotice n

/-! ## Remote operations of a stopped pen (R321) -/

/-- R321: operations in flight end by response or timeout; their completions and increments are dropped.  Those not injected yet, and
those that have succeeded, end at once (Table 12.2 OUT). -/
def State.dropRops (s : State) (pen : Nat) : State :=
  let ends (r : RopOp) : Bool := r.pen = pen && (r.waiting || r.due.isSome)
  s.modQe (fun e => { e with
    rops := (e.rops.filter (fun r => !(ends r))).map (fun r => if r.pen = pen then { r with dropped := true } else r)
    queues := e.queues.map (fun q => { q with out := q.out - (e.rops.filter (fun r => ends r && r.queue = q.id)).length }) })

/-! ## Pen faults (R359) -/

/-- The states in which a pen can take a fault (Table 14.2). -/
def PenState.faultable (x : PenState) : Bool := x = .ready || x = .running || x = .quiescing || x = .quiesced

/-- R359: a pen fault; `code` is a code of Table 20.4 from 0x0080. -/
def State.penFault (s : State) (pen code info : Nat) : State :=
  if (s.pen pen).state.faultable then
    let s1 := (s.modPen pen (fun p => { p with state := .faulted })).logFault 15 code .uncontained pen (some pen) none info
    let s2 := if (s.pen pen).vf = 0 then s1 else s1.healthEvent (s.pen pen).vf 1
    let s3 := s2.forAll (s.comp.ops.filter (fun o => o.pen = pen)) (fun t o => (if o.partial' then t.spoil o else t).endFaulted o (code % 256) 0)
    let s4 := ((s3.droverAbort pen).abandonEncodes pen).dropRops pen
    (s4.endWaits pen stPenFaulted true).faultNotice pen (code % 256) s.ownCoord
  else s

/-! ## Abort (R358) -/

/-- R358, R368: JOB_ABORT and RECOVERY HALT; steps 1 to 5. -/
def State.abortPen (s : State) (pen : Nat) : State :=
  let s1 := s.forAll (s.comp.ops.filter (fun o => o.pen = pen)) (fun t o => (if o.partial' then t.spoil o else t).removeOp o)
  let s2 := (((s1.endWaits pen stRefused false).droverAbort pen).abandonEncodes pen).dropRops pen
  let s3 := s2.modPen pen (fun p => { p with
    state := .ready, counters := [], jobKey := 0, drained := false, joining := false })
  (s3.modPen pen (fun p => { p with tensors := p.tensors.map (fun t => { t with held := false }) })).freePenQueues pen

/-- Table 14.2: the states from which JOB_ABORT is accepted. -/
def PenState.abortable (x : PenState) : Bool := x = .running || x = .quiescing || x = .quiesced || x = .faulted

/-- R342, R394, R434: JOB_ABORT by the host; a job member also sends FAULT_NOTICE, of cause 0 (log entry 31). -/
def State.hostAbort (s : State) (pen : Nat) : State := (s.abortPen pen).faultNotice pen 0 s.ownCoord

/-! ## Operator faults (R489) -/

/-- R489: a fault of scope Operator: logged in bank 15, the operator ends, and its ring halts at the
next descriptor, the one HEAD names. -/
def State.opFault (s : State) (o : Op) (code extraFlags : Nat) (addr : Option Nat) (info : Nat) : State :=
  let s1 := (s.logFault 15 code .corrected o.pen (some o.pen) addr info).endFaulted o (code % 256) extraFlags
  if o.recipeFor.isSome then s1 else s1.modQueue o.queue (fun q => if q.halted then q else q.halt (code % 256))

/-! ## Transit-only mode (R296, R490) -/

/-- R439: stage 5 falls to 4; during a control-complex reset, the stage that it returns to. -/
def State.leaveFull (s : State) : State :=
  let t := if s.boot.resetting = some .controlComplex then s.modBoot (fun b => { b with ccStage := min b.ccStage 4 }) else s
  if t.boot.stage = 5 then t.setStage 4 else t

/-- R296, R490, Table 14.5: enter transit-only mode: the pens in RUNNING, QUIESCING or QUIESCED take TRANSIT_ONLY, and after a hub
fault those in READY too. -/
def State.enterTransitOnly (s : State) (ready : Bool) : State :=
  let s1 := (s.modFab (fun f => { f with transitOnly := true })).leaveFull
  s1.forAll (List.range 8) (fun t p => if (t.pen p).state = .ready && !ready then t else t.penFault p 0x87 0)

/-- R490: a hub fault: transit-only mode, and FAULT_NOTICE of cause 0xFF from the Sheepdog for each job member. -/
def State.hubFault (s : State) : State :=
  let members := (List.range 8).filter (fun p => (s.pen p).member && (s.pen p).state.faultable)
  ((s.modBoot (fun b => { b with hubFaulted := true })).enterTransitOnly true).forAll members (fun t p => t.faultNotice p 0xFF s.ownCoord)

end Sys2Proof.Machine
end

