-- ==== Sys2Proof/Machine/Plan.lean ====
section
/-! DEFINITION. Tiling (chapter 6): the tiling key and its cache (R145, R146), stored bounds of tiles (R156), legality
(R155), the choice of a plan (R158) and the task list of GEMM and CONV (R150, R151). -/

namespace Sys2Proof.Machine

/-! ## The tiling key (R145) -/

/-- R145: what the plan may depend on. -/
def tilingKey (d : List Byte) (ops : List (Option Operand)) : List Nat :=
  [dOpcode d, dVariant d, leField d 205 1, epiAct d] ++ (if dOpcode d = 0x11 then leField d 206 1 :: (d.drop 208).map BitVec.toNat else []) ++
    ops.flatMap (fun o => match o with
      | some x => x.ref :: x.t.fmt :: natOfBool x.t.mx :: x.t.comp :: x.ext
      | none => [99])

/-! ## Bounds (R156) -/

/-- R156, R203: the stored bound of a tile of n0 × n1 elements by `outer`. -/
def tileBound (t : Tensor) (n0 n1 outer : Nat) : Nat :=
  codedBound t (ceilDiv n0 64 * ceilDiv n1 16 * outer) (n0 * n1 * outer)

/-- Table 3.3: K_c. -/
def kPerCycle (a b : Tensor) : Nat :=
  let w := max (fmtWidth a.fmt) (fmtWidth b.fmt)
  if w ≤ 4 then 256 else if w ≤ 8 then 128 else 64

/-- R158: CONV rows as a box: the extent taken of each row dimension for a lattice value. -/
def boxOf : List Nat → Nat → List Nat
  | [], _ => []
  | n :: r, lim => if n ≤ lim then n :: boxOf r (lim / n) else lim :: r.map (fun _ => 1)

/-- R158: the first dimension that a box does not cover whole, with its extent and the box's: the dimension that is split. -/
def splitOf (dims : List Nat) (lim : Nat) : Option (Nat × Nat × Nat) :=
  (dims.zip (boxOf dims lim)).zipIdx.findSome? (fun x => if x.1.2 < x.1.1 then some (x.2, x.1.1, x.1.2) else none)

/-- A tile's operands as the plan sees them. -/
structure PlanShape where
  d : List Byte
  o0 : Operand
  o1 : Operand
  o2 : Operand
  res : Option Operand
  aux : Option Operand
  bias : Option Operand

def PlanShape.conv (p : PlanShape) : Bool := dOpcode p.d = 0x11

def PlanShape.phase (p : PlanShape) (b : Nat) : Geometry := matGeometry p.d p.o0.ext p.o1.ext p.o2.ext b

/-- The geometry that a plan is made for: the phases of a DGRAD differ, and the plan takes the most rows, which phase 0 has, and
the longest K of any phase (DEDUCED, log entry 140). -/
def PlanShape.geometry (p : PlanShape) : Geometry :=
  let g := p.phase 0
  if p.conv && convPass p.d = 1 then
    { g with k := (List.range g.batches).foldl (fun m b => max m (p.phase b).k) 0 }
  else g

/-- The row dimensions for a role: a CONV's rows are boxes, a GEMM's are one dimension. -/
def PlanShape.rowDims (p : PlanShape) (ref1 : Bool) : List Nat := if ref1 then p.geometry.rowDims else [p.geometry.cols]

/-- Rows, columns and K for a role. -/
def PlanShape.extents (p : PlanShape) (ref1 : Bool) : Nat × Nat × Nat :=
  let g := p.geometry
  if ref1 then (prodOf g.rowDims, g.cols, g.k) else (g.cols, prodOf g.rowDims, g.k)

/-- R158: R_t of a lattice value: for CONV the volume of the box. -/
def PlanShape.rowsOf (p : PlanShape) (ref1 : Bool) (lim : Nat) : Nat :=
  if p.conv then prodOf (boxOf (p.rowDims ref1) lim) else lim

/-- R156: the stored bound of the stationary tile. -/
def PlanShape.statBound (p : PlanShape) (ref1 : Bool) (kt ct : Nat) : Nat :=
  if ref1 then tileBound p.o1.t ct kt 1 else tileBound p.o0.t kt ct 1

/-- R147: the taps of spatial dimension `a` in the DGRAD phase of residue `r`: how many, and how far the last lies from the
first in positions of dY. -/
def phaseReach (d : List Byte) (a r : Nat) : Nat × Nat :=
  let ts := phaseTaps d a r
  (ts.length, (ts.getLastD 0 - ts.headD 0) * convDilation d a / convStride d a)

/-- R102, R160: the input positions under `h` output positions and `n` taps of dimension `a`; in DGRAD, under `h` positions of the
phase `ph`. -/
def inputSpan (d : List Byte) (ph a h n : Nat) : Nat :=
  match convPass d with
  | 1 => h + (phaseReach d a (phaseResidue d ph a)).2
  | _ => (h - 1) * convStride d a + convDilation d a * (n - 1) + 1

/-- The extents of the smallest box over dimensions `dims`, innermost first, that holds the run of entries from `lo` to `hi` − 1. -/
def runBox : List Nat → Nat → Nat → List Nat
  | [], _, _ => []
  | n :: r, lo, hi =>
    if lo / n = (hi - 1) / n then (hi - lo) :: r.map (fun _ => 1) else n :: runBox r (lo / n) ((hi - 1) / n + 1)

/-- Runs of `size` over `n`. -/
def runsOf (n size : Nat) : List (Nat × Nat) :=
  (List.range (ceilDiv n size)).map (fun i => (i * size, min n ((i + 1) * size)))

/-- R188: the whole granules of `size` elements that a run of `n` elements may touch, of the `total` elements of the dimension,
wherever the run begins. -/
def granuleSpan (size n total : Nat) : Nat := min (ceilDiv (n - 1) size + 1) (ceilDiv total size) * size

/-- R155, R188: the stored bound of an input region of a CONV: of a compressed input the whole granules that hold it. -/
def regionBound (o : Operand) (w h outer : Nat) : Nat :=
  if o.t.comp = 0 then tileBound o.t w h outer
  else tileBound o.t (granuleSpan 64 w (extAt o.ext 0)) (granuleSpan 16 h (extAt o.ext 1)) outer

/-- R155, R156: the stored bound of the input region of a CONV's tile in one phase and one K segment, the halo included in either
halo mode: a WGRAD tile has a box of taps and channels as its rows and a run of output positions as its K, the other passes a box of
output positions and a run of taps and channels. -/
def PlanShape.convRegion (p : PlanShape) (ph rt : Nat) (seg : Nat × Nat) : Nat :=
  let d := p.d
  let wgrad := convPass d = 2
  let taps := if convPass d = 1 then prodOf ((List.range 3).map (fun a => (phaseReach d a (phaseResidue d ph a)).1))
    else convKernel d 0 * convKernel d 1 * convKernel d 2
  let rows := boxOf p.geometry.rowDims rt
  let box := if wgrad then runBox (p.o1.ext.take 3 ++ [extAt p.o1.ext 4]) seg.1 seg.2 else rows
  let ch := if wgrad then rows.getD 3 1 else (seg.2 - 1) / taps + 1 - seg.1 / taps
  let span (a : Nat) : Nat := min (extAt p.o0.ext a) (inputSpan d ph a (box.getD a 1) (if wgrad then rows.getD a 1 else convKernel d a))
  regionBound p.o0 (span 0) (span 1) (span 2 * ch * box.getD 3 1)

/-- R155, R156: the stored bound of the streamed tile. -/
def PlanShape.streamBound (p : PlanShape) (ref1 : Bool) (rt kt : Nat) : Nat :=
  if !p.conv then (if ref1 then tileBound p.o0.t kt rt 1 else tileBound p.o1.t rt kt 1)
  else ((List.range (if convPass p.d = 1 then phases p.d else 1)).flatMap (fun ph =>
    (runsOf (p.phase (ph * convGroups p.d)).k kt).map (p.convRegion ph rt))).foldl max 0

/-- R155: the staging of a last segment. -/
def PlanShape.staging (p : PlanShape) (rt ct : Nat) : Nat :=
  let one (o : Option Operand) (n : Nat) : Nat := match o with
    | some x => plainBound x.t.fmt x.t.mx n
    | none => 0
  one (some p.o2) (rt * ct) + one p.aux (rt * ct) + one p.res (rt * ct) + one p.bias ct

/-- Table 6.2 for a lattice value `lim` of the rows, which is a multiple of 16 (the box of a CONV need not be, log entry 23);
the second flag leaves out the stationary inequality. -/
def PlanShape.legal (p : PlanShape) (ref1 : Bool) (lim ct kt nseg : Nat) (stat : Bool) : Bool :=
  let rt := p.rowsOf ref1 lim
  rt * ct ≤ 131072 && (!stat || p.statBound ref1 kt ct ≤ 786432) && p.streamBound ref1 lim kt ≤ 786432 &&
    p.staging rt ct ≤ 524288 && (nseg = 1 || rt * ct * 4 ≤ 524288)

/-! ## The choice (R158) -/

def colLattice (cols : Nat) : List Nat := if cols < 128 then [cols] else [128, 256, 512, 1024]

def rowLattice (rows : Nat) : List Nat :=
  (List.range 8).map (fun i => 16 * 2 ^ i) |>.filter (fun v => v ≤ roundUp rows 16)

/-- R158: the cost of one tile over its segments. -/
def PlanShape.tileCost (p : PlanShape) (ref1 : Bool) (lim ct kt kc nseg : Nat) : Nat :=
  let rt := p.rowsOf ref1 lim
  ((List.range nseg).map (fun seg =>
    let compute := kt / kc * ceilDiv ct 128 * max rt 32
    let fill := p.statBound ref1 kt ct + p.streamBound ref1 lim kt + (if seg = 0 then 0 else rt * ct * 4)
    let out := if seg + 1 < nseg then rt * ct * 4 else p.staging rt ct
    max compute (max (ceilDiv (fill * 3) 320) (ceilDiv out 128)))).sum

/-- A candidate: rank, role and numbers; `rt` is the lattice value of its rows. -/
structure Candidate where
  rank : List Int
  ref1 : Bool
  rt : Nat
  ct : Nat
  kt : Nat
  nseg : Nat
deriving DecidableEq, Repr

/-- Ranks are compared element by element. -/
def lexLt : List Int → List Int → Bool
  | a :: r, b :: t => a < b || (a == b && lexLt r t)
  | _, _ => false

def bestOf (cs : List Candidate) : Option Candidate :=
  cs.foldl (fun best c => match best with
    | none => some c
    | some b => if lexLt c.rank b.rank then some c else best) none

/-- R158: a candidate with its rank. -/
def PlanShape.candidate (p : PlanShape) (ref1 : Bool) (lim ct kt : Nat) : Candidate :=
  let x := p.extents ref1
  let rt := p.rowsOf ref1 lim
  let nseg := max 1 (ceilDiv x.2.2 kt)
  let tiles := ceilDiv x.1 rt * ceilDiv x.2.1 ct * p.geometry.batches
  { rank := [((tiles * p.tileCost ref1 lim ct kt (kPerCycle p.o0.t p.o1.t) nseg : Nat) : Int), if ref1 then 0 else 1, (nseg : Int),
      -(ct : Int), -(rt : Int)]
    ref1 := ref1, rt := lim, ct := ct, kt := kt, nseg := nseg }

/-- R158: every candidate of the procedure's loops, legal or not. -/
def PlanShape.candidates (p : PlanShape) : List Candidate :=
  let kc := kPerCycle p.o0.t p.o1.t
  let roles := if p.o1.t.comp = 2 || p.conv then [true] else [true, false]
  roles.flatMap (fun ref1 =>
    let x := p.extents ref1
    let kts := ((List.range 32).map (fun i => max kc (roundUp (ceilDiv x.2.2 (i + 1)) kc))).eraseDups
    kts.flatMap (fun kt => (colLattice x.2.1).flatMap (fun ct => (rowLattice x.1).map (fun lim => p.candidate ref1 lim ct kt))))

/-- Table 6.2 of a candidate. -/
def PlanShape.fits (p : PlanShape) (stat : Bool) (c : Candidate) : Bool := p.legal c.ref1 c.rt c.ct c.kt c.nseg stat

/-- R157: the smallest GEMM tile, which meets every inequality. -/
def PlanShape.smallest (p : PlanShape) : Candidate :=
  p.candidate true 16 (min 128 (p.extents true).2.1) (kPerCycle p.o0.t p.o1.t)

/-- R157, R158: the best legal candidate.  DESIGN CHOICE: a GEMM whose K is too long for 32 legal segments takes the smallest
tile, which R157 calls always legal, with as many segments as K needs (log entry 139). -/
def PlanShape.choose (p : PlanShape) : Option Candidate :=
  match bestOf (p.candidates.filter (p.fits true)) with
  | some c => some c
  | none => if p.conv then none else some p.smallest

/-- R157: the issue-time error when no candidate is legal.  DEDUCED: where every candidate fails the DLT sum and one fails another
inequality too, it is TILE_ILLEGAL, R157's "otherwise" (log entry 173). -/
def PlanShape.illegalCode (p : PlanShape) : Nat :=
  if p.o1.t.comp = 2 && p.candidates.all (p.fits false) then 0x26 else 0x2A

/-- R160: the halo mode of a plan: HALO_EXCHANGE where a spatial dimension is split and HALO says so or AUTO finds it cheaper. -/
def PlanShape.exchange (p : PlanShape) (c : Candidate) : Bool :=
  p.conv && convPass p.d != 2 && (match splitOf p.geometry.rowDims c.rt with
    | some (a, _, h) =>
      let reach := convDilation p.d a * (convKernel p.d a - 1) + 1
      a < 3 && (leField p.d 206 1 = 2 || (leField p.d 206 1 = 0 && p.o0.t.comp != 1 && convStride p.d a < reach &&
        h * convStride p.d a ≤ 8 * (reach - convStride p.d a)))
    | none => false)

def State.planShape (s : State) (d : List Byte) : Option PlanShape :=
  match s.operand d 0, s.operand d 1, s.operand d 2 with
  | some a, some b, some c =>
    some { d := d, o0 := a, o1 := b, o2 := c, bias := if epiBias d then s.operand d 3 else none
           res := if epiResidual d then s.operand d 4 else none, aux := if epiAux d then s.operand d 5 else none }
  | _, _, _ => none

/-! ## The plan cache (R146) -/

def PlanShape.plan (p : PlanShape) (key : List Nat) (c : Candidate) : Plan :=
  { key := key, ref1Stationary := c.ref1, rt := c.rt, ct := c.ct, kt := c.kt, nseg := c.nseg, exchange := p.exchange c }

/-- R146: a miss computes a plan and keeps it, at most 2,048.  DESIGN CHOICE: a hit moves the plan to the front and a full
cache drops the plan used least recently (log entry 137). -/
def State.planFor (s : State) (d : List Byte) : Option (Plan × State) :=
  match s.planShape d with
  | none => none
  | some p =>
    let key := tilingKey d ((List.range 6).map (s.operand d))
    match s.comp.plans.find? (fun x => x.key = key) with
    | some x => some (x, (s.modComp (fun c => { c with plans := x :: c.plans.erase x })).count 32 1)
    | none =>
      match p.choose with
      | none => none
      | some c =>
        let x := p.plan key c
        some (x, (s.modComp (fun k => { k with plans := (x :: k.plans).take 2048 })).count 33 1)

/-! ## The task list (R150, R151) -/

def newTask (t : Tile) : Task :=
  { tile := t, phase := .waiting, confirmedOnly := false, chain := none, fold := none, gang := none, redo := none, group := 0, undo := [] }

/-- R158: row tiles of a batch: for CONV, boxes that are runs of the row index; and with each the place of its gang (R161): the
run of eight tiles adjacent in the split dimension. -/
def rowTiles (dims : List Nat) (rt : Nat) : List (Nat × Nat × List Nat) :=
  match splitOf dims rt with
  | none => [(0, prodOf dims, [0, 0])]
  | some (a, n, h) =>
    let below := prodOf (dims.take a)
    (List.range (prodOf (dims.drop (a + 1)))).flatMap (fun o =>
      (runsOf n h).zipIdx.map (fun r => (below * (r.1.1 + n * o), below * (r.1.2 + n * o), [o, r.2 / 8])))

/-- R150: batch, column tile, row group of 64 row tiles, K segment, row tile; R161: under HALO_EXCHANGE the row tiles of a
group that are adjacent in the split dimension start as a gang. -/
def matrixTasks (d : List Byte) (e0 e1 e2 : List Nat) (p : Plan) : List Task :=
  (List.range (matGeometry d e0 e1 e2 0).batches).flatMap (fun b =>
    let g := matGeometry d e0 e1 e2 b
    let rows := if p.ref1Stationary then rowTiles g.rowDims p.rt else rowTiles [g.cols] p.rt
    let cols := if p.ref1Stationary then g.cols else prodOf g.rowDims
    let nseg := max 1 (ceilDiv g.k p.kt)
    (runsOf cols p.ct).flatMap (fun c =>
      (runsOf rows.length 64).flatMap (fun grp =>
        (List.range nseg).flatMap (fun seg =>
          ((rows.drop grp.1).take (grp.2 - grp.1)).map (fun r =>
            { newTask (Tile.matrix b r.1 r.2.1 c.1 c.2 (seg * p.kt) ((seg + 1) * p.kt) seg (seg + 1 == nseg)) with
              group := grp.1 / 64
              gang := if p.exchange then some ([b, c.1, grp.1, seg] ++ r.2.2) else none })))))

/-- R152, R153: the device address of plane `i` of a chain slot. -/
def planeAddr (slot i : Nat) : Nat := 0x04000000 + slot * 1048576 + i * 524288

/-! ## Dividing work across devices (R163, Table 6.3) -/

/-- R163: the first layer and the number of layers of stage `p` of `n`. -/
def layerRange (layers n p : Nat) : Nat × Nat :=
  (p * (layers / n) + min p (layers % n), layers / n + (if p < layers % n then 1 else 0))

/-- R163: the head slots of each of `n` tensor devices, and the device and slot of a head. -/
def headSlots (heads n : Nat) : Nat := ceilDiv heads n
def headPlace (n h : Nat) : Nat × Nat := (h % n, h / n)

/-- R163, R168: the padding heads of tensor device `t`: its slots without a head. -/
def paddingHeads (heads n t : Nat) : Nat := headSlots heads n - ((List.range heads).filter (fun h => (headPlace n h).1 = t)).length

/-- R163: the group member that holds an expert, and its local number there. -/
def expertPlace (n e : Nat) : Nat × Nat := (e % n, e / n)

/-- R163, R164: the positions of chunk `i` of `n` sequence devices: its start and its true length, 0 for an empty chunk. -/
def sequenceChunk (positions n i : Nat) : Nat × Nat :=
  let c := roundUp (ceilDiv positions n) 16
  (i * c, min ((i + 1) * c) positions - i * c)

end Sys2Proof.Machine
end

