-- ==== Sys2Proof/Machine/Buffers.lean ====
section
/-! DEFINITION. What a task holds of its operands (R58, R61, Table 3.4): the stored bytes of the resident and the streamed tile,
the commons in which a block's stationary tile is staged (R150, R213), and the values that a race makes indeterminate (R6, R87). -/

namespace Sys2Proof.Machine

/-! ## The commons (R13, R213, Table 9.2) -/

/-- R13: sixteen banks of 8 MiB. -/
def commonsBankBytes : Nat := 8388608

/-- Table 9.2: banks 0-11 stage stationary tiles, banks 12-14 are the Drover's transfer staging, bank 15 is the Shepherd
firmware's own (its contents are the firmware's and not modelled, log entry 135). -/
def stagingBytes : Nat := 12 * commonsBankBytes
def transferBytes : Nat := 3 * commonsBankBytes

/-! ## Where the stored form of an element lies -/

/-- R31, R86: the bytes of an element of a tensor that is not compressed, with its block scale and tensor scale: offset and
length in the near form. -/
def Tensor.plainSpans (t : Tensor) (lin : Nat) : List (Nat × Nat) :=
  let bit := t.storageIndex lin * t.width
  (bit / 8, ceilDiv (bit % 8 + t.width) 8) ::
    (if t.block = 0 then [] else [(t.scaleAt (t.storageIndex lin / t.block), 1)]) ++ (if t.fmt = 9 then [(t.scaleBase, 4)] else [])

/-- R189, R191, R199: the bytes of a container that hold granule `g`: the header, the index up to its entry, and its payload. -/
def CompShape.granuleSpans (k : CompShape) (rd : Nat → Byte) (g : Nat) : List (Nat × Nat) :=
  if k.frl then [(0, 64), (4096 + g * k.frlBytes, k.frlBytes)]
  else
    let e := readLe rd (64 + 8 * g) 8
    [(0, 64 + 8 * (g + 1)), (k.payloadOffset + 32 * bitsOf e 39 0, 32 * min k.umax (bitsOf e 51 44))]

/-- Where the stored bytes of the elements `lins` lie in a tensor's near form. -/
def Tensor.spans (t : Tensor) (rd : Nat → Byte) (lins : List Nat) : List (Nat × Nat) :=
  if t.comp = 0 then (lins.flatMap t.plainSpans).eraseDups
  else
    let k := t.compShape
    (((lins.map (fun i => (k.place (t.coords i)).1)).eraseDups).flatMap (k.granuleSpans rd)).eraseDups

/-- R61: the elements of the base that a DLT granule's deltas are added to. -/
def Tensor.baseLins (t : Tensor) (lins : List Nat) : List Nat :=
  let k := t.compShape
  ((lins.map (fun i => (k.place (t.coords i)).1)).eraseDups).flatMap (fun g => (List.range 1024).filterMap (k.elementOf g))

/-! ## Loading a tile -/

/-- A byte kept by its device address, addresses strictly falling. -/
def keepByte : List Host.Cell → Nat → Byte → List Host.Cell
  | [], a, b => [(a, b)]
  | (k, v) :: r, a, b => if k < a then (a, b) :: (k, v) :: r else if k = a then (k, v) :: r else (k, v) :: keepByte r a b

/-- The bytes that near pasture holds at a list of device addresses, by rising address. -/
def State.fill (s : State) (addrs : List Nat) : List Host.Cell :=
  (addrs.foldl (fun m a => keepByte m a (s.npByte a)) []).reverse

/-- The device addresses of a tensor's stored bytes of the elements `lins`. -/
def State.operandAddrs (s : State) (pen : Nat) (t : Tensor) (lins : List Nat) : List Nat :=
  (t.spans (s.nearForm pen t) lins).flatMap (fun x => (List.range x.2).filterMap (fun i => s.penTranslate pen (t.penAddr + x.1 + i)))

/-- R61: the device addresses of the base tile of a DLT operand. -/
def State.baseAddrs (s : State) (t : Tensor) (lins : List Nat) : List Nat :=
  match s.base? t.base.toNat with
  | some b => if t.comp = 2 then
      (b.spans (s.baseForm b) (t.baseLins lins)).flatMap (fun x => (List.range x.2).map (fun i => b.penAddr + x.1 + i)) else []
  | none => []

/-- R19, R58: an operand tile as it lies in a buffer: in its stored form, a DLT operand's base tile beside it. -/
def State.loadTile (s : State) (o : Operand) (lins : List Nat) : Loaded :=
  { own := s.fill (s.operandAddrs (o.t.handle.toNat / 2 ^ 29) o.t lins), base := s.fill (s.baseAddrs o.t lins) }

def Loaded.size (l : Loaded) : Nat := l.own.length + l.base.length

/-! ## The tiles of a matrix task (R147, R150) -/

/-- Rows and columns of the product that a tile spans, in B-stationary orientation. -/
def spanOf (ref1 : Bool) (rowLo rowHi colLo colHi : Nat) : (Nat × Nat) × (Nat × Nat) :=
  if ref1 then ((rowLo, rowHi), (colLo, colHi)) else ((colLo, colHi), (rowLo, rowHi))

/-- The indices from `lo` to `hi` − 1. -/
def indices (lo hi : Nat) : List Nat := (List.range (hi - lo)).map (lo + ·)

/-- The elements of Ref 0 and of Ref 1 that a matrix task reads. -/
def matrixLins (d : List Byte) (o0 o1 o2 : Operand) (ref1 : Bool) : Tile → List Nat × List Nat
  | .matrix b rowLo rowHi colLo colHi kLo kHi _ _ =>
    let sp := spanOf ref1 rowLo rowHi colLo colHi
    let ks := indices kLo (min kHi (matGeometry d o0.ext o1.ext o2.ext b).k)
    ((indices sp.1.1 sp.1.2).flatMap (fun r => ks.filterMap (fun k => (matCoord0 d o0.ext o1.ext o2.ext b r k).map o0.linOf)),
      ks.flatMap (fun k => (indices sp.2.1 sp.2.2).map (fun c => o1.linOf (matCoord1 d o0.ext o1.ext o2.ext b c k))))
  | .range _ _ | .attn _ _ _ _ _ => ([], [])

/-- R58, Table 3.4: the resident and the streamed tile of a matrix task; every other task keeps its operands in vector scratch
only while it works (log entry 136). -/
def State.taskTiles (s : State) (o : Op) (t : Task) : Option (Loaded × Loaded) :=
  match s.operand o.desc 0, s.operand o.desc 1, s.operand o.desc 2, t.tile with
  | some o0, some o1, some o2, .matrix _ _ _ _ _ _ _ _ _ =>
    let l := matrixLins o.desc o0 o1 o2 o.ref1Stationary t.tile
    let a := s.loadTile o0 l.1
    let b := s.loadTile o1 l.2
    some (if o.ref1Stationary then (b, a) else (a, b))
  | _, _, _, _ => none

/-- R210: the granules of a compressed operand that a task reads: of a matrix task those of its tiles, of any other task those of the
whole operand (log entry 141). -/
def State.granulesRead (s : State) (o : Op) (t : Task) (x : Operand) : List Nat :=
  let k := x.t.compShape
  let every := List.range k.ngran
  let under (lins : List Nat) : List Nat := every.filter (fun g => lins.any (fun i => (k.place (x.t.coords i)).1 = g))
  match s.operand o.desc 0, s.operand o.desc 1, s.operand o.desc 2, t.tile with
  | some o0, some o1, some o2, .matrix _ _ _ _ _ _ _ _ _ =>
    let l := matrixLins o.desc o0 o1 o2 o.ref1Stationary t.tile
    if x.ref = 0 then under l.1 else if x.ref = 1 then under l.2 else every
  | _, _, _, _ => every

/-- R150: the block of a task: batch, column tile, row group and segment. -/
def Task.block (t : Task) : List Nat :=
  match t.tile with
  | .matrix b _ _ colLo _ _ _ seg _ => [b, colLo, t.group, seg]
  | .range _ _ | .attn _ _ _ _ _ => []

/-- R150: no task of a block is left. -/
def State.blockDone (s : State) (id : Nat) (block : List Nat) : Bool :=
  match s.op? id with
  | some o => o.tasks.all (fun t => t.block != block || t.phase = .done)
  | none => true

/-- R150, R213: a stationary tile is staged in the commons while there is room in banks 0-11. -/
def Compute.stage (c : Compute) (x : StagedTile) : Compute :=
  if (c.staged.map (fun y => y.tile.size)).sum + x.tile.size ≤ stagingBytes then { c with staged := c.staged ++ [x] } else c

def Compute.stagedTile (c : Compute) (op : Nat) (block : List Nat) : Option Loaded :=
  (c.staged.find? (fun x => x.op = op && x.block == block)).map StagedTile.tile

/-! ## Indeterminate values (R6, R87, R185) -/

/-- R87: the bytes of the tensors of a race, each a free value (log entry 3). -/
def State.racyBytes (s : State) (o : Op) : List Host.Cell :=
  ((o.racy.filterMap s.tensor?).flatMap (fun t => (List.range t.storedBytes).filterMap (fun i => s.penTranslate o.pen (t.penAddr + i)))).zipIdx.map
    (fun x => (x.1, BitVec.ofNat 8 (Config.freeBits (s.free + x.2)).toNat))

/-- R258: near pasture with every open entry and waiting write in its place, in the order in which a reader sees them. -/
def NearMem.settled (n : NearMem) : NearMem :=
  let m := n.waiting.foldl (fun m r => match r.kind with
    | .write a bs => m.put a bs
    | .merge l bs => bs.foldl (fun m x => m.put (l + x.1) [x.2]) m
    | .read _ _ | .fetch _ _ | .acc _ _ _ _ => m) n
  { n.wc.foldl (fun m e => e.bytes.foldl (fun m x => m.put (e.line + x.1) [x.2]) m) m with wc := [], waiting := [] }

/-- A byte in place of memory's own. -/
def NearMem.show (n : NearMem) (x : Host.Cell) : NearMem :=
  if !(n.loose.any (fun y => y.lo ≤ x.1 && x.1 < y.hi)) && cellGet 0 n.mem x.1 = x.2 then n else n.put x.1 [x.2]

/-- Near pasture as it would read with some bytes in place of its own. -/
def State.overlay (s : State) (l : List Host.Cell) : State :=
  if l = [] then s else s.modNp (fun n => l.foldl NearMem.show n.settled)

def Loaded.cells : Option Loaded → List Host.Cell
  | some x => x.own ++ x.base
  | none => []

/-- The task of an operator that a half holds. -/
def AccHalf.task (half : AccHalf) (o : Op) : Option Task := half.busy.bind (fun x => o.tasks[x.2]?)

/-- R18, R75: the bytes that an earlier run of a half's task has stored over, by device address. -/
def State.undone (s : State) (o : Op) (half : AccHalf) : List Host.Cell :=
  match half.task o with
  | some t => t.undo.filterMap (fun x => (s.penTranslate o.pen x.1).map (fun a => (a, x.2)))
  | none => []

/-- R58, R75, R87: near pasture as the task of a half sees it: its loaded tiles as they were loaded, a race's bytes free, and what an
earlier run had stored as it stood before. -/
def State.taskView (s : State) (o : Op) (half : AccHalf) : State :=
  ((s.overlay (s.racyBytes o)).overlay (s.undone o half)).overlay (Loaded.cells half.stationary ++ Loaded.cells half.stream)

/-- The free values that a read of a race's tensors has drawn. -/
def State.spendRace (s : State) (o : Op) : State := s.spend (s.racyBytes o).length

/-- R102, R161: what the stream halves of the gang of a task hold: the shares of its neighbours, from which its halo is copied. -/
def State.gangStream (s : State) (o : Op) (t : Task) : List Host.Cell :=
  if t.gang.isNone then []
  else allHalves.flatMap (fun x =>
    let half := s.half x.1 x.2
    if half.busy.any (fun y => y.1 = o.id) && (half.task o).any (fun y => y.gang == t.gang) then Loaded.cells half.stream else [])

/-- R102: a tile whose bytes come from neighbouring buffers where those hold them. -/
def Loaded.fromNeighbours (l : Loaded) (held : List Host.Cell) : Loaded :=
  let take (c : Host.Cell) : Host.Cell := (held.find? (fun x => x.1 = c.1)).getD c
  { own := l.own.map take, base := l.base.map take }

/-- R61, R150: the tensor of a task's stationary tile, with its base. -/
def State.stationaryHandles (s : State) (o : Op) : List Nat :=
  match s.operand o.desc (if o.ref1Stationary then 1 else 0) with
  | some x => if x.t.comp = 2 then [x.t.handle.toNat, x.t.base.toNat] else [x.t.handle.toNat]
  | none => []

/-- R58, R102, R150: the task of a half loads its tiles: the stationary one from the commons when it is staged there; of the streamed
one, under HALO_EXCHANGE, its halo from its neighbours (log entry 96). -/
def State.loadTask (s : State) (phys : Nat) (h : Bool) (o : Op) (t : Task) : State :=
  if (s.half phys h).stationary.isSome then s
  else match (s.overlay (s.racyBytes o)).taskTiles o t with
    | none => s
    | some (a, b) =>
      let stream := b.fromNeighbours (s.gangStream o t)
      match s.comp.stagedTile o.id t.block with
      | some x => (s.spendRace o).modHalf phys h (fun y => { y with stationary := some x, stream := some stream })
      | none => ((s.spendRace o).modComp (fun c => c.stage { op := o.id, block := t.block, handles := s.stationaryHandles o, tile := a
                                                             })).modHalf phys h (fun y => { y with stationary := some a, stream := some stream })

end Sys2Proof.Machine
end

