-- ==== Sys2Proof/Machine/Issue.lean ====
section
/-! DEFINITION. Issue-time checks (R107): the reserved fields, and every condition of Tables 4.17, 5.12 and 7.10. -/

namespace Sys2Proof.Machine

/-! ## Reserved fields -/

def zeros (d : List Byte) (lo hi : Nat) : Bool := ((d.drop lo).take (hi - lo)).all (· == 0)

def byteOf (d : List Byte) (off : Nat) : Nat := leField d off 1

/-- The reserved parameter bytes and encodings of each operator: bytes that an operator's table does not list are reserved (log entry
181), and SAVE_LSE in ATTN_BWD (log entry 177). -/
def paramsReservedOk (d : List Byte) : Bool :=
  match dOpcode d with
  | 0x10 => zeros d 206 256 && byteOf d 205 < 32
  | 0x11 => zeros d 207 208 && zeros d 210 212 && zeros d 227 256 && byteOf d 206 ≤ 2 && byteOf d 205 < 32
  | 0x12 => zeros d 190 192 && zeros d 196 256 && byteOf d 188 ≤ 1 && byteOf d 189 ≤ 1
  | 0x20 => zeros d 205 208 && zeros d 232 256 && byteOf d 192 < 16 && byteOf d 193 < 8
  | 0x21 => zeros d 205 208 && zeros d 232 256 && byteOf d 192 < 16 && byteOf d 193 < 8 && !(atnSaveLse d)
  | 0x30 => zeros d 197 256 && byteOf d 196 < 4
  | 0x31 => zeros d 189 192 && zeros d 196 256
  | 0x32 => zeros d 204 256
  | 0x33 => zeros d 189 256 && byteOf d 188 < 64
  | 0x34 => zeros d 196 256
  | 0x35 => zeros d 221 256 && byteOf d 220 < 4
  | 0x36 => zeros d 191 192 && zeros d 200 256 && byteOf d 188 ≤ 2 && byteOf d 190 < 2
  | 0x37 => zeros d 192 256
  | 0x40 | 0x41 => zeros d 176 256
  | 0x42 => zeros d 176 188 && zeros d 189 190 && zeros d 192 256 && byteOf d 188 ≤ 2
  | 0x43 => zeros d 176 188 && leField d 188 4 < 2 ^ 20 && zeros d 196 256
  | _ => true

/-- Tables 4.4 and 4.5. -/
def refReservedOk (d : List Byte) (n : Nat) : Bool :=
  let b := refOff n
  zeros d (b + 15) (b + 24) && refFlags d n < 4 &&
    (!(refTranspose d n) || (dOpcode d = 0x10 && n ≤ 1)) && (refPresent d n || zeros d b (b + 24))

/-- R114: operators whose SR bit must be clear. -/
def noSr (d : List Byte) : Bool := dOpcode d = 0x40 || dOpcode d = 0x41 || dOpcode d = 0x42 || dOpcode d = 0x43

/-- 0x03 RESERVED_NONZERO does not apply. -/
def reservedOk (d : List Byte) : Bool :=
  zeros d 28 32 && dFlags d < 4 && dPen d < 8 && (List.range 6).all (refReservedOk d) && paramsReservedOk d &&
    !(noSr d && dSr d)

/-! ## Opcodes and variants -/

def opcodeOk (op : Nat) : Bool :=
  (0x10 ≤ op && op ≤ 0x12) || op = 0x20 || op = 0x21 || (0x30 ≤ op && op ≤ 0x37) || (0x40 ≤ op && op ≤ 0x43)

/-- Tables 4.11, 5.3, 5.5 and R88 to R139. -/
def variantOk (d : List Byte) : Bool :=
  let v := dVariant d
  match dOpcode d with
  | 0x10 | 0x20 | 0x35 | 0x41 => v ≤ 1
  | 0x11 => v % 4 != 0 && v / 4 % 4 != 3 && v < 16
  | 0x30 => v % 4 != 3 && v / 4 % 4 ≤ 1 && v < 16
  | 0x31 => v < 4
  | 0x32 => v ≤ 8 || (0x10 ≤ v && v ≤ 0x25)
  | 0x33 => v ≤ 5
  | 0x34 | 0x36 => v ≤ 2
  | _ => v = 0

/-! ## References (R84, R86, R87) -/

def counterOk (n : Nat) : Bool := n < 65536 || n = noCounter

/-- R86: a live tensor under the handle. -/
def State.live? (s : State) (h : Nat) : Bool := match s.tensor? h with
  | some t => !t.released
  | none => false

/-- 0x08 BAD_VIEW of a reference. -/
def State.badView (s : State) (d : List Byte) (n : Nat) : Bool :=
  match s.tensor? (refHandle d n) with
  | none => false
  | some t => match s.operand d n with
    | none => true
    | some o => t.elements ≤ o.reach

/-- 0x09 REF_RANGE. -/
def Operand.outside (o : Operand) : Bool := o.t.elements ≤ o.off + o.reach

/-- R86: a non-zero compression field with an offset, a view or TRANSPOSE. -/
def badCompressed (d : List Byte) (o : Operand) : Bool :=
  o.ref < 6 && o.t.comp != 0 && (refElem d o.ref != 0 || refView d o.ref != 0 || refTranspose d o.ref)

/-- R86: the origin and the rows of a block-scaled reference are aligned. -/
def Operand.blockAligned (o : Operand) : Bool :=
  let e0 := extAt o.t.extents 0
  o.off % e0 % o.t.block = 0 && (List.range 5).all (fun k => o.str.getD (k + 1) 0 % e0 = 0)

/-- R86: a view covers whole blocks. -/
def Operand.wholeBlocks (o : Operand) : Bool :=
  let e0 := extAt o.t.extents 0
  extAt o.ext 0 % o.t.block = 0 || o.off % e0 + extAt o.ext 0 = e0

/-- 0x0E BLOCK_ALIGN. -/
def badBlock (d : List Byte) (u : Used) : Bool :=
  let o := u.op
  o.t.block != 0 && (!o.blockAligned || (isOut u.role && !o.wholeBlocks) || (o.ref < 6 && refTranspose d o.ref))

/-- R87: the exception for the residual that is exactly Ref 2. -/
def residualExact (d : List Byte) (a b : Operand) : Bool :=
  (dOpcode d = 0x10 || dOpcode d = 0x11) && a.ref = 2 && b.ref = 4 && refHandle d 2 = refHandle d 4 &&
    refElem d 2 = refElem d 4 && refView d 2 = refView d 4

/-- 0x0F OUTPUT_ALIAS. -/
def badAlias (d : List Byte) (us : List Used) : Bool :=
  us.any (fun a => isOut a.role && (a.op.aliased || us.any (fun b =>
    isIn b.role && a.op.ref != b.op.ref && a.op.overlaps b.op && !(residualExact d a.op b.op))))

/-- 0x10 BAD_T_SCALE of one output. -/
def State.badTScale (s : State) (d : List Byte) (u : Used) : Bool :=
  isOut u.role && u.op.t.fmt = 9 && !(dOpcode d = 0x32 && dVariant d = 0x25) &&
    (if u.op.t.readable then !(tScaleGood (s.tScale (u.op.t.handle.toNat / 2 ^ 29) u.op.t))
     else !(u.op.t.hasCopy) && !(s.usable u.op.t) && u.op.t.encodeFrom.isNone)

/-! ## Scalars -/

def finiteAt (d : List Byte) (off : Nat) : Bool := (dF32 d off).isFinite

/-- A probability in [0, 1). -/
def probAt (d : List Byte) (off : Nat) : Bool :=
  let p := dF32 d off
  p.isFinite && !(p.lt .zero) && p.lt fOne

/-- 0x23 BAD_SCALAR does not apply (R91, R119, R125, R127, R129, R130, R133, R135, Table 7.3). -/
def scalarsOk (d : List Byte) : Bool :=
  let v := dVariant d
  match dOpcode d with
  | 0x10 | 0x11 => finiteAt d 188 && finiteAt d 196 && (!(epiResidual d) || finiteAt d 192) && (!(epiDropout d) || probAt d 200)
  | 0x20 | 0x21 => finiteAt d 188 && (if atnAppend d then finiteAt d 208 && !((dF32 d 208).lt fOne) else leField d 208 4 = 0)
  | 0x30 => finiteAt d 188 && Val.zero.lt (dF32 d 188)
  | 0x32 =>
    if v = 0 then finiteAt d 188
    else if v = 1 then finiteAt d 188 && finiteAt d 192
    else if v = 0x20 || v = 0x21 then probAt d 196
    else if v = 0x25 then finiteAt d 188 && Val.zero.lt (dF32 d 188)
    else true
  | 0x34 =>
    if v = 0 then finiteAt d 188 && finiteAt d 192 && (dF32 d 188).lt (dF32 d 192)
    else if v = 1 then finiteAt d 188 && finiteAt d 192 && !((dF32 d 192).lt .zero)
    else finiteAt d 188 && !((dF32 d 188).lt .zero) && !(fOne.lt (dF32 d 188))
  | 0x35 => (List.range 8).all (fun i => finiteAt d (188 + 4 * i)) && (v != 0 || Val.zero.lt (dF32 d 200))
  | 0x36 => finiteAt d 192
  | 0x37 => finiteAt d 188
  | _ => true

/-! ## Shapes -/

def oneFrom (e : List Nat) (k : Nat) : Bool := (e.drop k).all (· == 1)

/-- An absent operand satisfies a condition on it. -/
def whenSome (o : Option Operand) (f : Operand → Bool) : Bool := match o with
  | some x => f x
  | none => true

def sameExt (o : Option Operand) (e : List Nat) : Bool := whenSome o (fun x => x.ext = e)

/-- R89: a batch dimension of A, B and C. -/
def batchOk (a b c : Nat) : Bool := (a = b || a = 1 || b = 1) && c = max a b

/-- 0x22 SHAPE_MISMATCH does not apply (R89). -/
def State.gemmShapeOk (s : State) (d : List Byte) (a b c : Operand) : Bool :=
  let m := extAt a.ext 1
  let k := extAt a.ext 0
  let n := extAt b.ext 0
  extAt b.ext 1 = k && extAt c.ext 1 = m && extAt c.ext 0 = n && [m, n, k].all (fun x => 1 ≤ x && x ≤ 2147483647) &&
    (if dVariant d = 0 then [a, b, c].all (fun o => oneFrom o.ext 2)
     else (List.range 4).all (fun i => batchOk (extAt a.ext (i + 2)) (extAt b.ext (i + 2)) (extAt c.ext (i + 2)))) &&
    prodOf (c.ext.drop 2) ≤ 16777216 &&
    (!(epiBias d) || whenSome (s.operand d 3) (fun o => extAt o.ext 0 = n && oneFrom o.ext 1)) &&
    (!(epiResidual d) || sameExt (s.operand d 4) c.ext) && (!(epiAux d) || sameExt (s.operand d 5) c.ext)

/-- R63, R99: the bytes of one spatial dimension. -/
def convDimOk (d : List Byte) (x y : List Nat) (a : Nat) : Bool :=
  let rng (v : Nat) : Bool := 1 ≤ v && v ≤ 16
  rng (convKernel d a) && rng (convStride d a) && rng (convDilation d a) && convPadLo d a ≤ 15 && convPadHi d a ≤ 15 &&
    (a < convDims d || (extAt x a = 1 && extAt y a = 1 && convKernel d a = 1 && convStride d a = 1 && convDilation d a = 1 &&
      convPadLo d a = 0 && convPadHi d a = 0))

/-- R100: the output extent of a spatial dimension. -/
def convOutOk (d : List Byte) (x y : List Nat) (a : Nat) : Bool :=
  let whole := extAt x a + convPadLo d a + convPadHi d a
  let need := convDilation d a * (convKernel d a - 1) + 1
  need ≤ whole && extAt y a = (whole - need) / convStride d a + 1

/-- R101: the padding of DGRAD. -/
def dgradOk (d : List Byte) (x : List Nat) (a : Nat) : Bool :=
  let span := convDilation d a * (convKernel d a - 1)
  let rest := (extAt x a + convPadLo d a + convPadHi d a - span - 1) % convStride d a
  convPadLo d a ≤ span && span - convPadLo d a ≤ 15 && convPadHi d a ≤ span + rest && span + rest - convPadHi d a ≤ 15

/-- 0x27 CONV_GEOMETRY does not apply (R99 to R101). -/
def State.convGeometryOk (s : State) (d : List Byte) (r0 r1 r2 : Operand) : Bool :=
  let e := convExtents d r0.ext r1.ext r2.ext
  let x := e.1
  let w := e.2.1
  let y := e.2.2
  let g := convGroups d
  let ch := if convPass d = 1 then extAt x 3 else extAt y 3
  g != 0 && (List.range 3).all (fun a => convDimOk d x y a && extAt w (a + 1) = convKernel d a && convOutOk d x y a &&
      (convPass d != 1 || dgradOk d x a)) &&
    extAt x 3 % g = 0 && extAt y 3 % g = 0 && extAt w 4 = extAt x 3 / g && extAt w 0 = extAt y 3 && extAt x 4 = extAt y 4 &&
    [x, w, y].all (fun l => extAt l 5 = 1) &&
    (convPass d = 2 || ((!(epiBias d) || whenSome (s.operand d 3) (fun o => extAt o.ext 0 = ch && oneFrom o.ext 1)) &&
      (!(epiResidual d) || sameExt (s.operand d 4) r2.ext) && (!(epiAux d) || sameExt (s.operand d 5) r2.ext)))

/-- 0x2B BOX_LIST does not apply (R104). -/
def boxListOk (a b c : Operand) : Bool :=
  b.t.fmt = 0xC && b.t.comp = 0 && extAt b.ext 0 = 24 && oneFrom b.ext 2 &&
    1 ≤ extAt c.ext 0 && extAt c.ext 0 ≤ 4096 && 1 ≤ extAt c.ext 1 && extAt c.ext 1 ≤ 4096 &&
    extAt c.ext 2 = extAt a.ext 2 && extAt c.ext 3 = extAt b.ext 1 && oneFrom c.ext 4

/-- R120: the extents of γ and β. -/
def gammaExt (d : List Byte) (e : List Nat) : List Nat :=
  if normKind d = 2 then extAt e (byteOf d 193) :: List.replicate 5 1
  else (e.take (byteOf d 192)) ++ List.replicate (6 - byteOf d 192) 1

/-- 0x41 BAD_AXIS does not apply. -/
def axisOk (d : List Byte) (e : List Nat) : Bool :=
  match dOpcode d with
  | 0x30 =>
    if normKind d = 2 then
      1 ≤ byteOf d 193 && byteOf d 193 ≤ 5 && leField d 194 2 != 0 && extAt e (byteOf d 193) % leField d 194 2 = 0
    else 1 ≤ byteOf d 192 && byteOf d 192 ≤ 5
  | 0x31 => softAxis d ≤ 5
  | 0x33 => reduceMask d != 0
  | 0x36 => 1 ≤ lossSampleDim d && lossSampleDim d ≤ 5
  | _ => true

/-- R120: a shape violation; the sets exist only where the axis and the groups are in range. -/
def State.normShapeOk (s : State) (d : List Byte) (x y : Operand) : Bool :=
  let n := normSet d x.ext
  let stats : List Nat := [2, x.count / max 1 n, 1, 1, 1, 1]
  let g := gammaExt d x.ext
  y.ext = x.ext && (!(axisOk d x.ext) || 1 ≤ n && n ≤ 16777216 && (!(normAffine d) || sameExt (s.operand d 1) g) &&
    (if isNormBwd d then sameExt (s.operand d 3) x.ext && sameExt (s.operand d 4) stats &&
        (!(normAffine d) || sameExt (s.operand d 5) [2, normGammaCount d x.ext, 1, 1, 1, 1])
     else (!(normAffine d) || normKind d = 1 || sameExt (s.operand d 3) g) &&
        (!(normSave d) || sameExt (s.operand d 4) stats)))

/-- R125: equal or broadcast extents. -/
def broadcastOk (a out : List Nat) : Bool := (List.range 6).all (fun k => extAt a k = extAt out k || extAt a k = 1)

/-- The samples of a LOSS (log entry 25). -/
def lossSamples (d : List Byte) (e : List Nat) : Nat := prodOf (e.drop (lossSampleDim d))

/-- R141: the shapes of a LOSS, its sample counts also where SAMPLE_DIM is out of range (log entry 176). -/
def State.lossShapeOk (s : State) (d : List Byte) (p t out : Operand) : Bool :=
  (dVariant d = 0 || t.ext = p.ext) && whenSome (s.operand d 3) (fun o => o.count = lossSamples d p.ext) &&
    (!(lossGrad d) || sameExt (s.operand d 5) p.ext) &&
    out.count = (if lossReduction d = 2 then lossSamples d p.ext else 1)

/-- 0x40 SHAPE_RULE does not apply; X, Y and dY of SOFTMAX have one shape (log entry 153). -/
def State.shapeRuleOk (s : State) (d : List Byte) : Bool :=
  match dOpcode d, s.operand d 0, s.operand d 1, s.operand d 2 with
  | 0x30, some x, _, some y => s.normShapeOk d x y
  | 0x31, some x, _, some y => x.ext = y.ext && (!(softBwd d) || sameExt (s.operand d 3) x.ext)
  | 0x32, some a, b, some c =>
    if dVariant d = 0x25 then a.count = 1
    else broadcastOk a.ext c.ext && (eltInputs (dVariant d) < 2 || whenSome b (fun o => broadcastOk o.ext c.ext)) &&
      (eltInputs (dVariant d) < 3 || whenSome (s.operand d 3) (fun o => broadcastOk o.ext c.ext))
  | 0x33, some a, _, some c =>
    (List.range 6).all (fun k => extAt c.ext k = if (reduceMask d).testBit k then 1 else extAt a.ext k)
  | 0x35, some g, _, copy => !(optCopy d) || sameExt copy g.ext
  | 0x36, some p, some t, some out => s.lossShapeOk d p t out
  | 0x37, some a, _, some c => a.ext = c.ext
  | _, _, _, _ => true

/-- 0x42 IN_PLACE does not apply (R130). -/
def State.inPlaceOk (s : State) (d : List Byte) : Bool :=
  dOpcode d != 0x35 || whenSome (s.operand d 0) (fun g => [1, 3, 4].all (fun n =>
    (refRoles d).getD n 0 = 0 || whenSome (s.operand d n) (fun o => o.t.fmt = 0 && o.t.comp = 0 && !o.t.mx && o.ext = g.ext)))

/-- 0x43 LABEL_FORMAT does not apply (R133). -/
def State.labelsOk (s : State) (d : List Byte) : Bool :=
  !(dOpcode d = 0x36 && dVariant d = 0) || whenSome (s.operand d 0) (fun p => whenSome (s.operand d 1) (fun t =>
    t.t.fmt = 0xD && t.ext = 1 :: p.ext.drop 1))

/-- 0x44 MOVE_MISMATCH does not apply (R136). -/
def State.moveOk (s : State) (d : List Byte) : Bool :=
  dOpcode d != 0x40 || whenSome (s.operand d 0) (fun a => whenSome (s.operand d 2) (fun b =>
    a.t.fmt = b.t.fmt && a.t.mx = b.t.mx && a.t.comp = b.t.comp && a.ext = b.ext &&
      (a.t.comp != 2 || a.t.base = b.t.base) && (a.t.block = 0 || a.wholeBlocks)))

/-- R139: the queue and the count of a COLL_STEP. -/
def collQueue (d : List Byte) : Nat := leField d 188 4 % 2 ^ 20
def collCount (d : List Byte) : Nat := leField d 192 4

/-- 0x45 QUEUE_REF does not apply. -/
def State.collOk (s : State) (d : List Byte) : Bool :=
  dOpcode d != 0x43 || (1 ≤ collCount d && collCount d ≤ 65536 && (match s.queue? (collQueue d) with
    | some q => q.type = .rop && q.pen = dPen d % 8
    | none => false))

/-! ## Formats -/

/-- Floating-point operands of R35, and MXINT8. -/
def floatOperand (o : Operand) : Bool := !(intOperand o.t.fmt o.t.mx) && o.t.fmt != 0xD

/-- 0x20 FORMAT_MIX. -/
def formatMix (a b : Operand) : Bool :=
  (intOperand a.t.fmt a.t.mx && floatOperand b) || (intOperand b.t.fmt b.t.mx && floatOperand a)

def plainFmt (o : Operand) (fs : List Nat) : Bool := fs.contains o.t.fmt && !o.t.mx

/-- 0x21 FORMAT_UNSUPPORTED does not apply (R54, Table 4.6, R115, R119, R130, R133). -/
def State.formatsOk (s : State) (d : List Byte) : Bool :=
  let op := dOpcode d
  let us := s.used d
  let dlt (f : Used → Bool) : Bool := us.all (fun u => u.op.t.comp != 2 || !(f u))
  match op with
  | 0x10 | 0x11 =>
    us.all (fun u => 2 ≤ u.op.ref || (u.op.t.fmt != 0 && u.op.t.fmt != 0xD)) && dlt (fun u => isOut u.role) &&
      us.all (fun u => u.op.ref != 3 || (plainFmt u.op [0, 1, 2] && u.op.t.comp = 0)) &&
      us.all (fun u => u.op.ref != 4 || plainFmt u.op [0, 1, 2, 3, 4])
  | 0x12 => dlt (fun u => isOut u.role)
  | 0x30 => dlt (fun _ => true) && us.all (fun u => !(u.op.ref = 4 || u.op.ref = 5) || (plainFmt u.op [0] && (u.op.ref = 4 || u.op.t.comp = 0)))
  | 0x35 => dlt (fun _ => true) && us.all (fun u => u.op.ref != 0 || plainFmt u.op [0, 1])
  | 0x36 => dlt (fun _ => true) && us.all (fun u => !(u.op.ref = 2 || u.op.ref = 3) || plainFmt u.op [0])
  | 0x31 | 0x32 | 0x33 | 0x34 | 0x37 => dlt (fun _ => true)
  | _ => true

/-- 0x24 EPILOGUE_CONFLICT (R97). -/
def epilogueConflict (d : List Byte) : Bool :=
  epiAcc d && (epiBias d || epiResidual d || epiDropout d || epiAux d || epiAct d != 0 || dSr d)

/-- 0x25 ACC_TARGET (R96). -/
def accTarget (d : List Byte) (c : Operand) : Bool := epiAcc d && (!(plainFmt c [0, 1]) || c.t.comp != 0)

/-- 0x26 DLT_PLACEMENT, but for the tiles (R90, R99). -/
def dltPlacement (d : List Byte) (us : List Used) : Bool :=
  us.any (fun u => u.op.t.comp = 2 && (u.op.ref != 1 || (dOpcode d = 0x11 && convPass d = 2)))

/-- 0x28 LAYOUT (R99, R104). -/
def badLayout (d : List Byte) (us : List Used) : Bool :=
  us.any (fun u => u.op.t.interleaved && ((dOpcode d = 0x11 && (u.op.ref = 0 || (u.op.ref = 1 && convPass d = 2))) ||
    (dOpcode d = 0x12 && u.op.ref = 0)))

/-! ## Attention (R167, Table 7.10) -/

/-- 0x50 ATTN_SHAPE does not apply. -/
def State.atnShapeOk (s : State) (d : List Byte) : Bool :=
  match s.atn d with
  | none => true
  | some a =>
    let sizeOk (n : Nat) : Bool := 16 ≤ n && n ≤ 256 && n % 16 = 0
    let lenOk (n : Nat) : Bool := 1 ≤ n && n ≤ 2147483647
    let qs := [a.dh, a.tq, a.hq, 1, 1, 1]
    let os := [a.dv, a.tq, a.hq, 1, 1, 1]
    let tk := if atnPaged d then a.tq else match a.k with
      | some k => extAt k.ext 1
      | none => 1
    let ks := [a.dh, tk, a.hkv, 1, 1, 1]
    let vs := [a.dv, tk, a.hkv, 1, 1, 1]
    let lse : List Nat := [a.tq, a.hq, 1, 1, 1, 1]
    sizeOk a.dh && sizeOk a.dv && 1 ≤ a.hkv && a.hq ≤ 4096 && a.hq % a.hkv = 0 && lenOk a.tq && lenOk tk &&
      atnPadHeads d ≤ a.hq && a.q.ext = qs && sameExt a.k ks && sameExt a.v vs &&
      [a.bitmap, a.pages, a.pool].all (fun o => whenSome o (fun x => oneFrom x.ext 1)) &&
      whenSome (s.slotOperand d 0) (fun x => oneFrom x.ext 2) &&
      (if atnBwd d then sameExt (s.operand d 2) qs && sameExt (s.operand d 4) os && sameExt (s.operand d 5) os &&
          sameExt (s.slotOperand d 2) lse && sameExt (s.slotOperand d 3) ks && sameExt (s.slotOperand d 4) vs
       else a.o.ext = os && (!(atnSaveLse d) || sameExt (s.operand d 4) lse))

/-- 0x51 ATTN_FORMAT does not apply: every tensor uncompressed, MX clear and in a format of Table 7.1. -/
def State.atnFormatOk (s : State) (d : List Byte) : Bool :=
  let wide := [0, 1, 2]
  let kv := if atnPaged d then [1, 2] else [1, 2, 3, 4]
  let fmts (ref : Nat) : List Nat :=
    if atnBwd d then
      match ref with
      | 0 | 1 | 3 => [1, 2, 3, 4]
      | 2 | 9 | 10 => wide
      | 4 => [0, 1, 2, 3, 4]
      | 5 => [1, 2]
      | 8 => [0]
      | _ => [0xC]
    else
      match ref with
      | 0 => [1, 2, 3, 4]
      | 1 | 3 => kv
      | 2 => [0, 1, 2, 3, 4]
      | 4 => [0]
      | 8 => [0xD]
      | _ => [0xC]
  (s.used d).all (fun u => u.op.t.comp = 0 && !u.op.t.mx && (u.op.ref = 6 || (fmts u.op.ref).contains u.op.t.fmt))

/-- 0x52 MASK_PARAM does not apply. -/
def maskOk (d : List Byte) : Bool :=
  let grid := atnMask d 1 || atnMask d 2
  (if grid then atnGridW d != 0 && atnGridH d != 0 else atnGridW d = 0 && atnGridH d = 0) &&
    (atnMask d 2 || zeros d 198 202) && (atnMask d 3 == (atnSlot d 1 != noCounter))

/-- 0x53 PAGE_PARAM does not apply. -/
def State.pageParamOk (s : State) (d : List Byte) : Bool :=
  (if atnPaged d then [3, 0xA, 0xB].contains (atnKvFmt d) else atnKvFmt d = 0) && (!(atnAppend d) || atnPaged d) &&
    (!(atnPaged d) || (match s.atn d with
      | some a => a.pool.isNone || (1 ≤ pageCount d a && pageCount d a ≤ 4194304)
      | none => true))

/-- 0x54 SEQ_TABLE_FORMAT does not apply; a table that is not UINT8 or not 32 wide breaks it alone (log entry 156). -/
def State.seqTableOk (s : State) (d : List Byte) : Bool :=
  whenSome (s.slotOperand d 0) (fun o => o.t.fmt = 0xC && extAt o.ext 0 = 32 && 1 ≤ extAt o.ext 1 && extAt o.ext 1 ≤ 65536)

/-! ## All checks (R107) -/

/-- The codes that apply to any descriptor. -/
def State.commonErrors (s : State) (q : Queue) (d : List Byte) : List (Nat × Bool) :=
  let us := s.used d
  let hs := namedHandles d
  let present := (List.range 6).filter (refPresent d)
  let slotAbsent (x : Nat × Nat) : Bool := x.1 != 0 && atnSlot d x.2 = noCounter
  let slotExtra (x : Nat × Nat) : Bool := x.1 = 0 && atnSlot d x.2 != noCounter
  let flagged := dOpcode d = 0x11 && convPass d = 2 &&
    ((epiBias d && !(refPresent d 3)) || (epiResidual d && !(refPresent d 4)) || (epiAux d && !(refPresent d 5)))
  [(0x01, !(opcodeOk (dOpcode d))), (0x02, opcodeOk (dOpcode d) && !(variantOk d)), (0x03, !(reservedOk d)),
    (0x04, dPen d % 8 != q.pen || hs.any (fun h => h / 2 ^ 29 != dPen d % 8)), (0x05, dSeq d != q.expectSeq.toNat),
    (0x06, !(counterOk (dWaitId d)) || !(counterOk (dSignalId d))), (0x07, hs.any (fun h => !(s.live? h))),
    (0x08, present.any (s.badView d)), (0x09, (us.map Used.op ++ present.filterMap (s.operand d)).any Operand.outside),
    (0x0A, flagged || (refRoles d).zipIdx.any (fun x => x.1 != 0 && !(refPresent d x.2)) || (slotRoles d).zipIdx.any slotAbsent),
    (0x0B, (refRoles d).zipIdx.any (fun x => x.1 = 0 && refPresent d x.2) || (slotRoles d).zipIdx.any slotExtra),
    (0x0C, us.any (fun u => !(fmtOk u.op.t.fmt u.op.t.mx)) ||
      (dOpcode d = 0x32 && dVariant d = 0x25 && !(whenSome (s.operand d 2) (fun o => o.t.fmt = 9)))),
    (0x0D, us.any (fun u => badCompressed d u.op)), (0x0E, us.any (badBlock d)), (0x0F, badAlias d us),
    (0x10, us.any (s.badTScale d)), (0x23, !(scalarsOk d)), (0x21, !(s.formatsOk d))]

/-- The codes of GEMM and CONV. -/
def State.matErrors (s : State) (d : List Byte) : List (Nat × Bool) :=
  let us := s.used d
  match s.operand d 0, s.operand d 1, s.operand d 2 with
  | some a, some b, some c =>
    [(0x20, formatMix a b), (0x22, dOpcode d = 0x10 && !(s.gemmShapeOk d a b c)), (0x24, epilogueConflict d), (0x25, accTarget d c),
      (0x26, dltPlacement d us), (0x27, dOpcode d = 0x11 && !(s.convGeometryOk d a b c)), (0x28, badLayout d us),
      (0x29, dOpcode d = 0x11 && byteOf d 206 = 2 && a.t.comp = 1), (0x2D, 7 ≤ epiAct d)]
  | _, _, _ => []

def State.opErrors (s : State) (d : List Byte) : List (Nat × Bool) :=
  match dOpcode d with
  | 0x10 | 0x11 => s.matErrors d
  | 0x12 =>
    match s.operand d 0, s.operand d 1, s.operand d 2 with
    | some a, some b, some c =>
      [(0x28, badLayout d (s.used d)), (0x2B, !(boxListOk a b c)), (0x2C, a.t.comp = 2 || c.t.comp = 2)]
    | _, _, _ => []
  | 0x20 | 0x21 =>
    [(0x50, !(s.atnShapeOk d)), (0x51, !(s.atnFormatOk d)), (0x52, !(maskOk d)), (0x53, !(s.pageParamOk d)),
      (0x54, !(s.seqTableOk d))]
  | _ =>
    let e := match s.operand d 0 with
      | some o => o.ext
      | none => []
    [(0x40, !(s.shapeRuleOk d)), (0x41, !(axisOk d e)), (0x42, !(s.inPlaceOk d)), (0x43, !(s.labelsOk d)), (0x44, !(s.moveOk d)),
      (0x45, !(s.collOk d))]

/-- The lowest code of a list. -/
def lowestCode (l : List Nat) : Option Nat :=
  l.foldl (fun m c => match m with
    | none => some c
    | some x => some (min x c)) none

/-- R107: the lowest failing code.  The tiles are tried only where the geometry holds (R157). -/
def State.issueError (s : State) (q : Queue) (d : List Byte) : Option Nat :=
  let codes := ((s.commonErrors q d ++ s.opErrors d).filter (fun x => x.2)).map Prod.fst
  let tiles := if (dOpcode d = 0x10 || dOpcode d = 0x11) && codes.all (fun c => 0x28 ≤ c) then
      match s.planShape d with
      | some p => if (p.choose).isNone then [p.illegalCode] else []
      | none => []
    else []
  lowestCode (codes ++ tiles)

end Sys2Proof.Machine
end

