-- ==== Sys2Proof/Machine/Drover.lean ====
section
/-! DEFINITION. The Drover (R222 to R246): tensors under any handle, recipes and their usability, predictions and the
choice of path, allocation and eviction, fetches, write-behinds, and the itinerary. -/

namespace Sys2Proof.Machine

/-! ## Use and room -/

/-- R228: an issued, uncompleted operator references the tensor. -/
def State.inUse (s : State) (h : Nat) : Bool :=
  s.comp.ops.any (fun o => (s.inputHandles o.desc).contains h || (s.outputHandles o.desc).contains h)

/-- The lowest run of `n` free pool pages (log entry 11). -/
def State.freeRun (s : State) (n : Nat) : Option Nat :=
  let used := s.drover.nearUsed
  let fits (p : Nat) : Bool := poolFirstPage ≤ p && p + n ≤ poolFirstPage + poolPages && used.all (fun x => x < p || p + n ≤ x)
  (poolFirstPage :: used.map (· + 1)).foldl (fun best p => if fits p then some (match best with
    | some b => min b p
    | none => p) else best) none

/-! ## Tasks of a descriptor -/

/-- R150: the tasks of an operator; an attention operator's wait for its tables. -/
def State.tasksFor (s : State) (d : List Byte) : List Task × Bool × State :=
  match dOpcode d with
  | 0x10 | 0x11 =>
    match s.planFor d, s.operand d 0, s.operand d 1, s.operand d 2 with
    | some (p, t), some a, some b, some c => (matrixTasks d a.ext b.ext c.ext p, p.ref1Stationary, t)
    | _, _, _, _ => ([], true, s)
  | 0x20 | 0x21 | 0x41 | 0x42 | 0x43 => ([], true, s)
  | _ => ((vectorTiles d (s.operand d 0) (s.operand d 2)).map newTask, true, s)

/-- R87: what an operator reads; its accumulation target is its own input and no read. -/
def State.plainReads (s : State) (d : List Byte) : List Nat := (s.inputHandles d).filter (fun h => accHandle d != some h)

/-- R87: the tensors of a race between an operator that reads and one that writes, both of them running; the Drover orders a recipe run
before the operators that wait for its tensor. -/
def State.raceOf (s : State) (reads writes : List Byte) : List Nat :=
  ((s.plainReads reads).filter (fun h => (s.outputHandles writes).contains h)).eraseDups

/-- An operator enters the device. -/
def State.newOp (s : State) (pen queue : Nat) (index : Word) (d : List Byte) (waits : List Nat) (recipe : Option Word) : State :=
  let r := s.tasksFor d
  let racy := ((s.comp.ops.filter (fun o => o.recipeFor.isNone)).flatMap (fun o => s.raceOf d o.desc)).eraseDups
  r.2.2.modComp (fun c => { c with
    nextOp := c.nextOp + 1
    ops := c.ops.map (fun o => if recipe.isSome then o else { o with racy := (o.racy ++ s.raceOf o.desc d).eraseDups }) ++
      [{ id := c.nextOp, pen := pen, queue := queue, index := index, desc := s.bindViews d, tasks := r.1
         flags := 0, discards := 0, recomputes := 0, issuedAt := s.time.clock, waitsFor := waits
         recipeFor := recipe, ref1Stationary := r.2.1, served := false, roomed := false, opened := false, racy := racy
         staged := [], framed := false, closed := false }] })

/-! ## Predictions (R238) -/

/-- R404: bytes per nanosecond and direction. -/
def Talsen.rate (t : Talsen) : Nat := if t.rate32 && t.width8 then 32 else if t.rate32 || t.width8 then 64 else 128

/-- Far bytes of the chunks on port `p` that satisfy `live`. -/
def FarCopy.bytesOn (f : FarCopy) (p : Nat) (live : Nat → Bool) : Nat :=
  4096 * ((List.range (ceilDiv f.bytes 4096)).filter (fun c => (f.chunkPlace c).1 = p && live c)).length

/-- A chunk that has not arrived. -/
def Fetch.open (f : Fetch) (c : Nat) : Bool := match f.chunks[c]? with
  | some .waiting | some .issued => true
  | _ => false

/-- R238: bytes queued on port `p` for fetches with earlier deadlines. -/
def State.queuedOn (s : State) (p deadline : Nat) : Nat :=
  (s.allTensors.map (fun x => match x.2.fetch, x.2.far with
    | some f, some c => if f.deadline < deadline then c.bytesOn p f.open else 0
    | _, _ => 0)).sum

/-- R238: when a fetch of the tensor would complete; none for never. -/
def State.predictFetch (s : State) (t : Tensor) (deadline : Nat) : Option Nat :=
  match t.far with
  | none => none
  | some f =>
    if !(s.fetchable f) then none
    else
      let live (c : Nat) : Bool := match t.fetch with
        | some x => x.open c
        | none => true
      some (s.time.clock + f.stripe.foldl (fun m p => max m (ceilDiv (s.queuedOn p deadline + f.bytesOn p live) (s.talsenAt p).rate)) 0)

/-- Table 17.5: FCLK in MHz. -/
def FclkPoint.mhz : FclkPoint → Nat
  | .nominal => 1920
  | .boost => 2100
  | .efficiency => 1200
  | .reduced => 960

/-- R238: multiply-adds of a GEMM or CONV. -/
def State.macs (s : State) (d : List Byte) : Nat :=
  match s.operand d 0, s.operand d 1, s.operand d 2 with
  | some a, some b, some c =>
    ((List.range (matGeometry d a.ext b.ext c.ext 0).batches).map (fun i =>
      let g := matGeometry d a.ext b.ext c.ext i
      prodOf g.rowDims * g.cols * g.k)).sum
  | _, _, _ => 0

/-- Table 7.7: cycles of a 128 × 128 block. -/
def atnBlockCycles (a : Atn) : Nat :=
  let score := 2 * a.dh * (if a.q.t.width ≤ 8 then 1 else 2) / 2
  max 512 (score + 256 * ceilDiv a.dv 128)

/-- R175, R238: the blocks of one head of a sequence that R174 does not pass over: those with an admitted position. -/
def State.atnBlocks (s : State) (d : List Byte) (a : Atn) (r : SeqRec) : Nat :=
  let rows (n b : Nat) : List Nat := (List.range (min 128 (n - 128 * b))).map (128 * b + ·)
  ((List.range (ceilDiv r.qLen 128)).map (fun x => ((List.range (ceilDiv r.kvLen 128)).filter (fun y =>
    (rows r.qLen x).any (fun i => (rows r.kvLen y).any (s.admits d a r i)))).length)).sum

/-- R238: the work of one descriptor, in cycles per Fold; of the operators that count elements, those of Ref 2 count (DESIGN CHOICE,
log entry 171). -/
def State.work (s : State) (d : List Byte) : Nat :=
  match dOpcode d with
  | 0x10 | 0x11 =>
    match s.operand d 0, s.operand d 1 with
    | some a, some b => s.macs d / (128 * kPerCycle a.t b.t)
    | _, _ => 0
  | 0x20 =>
    match s.atn d with
    | some a => ((List.range a.nseq).map (fun n => s.atnBlocks d a (s.seqRec a n))).sum * (a.hq - atnPadHeads d) * atnBlockCycles a
    | none => 0
  | _ => (match s.operand d 2 with
    | some o => o.count
    | none => 0) / 512

/-- R112: the absolute deadline of an operator; none without a hint, or of a grazing pen. -/
def State.opDeadline (s : State) (o : Op) : Option Nat :=
  if dDeadline o.desc = 0 || (s.pen o.pen).grazing then none else some (o.issuedAt + 1000 * dDeadline o.desc)

/-- R112, R232: the deadline by which an operator ranks: its hint, or for a recipe run the deadline of the need it serves. -/
def State.rankDeadline (s : State) (o : Op) : Option Nat :=
  match o.recipeFor with
  | some h => some (match s.tensor? h.toNat with
    | some t => t.runBy
    | none => o.issuedAt)
  | none => s.opDeadline o

/-- R238: ACTIVE slots not held by primary-pen tasks with earlier deadlines, at least 1. -/
def State.slotsFree (s : State) (deadline : Nat) : Nat :=
  let held (k : Nat) : Bool := [false, true].any (fun h => match (s.half k h).busy with
    | none => false
    | some (id, _) => match s.op? id with
      | none => false
      | some o => !(s.pen o.pen).grazing && (match s.rankDeadline o with
        | some x => x < deadline
        | none => false))
  max 1 ((s.comp.slots.zipIdx.filter (fun x => x.1.active && !(held (34 * (x.2 / 32) + x.1.phys)))).length)

/-- R238: when a recipe run for the tensor would complete; none for never. -/
def State.predictRecipe (s : State) (t : Tensor) (deadline : Nat) : Option Nat :=
  if !(s.usable t) then none
  else
    let arrive := (s.checkpoints t.recipe).foldl (fun m h => match s.tensor? h with
      | some c => if c.readable then m else max m ((s.predictFetch c deadline).getD m)
      | none => m) s.time.clock
    some (arrive + 1000 * (t.recipe.map s.work).sum / (s.slotsFree deadline * s.health.power.point.mhz))

/-! ## The choice of path (R239) -/

inductive Path where
  | fetch | recompute | wait
deriving DecidableEq, Repr

def choosePath (tf tr : Option Nat) (deadline : Nat) : Path :=
  let by' (x : Option Nat) : Bool := match x with
    | some n => n ≤ deadline
    | none => false
  if by' tf then .fetch
  else if by' tr then .recompute
  else
    match tf, tr with
    | some f, some r => if r < f then .recompute else .fetch
    | none, some _ => .recompute
    | some _, none => .fetch
    | none, none => .wait

/-! ## The itinerary's needs and deadlines (R233, R236, R237) -/

/-- R237: the time of a point: as measured in the previous step, or as expected. -/
def Pen.duration (p : Pen) (it : Itinerary) (k : Nat) : Nat :=
  match p.measured.find? (fun x => x.1 = k) with
  | some x => x.2
  | none => match it.points[k]? with
    | some q => 1000 * q.durationUs
    | none => 0

/-- R237: the deadline of the point `j` points after the one in progress. -/
def Pen.pointDeadline (p : Pen) (it : Itinerary) (j : Nat) : Nat :=
  p.lastMark + ((List.range j).map (fun i => p.duration it ((p.expect + i) % max 1 it.points.length))).sum

/-- R236: the needs of the lookahead window, in deadline order: handle, kind and deadline (log entry 35). -/
def Pen.windowNeeds (p : Pen) : List (Nat × Nat × Nat) :=
  match p.itinerary with
  | none => []
  | some it =>
    if p.demand then []
    else
      let n := it.points.length
      (List.range (min it.lookahead n)).flatMap (fun j => match it.points[(p.expect + j + 1) % max 1 n]? with
        | some q => q.needs.map (fun x => (x.1.toNat, x.2, p.pointDeadline it (j + 1)))
        | none => [])

/-- The earliest deadline of a tensor in its pen's window. -/
def State.needDeadline (s : State) (h : Nat) : Option Nat :=
  ((s.pen (h / 2 ^ 29)).windowNeeds.find? (fun x => x.1 = h)).map (fun x => x.2.2)

/-- R228. -/
def State.protected (s : State) (h : Nat) : Bool := (s.needDeadline h).isSome

/-- The kind of the next need of a tensor from point `k` on, in cyclic order. -/
def Itinerary.nextKind (it : Itinerary) (h k : Nat) : Option Nat :=
  (List.range it.points.length).findSome? (fun j => match it.points[(k + j) % max 1 it.points.length]? with
    | some q => (q.needs.find? (fun x => x.1.toNat = h)).map Prod.snd
    | none => none)

/-! ## Allocation and eviction (R226, R228) -/

structure AllocReq where
  pen : Nat
  size : Nat
  prefetch : Bool
  deadline : Nat

/-- R227: the age of a tensor, in units of 1.024 µs. -/
def State.age (s : State) (t : Tensor) : Nat := (BitVec.ofNat 32 (s.time.now.toNat / 1024) - t.lastUse).toNat

/-- R228: whether a tensor of pen `p` may be taken for a request. -/
def State.candidate (s : State) (r : AllocReq) (p : Nat) (t : Tensor) : Bool :=
  let h := t.handle.toNat
  let pp := s.pen p
  let rp := s.pen r.pen
  pp.state != .wiping && t.readable && !t.pinned && !t.small && !t.isBase && !t.held && !(s.inUse h) &&
    (p = r.pen || pp.nearMin + t.chargedBytes ≤ pp.nearUse) &&
    !(rp.grazing && !pp.grazing && rp.nearMin < rp.nearUse + r.size) &&
    !(r.prefetch && (match s.needDeadline h with
      | some d => d < r.deadline
      | none => false)) &&
    (t.res = .both || s.usable t || t.wb.isSome)

/-- R228: the rank of a candidate; the lowest goes. -/
def State.victimRank (s : State) (p : Nat) (t : Tensor) : List Int :=
  [if (s.pen p).grazing then 0 else 1, if s.protected t.handle.toNat then 1 else 0,
    (match s.needDeadline t.handle.toNat with
      | some d => -(d : Int)
      | none => -(s.age t : Int)), (p : Int), ((t.handle.toNat % 2 ^ 29 : Nat) : Int)]

def State.chooseVictim (s : State) (r : AllocReq) : Option (Nat × Tensor) :=
  (s.pens.zipIdx.flatMap (fun x => (x.1.tensors.filter (s.candidate r x.2)).map (fun t => (x.2, t)))).foldl
    (fun best c => match best with
      | none => some c
      | some b => if lexLt (s.victimRank c.1 c.2) (s.victimRank b.1 b.2) then some c else best) none

/-- R228: evict until there is room; the flag tells whether there is. -/
def State.makeRoom (s : State) (r : AllocReq) : Nat → State × Bool
  | 0 => (s, r.size ≤ s.poolFree)
  | n + 1 =>
    if r.size ≤ s.poolFree then (s, true)
    else match s.chooseVictim r with
      | none => (s, false)
      | some (p, t) => if t.res = .both || s.usable t then State.makeRoom (s.dropNear p t) r n else (s, false)

/-- R226: the FAR_MAX room that an allocation must reserve: the far form's bound of a tensor held above NEAR_MIN that has no recipe
to rebuild it. -/
def State.farNeed (s : State) (pen : Nat) (t : Tensor) : Nat :=
  let p := s.pen pen
  if p.nearUse + t.chargedBytes ≤ p.nearMin || t.recipe != [] || t.pinned || t.small then 0 else t.farBound

/-- R228: allocate the near room of a tensor, evicting as it must; the flag tells whether it has its room, or is to wait (R229).  The
reservation of R226 stands for as long as the room does: a far copy takes its bytes of it, and gives them back when it goes. -/
def State.allocate (s : State) (pen : Nat) (t : Tensor) (prefetch : Bool) (deadline : Nat) : State × Bool :=
  if t.room != [] then (s, true)
  else
    let need := s.farNeed pen t
    if need != 0 && (s.pen pen).farMax < (s.pen pen).farUse + (s.pen pen).farHeld t.handle + (need - t.farBytes) then (s, false)
    else
      let r := s.makeRoom { pen := pen, size := t.chargedBytes, prefetch := prefetch, deadline := deadline }
        ((s.pens.map (fun p => p.tensors.length)).sum + 1)
      if r.2 then
        match r.1.takeRoom pen t with
        | some u => (u.modTensor t.handle.toNat (fun x => { x with farReserved := need }), true)
        | none => (r.1, false)
      else (r.1, false)

def State.setAllocWait (s : State) (h : Nat) (b : Bool) : State := s.modTensor h (fun t => { t with allocWait := b })

/-! ## Fetches (R213, R222, R242) -/

/-- R205, R213: far chunk `c` of a coded fetch has come and waits to be expanded: a near-form chunk that is not expandable yet has in
it the index entry or the payload of one of its granules. -/
def Tensor.awaits (t : Tensor) (f : Fetch) (c : Nat) : Bool :=
  let k := t.farShape
  f.passed c && (List.range (ceilDiv t.storedBytes 4096)).any (fun n => !(t.expandable f n) && (t.granulesIn n).any (fun g =>
    (chunksUnder (64 + 8 * g) 8).contains c || ((chunksUnder (64 + 8 * g) 8).all f.passed &&
      (let e := readLe f.form (64 + 8 * g) 8
       (chunksUnder (k.payloadOffset + 32 * bitsOf e 39 0) (32 * min k.umax (bitsOf e 51 44))).contains c))))

/-- R213: far chunks that transfer staging, of 24 MiB, holds: those whose reads are in flight, and those that wait to be expanded. -/
def State.farInFlight (s : State) : Nat :=
  (s.allTensors.map (fun x => match x.2.fetch with
    | some f => (f.chunks.filter (fun c => c = .issued)).length +
        (if x.2.farCoded && f.chunks.any (fun c => c.bytes?.isSome) then ((List.range f.chunks.length).filter (x.2.awaits f)).length else 0)
    | none => 0)).sum

/-- Handles being fetched, in deadline order. -/
def State.fetchOrder (s : State) : List Nat :=
  let l := s.allTensors.filterMap (fun x => x.2.fetch.map (fun f => (f.deadline, x.1)))
  let insert (x : Nat × Nat) : List (Nat × Nat) → List (Nat × Nat) := fun ys =>
    ys.takeWhile (fun y => y.1 ≤ x.1) ++ x :: ys.dropWhile (fun y => y.1 ≤ x.1)
  (l.foldl (fun acc x => insert x acc) []).map Prod.snd

/-- R242: issue the read of one chunk. -/
def State.issueChunk (s : State) (h c : Nat) : State :=
  match s.any? h with
  | none => s
  | some t => match t.fetch, t.far with
    | some f, some copy =>
      let x := copy.chunkPlace c
      if f.chunks[c]? = some .waiting && s.stripeNow.contains x.1 && s.farInFlight < 6144 then
        (s.emit (.farRead x.1 x.2 4096)).modAny h (fun y => { y with fetch := some { f with chunks := f.chunks.set c .issued } })
      else s
    | _, _ => s

/-- Issue the reads that the staging has room for, earliest deadline first. -/
def State.pumpReads (s : State) : State :=
  s.forAll s.fetchOrder (fun u h => match (u.any? h).bind Tensor.fetch with
    | some f => u.forAll (List.range f.chunks.length) (fun v c => v.issueChunk h c)
    | none => u)

/-- Begin a fetch into a near allocation that is already made. -/
def State.beginFetch (s : State) (h deadline : Nat) : State :=
  match s.any? h with
  | none => s
  | some t => match t.far with
    | none => s
    | some f =>
      ((s.modAny h (fun x => { x with waitUntil := none, allocWait := false
                                      fetch := some { chunks := List.replicate (ceilDiv f.bytes 4096) .waiting
                                                      deadline := deadline, switched := false, bad := false } })).count 22 1).pumpReads

/-- R223, R226: a fetch of a FAR tensor, when there is room. -/
def State.startFetch (s : State) (pen h deadline : Nat) (prefetch : Bool) : State :=
  match s.tensor? h with
  | none => s
  | some t =>
    let r := s.allocate pen t prefetch deadline
    if r.2 then r.1.beginFetch h deadline else r.1.setAllocWait h true

/-! ## Recipe runs (R232) -/

/-- The descriptor `i` of a recipe starts. -/
def State.runDescriptor (s : State) (pen h i : Nat) : State :=
  match s.tensor? h with
  | none => s
  | some t => match t.recipe[i]? with
    | none => s.modTensor h (fun x => { x with run := some t.recipe.length })
    | some d => (s.newOp pen 0 0 d [] (some (BitVec.ofNat 32 h))).modTensor h (fun x => { x with run := some i })

def State.startRecipe (s : State) (pen h deadline : Nat) : State :=
  ((s.runDescriptor pen h 0).modTensor h (fun x => { x with waitUntil := none, runBy := deadline })).count 23 1

/-! ## Needs (R236, R239) -/

/-- A need that no path serves yet. -/
def Tensor.needsPath (t : Tensor) : Bool :=
  !(t.readable) && t.fetch.isNone && t.run.isNone && t.encodeFrom.isNone

/-- R251: a further need on a tensor that is already on its way: the earlier deadline counts. -/
def State.hasten (s : State) (h deadline : Nat) : State :=
  s.modTensor h (fun t => { t with
    fetch := t.fetch.map (fun f => { f with deadline := min f.deadline deadline })
    runBy := if t.run.isSome then min t.runBy deadline else t.runBy
    waitUntil := t.waitUntil.map (fun x => min x deadline) })

/-- R239: choose and take the path of a need. -/
def State.takePath (s : State) (pen h deadline : Nat) (prefetch : Bool) : State :=
  match s.tensor? h with
  | none => s
  | some t =>
    if !(t.needsPath) then s.hasten h deadline
    else
      let tf := if t.res = .far then s.predictFetch t deadline else none
      match choosePath tf (s.predictRecipe t deadline) deadline with
      | .fetch => s.startFetch pen h deadline prefetch
      | .recompute => s.startRecipe pen h deadline
      | .wait =>
        if t.res = .poisoned && !prefetch && !(s.usable t) then s.penFault pen 0x81 h
        else if t.waitUntil.isSome then s.hasten h deadline
        else s.modTensor h (fun x => { x with waitUntil := some deadline })

/-- R236: every READ or UPDATE need of the window gets a path. -/
def State.prepare (s : State) (pen : Nat) : State :=
  if (s.pen pen).drained then s
  else s.forAll ((s.pen pen).windowNeeds.filter (fun x => x.2.1 != 1)) (fun u x => u.takePath pen x.1 x.2.2 true)

/-- R112, R237: the deadline of an operator's need: the itinerary's, the hint's, or its issue. -/
def State.demandDeadline (s : State) (o : Op) (h : Nat) : Nat :=
  match s.needDeadline h with
  | some d => d
  | none => (s.opDeadline o).getD o.issuedAt

/-! ## Write-behind (R205, R230) -/

/-- R205: the granules of a SLOTTED container, placed one after another. -/
def compacted (k : CompShape) (rd : Nat → Byte) (len : Nat) : List Byte :=
  if k.comp != 1 || readLe rd 3 1 = 1 then (List.range len).map rd
  else
    let gs := (List.range k.ngran).map (fun g =>
      let e := readLe rd (64 + 8 * g) 8
      let at' := k.payloadOffset + 32 * bitsOf e 39 0
      (bitsOf e 43 40, (List.range (32 * bitsOf e 51 44)).map (fun i => rd (at' + i)), bitsOf e 62 52))
    let r := placeGranules none 0 0 gs
    let total := (gs.map (fun x => x.2.1.length)).sum
    let po := k.payloadOffset
    piecesBytes ((0, padTo po (k.header true total ++ r.1.flatten)) :: r.2.map (fun x => (po + x.1, x.2)) ++
      [(po + total, List.replicate (roundUp (po + total) 4096 - (po + total)) 0)])

/-- R189: the bytes of a container, from its header to its zero tail; never more than its bound. -/
def containerBytes (k : CompShape) (rd : Nat → Byte) : Nat := min k.bound (roundUp (k.payloadOffset + readLe rd 32 8) 4096)

/-- R205: the far form of a tensor whose near form is read through `rd`: a PACKED container of an uncompressed tensor, the compacted
container of an SPA tensor, and any other container or form byte for byte. -/
def Tensor.farForm (t : Tensor) (rd : Nat → Byte) : List Byte :=
  if t.farCoded then packedSpa t.fmt t.extents (fun lin => codeAt rd 0 t.width (t.storageIndex lin))
  else if t.comp = 0 then (List.range t.storedBytes).map rd
  else compacted t.compShape rd (containerBytes t.compShape rd)

/-- R205: whether the far form of a tensor is its near form byte for byte. -/
def Tensor.farExact (t : Tensor) (rd : Nat → Byte) : Bool := !t.farDiffers || (t.comp = 1 && readLe rd 3 1 = 1)

/-- The nominal fetch time: the far form over every port of the stripe set, each idle. -/
def State.nominalFetch (s : State) (pen : Nat) (t : Tensor) : Nat :=
  let st := s.stripeNow
  let bytes := (t.farForm (s.nearForm pen t)).length
  st.zipIdx.foldl (fun m x => max m (ceilDiv (4096 * chunksOnPort bytes st.length x.2) (s.talsenAt x.1).rate)) 0

/-- The nominal fetch time of a far copy that stands. -/
def State.nominalCopy (s : State) (t : Tensor) : Nat :=
  match t.far with
  | some f => f.stripe.foldl (fun m p => max m (ceilDiv (f.bytesOn p (fun _ => true)) (s.talsenAt p).rate)) 0
  | none => 0

/-- The nominal recipe time: the arrival of the checkpoints that are far, and then the work with every ACTIVE slot free. -/
def State.nominalRecipe (s : State) (t : Tensor) : Nat :=
  (s.checkpoints t.recipe).foldl (fun m h => match s.tensor? h with
    | some c => if c.readable then m else max m (s.nominalCopy c)
    | none => m) 0 +
  1000 * (t.recipe.map s.work).sum /
    (max 1 ((s.comp.slots.filter FoldSlot.active).length) * s.health.power.point.mhz)

/-- R230: whether a tensor that became idle begins its write-behind; its next need is sought from the point after the one in
progress, whose work has just used it. -/
def State.wantsWriteBehind (s : State) (pen : Nat) (t : Tensor) : Bool :=
  let p := s.pen pen
  t.res = .near && !t.small && !t.pinned && t.wb.isNone && t.far.isNone && !(s.inUse t.handle.toNat) && s.stripeNow != [] &&
    (match p.itinerary with
      | some it => !p.demand && it.nextKind t.handle.toNat (p.expect + 1) = some 0
      | none => false) &&
    (!(s.usable t) || s.nominalFetch pen t < s.nominalRecipe t)

/-- The far writes of a form over a stripe. -/
def State.writeFar (s : State) (f : FarCopy) (form : List Byte) : State :=
  (s.forAll ((chunksOf form).zipIdx) (fun u x => u.emit (.farWrite (f.chunkPlace x.2).1 (f.chunkPlace x.2).2 x.1))).count 21
    (4096 * (chunksOf form).length)

/-- R230: read the near copy, code the far form and write it over the stripe; none without far room, or from a poisoned near copy
(R271); while near pasture holds its read it waits (R275).  R207: a near entry that is not valid is computed from the bytes read. -/
def State.beginWriteBehind (s : State) (pen h : Nat) (stripe : List Nat) (retry : Bool) : State :=
  match s.tensor? h with
  | none => s
  | some t =>
    let rd := s.nearForm pen t
    let form := t.farForm rd
    if s.penHeld .drover pen t.penAddr t.storedBytes then s.modTensor h (fun x => { x with wbDue := some (stripe, retry) })
    else if stripe = [] || s.penPoisoned pen t.penAddr t.storedBytes || (s.pen pen).farMax < (s.pen pen).farUse + (s.pen pen).farHeld t.handle + roundUp form.length 4096 then s
    else match s.reserveFar form.length stripe with
    | none => s
    | some place =>
      let exact := t.farExact rd
      let near := chunkTable ((List.range t.storedBytes).map rd)
      ((s.count 16 t.storedBytes).writeFar { stripe := stripe, bytes := form.length, place := place, exact := exact } form).modTensor h (fun x =>
        { x with wb := some { form := form, stripe := stripe, place := place, exact := exact, retry := retry }
                 wbDue := none
                 nearTable := near.zip (t.nearTable ++ List.replicate near.length none) |>.map (fun e => e.2.or e.1) })

/-- R233: the copies of a tensor whose contents are dead go once nothing uses it; the poison of a tensor stays. -/
def State.buryTensor (s : State) (h : Nat) : State :=
  match s.tensor? h with
  | none => s
  | some t =>
    if t.dead && !(s.inUse h) && !t.isBase && t.res != .poisoned then
      let u := (s.endFetch (h / 2 ^ 29) h)
      (u.freeCopies (h / 2 ^ 29) ((u.tensor? h).getD t)).modTensor h (fun x => { x with dead := false })
    else s

/-- R230, R233: a tensor became idle after a use. -/
def State.idleTensor (s : State) (h : Nat) : State :=
  let s1 := s.buryTensor h
  match s1.tensor? h with
  | none => s1
  | some t =>
    let pen := h / 2 ^ 29
    if s1.wantsWriteBehind pen t then s1.beginWriteBehind pen h s1.stripeNow false else s1

/-! ## Marks (R233 to R237) -/

/-- R233: the contents of a tensor die after point `k` when its next need is a WRITE. -/
def State.freeDead (s : State) (it : Itinerary) (k : Nat) : State :=
  match it.points[k]? with
  | none => s
  | some q => s.forAll (q.needs.filter (fun x => x.2 != 1 && it.nextKind x.1.toNat (k + 1) = some 1)) (fun u x =>
      (u.modTensor x.1.toNat (fun y => { y with dead := true })).buryTensor x.1.toNat)

/-- R235: where the mark stands among the points from the expected one on, in cyclic order. -/
def Itinerary.matchPoint (it : Itinerary) (expect layer phase micro : Nat) : Option Nat :=
  (List.range it.points.length).find? (fun j => match it.points[(expect + j) % max 1 it.points.length]? with
    | some q => q.layer = layer && q.phase = phase && q.microBatch = micro
    | none => false)

/-- R234: a waiting itinerary takes effect at the mark of its point 0. -/
def Pen.adopt (p : Pen) (layer phase micro : Nat) : Pen :=
  match p.pendingItin with
  | some it => (match it.points[0]? with
    | some q => if q.layer = layer && q.phase = phase && q.microBatch = micro
        then { p with itinerary := some it, pendingItin := none, expect := 0, demand := false, marked := false, measured := [] } else p
    | none => p)
  | none => p

/-- R235: a LAYER_MARK has completed on a pen. -/
def State.layerMark (s : State) (pen layer phase micro : Nat) : State :=
  let s0 := s.modPen pen (fun p => p.adopt layer phase micro)
  let p := s0.pen pen
  match p.itinerary with
  | none => s0
  | some it =>
    let n := max 1 it.points.length
    match it.matchPoint (if p.demand then 0 else p.expect) layer phase micro with
    | none =>
      (s0.modPen pen (fun x => { x with demand := true })).logFault 7 0x0303 .corrected 0 (some pen) none
        (layer + phase <<< 24 + micro <<< 32)
    | some j =>
      if p.demand && j != 0 then s0
      else
        let from' := if p.demand then 0 else p.expect
        let k := (from' + j) % n
        let took := s0.time.clock - p.lastMark
        let s1 := s0.modPen pen (fun x => { x with
          demand := false, expect := (k + 1) % n, lastMark := s0.time.clock
          marked := true
          measured := if j = 0 && !p.demand && p.marked then (k, took) :: x.measured.filter (fun m => m.1 != k) else x.measured })
        let s2 := s1.forAll (List.range (j + 1)) (fun u i => u.freeDead it ((from' + i) % n))
        s2.prepare pen

end Sys2Proof.Machine
end

