-- ==== Sys2Proof/Machine/Sched.lean ====
section
/-! DEFINITION. Operators from issue to completion: releasing effects (R67, R68), completing (R110, R113), issuing from an
OPR ring (R84, R85, R107), and placing tasks on Folds (R112, R152, R154, R162, R350, R351). -/

namespace Sys2Proof.Machine

/-! ## Releasing effects (R68) -/

/-- R207: the stores of one writer, by pen address and length, as the near tables of the tensors they fall in see them. -/
def State.touchStores (s : State) (pen : Nat) (spans : List (Nat × Nat)) : State :=
  s.forAll (s.pen pen).tensors (fun u t =>
    match spans.filterMap (fun x => if t.penAddr ≤ x.1 && x.1 < t.penAddr + t.roomBytes then some (x.1 - t.penAddr, x.2) else none) with
    | [] => u
    | l => u.touchTable pen t.handle.toNat l)

/-- What an effect tells the near table of its tensor: its stored bytes, and of an accumulate-write, which memory itself completes,
one byte only, so that its chunk never counts as written whole. -/
def Effect.span : Effect → Option (Nat × Nat)
  | .store a bs | .scale a bs => some (a, bs.length)
  | .acc a _ _ => some (a, 1)
  | .stage _ _ _ | .plane _ _ => none

def State.applyEffect (s : State) (pen op : Nat) : Effect → State
  | .store a bs | .scale a bs => s.penWrite .norm .fold pen a bs
  | .acc a bf w => s.penAcc .hi .fold bf false pen a [some w]
  | .stage r e v => s.modOp op (fun o => { o with staged := o.staged ++ [(r, e, v)] })
  | .plane a bs => s.npWrite .hi .fold a bs

/-- R144: the tensors that an operator may write: a recipe run writes only what it rebuilds and its scratch tensors. -/
def State.mayWrite (s : State) (o : Op) : List Nat :=
  match o.recipeFor with
  | none => s.outputHandles o.desc
  | some h => match s.tensor? h.toNat with
    | none => []
    | some t => (s.outputHandles o.desc).filter (fun x => x = h.toNat || (s.scratchHandles t.recipe).contains x)

/-- R144: whether an effect of an operator is kept. -/
def State.keepsEffect (s : State) (o : Op) (e : Effect) : Bool :=
  let inside (a : Nat) : Bool := (s.mayWrite o).any (fun h => match s.tensor? h with
    | some t => t.penAddr ≤ a && a < t.penAddr + t.roomBytes
    | none => false)
  o.recipeFor.isNone || (match e with
    | .store a _ | .scale a _ | .acc a _ _ => inside a
    | .stage _ _ _ | .plane _ _ => true)

/-- R220: a recipe run writes and reads its tensor in the room that is not mapped yet. -/
def State.exposed (s : State) (o : Op) : State :=
  match o.recipeFor with
  | some h => s.mapRoom o.pen h.toNat
  | none => s

/-- R68: stores and accumulate-writes leave in tile order, visible before anything that follows. -/
def State.releaseEffects (s : State) (o : Op) (es : List Effect) : State :=
  let kept := es.filter (s.keepsEffect o)
  let t := (((s.exposed o).forAll kept (fun u e => u.applyEffect o.pen o.id e)).npFlushSource .fold).touchStores o.pen (kept.filterMap Effect.span)
  if o.recipeFor.isSome then t.pagesAs o.pen s else t

/-! ## Leaving (R251, R229) -/

/-- R251, R420: released tensors go once no operator references them. -/
def State.sweepReleased (s : State) : State :=
  s.forAll (s.allTensors.filter (fun x => x.2.released && !(s.inUse x.1))) (fun u x =>
    match u.tensor? x.1 with
    | some t => (u.freeCopies (x.1 / 2 ^ 29) t).modPen (x.1 / 2 ^ 29) (fun p =>
        { p with tensors := p.tensors.filter (fun y => y.handle.toNat != x.1) })
    | none => u)

/-- R223: an operator that writes every element of a tensor. -/
def State.writesWhole (s : State) (o : Op) (h : Nat) : Bool :=
  (s.used o.desc).any (fun w => isOut w.role && w.op.t.handle.toNat = h && w.op.count = w.op.t.elements)

/-- R223: the near room of an output at the operator's first task; a poisoned tensor that is not written whole gets none. -/
def State.roomOutput (s : State) (o : Op) (h : Nat) : State × Bool :=
  match s.tensor? h with
  | none => (s, true)
  | some t => if t.res = .poisoned && !(s.writesWhole o h) then (s, true) else s.allocate o.pen t false (s.demandDeadline o h)

def State.roomOutputs (s : State) (o : Op) : List Nat → State × Bool
  | [] => (s, true)
  | h :: r =>
    let x := s.roomOutput o h
    if x.2 then State.roomOutputs x.1 o r else x

/-- R229: an allocation that waits is tried again: an output's, with the others of its operator, a DLT encode's, or the fetch that a
need of the window or an operator waits for. -/
def State.retryAlloc (s : State) (h : Nat) : State :=
  match s.tensor? h with
  | none => s
  | some t =>
    let pen := h / 2 ^ 29
    if !t.allocWait then s
    else match s.comp.ops.find? (fun o => !o.roomed && (s.mayWrite o).contains h) with
      | some o =>
        let r := s.roomOutputs o (s.mayWrite o)
        if r.2 then (r.1.forAll (s.mayWrite o) (fun u x => u.setAllocWait x false)).modOp o.id (fun x => { x with roomed := true }) else r.1
      | none =>
        if t.encodeFrom.isSome then
          let r := s.allocate pen t false s.time.clock
          if r.2 then r.1.setAllocWait h false else r.1
        else if t.res = .far && t.needsPath then s.takePath pen h ((s.needDeadline h).getD s.time.clock) (s.protected h)
        else s.setAllocWait h false

/-- R229: every allocation that waits is tried again when space is freed, by pen and handle. -/
def State.retryAllocs (s : State) : State :=
  s.forAll ((s.pens.flatMap Pen.tensors).filter Tensor.allocWait) (fun u t => u.retryAlloc t.handle.toNat)

/-! ## Completion (R110, R113) -/

/-- R110: the increment, then the record. -/
def State.signalAndRecord (s : State) (o : Op) (flags : Nat) : State :=
  let d := o.desc
  let s1 := if dSignalId d = noCounter then s else s.addCounter o.pen (dSignalId d) 1
  if dCpl d then s1.completeOn o.queue (s1.completionRecord d 0 flags o.discards o.recomputes) else s1

/-- R138: what a LAYER_MARK reports on completion. -/
def State.reportMark (s : State) (o : Op) : State :=
  if dOpcode o.desc = 0x42 then
    let t := s.layerMark o.pen (dLayer o.desc) (byteOf o.desc 188) (leField o.desc 190 2)
    if (s.pen o.pen).grazing then t else t.layerBoundary
  else s

/-- Table 20.6: a hint missed. -/
def State.countMiss (s : State) (o : Op) : State :=
  match s.opDeadline o with
  | some x => if x < s.time.clock then s.count 24 1 else s
  | none => s

/-- R168, R171: the stores of the rows that no task writes. -/
def State.fillEffects (s : State) (o : Op) : List Effect := ((s.overlay (s.racyBytes o)).atnFill o.desc).effects

def State.fillRows (s : State) (o : Op) : State :=
  match s.fillEffects o with
  | [] => s
  | es => (s.releaseEffects o es).spendRace o

/-- R257: whether data that Folds have stored in an operator's outputs still waits for its stack. -/
def State.dataHeld (s : State) (o : Op) : Bool :=
  let ts := (s.mayWrite o).filterMap s.tensor?
  let mine (a : Nat) : Bool := (s.pen o.pen).pages.any (fun x => x.2 = a / pageBytes &&
    (let p := x.1 * pageBytes + a % pageBytes
     ts.any (fun t => t.penAddr / 256 * 256 ≤ p && p < t.penAddr + t.roomBytes)))
  s.np.wc.any (fun e => e.writers.contains .fold && s.npBlocked e.source e.line && mine e.line) ||
    s.np.waiting.any (fun r => r.source == .fold && !r.kind.isRead && s.npWaits r && mine (lineOf r.kind.addr))

/-- R110, R257, R321: the release of an operator waits for its data, and for the update of its counter. -/
def State.endHeld (s : State) (o : Op) : Bool :=
  s.npHolds && o.recipeFor.isNone && (s.dataHeld o || (dSignalId o.desc != noCounter && s.counterHeld o.pen (dSignalId o.desc)))

/-- R207, R211: after values of an operator have been staged, the units that they complete leave; `prev` were staged before. -/
def State.releaseUnits (s : State) (id : Nat) (prev : List (Nat × Nat × Val)) (last : Bool) : State :=
  match s.op? id with
  | none => s
  | some o =>
    let w := (s.exposed o).writeUnits o.desc prev o.staged last
    ((s.releaseEffects o w.part.effects).touchStores o.pen (w.shared.map (fun a => (a, 1)))).modOp id (fun x => { x with
      staged := w.left, flags := x.flags ||| BitVec.ofNat 8 w.part.flags })

/-- R168, R171: the rows that no task writes, with what they leave staged. -/
def State.closeOp (s : State) (o : Op) : State :=
  let t := s.fillRows o
  (if o.tasks = [] || !(o.framed) then t.releaseUnits o.id o.staged true else t).modOp o.id (fun x => { x with closed := true })

/-- R110: every effect of an operator has been released. -/
def State.completeOp (s : State) (o : Op) : State :=
  let hs := (s.inputHandles o.desc ++ s.outputHandles o.desc).eraseDups
  let s1 := (s.forAll hs State.useTensor).removeOp o
  match o.recipeFor with
  | some h => match (s.tensor? h.toNat).bind Tensor.run with
    | some i => (s1.runDescriptor o.pen h.toNat (i + 1)).forAll hs State.idleTensor
    | none => s1
  | none =>
    let s2 := ((s1.countMiss o).signalAndRecord o o.flags.toNat).reportMark o
    ((s2.forAll hs State.idleTensor).sweepReleased).retryAllocs.sweepQueues

/-- Every task of an operator has been released; an attention operator that has no task has had its tables served. -/
def Op.finished (o : Op) : Bool :=
  o.opened && (o.tasks != [] || o.served) && o.tasks.all (fun t => t.phase = .done)

/-- R137, R138, R139: whether nothing of an operator is left to do: of a FENCE and a LAYER_MARK, that no operator it waited for is in
flight any more, completed or ended by a fault (log entry 168). -/
def State.opFinished (s : State) (o : Op) : Bool :=
  match dOpcode o.desc with
  | 0x41 | 0x42 => o.waitsFor.all (fun i => (s.op? i).isNone)
  | 0x43 => true
  | _ => o.finished

/-- Whether an operator can close or complete now. -/
def State.endsNow (s : State) (o : Op) : Bool := s.opFinished o && (!o.closed || !(s.endHeld o))

/-- Close and complete, one operator after another, those that can. -/
def State.endOps (s : State) : Nat → State
  | 0 => s
  | n + 1 => match s.comp.ops.find? s.endsNow with
    | some o => State.endOps (if o.closed then s.completeOp o else s.closeOp o) n
    | none => s

/-- R110, R137: operators with nothing left to do complete, and the fences that waited for them. -/
def State.completeEnded (s : State) : State := s.endOps (2 * s.comp.ops.length + 2)

/-! ## Issue from a ring (R84, R85, R107, R109) -/

/-- R109: whether the wait condition holds; a bad WAIT_ID does not wait (it fails its check). -/
def State.waitMet (s : State) (pen : Nat) (d : List Byte) : Bool :=
  65536 ≤ dWaitId d || (BitVec.ofNat 32 (s.signalCounter pen (dWaitId d)).toNat - BitVec.ofNat 32 (dWaitValue d)).toNat < 2 ^ 31

/-- R137: a FENCE or LAYER_MARK of the ring in flight holds it. -/
def State.ringFenced (s : State) (q : Nat) : Bool :=
  s.comp.ops.any (fun o => o.queue = q && o.recipeFor.isNone && (dOpcode o.desc = 0x41 || dOpcode o.desc = 0x42))

/-- R34, R85: BS4 outputs that are not near yet and that the Drover can bring near. -/
def State.bs4Waits (s : State) (d : List Byte) : List Nat :=
  ((s.used d).filter (fun u => isOut u.role && u.op.t.fmt = 9 && !u.op.t.readable &&
    (u.op.t.hasCopy || s.usable u.op.t || u.op.t.encodeFrom.isSome))).map (fun u => u.op.t.handle.toNat)

/-- R107: the ring halts at the descriptor, with its record; EXPECT_SEQ advances unless there is a gap (R304). -/
def State.issueFails (s : State) (q : Queue) (d : List Byte) (code : Nat) : State :=
  let t := s.modQueue q.id (fun x => { x.halt code with
    expectSeq := if dSeq d = x.expectSeq.toNat then x.expectSeq + 1 else x.expectSeq })
  t.completeOn q.id (t.completionRecord d code 0 0 0)

/-- R137: what a FENCE waits for: its ring, and with variant PEN the pen's other rings. -/
def State.fenceWaits (s : State) (q : Queue) (d : List Byte) : List Nat :=
  if dOpcode d = 0x41 || dOpcode d = 0x42 then
    ((s.comp.ops.filter (fun o => o.recipeFor.isNone && (o.queue = q.id ||
      (dOpcode d = 0x41 && dVariant d = 1 && o.pen = q.pen)))).map Op.id)
  else []

/-- R139: COUNT further descriptors of a ROP queue become eligible, as a doorbell makes them. -/
def State.collDoorbell (s : State) (d : List Byte) : State :=
  match s.queue? (collQueue d) with
  | none => s
  | some x => match x.add (collCount d) with
    | none => s.haltEvent x 0x20
    | some y => s.modQueue x.id (fun _ => y)

/-- The fault codes of the page service (Table 20.4). -/
def atnCode (n : Nat) : Nat := 0x90 + n

/-! ## Which task is next (R112, R151, R152, R162, R183) -/

/-- R355, R356: whether a pen's state lets an operator issue tasks. -/
def State.mayRun (s : State) (o : Op) : Bool :=
  s.boot.shepherdRuns && match (s.pen o.pen).state with
  | .running => !s.boot.ccDraining || !(o.repeatable) || o.recipeFor.isSome
  | .quiescing => !(o.repeatable) || o.recipeFor.isSome
  | .ready | .quiesced => o.recipeFor.isSome
  | .empty | .faulted | .wiping => false

/-- Whether a task may start as far as the other tasks of its operator go. -/
def Op.unblocked (o : Op) (t : Task) : Bool :=
  match t.tile with
  | .matrix b r _ c _ _ _ seg _ =>
    seg = 0 || o.tasks.any (fun x => x.phase = .done && (match x.tile with
      | .matrix b' r' _ c' _ _ _ seg' _ => b = b' && r = r' && c = c' && seg' + 1 = seg
      | .range _ _ | .attn _ _ _ _ _ => false))
  | .attn pass seq _ _ _ =>
    pass != 0 || o.tasks.all (fun x => match x.tile with
      | .attn 3 seq' _ _ _ => seq' != seq || x.phase = .done
      | _ => true)
  | .range _ _ => true

/-- R161: the tasks that start together with task `i`, itself among them. -/
def Op.gangOf (o : Op) (i : Nat) : List Nat :=
  match (o.tasks[i]?).bind Task.gang with
  | none => [i]
  | some g => (o.tasks.zipIdx.filter (fun x => x.1.phase = .waiting && x.1.gang == some g)).map Prod.snd

/-- R153, R154: the chain slots that tasks need before they can start: one for each segment 0 of a chain. -/
def Op.chainsFor (o : Op) (is : List Nat) : Nat :=
  (is.filter (fun i => match o.tasks[i]? with
    | some t => t.chain.isNone && (match t.tile with
      | .matrix _ _ _ _ _ _ _ 0 false => true
      | _ => false)
    | none => false)).length

/-- R154: a chain needs a slot before its segment 0. -/
def State.chainsFree (s : State) (o : Op) (is : List Nat) : Bool :=
  let n := o.chainsFor is
  n = 0 || s.comp.chains.length + n ≤ 256 && (!(s.pen o.pen).grazing ||
    ((s.comp.ops.filter (fun x => (s.pen x.pen).grazing)).map (fun x => ((x.tasks.filterMap Task.chain).eraseDups).length)).sum + n ≤ 64)

/-- R77: the work of a failed Fold waits while its slot is being taken over. -/
def State.heldBack (s : State) (t : Task) : Bool := match t.redo with
  | some k => (s.fold k).dueTakeover
  | none => false

/-- Whether a task, with its gang, may start as far as other tasks, chain slots and takeovers go. -/
def State.canStart (s : State) (o : Op) (i : Nat) : Bool :=
  let is := o.gangOf i
  is.all (fun j => match o.tasks[j]? with
    | some t => o.unblocked t && !(s.heldBack t)
    | none => false) && s.chainsFree o is

/-- The first task of an operator that can start, in task-list order. -/
def State.nextTask (s : State) (o : Op) : Option Nat :=
  (o.tasks.zipIdx.find? (fun x => x.1.phase = .waiting && s.canStart o x.2)).map Prod.snd

/-! ## Inputs and outputs of a task (R65, R70, R223, R241) -/

/-- A fetch whose every chunk has been issued or confirmed. -/
def Fetch.streaming (f : Fetch) : Bool := f.chunks.all (fun c => match c with
  | .issued | .confirmed _ => true
  | .waiting | .rejected | .cancelled => false)

/-- Outputs that must be near before the first task: in-place targets and BS4 outputs (R223). -/
def State.inPlaceHandles (s : State) (o : Op) : List Nat :=
  ((s.used o.desc).filter (fun u => u.role = 3 || (u.role = 2 && u.op.t.fmt = 9))).map (fun u => u.op.t.handle.toNat)

/-- What a task reads; a BS4 target without contents is allocated afresh (R34). -/
def State.readHandles (s : State) (o : Op) : List Nat :=
  (((s.inputHandles o.desc) ++ (if o.recipeFor.isSome then [] else s.inPlaceHandles o)).eraseDups).filter
    (fun h => !(s.freshScale o.desc h))

/-- The tables that only the page service reads, and in-place targets, never come provisional. -/
def State.provisionalOk (s : State) (o : Op) (t : Task) (h : Nat) : Bool :=
  !t.confirmedOnly && o.recipeFor.isNone && !((s.inPlaceHandles o).contains h) &&
    !([0, 1, 2].any (fun k => (slotRoles o.desc).getD k 0 = 1 && atnSlot o.desc k = h))

/-- R241: whether an input is at hand or streaming in. -/
def State.inputReady (s : State) (o : Op) (t : Task) (h : Nat) : Bool :=
  match s.tensor? h with
  | none => false
  | some x => s.baseGood x && (x.readable || (x.res = .far && s.provisionalOk o t h && (match x.fetch with
    | some f => f.streaming
    | none => false)))

/-- R249: the bases that an operator reads through DLT and that its pen must fault on. -/
def State.poisonedBase (s : State) (o : Op) : Option Nat :=
  (s.inputHandles o.desc).findSome? (fun h => match s.tensor? h with
    | none => none
    | some t =>
      if t.comp = 2 then
        match s.base? t.base.toNat with
        | some b =>
          if b.lost || s.drover.basePens.contains (t.base.toNat - 0x10000000, o.pen) then some t.base.toNat else none
        | none => none
      else none)

/-- R249: the pen takes BASE_POISON. -/
def State.takeBasePoison (s : State) (pen base : Nat) : State :=
  (s.modDrover (fun d => { d with basePens := d.basePens.filter (fun x => x != (base - 0x10000000, pen)) })).penFault pen 0x82 base

/-- R235, R239: in demand the Drover decides each tensor that an operator's task needs. -/
def State.demand (s : State) (o : Op) : State :=
  s.forAll (s.readHandles o) (fun u h => u.takePath o.pen h (u.demandDeadline o h) false)

/-- R223: the residence of an output at the operator's first confirmed task (R67): its far copy and moves end, and it becomes near. -/
def State.openOutput (s : State) (o : Op) (h : Nat) : State :=
  match s.tensor? h with
  | none => s
  | some t =>
    if o.recipeFor = some (BitVec.ofNat 32 h) then s
    else
      let u := (s.rejectOpen h).modTensor h (fun x => { (x.dropFar) with fetch := none, waitUntil := none, dead := false })
      if t.readable then u.abandonRun h
      else if t.res = .poisoned && !(s.writesWhole o h) then u.abandonRun h
      else ((u.becomeNear (h / 2 ^ 29) h .near).modTensor h Tensor.freshTables).abandonRun h

/-- R223: every output of an operator, once. -/
def State.openOutputs (s : State) (o : Op) : State :=
  if o.opened then s
  else (s.forAll (s.mayWrite o) (fun u h => u.openOutput o h)).modOp o.id (fun x => { x with opened := true })

/-- R266, R275: whether near pasture serves the reads of a tensor, and of its base. -/
def State.servesTensor (s : State) (src : NpSource) (t : Tensor) : Bool :=
  !(s.penHeld src (t.handle.toNat / 2 ^ 29) t.penAddr t.storedBytes) && (t.comp != 2 || (match s.base? t.base.toNat with
    | some b => !(s.npHeld src b.penAddr b.storedBytes)
    | none => true))

/-- R65: every byte that a task reads is at hand. -/
def State.inputsHere (s : State) (o : Op) : Bool :=
  (s.readHandles o).all (fun h => match s.tensor? h with
    | some t => t.readable && s.baseGood t && s.servesTensor .fold t
    | none => false)

/-- R153: where the partial plane lies that a task reads: its device address and its bytes. -/
def Task.planeIn (t : Task) : Option (Nat × Nat) :=
  match t.tile, t.chain with
  | .matrix _ rowLo rowHi colLo colHi _ _ seg _, some c =>
    if seg = 0 then none else some (planeAddr c ((seg + 1) % 2), 4 * (rowHi - rowLo) * (colHi - colLo))
  | _, _ => none

/-- R153, R275: whether near pasture holds the partial plane that a task reads. -/
def State.planeHeld (s : State) (t : Task) : Bool := t.planeIn.any (fun x => s.npHeld .fold x.1 x.2)

/-- R271: whether the partial plane that a task reads holds poison. -/
def State.planePoisoned (s : State) (t : Task) : Bool := t.planeIn.any (fun x => s.npPoisoned x.1 x.2)

/-! ## Poison (R245, R249, R271) -/

/-- The halves whose running task reads a tensor; every task of an operator is taken to read the whole input (log entry 22). -/
def State.runningReaders (s : State) (h : Nat) : List (Nat × Bool) :=
  allHalves.filter (fun x => match (s.half x.1 x.2).busy with
    | none => false
    | some (id, i) => match s.op? id with
      | none => false
      | some o => (s.readHandles o).contains h && (match o.tasks[i]? with
        | some t => t.phase = .running
        | none => false))

/-- R245: the near copy is discarded; `used` says that the poison was found by a read. -/
def State.poisonTensor (s : State) (pen : Nat) (t : Tensor) (used : Bool) : State :=
  let h := t.handle.toNat
  let readers := s.runningReaders h
  let saved := t.res = .both || s.usable t
  let s1 := if saved then s.forAll readers (fun u x => u.discardTask x.1 x.2 none) else s
  let s2 := (s1.dropNear pen t).modTensor h (fun x => { x with wb := none, res := if x.res = .far then .far else if saved then .none else .poisoned })
  if !saved && (used || readers != []) then s2.penFault pen 0x81 h else s2

/-- R249 steps 2 and 3: the pens with a live DLT tensor on the base. -/
def State.basePensOf (s : State) (n : Nat) : List Nat :=
  (List.range 8).filter (fun p => (s.pen p).tensors.any (fun t => t.comp = 2 && t.base.toNat = baseHandle n && !t.released))

/-- R249 step 4: the base moves to new near pages; its own are used again when no run is free. -/
def State.moveBase (s : State) (n : Nat) (t : Tensor) : State :=
  let u := (s.freeBasePages t).unstage t.handle.toNat
  let k := (basePages t).length
  match s.freeRun k with
  | some p => (u.modBase n (fun x => { x with penAddr := p * pageBytes })).modDrover
      (fun d => { d with nearUsed := d.nearUsed ++ (List.range k).map (p + ·) })
  | none => s

/-- R249 step 4: new near pages, and the golden copy is fetched. -/
def State.reloadBase (s : State) (n : Nat) : State :=
  match s.base? (baseHandle n) with
  | none => s
  | some t =>
    match t.far with
    | some f => if s.fetchable f && t.fetch.isNone && !t.lost then (s.moveBase n t).beginFetch (baseHandle n) s.time.clock else s
    | none => s

/-- R198, R251: a DLT encode on the base is abandoned. -/
def State.dropEncodesOn (s : State) (n : Nat) : State :=
  { s with pens := s.pens.map (fun p => { p with tensors := p.tensors.map (fun t => if t.base.toNat = baseHandle n then { t with encodeFrom := none } else t) }) }

/-- The pens with a running task that reads a DLT tensor on the base (R197). -/
def State.runningOn (s : State) (n : Nat) : List Nat :=
  (s.basePensOf n).filter (fun p => (s.pen p).tensors.any (fun t => t.comp = 2 && t.base.toNat = baseHandle n && s.runningReaders t.handle.toNat != []))

/-- R249. -/
def State.poisonBase (s : State) (n : Nat) : State :=
  let pens := s.basePensOf n
  let s1 := (s.modBase n (fun x => { x with res := .poisoned })).modDrover (fun d =>
    { d with basePens := (d.basePens ++ pens.map (fun p => (n, p))).eraseDups })
  ((s1.dropEncodesOn n).forAll (s.runningOn n) (fun u p => u.takeBasePoison p (baseHandle n))).reloadBase n

/-- R271: whether a tensor's near copy holds poison, and whether its base's does. -/
def State.tensorPoisoned (s : State) (t : Tensor) : Bool := s.penPoisoned (t.handle.toNat / 2 ^ 29) t.penAddr t.storedBytes

def State.basePoisoned (s : State) (t : Tensor) : Bool := t.comp = 2 && (match s.base? t.base.toNat with
  | some b => b.res = .both && s.npPoisoned b.penAddr b.storedBytes
  | none => false)

/-- R271: a read of a tensor has met poison, in its near copy or in its base. -/
def State.meetPoison (s : State) (t : Tensor) : State :=
  let u := if s.basePoisoned t then s.poisonBase (t.base.toNat - 0x10000000) else s
  (if s.tensorPoisoned t then u.poisonTensor (t.handle.toNat / 2 ^ 29) t true else u).retryAllocs

/-- The first tensor under some handles whose read meets poison. -/
def State.poisonedRead (s : State) (hs : List Nat) : Option Tensor :=
  hs.findSome? (fun h => match s.tensor? h with
    | some t => if s.tensorPoisoned t || s.basePoisoned t then some t else none
    | none => none)

/-- R58, R271: the task of a half takes its inputs once they are at hand: it loads its tiles, or meets the poison in them. -/
def State.takeInputs (s : State) (phys : Nat) (h : Bool) (o : Op) (t : Task) : State :=
  if (s.half phys h).stationary.isSome || !(s.inputsHere o) then s
  else match s.poisonedRead (s.readHandles o) with
    | some x => s.meetPoison x
    | none => s.loadTask phys h o t

/-! ## The page service and issue (R170, R85) -/

/-- The tables of an attention operator. -/
def State.atnTables (s : State) (d : List Byte) : List (Option Operand) :=
  ([0, 1, 2].filter (fun k => (slotRoles d).getD k 0 = 1)).map (s.slotOperand d)

/-- R170, R185: the page service's check and the task list, once the tables are near and are served, behind the flush of their lines
(R257); tables that another operator
writes meanwhile read indeterminate values. -/
def State.serveTables (s : State) (o : Op) : State :=
  if (dOpcode o.desc = 0x20 || dOpcode o.desc = 0x21) && !o.served &&
      (s.atnTables o.desc).all (fun x => x.any (fun y => y.t.readable && s.servesTensor .comet y.t)) then
    match s.poisonedRead ((s.atnTables o.desc).filterMap (fun x => x.map (fun y => y.t.handle.toNat))) with
    | some x => s.meetPoison x
    | none =>
      let t := s.forAll ((s.atnTables o.desc).filterMap id) (fun u y => u.penFlush o.pen y.t.penAddr y.t.storedBytes)
      let view := t.overlay (t.racyBytes o)
      match view.atnFault o.desc with
      | some (n, info) => ((t.spendRace o).opFault o (atnCode n) 0 none info).completeEnded
      | none => (t.spendRace o).modOp o.id (fun x => { x with tasks := (view.atnTiles o.desc).map newTask, served := true })
  else s

/-- What follows at once when an operator has issued. -/
def State.afterIssue (s : State) (id : Nat) (d : List Byte) : State :=
  match dOpcode d with
  | 0x41 | 0x42 => s.completeEnded
  | 0x43 => (s.collDoorbell d).completeEnded
  | 0x20 | 0x21 => match s.op? id with
    | none => s
    | some o => s.serveTables o
  | _ => s

/-- R85: an operator issues. -/
def State.issue (s : State) (q : Queue) (d : List Byte) : State :=
  let t := s.takeEntry q (fun x => { x with expectSeq := x.expectSeq + 1 })
  (t.newOp q.pen q.id q.head d (s.fenceWaits q d) none).afterIssue s.comp.nextOp d

/-- R34: the tensors whose tensor scale the checks of a descriptor read. -/
def State.bs4Scales (s : State) (d : List Byte) : List Tensor :=
  ((s.used d).filter (fun u => isOut u.role && u.op.t.fmt = 9 && u.op.t.readable)).map (fun u => u.op.t)

/-- The head descriptor of an OPR ring, if the ring takes it now and its opcode is the command's.  The check of a BS4 output reads its
tensor scale: the ring waits while near pasture holds the read (R275), and the tensor goes as R245 says when the read meets poison. -/
def State.issueHead (s : State) (q opcode : Nat) : State :=
  match s.queue? q with
  | none => s
  | some x =>
    if x.type != .opr || !(s.takes x) then s
    else match s.headEntry x with
      | .error st => s.haltEvent x st
      | .ok d =>
        if opcodeOk (dOpcode d) && dOpcode d != opcode then s
        else if s.ringFenced q then s
        else if !(s.waitMet x.pen d) then s
        else
          let need := s.bs4Waits d
          if (s.bs4Scales d).any (fun t => s.penHeld .fold x.pen (t.penAddr + t.scaleBase) 4) then s
          else if let some t := (s.bs4Scales d).find? (fun t => s.penPoisoned x.pen (t.penAddr + t.scaleBase) 4) then s.meetPoison t
          else if need != [] then
            s.forAll need (fun u h => u.takePath x.pen h ((s.needDeadline h).getD s.time.clock) false)
          else match s.issueError x d with
            | some code => s.issueFails x d code
            | none => s.issue x d

/-! ## Choosing (R112, R350) -/

/-- The physical Fold of an ACTIVE slot. -/
def State.slotFold (s : State) (n : Nat) : Option Nat :=
  match s.comp.slots[n]? with
  | none => none
  | some x =>
    let k := 34 * (n / 32) + x.phys
    if x.active && (s.fold k).state = .active then some k else none

/-- The free half of a Fold. -/
def State.freeHalf (s : State) (k : Nat) : Option Bool :=
  if (s.fold k).half0.busy.isNone then some false else if (s.fold k).half1.busy.isNone then some true else none

/-- ACTIVE slots with a free half: slot, Fold and half. -/
def State.freeSlots (s : State) : List (Nat × Nat × Bool) :=
  (List.range 128).filterMap (fun n => match s.slotFold n with
    | none => none
    | some k => (s.freeHalf k).map (fun h => (n, k, h)))

/-- The grazing tasks that have released no effect: slot, Fold, half and time of issue. -/
def State.preemptible (s : State) : List (Nat × Nat × Bool × Nat) :=
  (List.range 128).flatMap (fun n => match s.slotFold n with
    | none => []
    | some k => [false, true].filterMap (fun h =>
        match (s.half k h).busy with
        | some _ => if (s.pen (s.half k h).pen).grazing then some (n, k, h, (s.half k h).started) else none
        | none => none))

/-- R161: a gang starts only when it has a free ACTIVE slot for each member; R351: a primary pen's gang may count slots that
pre-emption frees. -/
def State.slotsFor (s : State) (o : Op) (n : Nat) : Bool :=
  n ≤ 1 ||
    (let free := s.freeSlots.map Prod.fst
     let more := if (s.pen o.pen).grazing then [] else (s.preemptible.map Prod.fst).filter (fun x => !(free.contains x))
     n ≤ (free ++ more).eraseDups.length)

/-- R229: whether the room of an output waits. -/
def State.roomWaits (s : State) (o : Op) : Bool :=
  !o.roomed && (s.mayWrite o).any (fun h => (s.tensor? h).any Tensor.allocWait)

/-- Whether an operator has a task that could start now. -/
def State.readyTask (s : State) (o : Op) : Option Nat :=
  if s.mayRun o && !(s.roomWaits o) then
    match s.nextTask o with
    | none => none
    | some i => match o.tasks[i]? with
      | some t => if (s.readHandles o).all (s.inputReady o t) && s.slotsFor o (o.gangOf i).length then some i else none
      | none => none
  else none

/-- R112: earliest deadline, then those without one, then issue order. -/
def State.opRank (s : State) (o : Op) : List Int :=
  match s.rankDeadline o with
  | some d => [0, (d : Int), (o.id : Int)]
  | none => [1, 0, (o.id : Int)]

/-- R350: the turn of a grazing pen. -/
def State.grazingRank (s : State) (o : Op) : List Int :=
  [(((o.pen + 7 - s.comp.lastGrazing) % 8 : Nat) : Int), (o.id : Int)]

/-- The best of a list of operators with a ready task. -/
def State.bestOp (s : State) (rank : Op → List Int) (os : List Op) : Option (Op × Nat) :=
  os.foldl (fun best o => match s.readyTask o with
    | none => best
    | some i => match best with
      | none => some (o, i)
      | some b => if lexLt (rank o) (rank b.1) then some (o, i) else best) none

/-! ## Placing (R71, R162) -/

/-- R162: the Fold of a chain's earlier segment. -/
def Op.previousFold (o : Op) (i : Nat) : Option Nat :=
  match (o.tasks[i]?).map Task.tile with
  | some (.matrix b r _ c _ _ _ seg _) => o.tasks.findSome? (fun x => match x.tile with
      | .matrix b' r' _ c' _ _ _ seg' _ => if b = b' && r = r' && c = c' && seg' + 1 = seg then x.fold else none
      | .range _ _ | .attn _ _ _ _ _ => none)
  | _ => none

/-- R76, R162: where a task goes, outside the Folds `taken`: the Fold of the chain's earlier segment, else the die with the most free
slots; after a failure, the failed Fold's die first. -/
def State.placeFor (s : State) (o : Op) (i : Nat) (taken : List Nat) : Option (Nat × Bool) :=
  let all := s.freeSlots.filter (fun x => !(taken.contains x.2.1))
  let home := match (o.tasks[i]?).bind Task.redo with
    | some k => all.filter (fun x => x.1 / 32 = k / 34)
    | none => []
  let fs := if home = [] then all else home
  let onDie (d : Nat) : Nat := (fs.filter (fun x => x.1 / 32 = d)).length
  match fs.find? (fun x => o.previousFold i = some x.2.1) with
  | some x => some x.2
  | none =>
    (fs.foldl (fun (best : Option (Nat × Nat × Bool)) x => match best with
      | none => some x
      | some b => if onDie (b.1 / 32) < onDie (x.1 / 32) then some x else best) none).map Prod.snd

/-- R65: the chunks of the task's inputs that are not yet confirmed. -/
def State.openChunks (s : State) (o : Op) : List ChunkId :=
  (s.readHandles o).flatMap (fun h => match s.tensor? h with
    | none => []
    | some t => match t.res, t.fetch with
      | .far, some f => (t.provisionalChunks f).map (fun c => { handle := t.handle, chunk := c })
      | _, _ => [])

/-- The lowest chain slot not taken. -/
def State.freeChain (s : State) : Nat := ((List.range 256).find? (fun n => !(s.comp.chains.contains n))).getD 0

/-- The chain slot of a task: a new one for segment 0, its chain's for a later one. -/
def State.chainFor (s : State) (o : Op) (t : Task) : Option Nat :=
  match t.tile with
  | .matrix _ _ _ _ _ _ _ 0 true => none
  | .matrix _ _ _ _ _ _ _ 0 false => some (t.chain.getD s.freeChain)
  | .matrix b r _ c _ _ _ _ _ => o.tasks.findSome? (fun x => match x.tile with
      | .matrix b' r' _ c' _ _ _ _ _ => if b = b' && r = r' && c = c' then x.chain else none
      | .range _ _ | .attn _ _ _ _ _ => none)
  | .range _ _ | .attn _ _ _ _ _ => none

/-- R59, R60, R65: the task takes a half, which is zeroed when another pen used it last; R58: it loads its tiles once they are at
hand; R67: a task that is confirmed from its start opens its operator's outputs. -/
def State.place (s : State) (o : Op) (i k : Nat) (h : Bool) : State :=
  match o.tasks[i]? with
  | none => s
  | some t =>
    let chain := s.chainFor o t
    let prov := s.openChunks o
    let s1 := s.modHalf k h (fun x => { AccHalf.idle with
      busy := some (o.id, i), pen := o.pen, prov := prov, lastPen := some o.pen
      acc := if x.lastPen = some o.pen then x.acc else [], started := s.time.clock })
    let s2 := s1.modOp o.id (fun x => { x with tasks := x.tasks.modify i (fun y =>
      { y with phase := .running, chain := chain, fold := some k }) })
    let taken (l : List Nat) : List Nat := match chain with
      | some n => if l.contains n then l else l ++ [n]
      | none => l
    let s3 := s2.modComp (fun c => { c with chains := taken c.chains
                                            lastGrazing := if (s.pen o.pen).grazing then o.pen else c.lastGrazing })
    let s4 := if prov = [] then s3.openOutputs ((s3.op? o.id).getD o) else s3
    s4.takeInputs k h o t

/-! ## Pre-emption (R351) -/

/-- R351: the most recently issued, ties to the lowest slot, outside the Folds `taken`. -/
def State.victimTask (s : State) (taken : List Nat) : Option (Nat × Bool) :=
  ((s.preemptible.filter (fun x => !(taken.contains x.2.1))).foldl (fun (best : Option (Nat × Nat × Bool × Nat)) x => match best with
    | none => some x
    | some b => if b.2.2.2 < x.2.2.2 then some x else best) none).map (fun x => (x.2.1, x.2.2.1))

/-- R351: the task stops, leaves nothing and waits to be issued again. -/
def State.preempt (s : State) (k : Nat) (h : Bool) : State :=
  match (s.half k h).busy with
  | none => s
  | some (id, i) => ((s.modHalf k h AccHalf.zeroed).modOp id (fun o => o.discard i none)).count 15 1

/-! ## The scheduler's step -/

/-- Place tasks one after another, each on a Fold of its own, pre-empting a grazing task where a primary one finds no half. -/
def State.placeAll (s : State) (o : Op) : List Nat → List Nat → State
  | [], _ => s
  | i :: r, taken =>
    match s.placeFor o i taken with
    | some (k, h) => State.placeAll (s.place ((s.op? o.id).getD o) i k h) o r (k :: taken)
    | none =>
      if (s.pen o.pen).grazing then s
      else match s.victimTask taken with
        | some (k, h) => State.placeAll ((s.preempt k h).place ((s.op? o.id).getD o) i k h) o r (k :: taken)
        | none => s

/-- R223: the outputs of an operator get their room, once; where it does not suffice they wait for it (R229). -/
def State.giveOutputs (s : State) (o : Op) : State × Bool :=
  if o.roomed then (s, true)
  else
    let r := s.roomOutputs o (s.mayWrite o)
    if r.2 then (r.1.modOp o.id (fun x => { x with roomed := true }), true)
    else (r.1.forAll (s.mayWrite o) (fun u h => u.setAllocWait h true), false)

/-- Start a ready task with its gang, and whether it could start: the outputs get their room at the operator's first task, but not for
a provisional one (R67). -/
def State.startTask (s : State) (o : Op) (i : Nat) : State × Bool :=
  let r := if s.openChunks o != [] then (s, true) else s.giveOutputs o
  if r.2 then (r.1.placeAll ((r.1.op? o.id).getD o) (o.gangOf i) [], true) else r

/-- R168, R171: an attention operator without a task writes its rows as soon as it has its room. -/
def State.finishTaskless (s : State) (o : Op) : State :=
  if o.served && o.tasks = [] then
    let r := s.giveOutputs o
    if r.2 then (r.1.openOutputs o).completeEnded else r.1
  else s

/-- Operators that may run, primary and grazing. -/
def State.opsOf (s : State) (grazing : Bool) : List Op :=
  s.comp.ops.filter (fun o => s.mayRun o && (s.pen o.pen).grazing == grazing)

/-- R170, R235, R249: what operators wait for before they have a ready task. -/
def State.serveNeeds (s : State) : State :=
  let s1 := s.forAll (s.comp.ops.filter s.mayRun) (fun u o => match u.poisonedBase o with
    | some b => u.takeBasePoison o.pen b
    | none => u)
  let s2 := s1.forAll (s1.comp.ops.filter s1.mayRun) State.demand
  let s3 := s2.forAll (s2.comp.ops.filter s2.mayRun) State.serveTables
  s3.forAll (s3.comp.ops.filter s3.mayRun) State.finishTaskless

/-- R112, R350: the task to place next: a primary pen's, else a grazing pen's. -/
def State.nextStart (s : State) : Option (Op × Nat) :=
  match s.bestOp s.opRank (s.opsOf false) with
  | some x => some x
  | none => s.bestOp s.grazingRank (s.opsOf true)

/-- Place the next task; an operator whose outputs have to wait for their room is passed over (R229, R350). -/
def State.startNext (s : State) : Nat → State
  | 0 => s
  | n + 1 => match s.nextStart with
    | some (o, i) =>
      let r := s.startTask o i
      if r.2 then r.1 else State.startNext r.1 n
    | none => s

/-- R162, R350: place one task. -/
def State.schedule (s : State) : State :=
  let t := s.serveNeeds
  t.startNext (t.comp.ops.length + 1)

end Sys2Proof.Machine
end

