-- ==== Sys2Proof/Machine/Time.lean ====
section
/-! DEFINITION. Time across devices (R335 to R339): the tree, TIME_SYNC, link delays, holdover and epochs; and TALLY_REQ
(R495), which travels the same tree. -/

namespace Sys2Proof.Machine

/-! ## The tree (R336) -/

/-- R336: the ports towards the Bellwether from coordinate `c`, in the order they are tried. -/
def towards (e c bw : B16) : List Nat :=
  ([3, 2, 1, 0].filter (fun a => axisOf c a != axisOf bw a)).map (fun a =>
    let n := extentOf e a
    let fwd := (axisOf bw a + n - axisOf c a) % n
    2 * a + natOfBool (n - fwd < fwd))

/-- R336: the port to the parent. -/
def State.parentPort (s : State) : Option Nat :=
  if s.fab.placed then (towards s.fab.extent s.fab.coord s.fab.bellwether).find? (fun p => (s.port p).lstate == .up) else none

/-- R336: the ports to the children: the neighbours that try this device first as their parent, and those that try it later and whose
earlier ports are DOWN, which no packet tells: a free value (log entry 50). -/
def State.childPorts (s : State) : List Nat :=
  if s.fab.placed then
    s.upPorts.filter (fun p =>
      let n := neighbourOf s.fab.extent s.fab.coord p
      let tried := (towards s.fab.extent n s.fab.bellwether).map (neighbourOf s.fab.extent n)
      n != s.fab.bellwether && (tried.head? == some s.fab.coord ||
        (tried.contains s.fab.coord && (Config.freeBits (s.free + p)).getLsbD 0)))
  else []

/-- A per-hop packet to every child but one behind a port. -/
def State.sendOn (s : State) (but ptype : Nat) (op : List Byte) : State :=
  let t := s.forAll (s.childPorts.filter (· != but)) (fun t p => t.sendHop p ptype op)
  t.spend 8

/-- A per-hop packet to every child. -/
def State.sendDown (s : State) (ptype : Nat) (op : List Byte) : State := s.sendOn 8 ptype op

/-! ## Roles and epochs -/

/-- R335: the epoch after one. -/
def nextEpoch (e : B16) : B16 := if e = 0xFFFF then 1 else e + 1

/-- R335, R338, R339: the role that the topology gives; the Bellwether is synchronised as soon as it is placed, and a new master runs on
TBCLK alone until a reference comes. -/
def State.retime (s : State) : State :=
  if !s.fab.placed then s.modTime (fun t => { t with role := 0, synced := false })
  else if s.isMaster then
    s.modTime (fun t => { t with role := 1, synced := true, epoch := if t.epoch = 0 then 1 else t.epoch, epochReq := false
                                 ratePpb := if t.role = 1 then t.ratePpb else 0, slewLeft := if t.role = 1 then t.slewLeft else none })
  else s.modTime (fun t => if t.role = 2 || t.role = 3 then t
    else { t with role := 2, synced := false, goodSyncs := 0, slewLeft := none, ratePpb := 0 })

/-- R338: a new epoch without a step. -/
def TimeUnit.newEpoch (t : TimeUnit) : TimeUnit := { t with epoch := nextEpoch t.epoch }

/-! ## TIME_SYNC (R336, R337, Table 13.5) -/

def syncOp (time epoch number path : Nat) : List Byte := leBytes 8 time ++ leBytes 2 epoch ++ leBytes 2 number ++ leBytes 8 path

def clampInt (lim x : Int) : Int := max (-lim) (min lim x)

/-- R339: one more TIME_SYNC with an offset below 1 µs, or none in a row. -/
def TimeUnit.judge (t : TimeUnit) (off : Int) : TimeUnit :=
  let n := if off.natAbs < 1000 then min 16 (t.goodSyncs + 1) else 0
  { t with goodSyncs := n, synced := n = 16 }

/-- R337: a rate correction by the offset over 1 s, at most 500 ppm. -/
def TimeUnit.slew (t : TimeUnit) (off : Int) : TimeUnit := { t.judge off with ratePpb := clampInt 500000 off }

/-- Table 13.5: what a TIME_SYNC that arrived at `arrived` does to a follower; a step ends the rate correction (log entry 51).  R338: a
new epoch that this device has not asked for, at an offset that a master's step would not leave, is adopted with its time unchanged (log
entry 188). -/
def TimeUnit.follow (t : TimeUnit) (port master epoch path arrived : Nat) : TimeUnit :=
  let off : Int := (master + path : Nat) - (arrived : Int)
  let u := { t with role := 2, parentPort := port, offset := clampInt 8388607 off, measured := off, slewLeft := none }
  if epoch = t.epoch.toNat then { u.slew off with epochReq := t.epochReq || 10000000 < off.natAbs }
  else if t.epoch = 0 || t.epochReq || 10000000 < off.natAbs then
    { u with now := BitVec.ofNat 64 (master + path + (t.now.toNat - arrived)), epoch := BitVec.ofNat 16 epoch, ratePpb := 0, frac := 0
             goodSyncs := 0, synced := false, epochReq := false }
  else { u with epoch := BitVec.ofNat 16 epoch, goodSyncs := 0 }.slew off

/-- Table 13.4: EPOCH_REQ. -/
def State.sendEpochReq (s : State) : State :=
  s.sendMgmt 0x23 s.fab.bellwether (leBytes 2 s.time.epoch.toNat ++ leBytes 8 (BitVec.ofInt 64 s.time.measured).toNat) []

/-- R336, R337: a TIME_SYNC from the parent; it goes on to the children with the path delay that has come, less the device time now,
to which its departure adds the time then (`State.departing`). -/
def execTimeSync (s : State) : Result :=
  let t := s.quiet
  match t.mgmtPacket 0x20 with
  | none => done t
  | some (inp, p) =>
    let u := t.takePacket (inp, p)
    if u.isMaster || u.parentPort != some inp then done u
    else
      let master := leField p 8 8
      let epoch := leField p 16 2
      let path := leField p 20 8 + (u.port inp).delay
      let stayed := u.time.now.toNat - u.arrival p
      let v := u.modTime (fun x => x.follow inp master epoch path (u.arrival p))
      let w := if v.time.epochReq then v.sendEpochReq else v
      done (w.sendDown 0x20 (syncOp master epoch (leField p 18 2) (path + stayed + 2 ^ 64 - w.time.now.toNat)))

def execTimeSyncPeriod (s : State) : Result :=
  let t := s.quiet
  if t.transitLive && t.isMaster then
    done ((t.sendDown 0x20 (syncOp t.time.now.toNat t.time.epoch.toNat t.time.syncNumber.toNat 0)).modTime
      (fun x => { x with syncNumber := x.syncNumber + 1 }))
  else done t

/-! ## Link delays -/

def execDelayReqPeriod (port : Fin 8) (s : State) : Result :=
  let t := s.quiet
  done (if (t.port port).lstate == .up then t.sendHop port 0x21 (leBytes 8 t.time.now.toNat) else t)

def execDelayReq (s : State) : Result :=
  let t := s.quiet
  match t.mgmtPacket 0x21 with
  | none => done t
  | some (inp, p) =>
    done ((t.takePacket (inp, p)).sendHop inp 0x22 (leBytes 8 (leField p 8 8) ++ leBytes 8 (t.arrival p) ++ leBytes 8 t.time.now.toNat))

/-- R336: half the round trip, the neighbour's own time left out. -/
def execDelayResp (s : State) : Result :=
  let t := s.quiet
  match t.mgmtPacket 0x22 with
  | none => done t
  | some (inp, p) =>
    let trip := t.arrival p - leField p 8 8 - (leField p 24 8 - leField p 16 8)
    done ((t.takePacket (inp, p)).modPort inp (fun x => { x with delay := trip / 2 }))

/-! ## Holdover and epochs -/

/-- R337: 10 ms without TIME_SYNC. -/
def execHoldover (s : State) : Result :=
  done (s.quiet.modTime (fun t => if t.role = 2 then { t with role := 3 } else t))

/-- R338: at the master. -/
def execEpochReq (s : State) : Result :=
  let t := s.quiet
  match t.mgmtPacket 0x23 with
  | none => done t
  | some x =>
    let u := t.takePacket x
    done (if u.isMaster then u.modTime TimeUnit.newEpoch else u)

/-- R338: a reference time at the master: a slew of at most 400 ppm, or a step and a new epoch. -/
def TimeUnit.refer (t : TimeUnit) (reference : Nat) : TimeUnit :=
  let off : Int := (reference : Int) - t.now.toNat
  if off.natAbs ≤ 10000000 then { t with ratePpb := if off < 0 then -400000 else 400000, slewLeft := some off, offset := clampInt 8388607 off }
  else { t.newEpoch with now := BitVec.ofNat 64 reference, ratePpb := 0, slewLeft := none, frac := 0, offset := clampInt 8388607 off }

/-! ## Readings (R339, Table 13.6) -/

/-- Table 13.6: a rate correction is in force. -/
def TimeUnit.slewing (t : TimeUnit) : Bool := t.ratePpb != 0 && t.slewLeft != some 0

/-- Table 13.6: TIME_STATUS. -/
def TimeUnit.status (t : TimeUnit) : Nat :=
  t.epoch.toNat + t.role <<< 16 + natOfBool t.synced <<< 18 + natOfBool t.slewing <<< 19 + t.parentPort <<< 20 +
    (BitVec.ofInt 24 t.offset).toNat <<< 24

/-- R339: the low half of TIME_NOW, and the latch of the rest. -/
def State.latchTime (s : State) : State :=
  s.modHost (fun h => { h with timeHigh := some (BitVec.ofNat 32 (s.time.now.toNat / 2 ^ 32)), timeEpoch := some s.time.epoch })

def execTimeNowRead (s : State) : Result :=
  let t := s.quiet
  done (t.latchTime.emit (.readData (leBytes 4 t.time.now.toNat) false))

/-! ## TALLY_REQ (R495) -/

/-- R494, R495: whether a snapshot at a time can be scheduled. -/
def State.tallyAllowed (s : State) (epoch : B16) (time : DWord) : Bool :=
  s.health.snapshot.isNone && epoch == s.time.epoch && s.time.now < time

def tallyOp (time epoch : Nat) : List Byte := leBytes 8 time ++ leBytes 2 epoch

def execTallyReq (s : State) : Result :=
  let t := s.quiet
  match t.mgmtPacket 0x2D with
  | none => done t
  | some (inp, p) =>
    let u := t.takePacket (inp, p)
    if u.isMaster || u.parentPort != some inp then done u
    else
      let time := BitVec.ofNat 64 (leField p 8 8)
      let epoch := BitVec.ofNat 16 (leField p 16 2)
      let v := if u.tallyAllowed epoch time then u.modHealth (fun h => { h with snapshot := some (epoch, time, none) }) else u.count 29 1
      done (v.sendDown 0x2D (tallyOp time.toNat epoch.toNat))

end Sys2Proof.Machine
end

