-- ==== Sys2Proof/Machine/Coordination.lean ====
section
/-! DEFINITION. Bellwether and deputy (R331 to R334), recovery (R341 to R344), ISOLATE (R296), the end of a topology change
(R297), the thermal notices of neighbours (R267) and the collective watchdog (R340). -/

namespace Sys2Proof.Machine

/-! ## Bellwether and deputy -/

def State.isBellwether (s : State) : Bool := s.isMaster && s.hubPresent
def State.isDeputy (s : State) : Bool := s.fab.placed && s.hubPresent && s.fab.coord == s.fab.deputy && s.fab.deputy != s.fab.bellwether

/-- R331: the deputy that follows a Bellwether: the next device number not known to be unusable. -/
def deputyOf (e bw : B16) (unusable : List B16) : B16 :=
  let n := extentProduct e
  let next := (List.range (n - 1)).map (fun i => coordOf e ((deviceNumber e bw + i + 1) % n))
  (next.find? (fun c => !(unusable.contains c))).getD bw

/-- The members on this device whose JOIN is outstanding. -/
def joinOp (x : Placement) : List Byte :=
  leBytes 2 x.jobKey.toNat ++ leBytes 2 x.lcoord.toNat ++ leBytes 2 x.lextent.toNat ++ leBytes 2 0 ++ leBytes 4 x.generation.toNat

/-- R342: a member of a job of more than one device, its pen bound to it. -/
def Pen.inJob (p : Pen) (key : B16) : Bool := match p.placement with
  | some x => x.lextent != 0 && x.jobKey == key
  | none => false

def State.sendJoin (s : State) (pen : Nat) : State := match (s.pen pen).placement with
  | some x => s.sendLeaders 0x26 (joinOp x)
  | none => s

/-- R342: a JOIN is sent, and again until it is answered. -/
def State.join (s : State) (pen : Nat) : State := (s.modPen pen (fun p => { p with joining := true })).sendJoin pen

/-- R332: every member that runs sends its JOIN again. -/
def State.rejoin (s : State) : State :=
  s.forAll ((List.range 8).filter (fun p => (s.pen p).member && (s.pen p).jobKey != 0 && (s.pen p).state.live)) State.join

def changeOp (bw dep : B16) : List Byte := leBytes 2 bw.toNat ++ leBytes 2 dep.toNat

/-- R332: name a Bellwether and a deputy in the topology. -/
def State.nameLeaders (s : State) (bw dep : B16) : State :=
  ((s.modFab (fun f => { f with bellwether := bw, deputy := dep })).modBoot (fun b => { b with coordinatorLost := false })).retime

/-- R331, R344: a Bellwether names the next device as deputy, itself as Bellwether, and says so down the tree. -/
def State.nameDeputy (s : State) : State :=
  let u := s.nameLeaders s.fab.coord (deputyOf s.fab.extent s.fab.coord s.coord.unusable)
  (u.sendDown 0x25 (changeOp u.fab.bellwether u.fab.deputy)).rejoin

/-- R331: a device is known to be out of use; the Bellwether replaces a deputy that is (R344). -/
def State.markUnusable (s : State) (c : B16) : State :=
  let t := s.modCoord (fun x => if x.unusable.contains c then x else { x with unusable := x.unusable ++ [c] })
  if t.isBellwether && c == t.fab.deputy then t.nameDeputy else t

/-- The first packet of PTYPE 0x24 whose byte 8 satisfies `f`. -/
def State.beaconPacket (s : State) (f : Nat → Bool) : Option (Nat × Packet) :=
  s.fab.ejected.find? (fun x => pType x.2 = 0x24 && pVc x.2 = 3 && f (leField x.2 8 1))

/-- R332: a BEACON at the deputy ends any doubt about the Bellwether. -/
def execBeacon (s : State) : Result :=
  let t := s.quiet
  match t.beaconPacket (· = 0) with
  | none => done t
  | some x =>
    let u := t.takePacket x
    done (if u.isDeputy && pSrc x.2 == u.fab.bellwether then u.modCoord (fun c => { c with probing := false }) else u)

def execBeaconPeriod (s : State) : Result :=
  let t := s.quiet
  done (if t.isBellwether && t.fab.deputy != t.fab.bellwether then t.sendMgmt 0x24 t.fab.deputy [0] [] else t)

def execBeaconTimeout (s : State) : Result :=
  let t := s.quiet
  done (if t.isDeputy then (t.modCoord (fun c => { c with probing := true })).sendMgmt 0x24 t.fab.bellwether [1] [] else t)

/-- R343: recoveries in progress are restarted. -/
def Job.restarted (j : Job) : Job :=
  if j.phase = .halt || j.phase = .plan || j.phase = .restart then { j with phase := .collect, notices := [] } else j

/-- R332, R343: the deputy whose PROBE finds no Bellwether takes its place. -/
def State.takeOver (s : State) : State :=
  if s.coord.probing && s.isDeputy then
    (s.modCoord (fun c => { c with probing := false, jobs := c.jobs.map Job.restarted })).nameDeputy
  else s

/-- R332, R344: what a REFUSAL tells a leader of the device that sent it, by byte 8 of what was refused, where that was no remote
operation: a PROBE that found no Bellwether; and a device in transit-only mode. -/
def State.leaderRefused (s : State) (src : B16) (kind status : Nat) : State :=
  let t := if kind = 1 && (status = 1 || status = 5) && src == s.fab.bellwether then s.takeOver else s
  if status = 5 && (t.isBellwether || t.isDeputy) then t.markUnusable src else t

/-- R332: a PROBE at the Bellwether is answered; the answer at the deputy cancels its takeover. -/
def execProbe (s : State) : Result :=
  let t := s.quiet
  match t.beaconPacket (· != 0) with
  | none => done t
  | some x =>
    let u := t.takePacket x
    done (match leField x.2 8 1 with
      | 1 => if u.isBellwether then u.sendMgmt 0x24 (pSrc x.2) [2] [] else u
      | 2 => u.modCoord (fun c => { c with probing := false })
      | _ => u)

/-! ## The job table (R332, R342) -/

def State.job? (s : State) (key : B16) : Option Job := s.coord.jobs.find? (fun j => j.key = key)

def State.modJob (s : State) (key : B16) (f : Job → Job) : State :=
  s.modCoord (fun c => { c with jobs := c.jobs.map (fun j => if j.key = key then f j else j) })

/-- The phase codes of Table 17.4. -/
def RecPhase.code : RecPhase → Nat
  | .forming | .running => 0
  | .collect => 1
  | .halt => 2
  | .plan | .restart => 4
  | .stopped => 5

def recoveryOp (key : B16) (phase status : Nat) (gen : Word) : List Byte :=
  leBytes 2 key.toNat ++ [BitVec.ofNat 8 phase, BitVec.ofNat 8 status] ++ leBytes 4 gen.toNat

def subBytes (l : List (B16 × B16)) : List Byte := l.flatMap (fun x => leBytes 2 x.1.toNat ++ leBytes 2 x.2.toNat)

/-- Tables 13.4 and 13.7: the RECOVERY of a job's phase, to one member, with the substitution list in every phase (log entry 189). -/
def State.sendRecovery (s : State) (j : Job) (m : Member) : State :=
  s.sendMgmt 0x29 m.coord (recoveryOp j.key j.phase.code (if j.phase = .stopped then stSpares else 0) j.generation)
    (subBytes j.subs)

/-- The phases whose RECOVERY each live member acknowledges (log entry 52). -/
def RecPhase.announced (p : RecPhase) : Bool := p = .running || p = .halt || p = .plan || p = .stopped

/-- The members that still have to acknowledge. -/
def Job.waiting (j : Job) : List Member := j.members.filter (fun m => !m.failed && !m.acked)

/-- Enter a phase and tell every live member. -/
def State.announce (s : State) (key : B16) (phase : RecPhase) : State :=
  let t := s.modJob key (fun j => { j with phase := phase, members := j.members.map (fun m => { m with acked := false }) })
  match t.job? key with
  | none => t
  | some j => t.forAll j.waiting (fun u m => u.sendRecovery j m)

/-- R296, R342: a failed member is sent ISOLATE, and its coordinate is no longer usable. -/
def State.isolateMember (s : State) (key : B16) (m : Member) : State :=
  ((s.modJob key (fun j => { j with members := j.members.map (fun x => if x.coord = m.coord then { x with failed := true } else x) })).sendMgmt
    0x28 m.coord (leBytes 2 s.fab.coord.toNat) []).markUnusable m.coord

/-! ## Substitutes (R341) -/

/-- R322: the SPARE bits of a job, from this device's own placement record; a Bellwether that holds none of the job's pens is
told them by no packet, so a free value stands for them (log entry 53). -/
def State.spareBits (s : State) (key : B16) : DWord × State :=
  match s.pens.findSome? (fun p => if p.inJob key then p.placement else none) with
  | some x => (x.spare, s)
  | none => s.draw

/-- R341: whether a device is placed and not in transit-only mode, as far as this one does not know it: a free value (log entry 185). -/
def State.deviceServes (s : State) (c : B16) : Bool := (Config.freeBits (s.free + deviceNumber s.fab.extent c)).getLsbD 0

/-- R341: the substitute of a failed coordinate. -/
def State.substitute (s : State) (j : Job) (spare : DWord) (c : B16) : Option B16 :=
  (List.range 4).findSome? (fun a => (List.range (extentOf s.fab.extent a)).findSome? (fun k =>
    let d := setAxis c a k
    if spare.getLsbD (16 * a + k) && !(s.coord.unusable.contains d) && s.deviceServes d && !(j.members.any (fun m => m.coord = d)) &&
        !(j.subs.any (fun x => x.2 = d)) then some d else none))

/-- R341: each failed member is replaced; none when some failed device has no usable spare, or the list of 64 entries is full (log entry
185). -/
def State.planJob (s : State) (spare : DWord) : Job → List Member → Option Job
  | j, [] => some j
  | j, m :: rest =>
    match (if j.subs.length < 64 then s.substitute j spare m.coord else none) with
    | none => none
    | some d =>
      State.planJob s spare { j with
        members := j.members.map (fun x => if x.coord = m.coord then { x with coord := d, failed := false, joined := false, acked := false } else x)
        subs := j.subs ++ [(m.coord, d)] } rest

/-- Table 13.7: PLAN. -/
def State.enterPlan (s : State) (key : B16) : State :=
  match s.job? key with
  | none => s
  | some j =>
    let failed := j.members.filter (·.failed)
    let r := if failed = [] then (0, s) else s.spareBits key
    let t := r.2.spend (extentProduct r.2.fab.extent)
    match r.2.planJob r.1 j failed with
    | some k => (t.modJob key (fun _ => k)).announce key .plan
    | none => t.announce key .stopped

/-- Table 13.7: leave HALT and PLAN once every live member has acknowledged. -/
def State.advanceJob (s : State) (key : B16) : State :=
  match s.job? key with
  | none => s
  | some j =>
    if j.waiting != [] then s
    else match j.phase with
      | .halt => s.enterPlan key
      | .plan => s.modJob key (fun x => { x with phase := .restart })
      | _ => s

/-- Table 13.7: RUNNING, once every member has joined at the job's generation; the deputy, which sees no acknowledgement, knows HALT,
PLAN and RESTART only as one. -/
def State.settleJob (s : State) (key : B16) : State :=
  match s.job? key with
  | none => s
  | some j =>
    if (j.phase = .forming || j.phase = .restart || (j.phase = .halt && !s.isBellwether)) && (j.members.filter (·.joined)).length = extentProduct j.lextent then
      if s.isBellwether then s.announce key .running else s.modJob key (fun x => { x with phase := .running })
    else s

/-! ## JOIN -/

/-- R332, R342: a JOIN in the job table.  One of a higher generation than the table's starts the table afresh at it; one with the LCOORD
of a member that has not joined, from another device, is its substitute's, and the table of the deputy follows. -/
def Job.joined (j : Job) (c lcoord : B16) (gen : Word) : Job :=
  let b := if j.generation.toNat < gen.toNat then
      { j with generation := gen, phase := .forming, members := j.members.map (fun m => { m with joined := false }) } else j
  let m : Member := { coord := c, lcoord := lcoord, joined := true, acked := false, failed := false }
  if b.members.any (fun x => x.coord = c) then
    { b with members := b.members.map (fun x => if x.coord = c then { x with lcoord := lcoord, joined := true } else x) }
  else match b.members.find? (fun x => x.lcoord = lcoord && !x.joined) with
    | some old => { b with members := b.members.map (fun x => if x.coord = old.coord then m else x), subs := (b.subs ++ [(old.coord, c)]).take 64 }
    | none => { b with members := b.members ++ [m] }

def State.takeJoin (s : State) (c key lcoord lextent : B16) (gen : Word) : State :=
  match s.job? key with
  | none =>
    let j : Job := { key := key, lextent := lextent, members := [], phase := .forming, generation := gen, notices := [], subs := [] }
    (s.modCoord (fun x => { x with jobs := x.jobs ++ [j.joined c lcoord gen] })).settleJob key
  | some j =>
    if gen.toNat < j.generation.toNat then s
    else
      let t := (s.modJob key (fun x => x.joined c lcoord gen)).settleJob key
      if j.phase = .running && t.isBellwether then
        match t.job? key with
        | some k => t.forAll (k.members.filter (fun m => m.coord = c)) (fun u m => u.sendRecovery k m)
        | none => t
      else t

def execJoin (s : State) : Result :=
  let t := s.quiet
  match t.mgmtPacket 0x26 with
  | none => done t
  | some x =>
    let u := t.takePacket x
    let f (o n : Nat) : Nat := leField x.2 o n
    done (if u.isBellwether || u.isDeputy then
        u.takeJoin (pSrc x.2) (BitVec.ofNat 16 (f 8 2)) (BitVec.ofNat 16 (f 10 2)) (BitVec.ofNat 16 (f 12 2)) (BitVec.ofNat 32 (f 16 4))
      else u.count 29 1)

/-! ## FAULT_NOTICE and collection -/

/-- R342 to R344: a notice opens, joins or reopens collection, whatever generation it carries; a repetition while collection is open
counts once (log entry 54). -/
def Job.noticed (j : Job) (c : B16) (cause : Nat) : Job :=
  if j.phase = .stopped then j
  else if j.phase = .collect then (if j.notices.contains (c, cause) then j else { j with notices := j.notices ++ [(c, cause)] })
  else { j with phase := .collect, notices := [(c, cause)] }

/-- R342, R344: a notice at a leader; a device that reports an uncontained hub fault (cause 0xFF) is in transit-only mode (R296). -/
def execFaultNotice (s : State) : Result :=
  let t := s.quiet
  match t.mgmtPacket 0x27 with
  | none => done t
  | some x =>
    let u := t.takePacket x
    let cause := leField x.2 10 1
    done (if u.isBellwether || u.isDeputy then
        let v := u.modJob (BitVec.ofNat 16 (leField x.2 8 2)) (fun j => j.noticed (pSrc x.2) cause)
        if cause = 0xFF then v.markUnusable (pSrc x.2) else v
      else u.count 29 1)

/-- R342: a recovery starts: its generation is incremented, and every member is to join again. -/
def Job.halted (j : Job) : Job :=
  { j with generation := j.generation + 1, members := j.members.map (fun m => { m with joined := false }) }

/-- Table 13.7: 50 ms of collection end: the generation is incremented and HALT begins; members that reported an uncontained
hub fault (cause 0xFF) are failed.  R332, R343: the deputy counts the generation along, so that it raises it further when it takes
over. -/
def execCollectEnd (key : B16) (s : State) : Result :=
  let t := s.quiet
  match t.job? key with
  | none => done t
  | some j =>
    if j.phase = .collect && t.isBellwether then
      let dead := j.members.filter (fun m => j.notices.contains (m.coord, 0xFF))
      let u := (t.modJob key Job.halted).forAll dead (fun v m => v.isolateMember key m)
      done ((u.announce key .halt).advanceJob key)
    else if j.phase = .collect && t.isDeputy then done (t.modJob key (fun x => { x.halted with phase := .halt }))
    else done t

/-- Table 13.7: a member that has not acknowledged HALT within 1 s is failed; one that has not acknowledged the plan is failed too, and
the recovery restarts (log entry 186). -/
def execHaltAckTimeout (key : B16) (s : State) : Result :=
  let t := s.quiet
  match t.job? key with
  | none => done t
  | some j =>
    if j.phase = .halt && t.isBellwether then
      done ((t.forAll j.waiting (fun u m => u.isolateMember key m)).advanceJob key)
    else if j.phase = .plan && t.isBellwether && j.waiting != [] then
      done ((t.forAll j.waiting (fun u m => u.isolateMember key m)).modJob key Job.restarted)
    else done t

def execRecoveryAck (s : State) : Result :=
  let t := s.quiet
  match t.mgmtPacket 0x2A with
  | none => done t
  | some x =>
    let u := t.takePacket x
    let key := BitVec.ofNat 16 (leField x.2 8 2)
    done (if u.isBellwether then
        (u.modJob key (fun j =>
          if leField x.2 12 4 = j.generation.toNat && leField x.2 10 1 = j.phase.code && j.phase.announced then
            { j with members := j.members.map (fun m => if m.coord = pSrc x.2 then { m with acked := true } else m) }
          else j)).advanceJob key
      else u.count 29 1)

/-! ## RECOVERY at a member -/

def parseSubs (p : Packet) : List (B16 × B16) :=
  (List.range (16 * (pSlots p - 2) / 4)).filterMap (fun i =>
    let a := leField (pPayload p) (4 * i) 2
    let b := leField (pPayload p) (4 * i + 2) 2
    if a = b then none else some (BitVec.ofNat 16 a, BitVec.ofNat 16 b))

/-- R416: keep the report; a change of phase is a health event of the functions of the job's pens (Table 16.5). -/
def State.keepReport (s : State) (key : B16) (r : RecoveryReport) : State :=
  let old := s.report key
  let t := s.modCoord (fun c => { c with reports := c.reports.filter (fun x => x.1 != key) ++ [(key, r)] })
  if old.map RecoveryReport.phase = some r.phase then t
  else t.forAll ((List.range 8).filter (fun p => (s.pen p).inJob key)) (fun u p => u.healthEvent (u.penFunction p) 3)

/-- Table 13.7: what a member does on RECOVERY; every action depends only on the generation and the list (R343). -/
def State.actOn (s : State) (key : B16) (r : RecoveryReport) : State :=
  s.forAll ((List.range 8).filter (fun p => (s.pen p).inJob key)) (fun t p =>
    let gen := ((t.pen p).placement.map Placement.generation).getD 0
    let u := t.modPen p (fun x => { x with notices := x.notices.filter (fun n => n.key != key || r.generation.toNat ≤ n.generation.toNat) })
    match r.phase with
    | 0 => if gen = r.generation then u.modPen p (fun x => { x with joining := false }) else u
    | 2 | 5 =>
      let st := (u.pen p).state
      let v := if (st = .running || st = .quiescing || st = .quiesced) && gen.toNat < r.generation.toNat then (u.abortPen p).retryAllocs else u
      if r.phase = 5 then v.modPen p (fun x => { x with jobStatus := r.status }) else v
    | _ => u)

def execRecovery (s : State) : Result :=
  let t := s.quiet
  match t.mgmtPacket 0x29 with
  | none => done t
  | some x =>
    let u := t.takePacket x
    let key := BitVec.ofNat 16 (leField x.2 8 2)
    let r : RecoveryReport := { phase := leField x.2 10 1, status := leField x.2 11 1, generation := BitVec.ofNat 32 (leField x.2 12 4), subs := parseSubs x.2 }
    if !u.hubPresent then done (u.count 29 1)
    else if r.generation.toNat < (u.generation key).toNat then done u
    else
      done (((u.keepReport key r).actOn key r).sendMgmt 0x2A (pSrc x.2)
        (leBytes 2 key.toNat ++ [BitVec.ofNat 8 r.phase, 0] ++ leBytes 4 r.generation.toNat) [])

/-! ## Taking over (R332, R343) -/

def execProbeTimeout (s : State) : Result := done s.quiet.takeOver

/-- R332: a change that is new goes on down the tree, and members send JOIN again. -/
def execBellwetherChange (s : State) : Result :=
  let t := s.quiet
  match t.mgmtPacket 0x25 with
  | none => done t
  | some (inp, p) =>
    let u := t.takePacket (inp, p)
    let bw := BitVec.ofNat 16 (leField p 8 2)
    let dep := BitVec.ofNat 16 (leField p 10 2)
    if bw = u.fab.bellwether && dep = u.fab.deputy then done u
    else
      let v := u.nameLeaders bw dep
      done ((v.sendOn inp 0x25 (changeOp bw dep)).rejoin)

/-- R333: a FAULT_NOTICE unanswered for 1 s. -/
def execCoordinatorLost (pen : Fin 8) (s : State) : Result :=
  let t := s.quiet
  done (if (t.pen pen).notices != [] then t.modBoot (fun b => { b with coordinatorLost := true }) else t)

/-- R334: what is unanswered goes again. -/
def execManagementResend (s : State) : Result :=
  let t := s.quiet
  let t1 := if t.time.epochReq then t.sendEpochReq else t
  let t2 := t1.forAll (List.range 8) (fun u p =>
    let v := if (u.pen p).joining then u.sendJoin p else u
    v.forAll (v.pen p).notices State.sendNotice)
  done (if t2.isBellwether then
      t2.forAll (t2.coord.jobs.filter (fun j => j.phase.announced)) (fun u j => u.forAll j.waiting (fun v m => v.sendRecovery j m))
    else t2)

/-! ## ISOLATE (R296) -/

def execIsolate (s : State) : Result :=
  let t := s.quiet
  match t.mgmtPacket 0x28 with
  | none => done t
  | some x =>
    let u := t.takePacket x
    done (if u.fab.placed && (pSrc x.2 == u.fab.bellwether || pSrc x.2 == u.fab.deputy) then u.enterTransitOnly false else u.count 29 1)

/-! ## A topology change (R297) -/

/-- R278, R287, R297: a port after its link reset: it negotiates again, or stays disabled on an axis of extent 1. -/
def linkReset (off : Bool) (p : Port) : Port :=
  let q : Port := { Port.initial with retrains := p.retrains, trained := p.trained }
  if off then { q with lstate := .disabled } else q.negotiate

/-- R297: write the topology; a change of the coordinate or the extents starts all ports again. -/
def State.setTopology (s : State) (x : TopoChange) : State :=
  let t := s.modFab (fun f => { f with coord := x.coord, extent := x.extent, placed := x.placed
                                       rings := List.replicate 4 { breaks := [] } })
  (t.forAll (List.range 8) (fun u p => u.modPort p (linkReset (u.portDisabled p)))).nameLeaders x.bellwether x.deputy

/-- R292: the ports whose links the rings know to be broken. -/
def State.brokenPorts (s : State) : List Nat :=
  (List.range 8).filter (fun p => s.fab.placed && s.linkBroken (p / 2) (linkStart s.fab.extent s.fab.coord p))

/-- R292, R297: under the new topology the links of the ports that went DOWN are breaks of its rings until the ports return. -/
def State.breakLinks (s : State) (ports : List Nat) : State :=
  if s.fab.placed then
    s.modFab (fun f => { f with rings := ports.foldl (fun l p => if s.portDisabled p then l
      else l.modify (p / 2) (fun r => { r with breaks := setBreak r.breaks (linkStart f.extent f.coord p) true })) f.rings })
  else s

/-- R297: the drain ends: what remains is refused or dropped (R293), all eight ports are link-reset, and the new topology stands. -/
def execTopologyDrainComplete (s : State) : Result :=
  let t := s.quiet
  match t.fab.draining with
  | none => done t
  | some x =>
    let down := t.forAll t.upPorts State.portDown
    let t1 := (down.modFab (fun f => { f with draining := none, inject := [] })).forAll down.fab.inject (fun u p => u.cannotDeliver p 2)
    let t2 := (t1.setTopology x).breakLinks t1.brokenPorts
    done (match x.slot with
      | some i => t2.answer i stOk []
      | none => t2)

/-! ## Neighbours' thermal notices (R267) and the collective watchdog (R340) -/

def execSlow (s : State) : Result :=
  let t := s.quiet
  match t.mgmtPacket 0x2B with
  | none => done t
  | some (inp, p) => done ((t.takePacket (inp, p)).modPort inp (fun x => { x with slow := leField p 8 1 = 1 }))

def execSlowExpiry (port : Fin 8) (s : State) : Result := done (s.quiet.modPort port (fun p => { p with slow := false }))

/-- R340: the head operator of an OPR ring waits on a counter; its WAIT_ID. -/
def State.waitingHead (s : State) (q : Queue) : Option Nat :=
  if q.type == .opr && s.takes q then
    match s.headEntry q with
    | .ok d => if s.waitMet q.pen d then none else some (dWaitId d)
    | .error _ => none
  else none

def execCollWatchdog (q : Nat) (s : State) : Result :=
  let t := s.quiet
  match t.queue? q with
  | none => done t
  | some x =>
    match t.waitingHead x with
    | some id => done (if (t.pen x.pen).member then (t.penFault x.pen 0x84 (q % 2 ^ 20 + id <<< 32)).retryAllocs else t)
    | none => done t

end Sys2Proof.Machine
end

