-- ==== Sys2Proof/Machine/Itinerary.lean ====
section
/-! DEFINITION. ITINERARY_LOAD: what an itinerary's tensor holds (R233, R234), the load and its response (R420). -/

namespace Sys2Proof.Machine

/-! ## ITINERARY_LOAD (R233, R234, R420) -/

/-- Table 9.7 with its needs of Table 9.8. -/
def parsePoint (b : List Byte) (pOff nOff j : Nat) : Point :=
  let o := pOff + 16 * j
  let first := leField b (o + 8) 4
  { layer := leField b o 3, phase := leField b (o + 3) 1, microBatch := leField b (o + 4) 2, durationUs := leField b (o + 12) 4
    needs := (List.range (leField b (o + 6) 2)).map (fun i =>
      (BitVec.ofNat 32 (leField b (nOff + 8 * (first + i)) 4), leField b (nOff + 8 * (first + i) + 4) 1)) }

/-- R323: the pipeline coordinate of the device in the pen's job. -/
def Pen.pipeline (p : Pen) : Nat := match p.placement with
  | some x =>
    let axis := bitsOf x.cutMap.toNat 5 3
    if axis < 4 then axisOf x.lcoord axis else 0
  | none => 0

/-- R163, R234: the pipeline stages of the pen's job; one without a pipeline axis. -/
def Pen.stages (p : Pen) : Nat := match p.placement with
  | some x =>
    let axis := bitsOf x.cutMap.toNat 5 3
    if axis < 4 then extentOf x.lextent axis else 1
  | none => 1

/-- R234: whether layers from `lo` to `hi` can lie in the R163 range of stage `p` of `n`.  Without a stage table the header gives no layer
count (Table 9.6), so the largest count is taken whose range of stage `p` starts at `lo` or before (log entry 78). -/
def layersFit (n p lo hi : Nat) : Bool :=
  p = 0 || (let r := layerRange (n * (lo / p) + lo % p) n p
    hi < r.1 + r.2)

/-- R234: the stage entries: contiguous from layer 0, each at least 1, summing to LAYER_COUNT. -/
def stagesOk : Nat → List (Nat × Nat) → Nat → Bool
  | at', [], layers => at' = layers
  | at', (first, n) :: r, layers => first = at' && 1 ≤ n && stagesOk (at' + n) r layers

/-- R233, R234: the itinerary that bytes hold; none for a violation. -/
def State.parseItinerary (s : State) (pen : Nat) (b : List Byte) : Option Itinerary :=
  let look := leField b 1 1
  let stages := leField b 2 2
  let points := leField b 4 4
  let needs := leField b 8 4
  let pOff := leField b 16 8
  let nOff := leField b 24 8
  let table := (List.range stages).map (fun i => (leField b (64 + 8 * i) 4, leField b (68 + 8 * i) 4))
  let range := table[(s.pen pen).pipeline]?
  if b.length < 64 || leField b 0 1 != 1 || look = 0 || 64 < look || 16 < stages || points = 0 || 65536 < points || 16777216 < needs ||
      (stages = 0 && leField b 12 4 != 0) || pOff % 16 != 0 || nOff % 8 != 0 || ((b.drop 32).take 32).any (· != 0) ||
      b.length < 64 + 8 * stages || b.length < pOff + 16 * points || b.length < nOff + 8 * needs then none
  else
    let ps := (List.range points).map (parsePoint b pOff nOff)
    let keys := ps.map (fun q => (q.layer, q.phase, q.microBatch))
    if (stages != 0 && (!(stagesOk 0 table (leField b 12 4)) || range.isNone)) || !(decide keys.Nodup) ||
        ps.any (fun q => 2 < q.phase || (match range with
          | some (first, n) => q.layer < first || first + n ≤ q.layer
          | none => false)) ||
        (stages = 0 && !(layersFit (s.pen pen).stages (s.pen pen).pipeline (ps.foldl (fun m q => min m q.layer) (2 ^ 24))
          (ps.foldl (fun m q => max m q.layer) 0))) ||
        (List.range points).any (fun j => needs < leField b (pOff + 16 * j + 8) 4 + leField b (pOff + 16 * j + 6) 2) ||
        (List.range needs).any (fun i =>
          let o := nOff + 8 * i
          2 < leField b (o + 4) 1 || leField b (o + 5) 3 != 0 || leField b o 4 / 2 ^ 29 != pen || !(s.live? (leField b o 4))) then none
    else some { lookahead := look, points := ps, bytes := b.length }

/-- R234: the itinerary takes effect at once. -/
def State.adoptNow (s : State) (p : Nat) (it : Itinerary) : State :=
  (s.modPen p (fun x => { x with
    itinerary := some it, pendingItin := none, expect := 0, demand := false, lastMark := s.time.clock, marked := false, measured := [] })).prepare p

/-- R234: the itinerary that a host-loaded tensor holds is read: it waits while near pasture holds the read (R275), and what the read
finds poisoned goes as R245 says, with BAD_PARAM (log entry 169). -/
def State.loadFrom (s : State) (p : Nat) (t : Tensor) : Answer :=
  if !(s.servesTensor .drover t) then .wait s
  else if s.tensorPoisoned t then refuse (s.meetPoison t) stBadParam
  else match s.parseItinerary p ((List.range t.storedBytes).map (s.nearForm p t)) with
    | none => refuse s stBadParam
    | some it =>
      let running := (s.pen p).state = .running || (s.pen p).state = .quiescing || (s.pen p).state = .quiesced
      let u := if running then s.modPen p (fun x => { x with pendingItin := some it }) else s.modPen p (fun x => { x with itinerary := some it, pendingItin := none })
      if (s.pen p).nearMin < (u.pen p).fixedUse then refuse s stNoResource
      else
        .reply ((if running then u else s.adoptNow p it).useTensor t.handle.toNat) stOk (leBytes 4 it.points.length ++
          leBytes 4 (leField ((List.range 12).map (s.nearForm p t)) 8 4) ++ [BitVec.ofNat 8 (natOfBool running)] ++ List.replicate 7 0)

def itineraryLoad (r : Req) (s : State) : Answer :=
  withLivePen r s (fun p =>
    let h := r.f 4 4
    if !(r.zero 1 4) then refuse s stBadParam
    else if h = 0xFFFFFFFF then
      .reply (s.modPen p (fun x => { x with itinerary := none, pendingItin := none, demand := true, measured := [] })) stOk (List.replicate 16 0)
    else match s.tensor? h with
      | none => refuse s stNotFound
      | some t =>
        if h / 2 ^ 29 != p || t.released then refuse s stNotFound
        else if t.fmt != 0xC || t.mx || t.comp != 0 || !t.hostLoaded || !(t.readable) then refuse s stBadParam
        else s.loadFrom p t)

/-- R275: the loads that waited for near pasture. -/
def State.settleItineraries (s : State) : State :=
  s.forAll (s.busySlots 0x0303 (fun _ => true)) (fun u i =>
    match itineraryLoad { fn := slotFn i, slot := i, pay := (u.slotAt i).taken.drop 8 } u with
    | .reply v st p => v.answer i st p
    | .wait v => v)

def execItineraryLoad (fn : Fin 9) (slot : Fin 4) (s : State) : Result := done (s.quiet.serve fn slot 0x0303 itineraryLoad)

end Sys2Proof.Machine
end

