-- ==== Sys2Proof/Machine/Flash.lean ====
section
/-! DEFINITION. The Sheepdog's flash (R467 to R473, R478): the copies of the boot control block, the identity block and
the settings, the journal, and the writes that wait for HOLDUP_OK. -/

namespace Sys2Proof.Machine

/-! ## Copies and their sequence numbers (R469) -/

/-- Serial numbers modulo 2³²: `a` is the later. -/
def laterSeq (a b : Word) : Bool := a != b && (a - b).toNat < 2 ^ 31

/-- R469: the copy that passes and has the higher SEQ, given (passes, SEQ) of copies 0 and 1. -/
def currentCopy (a b : Bool × Word) : Option Nat :=
  if a.1 && b.1 then (if laterSeq b.2 a.2 then some 1 else some 0)
  else if a.1 then some 0 else if b.1 then some 1 else none

def Bcb.none' : Bcb :=
  { ok := false, crc := 0xFFFFFFFF, seq := 0, boot := 0, confirmed := 0xFF, staging := false, settingsCur := 0, settingsPending := false,
    states := [.empty, .empty, .empty], versions := [0, 0, 0], bytes := [0, 0, 0] }

def Identity.none' : Identity :=
  { ok := false, crc := 0xFFFFFFFF, seq := 0, locked := false, ret := false, ownerLock := false, transitions := 0, sealCount := 0, retired := [] }

/-! ## What the copies hold, byte by byte (Tables 19.7 to 19.9, R478) -/

/-- Table 17.9: the code of an image's state. -/
def ImageState.code : ImageState → Nat
  | .empty => 0
  | .valid => 1
  | .invalid => 2
  | .active => 3
  | .pending => 4
  | .unconfirmed => 5

/-- R469: the CRC at offset 4,092 of a structure, over its bytes 0-4,091. -/
def structureCrc (body : List Byte) : Word := BitVec.ofNat 32 (crc32c (padTo 4092 body))

/-- Table 19.7, offsets 0 to 39; the rest is reserved zeros. -/
def Bcb.body (b : Bcb) : List Byte :=
  leBytes 4 0x43424853 ++ leBytes 4 b.seq.toNat ++ leBytes 1 b.boot ++ leBytes 1 b.confirmed ++ leBytes 1 (natOfBool b.staging) ++
    leBytes 1 (b.settingsCur + natOfBool b.settingsPending <<< 1) ++ b.states.flatMap (fun x => leBytes 1 x.code) ++ leBytes 1 0 ++
    b.versions.flatMap (fun v => leBytes 4 v.toNat) ++ b.bytes.flatMap (leBytes 4)

/-- Table 19.8, offsets 0 to 36. -/
def Identity.body (x : Identity) : List Byte :=
  leBytes 4 0x44494853 ++ leBytes 4 x.seq.toNat ++
    leBytes 1 (natOfBool x.locked + natOfBool x.ret <<< 1 + natOfBool x.ownerLock <<< 2) ++ leBytes 3 0 ++
    leBytes 4 x.transitions.toNat ++ leBytes 4 x.sealCount.toNat ++ leBytes 17 (x.retired.foldl (fun m k => m ||| 2 ^ k) 0)

/-- R478: the header, then the items of Table 19.9. -/
def Settings.body (x : Settings) : List Byte :=
  let items := leBytes 4 0x000C0001 ++ leBytes 2 x.coord.toNat ++ leBytes 2 x.extent.toNat ++ leBytes 2 x.bellwether.toNat ++
    leBytes 2 x.deputy.toNat ++ leBytes 4 (natOfBool x.placed) ++ leBytes 4 0x00040002 ++ leBytes 4 x.thresh.toNat ++
    leBytes 4 0x00040003 ++ leBytes 4 x.confirmMode ++ leBytes 4 0x00040004 ++ leBytes 4 x.powerLimit
  leBytes 4 0x54534853 ++ leBytes 1 x.formatVersion ++ leBytes 3 0 ++ leBytes 4 items.length ++ List.replicate 52 0 ++ items

/-- R469, R478: a copy as it is written: with its CRC. -/
def Bcb.sealed (b : Bcb) : Bcb := { b with ok := true, crc := structureCrc b.body }
def Identity.sealed (x : Identity) : Identity := { x with ok := true, crc := structureCrc x.body }
def Settings.sealed (x : Settings) : Settings := { x with ok := true, crc := structureCrc x.body }

def Sheepdog.bcbAt (g : Sheepdog) (i : Nat) : Bcb := g.bcb.getD i .none'
def Sheepdog.identAt (g : Sheepdog) (i : Nat) : Identity := g.identity.getD i .none'

def Sheepdog.bcbIndex (g : Sheepdog) : Option Nat :=
  currentCopy ((g.bcbAt 0).ok, (g.bcbAt 0).seq) ((g.bcbAt 1).ok, (g.bcbAt 1).seq)

def Sheepdog.identIndex (g : Sheepdog) : Option Nat :=
  currentCopy ((g.identAt 0).ok, (g.identAt 0).seq) ((g.identAt 1).ok, (g.identAt 1).seq)

/-- The boot control block in force. -/
def Sheepdog.bcbNow (g : Sheepdog) : Option Bcb := g.bcbIndex.map g.bcbAt

/-- The identity block in force. -/
def Sheepdog.identNow (g : Sheepdog) : Option Identity := g.identIndex.map g.identAt

/-! ## The journal (R471) -/

def JournalType.code : JournalType → Nat
  | .eraseStart => 1
  | .eraseDone => 2
  | .programStart => 3
  | .programDone => 4
  | .resolved => 5

/-- R471: the CRC of a record, over its bytes 0-27. -/
def JournalRec.crcOf (r : JournalRec) : Word :=
  BitVec.ofNat 32 (crc32c (leBytes 4 r.type.code ++ leBytes 4 r.addr ++ leBytes 4 r.seq.toNat ++ List.replicate 16 0))

/-- R471: a record that fails its CRC is ignored. -/
def JournalRec.passes (r : JournalRec) : Bool := r.crc = r.crcOf

/-- The START records without their DONE or RESOLVED. -/
def openRecords : List JournalRec → List JournalRec
  | [] => []
  | r :: rest =>
    let later := openRecords rest
    match r.type with
    | .eraseStart => if rest.any (fun x => x.addr = r.addr && (x.type = .eraseDone || x.type = .resolved)) then later else r :: later
    | .programStart => if rest.any (fun x => x.addr = r.addr && (x.type = .programDone || x.type = .resolved)) then later else r :: later
    | _ => later

/-- One record of the journal. -/
def Sheepdog.record (g : Sheepdog) (ty : JournalType) (addr : Nat) : Sheepdog :=
  let r : JournalRec := { type := ty, addr := addr, seq := g.journalSeq, crc := 0 }
  { g with journal := g.journal ++ [{ r with crc := r.crcOf }], journalSeq := g.journalSeq + 1 }

/-- Table 19.6: the journal sector that holds a record. -/
def journalSector (r : JournalRec) : Nat := 0x40000 + 4096 * (r.seq.toNat / 128 % 960)

/-- R471: the oldest of the 960 sectors of 128 records is erased for reuse, once the preceding one has room for just that erase's own
records, and only when no START of it is open. -/
def Sheepdog.recycle (g : Sheepdog) : Sheepdog :=
  if 122878 ≤ g.journal.length && (openRecords g.journal).all (fun r => !((g.journal.take 128).contains r)) then
    let a := (g.journal.head?).elim 0 journalSector
    let h := g.record .eraseStart a
    ({ h with journal := h.journal.drop 128 }).record .eraseDone a
  else g

/-- R471: the journal is circular over its 960 sectors. -/
def Sheepdog.append (g : Sheepdog) (ty : JournalType) (addr : Nat) : Sheepdog := (g.record ty addr).recycle

/-- The records of one page program. -/
def Sheepdog.programmed (g : Sheepdog) (addr : Nat) : Sheepdog := (g.append .programStart addr).append .programDone addr

/-- The records of a structure's sector erase and its sixteen page programs. -/
def Sheepdog.rewritten (g : Sheepdog) (addr : Nat) : Sheepdog :=
  (List.range 16).foldl (fun x i => x.programmed (addr + 256 * i)) ((g.append .eraseStart addr).append .eraseDone addr)

/-! ## Structure writes -/

/-- R469: the copy with the older SEQ takes the newer SEQ plus one. -/
def Sheepdog.writeBcb (g : Sheepdog) (f : Bcb → Bcb) : Sheepdog :=
  let i := g.bcbIndex
  let old := (g.bcbNow).getD .none'
  let k := match i with
    | some 0 => 1
    | _ => 0
  { g.rewritten (0x1000 * k) with bcb := (g.bcb.set k ({ f old with seq := old.seq + 1 } : Bcb).sealed) }

def Sheepdog.writeIdentity (g : Sheepdog) (f : Identity → Identity) : Sheepdog :=
  let old := (g.identNow).getD .none'
  let k := match g.identIndex with
    | some 0 => 1
    | _ => 0
  { g.rewritten (0x2000 + 0x1000 * k) with identity := (g.identity.set k ({ f old with seq := old.seq + 1 } : Identity).sealed) }

/-- R478: the copy that the running image uses: the current one, or the pending other. -/
def Sheepdog.settingsIndex (g : Sheepdog) : Nat :=
  let b := (g.bcbNow).getD .none'
  if b.settingsPending then 1 - b.settingsCur else b.settingsCur

def Sheepdog.settingsNow (g : Sheepdog) : Settings :=
  let x := g.settings.getD g.settingsIndex (.default 1)
  if x.ok then x else .default x.formatVersion

/-- R478: a settings copy is written. -/
def Sheepdog.writeSettings (g : Sheepdog) (k : Nat) (x : Settings) : Sheepdog :=
  { g.rewritten (0x400000 + 0x400000 * k) with settings := g.settings.set k x.sealed }

/-- R478: a settings change: the non-current copy and a flip, or the pending copy. -/
def Sheepdog.changeSettings (g : Sheepdog) (x : Settings) : Sheepdog :=
  let b := (g.bcbNow).getD .none'
  let k := 1 - b.settingsCur
  let g1 := g.writeSettings k x
  if b.settingsPending then g1 else g1.writeBcb (fun y => { y with settingsCur := k })

/-! ## The Sheepdog's own writes (R473) -/

def setImage (l : List ImageState) (i : Nat) (x : ImageState) : List ImageState := l.set i x

/-- R477: the fallback: BOOT is CONFIRMED, that image ACTIVE, the new one INVALID, no pending settings. -/
def Bcb.fallback (b : Bcb) : Bcb :=
  { b with boot := b.confirmed, settingsPending := false
           states := setImage (setImage b.states b.boot .invalid) b.confirmed .active }

/-- R476, R478: the confirmation: the image ACTIVE and CONFIRMED, the former VALID, the pending settings current. -/
def Bcb.confirm (b : Bcb) : Bcb :=
  let former := if b.confirmed < 2 && b.confirmed != b.boot then setImage b.states b.confirmed .valid else b.states
  { b with confirmed := b.boot, states := setImage former b.boot .active
           settingsCur := if b.settingsPending then 1 - b.settingsCur else b.settingsCur, settingsPending := false }

def insertNat (n : Nat) : List Nat → List Nat
  | [] => [n]
  | m :: r => if n < m then n :: m :: r else if n = m then m :: r else m :: insertNat n r

def Sheepdog.applyOwn (g : Sheepdog) : OwnWrite → Sheepdog
  | .retire k => g.writeIdentity (fun x => { x with retired := insertNat k x.retired })
  | .unretire k => g.writeIdentity (fun x => { x with retired := x.retired.filter (· != k) })
  | .sealCount => g.writeIdentity (fun x => { x with sealCount := x.sealCount + 1 })
  | .bcbFallback => g.writeBcb Bcb.fallback
  | .bcbConfirm => g.writeBcb Bcb.confirm
  | .bcbSelect b => g.writeBcb (fun y => { b with seq := y.seq })
  | .settings x => g.changeSettings x
  | .settingsCopy k x => g.writeSettings k x
  | .identity => g.writeIdentity id
  | .floor n => { g with floor := max g.floor (min n 64) }
  | .confirmed => { g with fwUnconfirmed := false, healthStart := none }

/-- R473: a write that the Sheepdog starts on its own waits for HOLDUP_OK. -/
def Sheepdog.ownWrite (g : Sheepdog) (w : OwnWrite) : Sheepdog :=
  if g.holdup && g.ownWrites = [] then g.applyOwn w else { g with ownWrites := g.ownWrites ++ [w] }

def State.ownWrite (s : State) (w : OwnWrite) : State := s.modDog (fun g => g.ownWrite w)

/-- HOLDUP_OK is there: the waiting writes are done in order. -/
def Sheepdog.flushOwn (g : Sheepdog) : Sheepdog :=
  g.ownWrites.foldl (fun x w => x.applyOwn w) { g with ownWrites := [] }

/-- R80: the retirement record, with the retirements that wait to be written. -/
def Sheepdog.retiredNow (g : Sheepdog) : List Nat :=
  g.ownWrites.foldl (fun l w => match w with
    | .retire k => insertNat k l
    | .unretire k => l.filter (· != k)
    | _ => l) ((g.identNow).getD .none').retired

end Sys2Proof.Machine
end

