-- ==== Sys2Proof/Machine/Folds.lean ====
section
/-! DEFINITION. Tasks on Folds (R65 to R73), the faults of a Fold (R57, R74, R75) and the spares (R77 to R82). -/

namespace Sys2Proof.Machine

/-- R162: place the next task. -/
def execTaskIssue (s : State) : Result := done s.quiet.schedule

/-! ## The work of a task -/

/-- Table 20.6: matrix multiply-adds of a task (attention: log entry 37). -/
def State.tileMacs (s : State) (d : List Byte) : Tile → Nat
  | .matrix b rl rh cl ch kl kh _ _ =>
    match s.operand d 0, s.operand d 1, s.operand d 2 with
    | some x, some y, some z => (rh - rl) * (ch - cl) * (min kh (matGeometry d x.ext y.ext z.ext b).k - kl)
    | _, _, _ => 0
  | .range _ _ => 0
  | .attn pass seq _ lo hi =>
    match s.atn d with
    | none => 0
    | some a =>
      let r := s.seqRec a seq
      match pass with
      | 0 => (hi - lo) * r.kvLen * (a.dh + a.dv)
      | 1 => (hi - lo) * r.qLen * (2 * a.dh + 2 * a.dv)
      | 2 => (hi - lo) * r.kvLen * (2 * a.dh + a.dv)
      | _ => 0

/-- R151, R152: what a task computes, and its accumulator entries. -/
def State.taskPart (s : State) (o : Op) (t : Task) : Part × List Word :=
  match t.tile with
  | .matrix _ _ _ _ _ _ _ seg last =>
    let planeIn := if seg = 0 then none else t.chain.map (fun c => planeAddr c ((seg + 1) % 2))
    let planeOut := if last then none else t.chain.map (fun c => planeAddr c (seg % 2))
    let es := s.matrixEntries o.desc o.ref1Stationary t.tile planeIn
    (s.matrixPart o.desc t.tile es planeOut, es.map (fun e => BitVec.ofNat 32 e.2.2.1))
  | .range lo hi => (s.vectorPart o.desc lo hi, [])
  | .attn pass seq head lo hi => (s.atnPart o.desc pass seq head lo hi, [])

/-- R62, R210: the first malformed granule among those that the task reads: the cause and the granule's pen address.  R6: a tensor of a
race decides nothing. -/
def State.taskFault (s : State) (o : Op) (t : Task) : Option (Nat × Nat) :=
  (s.used o.desc).findSome? (fun u =>
    let h := u.op.t.handle.toNat
    if u.op.t.comp = 0 || o.racy.contains h || !((s.readHandles o).contains h) then none
    else s.decodeFault o.pen u.op.t (s.granulesRead o t u.op))

/-- R96: accumulations of one ring into one tensor keep SEQ order (log entry 38). -/
def State.accTurn (s : State) (o : Op) : Bool :=
  (accHandle o.desc).isNone || !(s.comp.ops.any (fun x => x.queue = o.queue && x.recipeFor.isNone && o.recipeFor.isNone &&
    x.id < o.id && accHandle x.desc = accHandle o.desc))

/-! ## Completion of a task (R68) -/

/-- R154: the chain slot of a task that ends its chain. -/
def Task.lastChain (t : Task) : Option Nat :=
  match t.tile with
  | .matrix _ _ _ _ _ _ _ _ true => t.chain
  | _ => none

/-- Table 20.6: NEAR_READ_BYTES grows by what the task has read of near pasture; how much of its operands comes from the commons and from
its buffers is not stated: a free number (log entry 159). -/
def State.countReads (s : State) : State := let r := s.draw; r.2.count 16 r.1.toNat

/-- R68: the effects of a confirmed task leave, its half and its chain slot are freed, and the operator may complete. -/
def State.releaseTask (s : State) (phys : Nat) (h : Bool) (o : Op) (i : Nat) (t : Task) : State :=
  let half := s.half phys h
  let last : Bool := (o.tasks.zipIdx.all (fun x => x.2 = i || x.1.phase = .done)) && (s.fillEffects o).isEmpty
  let s0 := ((((s.countReads).openOutputs o).releaseEffects o half.scratch).releaseUnits o.id o.staged last).modOp o.id
    (fun x => { x with framed := x.framed || last })
  let s1 := s0.modHalf phys h (fun x =>
    { x with busy := none, prov := [], stationary := none, stream := none, scratch := [], flags := 0, fault := none })
  let s2 := s1.modOp o.id (fun x => { x with
    flags := x.flags ||| half.flags
    tasks := (x.tasks.modify i (fun y => { y with phase := .done, undo := [] })).map (fun y =>
      if t.lastChain.isSome && y.chain = t.lastChain then { y with chain := none } else y) })
  let s3 := s2.modComp (fun c => { c with chains := c.chains.filter (fun n => some n != t.lastChain)
                                          staged := if s2.blockDone o.id t.block then
                                            c.staged.filter (fun x => !(x.op = o.id && x.block == t.block)) else c.staged })
  let cycles := (s.time.clock - half.started) * s.health.power.point.mhz / 1000
  (((((s3.count 13 1).count 12 (s.tileMacs o.desc t.tile / 65536)).count 11 cycles).count (42 + o.pen) cycles).completeEnded).idleBoundary

/-- R62, R65, R67, R68: a finished task whose chunks are all confirmed is released, once its outputs have their room (log entry 182), or
its held fault is reported. -/
def State.resolveHeld (s : State) (phys : Nat) (h : Bool) : State :=
  let half := s.half phys h
  match half.busy with
  | none => s
  | some (id, i) =>
    match s.op? id with
    | none => s
    | some o =>
      match o.tasks[i]? with
      | none => s
      | some t =>
        if t.phase = .held && half.prov = [] then
          match half.fault with
          | some (cause, addr) =>
            let handle := match s.tensorAt o.pen addr with
              | some x => x.handle.toNat
              | none => 0
            (s.opFault o 0x90 flagDecode (some addr) (cause + handle <<< 32)).completeEnded
          | none =>
            if s.accTurn o then
              let r := s.giveOutputs o
              if r.2 then r.1.releaseTask phys h ((r.1.op? id).getD o) i t else r.1
            else s
        else s

/-- R153, R271, R491: a task has met poison in its partial plane, which never reaches a store: the task is discarded, its chain starts
again from its first segment, and the plane is written afresh (log entry 162). -/
def State.losePlane (s : State) (phys : Nat) (h : Bool) (o : Op) (t : Task) : State :=
  let u := (s.discardTask phys h none).modOp o.id (fun x => { x with tasks := x.tasks.map (fun y =>
    if t.chain.isSome && y.chain = t.chain && y.phase = .done then { y with phase := .waiting } else y) })
  match t.planeIn with
  | some x => u.npWrite .hi .fold x.1 (List.replicate (roundUp x.2 256) 0)
  | none => u

/-- R67: a running task does its work; its effects stay in vector scratch until it is confirmed. -/
def State.finishWork (s : State) (phys : Nat) (h : Bool) : State :=
  match (s.half phys h).busy with
  | none => s
  | some (id, i) =>
    match s.op? id with
    | none => s
    | some o =>
      match o.tasks[i]? with
      | none => s
      | some t =>
        let s0 := s.takeInputs phys h o t
        if t.phase != .running || !(s.inputsHere o) || s.planeHeld t then s
        else if s.planePoisoned t then s.losePlane phys h o t
        else if (s0.half phys h).busy != some (id, i) then s0
        else
          let view := s0.taskView o (s0.half phys h)
          let s1 := (s0.spendRace o).modOp id (fun x => { x with tasks := x.tasks.modify i (fun y => { y with phase := .held }) })
          match view.taskFault o t with
          | some f => s1.modHalf phys h (fun x => { x with fault := some f })
          | none =>
            let r := view.taskPart o t
            s1.modHalf phys h (fun x => { x with acc := r.2, scratch := r.1.effects, flags := BitVec.ofNat 8 r.1.flags })

def execTaskCompletion (phys : Fin 136) (half : Bool) (s : State) : Result :=
  done ((s.quiet.finishWork phys half).resolveHeld phys half)

/-! ## Verdicts on provisional chunks (R65, R66, R69) -/

/-- The halves whose task read a chunk as provisional. -/
def State.readersOf (s : State) (id : ChunkId) : List (Nat × Bool) :=
  allHalves.filter (fun x => (s.half x.1 x.2).prov.contains id)

def State.takeVerdict (s : State) (v : ChunkId × Bool) : State :=
  s.modDrover (fun d => { d with verdicts := d.verdicts.erase v })

/-- R65, R68: the chunk is good; tasks that wait for no other chunk are confirmed. -/
def execConfirm (handle : Word) (chunk : Nat) (s : State) : Result :=
  let id : ChunkId := { handle := handle, chunk := chunk }
  if s.drover.verdicts.contains (id, true) then
    let rs := s.readersOf id
    let s1 := s.quiet.takeVerdict (id, true)
    let s2 := s1.forAll rs (fun t x => t.modHalf x.1 x.2 (fun y => { y with prov := y.prov.filter (· != id) }))
    done (s2.forAll rs (fun t x => t.resolveHeld x.1 x.2))
  else done s.quiet

/-- R69, R70: every task that read the chunk is discarded, to be issued again with confirmed input only. -/
def execReject (handle : Word) (chunk : Nat) (s : State) : Result :=
  let id : ChunkId := { handle := handle, chunk := chunk }
  if s.drover.verdicts.contains (id, false) then
    done ((s.quiet.takeVerdict (id, false)).forAll (s.readersOf id) (fun t x => t.discardTask x.1 x.2 none))
  else done s.quiet

/-! ## Faults of a Fold (R57, R74, R75) -/

/-- Table 20.1: the bank of a Fold is its die's, its UNIT the local index. -/
def State.foldLog (s : State) (phys code : Nat) (sev : Severity) (pen : Option Nat) (info : Nat) : State :=
  s.logFault (phys / 34) code sev (phys % 34) pen none info

def execFoldBufferCe (phys : Fin 136) (buffer : Fin 4) (s : State) : Result :=
  match (s.fold phys).state with
  | .active | .spare | .failed => done (s.quiet.foldLog phys 0x0101 .corrected none buffer.val)
  | .off | .retired => done s.quiet

/-- The effects that a task has to release now: none while it is provisional or waits for its turn. -/
def State.releasable (s : State) (phys : Nat) (h : Bool) : List Effect :=
  let half := s.half phys h
  match half.busy with
  | none => []
  | some (id, i) =>
    match s.op? id with
    | none => []
    | some o =>
      match o.tasks[i]? with
      | none => []
      | some t =>
        if half.prov = [] && o.roomed && s.accTurn o && half.fault.isNone then
          if t.phase = .held then half.scratch
          else
            let view := s.taskView o half
            if s.inputsHere o && !(s.planePoisoned t) && (view.taskFault o t).isNone then (view.taskPart o t).1.effects else []
        else []

def Effect.isAcc : Effect → Bool
  | .acc _ _ _ => true
  | .store _ _ | .stage _ _ _ | .plane _ _ | .scale _ _ => false

/-- R18, R75: a task is to find, when it runs again, what stood in the tensors that it reads where effects of this run have stored. -/
def State.keepUndo (s : State) (o : Op) (i : Nat) (es : List Effect) : State :=
  let read (a : Nat) : Bool := (s.readHandles o).any (fun h => match s.tensor? h with
    | some t => t.penAddr ≤ a && a < t.penAddr + t.roomBytes
    | none => false)
  let old := (es.filterMap Effect.span).flatMap (fun x => (((List.range x.2).map (x.1 + ·)).filter read).map (fun a => (a, s.penByte o.pen a)))
  s.modOp o.id (fun x => { x with tasks := x.tasks.modify i (fun y =>
    { y with undo := y.undo ++ old.filter (fun c => !(y.undo.any (fun k => k.1 = c.1))) }) })

/-- Table 3.8: the task of a failed Fold's half, of whose effects the first `gone` had been released (log entry 39). -/
def State.failHalf (s : State) (phys : Nat) (h : Bool) (gone : Nat) : State :=
  match (s.half phys h).busy with
  | none => s
  | some (id, i) =>
    match s.op? id with
    | none => s
    | some o =>
      let es := ((s.releasable phys h).take gone).filter (fun e => match e with
        | .stage _ _ _ => false
        | _ => true)
      let t := if es = [] then s else ((s.keepUndo o i es).openOutputs o).releaseEffects o es
      if es.any Effect.isAcc then (t.spoil o).penFault o.pen 0x80 phys else t.discardTask phys h (some phys)

/-- R79: a spare that fails is RETIRED without entering service. -/
def State.retireSpare (s : State) (phys : Nat) : State :=
  (((s.modFold phys (fun _ => { Fold.off with state := .retired })).foldLog phys 0x0105 .corrected none 0)).ownWrite
    (.retire phys)

/-- R74, R75, R79: a condition that takes an ACTIVE Fold to FAILED and a SPARE to RETIRED. -/
def State.foldFails (s : State) (phys code : Nat) (pen : Option Nat) (gone0 gone1 : Nat) : State :=
  match (s.fold phys).state with
  | .active =>
    let s1 := (s.foldLog phys code .uncontained pen (pen.getD 0)).ownWrite (.retire phys)
    let s2 := (s1.failHalf phys false gone0).failHalf phys true gone1
    (s2.modFold phys (fun f => { f with state := .failed, half0 := f.half0.zeroed, half1 := f.half1.zeroed, dueTakeover := false })).idleBoundary.retryAllocs
  | .spare => s.retireSpare phys
  | .off | .failed | .retired => s

def execFoldBufferUe (phys : Fin 136) (gone0 gone1 : Nat) (s : State) : Result :=
  done (s.quiet.foldFails phys 0x0102 none gone0 gone1)

def execFoldParity (phys : Fin 136) (gone0 gone1 : Nat) (s : State) : Result :=
  done (s.quiet.foldFails phys 0x0103 none gone0 gone1)

/-- R74: the task of a half has overrun. -/
def execFoldTaskTimeout (phys : Fin 136) (half : Bool) (gone0 gone1 : Nat) (s : State) : Result :=
  if (s.half phys half).busy.isSome then
    done (s.quiet.foldFails phys 0x0104 (some (s.half phys half).pen) gone0 gone1)
  else done s.quiet

/-! ## Spares (R77 to R81) -/

/-- R77: no task in flight holds reissued work of a failed Fold. -/
def State.workEnded (s : State) (failed : Nat) : Bool :=
  s.comp.ops.all (fun o => o.tasks.all (fun t => t.redo != some failed || (t.phase != .running && t.phase != .held)))

/-- The spare of a die with the lower local index. -/
def State.spareOf (s : State) (die : Nat) : Option Nat :=
  (List.range 34).find? (fun k => (s.fold (34 * die + k)).state = .spare)

/-- The slot whose takeover is due, the lowest (log entry 40): R77's step 1 waits for reissued work, and R78's EMPTY for nothing. -/
def State.takeoverSlot (s : State) : Option Nat :=
  (List.range 128).find? (fun n => match s.comp.slots[n]? with
    | some x =>
      let k := 34 * (n / 32) + x.phys
      x.active && (s.fold k).state = .failed && (s.fold k).dueTakeover && ((s.spareOf (n / 32)).isNone || s.workEnded k)
    | none => false)

def State.retireFold (s : State) (phys : Nat) : State := s.modFold phys (fun _ => { Fold.off with state := .retired })

def State.modFoldSlot (s : State) (n : Nat) (f : FoldSlot → FoldSlot) : State :=
  s.modComp (fun c => { c with slots := c.slots.modify n f })

/-- R77, R78, R81: the takeover of one slot; `bad` says that the spare fails during it (log entry 41). -/
def execSpareTakeover (bad : Bool) (s : State) : Result :=
  match s.takeoverSlot with
  | none => done s.quiet
  | some n =>
    let die := n / 32
    let failed := 34 * die + (s.comp.slots.getD n { phys := 0, active := false, takeovers := 0 }).phys
    match s.spareOf die with
    | none => done ((s.quiet.retireFold failed).modFoldSlot n (fun x => { x with active := false }))
    | some k =>
      if bad then
        done (((s.quiet.retireFold (34 * die + k)).ownWrite (.retire (34 * die + k))).modFold failed
          (fun f => { f with dueTakeover := false }))
      else
        done (((s.quiet.retireFold failed).modFold (34 * die + k) (fun _ => { Fold.off with state := .active })).modFoldSlot n
          (fun x => { x with phys := k, takeovers := satInc x.takeovers 255 }))

/-- R79: the self-test of an idle spare. -/
def execSpareSelftest (phys : Fin 136) (pass : Bool) (s : State) : Result :=
  if (s.fold phys).state = .spare && !pass then done (s.quiet.retireSpare phys) else done s.quiet

end Sys2Proof.Machine
end

