-- ==== Sys2Proof/Machine/Rop.lean ====
section
/-! DEFINITION. Remote operations (R306 to R321): the checks at taking, fragments and packets, their effects at the
destination, and completion, refusal and timeout at the source. -/

namespace Sys2Proof.Machine

/-! ## The descriptor (Table 12.7) -/

def rOp (d : List Byte) : Nat := leField d 0 1
def rSubop (d : List Byte) : Nat := leField d 1 1
def rFlags (d : List Byte) : Nat := leField d 2 2
def rCpl (d : List Byte) : Bool := (rFlags d).testBit 0
def rLocalSignal (d : List Byte) : Bool := (rFlags d).testBit 1
def rRemoteSignal (d : List Byte) : Bool := (rFlags d).testBit 2
def rDest (d : List Byte) : B16 := BitVec.ofNat 16 (leField d 4 2)
def rDestPen (d : List Byte) : Nat := leField d 6 1 % 8
def rLocal (d : List Byte) : Nat := leField d 8 8
def rRemote (d : List Byte) : Nat := leField d 16 8
def rLength (d : List Byte) : Nat := leField d 24 4
def rLocalId (d : List Byte) : Nat := leField d 28 4
def rRemoteId (d : List Byte) : Nat := leField d 32 4
def rValue (d : List Byte) : Nat := leField d 36 4
def rOperand0 (d : List Byte) : Nat := leField d 40 8
def rOperand1 (d : List Byte) : Nat := leField d 48 8
def rSeq (d : List Byte) : Nat := leField d 56 4

/-- R306: PUT_ACC: bytes of a target and of an addend element. -/
def rTargetBytes (d : List Byte) : Nat := if (rSubop d).testBit 0 then 2 else 4
def rAddendBytes (d : List Byte) : Nat := if (rSubop d).testBit 1 then 2 else 4

/-- R309: fragments of an operation. -/
def rFragments (d : List Byte) : Nat := if rOp d ≤ 3 then ceilDiv (rLength d) 512 else 1

/-! ## The checks at taking (R308) -/

/-- Reserved OP or SUBOP. -/
def ropBadOp (d : List Byte) : Bool :=
  rOp d = 0 || 6 < rOp d || (match rOp d with
    | 3 => 3 < rSubop d
    | 4 => 2 < rSubop d
    | 5 => 1 < rSubop d
    | _ => rSubop d != 0)

/-- Reserved fields and values. -/
def ropReserved (d : List Byte) : Bool :=
  let data := rOp d ≤ 4
  rFlags d / 8 != 0 || 8 ≤ leField d 6 1 || leField d 7 1 != 0 || leField d 60 4 != 0 || 2 ^ 48 ≤ rLocal d || 2 ^ 48 ≤ rRemote d ||
    (!data && (rLocal d != 0 || rRemote d != 0)) || (rOp d != 5 && rValue d != 0) ||
    (rOp d = 5 && (if rSubop d = 1 then false else rValue d = 0)) ||
    (!(rOp d = 4 && rSubop d = 1) && rOperand1 d != 0) || (rLocalSignal d && 65536 ≤ rLocalId d) ||
    (((rRemoteSignal d && (rOp d = 1 || rOp d = 3)) || rOp d = 5) && 65536 ≤ rRemoteId d) ||
    (rRemoteSignal d && (rOp d = 2 || rOp d = 4 || rOp d = 6))

def ropBadLength (d : List Byte) : Bool :=
  match rOp d with
  | 1 | 2 | 3 => rLength d = 0 || 268435456 < rLength d
  | 4 => rLength d != 8
  | _ => rLength d != 0

def ropMisaligned (d : List Byte) : Bool :=
  match rOp d with
  | 3 => rLocal d % rAddendBytes d != 0 || rRemote d % rTargetBytes d != 0 || rLength d % rAddendBytes d != 0
  | 4 => rLocal d % 8 != 0 || rRemote d % 8 != 0
  | _ => false

/-- R307: the destination lies within the extents; an unplaced device reaches only itself. -/
def State.destOk (s : State) (c : B16) : Bool := if s.fab.placed then inExtents s.fab.extent c else c = 0

/-- The first code whose condition holds. -/
def firstCode (l : List (Nat × Bool)) : Option Nat := (l.find? Prod.snd).map Prod.fst

/-- R308: the first failing check in the order of Table 12.9. -/
def State.ropError (s : State) (q : Queue) (d : List Byte) : Option Nat :=
  firstCode [(1, ropBadOp d), (2, ropReserved d), (3, rSeq d != q.expectSeq.toNat), (4, ropBadLength d), (5, ropMisaligned d),
    (6, rOp d ≤ 4 && !(s.penMapped q.pen (rLocal d) (rLength d))), (7, !(s.destOk (rDest d))),
    (8, rDest d != s.ownCoord && s.boot.stage < 5)]

/-! ## Completion entries (Table 12.9) -/

def State.ropRecord (s : State) (d : List Byte) (pen status result : Nat) : List Byte :=
  leBytes 4 (rSeq d) ++ [BitVec.ofNat 8 (rOp d), BitVec.ofNat 8 pen, BitVec.ofNat 8 status, 0] ++ leBytes 8 result ++ s.timeBytes

def State.ropCpl (s : State) (queue pen : Nat) (d : List Byte) (status result : Nat) : State :=
  match s.queue? queue with
  | some q => s.cpl q.cplQid.toNat 1 queue (s.ropRecord d pen status result)
  | none => s

/-! ## Packets (Tables 12.10 and 12.11) -/

def ropTag (queue : Nat) (d : List Byte) : Nat := queue % 2 ^ 20 + (rSeq d % 4096) <<< 20

def ropOpBytes (tag key pflags subop addr arg0 arg1 : Nat) : List Byte :=
  leBytes 4 tag ++ leBytes 2 key ++ [BitVec.ofNat 8 pflags, BitVec.ofNat 8 subop] ++ leBytes 8 addr ++ leBytes 4 arg0 ++ leBytes 4 arg1

def pTag (p : Packet) : Nat := leField p 8 4
def pKey (p : Packet) : Nat := leField p 12 2
def pFlagBits (p : Packet) : Nat := leField p 14 1
def pPen (p : Packet) : Nat := pFlagBits p % 8
def pLast (p : Packet) : Bool := (pFlagBits p).testBit 3
def pRsig (p : Packet) : Bool := (pFlagBits p).testBit 4
def pPoison (p : Packet) : Bool := (pFlagBits p).testBit 5
def pSubop (p : Packet) : Nat := leField p 15 1
def pAddr (p : Packet) : Nat := leField p 16 8
def pArg0 (p : Packet) : Nat := leField p 24 4
def pArg1 (p : Packet) : Nat := leField p 28 4

/-- R309: the packet of fragment `i` of a descriptor, its source read now (R320). -/
def State.fragment (s : State) (q : Queue) (d : List Byte) (i : Nat) : Packet :=
  let tag := ropTag q.id d
  let key := (s.pen q.pen).jobKey.toNat
  let n := rFragments d
  let len := min 512 (rLength d - 512 * i)
  let last := i + 1 = n
  let flags := rDestPen d + (if last then 8 else 0) + (if rRemoteSignal d then 16 else 0)
  let src := rLocal d + 512 * i
  let poison := if s.penPoisoned q.pen src len then 32 else 0
  let put (ty vc addr : Nat) : Packet := mkPacket ty vc (rDest d) s.ownCoord
    (ropOpBytes tag key (flags + poison) (rSubop d) addr (if last then n + (len % 16) <<< 20 else 0) (if rRemoteSignal d then rRemoteId d else 0))
    (s.penRead q.pen src len)
  match rOp d with
  | 1 => put 0x01 0 (rRemote d + 512 * i)
  | 2 => mkPacket 0x02 0 (rDest d) s.ownCoord
      (ropOpBytes tag key (rDestPen d + (if last then 8 else 0)) 0 (rRemote d + 512 * i) len i) []
  | 3 => put 0x05 2 (rRemote d + 512 * i / rAddendBytes d * rTargetBytes d)
  | 4 => mkPacket 0x03 0 (rDest d) s.ownCoord (ropOpBytes tag key (rDestPen d + 8) (rSubop d) (rRemote d) 0 0)
      (leBytes 8 (rOperand0 d) ++ leBytes 8 (rOperand1 d))
  | _ => mkPacket 0x04 0 (rDest d) s.ownCoord (ropOpBytes tag key (rDestPen d + 8) (rSubop d) 0 (rValue d)
      (rRemoteId d + (rSubop d) <<< 16)) []

/-- Bytes of the payload of a fragment, whose packet carries whole slots. -/
def fragBytes (p : Packet) (n : Nat) : List Byte := (pPayload p).take n

/-! ## At the destination (R307, R310 to R312, R318) -/

/-- R312: whether a request is accepted, or the status that answers it. -/
def State.acceptOp (s : State) (p : Packet) : Nat :=
  let x := s.pen (pPen p)
  match x.state with
  | .empty | .wiping | .faulted => 0x12
  | .ready => if x.jobKey.toNat = pKey p then 0x12 else 0x11
  | .running | .quiescing | .quiesced => if x.jobKey.toNat = pKey p then 0 else 0x11

/-- A response to a request, on VC1, with the request's tag, key and pen. -/
def State.response (s : State) (p : Packet) (ty flags arg0 arg1 : Nat) (payload : List Byte) : Packet :=
  mkPacket ty 1 (pSrc p) s.ownCoord (ropOpBytes (pTag p) (pKey p) (pPen p + flags) (pSubop p) 0 arg0 arg1) payload

/-- R318: poison the lines of a pen's range. -/
def State.poisonRange (s : State) (pen a len : Nat) : State :=
  s.forAll (linesOf a len) (fun t l => match t.penTranslate pen l with
    | some d => ((t.npSettle d true t.np.waiting.length).npFlushNow d none).npPoison d
    | none => t)

/-- The unit that a request's accesses come from: the fabric, or for a loopback the queue engine. -/
def State.requestSource (s : State) (p : Packet) : NpSource := if pSrc p = s.ownCoord then .queueData else .fabric

/-- R307, R309: the target bytes that `len` bytes of a PUT_ACC's addends are added to, or the bytes of a PUT. -/
def putSpan (p : Packet) (len : Nat) (acc : Bool) : Nat :=
  if acc then len / (if (pSubop p).testBit 1 then 2 else 4) * (if (pSubop p).testBit 0 then 2 else 4) else len

/-- R307: apply a fragment of PUT or PUT_ACC. -/
def State.putFragment (s : State) (p : Packet) (len : Nat) (acc : Bool) : State × Nat :=
  let tb := if (pSubop p).testBit 0 then 2 else 4
  let ab := if (pSubop p).testBit 1 then 2 else 4
  let span := putSpan p len acc
  let status := if s.penMapped (pPen p) (pAddr p) span then (if pPoison p then 0x13 else 0) else 0x10
  if pPoison p then (s.poisonRange (pPen p) (pAddr p) span, status)
  else if acc then
    let ys := (List.range (len / ab)).map (fun i => some (BitVec.ofNat 32 (leField (pPayload p) (i * ab) ab)))
    (s.penAcc .hi (s.requestSource p) (tb = 2) (ab = 2) (pPen p) (pAddr p) ys, status)
  else (s.penWrite .hi (s.requestSource p) (pPen p) (pAddr p) (fragBytes p len), status)

/-- R309: the per-tag state of an operation open here. -/
def State.openFor (s : State) (p : Packet) : OpenOp :=
  (s.qe.opens.find? (fun o => o.src = pSrc p && o.tag.toNat = pTag p)).getD
    { src := pSrc p, tag := BitVec.ofNat 32 (pTag p), arrived := 0, applied := 0, total := none, rsig := none, pen := pPen p, status := 0, head := [] }

/-- R257, R311, R321: whether an operation whose fragments have all arrived still waits: its signal for the flush of the data and for
its counter, and its response for the accumulate-writes to be applied. -/
def State.putWaits (s : State) (o : OpenOp) : Bool :=
  o.status = 0 && (match o.rsig with
    | some id => s.flushHeld (s.requestSource o.head) || s.counterHeld o.pen id
    | none => pType o.head = 5 && s.flushHeld (s.requestSource o.head))

/-- R309, R311: after the last fragment, the REMOTE_SIGNAL, behind the flush of the data (R257), and then the ACK. -/
def State.closePut (s : State) (o : OpenOp) : State × List Packet :=
  if o.total = some o.arrived && !(s.putWaits o) then
    let s1 := s.modQe (fun e => { e with opens := e.opens.filter (fun x => !(x.src = o.src && x.tag = o.tag)) })
    let s2 := match o.rsig with
      | some id => if o.status = 0 then (s1.npFlushSource (s.requestSource o.head)).addCounter o.pen id 1 else s1
      | none => s1
    (s2, [s2.response o.head 0x10 0 o.applied o.status []])
  else (s, [])

/-- PUT_DATA and PUT_ACC_DATA: apply a fragment; the operation closes after the last. -/
def State.arrivePut (s : State) (p : Packet) (len : Nat) (acc : Bool) : State × List Packet :=
  let bad := s.acceptOp p
  let r := if bad = 0 then s.putFragment p len acc else (s, bad)
  let o := s.openFor p
  let o1 : OpenOp := { o with
    arrived := o.arrived + 1
    applied := if r.2 = 0 then o.applied + 1 else o.applied
    total := if pLast p then some (pArg0 p % 2 ^ 20) else o.total
    rsig := if pRsig p then some (pArg1 p % 65536) else o.rsig
    status := if o.status = 0 then r.2 else o.status
    head := p.take 32 }
  let others := r.1.qe.opens.filter (fun x => !(x.src = pSrc p && x.tag.toNat = pTag p))
  (r.1.modQe (fun e => { e with opens := others ++ [o1] })).closePut o1

/-- GET_REQ. -/
def State.arriveGet (s : State) (p : Packet) : State × List Packet :=
  let len := pArg0 p
  let bad := s.acceptOp p
  let status := if bad != 0 then bad else if s.penMapped (pPen p) (pAddr p) len then 0 else 0x10
  if status != 0 then (s, [s.response p 0x12 0 status (pArg1 p) []])
  else
    let poison := if s.penPoisoned (pPen p) (pAddr p) len then 32 else 0
    (s.count 16 len, [s.response p 0x12 poison 0 (pArg1 p) (s.penRead (pPen p) (pAddr p) len)])

/-- ATOMIC_REQ: a narrow read, behind the flush of its line's entry (R257), and a narrow write, which a poisoned line drops (R272). -/
def State.arriveAtomic (s0 : State) (p : Packet) : State × List Packet :=
  let bad := s0.acceptOp p
  let status := if bad != 0 then bad else if s0.penMapped (pPen p) (pAddr p) 8 then 0 else 0x10
  if status != 0 then (s0, [s0.response p 0x13 0 status 0 []])
  else
    let s := s0.penFlush (pPen p) (pAddr p) 8
    let old := leNat (s.penRead (pPen p) (pAddr p) 8)
    let o0 := leField (pPayload p) 0 8
    let o1 := leField (pPayload p) 8 8
    let new := match pSubop p with
      | 0 => some ((old + o0) % 2 ^ 64)
      | 1 => if old = o0 then some o1 else none
      | _ => some o0
    let poisoned := s.penPoisoned (pPen p) (pAddr p) 8
    let t := match new with
      | some v => s.penWrite .hi .queue (pPen p) (pAddr p) (leBytes 8 v)
      | none => s
    (t, [t.response p 0x13 (if poisoned then 32 else 0) 0 0 (leBytes 8 old)])

/-- SIGNAL_REQ. -/
def State.arriveSignal (s : State) (p : Packet) : State × List Packet :=
  let bad := s.acceptOp p
  let readback := (pArg1 p).testBit 16
  if bad != 0 then (s, [if readback then s.response p 0x13 0 bad 0 [] else s.response p 0x10 0 0 bad []])
  else
    let t := s.addCounter (pPen p) (pArg1 p % 65536) (BitVec.ofNat 64 (pArg0 p))
    (t, [if readback then t.response p 0x13 0 0 0 (leBytes 8 (t.signalCounter (pPen p) (pArg1 p % 65536)).toNat)
      else t.response p 0x10 0 1 0 []])

/-! ## At the source (R310, R311, R316 to R319) -/

def RopOp.matches' (r : RopOp) (tag : Nat) : Bool := !r.waiting && r.due.isNone && rOp r.desc != 6 && ropTag r.queue r.desc = tag

def State.ropOf (s : State) (tag : Nat) : Option RopOp := s.qe.rops.find? (fun r => r.matches' tag)

def State.modRop (s : State) (r : RopOp) (f : RopOp → RopOp) : State :=
  s.modQe (fun e => { e with rops := e.rops.map (fun x => if x.queue = r.queue && rSeq x.desc = rSeq r.desc then f x else x) })

/-- An operation leaves the queue's operations in flight. -/
def State.dropRop (s : State) (r : RopOp) : State :=
  (s.modQe (fun e => { e with rops := e.rops.filter (fun x => !(x.queue = r.queue && rSeq x.desc = rSeq r.desc)) })).modQueue
    r.queue (fun q => { q with out := q.out - 1 })

/-- R257, R321: whether near pasture holds the release of an operation: data that has landed, or its local counter. -/
def State.ropEndHeld (s : State) (r : RopOp) : Bool :=
  s.npHolds && !r.dropped && (s.flushHeld .fabricData || s.flushHeld .queueData || (rLocalSignal r.desc && s.counterHeld r.pen (rLocalId r.desc)))

/-- R257, R310: local effects are visible and leave the buffer; then the local counter and the completion entry. -/
def State.ropRelease (s : State) (r : RopOp) (result : Nat) : State :=
  let t := ((s.dropRop r).npFlushSource .fabricData).npFlushSource .queueData
  if r.dropped then t
  else
    let t1 := if rLocalSignal r.desc then t.addCounter r.pen (rLocalId r.desc) 1 else t
    let t2 := if rCpl r.desc then t1.ropCpl r.queue r.pen r.desc 0 result else t1
    t2.count 30 1

/-- R310: an operation has succeeded: it is released, or its release waits. -/
def State.ropDone (s : State) (r : RopOp) (result : Nat) : State :=
  if s.ropEndHeld r then s.modRop r (fun x => { x with due := some result }) else s.ropRelease r result

/-- R319: an operation fails: its completion, and the queue halts at the next descriptor. -/
def State.ropFailOne (s : State) (r : RopOp) (status : Nat) : State :=
  let t := s.dropRop r
  if r.dropped then t
  else ((t.ropCpl r.queue r.pen r.desc status 0).modQueue r.queue (fun q => if q.halted then q else q.halt status)).count 31 1

/-- R319, R321: with it fail the operations of its queue that wait for it (log entry 45); R342: a member reports it. -/
def State.ropFail (s : State) (r : RopOp) (status : Nat) : State :=
  let later := (s.qe.rops.dropWhile (fun x => !(x.queue = r.queue && rSeq x.desc = rSeq r.desc))).filter
    (fun x => x.queue = r.queue && x.waiting)
  let t := (s.ropFailOne r status).forAll later (fun t x => t.ropFailOne x status)
  if r.dropped then t else t.faultNotice r.pen status (rDest r.desc)

/-- R316: give every fragment of an operation to the fabric again, or for the first time. -/
def State.injectFrags (s : State) (r : RopOp) (is : List Nat) : State :=
  s.forAll (is.filterMap (fun i => r.packets[i]?)) State.inject

/-! ## Loopback and progress -/

/-- The bytes of the destination's memory that a GET or ATOMIC request touches. -/
def requestBytes (p : Packet) : Nat :=
  match pType p with
  | 0x02 => pArg0 p
  | 0x03 => 8
  | _ => 0

/-- R314: whether two requests of a pen touch one line: those to one line are served in order. -/
def sameLine (pen a len : Nat) (p : Packet) : Bool :=
  pPen p = pen && (linesOf (pAddr p) (requestBytes p)).any (fun l => (linesOf a len).contains l)

/-- R266, R275, R314, R321: whether a GET, ATOMIC or SIGNAL request waits: for near pasture, or behind one that waits. -/
def State.requestHeld (s : State) (behind : List Packet) (p : Packet) : Bool :=
  match pType p with
  | 0x02 => s.penHeld .fabricGet (pPen p) (pAddr p) (pArg0 p) || behind.any (sameLine (pPen p) (pAddr p) (pArg0 p))
  | 0x03 => s.penHeld .queue (pPen p) (pAddr p) 8 || behind.any (sameLine (pPen p) (pAddr p) 8)
  | 0x04 => s.counterHeld (pPen p) (pArg1 p % 65536)
  | _ => false

/-- GET_REQ, ATOMIC_REQ and SIGNAL_REQ. -/
def State.answerRequest (s : State) (p : Packet) : State × List Packet :=
  match pType p with
  | 0x02 => s.arriveGet p
  | 0x03 => s.arriveAtomic p
  | _ => s.arriveSignal p

/-- A GET, ATOMIC or SIGNAL request is served, or waits. -/
def State.takeRequest (s : State) (p : Packet) : State × List Packet :=
  if s.requestHeld s.qe.held p then (s.modQe (fun e => { e with held := e.held ++ [p] }), []) else s.answerRequest p

/-- R307: a packet to the device itself is carried out here; the responses are answered. -/
def State.arrive (s : State) (p : Packet) (len : Nat) : State × List Packet :=
  match pType p with
  | 0x01 => s.arrivePut p len false
  | 0x05 => s.arrivePut p len true
  | 0x02 | 0x03 | 0x04 => s.takeRequest p
  | _ => (s, [])

/-- R256: what a result's write comes from: the fabric, or for a loopback the queue engine. -/
def State.landingSource (s : State) (r : RopOp) : NpSource := if rDest r.desc = s.ownCoord then .queueData else .fabricData

/-- R310, R318: a GET_DATA fragment. -/
def State.takeGetData (s : State) (r : RopOp) (p : Packet) : State :=
  let i := pArg1 p
  let len := min 512 (rLength r.desc - 512 * i)
  let at' := rLocal r.desc + 512 * i
  if pArg0 p % 256 != 0 then s.ropFail r (pArg0 p % 256)
  else
    let s1 := if pPoison p then s.poisonRange r.pen at' len else s.penWrite .hi (s.landingSource r) r.pen at' (fragBytes p len)
    let r1 := { r with frags := r.frags.set i .answered, poison := r.poison || pPoison p }
    if r1.frags.all (· = .answered) then (if r1.poison then s1.ropFail r1 0x13 else s1.ropDone r1 0)
    else s1.modRop r (fun _ => r1)

/-- R310, R318: a VALUE_RESP. -/
def State.takeValue (s : State) (r : RopOp) (p : Packet) : State :=
  let status := pArg0 p % 256
  let v := leField (pPayload p) 0 8
  if status != 0 then s.ropFail r status
  else if rOp r.desc = 4 then
    if pPoison p then (s.poisonRange r.pen (rLocal r.desc) 8).ropFail r 0x13
    else (s.penWrite .hi (s.landingSource r) r.pen (rLocal r.desc) (leBytes 8 v)).ropDone r v
  else s.ropDone r v

/-- A response meets its operation; one for an operation that has ended is discarded. -/
def State.takeResponse (s : State) (p : Packet) : State :=
  match s.ropOf (pTag p) with
  | none => s
  | some r =>
    match pType p with
    | 0x10 => if pArg1 p % 256 = 0 then s.ropDone r 0 else s.ropFail r (pArg1 p % 256)
    | 0x12 => s.takeGetData r p
    | 0x13 => s.takeValue r p
    | _ => s

/-- R307: a loopback operation, fragment by fragment. -/
def State.loopback (s : State) (r : RopOp) : State :=
  s.forAll r.packets.zipIdx (fun t x =>
    let y := t.arrive x.1 (min 512 (rLength r.desc - 512 * x.2))
    y.1.forAll y.2 State.takeResponse)

/-- Send an operation's fragments. -/
def State.launch (s : State) (r : RopOp) : State :=
  if rDest r.desc = s.ownCoord then s.loopback r else s.injectFrags r (List.range (rFragments r.desc))

/-- R311: whether an operation is the earliest of its queue. -/
def State.earliest (s : State) (r : RopOp) : Bool :=
  (s.qe.rops.find? (fun x => x.queue = r.queue)).any (fun x => rSeq x.desc = rSeq r.desc)

/-- R316: whether a queue is held for a route change. -/
def State.routeHeld (s : State) (q : Nat) : Bool := (s.queue? q).any Queue.routeHold

/-- R311, R316: SIGNALs and FENCEs whose earlier operations are complete; a held queue injects none. -/
def State.ropProgress (s : State) (q : Nat) : Nat → State
  | 0 => s
  | n + 1 =>
    match s.qe.rops.find? (fun r => r.queue = q && r.waiting) with
    | none => s
    | some r =>
      if !(s.earliest r) then s
      else if rOp r.desc = 6 then State.ropProgress (s.ropDone r 0) q n
      else if s.routeHeld q then s
      else State.ropProgress ((s.modRop r (fun x => { x with waiting := false, epoch := s.fab.routeEpoch })).launch
        { r with waiting := false }) q n

/-- R291, R316: no fragment behind the last refused one is in flight; those ahead of it have gone the same way before it, and of a
PUT they have arrived and share its response (log entry 46). -/
def allArrived (fs : List FragState) : Bool := !((fs.reverse.takeWhile (· != .refused)).any (fun f => f = .inFlight || f = .again))

/-- R316: an operation of whose fragments none is in flight: answered, refused, or arrived ahead of a refused one. -/
def RopOp.settled (r : RopOp) : Bool :=
  r.waiting || r.due.isSome || rOp r.desc = 6 ||
    (r.frags.contains .refused && (if rOp r.desc = 2 then r.frags.all (fun f => f = .refused || f = .answered) else allArrived r.frags))

/-- R316: once everything in flight has been answered or refused, the refused fragments go again and the hold ends. -/
def State.tryReinject (s : State) (q : Nat) : State :=
  match s.queue? q with
  | none => s
  | some x =>
    let mine := s.qe.rops.filter (fun r => r.queue = q)
    if x.routeHold && mine.all RopOp.settled then
      let s1 := s.forAll (mine.filter (fun r => r.frags.contains .refused)) (fun t r =>
        let is := (List.range r.frags.length).filter (fun i => r.frags[i]? = some .refused)
        (t.modRop r (fun y => { y with frags := y.frags.map (fun f => if f = .refused then .again else f) })).injectFrags r is)
      s1.modQueue q (fun y => { y with routeHold := false })
    else s

/-- What follows the end of an operation of a queue. -/
def State.afterRop (s : State) (q : Nat) : State :=
  let t := (s.ropProgress q (s.qe.rops.length + 1)).tryReinject q
  (t.ropProgress q (t.qe.rops.length + 1)).sweepQueues

/-! ## Taking a descriptor (R306, R308) -/

/-- R311, R316: whether the queue may take its next descriptor now. -/
def State.ropOpen (s : State) (q : Queue) : Bool :=
  !q.routeHold && q.out < q.maxOut && !(s.qe.rops.any (fun r => r.queue = q.id && rOp r.desc = 6))

/-- R308: a failed check halts the queue, with its completion. -/
def State.ropRefused (s : State) (q : Queue) (d : List Byte) (code : Nat) : State :=
  let t := s.modQueue q.id (fun x => { x.halt code with
    expectSeq := if rSeq d = x.expectSeq.toNat then x.expectSeq + 1 else x.expectSeq })
  (t.ropCpl q.id q.pen d code 0).count 31 1

/-- R306: the descriptor is taken. -/
def State.ropTake (s : State) (q : Queue) (d : List Byte) : State :=
  let waits := (rOp d = 5 || rOp d = 6) && s.qe.rops.any (fun r => r.queue = q.id)
  let r : RopOp := { queue := q.id, pen := q.pen, index := q.head, desc := d, frags := List.replicate (rFragments d) .inFlight
                     packets := if rOp d = 6 then [] else (List.range (rFragments d)).map (s.fragment q d)
                     epoch := s.fab.routeEpoch, waiting := waits || rOp d = 6, poison := false, status := 0, dropped := false, due := none }
  let t := ((s.takeEntry q (fun x => { x with expectSeq := x.expectSeq + 1, out := x.out + 1 })).count 16
    (if rOp d = 1 || rOp d = 3 then rLength d else 0)).modQe (fun e => { e with rops := e.rops ++ [r] })
  (if r.waiting then t else t.launch r).afterRop q.id

/-- R266, R275: whether near pasture holds the reads of a descriptor's source. -/
def State.ropHeld (s : State) (q : Queue) (d : List Byte) : Bool :=
  (rOp d = 1 || rOp d = 3) && s.penHeld .queueData q.pen (rLocal d) (rLength d)

/-- The head descriptor of a ROP queue, if the queue takes it now and its operation is the command's. -/
def State.ropHead (s : State) (q op : Nat) : State :=
  match s.queue? q with
  | none => s
  | some x =>
    if x.type != .rop || !(s.takes x) || !(s.ropOpen x) then s
    else match s.headEntry x with
      | .error st => s.haltEvent x st
      | .ok d =>
        if rOp d != 0 && rOp d ≤ 6 && rOp d != op then s
        else match s.ropError x d with
          | some code => s.ropRefused x d code
          | none => if s.ropHeld x d then s else s.ropTake x d

def execPut (q : Nat) (s : State) : Result := done (s.quiet.ropHead q 1)
def execGet (q : Nat) (s : State) : Result := done (s.quiet.ropHead q 2)
def execPutAcc (q : Nat) (s : State) : Result := done (s.quiet.ropHead q 3)
def execAtomic (q : Nat) (s : State) : Result := done (s.quiet.ropHead q 4)
def execSignal (q : Nat) (s : State) : Result := done (s.quiet.ropHead q 5)
def execRopFence (q : Nat) (s : State) : Result := done (s.quiet.ropHead q 6)

/-! ## Requests received (R312) -/

/-- The data bytes of a PUT_DATA or PUT_ACC_DATA packet: whole slots, but for a last fragment that names the bytes of its
last slot (log entry 47). -/
def dataBytes (p : Packet) : Nat :=
  let r := if pLast p then pArg0 p / 2 ^ 20 % 16 else 0
  16 * (pSlots p - 2) - (if r = 0 then 0 else 16 - r)

/-- R275, R314: whether the data of a PUT or PUT_ACC waits: for a retraining group, or behind a request to one of its lines. -/
def State.putHeld (s : State) (p : Packet) (acc : Bool) : Bool :=
  let n := putSpan p (dataBytes p) acc
  s.penHeld .fabric (pPen p) (pAddr p) n || s.qe.held.any (sameLine (pPen p) (pAddr p) n)

/-- The data packet at the head of its virtual channel, once near pasture takes it. -/
def State.dataRow (s : State) (vc ptype : Nat) (acc : Bool) : State :=
  match s.headPacket vc ptype with
  | none => s
  | some x =>
    if s.putHeld x.2 acc then s
    else
      let r := (s.takePacket x).arrivePut x.2 (dataBytes x.2) acc
      r.1.forAll r.2 State.inject

/-- The GET, ATOMIC or SIGNAL request at the head of VC0, which leaves it (R321): it is served, or waits at near pasture. -/
def State.requestRow (s : State) (ptype : Nat) : State :=
  match s.headPacket 0 ptype with
  | none => s
  | some x =>
    let r := (s.takePacket x).takeRequest x.2
    r.1.forAll r.2 State.inject

def execPutData (s : State) : Result := done (s.quiet.dataRow 0 0x01 false)
def execPutAccData (s : State) : Result := done (s.quiet.dataRow 2 0x05 true)
def execGetReq (s : State) : Result := done (s.quiet.requestRow 0x02)
def execAtomicReq (s : State) : Result := done (s.quiet.requestRow 0x03)
def execSignalReq (s : State) : Result := done (s.quiet.requestRow 0x04)

/-! ## Responses received (R310, R316) -/

/-- R266, R275, R321: whether near pasture holds the write of a response's result. -/
def State.landingHeld (s : State) (p : Packet) : Bool :=
  match s.ropOf (pTag p) with
  | none => false
  | some r =>
    match pType p, rOp r.desc with
    | 0x12, _ => s.penHeld .fabricData r.pen (rLocal r.desc + 512 * pArg1 p) (min 512 (rLength r.desc - 512 * pArg1 p))
    | 0x13, 4 => s.penHeld .fabricData r.pen (rLocal r.desc) 8
    | _, _ => false

/-- A response of a type at the head of VC1, once near pasture takes its result. -/
def State.responseRow (s : State) (ptype : Nat) : State :=
  match s.headPacket 1 ptype with
  | none => s
  | some x => if s.landingHeld x.2 then s else ((s.takePacket x).takeResponse x.2).afterRop (pTag x.2 % 2 ^ 20)

def execAck (s : State) : Result := done (s.quiet.responseRow 0x10)
def execGetData (s : State) : Result := done (s.quiet.responseRow 0x12)
def execValueResp (s : State) : Result := done (s.quiet.responseRow 0x13)

/-- R316: the fragment that a refusal names. -/
def refusedIndex (r : RopOp) (p : Packet) : Nat :=
  match rOp r.desc with
  | 1 => (pAddr p - rRemote r.desc) / 512
  | 2 => pArg1 p % 2 ^ 24
  | 3 => (pAddr p - rRemote r.desc) / (512 / rAddendBytes r.desc * rTargetBytes r.desc)
  | _ => 0

/-- R316: the status of Table 12.9 that stands for a refusal's of Table 11.5. -/
def refusalStatus : Nat → Nat
  | 1 => 0x14
  | 2 => 0x15
  | 3 => 0x07
  | 4 => 0x16
  | 5 => 0x17
  | n => n

/-- R316: a refused fragment waits to go again when the refusal is its first, of a route that has changed since; any other refusal fails
the operation. -/
def State.takeRefusal (s : State) (r : RopOp) (p : Packet) : State :=
  let i := refusedIndex r p
  let status := refusalStatus (leField p 31 1)
  if status = 0x15 && r.epoch != s.fab.routeEpoch && r.frags[i]? = some .inFlight then
    (s.modRop r (fun y => { y with frags := y.frags.set i .refused })).modQueue r.queue (fun q => { q with routeHold := true })
  else s.ropFail r status

def execRefusal (s : State) : Result :=
  let t := s.quiet
  match t.headPacket 1 0x11 with
  | none => done t
  | some x =>
    let u := t.takePacket x
    let v := match u.ropOf (pTag x.2) with
      | none => u.leaderRefused (pSrc x.2) (leField x.2 8 1) (leField x.2 31 1)
      | some r => ((u.takeRefusal r x.2).afterRop r.queue).leaderRefused (pSrc x.2) 0 (leField x.2 31 1)
    done v

/-! ## What near pasture has held (R321) -/

/-- A response goes to its requester: through the fabric, or for a loopback to the operation here. -/
def State.deliver (s : State) (p : Packet) : State :=
  if pDest p = s.ownCoord then (s.takeResponse p).afterRop (pTag p % 2 ^ 20) else s.inject p

/-- The requests that waited are presented again, in order of arrival. -/
def State.serveHeld (s : State) : List Packet → State
  | [] => s
  | p :: rest =>
    if s.requestHeld s.qe.held p then State.serveHeld (s.modQe (fun e => { e with held := e.held ++ [p] })) rest
    else
      let r := s.answerRequest p
      State.serveHeld (r.1.forAll r.2 State.deliver) rest

/-- The operations open at this destination whose fragments have all arrived. -/
def State.closePuts (s : State) : State := s.forAll s.qe.opens (fun t o => let r := t.closePut o
  r.1.forAll r.2 State.deliver)

/-- The releases of operations that waited, and what follows them in their queues. -/
def State.releaseRops (s : State) : State :=
  let t := s.forAll s.qe.rops (fun t r => match r.due with
    | some v => t.ropDone r v
    | none => t)
  t.forAll (t.qe.queues.filter (fun q => q.type = .rop)) (fun u q => u.afterRop q.id)

/-- R275, R321: what the queue engine does when near pasture serves again. -/
def State.queueServes (s : State) : State :=
  ((s.modQe (fun e => { e with held := [] })).serveHeld s.qe.held).closePuts.releaseRops

/-- R317: an operation whose response has not arrived in time. -/
def execRopTimeout (q : Nat) (seq : Word) (s : State) : Result :=
  match s.qe.rops.find? (fun r => r.queue = q && rSeq r.desc = seq.toNat && !r.waiting && r.due.isNone && rOp r.desc != 6) with
  | none => done s.quiet
  | some r => done ((s.quiet.ropFail r 0x18).afterRop q)

end Sys2Proof.Machine
end

