-- ==== Sys2Proof/Machine/DroverRows.lean ====
section
/-! DEFINITION. What happens to the Drover's work in flight (R208, R227 to R232, R240 to R250): far reads, write-behinds,
recipe runs, DLT encodes, waits that run out, and the golden copies of the bases. -/

namespace Sys2Proof.Machine

/-! ## Near form from far form (R205, R208) -/

/-- The far chunk of the first granule that does not decode. -/
def Tensor.farFault (t : Tensor) (far : List Byte) : Option Nat :=
  if t.farCoded then
    let rd (a : Nat) : Byte := far.getD a 0
    (List.range t.farShape.ngran).findSome? (fun g => match t.farShape.readGranule rd (fun _ => 0) g with
      | .ok _ => none
      | .error 1 => some 0
      | .error _ => some ((t.farShape.payloadOffset + 32 * bitsOf (readLe rd (64 + 8 * g) 8) 39 0) / 4096))
  else none

/-- R205: the near form: the elements at the places their strides give, gaps zero; any other form byte for byte. -/
def Tensor.nearOf (t : Tensor) (far : List Byte) : List Byte :=
  if t.farCoded then
    let rd (a : Nat) : Byte := far.getD a 0
    let gs := (List.range t.farShape.ngran).map (fun g => match t.farShape.readGranule rd (fun _ => 0) g with
      | .ok cs => cs
      | .error _ => [])
    let w := t.width / 8
    (List.range t.elements).foldl (fun acc lin =>
      let p := t.farShape.place (t.coords lin)
      setBytes acc (t.storageIndex lin * w) (leBytes w ((gs.getD p.1 []).getD p.2 0))) (List.replicate t.storedBytes 0)
  else far

/-- R207, R208: the entry that a far chunk is checked against. -/
def Tensor.farCheck (t : Tensor) (c : Nat) : Option Word :=
  ((if t.farDiffers then t.farTable else t.nearTable)[c]?).join

/-- R208: a far chunk that is a near-form chunk byte for byte must also agree with a valid near entry (a compacted form has none,
log entry 36). -/
def Tensor.farPasses (t : Tensor) (f : FarCopy) (c : Nat) (bytes : List Byte) : Bool :=
  let crc := BitVec.ofNat 32 (crc32c bytes)
  some crc == t.farCheck c && (t.farCoded || !f.exact || (match (t.nearTable[c]?).join with
    | some x => x == crc
    | none => true))

/-- R208: the first near-form chunk of an expanded copy that disagrees with a valid entry. -/
def Tensor.nearMismatch (t : Tensor) (near : List Byte) : Option Nat :=
  if t.farCoded then ((chunkTable near).zip t.nearTable).findIdx? (fun x => x.2.isSome && x.1 != x.2) else none

/-- R208: an expandable near-form chunk: 3 when a granule of it does not decode, 1 when it disagrees with its near entry, 0 when it
is good. -/
def Tensor.chunkCause (t : Tensor) (f : Fetch) (c : Nat) : Nat :=
  let gs := (t.granulesIn c).map (fun g => (g, t.farShape.readGranule f.form (fun _ => 0) g))
  if gs.any (fun x => match x.2 with
    | .ok _ => false
    | .error _ => true) then 3
  else
    let w := t.width / 8
    let code (lin : Nat) : Nat :=
      let p := t.farShape.place (t.coords lin)
      match gs.find? (fun x => x.1 = p.1) with
      | some (_, .ok cs) => cs.getD p.2 0
      | _ => 0
    let bytes := (List.range t.elements).foldl (fun acc lin =>
      let b := t.storageIndex lin * w
      if 4096 * c ≤ b && b < 4096 * (c + 1) then setBytes acc (b - 4096 * c) (leBytes w (code lin)) else acc) (List.replicate 4096 0)
    match (t.nearTable[c]?).join with
    | some x => if x == BitVec.ofNat 32 (crc32c bytes) then 0 else 1
    | none => 0

/-! ## Failures (R243, R250) -/

/-- R250, R421: a chunk of a golden copy was rejected: the registration fails, or the base is lost. -/
def State.goldenBad (s : State) (n : Nat) (t : Tensor) : State :=
  if t.res = .none then (s.abandonBase n).answerBase n stIntegrity []
  else (s.modBase n (fun x => { x with lost := true, fetch := none })).logFault 7 0x0302 .uncontained n

/-- R239, R243: a need has lost its fetch path: the recipe if it is usable, else the pen's fault. -/
def State.needLost (s : State) (pen h deadline : Nat) : State :=
  match s.tensor? h with
  | none => s
  | some t =>
    if ((s.pen pen).drained && !t.held) || t.run.isSome || t.readable then s
    else if s.usable t then s.startRecipe pen h deadline else s.penFault pen 0x81 h

/-- R243: a far read fails: the record, the rejects, and the copy is gone. -/
def State.farCopyBad (s : State) (h chunk cause : Nat) : State :=
  match s.any? h with
  | none => s
  | some t =>
    let port := match t.far with
      | some f => (f.chunkPlace chunk).1
      | none => 0
    let pen := h / 2 ^ 29
    let s1 := (s.logFault 7 0x0301 .corrected (if isBaseHandle h then h - 0x10000000 else 0)
      (if isBaseHandle h then none else some pen) none (h + port <<< 32 + cause <<< 36)).rejectOpen h
    if isBaseHandle h then s1.goldenBad (h - 0x10000000) t
    else
      let s2 := s1.modTensor h (fun x =>
        let y := { (x.dropFar) with fetch := none }
        if y.res = .none && y.run.isNone then y.freshTables else y)
      ((s2.freeIdleRoom pen h).needLost pen h (match t.fetch with
        | some f => f.deadline
        | none => s.time.clock)).retryAllocs

/-! ## Registering a base (R247, R421) -/

/-- R247: the base that a source becomes, at near address `a` and with no golden copy yet. -/
def Tensor.asBase (t : Tensor) (n a : Nat) (old : Option Tensor) : Tensor :=
  { t with
    handle := BitVec.ofNat 32 (baseHandle n), pinned := true, recipeIndex := 0, recipe := [], shard := none, res := .none, isBase := true
    lost := (old.elim false Tensor.lost), penAddr := a, far := none, farTable := [], fetch := none, wb := none, wbDue := none, encodeFrom := none
    waitUntil := none, run := none, runBy := 0, room := [], farReserved := 0, held := false, released := false, allocWait := false
    dead := false }

/-- R224, R247: the bases' bytes fit the shared accounts. -/
def State.sharedFits (s : State) : Bool := s.quotaFits 0 (s.pen 0).nearMin (s.pen 0).farMax

/-- R247: the near copy, the golden copy over every port that is up, and the read-back; or NO_RESOURCE in the slot. -/
def State.beginBase (s : State) (i pen n : Nat) (t : Tensor) : State :=
  let near := (List.range t.storedBytes).map (s.nearForm pen t)
  let form := t.farForm (s.nearForm pen t)
  let old := s.base? (baseHandle n)
  let s0 := (match old with
    | some o => s.freeBasePages o
    | none => s)
  let s1 := s0.modDrover (fun d => { d with bases := d.bases.filter (fun b => b.1 != n) })
  match s1.freeRun (roundUp t.storedBytes pageBytes / pageBytes), s1.reserveFar form.length s.stripeNow with
  | some p, some place =>
    let f : FarCopy := { stripe := s.stripeNow, bytes := form.length, place := place, exact := !t.farDiffers }
    let b : Tensor := { t.asBase n (p * pageBytes) old with
      nearTable := chunkTable near, far := some f, farTable := if t.farDiffers then chunkTable form else [] }
    let s2 := s1.modDrover (fun d => { d with bases := d.bases ++ [(n, b)], nearUsed := d.nearUsed ++ basePages b })
    if s.stripeNow = [] || !(s2.sharedFits) then s.answer i stNoResource []
    else ((((((s2.count 16 near.length).npWrite .norm .drover b.penAddr near).npFlushSource .drover).useTensor t.handle.toNat).writeFar f form).beginFetch (baseHandle n)
      s.time.clock).idleTensor t.handle.toNat
  | _, _ => s.answer i stNoResource []

/-- R247, R271, R275: a registration reads its source: once near pasture serves it, and unless the read meets poison. -/
def State.tryBase (s : State) (i pen n : Nat) (t : Tensor) : State :=
  if !(s.servesTensor .drover t) then s
  else if s.tensorPoisoned t then s.meetPoison t
  else s.beginBase i pen n t

/-- R421: the registrations that waited for their source. -/
def State.settleBases (s : State) : State :=
  s.forAll (s.busySlots 0x0305 (fun p => leField p 2 1 = 0)) (fun u i =>
    let p := (u.slotAt i).taken.drop 8
    let going : Bool := (match u.base? (baseHandle (leField p 1 1)) with
      | some b => b.res = .none
      | none => false)
    if going then u
    else match u.tensor? (leField p 4 4) with
      | some t => if t.readable && !t.released then u.tryBase i (leField p 0 1) (leField p 1 1) t else u
      | none => u)

/-- The commands that wait for tensors to come near. -/
def State.settleWaits (s : State) : State := s.settleDrains.settleBases

/-! ## The end of a fetch (R208, R222, R241) -/

/-- R208, R242: the verdicts of the provisional chunks that the last far chunk to pass has completed: one that its granules or its near
entry condemn is rejected, and ends the copy. -/
def State.sendVerdicts (s : State) (h : Nat) (t : Tensor) (f : Fetch) (chunk : Nat) : State :=
  if t.farCoded then
    let held := (((allHalves.flatMap (fun x => (s.half x.1 x.2).prov)).filter (fun id => id.handle.toNat = h)).eraseDups).filter
      (fun id => t.expandable f id.chunk)
    let u := s.forAll held (fun v id => v.sendVerdict id (t.chunkCause f id.chunk = 0))
    match (held.map (fun id => t.chunkCause f id.chunk)).find? (· != 0) with
    | some n => (if n = 3 then u.logFault 5 0x0401 .uncontained 0 (if isBaseHandle h then none else some (h / 2 ^ 29)) none h else u).farCopyBad h chunk n
    | none => u
  else s.sendVerdict { handle := BitVec.ofNat 32 h, chunk := chunk } true

/-- The near table of a form that has just been written whole; the rest of the stored form has no entry. -/
def Tensor.tableOf (t : Tensor) (near : List Byte) : List (Option Word) :=
  let l := chunkTable near
  l ++ List.replicate (ceilDiv t.storedBytes 4096 - l.length) none

/-- Every chunk has passed: expand, check and write the near copy; the tensor becomes BOTH. -/
def State.landFetch (s : State) (h : Nat) (t : Tensor) (f : Fetch) (copy : FarCopy) : State :=
  let far := ((f.chunks.filterMap FarChunk.bytes?).flatten).take copy.bytes
  match t.farFault far with
  | some c => (s.logFault 5 0x0401 .uncontained 0 (if isBaseHandle h then none else some (h / 2 ^ 29)) none h).farCopyBad h c 3
  | none =>
    let near := t.nearOf far
    match t.nearMismatch near with
    | some c => s.farCopyBad h (min c (f.chunks.length - 1)) 1
    | none =>
      let s2 := if f.deadline < s.time.clock && !(isBaseHandle h) then s.count 24 1 else s
      if isBaseHandle h then
        let n := h - 0x10000000
        let s3 := if t.res = .none then s2 else (s2.npWrite .norm .drover t.penAddr near).npFlushSource .drover
        (s3.modBase n (fun x => { x with res := .both, fetch := none, lost := false, nearTable := x.tableOf near })).answerBase n
          stOk (leBytes 4 h)
      else
        let s3 := ((s2.becomeNear (h / 2 ^ 29) h .both).penWrite .norm .drover (h / 2 ^ 29) t.penAddr near).npFlushSource .drover
        (s3.modTensor h (fun x => { x with fetch := none, nearTable := x.tableOf near })).settleWaits

def execFarReadComplete (handle : Word) (chunk : Nat) (bytes : List Byte) (poison : Bool) (s : State) : Result :=
  let h := handle.toNat
  match s.any? h with
  | none => done s.quiet
  | some t =>
    match t.fetch, t.far with
    | some f, some copy =>
      if f.chunks[chunk]? != some .issued then done s.quiet
      else
        let s1 := s.quiet.count 20 bytes.length
        let good := !poison && bytes.length = 4096 && t.farPasses copy chunk bytes
        if !good then done ((s1.farCopyBad h chunk (if poison then 2 else 1)).pumpReads)
        else
          let g := { f with chunks := f.chunks.set chunk (.confirmed bytes) }
          let s2 := s1.modAny h (fun x => { x with fetch := some g })
          let s3 := s2.sendVerdicts h t g chunk
          let all := g.chunks.all (fun c => c.bytes?.isSome) && ((s3.any? h).bind Tensor.fetch).isSome
          done ((if all && t.run.isNone && (t.res = .far || isBaseHandle h) then s3.landFetch h t g copy else s3.endSwitched h).retryAllocs.pumpReads)
    | _, _ => done s.quiet

/-- R242: a far read not completed 100 µs after issue. -/
def execFarReadTimeout (handle : Word) (chunk : Nat) (s : State) : Result :=
  match (s.any? handle.toNat).bind Tensor.fetch with
  | some f => if f.chunks[chunk]? = some .issued then done ((s.quiet.farCopyBad handle.toNat chunk 4).pumpReads) else done s.quiet
  | none => done s.quiet

/-! ## Prediction again and waits (R229, R240) -/

/-- R240: one fetch in flight is predicted again, and may switch to its recipe. -/
def State.repredict (s : State) (h : Nat) : State :=
  match s.tensor? h with
  | none => s
  | some t =>
    match t.fetch with
    | none => s
    | some f =>
      let tf := s.predictFetch t f.deadline
      let misses := match tf with
        | some x => f.deadline < x
        | none => true
      let earlier := match s.predictRecipe t f.deadline, tf with
        | some r, some x => r < x
        | some _, none => true
        | none, _ => false
      if f.switched || t.run.isSome || (s.pen (h / 2 ^ 29)).drained || !misses || !earlier then s
      else
        let s1 := s.modTensor h (fun x => { x with fetch := some { f with
          switched := true, chunks := f.chunks.map (fun c => if c = .waiting then .cancelled else c) } })
        s1.startRecipe (h / 2 ^ 29) h f.deadline

/-- R215, R240: a fetch that cannot go on: a chunk that it has not read yet lies behind a port that is not up. -/
def State.stalled (s : State) (t : Tensor) : Bool :=
  match t.fetch, t.far with
  | some f, some copy => f.chunks.zipIdx.any (fun x => x.1 = .waiting && !(s.stripeNow.contains (copy.chunkPlace x.2).1))
  | _, _ => false

/-- R243: the need of a fetch that has stalled: the recipe when it is usable, else a wait, under the deadline it had. -/
def State.stallFetch (s : State) (h : Nat) : State :=
  match s.tensor? h with
  | none => s
  | some t => match t.fetch with
    | some f => if s.stalled t && !f.switched && t.run.isNone then (s.modTensor h (fun x => { x with waitUntil := some f.deadline })).repredict h
      else s
    | none => s

/-- R240: a fetch that has stalled goes on. -/
def State.unstallFetch (s : State) (h : Nat) : State :=
  match s.tensor? h with
  | none => s
  | some t => if t.fetch.isSome && !(s.stalled t) then s.modTensor h (fun x => { x with waitUntil := none }) else s

/-- R406: one port relinks at a time: the lowest that waits for its relink begins it (log entry 166). -/
def State.startRelink (s : State) : State :=
  if s.talsen.any Talsen.relinking || !s.boot.shepherdRuns then s
  else match (List.range 4).find? (fun p => (s.talsenAt p).relinkDue && (s.talsenAt p).state == .up) with
    | none => s
    | some p =>
      let t := (s.modTalsen p (fun x => { x with state := .training, relinking := true, relinkDue := false, corrected := [] })).healthEventAll 4
      t.forAll t.fetchOrder State.stallFetch

def execFetchRepredict (s : State) : Result := done (s.quiet.forAll s.fetchOrder State.repredict)

/-- R240, R243: a need without a path 1 s after its deadline fails at the pen layer. -/
def execNeedWaitTimeout (handle : Word) (s : State) : Result :=
  match s.tensor? handle.toNat with
  | none => done s.quiet
  | some t =>
    if t.waitUntil.isSome && (t.needsPath || s.stalled t) then done (((s.quiet.count 24 1).penFault (handle.toNat / 2 ^ 29) 0x81 handle.toNat).retryAllocs)
    else done s.quiet

/-- R229: an allocation above NEAR_MIN that has waited 50 ms without a candidate. -/
def execPoolExhausted (handle : Word) (s : State) : Result :=
  let h := handle.toNat
  let pen := h / 2 ^ 29
  match s.tensor? h with
  | none => done s.quiet
  | some t =>
    let stuck : Bool := (s.chooseVictim { pen := pen, size := t.chargedBytes, prefetch := false, deadline := s.time.clock }).isNone
    if t.allocWait && (s.pen pen).nearMin < (s.pen pen).nearUse + t.chargedBytes && !(s.allocate pen t false s.time.clock).2 && stuck then
      done (s.quiet.penFault pen 0x83 t.accountedSize).retryAllocs
    else done s.quiet

/-- R227: entries older than 2³¹ units of 1.024 µs. -/
def execLastUseSweep (s : State) : Result :=
  let now := BitVec.ofNat 32 (s.time.now.toNat / 1024)
  let sweep (t : Tensor) : Tensor := if 2 ^ 31 < (now - t.lastUse).toNat then { t with lastUse := now - 0x80000000 } else t
  let t := s.quiet
  done { t with pens := t.pens.map (fun p => { p with tensors := p.tensors.map sweep }) }

/-! ## Write-behind (R230) -/

def execWriteBehindComplete (handle : Word) (s : State) : Result :=
  match s.tensor? handle.toNat with
  | none => done s.quiet
  | some t =>
    match t.wb with
    | none => done s.quiet
    | some w =>
      done ((s.quiet.modTensor handle.toNat (fun x => { x with
        wb := none, far := some { stripe := w.stripe, bytes := w.form.length, place := w.place, exact := w.exact }
        farTable := if x.farDiffers then chunkTable w.form else []
        res := if x.res = .near then .both else x.res })).retryAllocs)

/-- R230: the write-behind ends; one retry over the stripe set without the failed port. -/
def State.wbFails (s : State) (h port : Nat) : State :=
  match s.tensor? h with
  | none => s
  | some t =>
    match t.wb with
    | none => s
    | some w =>
      if w.stripe.contains port then
        let s1 := s.modTensor h (fun x => { x with wb := none })
        if w.retry then s1 else s1.beginWriteBehind (h / 2 ^ 29) h (s.stripeNow.filter (· != port)) true
      else s

def execFarWriteFailure (handle : Word) (port : Fin 4) (s : State) : Result := done (s.quiet.wbFails handle.toNat port.val)

/-- R275: the write-behinds that waited for near pasture to serve their reads; each takes the stripe set of this moment (R215), a retry
that of its own ports that are still up. -/
def State.resumeWriteBehind (s : State) (h : Nat) : State :=
  match s.tensor? h with
  | none => s
  | some t => match t.wbDue with
    | some (stripe, retry) =>
      if t.res = .near && t.wb.isNone && !(s.inUse h) then
        s.beginWriteBehind (h / 2 ^ 29) h (if retry then stripe.filter s.stripeNow.contains else s.stripeNow) retry
      else s.modTensor h (fun x => { x with wbDue := none })
    | none => s

/-- R266, R275, R321: near pasture serves again what it held: its waiting requests, the queue engine's, the operators whose release
waited, and the reads of the Drover. -/
def State.nearServes (s : State) : State :=
  let t := s.npServeWaiting.queueServes.completeEnded
  (t.forAll t.allTensors (fun u x => u.resumeWriteBehind x.1)).settleWaits.settleItineraries

/-! ## Recipe runs (R144, R232) -/

/-- R113: the operators in flight that read a tensor count its rebuild, those that issue later do not (log entry 175). -/
def State.countRecompute (s : State) (h : Nat) : State :=
  let waiting := s.comp.ops.filter (fun o => o.recipeFor.isNone && (s.readHandles o).contains h)
  s.forAll waiting (fun u o => u.modOp o.id (fun x => { x with recomputes := satInc x.recomputes 0xFFFF }))

/-- R232, R240: the recipe has written the whole tensor: it is near, and BOTH while its far copy stands; until then it stays NONE or FAR
(log entry 172). -/
def execRecipeComplete (handle : Word) (s : State) : Result :=
  let h := handle.toNat
  match s.tensor? h with
  | none => done s.quiet
  | some t =>
    if t.run = some t.recipe.length && t.recipe != [] then
      let s1 := (s.quiet.countRecompute h).becomeNear (h / 2 ^ 29) h (if t.far.isSome then .both else .near)
      let s2 := (s1.modTensor h (fun x => { x with run := none })).endSwitched h
      done ((((s2.freeScratch (h / 2 ^ 29) t.recipe).settleWaits).idleTensor h).retryAllocs)
    else done s.quiet

/-! ## DLT encodes (R198) -/

/-- R198, R249, R271: an encode has read poison in its source or in the base. -/
def State.meetEncodePoison (s : State) (t src : Tensor) : State :=
  let u := if s.basePoisoned t then s.poisonBase (t.base.toNat - 0x10000000) else s
  if u.tensorPoisoned src then u.meetPoison src else u

def execDltEncodeComplete (handle : Word) (s : State) : Result :=
  let h := handle.toNat
  let pen := h / 2 ^ 29
  match s.tensor? h with
  | none => done s.quiet
  | some t =>
    match t.encodeFrom.bind (fun x => s.tensor? x.toNat) with
    | none => done s.quiet
    | some src =>
      let bad : Bool := match s.base? t.base.toNat with
        | some b => b.res = .poisoned
        | none => true
      if bad then done (s.quiet.modTensor h (fun x => { x with encodeFrom := none }))
      else if !(src.readable) then done (s.quiet.takePath pen src.handle.toNat s.time.clock false)
      else if !(s.servesTensor .shears t) || !(s.servesTensor .shears src) then done s.quiet
      else if s.tensorPoisoned src || s.basePoisoned t then done (s.quiet.meetEncodePoison t src)
      else
        let r := s.quiet.allocate pen t false s.time.clock
        if r.2 then
          let k := t.compShape
          let form := piecesBytes (k.encode true (s.elemCode pen src) (s.baseCode t))
          let v := ((((r.1.count 16 src.storedBytes).becomeNear pen h .near).useTensor src.handle.toNat).penWrite .norm .shears pen t.penAddr form).npFlushSource .shears
          done (((v.modTensor h (fun x => { (x.freshTables) with
            encodeFrom := none, nearTable := x.tableOf form })).useTensor h).settleWaits.idleTensor h |>.idleTensor src.handle.toNat)
        else done (r.1.setAllocWait h true)

/-! ## Golden copies (R248) -/

/-- R248: a golden copy has been read in full: `chunks` are its bytes as the ports returned them. -/
def execGoldenScrub (base : Fin 64) (chunks : List (List Byte)) (poison : Bool) (s : State) : Result :=
  match s.base? (baseHandle base.val) with
  | none => done s.quiet
  | some t =>
    match t.far with
    | none => done s.quiet
    | some f =>
      let n := ceilDiv f.bytes 4096
      if t.res != .both || !(s.fetchable f) || s.npHeld .scrub t.penAddr t.storedBytes then done s.quiet
      else
        let s1 := s.quiet.count 20 (4096 * n)
        let good := !poison && chunks.length = n && chunks.zipIdx.all (fun x =>
          x.1.length = 4096 && some (BitVec.ofNat 32 (crc32c x.1)) == t.farCheck x.2)
        if good || s.npPoisoned t.penAddr t.storedBytes then done s1
        else
          let form := t.farForm (s.baseForm t)
          done ((((s1.count 16 t.storedBytes).writeFar f form).modBase base.val (fun x => { x with
            farTable := if x.farDiffers then chunkTable form else x.farTable })).logFault 7 0x0304 .corrected base.val)

end Sys2Proof.Machine
end

