-- ==== Sys2Proof/Machine/Sheepdog.lean ====
section
/-! DEFINITION. The Sheepdog (chapter 19): the life-cycle state, images and their verification, the choice of the image that
starts, settings at a start, presence and the seal loop, and the journal scan. -/

namespace Sys2Proof.Machine

/-! ## Life cycle (R453, R454) -/

def OwnerSlot.live (o : OwnerSlot) : Bool := !o.revoked

/-- R454: the live owner slot's hash. -/
def Sheepdog.ownerHash (g : Sheepdog) : Option Nat := (g.ownerSlots.find? OwnerSlot.live).map OwnerSlot.hash

/-- R454: the state that the boot ROM derives. -/
def Sheepdog.deriveLc (g : Sheepdog) : Nat :=
  if g.fuseDecommissioned then lcDecommissioned
  else if !g.fuseProvisioned then lcBlank
  else
    let id := (g.identNow).getD .none'
    if g.ownerHash.isSome then (if id.locked then lcLocked else lcOwned)
    else if id.ret then lcReturn else lcProvisioned

/-! ## The flash (R467, R468) -/

def mib : Nat := 2 ^ 20
def Sheepdog.dualSlot (g : Sheepdog) : Bool := 128 ≤ g.flashMib
def Sheepdog.flashUsable (g : Sheepdog) : Bool := 64 ≤ g.flashMib

/-- Table 19.6: where an image's region starts, and its bytes. -/
def Sheepdog.regionBase (g : Sheepdog) (i : Nat) : Nat :=
  match i with
  | 0 => 0xC00000
  | 1 => if g.dualSlot then 0x3C00000 else 0x2400000
  | _ => 0x6C00000

def Sheepdog.regionBytes (g : Sheepdog) (i : Nat) : Nat := if g.dualSlot then (if i < 2 then 48 * mib else 16 * mib) else 24 * mib

/-- Table 19.6: the CRC table of an image. -/
def crcTable (i : Nat) : Nat := 0x10000 * (i + 1)

def Sheepdog.flashByte (g : Sheepdog) (a : Nat) : Byte := cellGet 0xFF g.flash a
def Sheepdog.flashRead (g : Sheepdog) (a n : Nat) : List Byte := (List.range n).map (fun i => g.flashByte (a + i))

/-- Programming can only clear bits. -/
def Sheepdog.flashProgram (g : Sheepdog) (a : Nat) (bs : List Byte) : Sheepdog :=
  { g with flash := (bs.zipIdx).foldl (fun m x => cellPut 0xFF m (a + x.2) (cellGet 0xFF m (a + x.2) &&& x.1)) g.flash }

def Sheepdog.flashErase (g : Sheepdog) (sector : Nat) : Sheepdog :=
  { g with flash := g.flash.filter (fun c => !(sector ≤ c.1 && c.1 < sector + 4096)) }

/-! ## Images (R464, R465, R470) -/

/-- A field of an image's header. -/
def Sheepdog.imageField (g : Sheepdog) (i off n : Nat) : Nat := leNat (g.flashRead (g.regionBase i + off) n)

/-- R470: a flash block is valid. -/
def Sheepdog.blockValid (g : Sheepdog) (i b : Nat) : Bool :=
  !((g.flashByte (crcTable i + 0xC000 + b / 8)).getLsbD (b % 8)) &&
    leNat (g.flashRead (crcTable i + 4 * b) 4) = crc32c (g.flashRead (g.regionBase i + 4096 * b) 4096)

/-- Table 19.3: SIG, as r and s. -/
def sigAt (bs : List Byte) (off : Nat) : Nat × Nat := (leField bs off 48, leField bs (off + 48) 48)

/-- Table 19.3: a KEY of 97 bytes as a point, X and Y most significant byte first as SEC 1 writes them (log entry 152); none unless it
starts with 0x04. -/
def keyPoint (bs : List Byte) : Option (Nat × Nat) :=
  if leField bs 0 1 = 4 then some (beNat ((bs.drop 1).take 48), beNat ((bs.drop 49).take 48)) else none

/-- A signature over bytes by a key. -/
def signed (key : Nat × Nat) (bs : List Byte) (sig : Nat × Nat) : Bool := ecdsaVerify key.1 key.2 (sha384 bs) sig.1 sig.2

/-- R465: an image is verified.  The images programmed at provisioning are Salholt's and carry no countersignature (log entry
5). -/
def Sheepdog.verified (g : Sheepdog) (i : Nat) : Bool :=
  let f := g.imageField i
  if g.factory.contains i then g.lcState != lcLocked && g.floor ≤ 2
  else
    let base := g.regionBase i
    let bytes := f 12 4
    let major := f 11 1
    f 0 4 = 0x57464853 && f 4 2 = 1 && 8192 ≤ bytes && bytes ≤ g.regionBytes i && f 16 1 = 2 && f 20 1 < 4 &&
      !(g.salholtRevoked.getD (f 20 1) true) && f 19 1 ≤ major && g.floor ≤ major &&
      signed (Config.salholtKey (f 20 1)) (g.flashRead base 3712) (sigAt (g.flashRead (base + 3712) 96) 0) &&
      sha384 (g.flashRead (base + 4096) (bytes - 4096)) = beNat (g.flashRead (base + 24) 48) &&
      (List.range ((bytes + 4095) / 4096)).all (g.blockValid i) &&
      (g.lcState != lcLocked ||
        (g.ownerHash = some (sha384 (g.flashRead (base + 3808) 97)) && (match keyPoint (g.flashRead (base + 3808) 97) with
          | some k => signed k (g.flashRead base 3908) (sigAt (g.flashRead (base + 3908) 96) 0)
          | none => false)))

/-- R464: IMAGE_VERSION, SETTINGS_VERSION, FLOOR_MAJOR and the Eszer minor version of an image. -/
def Sheepdog.imageVersion (g : Sheepdog) (i : Nat) : Word :=
  if g.factory.contains i then 0x02000001 else BitVec.ofNat 32 (g.imageField i 8 4)
def Sheepdog.imageSettings (g : Sheepdog) (i : Nat) : Nat := if g.factory.contains i then 1 else g.imageField i 18 1
def Sheepdog.imageFloor (g : Sheepdog) (i : Nat) : Nat := if g.factory.contains i then 0 else g.imageField i 19 1
def Sheepdog.imageMinor (g : Sheepdog) (i : Nat) : Nat :=
  if g.factory.contains i then Config.factoryEszerMinor.toNat else g.imageField i 17 1
def Sheepdog.imageBytes (g : Sheepdog) (i : Nat) : Nat := if g.factory.contains i then 8192 else g.imageField i 12 4

/-! ## Which image starts (R469, R475) -/

/-- The Sheepdog with the writes that wait for HOLDUP_OK taken as done. -/
def Sheepdog.settled (g : Sheepdog) : Sheepdog := g.flushOwn

/-- R475 steps 3 and 4: the images tried after BOOT. -/
def Sheepdog.others (g : Sheepdog) (b : Bcb) : List Nat :=
  let conf := if b.confirmed < 2 && b.confirmed != b.boot then [b.confirmed] else []
  conf ++ ([0, 1].filter (fun i => i != b.boot && !(conf.contains i) && b.states.getD i .empty = .valid)) ++ (if g.dualSlot then [2] else [])

/-- R469: a BCB that describes what the boot ROM found. -/
def Sheepdog.freshBcb (g : Sheepdog) (i : Nat) : Bcb :=
  let all := if g.dualSlot then [0, 1, 2] else [0, 1]
  { ok := true, crc := 0, seq := 1, boot := if i < 2 then i else 0, confirmed := if i < 2 then i else 0xFF, staging := !g.dualSlot
    settingsCur := 0, settingsPending := false
    states := [0, 1, 2].map (fun k => if k = i && i < 2 then .active else if all.contains k && g.verified k then .valid else .invalid)
    versions := [0, 1, 2].map (fun k => if all.contains k && g.verified k then g.imageVersion k else 0)
    bytes := [0, 1, 2].map (fun k => if all.contains k && g.verified k then g.imageBytes k else 0) }

/-- R475: the image that starts and the BCB writes that the choice makes. -/
def Sheepdog.choose (g0 : Sheepdog) (ended : Bool) : Sheepdog × Option Nat :=
  let g := g0.settled
  match g.bcbNow with
  | none =>
    match ([0, 1] ++ (if g.dualSlot then [2] else [])).find? g.verified with
    | some i => (g0.ownWrite (.bcbSelect (g.freshBcb i)), some i)
    | none => (g0, none)
  | some b0 =>
    let fall := ended && b0.states.getD b0.boot .empty = .unconfirmed
    let b := if fall then b0.fallback else b0
    let g1 := if fall then g0.ownWrite .bcbFallback else g0
    if g.verified b.boot then
      (if b.states.getD b.boot .empty = .pending then
          g1.ownWrite (.bcbSelect { b with states := setImage b.states b.boot .unconfirmed }) else g1, some b.boot)
    else
      match (g.others b).find? g.verified with
      | some i =>
        let bad := setImage b.states b.boot .invalid
        (g1.ownWrite (.bcbSelect (if i < 2 then { b with boot := i, states := setImage bad i .active, settingsPending := false }
          else { b with states := bad })), some i)
      | none => (g1.ownWrite (.bcbSelect { b with states := setImage b.states b.boot .invalid }), none)

/-- R478: at its first start an image whose format differs migrates the settings to the other copy; R479: a migration whose copy is
not valid is repeated. -/
def Sheepdog.migrate (g : Sheepdog) (i : Nat) : Sheepdog :=
  let h := g.settled
  let b := (h.bcbNow).getD .none'
  let fmt := g.imageSettings i
  let cur := h.settings.getD b.settingsCur (.default fmt)
  if b.settingsPending && (h.settings.getD (1 - b.settingsCur) (.default fmt)).ok then g
  else if !b.settingsPending && cur.ok && cur.formatVersion = fmt then g
  else
    let x : Settings := { (if cur.ok then cur else .default fmt) with formatVersion := fmt }
    (g.ownWrite (.settingsCopy (1 - b.settingsCur) x)).ownWrite (.bcbSelect { b with settingsPending := true })

/-- R478: the settings in use. -/
def Sheepdog.inUse (g : Sheepdog) : Settings := g.settled.settingsNow

/-! ## Updates of the running image (R476, R477) -/

/-- The Sheepdog's record of the image that has started. -/
def Sheepdog.started (g : Sheepdog) (i : Nat) : Sheepdog :=
  let b := (g.settled.bcbNow).getD .none'
  { g with running := some i, fwUnconfirmed := i < 2 && b.states.getD i .empty = .unconfirmed }

/-- R476: a confirmation whose writes wait for HOLDUP_OK. -/
def Sheepdog.confirming (g : Sheepdog) : Bool := g.ownWrites.contains .confirmed

/-- R476: confirmation, in order; FW_UNCONFIRMED is cleared last. -/
def Sheepdog.confirmHealth (g : Sheepdog) : Sheepdog :=
  let n := match g.running with
    | some i => g.imageFloor i
    | none => 0
  if g.confirming then g else ((g.ownWrite .bcbConfirm).ownWrite (.floor n)).ownWrite .confirmed

/-- R477: the fallback of an unconfirmed image. -/
def Sheepdog.fallBack (g : Sheepdog) : Sheepdog := { g.ownWrite .bcbFallback with fwUnconfirmed := false }

/-! ## The journal scan (R479, R480) -/

/-- The image whose region or CRC table holds a flash address. -/
def Sheepdog.imageAt (g : Sheepdog) (a : Nat) : Option Nat :=
  ([0, 1] ++ (if g.dualSlot then [2] else [])).find? (fun i =>
    (g.regionBase i ≤ a && a < g.regionBase i + g.regionBytes i) || (crcTable i ≤ a && a < crcTable i + 0x10000))

/-- R479, R480: an image whose region or CRC table was interrupted is INVALID in a new BCB. -/
def Sheepdog.spoilImage (g : Sheepdog) (i : Nat) : Sheepdog :=
  match g.settled.bcbNow with
  | some b => if i < 2 && b.states.getD i .empty != .invalid then g.ownWrite (.bcbSelect { b with states := setImage b.states i .invalid }) else g
  | none => g

/-- R480: an erased BCB or identity copy is rewritten from the other copy. -/
def Sheepdog.restoreBcb (g : Sheepdog) : Sheepdog := match g.bcbNow with
  | some b => g.ownWrite (.bcbSelect b)
  | none => g

def Sheepdog.restoreIdentity (g : Sheepdog) : Sheepdog := if g.identIndex.isSome then g.ownWrite (.identity) else g

/-- R479, R480: what an interrupted operation at an address does to the structure it belongs to. -/
def Sheepdog.spoil (g : Sheepdog) (erased : Bool) (a : Nat) : Sheepdog :=
  if a < 0x2000 then
    let h := { g with bcb := g.bcb.modify (a / 0x1000) (fun b => { b with ok := false }) }
    if erased then h.restoreBcb else h
  else if a < 0x4000 then
    let h := { g with identity := g.identity.modify (a / 0x1000 - 2) (fun b => { b with ok := false }) }
    if erased then h.restoreIdentity else h
  else if 0x400000 ≤ a && a < 0xC00000 then
    { g with settings := g.settings.modify (a / 0x400000 - 1) (fun x => { x with ok := false }) }
  else match g.imageAt a with
    | some i => g.spoilImage i
    | none => g

/-- R471: one sector erase, journaled. -/
def Sheepdog.eraseSector (g : Sheepdog) (a : Nat) : Sheepdog := ((g.append .eraseStart a).flashErase a).append .eraseDone a

/-- R479, R480: an interrupted erase is done again, the structure is dealt with, and the operation is RESOLVED. -/
def Sheepdog.resolve (g : Sheepdog) (r : JournalRec) : Sheepdog :=
  let erased : Bool := r.type = .eraseStart
  ((if erased then g.eraseSector (r.addr / 4096 * 4096) else g).spoil erased r.addr).append .resolved r.addr

/-- R479: before any flash use; records that fail their CRC are ignored (R471). -/
def Sheepdog.scan (g : Sheepdog) : Sheepdog := (openRecords (g.journal.filter JournalRec.passes)).foldl Sheepdog.resolve g

/-! ## Presence and the seal loop (R459 to R461) -/

/-- R461: fewer than three mismatches in a row (log entry 55). -/
def Sheepdog.sealIntact (g : Sheepdog) : Bool := g.sealMiss < 3

def State.windowOpen (s : State) : Bool := match s.dog.window with
  | some t => s.time.clock < t
  | none => false

/-- Seconds left in a span that ends at a clock value, rounded up. -/
def secondsLeft (clock till : Nat) : Nat := (till - clock + 999999999) / 1000000000

def State.windowSeconds (s : State) : Nat := match s.dog.window with
  | some t => secondsLeft s.time.clock t
  | none => 0

/-- R459: a press; `rested` says that PRESENCE_N had been high for 1 s before it, which a stuck press asks for. -/
def execPresencePress (rested : Bool) (s : State) : Result :=
  let t := s.quiet
  done (if 1 ≤ t.boot.stage && t.dog.sealIntact && (rested || !t.dog.presenceStuck) then
      t.modDog (fun g => { g with window := some (t.time.clock + 30000000000), sealBroken := false, presenceStuck := false })
    else t)

/-- R459: a press held for more than 10 s. -/
def execPresenceStuck (s : State) : Result :=
  done ((s.quiet.modDog (fun g => { g with window := none, presenceStuck := true })).logFault 13 0x0903 .corrected)

/-- R459: the 30 s are over. -/
def execPresenceWindowExpiry (s : State) : Result := done (s.quiet.modDog (fun g => { g with window := none }))

/-- R460, R462: the level of LOCK_STRAP_N, as SD_STATUS shows it. -/
def State.sampleStrap (s : State) (asserted : Bool) : State := s.modDog (fun g => { g with strap := asserted })

/-- R462, R473: HOLDUP_OK; asserted, it also lets the waiting writes go. -/
def State.sampleHoldup (s : State) (ok : Bool) : State :=
  s.modDog (fun g => { (if ok then g.flushOwn else g) with holdup := ok })

/-- R461: SEAL_SENSE_A takes a new pseudo-random level, a free value; the former is compared.  The Sheepdog sees its other inputs,
LOCK_STRAP_N and HOLDUP_OK, in the same millisecond (log entry 164). -/
def execSealSample (pins : SealPins) (s : State) : Result :=
  let r := ((s.quiet.sampleStrap pins.strap).sampleHoldup pins.holdup).draw
  let g := r.2.dog
  let miss := if pins.senseB = g.sealA then 0 else min 3 (g.sealMiss + 1)
  let t := r.2.modDog (fun x => { x with sealA := r.1.getLsbD 0, sealMiss := miss })
  if miss = 3 && g.sealMiss < 3 then
    done (((t.modDog (fun x => { x with window := none, debugLevel := 0, sealBroken := true })).ownWrite .sealCount).logFault 13 0x0904 .corrected)
  else done t

/-- R473: HOLDUP_OK is asserted: the writes that wait are done. -/
def execHoldupOkAsserted (s : State) : Result :=
  done (s.quiet.modDog (fun g => { g.flushOwn with holdup := true }))

/-- R472: a background erase ends; the next begins. -/
def Sheepdog.sectorErased (g : Sheepdog) : Sheepdog :=
  match g.erasing with
  | [] => g
  | [a] => ({ (g.flashErase a) with erasing := [] } : Sheepdog).append .eraseDone a
  | a :: b :: rest => (({ (g.flashErase a) with erasing := b :: rest } : Sheepdog).append .eraseDone a).append .eraseStart b

end Sys2Proof.Machine
end

