-- ==== Sys2Proof/Machine/Registers.lean ====
section
/-! DEFINITION. What the registers and telemetry items read: BAR0 (Tables 16.3 to 16.6, 18.7, 18.8, 19.4, the shadow of R496
and the mirror of R487), Table 20.6, and the port and topology registers (Tables 11.6, 11.7). -/

namespace Sys2Proof.Machine

/-! ## Capacity and health -/

/-- R16: enabled Folds: slots that a working Fold serves. -/
def State.enabledFolds (s : State) (lo n : Nat) : Nat := ((List.range n).filter (fun i => (s.slotFold (lo + i)).isSome)).length

/-- Table 16.5: DEGRADED; each part counts from the stage that brings its unit up (log entry 57). -/
def State.degraded (s : State) : Bool :=
  (3 ≤ s.boot.stage && s.enabledFolds 0 128 < 128) || (4 ≤ s.boot.stage && s.talsen.any (fun t => t.state != .up)) ||
    (s.boot.linkUp && !(s.boot.linkRate = .g64 && s.boot.linkWidth = .x16))

/-- Table 16.5: STAGE as a function reads it. -/
def State.stageReg (s : State) (fn : Nat) : Nat :=
  let pending := if fn = 0 then s.faultPending else match s.boundPen fn with
    | some p => (s.pen p).state = .faulted
    | none => false
  s.boot.stage + natOfBool pending <<< 16 + natOfBool s.thermal <<< 17 + natOfBool s.boot.coordinatorLost <<< 18 +
    natOfBool s.dog.fwUnconfirmed <<< 19 + natOfBool s.degraded <<< 20

/-- R441: fields that the firmware sets read zero until stage 2; R453: in DECOMMISSIONED the boot ROM's own values. -/
def State.fwVersion (s : State) : Nat :=
  if s.boot.stage < 2 then 0 else match s.dog.running with
    | some i => (s.dog.imageVersion i).toNat
    | none => 0

def State.eszerMajor (s : State) : Nat := if s.boot.stage < 2 then 0 else 2
def State.eszerMinor (s : State) : Nat :=
  if s.boot.stage < 2 then 0 else match s.dog.running with
    | some i => s.dog.imageMinor i
    | none => 0

/-! ## Telemetry (R497, Table 20.6) -/

def meanOf (l : List Nat) : Nat := if l = [] then 0 else l.sum / l.length

def State.item (s : State) (i : Nat) : Nat :=
  let p := s.health.power
  match i with
  | 0 => s.health.snapEpoch.toNat
  | 1 => s.time.now.toNat
  | 2 => meanOf (p.samples.take 10)
  | 3 => meanOf p.samples
  | 5 => p.limit
  | 6 => p.point.mhz + p.duty <<< 16 + natOfBool p.brake <<< 21
  | 7 => leNat (p.dieTemps.map (BitVec.ofNat 8))
  | 8 => leNat (s.np.stackList.map (fun k => BitVec.ofNat 8 k.temp))
  | 41 => 0
  | _ => if 50 ≤ i && i < 58 then (s.pen (i - 50)).nearUse else (s.health.counters.getD i 0).toNat

/-! ## Identity and stage (Tables 16.4, 16.5) -/

def State.identityWord (s : State) (fn off : Nat) : Nat :=
  match off with
  | 0x00 => 0x1F3C + 0x0384 <<< 16
  | 0x04 => 0xB0 + s.eszerMajor <<< 8 + s.eszerMinor <<< 16
  | 0x08 => fn + (match s.boundPen fn with
      | some p => p <<< 4 + 1 <<< 7
      | none => 0)
  | 0x10 => s.dog.serial.toNat % 2 ^ 32
  | 0x14 => s.dog.serial.toNat / 2 ^ 32
  | 0x18 => s.fwVersion
  | _ => 0

def State.stageWord (s : State) (fn off : Nat) : Nat :=
  let r := s.fnRegs fn
  match off with
  | 0x00 => s.stageReg fn
  | 0x04 => r.healthEvt.toNat
  | 0x08 => r.healthMask.toNat
  | 0x0C => if s.boot.stage < 2 then 0 else s.boot.heartbeat.toNat
  | 0x10 => r.winPen + natOfBool r.winEnable <<< 3 + (r.winBase <<< 21) % 2 ^ 32
  | 0x14 => r.winBase >>> 11
  | _ => 0

/-! ## Mailbox slots (Table 16.6) -/

def Mailbox.word (m : Mailbox) (off : Nat) : Nat :=
  match off with
  | 0x00 => natOfBool m.go + natOfBool m.irq <<< 2
  | 0x04 => m.state + m.last.toNat <<< 8
  | 0x08 => m.reqLen
  | 0x0C => m.rspLen
  | 0x10 => natOfBool m.evt
  | _ =>
    if off < 0x40 then 0
    else if off < 0x1000 then leField m.req (off - 0x40) 4
    else if m.state = 1 then 0 else leField m.rsp (off - 0x1000) 4

/-! ## The Sheepdog region (Tables 18.7, 18.8, 19.4) -/

def State.sdStatus (s : State) : Nat :=
  let g := s.dog
  let lock := ((g.identNow).getD .none').ownerLock
  g.lcState + natOfBool s.windowOpen <<< 3 + s.windowSeconds <<< 4 + natOfBool g.strap <<< 9 + natOfBool g.sealIntact <<< 10 +
    natOfBool g.sealBroken <<< 11 + natOfBool lock <<< 12 + g.debugLevel <<< 13 + natOfBool g.holdup <<< 15 +
    natOfBool g.session.isSome <<< 16 + natOfBool (!g.dualSlot) <<< 17 + (8 - g.ownerSlots.length) <<< 18

def ResetKind.code : ResetKind → Nat
  | .controlComplex => 1
  | .warm => 2
  | .cold => 4

/-- Table 18.7: a request bit reads 1 until its reset has ended. -/
def State.resetCtrl (s : State) : Nat := s.boot.resetting.elim 0 ResetKind.code + natOfBool s.boot.holdAt2 <<< 3

def State.resetCause (s : State) : Nat := s.boot.lastCause + s.boot.ccCount <<< 8 + s.boot.warmCount <<< 16

def State.dogWord (s : State) (off : Nat) : Nat :=
  match off with
  | 0x000 => s.sdStatus
  | 0x100 => s.resetCtrl
  | 0x104 => s.resetCause
  | _ => 0

/-! ## The shadow (R496) and the fault log (R483, R487) -/

def Shadow.word (x : Shadow) (off : Nat) : Nat :=
  match off with
  | 0x00 => x.snapEpoch.toNat
  | 0x08 => x.time.toNat % 2 ^ 32
  | 0x0C => x.time.toNat / 2 ^ 32
  | 0x10 => x.epoch.toNat
  | _ => if 0x100 ≤ off then (x.items.getD ((off - 0x100) / 8) 0).toNat >>> (8 * (off % 8)) % 2 ^ 32 else 0

/-- Tables 20.2 and 20.3: the 64 bytes of a record. -/
def FaultRec.bytes (r : FaultRec) : List Byte :=
  leBytes 2 r.code ++ [BitVec.ofNat 8 r.severity.code,
    BitVec.ofNat 8 (natOfBool r.more + 2 * natOfBool r.penValid + 4 * natOfBool r.addrValid)] ++ leBytes 4 r.count.toNat ++
    leBytes 8 r.addr.toNat ++ leBytes 16 r.info.toNat ++ leBytes 8 r.time.toNat ++ leBytes 2 r.epoch.toNat ++
    [BitVec.ofNat 8 r.pen, BitVec.ofNat 8 r.unit, 0, 0, 0, 0] ++ leBytes 8 r.lastTime.toNat ++ leBytes 2 r.lastEpoch.toNat ++
    List.replicate 6 0

def recordBytes : Option FaultRec → List Byte
  | some r => r.bytes
  | none => List.replicate 64 0

/-- R487: the bank header. -/
def FaultBank.header (b : FaultBank) : List Byte :=
  [BitVec.ofNat 8 b.records.length, BitVec.ofNat 8 (b.records.filter Option.isSome).length,
    BitVec.ofNat 8 (b.records.foldl (fun m r => max m (r.elim 0 (fun x => x.severity.code))) 0), 0] ++ leBytes 4 b.lost.toNat

def State.mirrorWord (s : State) (off : Nat) : Nat :=
  match s.health.banks[off / 0x1000]? with
  | none => 0
  | some b =>
    let o := off % 0x1000
    if o < 0x40 then leField b.header o 4 else leField (recordBytes (b.records.getD (o / 64 - 1) none)) (o % 64) 4

/-! ## MSI-X (R397) -/

/-- R397: vectors of a function. -/
def vectorsOf (fn : Nat) : Nat := if fn = 0 then 2048 else 64

def FnRegs.vector (r : FnRegs) (v : Nat) : MsixEntry :=
  (r.msix.find? (fun e => e.vector = v)).getD { vector := v, addr := 0, data := 0, masked := true, pending := false }

def FnRegs.msixWord (r : FnRegs) (off : Nat) : Nat :=
  let e := r.vector (off / 16)
  match off % 16 with
  | 0 => e.addr.toNat % 2 ^ 32
  | 4 => e.addr.toNat / 2 ^ 32
  | 8 => e.data.toNat
  | _ => natOfBool e.masked

def FnRegs.pbaWord (r : FnRegs) (off : Nat) : Nat :=
  leNat ((List.range 4).map (fun i => BitVec.ofNat 8 (((List.range 8).map (fun j =>
    natOfBool (r.vector (8 * (off + i) + j)).pending <<< j)).sum)))

/-! ## BAR0 (Table 16.3) -/

/-- Where an offset of a function's BAR0 lies. -/
inductive Bar0Place where
  | identity (off : Nat)
  | stage (off : Nat)
  | slot (i off : Nat)
  | dog (off : Nat)
  | shadow (off : Nat)
  | mirror (off : Nat)
  | msix (off : Nat)
  | pba (off : Nat)
  | nothing
deriving DecidableEq, Repr

def bar0Place (fn off : Nat) : Bar0Place :=
  if off < 0x1000 then .identity off
  else if off < 0x2000 then .stage (off - 0x1000)
  else if fn = 0 then
    if 0x100000 ≤ off && off < 0x108000 then .slot ((off - 0x100000) / 0x2000) ((off - 0x100000) % 0x2000)
    else if 0x200000 ≤ off && off < 0x300000 then .dog (off - 0x200000)
    else if 0x300000 ≤ off && off < 0x400000 then .shadow (off - 0x300000)
    else if 0x400000 ≤ off && off < 0x410000 then .mirror (off - 0x400000)
    else if 0x500000 ≤ off && off < 0x508000 then .msix (off - 0x500000)
    else if 0x508000 ≤ off && off < 0x508100 then .pba (off - 0x508000)
    else .nothing
  else if off < 0x4000 then .slot (fn + 3) (off - 0x2000)
  else if 0xC000 ≤ off && off < 0xC400 then .msix (off - 0xC000)
  else if 0xE000 ≤ off && off < 0xE008 then .pba (off - 0xE000)
  else .nothing

/-- Whether a place is served at the present stage: until stage 2 only the first two pages and the Sheepdog region (R441). -/
def State.bar0Served (s : State) : Bar0Place → Bool
  | .identity _ | .stage _ | .dog _ => true
  | _ => 2 ≤ s.boot.stage

/-- The 32-bit word at an aligned offset of a function's BAR0. -/
def State.bar0Word (s : State) (fn off : Nat) : Nat :=
  let p := bar0Place fn off
  if s.bar0Served p then
    match p with
    | .identity o => s.identityWord fn o
    | .stage o => s.stageWord fn o
    | .slot i o => (s.slotAt i).word o
    | .dog o => s.dogWord o
    | .shadow o => s.health.shadow.word o
    | .mirror o => s.mirrorWord o
    | .msix o => (s.fnRegs fn).msixWord o
    | .pba o => (s.fnRegs fn).pbaWord o
    | .nothing => 0
  else 0

/-! ## Fabric registers (Tables 11.6, 11.7) -/

def LinkState.code : LinkState → Nat
  | .down => 0
  | .training => 1
  | .up => 2
  | .disabled => 3

/-- Table 11.6: FAB_PORT_STATUS. -/
def Port.status (p : Port) : Nat :=
  p.lstate.code + p.width <<< 2 + natOfBool p.slowRate <<< 4 + natOfBool p.sl <<< 5 + natOfBool p.peerValid <<< 6 +
    p.laneGood.toNat <<< 8 + p.peerPort <<< 16 + p.retrains <<< 20 + p.peerCoord.toNat <<< 32

/-- Table 11.7: FAB_TOPO. -/
def State.fabTopo (s : State) : Nat :=
  s.fab.coord.toNat + s.fab.extent.toNat <<< 16 + natOfBool s.fab.placed <<< 32 + natOfBool s.fab.transitOnly <<< 33 +
    natOfBool s.hubPresent <<< 34 + s.fab.routeEpoch <<< 40

/-- Table 11.7: FAB_RING, one byte an axis. -/
def State.fabRing (s : State) : Nat :=
  ((List.range 4).map (fun a =>
    let b := (s.fab.rings.getD a { breaks := [] }).breaks
    (b.headD 0 + natOfBool (b.length = 1) <<< 4 + natOfBool (2 ≤ b.length) <<< 5) <<< (8 * a))).sum

/-! ## Control addresses (R432) -/

def FoldState.code : FoldState → Nat
  | .off => 0
  | .active => 1
  | .spare => 2
  | .failed => 3
  | .retired => 4

/-- Table 3.1: FOLD_SLOT. -/
def FoldSlot.reg (x : FoldSlot) : Nat := x.phys + natOfBool (!x.active) <<< 8 + x.takeovers <<< 16

/-- Table 3.2: FOLD_STATUS. -/
def Fold.reg (f : Fold) : Nat :=
  f.state.code + natOfBool f.half0.busy.isSome <<< 3 + natOfBool f.half1.busy.isSome <<< 4 + natOfBool (f.half0.prov != []) <<< 5 +
    natOfBool (f.half1.prov != []) <<< 6 + f.half0.pen <<< 8 + f.half1.pen <<< 12 + natOfBool f.provHidden <<< 15

/-- Table 10.4: NP_STACK_STATUS. -/
def State.stackReg (s : State) (k : Nat) : Nat :=
  let x := s.stackAt k
  let rt := s.np.retraining.any (fun g => g / 8 = k)
  x.temp % 256 + x.tstate <<< 8 + natOfBool x.slow <<< 11 + (if rt then (s.np.retraining.getD 0 % 8) <<< 12 + 1 <<< 15 else 0) +
    x.maxTemp <<< 16

/-- The published registers, as a debug command names them. -/
inductive Published where
  | foldSlot (l : Nat)
  | foldStatus (p : Nat)
  | aging
  | stack (k : Nat)
  | port (n : Nat) (high : Bool)
  | topo (high : Bool)
  | ring
  | ringHigh
  | time (high : Bool)
  | nowLow
  | nowHigh
deriving DecidableEq, Repr

/-- Tables 3.1, 3.2, 10.2, 10.4, 11.6, 11.7 and 13.6, and TIME_NOW. -/
def published (a : Nat) : Option Published :=
  if 0xF0000000100000 ≤ a && a < 0xF0000000100200 then some (.foldSlot ((a - 0xF0000000100000) / 4))
  else if 0xF0000000101000 ≤ a && a < 0xF0000000101220 then some (.foldStatus ((a - 0xF0000000101000) / 4))
  else if a = 0xF0000000200000 then some .aging
  else if 0xF0000000200100 ≤ a && a < 0xF0000000200120 then some (.stack ((a - 0xF0000000200100) / 4))
  else if 0xF0000000300000 ≤ a && a < 0xF0000000300200 && a % 0x40 < 8 then some (.port ((a - 0xF0000000300000) / 0x40) (a % 0x40 = 4))
  else if a = 0xF0000000300800 then some (.topo false)
  else if a = 0xF0000000300804 then some (.topo true)
  else if a = 0xF0000000300808 then some .ring
  else if a = 0xF000000030080C then some .ringHigh
  else if a = 0xF0000000400000 then some (.time false)
  else if a = 0xF0000000400004 then some (.time true)
  else if a = 0xF0000000400008 then some .nowLow
  else if a = 0xF000000040000C then some .nowHigh
  else none

def half32 (w : Nat) (high : Bool) : Nat := if high then w / 2 ^ 32 % 2 ^ 32 else w % 2 ^ 32

/-- The word that a published register reads, and the latch of TIME_NOW, which holds for the next read of what it keeps (R339).  PHYS of an EMPTY slot is meaningless (Table
3.1): a free value. -/
def State.readPublished (s : State) : Published → Nat × State
  | .foldSlot l =>
    let x := s.comp.slots.getD l { phys := 0, active := false, takeovers := 0 }
    if x.active then (x.reg, s)
    else
      let r := s.draw
      ({ x with phys := r.1.toNat % 64 }.reg, r.2)
  | .foldStatus p => ((s.fold p).reg, s)
  | .aging => (s.np.thresh.toNat + 0x5000, s)
  | .stack k => (s.stackReg k, s)
  | .port n h => (half32 (s.port n).status h, s)
  | .topo h => (half32 s.fabTopo h, s)
  | .ring => (s.fabRing, s)
  | .ringHigh => (0, s)
  | .time false =>
    (half32 { s.time with epoch := s.host.timeEpoch.getD s.time.epoch }.status false, s.modHost (fun h => { h with timeEpoch := none }))
  | .time true => (half32 s.time.status true, s)
  | .nowLow => (s.time.now.toNat % 2 ^ 32, s.latchTime)
  | .nowHigh => ((s.host.timeHigh.map BitVec.toNat).getD (s.time.now.toNat / 2 ^ 32), s.modHost (fun h => { h with timeHigh := none }))

end Sys2Proof.Machine
end

