-- ==== Sys2Proof/Machine/Tally.lean ====
section
/-! DEFINITION. Ticks of the Tally (R493 to R496), power measurement and the capping loop (R498 to R501), and the hub faults
and corrected hub errors of R488 and R490. -/

namespace Sys2Proof.Machine

/-! ## The tick (R493, R494, R496) -/

/-- R493, R496: latch every counter and gauge into the shadow under a new SNAP_EPOCH. -/
def State.tick (s : State) : State :=
  let t := s.modHealth (fun h => { h with snapEpoch := h.snapEpoch + 1 })
  t.modHealth (fun h => { h with shadow :=
    { snapEpoch := h.snapEpoch, time := t.time.now, epoch := t.time.epoch, items := (List.range 58).map (fun i => BitVec.ofNat 64 (t.item i)) } })

/-- Table 17.11: the response of TALLY_SNAPSHOT. -/
def State.tickBytes (s : State) : List Byte :=
  let x := s.health.shadow
  leBytes 4 x.snapEpoch.toNat ++ leBytes 4 0 ++ leBytes 8 x.time.toNat ++ leBytes 2 x.epoch.toNat ++ List.replicate 6 0

/-- R494: the pending snapshot whose time has come, or whose epoch is over. -/
def State.snapshotDue (s : State) : Bool := match s.health.snapshot with
  | some (e, t, _) => e != s.time.epoch || !(s.time.now < t)
  | none => false

/-- R494: a tick, and the answer of the snapshot that it serves. -/
def execTallyTick (s : State) : Result :=
  let t := s.quiet.tick
  if s.snapshotDue then
    let u := t.modHealth (fun h => { h with snapshot := none })
    match s.health.snapshot with
    | some (_, _, some i) => done (u.answer i stOk u.tickBytes)
    | _ => done u
  else done t

/-! ## Power (R498 to R501) -/

/-- R498: every 100 µs; the energy of the interval is its power times 100 µs. -/
def Power.measured (p : Power) (mw : Nat) (temps : List Nat) : Power :=
  { p with samples := (mw :: p.samples).take 10000, dieTemps := temps, energyRest := (p.energyRest + mw) % 10000 }

def execPowerMeasurement (milliwatts : Nat) (dieTemps : List Nat) (s : State) : Result :=
  let t := s.quiet
  done ((t.count 4 ((t.health.power.energyRest + milliwatts) / 10000)).modPower (fun p => p.measured milliwatts dieTemps))

/-- The point below, R499. -/
def FclkPoint.lower : FclkPoint → FclkPoint
  | .boost => .nominal
  | .nominal => .efficiency
  | .efficiency | .reduced => .reduced

/-- R510: a die above its throttle temperature of 100 °C. -/
def Power.hot (p : Power) : Bool := p.dieTemps.any (fun t => 100 < t)
/-- R510: no die above the boost limit of 85 °C. -/
def Power.coolForBoost (p : Power) : Bool := p.dieTemps.all (fun t => t ≤ 85)

/-- The mean of the newest `n` measurements is above `mw`. -/
def Power.meanAbove (p : Power) (n mw : Nat) : Bool := let l := p.samples.take n; mw * l.length < l.sum
/-- The mean of the newest `n` measurements is below `mw`. -/
def Power.meanBelow (p : Power) (n mw : Nat) : Bool := let l := p.samples.take n; l.sum < mw * l.length

/-- R500: the step down of an iteration over the limit. -/
def Power.stepDown (p : Power) (now : Nat) : Power :=
  let q := { p with lastOver := now }
  if 8 < p.duty then { q with duty := p.duty - 1 }
  else if p.point != .reduced then { q with point := p.point.lower, duty := 16 }
  else { q with unmetMs := p.unmetMs + 1 }

/-- R500: the step up of an iteration within the limit. -/
def Power.stepUp (p : Power) (now : Nat) : Power :=
  if p.meanBelow 100 (1000 * (p.limit - 50)) && 10000000 ≤ now - p.lastOver then
    if p.duty < 16 && 10000000 ≤ now - p.lastRaise then { p with duty := p.duty + 1, lastRaise := now }
    else if p.duty = 16 && 100000000 ≤ now - p.lastRaise then
      match p.point with
      | .reduced => { p with point := .efficiency, lastRaise := now }
      | .efficiency => { p with point := .nominal, lastRaise := now }
      | .nominal => if p.meanBelow 100 (1000 * (p.limit - 150)) && p.coolForBoost then { p with point := .boost, lastRaise := now } else p
      | .boost => p
    else p
  else p

/-- R500: one iteration of the loop; POWER_LIMIT_UNMET is logged once until power falls within the limit. -/
def State.capIteration (s : State) : State :=
  let p := s.health.power
  if p.brake then s
  else
    let within := !(p.meanAbove 10 (1000 * p.limit))
    let s1 := if within then s.modPower (fun q => { q with unmetLogged := false }) else s
    if !within || p.hot then
      let t := (s1.modPower (fun q => q.stepDown s.time.clock)).count 9 1
      let q := t.health.power
      if q.unmetMs = 100 && p.unmetMs = 99 && !q.unmetLogged then
        (t.modPower (fun x => { x with unmetLogged := true })).logFault 13 0x0906 .corrected
      else t
    else s1.modPower (fun q => ({ q with unmetMs := 0 }).stepUp s.time.clock)

def execCapIteration (s : State) : Result :=
  let t := s.quiet
  done (if 4 ≤ t.boot.stage then t.capIteration else t)

/-- R501; without effect in rail hold (R516). -/
def execPowerBrakeNAsserted (s : State) : Result :=
  let t := s.quiet
  done (if t.boot.railHold || t.health.power.brake then t
    else (t.modPower (fun p => { p with brake := true, duty := 4, point := .reduced })).count 10 1)

/-- R501: the loop resumes from the reduced point. -/
def execPowerBrakeNReleased (s : State) : Result :=
  let t := s.quiet
  done (if t.health.power.brake then t.modPower (fun p => { p with brake := false, duty := 16, point := .reduced }) else t)

/-! ## Hub errors (R488, R490) -/

/-- Table 20.1, bank 6: Shepherd, queue-engine and Drover-table SRAM. -/
def execHubEcc (unit : Fin 7) (s : State) : Result := done ((s.quiet.logFault 6 0x0A01 .uncontained unit.val).hubFault)

/-- Table 20.1, bank 14: 16 + field die for a die-to-die link, 20 for the hub NoC. -/
def execDroveRoadCe (unit : Fin 5) (s : State) : Result := done (s.quiet.logFault 14 0x0B01 .corrected (16 + unit.val))

def execDroveRoadUe (unit : Fin 5) (s : State) : Result := done ((s.quiet.logFault 14 0x0B02 .uncontained (16 + unit.val)).hubFault)

def execCommonsUe (bank : Fin 16) (s : State) : Result := done ((s.quiet.logFault 14 0x0B04 .uncontained bank.val).hubFault)

def execCometSramUe (s : State) : Result := done ((s.quiet.logFault 4 0x0C01 .uncontained).hubFault)

end Sys2Proof.Machine
end

