-- ==== Sys2Proof/Machine/VideoPipe.lean ====
section
/-! DEFINITION. From picture to tensor and back (R376, R377, R380, R381, R386): cropping, mirroring, rotating, resampling and
conversion, the concealment bitmap, and the encoder's input. -/

namespace Sys2Proof.Machine

/-! ## VID entry fields that shape a frame (Tables 15.4 and 15.5) -/

def vFormat (e : List Byte) : Nat := leField e 52 1
def vXform (e : List Byte) : Nat := leField e 53 1
def vRotate (e : List Byte) : Nat := bitsOf (vXform e) 1 0
def vMirror (e : List Byte) : Bool := (vXform e).testBit 2
def vRgb (e : List Byte) : Bool := (vXform e).testBit 3
def vMatrix (e : List Byte) : Nat := bitsOf (vXform e) 5 4
def vRange (e : List Byte) : Nat := bitsOf (vXform e) 7 6
def vCrop (e : List Byte) (k : Nat) : Nat := leField e (56 + 2 * k) 2
def vOutW (e : List Byte) : Nat := leField e 64 2
def vOutH (e : List Byte) : Nat := leField e 66 2
def vMean (e : List Byte) (c : Nat) : Val := f32 (leField e (68 + 4 * c) 4)
def vScale (e : List Byte) (c : Nat) : Val := f32 (leField e (80 + 4 * c) 4)

/-! ## Axes after steps 1 and 2 of Table 15.7 -/

/-- One axis of the rectangle after MIRROR and ROTATE: whether it runs along the picture's rows of samples (x), the source
indices of its samples, those of its chroma samples, and twice the luma position of its first chroma sample. -/
structure Axis where
  isX : Bool
  luma : List Nat
  chroma : List Nat
  chromaAt : Int
deriving DecidableEq, Repr

/-- Step 1: CROP clamped to the picture: the first sample and the samples kept, at least one (log entry 62). -/
def cropSpan (start len size : Nat) : Nat × Nat :=
  let a := min start (size - 1)
  (a, max 1 (min (start + len) size - a))

/-- The axis of a span whose chroma samples sit at 2c + o, `o2` being 2o. -/
def spanAxis (isX : Bool) (a n o2 : Nat) : Axis :=
  let k0 := a / 2
  let k1 := (a + n - 1) / 2
  { isX := isX, luma := (List.range n).map (· + a), chroma := (List.range (k1 + 1 - k0)).map (· + k0)
    chromaAt := 4 * (k0 : Int) + o2 - 2 * a }

/-- Step 2: the axis reversed. -/
def Axis.reverse (x : Axis) : Axis :=
  { x with
    luma := x.luma.reverse, chroma := x.chroma.reverse
    chromaAt := 2 * ((x.luma.length : Int) - 1) - (x.chromaAt + 4 * ((x.chroma.length : Int) - 1)) }

/-- MIRROR, then ROTATE: the horizontal and the vertical axis of the result. -/
def turnAxes (mirror : Bool) (rotate : Nat) (x y : Axis) : Axis × Axis :=
  let h := if mirror then x.reverse else x
  match rotate with
  | 0 => (h, y)
  | 1 => (y.reverse, h)
  | 2 => (h.reverse, y.reverse)
  | _ => (y, h.reverse)

/-- Twice the chroma offset (ox, oy) of R377. -/
def chromaOffset (loc : Nat) : Nat × Nat :=
  match loc with
  | 1 => (1, 1)
  | 2 => (0, 0)
  | _ => (0, 1)

/-- Steps 1 and 2 for the picture in a window (first column and row, columns and rows) of a source, and whether CROP was clamped. -/
def frameAxes (e : List Byte) (win : Nat × Nat × Nat × Nat) (loc : Nat) : (Axis × Axis) × Bool :=
  let cx := cropSpan (vCrop e 0) (vCrop e 2) win.2.2.1
  let cy := cropSpan (vCrop e 1) (vCrop e 3) win.2.2.2
  let o := chromaOffset loc
  (turnAxes (vMirror e) (vRotate e) (spanAxis true (win.1 + cx.1) cx.2 o.1) (spanAxis false (win.2.1 + cy.1) cy.2 o.2),
    win.2.2.1 < vCrop e 0 + vCrop e 2 || win.2.2.2 < vCrop e 1 + vCrop e 3)

/-! ## Resampling (step 3) -/

/-- The taps of one output index along an axis: two source indices and the fraction. -/
structure Taps where
  lo : Nat
  hi : Nat
  frac : Val
deriving DecidableEq, Repr

/-- Taps at a position among the samples of a list; outside it the nearest sample on its edge. -/
def tapsAt (xs : List Nat) (pos : Val) : Taps :=
  let fl := pos.floor
  let at' (i : Int) : Nat := xs.getD (min i.toNat (xs.length - 1)) 0
  { lo := at' fl, hi := at' (fl + 1), frac := fsub pos (.ofInt fl) }

/-- R105 in PIXEL coordinates over the whole rectangle. -/
def Axis.position (x : Axis) (out i : Nat) : Val := samplePos false .zero (.ofInt (x.luma.length : Nat)) x.luma.length out i

def Axis.lumaTaps (x : Axis) (out i : Nat) : Taps := tapsAt x.luma (x.position out i)

/-- R377: a luma-grid position p samples chroma at (p − o) ÷ 2. -/
def Axis.chromaTaps (x : Axis) (out i : Nat) : Taps :=
  tapsAt x.chroma (fdiv (fsub (x.position out i) (fdiv (.ofInt x.chromaAt) fTwo)) fTwo)

/-- R105: BILINEAR over the taps of both axes. -/
def bilinear (rd : Nat → Nat → Val) (swap : Bool) (h v : Taps) : Val :=
  let get (a b : Nat) : Val := if swap then rd b a else rd a b
  let lerp (a b f : Val) : Val := ffma f (fsub b a) a
  lerp (lerp (get h.lo v.lo) (get h.hi v.lo) h.frac) (lerp (get h.lo v.hi) (get h.hi v.hi) h.frac) v.frac

/-! ## Conversion (R377) -/

/-- (Kr, Kb) in ten-thousandths: of MATRIX, or as signalled. -/
def matrixCoeff (m signalled : Nat) : Nat × Nat :=
  match if m = 0 then (if signalled = 0 then 2 else signalled) else m with
  | 1 => (2990, 1140)
  | 2 => (2126, 722)
  | 3 => (2627, 593)
  | n => Config.otherMatrix n

/-- An exact ratio rounded to FP32. -/
def ratio32 (a b : Int) : Val := r32 ((Val.ofInt a).div (Val.ofInt b))

/-- 2(1 − K) as FP32. -/
def twiceOneMinus (k : Nat) : Val := ratio32 (2 * (10000 - (k : Int))) 10000
/-- 2K(1 − K) as FP32. -/
def twiceKOneMinus (k : Nat) : Val := ratio32 (2 * (k : Int) * (10000 - (k : Int))) 100000000
/-- Kg as FP32. -/
def greenOf (k : Nat × Nat) : Val := ratio32 (10000 - (k.1 : Int) - (k.2 : Int)) 10000

/-- Clamp to [0, 1]. -/
def clamp01 (v : Val) : Val := if v.lt .zero then .zero else if fOne.lt v then fOne else v

/-- The full code of a depth. -/
def topCode (b : Nat) : Val := .ofInt ((2 ^ b - 1 : Nat) : Int)

/-- R377: Y′ or C′ of an interpolated code. -/
def normalise (full chroma : Bool) (b : Nat) (v : Val) : Val :=
  let z : Int := if chroma then (2 ^ (b - 1) : Nat) else if full then 0 else (16 * 2 ^ (b - 8) : Nat)
  let d : Val := if full then topCode b else .ofInt (((if chroma then 224 else 219) * 2 ^ (b - 8) : Nat) : Int)
  fdiv (if z = 0 then v else fsub v (.ofInt z)) d

/-- R377: the three channels s from the interpolated codes. -/
def channelsOf (rgb full : Bool) (k : Nat × Nat) (b : Nat) (y cb cr : Val) : List Val :=
  if rgb then
    let y' := normalise full false b y
    let cb' := normalise full true b cb
    let cr' := normalise full true b cr
    let g := fsub y' (fdiv (fadd (fmul (twiceKOneMinus k.2) cb') (fmul (twiceKOneMinus k.1) cr')) (greenOf k))
    [fadd y' (fmul (twiceOneMinus k.1) cr'), g, fadd y' (fmul (twiceOneMinus k.2) cb')].map clamp01
  else [y, cb, cr].map (fun v => fdiv v (topCode b))

/-- Step 5: the output code of a channel, in the entry's format. -/
def outputCode (e : List Byte) (c : Nat) (s : Val) : Nat :=
  if vFormat e = 0xC then (intEncode 0 255 .rne (fmul s (.ofInt 255))).1.toNat
  else (encodeElem (vFormat e) .rne (fmul (fsub s (vMean e c)) (vScale e c))).1

/-! ## A decoded picture's output frame (R376) -/

def chromaWidth (p : Planes) : Nat := (p.width + 1) / 2

def codeVal (l : List Nat) (i : Nat) : Val := .ofInt ((l.getD i 0 : Nat) : Int)

/-- RANGE: full range, or as signalled. -/
def fullRange (e : List Byte) (signalled : Bool) : Bool := if vRange e = 0 then signalled else vRange e = 2

/-- The samples of one output position: luma, Cb and Cr, each with its taps. -/
structure PixelTaps where
  h : Taps
  v : Taps
  ch : Taps
  cv : Taps
deriving DecidableEq, Repr

def pixelTaps (ax : Axis × Axis) (outW outH x y : Nat) : PixelTaps :=
  { h := ax.1.lumaTaps outW x, v := ax.2.lumaTaps outH y, ch := ax.1.chromaTaps outW x, cv := ax.2.chromaTaps outH y }

/-- The output codes of one position, channel by channel. -/
def pixelCodes (p : Planes) (e : List Byte) (ax : Axis × Axis) (x y : Nat) : List Nat :=
  let t := pixelTaps ax (vOutW e) (vOutH e) x y
  let swap := !ax.1.isX
  let grey : Val := .ofInt ((2 ^ (p.depth - 1) : Nat) : Int)
  let l := bilinear (fun a b => codeVal p.luma (b * p.width + a)) swap t.h t.v
  let c (plane : List Nat) : Val := if p.mono then grey else bilinear (fun a b => codeVal plane (b * chromaWidth p + a)) swap t.ch t.cv
  let s := channelsOf (vRgb e) (fullRange e p.full) (matrixCoeff (vMatrix e) p.matrix) p.depth l (c p.cb) (c p.cr)
  s.zipIdx.map (fun x => outputCode e x.2 x.1)

/-- R381: whether the block of the luma position (a, b) is marked. -/
def blockMarked (p : Planes) (a b : Nat) : Bool := p.map.getD (b / 64 * ceilDiv p.width 64 + a / 64) false

/-- R381: whether an output position took a tap, on any plane, from a marked block. -/
def pixelMarked (p : Planes) (e : List Byte) (ax : Axis × Axis) (x y : Nat) : Bool :=
  let t := pixelTaps ax (vOutW e) (vOutH e) x y
  let hit (k : Nat) (h v : Taps) : Bool := [h.lo, h.hi].any (fun a => [v.lo, v.hi].any (fun b =>
    if ax.1.isX then blockMarked p (k * a) (k * b) else blockMarked p (k * b) (k * a)))
  hit 1 t.h t.v || (!p.mono && hit 2 t.ch t.cv)

/-- R381: the bytes of the concealment bitmap, row by row. -/
def bitmapStride (e : List Byte) : Nat := ceilDiv (ceilDiv (vOutW e) 64) 8

def bitmapBytes (e : List Byte) : Nat := bitmapStride e * ceilDiv (vOutH e) 64

/-- R381: the set bits, as (column, row) of their blocks. -/
def markedBlocks (p : Planes) (e : List Byte) (ax : Axis × Axis) : List (Nat × Nat) :=
  ((List.range (ceilDiv (vOutH e) 64)).flatMap (fun by' => (List.range (ceilDiv (vOutW e) 64)).map (fun bx => (bx, by')))).filter
    (fun k => (List.range (min 64 (vOutH e - 64 * k.2))).any (fun j => (List.range (min 64 (vOutW e - 64 * k.1))).any (fun i =>
      pixelMarked p e ax (64 * k.1 + i) (64 * k.2 + j))))

def bitmapOf (e : List Byte) (bits : List (Nat × Nat)) : List Byte :=
  (List.range (bitmapBytes e)).map (fun i =>
    BitVec.ofNat 8 ((List.range 8).map (fun j =>
      if bits.contains (8 * (i % bitmapStride e) + j, i / bitmapStride e) then 2 ^ j else 0)).sum)

/-! ## Concealing a whole picture (R380, R382) -/

/-- R380: the co-located samples of the most recent picture, else mid-grey. -/
def concealPlane (depth w h : Nat) (old : Option (Nat × Nat × List Nat)) : List Nat :=
  (List.range (w * h)).map (fun i => match old with
    | some (ow, oh, l) => if i % w < ow && i / w < oh then l.getD (i / w * ow + i % w) 0 else 2 ^ (depth - 1)
    | none => 2 ^ (depth - 1))

def concealed (p : Planes) (recent : Option Planes) : Planes :=
  let ch (h : Nat) : Nat := (h + 1) / 2
  { p with
    luma := concealPlane p.depth p.width p.height (recent.map (fun r => (r.width, r.height, r.luma)))
    cb := concealPlane p.depth (chromaWidth p) (ch p.height) (recent.map (fun r => (chromaWidth r, ch r.height, r.cb)))
    cr := concealPlane p.depth (chromaWidth p) (ch p.height) (recent.map (fun r => (chromaWidth r, ch r.height, r.cr)))
    map := List.replicate (ceilDiv p.width 64 * ceilDiv p.height 64) true }

/-! ## The encoder's input (R386) -/

/-- Steps 1 and 2 of R386 on one resampled value of a channel. -/
def inputSample (e : List Byte) (c : Nat) (y : Val) : Val :=
  clamp01 (if vFormat e = 0xC then fdiv y (.ofInt 255) else fadd (fdiv y (vScale e c)) (vMean e c))

/-- R377: the value of a code from Y′ or C′, the inverse of `normalise`. -/
def denormalise (full chroma : Bool) (b : Nat) (v : Val) : Val :=
  let z : Int := if chroma then (2 ^ (b - 1) : Nat) else if full then 0 else (16 * 2 ^ (b - 8) : Nat)
  let d : Val := if full then topCode b else .ofInt (((if chroma then 224 else 219) * 2 ^ (b - 8) : Nat) : Int)
  fadd (fmul v d) (.ofInt z)

/-- Step 3 of R386: the values of Y, Cb and Cr on the code scale (log entry 63). -/
def codeValues (rgb full : Bool) (k : Nat × Nat) (b : Nat) (s : List Val) : List Val :=
  if rgb then
    let r := s.getD 0 .zero
    let g := s.getD 1 .zero
    let bl := s.getD 2 .zero
    let y := fadd (fadd (fmul (ratio32 k.1 10000) r) (fmul (greenOf k) g)) (fmul (ratio32 k.2 10000) bl)
    [denormalise full false b y, denormalise full true b (fdiv (fsub bl y) (twiceOneMinus k.2)),
      denormalise full true b (fdiv (fsub r y) (twiceOneMinus k.1))]
  else s.map (fun v => fmul v (topCode b))

/-- Steps 1 to 5 of R386 over a frame read by channel, column and row. -/
def encodeFrame (e : List Byte) (w h b : Nat) (rd : Nat → Nat → Nat → Val) : Planes :=
  let ax := (frameAxes e (0, 0, w, h) 2).1
  let k := matrixCoeff (vMatrix e) 0
  let full := fullRange e false
  let values (x y : Nat) : List Val :=
    let th := ax.1.lumaTaps w x
    let tv := ax.2.lumaTaps h y
    codeValues (vRgb e) full k b ((List.range 3).map (fun c => inputSample e c (bilinear (rd c) (!ax.1.isX) th tv)))
  let code (v : Val) : Nat := (intEncode 0 (2 ^ b - 1 : Nat) .rne v).1.toNat
  let chroma (c : Nat) : List Nat := (List.range ((w + 1) / 2 * ((h + 1) / 2))).map (fun i =>
    let x0 := 2 * (i % ((w + 1) / 2))
    let y0 := 2 * (i / ((w + 1) / 2))
    let x1 := min (x0 + 1) (w - 1)
    let y1 := min (y0 + 1) (h - 1)
    let v (x y : Nat) : Val := (values x y).getD c .zero
    code (fdiv (fadd (fadd (fadd (v x0 y0) (v x1 y0)) (v x0 y1)) (v x1 y1)) (.ofInt 4)))
  { width := w, height := h, depth := b, mono := false
    luma := (List.range (w * h)).map (fun i => code ((values (i % w) (i / w)).getD 0 .zero))
    cb := chroma 1, cr := chroma 2, chromaLoc := 1, matrix := if vMatrix e = 0 then 2 else vMatrix e, full := full, map := [] }

end Sys2Proof.Machine
end

