-- ==== Sys2Proof/Machine/Decoder.lean ====
section
/-! DEFINITION. The decoder's faults and how it recovers from them (R365, R379 to R382): what the standard gives for a picture, with the
lost samples concealed, stand-ins for missing references, and the concealment map. -/

namespace Sys2Proof.Machine

/-! ## Concealed samples (R380) -/

/-- A plane whose lost samples take the co-located ones of the most recent picture. -/
def mergePlane (w : Nat) (lost : Nat → Nat → Bool) (own hidden : List Nat) : List Nat :=
  (own.zip hidden).zipIdx.map (fun x => if lost (x.2 % w) (x.2 / w) then x.1.2 else x.1.1)

/-- R380, R381: a picture with its lost luma positions concealed; a chroma sample belongs with luma position (2cx, 2cy). -/
def concealLost (p : Planes) (recent : Option Planes) (lost : List Nat) : Planes :=
  let h := concealed p recent
  let gone (k x y : Nat) : Bool := lost.contains (k * y * p.width + k * x)
  { p with
    luma := mergePlane p.width (gone 1) p.luma h.luma, cb := mergePlane (chromaWidth p) (gone 2) p.cb h.cb
    cr := mergePlane (chromaWidth p) (gone 2) p.cr h.cr }

/-- R379: the mid-grey picture, wholly marked, that stands in for a reference. -/
def standIn (p : Planes) : Planes := concealed p none

/-! ## The concealment map (R381) -/

def planeBlocks (p : Planes) : Nat := ceilDiv p.width 64 * ceilDiv p.height 64

/-- The blocks that hold a lost sample. -/
def lostBlocks (p : Planes) (lost : List Nat) : List Bool :=
  (List.range (planeBlocks p)).map (fun b => lost.any (fun i => i / p.width / 64 * ceilDiv p.width 64 + i % p.width / 64 = b))

/-- A block of a reference is marked. -/
def refMarked (refs : List (Nat × Planes)) (x : Nat × Nat) : Bool := match refs.find? (fun r => r.1 = x.1) with
  | some r => r.2.map.getD x.2 false
  | none => false

/-- The blocks whose predictions read a marked block, after `n` rounds. -/
def spreadMarks (refs : List (Nat × Planes)) (reads : List BlockReads) : Nat → List Bool → List Bool
  | 0, m => m
  | n + 1, m => spreadMarks refs reads n (m.zipIdx.map (fun x => x.1 ||
      (let r := reads.getD x.2 default
       r.inter.any (refMarked refs) || r.intra.any (fun b => m.getD b false))))

/-! ## One picture (R379) -/

/-- R379: a recovery that an event reports: its cause, its byte offset in the picture's data, and the pictures skipped. -/
structure Recovery where
  cause : Nat
  offset : Nat
  skipped : Nat
deriving DecidableEq, Repr

/-- Table 15.1: the profiles of a standard. -/
def codecProfiles (codec : Nat) : List VideoProfile :=
  if codec = 0 then [.h264High] else if codec = 1 then [.h265Main, .h265Main10] else [.av1Main]

/-- Table 15.1: the bit depths of a profile. -/
def profileDepths : VideoProfile → List Nat
  | .h264High | .h265Main => [8]
  | .h265Main10 | .av1Main => [8, 10]
  | .other => []

/-- Table 15.1: ten times the highest level. -/
def topLevel (codec : Nat) : Nat := if codec = 0 then 52 else 61

/-- Table 15.1: the largest picture. -/
def largestPicture (codec : Nat) : Nat × Nat := if codec = 0 then (4096, 2304) else if codec = 1 then (8192, 4320) else (8192, 4352)

/-- Table 15.1: 4:2:0, and for H.264 and AV1 monochrome. -/
def chromaOk (codec chroma : Nat) : Bool := chroma = 1 || (chroma = 0 && codec != 1)

/-- R363, R365: whether a picture uses no unsupported feature; one larger than Table 15.1's largest counts as such (log entry 191). -/
def supported (codec maxW maxH depth : Nat) (d : Decoded) : Bool :=
  (codecProfiles codec).contains d.info.profile && d.info.level ≤ topLevel codec && chromaOk codec d.info.chroma &&
    !(codec = 0 && (d.info.field || d.info.mbaff)) && !(codec = 2 && d.info.largeScale) && (match d.picture with
      | some p => (profileDepths d.info.profile).contains p.depth && p.depth ≤ depth && p.width ≤ maxW && p.height ≤ maxH &&
          p.width ≤ (largestPicture codec).1 && p.height ≤ (largestPicture codec).2
      | none => true)

/-- R365, R379: why a picture is skipped: its parameter sets, or an unsupported feature. -/
def skipCause (codec maxW maxH depth : Nat) (d : Decoded) : Option Nat :=
  if !d.params then some 4 else if !(supported codec maxW maxH depth d) then some 5 else none

/-! ## The bytes of a picture (R365, R379)

Start codes and the place of a NAL unit's type and layer are those of the Annex B byte streams that Table 15.1 names (log entry 192). -/

/-- An Annex B start code. -/
def startsUnit : List (Option Byte) → Bool
  | some 0 :: some 0 :: some 1 :: _ => true
  | _ => false

/-- The layer of the H.265 NAL unit after a start code. -/
def unitLayer : List (Option Byte) → Nat
  | _ :: _ :: _ :: some a :: some b :: _ => a.toNat % 2 * 32 + b.toNat / 8
  | _ => 0

/-- Whether the NAL unit after a start code is a slice or slice segment. -/
def unitIsSlice (codec : Nat) : List (Option Byte) → Bool
  | _ :: _ :: _ :: some a :: _ => if codec = 0 then 1 ≤ a.toNat % 32 && a.toNat % 32 ≤ 5 else a.toNat / 2 % 64 < 32
  | _ => false

/-- R365: the bytes of H.265's base layer, each with its offset; the other layers are skipped. -/
def baseLayer : Bool → Nat → List (Option Byte) → List (Nat × Option Byte)
  | _, _, [] => []
  | keep, k, b :: r =>
    let here := if startsUnit (b :: r) then unitLayer (b :: r) = 0 else keep
    if here then (k, b) :: baseLayer here (k + 1) r else baseLayer here (k + 1) r

/-- R365: what a decoder of a standard reads of a picture's bytes, each with its offset. -/
def readBytes (codec : Nat) (data : List (Option Byte)) : List (Nat × Option Byte) :=
  if codec = 1 then baseLayer true 0 data else data.zipIdx.map (fun x => (x.2, x.1))

/-- R379: the next start code of a slice segment after an offset. -/
def nextSlice (codec after : Nat) : Nat → List (Option Byte) → Option Nat
  | _, [] => none
  | k, b :: r => if after < k && startsUnit (b :: r) && unitIsSlice codec (b :: r) then some k else nextSlice codec after (k + 1) r

/-- R379: where decoding goes on after a fault: none at the end of the data. -/
def resyncAt (i : DecodeInput) (offset : Nat) : Option Nat :=
  if i.codec = 2 then (Config.nextTile i offset).filter (fun n => offset < n && n < i.data.length) else nextSlice i.codec offset 0 i.data

/-- R379: the first poisoned byte from an offset on. -/
def nextPoison (i : DecodeInput) (from' : Nat) : Option Nat :=
  (i.data.zipIdx.find? (fun x => x.1.isNone && from' ≤ x.2)).map Prod.snd

/-- R379: the offsets of the faults of cause 7 among the bytes read: each resynchronises as SYNTAX does. -/
def poisonFaults (i : DecodeInput) : Nat → Nat → List Nat
  | 0, _ => []
  | fuel + 1, from' => match nextPoison i from' with
    | none => []
    | some k => k :: (match resyncAt i k with
      | some n => poisonFaults i fuel n
      | none => [])

/-- R379: decoding with a stand-in for every reference that is not held. -/
def decodeWith (i : DecodeInput) : Decoded × List (Nat × Planes) :=
  let d := Config.decode i
  match d.missing, d.picture with
  | [], _ | _, none => (d, i.refs)
  | m, some p =>
    let refs := i.refs ++ m.map (fun x => (x.1, standIn p))
    ({ Config.decode { i with refs := refs } with missing := m }, refs)

/-- R379, Table 15.8: the faults of causes 1, 2 and 7: each with its offset and the samples that are concealed for it. -/
def bitstreamFaults (i : DecodeInput) (d : Decoded) : List (Recovery × List Nat) :=
  let skipped (k : Nat) : Bool := d.faults.any (fun f => f.offset < k && (f.truncated || (match resyncAt i f.offset with
    | some n => k < n
    | none => true)))
  d.faults.map (fun f => ({ cause := if f.truncated then 2 else 1, offset := f.offset, skipped := 0 },
    Config.samplesBetween i f.offset (if f.truncated then none else resyncAt i f.offset))) ++
  ((poisonFaults i i.data.length 0).filter (fun k => !(skipped k))).map (fun k =>
    ({ cause := 7, offset := k, skipped := 0 }, Config.samplesBetween i k (resyncAt i k))) ++
  i.badRefs.filterMap (fun b => (Config.predictedFrom i b).map (fun x => ({ cause := 7, offset := x.1, skipped := 0 }, x.2)))

/-- R379 to R382: the picture that is kept, and the recoveries. -/
def recovered (i : DecodeInput) (hung : Bool) (d : Decoded) (refs : List (Nat × Planes)) : Option Planes × List Recovery :=
  match d.picture with
  | none => (none, (bitstreamFaults i d).map Prod.fst)
  | some p =>
    if hung then (some (concealed p i.recent), [{ cause := 8, offset := 0, skipped := 0 }])
    else
      let found := bitstreamFaults i d
      let lost := found.flatMap Prod.snd
      let hash := if i.hashCheck then d.hashBad else none
      let map := if hash.isSome then List.replicate (planeBlocks p) true else spreadMarks refs d.reads (planeBlocks p) (lostBlocks p lost)
      (some { concealLost p i.recent lost with map := map },
        d.missing.map (fun x => { cause := 3, offset := x.2, skipped := 0 }) ++ found.map Prod.fst ++
          hash.toList.map (fun o => { cause := 6, offset := o, skipped := 0 }))

end Sys2Proof.Machine
end

