-- ==== Sys2Proof/Machine/Motion.lean ====
section
/-! DEFINITION. The encoder's motion search (R387, Table 15.9): on 16 × 16 luma blocks, over each reference, from a quarter of the
samples per axis down to quarter-sample vectors.  How a level's samples are formed, a sample between samples and the vector-cost
term are constants without a body; what else Table 15.9 leaves open is the model's choice (log entry 145). -/

namespace Sys2Proof.Machine

/-- A vector, in units of the level it belongs to. -/
abbrev MotionVec := Int × Int

/-- The luma samples of a picture at one level of Table 15.9. -/
structure SearchPlane where
  width : Nat
  height : Nat
  luma : List Nat
deriving DecidableEq, Repr

/-- A picture at 1/`k` of its samples per axis. -/
def searchPlane (k : Nat) (p : Planes) : SearchPlane :=
  { width := ceilDiv p.width k, height := ceilDiv p.height k, luma := if k = 1 then p.luma else Config.scaledLuma k p }

/-- A coordinate moved to the nearest one inside the picture. -/
def clampAxis (n : Nat) (x : Int) : Nat := min x.toNat (n - 1)

def SearchPlane.sample (p : SearchPlane) (x y : Int) : Nat := p.luma.getD (clampAxis p.height y * p.width + clampAxis p.width x) 0

/-- The samples of block (`bx`, `by'`) of `n` × `n` samples that lie in the picture. -/
def blockSamples (p : SearchPlane) (n bx by' : Nat) : List (Nat × Nat) :=
  ((List.range n).flatMap (fun j => (List.range n).map (fun i => (n * bx + i, n * by' + j)))).filter
    (fun x => x.1 < p.width && x.2 < p.height)

/-- The sum of absolute differences of a block of the input against what a reference gives at each of its samples. -/
def sumAbsDiff (cur : SearchPlane) (n bx by' : Nat) (ref : Nat → Nat → Nat) : Nat :=
  ((blockSamples cur n bx by').map (fun x => ((cur.luma.getD (x.2 * cur.width + x.1) 0 : Nat) - (ref x.1 x.2 : Nat) : Int).natAbs)).sum

/-- The first of the cheapest. -/
def cheapest (cost : MotionVec → Nat) : List MotionVec → Option MotionVec
  | [] => none
  | v :: r => match cheapest cost r with
    | some w => if cost w < cost v then some w else some v
    | none => some v

/-- The `n` cheapest, cheapest first. -/
def cheapestOf (cost : MotionVec → Nat) : Nat → List MotionVec → List MotionVec
  | 0, _ => []
  | n + 1, l => match cheapest cost l with
    | some v => v :: cheapestOf cost n (l.filter (· != v))
    | none => []

/-- The window of ±`w` × ±`h` steps around a centre, row by row. -/
def searchWindow (w h : Nat) (c : MotionVec) : List MotionVec :=
  (List.range (2 * h + 1)).flatMap (fun j => (List.range (2 * w + 1)).map (fun i =>
    (c.1 + (Int.ofNat i - w), c.2 + (Int.ofNat j - h))))

/-- R387: the cost of a vector in samples of a level: `k` full samples to a sample. -/
def levelCost (qp k : Nat) (cur ref : SearchPlane) (bx by' : Nat) (v : MotionVec) : Nat :=
  sumAbsDiff cur (16 / k) bx by' (fun x y => ref.sample ((x : Int) + v.1) ((y : Int) + v.2)) +
    Config.vectorCost qp (4 * k * v.1) (4 * k * v.2)

/-- R387: the cost of a vector in quarter samples. -/
def quarterCost (codec qp : Nat) (cur : SearchPlane) (ref : Planes) (bx by' : Nat) (v : MotionVec) : Nat :=
  sumAbsDiff cur 16 bx by' (fun x y => Config.lumaAt codec ref (4 * (x : Int) + v.1) (4 * (y : Int) + v.2)) + Config.vectorCost qp v.1 v.2

def scaleVec (k : Int) (v : MotionVec) : MotionVec := (k * v.1, k * v.2)

/-- R389: the vectors, in quarter samples, that a block may take: left of the band only those that read the refreshed region. -/
def vectorAllowed (codec : Nat) (limit : Option Nat) (bx : Nat) (v : MotionVec) : Bool := match limit with
  | none => true
  | some n => (16 * (bx : Int) + 16) + (v.1 + 3) / 4 + (if v.1 % 4 = 0 then 0 else (Config.filterReach codec : Int)) ≤ n

/-- R387: the vector of one block against one reference, in quarter samples. -/
def blockVector (codec qp : Nat) (limit : Option Nat) (input ref : Planes) (bx by' : Nat) : Option MotionVec :=
  let at' (k : Nat) : MotionVec → Nat := levelCost qp k (searchPlane k input) (searchPlane k ref) bx by'
  let fine := quarterCost codec qp (searchPlane 1 input) ref bx by'
  let may (k : Int) (l : List MotionVec) : List MotionVec := l.filter (fun v => vectorAllowed codec limit bx (scaleVec k v))
  let coarse := cheapestOf (at' 4) 3 (may 16 (searchWindow 32 16 (0, 0)))
  (cheapest (at' 2) (may 8 (coarse.flatMap (fun v => searchWindow 4 4 (scaleVec 2 v))))).bind (fun half =>
    (cheapest (at' 1) (may 4 (searchWindow 2 2 (scaleVec 2 half)))).bind (fun full =>
      (cheapest fine (may 1 ((searchWindow 1 1 (0, 0)).map (fun d => (4 * full.1 + 2 * d.1, 4 * full.2 + 2 * d.2))))).bind (fun h =>
        cheapest fine (may 1 (searchWindow 1 1 h)))))

/-- R389: what a block may read of a reference: left of the band its refreshed columns. -/
def blockLimit (band : Option (Nat × Nat)) (fresh bx : Nat) : Option Nat := match band with
  | some b => if 16 * bx < 64 * b.1 then some fresh else none
  | none => none

/-- R387: the vectors of every block against every reference, row by row. -/
def motionSearch (i : EncodeInput) : List (List (Option (Int × Int))) :=
  let cols := ceilDiv i.input.width 16
  (i.refs.zip i.fresh).map (fun r => (List.range (cols * ceilDiv i.input.height 16)).map (fun b =>
    blockVector i.codec i.qp (blockLimit i.band r.2 (b % cols)) i.input r.1 (b % cols) (b / cols)))

/-! ## The coded picture (R364, R389) -/

/-- R389: a 16 × 16 block lies in the band that is coded in intra form. -/
def inBand (band : Option (Nat × Nat)) (bx : Nat) : Bool := band.any (fun b => b.1 ≤ bx / 4 && bx / 4 < b.2)

/-- R364, R389: the modes of the blocks, row by row: intra in a key picture, in the band and where no vector is allowed, else the
encoder's choice. -/
def codedModes (i : EncodeInput) : List BlockMode :=
  let cols := ceilDiv i.input.width 16
  (List.range (cols * ceilDiv i.input.height 16)).map (fun b =>
    if i.key || inBand i.band (b % cols) then .intra
    else match Config.blockChoice i b with
      | none => .intra
      | some r => match (i.vectors.getD r []).getD b none with
        | some v => .inter r v
        | none => .intra)

/-- R364: Main or Main 10 of H.265, or Main of AV1. -/
def codedProfile (codec depth : Nat) : VideoProfile := if codec = 2 then .av1Main else if depth = 8 then .h265Main else .h265Main10

/-- R364: what is coded for one picture. -/
def codedPicture (i : EncodeInput) : CodedPicture :=
  { profile := codedProfile i.codec i.depth, depth := i.depth, qp := i.qp, key := i.key, number := i.number, input := i.input, refs := i.refs
    modes := codedModes i }

/-- Table 15.1: an Annex B byte stream: a start code before each NAL unit (log entry 192). -/
def annexB (units : List (List Byte)) : List Byte := units.flatMap (fun u => [0, 0, 0, 1] ++ u)

/-- A size in groups of seven bits, least significant first. -/
def leb128 : Nat → Nat → List Byte
  | 0, _ => []
  | fuel + 1, n => if n < 128 then [BitVec.ofNat 8 n] else BitVec.ofNat 8 (128 + n % 128) :: leb128 fuel (n / 128)

/-- Table 15.1: the low-overhead OBU format: each OBU with its header, its size and its payload (log entry 192). -/
def obuStream (units : List (Nat × List Byte)) : List Byte :=
  units.flatMap (fun u => BitVec.ofNat 8 (u.1 % 16 * 8 + 2) :: leb128 5 u.2.length ++ u.2)

/-- R364: the bitstream of a picture, in the format of Table 15.1, and its reconstruction. -/
def encodePicture (i : EncodeInput) : List Byte × Planes :=
  let c := codedPicture { i with vectors := motionSearch i }
  (if i.codec = 2 then obuStream (Config.obus c) else annexB (Config.nalUnits c), Config.reconstruct c)

end Sys2Proof.Machine
end

