-- ==== Sys2Proof/Machine/Video.lean ====
section
/-! DEFINITION. The video engine (chapter 15): VID entries and their checks (R371 to R374), readiness and the frame-buffer pool
(R370, R372), the choice of a picture (R384), what the end of a picture does (R375 to R389), and core resets (R382). -/

namespace Sys2Proof.Machine

/-! ## VID entries (Table 15.4) -/

def vOp (e : List Byte) : Nat := leField e 0 1
def vCpl (e : List Byte) : Bool := (leField e 1 1).testBit 0
def vEnd (e : List Byte) : Bool := (leField e 1 1).testBit 1
def vForceKey (e : List Byte) : Bool := (leField e 1 1).testBit 2
def vStream (e : List Byte) : Nat := leField e 2 2 % 512
def vSeq (e : List Byte) : Nat := leField e 4 4
def vHandle (e : List Byte) : Nat := leField e 8 4
def vOffset (e : List Byte) : Nat := leField e 12 8
def vLength (e : List Byte) : Nat := leField e 20 4
def vPts (e : List Byte) : DWord := BitVec.ofNat 64 (leField e 24 8)
def vSignal (e : List Byte) : Nat := leField e 32 4
def vAux (e : List Byte) : Nat := leField e 36 4
def vAuxOffset (e : List Byte) : Nat := leField e 40 8
def vAuxLength (e : List Byte) : Nat := leField e 48 4

/-! ## Streams -/

def State.stream? (s : State) (n : Nat) : Option Stream := s.video.streams.find? (fun x => x.number = n)

def State.modStream (s : State) (n : Nat) (f : Stream → Stream) : State :=
  s.modVideo (fun v => { v with streams := v.streams.map (fun x => if x.number = n then f x else x) })

def State.core (s : State) (c : Nat) : VideoCore := s.video.cores.getD c { busy := none, inReset := false, resetQueued := false }

def State.modCore (s : State) (c : Nat) (f : VideoCore → VideoCore) : State :=
  s.modVideo (fun v => { v with cores := v.cores.modify c f })

/-! ## Increments and events (R375, R390, R391) -/

def State.videoAct (s : State) : VideoAct → State
  | .signal pen counter => s.addCounter pen counter 1
  | .event cpl queue payload => s.cpl cpl 3 queue payload

/-- R257, R321, R391: whether an increment or an event waits: for the Shepherd, for the flush of the video engine's data, and an
increment for its counter. -/
def State.actHeld (s : State) (a : VideoAct) : Bool :=
  !s.boot.shepherdRuns || s.flushHeld .video || (match a with
    | .signal pen counter => s.counterHeld pen counter
    | .event _ _ _ => false)

/-- An increment or an event: at once, or behind those that wait. -/
def State.videoDo (s : State) (a : VideoAct) : State :=
  if s.video.deferred != [] || s.actHeld a then s.modVideo (fun v => { v with deferred := v.deferred ++ [a] }) else s.videoAct a

/-- R391: what waited is released in order. -/
def State.releaseActs (s : State) : List VideoAct → State
  | [] => s.modVideo (fun v => { v with deferred := [] })
  | a :: rest => if s.actHeld a then s.modVideo (fun v => { v with deferred := a :: rest }) else State.releaseActs (s.videoAct a) rest

def State.releaseVideo (s : State) : State := s.releaseActs s.video.deferred

/-- R110, R375: the increment of an entry's counter. -/
def State.videoSignal (s : State) (pen : Nat) (e : List Byte) : State :=
  if vSignal e = 0xFFFFFFFF then s else s.videoDo (.signal pen (vSignal e))

/-- Table 15.10. -/
def State.eventBytes (s : State) (e : List Byte) (ev status : Nat) (info detail : Nat) : List Byte :=
  leBytes 4 (vSeq e) ++ leBytes 2 (vStream e) ++ [BitVec.ofNat 8 ev, BitVec.ofNat 8 status] ++ leBytes 8 info ++ s.timeBytes ++ leBytes 6 detail

/-- An event to the CPL queue of a VID queue. -/
def State.videoEvent (s : State) (queue : Nat) (payload : List Byte) : State :=
  match s.queue? queue with
  | none => s
  | some q => s.videoDo (.event q.cplQid.toNat queue payload)

/-! ## Checks (R373, R374, Table 15.6) -/

/-- R373: a live, PINNED, uncompressed tensor of a pen, its MX bit clear. -/
def State.videoTensor (s : State) (pen h : Nat) : Option Tensor :=
  match s.tensor? h with
  | some t => if h / 2 ^ 29 = pen && !t.released && t.pinned && t.comp = 0 && !t.mx && t.readable then some t else none
  | none => none

/-- R373: a byte range of a UINT8 tensor. -/
def Tensor.byteRange (t : Tensor) (off len : Nat) : Bool := t.fmt = 0xC && off + len ≤ t.storedBytes

/-- R48, R373: the coordinates, within the tensor here, of the element of a global index. -/
def Tensor.localCoords (t : Tensor) (i : Nat) : Option (List Nat) :=
  match t.shard with
  | none => if i < t.elements then some (t.coords i) else none
  | some (org, log) =>
    if prodOf log ≤ i then none
    else
      let c := coordsIn log i
      if (List.range 6).all (fun k => org.getD k 0 ≤ c.getD k 0 && c.getD k 0 - org.getD k 0 < extAt t.extents k) then
        some ((List.range 6).map (fun k => c.getD k 0 - org.getD k 0))
      else none

/-- R373: the origin of a planar frame of the entry's size and format that lies in the tensor. -/
def Tensor.frameOrigin (t : Tensor) (e : List Byte) : Option (List Nat) :=
  if t.fmt != vFormat e || t.interleaved then none
  else match t.localCoords (vOffset e) with
    | some c => if c.getD 0 0 + vOutW e ≤ extAt t.extents 0 && c.getD 1 0 + vOutH e ≤ extAt t.extents 1 && c.getD 2 0 + 3 ≤ extAt t.extents 2 then
        some c else none
    | none => none

/-- The linear index of a sample of a frame. -/
def Tensor.frameIndex (t : Tensor) (org : List Nat) (x y c : Nat) : Nat :=
  ((List.range 6).map (fun k =>
    (org.getD k 0 + (if k = 0 then x else if k = 1 then y else if k = 2 then c else 0)) * prodOf (t.extents.take k))).sum

/-- 0x34: R373. -/
def State.videoTensorsOk (s : State) (pen : Nat) (e : List Byte) : Bool :=
  let main := s.videoTensor pen (vHandle e)
  let aux := s.videoTensor pen (vAux e)
  let frame : Bool := (match main with
    | some t => (t.frameOrigin e).isSome
    | none => false)
  let bytes (t : Option Tensor) (off len : Nat) : Bool := (match t with
    | some x => x.byteRange off len
    | none => false)
  match vOp e with
  | 1 => bytes main (vOffset e) (vLength e)
  | 2 => frame && bytes aux (vAuxOffset e) (bitmapBytes e)
  | 3 => frame && bytes aux (vAuxOffset e) (vAuxLength e)
  | _ => true

/-- 0x31: reserved fields and encodings, and fields that are 0 in other operations. -/
def videoReserved (e : List Byte) : Bool :=
  let op := vOp e
  8 ≤ leField e 1 1 || 512 ≤ leField e 2 2 || vRange e = 3 || leField e 54 2 != 0 || (e.drop 92).any (· != 0) ||
    (if op = 1 then vLength e = 0 || 268435456 < vLength e else vLength e != 0) || (op != 3 && vAuxLength e != 0) ||
    ((op = 2 || op = 3) && !(vFormat e = 1 || vFormat e = 2 || vFormat e = 0xC))

/-- 0x33: the stream of the entry. -/
def State.videoStreamOk (s : State) (q : Queue) (e : List Byte) : Bool :=
  match s.stream? (vStream e) with
  | none => false
  | some x => x.pen = q.pen && x.conf.queue = q.id &&
      (match vOp e with
        | 1 | 2 => !x.conf.encode
        | 3 => x.conf.encode
        | _ => true)

/-- 0x35. -/
def State.videoParamBad (s : State) (e : List Byte) : Bool :=
  match s.stream? (vStream e) with
  | none => false
  | some x =>
    let op := vOp e
    (op = 2 || op = 3) &&
      (vCrop e 2 = 0 || vCrop e 3 = 0 || x.conf.maxW < vCrop e 0 + vCrop e 2 || x.conf.maxH < vCrop e 1 + vCrop e 3 ||
        vOutW e = 0 || 8192 < vOutW e || vOutH e = 0 || 8192 < vOutH e ||
        (op = 3 && (vOutW e != x.conf.maxW || vOutH e != x.conf.maxH || vAuxLength e < 4096)) ||
        (List.range 3).any (fun c => !(vMean e c).isFinite || !(vScale e c).isFinite || (vScale e c).isZero ||
          (vFormat e = 0xC && (!(vMean e c).isZero || !((vScale e c).eq fOne)))))

/-- R374: the first failing check. -/
def State.videoError (s : State) (q : Queue) (e : List Byte) : Option Nat :=
  if vOp e = 0 || 4 < vOp e then some 0x30
  else if videoReserved e then some 0x31
  else if vSeq e != q.expectSeq.toNat then some 0x32
  else if !(s.videoStreamOk q e) then some 0x33
  else if !(s.videoTensorsOk q.pen e) then some 0x34
  else if s.videoParamBad e then some 0x35
  else if 65536 ≤ vSignal e && vSignal e != 0xFFFFFFFF then some 0x36
  else none

/-- R374: the queue halts, with an event. -/
def State.videoRefused (s : State) (q : Queue) (e : List Byte) (code : Nat) : State :=
  let t := s.modQueue q.id (fun x => { x.halt code with
    expectSeq := if vSeq e = x.expectSeq.toNat then x.expectSeq + 1 else x.expectSeq })
  t.videoEvent q.id (t.eventBytes e 6 code 0 0)

/-! ## The frame-buffer pool (R370) -/

def Stream.buffers (x : Stream) (running : Bool) : Nat :=
  (x.pictures.filter (fun p => p.ref || p.out)).length + natOfBool (x.ready.isSome || running)

/-- R370: one of the pen's buffers is free, and a stream draws from its reservation, then from the unreserved ones. -/
def State.bufferFree (s : State) (x : Stream) : Bool :=
  let used (y : Stream) : Nat := y.buffers (s.streamRuns y.number)
  let streams := s.video.streams.filter (fun y => y.pen = x.pen)
  match (s.pen x.pen).pool with
  | some (n, _) => (streams.map used).sum < n && (used x < x.conf.reserve || (streams.map (fun y => max y.conf.reserve (used y))).sum < n)
  | none => false

/-! ## Readiness (R372) -/

/-- The bytes up to and with the first piece that carries END. -/
def endBoundary : List DataPiece → Option Nat
  | [] => none
  | p :: r => if p.ends then some p.bytes.length else (endBoundary r).map (· + p.bytes.length)

/-- R372: the bytes of the next picture, when they have ended. -/
def Stream.unitBytes (x : Stream) : Option Nat :=
  let data := x.pieces.flatMap DataPiece.bytes
  let found := (Config.unitEnd x.conf.codec data).filter (fun n => 0 < n && n < data.length)
  match found, endBoundary x.pieces with
  | some a, some b => some (min a b)
  | some a, none => some a
  | none, some b => some b
  | none, none => if x.flush.isSome && data != [] then some data.length else none

/-- The pieces without their first `n` bytes. -/
def dropPieces : List DataPiece → Nat → List DataPiece
  | [], _ => []
  | p :: r, n => if p.bytes.length ≤ n then dropPieces r (n - p.bytes.length) else { p with bytes := p.bytes.drop n } :: r

/-- R372: the next picture of a stream becomes ready once its data has ended or its ENCODE is there, the previous picture has
ended and a buffer is free. -/
def State.makeReady (s : State) (x : Stream) : State :=
  if x.ready.isSome || x.shutting || s.streamRuns x.number || !(s.bufferFree x) then s
  else if x.conf.encode then
    match x.work with
    | [] => s
    | e :: rest => s.modStream x.number (fun y => { y with
        work := rest
        ready := some { data := [], offset := 0, entry := e, samples := y.conf.maxW * y.conf.maxH, readyAt := s.time.clock, redo := false } })
  else match x.unitBytes with
    | none => s
    | some n =>
      let data := (x.pieces.flatMap DataPiece.bytes).take n
      s.modStream x.number (fun y => { y with
        pieces := dropPieces y.pieces n, offset := y.offset + n
        ready := some { data := data, offset := y.offset, entry := (y.pieces.head?.map DataPiece.entry).getD []
                        samples := Config.lumaSamples y.conf.codec y.context data, readyAt := s.time.clock, redo := false } })

def State.makeAllReady (s : State) : State :=
  s.forAll (s.video.streams.map Stream.number) (fun t n => match t.stream? n with
    | some x => t.makeReady x
    | none => t)

/-! ## Output (R375, R376, R381, R383) -/

def Stream.cls (x : Stream) : NpClass := if x.conf.cls = 0 then .rt else .norm

/-- R207: the stores of one frame or bitstream in a pen's tensors, by pen address. -/
def State.videoWrite (s : State) (cls : NpClass) (pen : Nat) (stores : List (Nat × List Byte)) : State :=
  ((s.forAll stores (fun t x => t.penWrite cls .video pen x.1 x.2)).npFlushSource .video).touchStores pen
    (stores.map (fun x => (x.1, x.2.length)))

/-- The pen address of a sample of a frame. -/
def Tensor.frameAddr (t : Tensor) (e : List Byte) (i c : Nat) : Nat :=
  t.penAddr + t.width / 8 * t.storageIndex (t.frameIndex ((t.frameOrigin e).getD []) (i % vOutW e) (i / vOutW e) c)

/-- The byte ranges that the output of an entry takes: pen address and length. -/
def State.outputRanges (s : State) (pen : Nat) (e : List Byte) : List (Nat × Nat) :=
  match s.videoTensor pen (vHandle e), s.videoTensor pen (vAux e) with
  | some t, some b =>
    if vOp e = 2 then
      (b.penAddr + vAuxOffset e, bitmapBytes e) ::
        (List.range (vOutW e * vOutH e)).flatMap (fun i => (List.range 3).map (fun c => (t.frameAddr e i c, t.width / 8)))
    else [(b.penAddr + vAuxOffset e, vAuxLength e)]
  | _, _ => []

def rangesHit (l : List (Nat × Nat)) (a : Nat) : Bool := l.any (fun r => r.1 ≤ a && a < r.1 + r.2)

/-- The entries of a stream that have not completed and name an output. -/
def State.openEntries (s : State) (x : Stream) : List (List Byte) :=
  x.outputs ++ (if x.conf.encode then x.work ++ x.ready.toList.map PicWork.entry ++
    s.video.cores.filterMap (fun c => (c.busy.filter (fun b => b.1 = x.number)).map (fun b => b.2.entry)) else [])

/-- R391: an entry of a stream completes: the open entries of other streams of the pen whose output meets its own are unordered with it. -/
def State.noteClashes (s : State) (x : Stream) (e : List Byte) : State :=
  let mine := s.outputRanges x.pen e
  let meets (f : List Byte) : Bool := (s.outputRanges x.pen f).any (fun r => mine.any (fun q => q.1 < r.1 + r.2 && r.1 < q.1 + q.2))
  s.modVideo (fun v => { v with streams := v.streams.map (fun y =>
    if y.number = x.number then { y with clashes := y.clashes.filter (fun c => c.1 != e) }
    else if y.pen = x.pen then { y with clashes := y.clashes ++ ((s.openEntries y).filter meets).map (fun f => (f, e)) }
    else y) })

/-- R87, R391: the stores of an entry: where two streams have written unordered, the bytes are free values. -/
def State.outputStores (s : State) (x : Stream) (e : List Byte) (stores : List (Nat × List Byte)) : List (Nat × List Byte) :=
  let common := ((x.clashes.filter (fun c => c.1 = e)).map (fun c => s.outputRanges x.pen c.2)).flatten
  if common = [] then stores
  else stores.map (fun r => (r.1, r.2.zipIdx.map (fun b => if rangesHit common (r.1 + b.2) then Config.looseByte s.free (r.1 + b.2) else b.1)))

/-- R375, R391: what an entry outputs is stored; R227: the tensors have been used. -/
def State.storeOutput (s : State) (x : Stream) (e : List Byte) (stores : List (Nat × List Byte)) : State :=
  let t := (s.videoWrite x.cls x.pen (s.outputStores x e stores)).noteClashes x e
  ((t.spend 1).useTensor (vHandle e)).useTensor (vAux e)

/-- R376: the frame and the bitmap of an OUTPUT entry are written. -/
def State.writeFrame (s : State) (x : Stream) (p : Picture) (e : List Byte) : State × Nat × Bool :=
  let r := frameAxes e p.window p.shown.chromaLoc
  let bits := markedBlocks p.shown e r.1
  match s.videoTensor x.pen (vHandle e), s.videoTensor x.pen (vAux e) with
  | some t, some b =>
    let frame := (List.range (vOutW e * vOutH e)).flatMap (fun i =>
      (pixelCodes p.shown e r.1 (i % vOutW e) (i / vOutW e)).zipIdx.map (fun c => (t.frameAddr e i c.2, leBytes (t.width / 8) c.1)))
    (s.storeOutput x e (frame ++ [(b.penAddr + vAuxOffset e, bitmapOf e bits)]), bits.length, r.2)
  | _, _ => (s, bits.length, r.2)

/-- R368, R372: the next picture in output order, once it may be output; of a stream that closes, the picture that was on a core. -/
def Stream.nextOutput (x : Stream) (running : Bool) : Option Picture :=
  (x.pictures.filter (fun p => p.out && (p.outNumber < x.outUpTo || x.shutting || (x.flush.isSome && x.pieces = [] && x.ready.isNone && !running)))).foldl
    (fun best p => match best with
      | some b => if p.outNumber < b.outNumber then some p else some b
      | none => some p) none

/-- R370: a picture without a mark leaves the pool. -/
def Stream.freePictures (x : Stream) : Stream := { x with pictures := x.pictures.filter (fun p => p.ref || p.out) }

/-- R375: one OUTPUT entry completes with the next picture in output order. -/
def State.completeOutput (s : State) (x : Stream) (e : List Byte) (p : Picture) : State :=
  let r := s.writeFrame x p e
  let t := ((r.1.count 37 r.2.1).modStream x.number (fun y => Stream.freePictures { y with
    outputs := y.outputs.drop 1
    pictures := y.pictures.map (fun z => if z.number = p.number then { z with out := false } else z) })).videoSignal x.pen e
  if vCpl e || p.late then
    t.videoEvent x.conf.queue (t.eventBytes e 1 0 p.pts.toNat (r.2.1 % 2 ^ 16 + natOfBool p.late <<< 16 + natOfBool r.2.2 <<< 17))
  else t

def State.serveOutputs (s : State) (n : Nat) : Nat → State
  | 0 => s
  | fuel + 1 =>
    match s.stream? n with
    | none => s
    | some x =>
      match x.outputs, x.nextOutput (s.streamRuns n) with
        | e :: _, some p => State.serveOutputs (s.completeOutput x e p) n fuel
        | _, _ => s

/-- R379, R390: a STREAM_ERROR event for every recovery. -/
def State.streamErrors (s : State) (queue base : Nat) (e : List Byte) (rs : List Recovery) : State :=
  s.forAll rs (fun t r => t.videoEvent queue (t.eventBytes e 3 0 (base + r.offset) (r.cause % 256 + min r.skipped 255 <<< 8)))

/-- R379, R390: a recovery that skips pictures ends, and its event says how many (log entry 158). -/
def State.endSkip (s : State) (n : Nat) : State :=
  match s.stream? n with
  | none => s
  | some x => match x.skipping with
    | some (cause, offset, e, k) =>
      (s.modStream n (fun y => { y with skipping := none })).streamErrors x.conf.queue offset e [{ cause := cause, offset := 0, skipped := k }]
    | none => s

/-- R372: a FLUSH completes when nothing of the stream's earlier work remains; what follows is a new coded video sequence. -/
def State.finishFlush (s : State) (n : Nat) : State :=
  match s.stream? n with
  | none => s
  | some x => match x.flush with
    | none => s
    | some e =>
      if x.ready.isSome || s.streamRuns n || x.pieces != [] || x.work != [] || x.pictures.any Picture.out then s
      else
        let t := (((s.endSkip n).modStream n (fun y => if y.conf.encode then { y with flush := none, pictures := [], sinceKey := none, band := 0 }
          else { y with flush := none, context := 0, outUpTo := 0, pictures := [] }))).videoSignal x.pen e
        if vCpl e then t.videoEvent x.conf.queue (t.eventBytes e 4 0 0 0) else t

/-- What follows any change of a stream. -/
def State.streamMoves (s : State) (n : Nat) : State :=
  let fuel := (match s.stream? n with
    | some x => x.outputs.length
    | none => 0)
  (((s.makeAllReady).serveOutputs n fuel).finishFlush n).makeAllReady

/-! ## Taking entries (R372) -/

/-- The bytes of a DATA entry; a poisoned line's are none. -/
def State.dataBytes (s : State) (pen : Nat) (e : List Byte) : List (Option Byte) :=
  match s.videoTensor pen (vHandle e) with
  | some t => (List.range (vLength e)).map (fun i =>
      let a := t.penAddr + vOffset e + i
      if s.penPoisoned pen a 1 then none else some (s.penByte pen a))
  | none => []

/-- The bytes of a tensor that an entry has the engine read: the bitstream's, or the whole input. -/
def Tensor.videoRead (t : Tensor) (e : List Byte) : Nat × Nat := if vOp e = 1 then (t.penAddr + vOffset e, vLength e) else (t.penAddr, t.storedBytes)

/-- R266, R275: whether near pasture holds the read of a tensor that an entry names. -/
def State.videoHeld (s : State) (pen : Nat) (e : List Byte) : Bool :=
  match s.videoTensor pen (vHandle e) with
  | some t => s.penHeld .video pen (t.videoRead e).1 (t.videoRead e).2
  | none => false

/-- R383: the read stands at its pseudo-channel at NORM, where R264 and R265 protect it; with `wait` false it has been served. -/
def State.videoFetch (s : State) (pen : Nat) (e : List Byte) (wait : Bool) : State :=
  match s.videoTensor pen (vHandle e) with
  | some t => s.penFetch .video .norm pen (t.videoRead e).1 (t.videoRead e).2 wait
  | none => s

/-- R372: an entry that passed its checks takes effect. -/
def State.videoTake (s : State) (q : Queue) (e : List Byte) : State :=
  let n := vStream e
  let t := s.takeEntry q (fun x => { x with expectSeq := x.expectSeq + 1 })
  let piece : DataPiece := { bytes := s.dataBytes q.pen e, entry := e, ends := vEnd e }
  let u := match vOp e with
    | 1 => ((((t.videoFetch q.pen e false).count 16 (vLength e)).useTensor (vHandle e)).modStream n (fun x =>
        { x with pieces := x.pieces ++ [piece] })).videoSignal q.pen e
    | 2 => t.modStream n (fun x => { x with outputs := x.outputs ++ [e] })
    | 3 => t.modStream n (fun x => { x with work := x.work ++ [e] })
    | _ => t.modStream n (fun x => { x with flush := some e })
  u.streamMoves n

/-- R368, R372: whether the stream of an entry takes it now: not while it closes, and only OUTPUT entries pass a FLUSH that has not
completed (log entry 64). -/
def State.streamTakes (s : State) (e : List Byte) : Bool :=
  match s.stream? (vStream e) with
  | some x => !x.shutting && (x.flush.isNone || vOp e = 2)
  | none => true

/-- The head entry of a VID queue, if the queue takes it now and its operation is the command's. -/
def State.videoHead (s : State) (q op : Nat) : State :=
  match s.queue? q with
  | none => s
  | some x =>
    if x.type != .vid || !(s.takes x) then s
    else match s.headEntry x with
      | .error st => s.haltEvent x st
      | .ok e =>
        if (vOp e != 0 && vOp e ≤ 4 && vOp e != op) || !(s.streamTakes e) then s
        else match s.videoError x e with
          | some code => s.videoRefused x e code
          | none => if vOp e = 1 && s.videoHeld x.pen e then s.videoFetch x.pen e true else s.videoTake x e

def execData (q : Nat) (s : State) : Result := done (s.quiet.videoHead q 1)
def execOutput (q : Nat) (s : State) : Result := done (s.quiet.videoHead q 2)
def execEncode (q : Nat) (s : State) : Result := done (s.quiet.videoHead q 3)
def execFlush (q : Nat) (s : State) : Result := done (s.quiet.videoHead q 4)

/-! ## The choice of a picture (R383, R384) -/

/-- Table 15.2: luma samples per second. -/
def StreamRec.rate (c : StreamRec) : Nat := if c.encode then 497664000 else if c.depth = 8 then 1990656000 else 1492992000

/-- R383: a picture's time, in ns rounded up. -/
def pictureTime (x : Stream) (w : PicWork) : Nat := ceilDiv (w.samples * 1000000000) x.conf.rate

def pictureDeadline (x : Stream) (w : PicWork) : Nat := w.readyAt + 1000 * x.conf.deadlineUs

/-- The first of a list by a key, then by ready time and stream number. -/
def firstBy (key : Stream × PicWork → Nat) (l : List (Stream × PicWork)) : Option (Stream × PicWork) :=
  l.foldl (fun best c => match best with
    | none => some c
    | some b => if lexLt [(key c : Int), (c.2.readyAt : Int), (c.1.number : Int)] [(key b : Int), (b.2.readyAt : Int), (b.1.number : Int)] then
        some c else some b) none

/-- The LIVE pictures in order of deadline. -/
def liveOrder : Nat → List (Stream × PicWork) → List (Stream × PicWork)
  | 0, _ => []
  | n + 1, l => match firstBy (fun c => pictureDeadline c.1 c.2) l with
    | some c => c :: liveOrder n (l.filter (fun y => y.1.number != c.1.number))
    | none => []

/-- R384: every LIVE picture meets its deadline after `finish`, as if run one after another. -/
def liveSafe : Nat → List (Stream × PicWork) → Bool
  | _, [] => true
  | finish, c :: r =>
    let f := finish + pictureTime c.1 c.2
    if pictureDeadline c.1 c.2 < f then false else liveSafe f r

/-- R384; R382: an encode picture whose core was reset goes first. -/
def pickPicture (now : Nat) (ready : List (Stream × PicWork)) : Option (Stream × PicWork) :=
  let ofClass (k : Nat) : List (Stream × PicWork) := ready.filter (fun c => c.1.conf.cls = k)
  let live := liveOrder ready.length (ofClass 0)
  let oldest (l : List (Stream × PicWork)) : Option (Stream × PicWork) := firstBy (fun c => c.2.readyAt) l
  let aged := oldest ((ofClass 2).filter (fun c => c.2.readyAt + 1000000 * c.1.conf.starveMs < now))
  let urgent := aged.filter (fun b => liveSafe (now + pictureTime b.1 b.2) live)
  (oldest (ready.filter (fun c => c.2.redo))).or <| urgent.or (live.head?.or ((oldest (ofClass 1)).or (oldest (ofClass 2))))

/-- The ready pictures of a kind; a faulted pen's streams start none (R391), but one whose core was reset goes on (R382). -/
def State.readyPictures (s : State) (encode : Bool) : List (Stream × PicWork) :=
  s.video.streams.filterMap (fun x => match x.ready with
    | some w => if x.conf.encode = encode && ((s.pen x.pen).state != .faulted || w.redo) then some (x, w) else none
    | none => none)

def execPicturePick (core : Fin 6) (s : State) : Result :=
  let t := s.quiet
  let c := t.core core.val
  if c.busy.isSome || c.inReset || !t.boot.shepherdRuns then done t
  else match pickPicture t.time.clock (t.readyPictures (4 ≤ core.val)) with
    | some (x, w) =>
      done ((t.modStream x.number (fun y => { y with ready := none })).modCore core.val (fun k => { k with busy := some (x.number, w) }))
    | none => done t

/-! ## The end of a picture -/

/-- R385. -/
def State.isLate (s : State) (x : Stream) (w : PicWork) : Bool := x.conf.cls = 0 && pictureDeadline x w < s.time.clock

/-- R380: the most recent picture in decode order that is in the pool. -/
def Stream.recent (x : Stream) : Option Planes :=
  (x.pictures.foldl (fun best p => match best with
    | some b => if p.number < b.number then some b else some p
    | none => some p) (none : Option Picture)).map Picture.planes

/-- The lines that hold a stream's references, by picture and block. -/
def Stream.refLines (x : Stream) : List ((Nat × Nat) × List Nat) :=
  (x.pictures.filter Picture.ref).flatMap (fun p => (List.range (planeBlocks p.planes)).map (fun b =>
    ((p.number, b), Config.bufferLines x.pen x.number p.number b)))

/-- R363, R379: what the decoder of a stream is given for its next picture; `poison` is near pasture's poisoned lines. -/
def Stream.decodeInput (x : Stream) (w : PicWork) (poison : List Nat) : DecodeInput :=
  { codec := x.conf.codec, hashCheck := x.conf.hashCheck && x.conf.codec = 1, depth := x.conf.depth, context := x.context, number := x.nextPicture
    data := (readBytes x.conf.codec w.data).map Prod.snd, refs := (x.pictures.filter Picture.ref).map (fun p => (p.number, p.planes))
    badRefs := if poison = [] then [] else (x.refLines.filter (fun r => r.2.any (poison.contains ·))).map Prod.fst, recent := x.recent }

/-- The offset in the picture's data of a byte that the decoder reads. -/
def Stream.dataOffset (x : Stream) (w : PicWork) (k : Nat) : Nat := ((readBytes x.conf.codec w.data).map Prod.fst).getD k k

/-- R370, R372: the pictures of a stream after one is decoded: the picture with the samples that it shows. -/
def Stream.afterDecode (x : Stream) (w : PicWork) (d : Decoded) (pic : Option (Planes × Planes)) (late : Bool) : Stream :=
  let n := x.nextPicture
  let old := x.pictures.map (fun p => match d.again with
    | some (k, o) => if p.number = k then { p with ref := d.refs.contains p.number, out := true, outNumber := o } else { p with ref := d.refs.contains p.number }
    | none => { p with ref := d.refs.contains p.number })
  let new : List Picture := match pic with
    | some p => [{ number := n, planes := p.1, shown := p.2, window := d.window, ref := d.refs.contains n, out := d.output
                   outNumber := d.outNumber, pts := vPts w.entry, late := late, fresh := 0 }]
    | none => []
  Stream.freePictures { x with pictures := old ++ new, nextPicture := n + 1, context := d.context, outUpTo := d.outUpTo }

/-- R379: a picture is skipped: no picture and no output. -/
def Stream.skip (x : Stream) (w : PicWork) (d : Decoded) (cause : Nat) : Stream :=
  { x with
    nextPicture := x.nextPicture + 1, context := d.context
    skipping := match x.skipping with
      | some (c, o, e, k) => some (c, o, e, k + 1)
      | none => some (cause, w.offset + x.dataOffset w d.header, w.entry, 1) }

def State.endDecode (s : State) (x : Stream) (w : PicWork) (hung : Bool) : State :=
  let i := x.decodeInput w s.np.poison
  let r := decodeWith i
  let d := r.1
  let late := s.isLate x w
  let t := s.count 36 (natOfBool late)
  match skipCause x.conf.codec x.conf.maxW x.conf.maxH x.conf.depth d, x.skipping.isSome && !d.randomAccess with
  | some c, _ => t.modStream x.number (fun y => y.skip w d c)
  | none, true => t.modStream x.number (fun y => y.skip w d 4)
  | none, false =>
    let p := recovered i hung d r.2
    let grain (q : Planes) : Planes :=
      let g := Config.filmGrain i q
      { q with luma := g.luma, cb := g.cb, cr := g.cr }
    let pic := p.1.map (fun q => (q, if x.conf.filmGrain && x.conf.codec = 2 then grain q else q))
    ((((t.endSkip x.number).count 34 (natOfBool pic.isSome)).modStream x.number (fun y => y.afterDecode w d pic late)).streamErrors x.conf.queue w.offset
      w.entry (p.2.map (fun r => { r with offset := x.dataOffset w r.offset })))

/-! ## Encoding (R386 to R389) -/

def StreamRec.topQp (c : StreamRec) : Nat := if c.codec = 1 then 51 else 255

/-- R388: the QP of the next picture. -/
def Stream.nextQp (x : Stream) : Nat :=
  if !x.conf.vbr || x.nextPicture = 0 then x.conf.qp
  else min x.conf.topQp (max (x.qp - 4) (min (x.qp + 4) (Config.vbrQp x.conf.bitrateKbps x.conf.rateMhz x.conf.qp x.sizes)))

/-- Table 15.3, R389: whether the next picture is a key picture (log entry 65). -/
def Stream.isKey (x : Stream) (e : List Byte) : Bool :=
  vForceKey e || !(x.pictures.any Picture.ref) || (match x.sinceKey with
    | some n => x.conf.keyInterval != 0 && x.conf.keyInterval ≤ n
    | none => true)

/-- R389: columns of blocks of a band, and the bands of a sweep. -/
def Stream.bandCols (x : Stream) : Nat := ceilDiv (ceilDiv x.conf.maxW 64) x.conf.refreshPeriod
def Stream.bandCount (x : Stream) : Nat := ceilDiv (ceilDiv x.conf.maxW 64) x.bandCols

/-- R386: the sample planes of an ENCODE entry's input. -/
def State.encodeInput (s : State) (x : Stream) (e : List Byte) : Planes :=
  match s.videoTensor x.pen (vHandle e) with
  | some t =>
    let org := (t.frameOrigin e).getD []
    encodeFrame e x.conf.maxW x.conf.maxH x.conf.depth (fun c a b => s.elemValue x.pen t (t.frameIndex org a b c))
  | none => default

/-- R388: the coded picture: at the QP, or once more at the higher QP; none when it is dropped. -/
def encodeFits (c : StreamRec) (room : Nat) (i : EncodeInput) : Option (List Byte × Planes) :=
  let r := encodePicture i
  if r.1.length ≤ room then some r
  else
    let r2 := encodePicture { i with qp := min c.topQp (i.qp + (if c.codec = 1 then 6 else 24)) }
    if r2.1.length ≤ room then some r2 else none

/-- The encoder's references: the REFS most recent pictures (log entry 65). -/
def Stream.afterEncode (x : Stream) (r : Planes) (size qp : Nat) (key refreshed : Bool) (band : Option (Nat × Nat)) : Stream :=
  let p : Picture := { number := x.nextPicture, planes := r, shown := r, window := (0, 0, r.width, r.height), ref := true, out := false, outNumber := 0, pts := 0, late := false
                       fresh := match band with
                         | some b => min x.conf.maxW (64 * b.2)
                         | none => x.conf.maxW }
  let old := if key then [] else x.pictures
  { x with
    pictures := (old ++ [p]).drop (old.length + 1 - x.conf.refs), nextPicture := x.nextPicture + 1, qp := qp, sizes := x.sizes ++ [size]
    sinceKey := if key then some 0 else x.sinceKey.map (· + 1), band := if key || refreshed then 0 else x.band + 1 }

/-- R386 to R389: the end of a picture that is encoded; one whose input is poisoned is dropped (log entry 148). -/
def State.endEncode (s : State) (x : Stream) (w : PicWork) : State :=
  let e := w.entry
  let key := x.isKey e
  let qp := x.nextQp
  let band := if x.conf.refresh && !key then some (x.band * x.bandCols, min (ceilDiv x.conf.maxW 64) ((x.band + 1) * x.bandCols)) else none
  let refreshed := band.isSome && x.bandCount ≤ x.band + 1
  let late := s.isLate x w
  let i : EncodeInput := { codec := x.conf.codec, depth := x.conf.depth, qp := qp, key := key, band := band
                           refs := if key then [] else (x.pictures.filter Picture.ref).map Picture.planes
                           input := s.encodeInput x e, number := x.nextPicture
                           fresh := (x.pictures.filter Picture.ref).map Picture.fresh, vectors := [] }
  let poisoned := (s.videoTensor x.pen (vHandle e)).any s.tensorPoisoned
  let t0 := (((s.videoFetch x.pen e false).useTensor (vHandle e)).count 36 (natOfBool late)).count 16 (vOutW e * vOutH e * 3 * (if vFormat e = 0xC then 1 else 2))
  let t := if poisoned then t0.videoEvent x.conf.queue (t0.eventBytes e 3 0 0 7) else t0
  match (if poisoned then none else encodeFits x.conf (vAuxLength e) i), t.videoTensor x.pen (vAux e) with
  | some (bs, r), some b =>
    let u := (((t.storeOutput x e [(b.penAddr + vAuxOffset e, bs)]).count 35 1).modStream x.number
      (fun y => y.afterEncode r bs.length qp key refreshed band)).videoSignal x.pen e
    if vCpl e || late then
      u.videoEvent x.conf.queue (u.eventBytes e 2 0 (vAuxOffset e) (bs.length % 2 ^ 32 + natOfBool key <<< 32 + natOfBool refreshed <<< 33))
    else u
  | _, _ =>
    let u := (t.modStream x.number (fun y => { y with nextPicture := y.nextPicture + 1, qp := qp })).videoSignal x.pen e
    u.videoEvent x.conf.queue (u.eventBytes e 2 0x37 (vAuxOffset e) 0)

/-! ## Rows -/

/-- R368: a closing stream whose picture has ended is gone, and its close is answered. -/
def State.endClosing (s : State) (n : Nat) : State :=
  match s.stream? n with
  | none => s
  | some x =>
    if x.shutting then
      let t := ((s.modVideo (fun v => { v with streams := v.streams.filter (fun y => y.number != n) })).sweepQueues).makeAllReady
      t.forAll x.closeSlots (fun u i => u.answer i stOk [])
    else s

/-- R368: at the end of the picture on a core, every other picture of a stream that closes is discarded without output. -/
def Stream.discard (x : Stream) : Stream :=
  if x.shutting then { x with pieces := [], work := [], flush := none, pictures := x.pictures.map (fun p => { p with out := false }) } else x

/-- A picture leaves its core and its stream goes on. -/
def State.endPicture (s : State) (core : Nat) (hung : Bool) : State :=
  match (s.core core).busy with
  | none => s
  | some (n, w) =>
    let s1 := (s.modCore core (fun c => { c with busy := none })).modStream n Stream.discard
    match s1.stream? n with
    | none => s1
    | some x => ((if x.conf.encode then s1.endEncode x w else s1.endDecode x w hung).streamMoves n).endClosing n

/-- R266, R275: whether near pasture holds the input of the picture that a core encodes, or a reference of a picture on a core. -/
def State.pictureHeld (s : State) (core : Nat) : Bool :=
  s.npHolds && (match (s.core core).busy with
    | some (n, w) => (s.stream? n).any (fun x => (x.conf.encode && s.videoHeld x.pen w.entry) ||
        x.refLines.any (fun r => r.2.any (s.npBlocked .video)))
    | none => false)

/-- R383: the input of a picture that waits stands at its pseudo-channels. -/
def State.pictureFetch (s : State) (core : Nat) : State :=
  match (s.core core).busy with
  | some (n, w) => (match s.stream? n with
    | some x => if x.conf.encode then s.videoFetch x.pen w.entry true else s
    | none => s)
  | none => s

/-- R375: a core that waits for its reset does not end its picture (log entry 66). -/
def execPictureEnd (core : Fin 6) (s : State) : Result :=
  let t := s.quiet
  if (t.core core.val).resetQueued then done t
  else if t.pictureHeld core.val then done (t.pictureFetch core.val)
  else done (t.endPicture core.val false)

/-- R382: a core reset begins: the picture is concealed and completes, or is put back to be encoded again. -/
def State.beginCoreReset (s : State) (core : Nat) : State :=
  match (s.core core).busy with
  | none => s.modCore core (fun c => { c with resetQueued := false })
  | some (n, w) =>
    let queue := (match s.stream? n with
      | some x => x.conf.queue
      | none => 0)
    let s1 := s.modCore core (fun c => { c with inReset := true, resetQueued := false })
    let s2 := if 4 ≤ core then (s1.modCore core (fun c => { c with busy := none })).modStream n (fun y => { y with ready := some { w with redo := true } })
      else s1.endPicture core true
    (s2.videoEvent queue (s2.eventBytes w.entry 5 0 0 core)).logFault 12 0x0801 .corrected core none none n

/-- R391: one core is in reset at a time. -/
def State.nextCoreReset (s : State) : State :=
  if s.video.cores.any VideoCore.inReset || !s.boot.shepherdRuns then s
  else match s.video.cores.findIdx? VideoCore.resetQueued with
    | some c => s.beginCoreReset c
    | none => s

def execCoreReset (core : Fin 6) (s : State) : Result :=
  let t := s.quiet
  let c := t.core core.val
  if c.busy.isNone || c.inReset then done t
  else done ((t.modCore core.val (fun k => { k with resetQueued := true })).nextCoreReset)

def execVideoCoreResetEnd (core : Fin 6) (s : State) : Result :=
  let t := s.quiet
  if (t.core core.val).inReset then done ((t.modCore core.val (fun k => { k with inReset := false })).nextCoreReset) else done t

/-- R391: the Shepherd runs again. -/
def State.resumeVideo (s : State) : State := s.releaseVideo.nextCoreReset

end Sys2Proof.Machine
end

