-- ==== Sys2Proof/Machine/Resets.lean ====
section
/-! DEFINITION. Bring-up and resets (chapter 18, R505, R512, R476, R477): the stages, the rails, the three resets of the whole
device, and the registers RESET_CTRL and HEARTBEAT. -/

namespace Sys2Proof.Machine

/-! ## Rails (R440, R503, R505) -/

def State.rail (s : State) (r : Rail) : Bool := s.boot.railsGood.contains r
def fieldRails : List Rail := [.field0, .field1, .field2, .field3]
def State.hubRails (s : State) : Bool := s.rail .hub && s.rail .hbm
def State.fieldsPowered (s : State) : Bool := s.boot.fieldEn && fieldRails.all s.rail

/-- R440 step 3, R294: the topology of the settings; none in DECOMMISSIONED (R453). -/
def State.loadTopology (s : State) : State :=
  let x := s.dog.inUse
  let gone := s.dog.lcState = lcDecommissioned
  s.setTopology { coord := if gone then 0 else x.coord, extent := if gone then 0 else x.extent, bellwether := x.bellwether
                  deputy := x.deputy, placed := x.placed && !gone, slot := none }

/-- R392: the best mode that the partner and the channel allow, in the endpoint's order; where they allow none of these, the first of
their own (log entry 165). -/
def bestMode (modes : List (HostRate × HostWidth)) : Option (HostRate × HostWidth) :=
  match linkOrder.find? (fun m => modes.contains m) with
  | some m => some m
  | none => modes.head?

/-- R392: flit mode at 64 GT/s; at 32 and 16 GT/s when the partner supports it. -/
def flitAt (partner : Bool) (m : HostRate × HostWidth) : Bool :=
  match m.1 with
  | .g64 => true
  | .g32 | .g16 => partner
  | .lower => false

/-- R392: the host link settles on its mode; with no mode in common it stays as it is. -/
def Boot.train (b : Boot) : Boot :=
  match bestMode b.linkModes with
  | none => b
  | some m => { b with linkUp := true, linkRate := m.1, linkWidth := m.2, linkFlit := flitAt b.partnerFlit m }

/-- R440, R441, Table 18.2: the steps of the power-on sequence that have become possible: the transit plane leaves reset, HUB_EN is
asserted, the host link trains. -/
def State.progress (s : State) : State :=
  let t := if s.transitLive && !s.boot.hubEn && !s.boot.railHold then s.loadTopology.modBoot (fun b => { b with hubEn := true }) else s
  if t.boot.perstN && t.boot.hubEn && t.rail .hub && !t.boot.linkUp then t.modBoot Boot.train else t

/-! ## What each reset does to the Sheepdog (R436, R444, R459, R477) -/

/-- R477: a warm, a cold or a heartbeat reset ends an unconfirmed image. -/
def Sheepdog.endImage (g : Sheepdog) : Sheepdog :=
  let h := if g.fwUnconfirmed then g.fallBack else g
  { h with running := none, healthStart := none }

def Sheepdog.warmed (g : Sheepdog) : Sheepdog :=
  { g.endImage with window := none, session := none, erasing := g.erasing.take 1, debugLevel := 0 }

/-- A cold reset: the Sheepdog's own writes that wait for HOLDUP_OK survive while VDD_AON stays up (log entry 59). -/
def Sheepdog.chilled (g : Sheepdog) (aonUp : Bool) : Sheepdog :=
  let h := g.endImage
  { h with
    window := none, session := none, sessionCounter := 0, erasing := [], debugLevel := 0, presenceStuck := false, sealA := false
    sealMiss := 0, sealBroken := false, fwUnconfirmed := false, ownWrites := if aonUp then h.ownWrites else [] }

/-! ## Cold reset (R443, R444) -/

/-- Table 18.6: the counters and the banks; the limit is that of the settings (R498). -/
def Health.restarted (h : Health) (limit : Nat) (banks : List FaultBank) : Health :=
  { Health.initial with banks := banks, power := { Power.initial limit with brake := h.power.brake, dieTemps := h.power.dieTemps } }

/-! ## The Fold map (R53, R80) -/

/-- R80: the map of one die from the retirement record; TAKEOVERS keeps its counts. -/
def mapDie (retired : List Nat) (old : List FoldSlot) (d : Nat) : List FoldSlot :=
  ((List.range 32).foldl (fun (acc : List FoldSlot × List Nat) i =>
    let tk := (old.getD (32 * d + i) { phys := 0, active := false, takeovers := 0 }).takeovers
    if !(retired.contains (34 * d + i)) then (acc.1 ++ [{ phys := i, active := true, takeovers := tk }], acc.2)
    else match acc.2 with
      | k :: r => (acc.1 ++ [{ phys := k, active := true, takeovers := tk }], r)
      | [] => (acc.1 ++ [{ phys := i, active := false, takeovers := tk }], []))
    ([], [32, 33].filter (fun k => !(retired.contains (34 * d + k))))).1

/-- R80: FOLD_SLOT rebuilt. -/
def rebuildSlots (retired : List Nat) (old : List FoldSlot) : List FoldSlot := (List.range 4).flatMap (mapDie retired old)

/-- The physical Folds that serve slots. -/
def servedFolds (slots : List FoldSlot) : List Nat := (slots.zipIdx.filter (fun x => x.1.active)).map (fun x => 34 * (x.2 / 32) + x.1.phys)

/-- R80, R82: FOLD_STATUS rebuilt, with the Folds for which `on` holds powered. -/
def rebuildFolds (retired : List Nat) (slots : List FoldSlot) (on : Nat → Bool) : List Fold :=
  let served := servedFolds slots
  (List.range 136).map (fun k =>
    if retired.contains k then { Fold.off with state := .retired }
    else if !(on k) then Fold.off
    else if served.contains k then { Fold.off with state := .active }
    else { Fold.off with state := .spare })

/-- R74, R78: the Folds that have failed keep their place until a takeover or until their slot is EMPTY. -/
def keepFailed (old new : List Fold) : List Fold :=
  new.zipIdx.map (fun f => let o := old.getD f.2 .off
    if o.state = .failed then o else f.1)

/-- R53, R80: the Fold array after a reset: the map of the retirement record, and no Fold powered. -/
def Compute.unpowered (retired : List Nat) (old : List FoldSlot) : Compute :=
  { Compute.initial with slots := rebuildSlots retired old, folds := rebuildFolds retired (rebuildSlots retired old) (fun _ => false) }

/-! ## Cold reset (R443) -/

/-- Table 18.6, first column. -/
def State.coldReset (s : State) (cause : Nat) (aonUp : Bool) : State :=
  let again := s.boot.resetting = some .cold
  let dog := s.dog.chilled aonUp
  let boot : Boot := { Boot.initial with
    resetN := s.boot.resetN, perstN := s.boot.perstN, fusesRead := s.boot.resetN
    railsGood := s.boot.railsGood.filter (fun r => r = .vddio || (r = .aon && aonUp))
    thermtrip := s.boot.thermtrip && aonUp, stoppedDies := if aonUp then s.boot.stoppedDies else []
    linkModes := s.boot.linkModes, partnerFlit := s.boot.partnerFlit
    resetting := some .cold, holdAt2 := s.boot.holdAt2 && aonUp && (again || cause = 2)
    lastCause := if again then s.boot.lastCause else cause, lastDeep := if again then s.boot.lastDeep else cause }
  { State.reset with
    dog := dog, boot := boot, time := { TimeUnit.initial with clock := s.time.clock }
    comp := Compute.unpowered dog.retiredNow Compute.initial.slots
    health := s.health.restarted dog.inUse.powerLimit (if aonUp then s.health.banks else Health.initial.banks)
    out := s.out, free := s.free, pending := s.pending }

/-! ## Warm reset (R443 to R446) -/

/-- Table 18.6: near pasture is wiped and its stacks are trained again; MAX_TEMP is kept (RWS). -/
def NearMem.warmed (n : NearMem) : NearMem :=
  { NearMem.initial with stackList := n.stackList.map (fun k => { Stack.initial with temp := k.temp, maxTemp := k.maxTemp }) }

/-- R295: the requests already handed to the hub are lost with it. -/
def State.loseRequests (s : State) : State := s.modFab (fun f => { f with ejected := f.ejected.filter (fun x => pVc x.2 = 3) })

/-- Tables 16.10 and 18.6: a warm reset returns a slot to IDLE; its registers and areas keep the last request and response. -/
def Mailbox.returned (m : Mailbox) : Mailbox := { m with go := false, state := 0, taken := [], discard := false }

/-- R404, Table 18.4: the Talsen ports train from stage 2; never in DECOMMISSIONED (R453). -/
def State.trainTalsen (s : State) : State :=
  { s with talsen := if s.dog.lcState = lcDecommissioned then State.reset.talsen
           else s.talsen.map (fun t => if t.state = .down then { t with state := .training } else t) }

/-- Table 18.6, second column, R361, R496. -/
def State.warmParts (s : State) : State :=
  let t : State := { s with
    dog := s.dog.warmed
    comp := Compute.unpowered s.dog.warmed.retiredNow s.comp.slots
    pens := State.reset.pens
    drover := .initial
    talsen := State.reset.talsen
    np := s.np.warmed
    fab := { s.fab with draining := s.fab.draining.map (fun x => { x with slot := none }), ejected := s.fab.ejected.filter (fun x => pVc x.2 = 3) }
    qe := State.reset.qe
    coord := State.reset.coord
    video := .initial
    host := { s.host with slots := s.host.slots.map Mailbox.returned, lastSlot := State.reset.host.lastSlot }
    health := s.health.restarted s.dog.warmed.inUse.powerLimit s.health.banks }
  (t.modHealth (fun h => { h with snapEpoch := s.health.snapEpoch })).trainTalsen

/-- R443, R446: a warm reset; one at stage 1 finds nothing but the Sheepdog's own state to reset. -/
def State.warmReset (s : State) (cause : Nat) : State :=
  let busy := s.boot.resetting = some .cold || s.boot.resetting = some .warm
  if busy || s.boot.stage = 0 || s.boot.railHold then s
  else
    let t := s.warmParts.modBoot (fun b => { b with
      shepherdRuns := false, ccDraining := false, thermalWait := false, hubFaulted := false, coordinatorLost := false, heartbeat := 0
      farUnwiped := List.replicate 4 0, fieldEn := b.fieldEn && s.dog.lcState != lcDecommissioned, lastCause := cause, lastDeep := cause, warmCount := satInc b.warmCount 255
      resetting := if 2 ≤ b.stage then some .warm else none })
    (if 2 ≤ s.boot.stage then t.setStage 2 else t).tick

/-- Table 18.5: PERST_N also resets the endpoint, its link and its configuration space. -/
def State.resetEndpoint (s : State) : State :=
  (s.modHost (fun h => { h with fns := State.reset.host.fns, bar4Bits := State.reset.host.bar4Bits })).modBoot (fun b => { b with
    linkUp := false, d3hot := false, linkRate := .g64, linkWidth := .x16, linkFlit := true })

/-! ## Control-complex reset (R357, R443) -/

/-- R72, R355: the provisional tasks of a pen's repeatable operators are discarded. -/
def State.drainPen (s : State) (pen : Nat) : State :=
  s.forAll allHalves (fun t x =>
    let half := t.half x.1 x.2
    match half.busy with
    | some (id, _) => match t.op? id with
      | some o => if o.pen = pen && o.repeatable && o.recipeFor.isNone && half.prov != [] then t.discardTask x.1 x.2 none else t
      | none => t
    | none => t)

/-- The pens in a state. -/
def State.pensIn (s : State) (x : PenState) : List Nat := (List.range 8).filter (fun p => (s.pen p).state = x)

/-- R355: no task of the pen remains, no non-repeatable operator and no remote operation. -/
def State.penDrained (s : State) (pen : Nat) : Bool :=
  s.comp.ops.all (fun o => o.pen != pen || (o.tasks.all (fun t => t.phase = .waiting || t.phase = .done) && (o.repeatable || o.recipeFor.isSome))) &&
    s.qe.rops.all (fun r => r.pen != pen)

/-- R453, R505: no control complex to reset: in DECOMMISSIONED, and in rail hold. -/
def State.noComplex (s : State) : Bool := s.dog.lcState = lcDecommissioned || s.boot.railHold

/-- R357, R439, R443, R446: the trigger of a control-complex reset: it is recorded, STAGE reads 2 and the pens drain.  At stage 1, where
no Shepherd runs, there is nothing to drain (log entry 58).  A heartbeat one ends an unconfirmed image (R477) and is logged. -/
def State.ccReset (s : State) (cause : Nat) : State :=
  if s.boot.resetting.isSome || s.boot.stage = 0 then s
  else
    let r := s.modBoot (fun b => { b with
      resetting := if s.noComplex then none else some .controlComplex, ccDraining := 2 ≤ b.stage && !s.noComplex
      ccStage := max 2 b.stage, lastCause := cause, ccCount := satInc b.ccCount 255 })
    let t := if s.noComplex || s.boot.stage < 2 then r else (r.setStage 2).forAll (s.pensIn .running) State.drainPen
    if cause = 11 then
      (t.modDog (fun g => { (if g.fwUnconfirmed then g.fallBack else g) with healthStart := none })).logFault 6 0x0A02 .corrected
    else t

/-- R198, R211: every DLT encode is abandoned; R276: write combining completes. -/
def State.closeWrites (s : State) : State :=
  let t := s.forAll (List.range 8) State.abandonEncodes
  t.forAll (t.np.wc.map WcEntry.line) (fun u l => u.npFlush l none)

/-- R357, R444: the drain is over: the Shepherd is reset. -/
def execCcDrainComplete (s : State) : Result :=
  let t := s.quiet
  if t.boot.resetting = some .controlComplex && t.boot.ccDraining && (t.pensIn .running ++ t.pensIn .quiescing).all t.penDrained then
    let u := t.modBoot (fun b => { b with ccDraining := false, shepherdRuns := false })
    done ((u.forAll (u.pensIn .running) State.droverQuiesce).closeWrites.loseRequests)
  else done t

/-- R357, R166: an operator that had not completed is issued again from its first task; its chains are abandoned with their slots. -/
def State.reissue (s : State) (id : Nat) : State :=
  match s.op? id with
  | none => s
  | some o =>
    let r := s.tasksFor o.desc
    ((r.2.2.forAll (s.halvesOf id) (fun t x => t.modHalf x.1 x.2 AccHalf.zeroed)).modComp (fun c => { c with
      staged := c.staged.filter (fun x => x.op != id) })).modOp id (fun x => { x with
        tasks := r.1, flags := 0, staged := [], framed := false, closed := false, served := false, ref1Stationary := r.2.1 })

/-- R407: the BUSY slots end NOT_READY; the service core starts its round anew, and the GOs that waited are looked at again. -/
def State.endBusy (s : State) : State :=
  let busy := (List.range 12).filter (fun i => (s.slotAt i).state = 1)
  let s1 := (s.modHealth (fun h => { h with snapshot := h.snapshot.map (fun x => (x.1, x.2.1, none)) })).modHost
    (fun h => { h with lastSlot := State.reset.host.lastSlot })
  ((s1.forAll busy State.cancelWait).answerBusy).settleRound

/-- R469, R475, R438: choose an image; none holds the device at stage 1 with BOOT_IMAGE. -/
def State.bootImage (s : State) (ended : Bool) : State × Option Nat :=
  let r := s.dog.choose ended
  let t := s.modDog (fun _ => r.1)
  match r.2 with
  | none => ((t.setStage 1).logFault 13 0x0901 .uncontained, none)
  | some i => (t.modDog (fun g => (g.migrate i).started i), some i)

/-- R469: an identity copy passes. -/
def Sheepdog.identityOk (g : Sheepdog) : Bool := g.identIndex.isSome

/-- R437, R467, R469, R512: what a start of the Shepherd needs. -/
def State.canBoot (s : State) : Bool :=
  s.boot.linkUp && s.hubRails && !(s.boot.stoppedDies.contains 4) && s.dog.identityOk && s.dog.flashUsable

/-- R476: an unconfirmed image's health timer starts at stage 5, or at stage 4 while the device is not placed. -/
def State.startHealth (s : State) : State :=
  if s.dog.fwUnconfirmed && s.dog.healthStart.isNone && (s.boot.stage = 5 || (s.boot.stage = 4 && !s.fab.placed)) then
    s.modDog (fun g => { g with healthStart := some s.time.clock })
  else s

/-- R15, Table 9.2: the firmware that starts takes bank 15 of the commons for its working memory. -/
def State.takeBank (s : State) : State := (s.draw).2.modComp (fun c => { c with bank15 := some s.free })

/-- R15: a byte of bank 15: zero from the wipe (R445), then what the firmware keeps there. -/
def Compute.bankByte (c : Compute) (place : Nat) : Byte := c.bank15.elim 0 (fun n => Config.shepherdMemory n place)

/-- R357: the Shepherd runs again, and the device is at its stage again; with no image that verifies, the reset goes on until it
becomes a warm reset. -/
def execShepherdRestart (s : State) : Result :=
  let t := s.quiet
  if t.boot.resetting = some .controlComplex && !t.boot.shepherdRuns && !t.boot.ccDraining && t.canBoot then
    let r := t.bootImage (t.boot.lastCause = 11)
    match r.2 with
    | none => done r.1
    | some i =>
      let u := (r.1.modBoot (fun b => { b with shepherdRuns := true, resetting := none, fieldEn := true })).takeBank
      let v := (u.setStage (if i < 2 then t.boot.ccStage else 2)).modDog (fun g => if g.fwUnconfirmed then g else { g with healthStart := none })
      let w := (v.modComp (fun c => { c with plans := [], chains := [], staged := [] })).forAll (v.pensIn .running) (fun x p => x.modPen p (fun y => { y with drained := false }))
      let ids := w.comp.ops.map Op.id
      done (((((w.forAll ids State.reissue).endBusy).resumeVideo).startRelink).startHealth)
  else done t

def execCcResetEscalation (s : State) : Result :=
  let t := s.quiet
  done (if t.boot.resetting = some .controlComplex then t.warmReset 8 else t)

def execHeartbeatReset (s : State) : Result :=
  let t := s.quiet
  done (if 2 ≤ t.boot.stage && !t.noComplex then t.ccReset 11 else t)

/-- R477: 600 s after the timer of an image that was not confirmed. -/
def execHealthWatchdog (s : State) : Result :=
  let t := s.quiet
  done (if t.dog.healthStart.isSome && !t.dog.fwUnconfirmed then t.ccReset 12 else t)

/-- R477: 300 s without confirmation. -/
def execFwHealthTimeout (s : State) : Result :=
  let t := s.quiet
  done (if t.dog.fwUnconfirmed && t.dog.healthStart.isSome && !t.dog.confirming then
      (t.modDog Sheepdog.fallBack).logFault 13 0x0905 .corrected 0 none none t.fwVersion
    else t)

/-- R476: with CONFIRM_MODE 1. -/
def execFirmwareSelftestPass (s : State) : Result :=
  let t := s.quiet
  done (if t.dog.fwUnconfirmed && t.dog.healthStart.isSome && t.dog.inUse.confirmMode = 1 then t.modDog Sheepdog.confirmHealth else t)

/-- Table 16.5: the Eszer service core counts while it runs. -/
def execHeartbeatIncrement (s : State) : Result :=
  let t := s.quiet
  done (if t.boot.shepherdRuns then t.modBoot (fun b => { b with heartbeat := b.heartbeat + 1 }) else t)

/-! ## RESET_CTRL (Table 18.7) -/

/-- R446, Table 18.7: a write of RESET_CTRL; HOLD_AT_2 is written always, the requests act under the key and the deepest prevails. -/
def State.writeResetCtrl (s : State) (v : Nat) : State :=
  let t := s.modBoot (fun b => { b with holdAt2 := v.testBit 3 })
  if bitsOf v 15 8 = 0xA5 then
    if v.testBit 2 then t.coldReset 2 true
    else if v.testBit 1 then t.warmReset 4
    else if v.testBit 0 then t.ccReset 9
    else t
  else t

/-- R441, R462: the Sheepdog serves the register once the endpoint answers. -/
def State.hostResetCtrl (s : State) (value : Word) : State :=
  if s.boot.linkUp then s.writeResetCtrl value.toNat else s

def execResetCtrlCc (value : Word) (s : State) : Result := done (s.quiet.hostResetCtrl value)
def execResetCtrlWarm (value : Word) (s : State) : Result := done (s.quiet.hostResetCtrl value)
def execResetCtrlCold (value : Word) (s : State) : Result := done (s.quiet.hostResetCtrl value)

/-! ## Pins and rails -/

/-- R443: RESET_N low for 1 µs. -/
def execResetNLow (s : State) : Result :=
  done ((s.quiet.modBoot (fun b => { b with resetN := false })).coldReset 1 true)

/-- R440 step 2: the boot ROM runs and reads the fuses. -/
def execResetNRelease (s : State) : Result :=
  done (s.quiet.modBoot (fun b => { b with resetN := true, fusesRead := true }))

def execPerstNAssert (s : State) : Result :=
  done (((s.quiet.modBoot (fun b => { b with perstN := false })).warmReset 5).resetEndpoint)

def execPerstNRelease (s : State) : Result := done ((s.quiet.modBoot (fun b => { b with perstN := true })).progress)

/-- R443, R486. -/
def execVddAonLoss (s : State) : Result := done (s.quiet.coldReset 0 false)

/-- R443: the banks go with VDD_AON. -/
def execVddTransitLoss (aonUp : Bool) (s : State) : Result :=
  done (if aonUp then s.quiet.coldReset 3 true else s.quiet.coldReset 0 false)

def execRailGood (rail : Rail) (s : State) : Result :=
  let t := s.quiet
  done ((t.modBoot (fun b => { b with railsGood := if b.railsGood.contains rail then b.railsGood else b.railsGood ++ [rail] })).progress)

/-- R505: rail hold; the transit plane keeps forwarding. -/
def State.holdRails (s : State) : State :=
  let t := s.modBoot (fun b => { b with
    fieldEn := false, hubEn := false, railHold := true, shepherdRuns := false, linkUp := false, ccDraining := false, resetting := none
    railsGood := b.railsGood.filter (fun r => r = .aon || r = .vddio || r = .transit) })
  ((t.modComp (fun c => { c with folds := c.folds.map (fun f => if f.state = .retired then f else Fold.off) })).setStage 1).loseRequests

/-- R505, R443: a rail leaves its tolerance once good. -/
def State.railFails (s : State) (rail : Rail) : State :=
  let t := s.modBoot (fun b => { b with railsGood := b.railsGood.filter (· != rail) })
  match rail with
  | .aon => t.coldReset 0 false
  | .transit => t.coldReset 3 true
  | .vddio | .hub | .hbm | .field0 | .field1 | .field2 | .field3 => if t.boot.stage = 0 then t else t.holdRails

def execRailHold (rail : Rail) (s : State) : Result := done (if s.rail rail then s.quiet.railFails rail else s.quiet)

/-- Table 21.1: whether a rail's enable is asserted. -/
def State.railEnabled (s : State) : Rail → Bool
  | .aon | .vddio => false
  | .transit => s.boot.transitEn
  | .hub | .hbm => s.boot.hubEn
  | .field0 | .field1 | .field2 | .field3 => s.boot.fieldEn

def execRailGoodTimeout (rail : Rail) (s : State) : Result :=
  let t := s.quiet
  done (if t.railEnabled rail && !(t.rail rail) then
      (if rail = .transit then t.holdRails.modBoot (fun b => { b with transitEn := false }) else t.holdRails)
    else t)

/-- R512: the clocks of the die stop; the hub die (4) carries the Shepherd. -/
def execThermtrip (die : Fin 5) (s : State) : Result :=
  let t := s.quiet
  let u := t.modBoot (fun b => { b with
    thermtrip := true, stoppedDies := if b.stoppedDies.contains die.val then b.stoppedDies else b.stoppedDies ++ [die.val]
    shepherdRuns := b.shepherdRuns && die.val != 4 })
  done (u.emit .thermtrip)

/-! ## Stages (R437, R438) -/

/-- Stage 1 (R437, R454); TRANSIT_EN follows (R440 step 3). -/
def execStageManagement (s : State) : Result :=
  let t := s.quiet
  if t.boot.stage = 0 && t.rail .aon && t.rail .vddio && t.boot.resetN && t.boot.fusesRead then
    let u := (t.modDog (fun g => { g with lcState := g.deriveLc })).modBoot (fun b => { b with transitEn := true, resetting := none })
    let v := (u.setStage 1).progress
    done (if v.dog.lcState != lcDecommissioned && !v.dog.identityOk then v.logFault 13 0x0902 .uncontained else v)
  else done t

/-- R453: the decommissioned device enters stage 2 with the host link, and its boot ROM serves. -/
def State.enterDecommissioned (s : State) : State := (s.modBoot (fun b => { b with resetting := none })).setStage 2

/-- R467, R475: an unusable flash holds the device at stage 1, as does a flash without an image. -/
def State.startShepherd (s : State) : State :=
  if s.dog.flashUsable then
    let t := s.modDog Sheepdog.scan
    let r := t.bootImage true
    match r.2 with
    | none => r.1.modBoot (fun b => { b with resetting := none })
    | some _ => (((r.1.modBoot (fun b => { b with shepherdRuns := true, resetting := none, fieldEn := true })).takeBank).trainTalsen).setStage 2
  else (s.setStage 1).logFault 13 0x0901 .uncontained

/-- Stage 2 (R437): from stage 1, or during a warm reset, in which STAGE reads 2 already. -/
def execStageFirmware (s : State) : Result :=
  let t := s.quiet
  let waits := (t.boot.stage = 1 && !t.boot.railHold && t.boot.resetting != some .controlComplex) || (t.boot.stage = 2 && t.boot.resetting = some .warm)
  if waits && t.boot.linkUp && t.hubRails && !(t.boot.stoppedDies.contains 4) then
    if t.dog.lcState = lcDecommissioned then done t.enterDecommissioned
    else if t.dog.identityOk then done t.startShepherd
    else done t
  else done t

/-! ### Stage 3 (R52, R79, R80, R82) -/

/-- R82: the die of stage 3: the lowest whose slots are all ACTIVE, else die 0. -/
def reducedDie (slots : List FoldSlot) : Nat :=
  ((List.range 4).find? (fun d => ((slots.drop (32 * d)).take 32).all FoldSlot.active)).getD 0

/-- R79, R80: the self-test retires a Fold; a spare is logged. -/
def State.failSelftest (s : State) (k : Nat) : State :=
  if s.dog.retiredNow.contains k then s
  else
    let t := s.ownWrite (.retire k)
    if 32 ≤ k % 34 then t.foldLog k 0x0105 .corrected none 0 else t

/-- R80: after a cold reset the retired Folds scheduled for it that pass return. -/
def State.passRetest (s : State) (bad : List Nat) : State :=
  if 3 < s.boot.lastDeep then s
  else (s.forAll (s.dog.retest.filter (fun k => !(bad.contains k))) (fun t k => t.ownWrite (.unretire k))).modDog (fun g => { g with retest := [] })

/-- Table 18.7: HOLD_AT_2 holds after a warm reset and after the cold reset that the register requested. -/
def State.heldAt2 (s : State) : Bool := s.boot.holdAt2 && (4 ≤ s.boot.lastDeep || s.boot.lastDeep = 2)

def execStageReduced (badFolds badCommons : List Nat) (s : State) : Result :=
  let t := s.quiet
  if t.boot.stage = 2 && t.boot.resetting.isNone && t.boot.shepherdRuns && t.dog.running != some 2 && t.fieldsPowered && !t.heldAt2 &&
      t.dog.lcState != lcDecommissioned then
    let u := (t.passRetest badFolds).forAll badFolds State.failSelftest
    let retired := u.dog.retiredNow
    let slots := rebuildSlots retired u.comp.slots
    let die := reducedDie slots
    let served := servedFolds slots
    let v := u.modComp (fun c => { c with slots := slots, folds := rebuildFolds retired slots (fun k => k / 34 = die && served.contains k) })
    done (match badCommons with
      | [] => v.setStage 3
      | _ :: _ => (v.modComp (fun c => { c with folds := rebuildFolds retired slots (fun _ => false) })).forAll badCommons
          (fun w b => w.logFault 14 0x0B03 .uncontained b))
  else done t

/-! ### Stage 4 -/

/-- Table 16.9: the first requirement that an expander fails, 0 for none. -/
def Expander.failedRow (x : Expander) : Nat :=
  if !x.deviceOk then 1
  else if x.mib < 65536 || x.mib % 256 != 0 then 2
  else if !x.decoderOk then 3
  else if !x.poisonOk then 4
  else if !x.latencyOk then 5
  else 0

/-- R405: capacity above 2 TiB is left unused. -/
def Expander.used (x : Expander) : Nat := min x.mib 2097152

/-- R404, R405: the enumeration of a port at stage 4. -/
def State.enumerate (s : State) (port : Nat) (x : Option Expander) : State :=
  match x with
  | none => s.modTalsen port (fun _ => Talsen.initial)
  | some e =>
    match Expander.failedRow e with
    | 0 => s.modTalsen port (fun _ => { Talsen.initial with
        state := .up, rate32 := e.rate32, width8 := e.width8, serial := some e.serial, usedMib := Expander.used e })
    | n => (s.modTalsen port (fun _ => { Talsen.initial with failed := n })).logFault 10 0x0601 .corrected port none none n

/-- R264, R273, R274: near pasture at stage 4: wiped, every group just trained, THRESH from the settings. -/
def NearMem.trained (n : NearMem) (thresh : Byte) : NearMem :=
  { NearMem.initial with
    thresh := if 2 ≤ thresh.toNat && thresh.toNat ≤ 64 then thresh else n.thresh
    stackList := n.stackList.map (fun k => { k with trained := true, powered := true })
    groups := (List.range 64).map (fun g => { trainedTemp := (n.stackList.getD (g / 8) .initial).temp, due := false, corrected := [] }) }

/-- R406, R445: the far capacity, none of it overwritten yet. -/
def State.fixFar (s : State) : State :=
  (s.modDrover (fun d => { d with farCapacity := (s.talsen.map Talsen.usedMib).sum * 2 ^ 20 })).modBoot
    (fun b => { b with farUnwiped := s.talsen.map (fun t => t.usedMib * 2 ^ 20) })

def execStageMemory (badStacks : List Nat) (expanders : List (Option Expander)) (s : State) : Result :=
  let t := s.quiet
  let hot := t.np.stackList.any (fun k => k.tstate = 4)
  if t.boot.stage = 3 && t.boot.resetting.isNone && t.boot.shepherdRuns && t.dog.lcState != lcReturn && !hot then
    if badStacks != [] then done (t.forAll badStacks (fun u k => u.logFault 8 0x0204 .uncontained k))
    else
      let u := t.modNp (fun n => n.trained t.dog.inUse.thresh)
      let v := (u.forAll ((List.range 4).zip expanders) (fun w x => w.enumerate x.1 x.2)).fixFar
      let w := if v.talsen.any (fun x => x.state == .up) then v.healthEventAll 4 else v
      let x := w.modComp (fun c => { c with folds := keepFailed c.folds (rebuildFolds w.dog.retiredNow c.slots (fun _ => true)) })
      done ((x.setStage 4).startHealth)
  else done t

/-! ### Stage 5 -/

/-- R437: on every axis of extent 2 or more a port is UP. -/
def State.axesUp (s : State) : Bool :=
  (List.range 4).all (fun a => extentOf s.fab.extent a < 2 || (s.port (2 * a)).lstate == .up || (s.port (2 * a + 1)).lstate == .up)

def execStageFull (s : State) : Result :=
  let t := s.quiet
  done (if t.boot.stage = 4 && t.boot.resetting.isNone && t.boot.shepherdRuns && t.fab.placed && !t.fab.transitOnly && t.fab.draining.isNone &&
      t.axesUp && (t.time.synced || t.isMaster) && t.dog.lcState != lcReturn then (t.setStage 5).startHealth else t)

end Sys2Proof.Machine
end

