-- ==== Sys2Proof/Machine/EszerDog.lean ====
section
/-! DEFINITION. Eszer commands on firmware (R427 to R430, R472 to R478), the life cycle and ownership (R431, R453 to R458) and
debug access (R432). -/

namespace Sys2Proof.Machine

/-! ## FW_UPDATE_BEGIN (R427, R466, R472) -/

/-- R472, R475: the image that BOOT names once a PENDING image has been given up, and the target of an update. -/
def Sheepdog.updateTarget (g : Sheepdog) (b : Bcb) : Nat × Nat :=
  if g.running = some 2 then (b.boot, if b.boot = 0 then 1 else 0)
  else
    let boot := if b.states.getD b.boot .empty = .pending && b.confirmed < 2 then b.confirmed else b.boot
    (boot, (([0, 1].find? (fun i => i != boot && i != b.confirmed)).getD (1 - boot)))

/-- R472: the sectors of a target, ascending: its CRC table and its region. -/
def Sheepdog.targetSectors (g : Sheepdog) (i : Nat) : List Nat :=
  (List.range 16).map (fun k => crcTable i + 4096 * k) ++ (List.range (g.regionBytes i / 4096)).map (fun k => g.regionBase i + 4096 * k)

/-- R472: the erase of the target begins; a sector being erased is finished first. -/
def Sheepdog.beginErase (g : Sheepdog) (i : Nat) : Sheepdog :=
  let l := g.targetSectors i
  match g.erasing with
  | a :: _ => { g with erasing := a :: l.filter (· != a) }
  | [] => ({ g with erasing := l }).append .eraseStart (l.headD 0)

def Sheepdog.openSession (g : Sheepdog) (bytes : Nat) (version : Word) : Sheepdog :=
  let b := (g.bcbNow).getD .none'
  let x := g.updateTarget b
  let n := if g.sessionCounter + 1 = 0 then 1 else g.sessionCounter + 1
  let g1 := g.writeBcb (fun y => { y with boot := x.1, states := setImage y.states x.2 .invalid })
  let g2 : Sheepdog := { g1 with
    factory := g1.factory.filter (· != x.2), sessionCounter := n
    session := some { number := n, imageBytes := bytes, version := version, target := x.2, accepted := 0, lastOffset := 0, lastData := [] } }
  g2.beginErase x.2

def fwUpdateBegin (holdup : Bool) (r : Req) (s0 : State) : Answer :=
  let s := s0.sampleHoldup holdup
  let bytes := r.f 0 4
  let version := r.f 4 4
  let id := (s.dog.settled.identNow).getD .none'
  let unconfirmed := ((s.dog.settled.bcbNow).getD .none').states.contains .unconfirmed
  let lower := version < s.fwVersion
  if s.dog.session.isSome || unconfirmed then refuse s stBusy
  else if id.ownerLock then refuse s stLocked
  else if s.jobActive then refuse s stJobActive
  else if !holdup then refuse s stHoldup
  else if bytes = 0 || (if s.dog.dualSlot then 48 * mib else 24 * mib) < bytes || 1 < r.f 8 1 || !(r.zero 9 16) ||
      (lower && r.f 8 1 = 0) then refuse s stBadParam
  else if version / 2 ^ 24 < s.dog.floor then refuse s stRollback
  else if lower && !(s.windowOpen) then refuse s stPresence
  else
    let t := s.modDog (fun g => { (g.openSession bytes (BitVec.ofNat 32 version)) with window := if lower then none else g.window })
    .reply t stOk (leBytes 4 t.dog.sessionCounter.toNat ++ leBytes 4 2048)

def execFwUpdateBegin (fn : Fin 9) (slot : Fin 4) (holdup : Bool) (s : State) : Result :=
  done (s.quiet.serve fn slot 0x0601 (fwUpdateBegin holdup))

/-! ## FW_UPDATE_BLOCK (R428, R470, R473) -/

/-- The open session under a number. -/
def State.session? (s : State) (n : Nat) : Option Session :=
  match s.dog.session with
  | some x => if x.number.toNat = n then some x else none
  | none => none

/-- R471: program bytes within pages of 256, each page journaled. -/
def Sheepdog.programPages (g : Sheepdog) (a : Nat) (bs : List Byte) : Sheepdog :=
  (List.range ((bs.length + 255) / 256)).foldl (fun x i =>
    (((x.append .programStart (a / 256 * 256 + 256 * i)).flashProgram (a + 256 * i) ((bs.drop (256 * i)).take 256)).append .programDone
      (a / 256 * 256 + 256 * i))) g

/-- R470: the CRC entry of a flash block, then its WRITTEN bit. -/
def Sheepdog.sealBlock (g : Sheepdog) (i b : Nat) : Sheepdog :=
  let c := crc32c (g.flashRead (g.regionBase i + 4096 * b) 4096)
  (g.programPages (crcTable i + 4 * b) (leBytes 4 c)).programPages (crcTable i + 0xC000 + b / 8) [BitVec.ofNat 8 (255 - 2 ^ (b % 8))]

/-- R473: program one accepted block. -/
def Sheepdog.takeBlock (g : Sheepdog) (x : Session) (data : List Byte) : Sheepdog :=
  let g1 := g.programPages (g.regionBase x.target + x.accepted) data
  let ends := (x.accepted + data.length) % 4096 = 0 || x.accepted + data.length = x.imageBytes
  let g2 := if ends then g1.sealBlock x.target (x.accepted / 4096) else g1
  { g2 with session := some { x with accepted := x.accepted + data.length, lastOffset := x.accepted, lastData := data } }

/-- R473: the sectors that a block reaches. -/
def Sheepdog.blockSectors (g : Sheepdog) (x : Session) : List Nat :=
  let b := x.accepted / 4096
  [g.regionBase x.target + 4096 * b, (crcTable x.target + 4 * b) / 4096 * 4096, (crcTable x.target + 0xC000 + b / 8) / 4096 * 4096]

/-- R428: every response carries NEXT_OFFSET; 0 where no such session is open. -/
def blockAnswer (s : State) (n status : Nat) : Answer := .reply s status (leBytes 4 ((s.session? n).elim 0 Session.accepted))

/-- R428, R473: a block, with HOLDUP_OK as it was at the take; one that reaches sectors not yet erased waits. -/
def takeOrWait (holdup : Bool) (r : Req) (s : State) : Answer :=
  let n := r.f 0 4
  let off := r.f 4 4
  let data := r.pay.drop 16
  match s.session? n with
  | none => blockAnswer s n stNoSession
  | some x =>
    if !(r.zero 10 16) then blockAnswer s n stBadParam
    else if off != x.accepted then
      blockAnswer s n (if x.lastData != [] && off = x.lastOffset && data = x.lastData then stOk else stSequence)
    else if data = [] || data.length != min 2048 (x.imageBytes - x.accepted) then blockAnswer s n stBadParam
    else if !holdup then blockAnswer s n stHoldup
    else if (s.dog.blockSectors x).any (fun a => s.dog.erasing.contains a) then .wait s
    else blockAnswer (s.modDog (fun g => g.takeBlock x data)) n stOk

def fwUpdateBlock (holdup : Bool) (r : Req) (s : State) : Answer := takeOrWait holdup r (s.sampleHoldup holdup)

/-- R473: a block that waits is looked at again. -/
def State.retryBlock (s : State) (i : Nat) : State :=
  match takeOrWait true { fn := slotFn i, slot := i, pay := (s.slotAt i).taken.drop 8 } s with
  | .reply t st p => t.answer i st p
  | .wait t => t

def State.retryBlocks (s : State) : State := (s.forAll (s.busySlots 0x0602 (fun _ => true)) State.retryBlock).settleRound

/-- R472, R473: a sector of the target is erased, and the blocks that wait for it go on. -/
def execFlashSectorErased (s : State) : Result := done ((s.quiet.modDog Sheepdog.sectorErased).retryBlocks)

def execFwUpdateBlock (fn : Fin 9) (slot : Fin 4) (holdup : Bool) (s : State) : Result :=
  done (s.quiet.serve fn slot 0x0602 (fwUpdateBlock holdup))

/-! ## FW_UPDATE_COMMIT, FW_CONFIRM_HEALTH, FW_UPDATE_ABORT (R429, R474, R476) -/

/-- The session closes; a sector being erased is finished. -/
def Sheepdog.closeSession (g : Sheepdog) : Sheepdog := { g with session := none, erasing := g.erasing.take 1 }

/-- R474: the one BCB write that commits. -/
def Sheepdog.commit (g : Sheepdog) (x : Session) : Sheepdog :=
  (g.writeBcb (fun b => { b with
    boot := x.target, states := setImage b.states x.target .pending, versions := b.versions.set x.target (g.imageVersion x.target)
    bytes := b.bytes.set x.target (g.imageBytes x.target) })).closeSession

/-- R429: the response, and with ACTIVATE a control-complex reset after it. -/
def fwUpdateCommit (holdup : Bool) (r : Req) (s0 : State) : Answer :=
  let s := s0.sampleHoldup holdup
  if 1 < r.f 4 1 || !(r.zero 5 8) then refuse s stBadParam
  else match s.session? (r.f 0 4) with
    | none => refuse s stNoSession
    | some x =>
      if x.accepted < x.imageBytes then refuse s stSequence
      else if s.jobActive then refuse s stJobActive
      else if !holdup then refuse s stHoldup
      else if !(s.dog.verified x.target) || s.dog.imageVersion x.target != x.version then
        refuse (s.modDog Sheepdog.closeSession) stIntegrity
      else
        let t := s.modDog (fun g => g.commit x)
        if r.f 4 1 = 1 then .wait ((t.answer r.slot stOk []).ccReset 10) else .reply t stOk []

def fwConfirmHealth (_r : Req) (s : State) : Answer :=
  if s.dog.fwUnconfirmed then .reply (s.modDog Sheepdog.confirmHealth) stOk [] else refuse s stRefused

def fwUpdateAbort (r : Req) (s : State) : Answer :=
  if !(r.zero 4 8) then refuse s stBadParam
  else match s.session? (r.f 0 4) with
    | none => refuse s stNoSession
    | some _ => .reply ((s.modDog Sheepdog.closeSession).forAll (s.busySlots 0x0602 (fun _ => true)) State.retryBlock) stOk []

def execFwUpdateCommit (fn : Fin 9) (slot : Fin 4) (holdup : Bool) (s : State) : Result :=
  done (s.quiet.serve fn slot 0x0603 (fwUpdateCommit holdup))
def execFwConfirmHealth (fn : Fin 9) (slot : Fin 4) (s : State) : Result := done (s.quiet.serve fn slot 0x0604 fwConfirmHealth)
def execFwUpdateAbort (fn : Fin 9) (slot : Fin 4) (s : State) : Result := done (s.quiet.serve fn slot 0x0605 fwUpdateAbort)

/-! ## FW_SLOT_STATUS (R430, Table 17.9) -/

def Sheepdog.slotRecord (g : Sheepdog) (b : Bcb) (i : Nat) : List Byte :=
  let st := b.states.getD i .empty
  leBytes 4 (b.versions.getD i 0).toNat ++ [BitVec.ofNat 8 st.code, BitVec.ofNat 8 (if st = .empty || st = .invalid then 0 else g.imageSettings i)] ++
    leBytes 2 0 ++ leBytes 4 (b.bytes.getD i 0) ++ leBytes 4 0

/-- Table 17.9 HEALTH_LEFT_S; the whole 300 s before the timer has started. -/
def State.healthLeft (s : State) : Nat :=
  if s.dog.fwUnconfirmed then
    (match s.dog.healthStart with
      | some t => secondsLeft s.time.clock (t + 300000000000)
      | none => 300)
  else 0

def fwSlotStatus (_r : Req) (s : State) : Answer :=
  let g := s.dog.settled
  let b := (g.bcbNow).getD .none'
  let slots := if g.dualSlot then [0, 1, 2].flatMap (g.slotRecord b)
    else g.slotRecord b b.boot ++ g.slotRecord b (1 - b.boot) ++ List.replicate 16 0
  let active := if g.dualSlot then (match g.running with
      | some i => if i < 2 then i else b.boot
      | none => b.boot) else 0
  .reply s stOk ([BitVec.ofNat 8 (natOfBool (!g.dualSlot)), BitVec.ofNat 8 active, BitVec.ofNat 8 (natOfBool g.session.isSome), 0] ++
    leBytes 4 g.flashMib ++ slots ++ leBytes 4 s.healthLeft ++ leBytes 4 0)

def execFwSlotStatus (fn : Fin 9) (slot : Fin 4) (s : State) : Result := done (s.quiet.serve fn slot 0x0606 fwSlotStatus)

/-! ## LC_STATE_GET (R431) -/

def lcStateGet (strap : Bool) (_r : Req) (s0 : State) : Answer :=
  let s := s0.sampleStrap strap
  let id := (s.dog.settled.identNow).getD .none'
  .reply s stOk ([BitVec.ofNat 8 s.dog.lcState, BitVec.ofNat 8 s.windowSeconds,
    BitVec.ofNat 8 (natOfBool strap + natOfBool s.dog.sealIntact <<< 1 + natOfBool id.ownerLock <<< 2 + s.dog.debugLevel <<< 3), 0] ++
    leBytes 4 id.transitions.toNat ++ List.replicate 8 0)

def execLcStateGet (fn : Fin 9) (slot : Fin 4) (strap : Bool) (s : State) : Result :=
  done (s.quiet.serve fn slot 0x0701 (lcStateGet strap))

/-! ## Credentials (R457, Table 19.3) -/

/-- Who signs an action. -/
inductive Authority where
  | none
  | salholt
  | owner
  | newOwner
deriving DecidableEq, Repr

/-- R458: AUTH_LEN, ACTION, ARG and the reserved bytes. -/
def authShape (action arg : Nat) (auth : List Byte) : Bool :=
  auth.length = 212 && leField auth 0 1 = action && leField auth 1 1 = arg && leField auth 3 1 = 0 && leField auth 113 3 = 0

/-- R457: the key that an authority accepts in a credential. -/
def Sheepdog.authKey (g : Sheepdog) (w : Authority) (auth : List Byte) : Option (Nat × Nat) :=
  let id := leField auth 2 1
  let key := (auth.drop 16).take 97
  match w with
  | .none => none
  | .salholt => if id < 4 && !(g.salholtRevoked.getD id true) && key.all (· == 0) then some (Config.salholtKey id) else none
  | .owner => if id = 0x10 && g.ownerHash = some (sha384 key) then keyPoint key else none
  | .newOwner => if id = 0x10 then keyPoint key else none

/-- R457: KEY_ID, KEY, COUNTER, SERIAL and SIG. -/
def Sheepdog.authOk (g : Sheepdog) (w : Authority) (auth : List Byte) : Bool :=
  match g.authKey w auth with
  | none => false
  | some k =>
    leField auth 4 4 = ((g.settled.identNow).getD .none').transitions.toNat && leField auth 8 8 = g.serial.toNat &&
      signed k (auth.take 116) (sigAt auth 116)

/-- R458: TRANSITIONS is incremented, with what else the identity block takes. -/
def Sheepdog.countTransition (g : Sheepdog) (f : Identity → Identity) : Sheepdog :=
  g.writeIdentity (fun x => { f x with transitions := x.transitions + 1 })

/-- R411: an accepted P command closes the window. -/
def Sheepdog.closeWindow (g : Sheepdog) : Sheepdog := { g with window := none }

/-! ## LC_TRANSITION (R431, R455, R456, R458) -/

/-- Table 19.2: the authority of a transition and whether the strap is needed; none for a pair not listed. -/
def lcRule (src dst : Nat) : Option (Authority × Bool) :=
  match src, dst with
  | 0, 1 => some (.salholt, false)
  | 1, 2 => some (.newOwner, false)
  | 2, 3 => some (.owner, false)
  | 3, 2 => some (.owner, true)
  | 2, 1 => some (.owner, true)
  | 3, 1 => some (.owner, true)
  | 2, 4 => some (.owner, true)
  | 3, 4 => some (.owner, true)
  | 1, 4 => some (.salholt, true)
  | 4, 1 => some (.salholt, true)
  | 2, 5 => some (.owner, true)
  | 3, 5 => some (.owner, true)
  | 1, 5 => some (.salholt, true)
  | 4, 5 => some (.salholt, true)
  | _, _ => none

def Sheepdog.revokeOwners (g : Sheepdog) : Sheepdog := { g with ownerSlots := g.ownerSlots.map (fun o => { o with revoked := true }) }

/-- The waiting writes that carry settings. -/
def OwnWrite.ofSettings : OwnWrite → Bool
  | .settings _ | .settingsCopy _ _ => true
  | _ => false

/-- R456: both settings copies take the default settings; none that waits for HOLDUP_OK brings the former back. -/
def Sheepdog.defaultSettings (g : Sheepdog) : Sheepdog :=
  let h := { ((g.rewritten 0x400000).rewritten 0x800000) with ownWrites := g.ownWrites.filter (fun w => !w.ofSettings) }
  { h with settings := g.settings.map (fun x => (Settings.default x.formatVersion).sealed) }

/-- R471: erase whole sectors, each journaled. -/
def Sheepdog.eraseRange (g : Sheepdog) (base bytes : Nat) : Sheepdog :=
  (List.range (bytes / 4096)).foldl (fun x k => x.eraseSector (base + 4096 * k)) g

/-- Table 19.2, the last row: what a decommissioned device erases. -/
def Sheepdog.eraseAll (g : Sheepdog) : Sheepdog :=
  let images := if g.dualSlot then [0, 1, 2] else [0, 1]
  let h := images.foldl (fun x i => x.eraseRange (x.regionBase i) (x.regionBytes i)) ((g.eraseRange 0x2000 0x2000).eraseRange 0x400000 0x800000)
  { h with identity := h.identity.map (fun _ => Identity.none'), settings := h.settings.map (fun x => { x with ok := false })
           factory := [], fuseDecommissioned := true, erasing := [], ownWrites := [] }

/-- Table 19.2: the further actions of a transition. -/
def Sheepdog.transitionActions (g : Sheepdog) (src dst key : Nat) : Sheepdog :=
  let count := g.countTransition
  let leave (f : Identity → Identity) : Sheepdog := (count (fun x => { f x with locked := false, ownerLock := false })).defaultSettings.revokeOwners
  match src, dst with
    | 0, 1 => { count id with fuseProvisioned := true }
    | 1, 2 => { count id with ownerSlots := g.ownerSlots ++ [{ hash := key, revoked := false }] }
    | 2, 3 => count (fun x => { x with locked := true })
    | 3, 2 => count (fun x => { x with locked := false })
    | 2, 1 => leave id
    | 3, 1 => leave id
    | 2, 4 => leave (fun x => { x with ret := true })
    | 3, 4 => leave (fun x => { x with ret := true })
    | 1, 4 => count (fun x => { x with ret := true })
    | 4, 1 => count (fun x => { x with ret := false })
    | _, _ => (leave id).eraseAll

/-- R453: the life-cycle state follows from the fuses and the identity block. -/
def Sheepdog.withLc (g : Sheepdog) : Sheepdog := { g with lcState := g.deriveLc }

def Sheepdog.transition (g : Sheepdog) (src dst key : Nat) : Sheepdog := (g.transitionActions src dst key).withLc

/-- R411, R414: what P commands check before their own rules: the window, then an open session, then the seal loop. -/
def State.presenceFails (s : State) (session : Bool) : Option Nat :=
  if !(s.windowOpen) then some stPresence
  else if session && s.dog.session.isSome then some stBusy
  else if !(s.dog.sealIntact) then some stPresence
  else none

/-- Table 17.14: a BASE_REGISTER in another slot ends NOT_READY. -/
def State.endRegistration (s : State) : State := s.forAll (s.busySlots 0x0305 (fun _ => true)) (fun t i => t.answer i stNotReady [])

def lcTransition (strap : Bool) (r : Req) (s0 : State) : Answer :=
  let s := s0.sampleStrap strap
  let dst := r.f 0 1
  let src := s.dog.lcState
  let auth := r.pay.drop 8
  let rule := lcRule src dst
  match s.presenceFails true with
  | some st => refuse s st
  | none =>
    if (rule.elim false Prod.snd) && !strap then refuse s stPresence
    else match rule with
      | none => refuse s stRefused
      | some (who, _) =>
        if s.jobActive then refuse s stJobActive
        else if r.f 1 1 != 0 || !(r.zero 4 8) || !(authShape 1 dst auth) then refuse s stBadParam
        else if !(s.dog.authOk who auth) then refuse s stIntegrity
        else if who = .newOwner && 8 ≤ s.dog.ownerSlots.length then refuse s stNoResource
        else
          let t := s.modDog (fun g => (g.transition src dst (sha384 ((auth.drop 16).take 97))).closeWindow)
          .wait (((t.answer r.slot stOk []).endRegistration).warmReset 7)

def execLcTransition (fn : Fin 9) (slot : Fin 4) (strap : Bool) (s : State) : Result :=
  done (s.quiet.serve fn slot 0x0702 (lcTransition strap))

/-! ## OWNER_LOCK and OWNER_UNLOCK (R458) -/

def ownerLockTo (lock strap : Bool) (r : Req) (s0 : State) : Answer :=
  let s := s0.sampleStrap strap
  let auth := r.pay.drop 8
  match s.presenceFails true with
  | some st => refuse s st
  | none =>
    if !lock && !strap then refuse s stPresence
    else if s.dog.lcState != lcOwned && s.dog.lcState != lcLocked then refuse s stRefused
    else if !(r.zero 0 2) || !(r.zero 4 8) || !(authShape (if lock then 2 else 3) 0 auth) then refuse s stBadParam
    else if !(s.dog.authOk .owner auth) then refuse s stIntegrity
    else .reply (s.modDog (fun g => (g.countTransition (fun x => { x with ownerLock := lock })).closeWindow)) stOk []

def execOwnerLock (fn : Fin 9) (slot : Fin 4) (strap : Bool) (s : State) : Result :=
  done (s.quiet.serve fn slot 0x0703 (ownerLockTo true strap))
def execOwnerUnlock (fn : Fin 9) (slot : Fin 4) (strap : Bool) (s : State) : Result :=
  done (s.quiet.serve fn slot 0x0704 (ownerLockTo false strap))

/-! ## DEBUG_UNLOCK (R431, R432, R458) -/

/-- Table 19.1: the debug credential of a state; none where it is refused. -/
def debugAuthority (lc : Nat) : Option Authority :=
  match lc with
  | 0 => some .none
  | 1 => some .salholt
  | 2 => some .owner
  | 4 => some .salholt
  | _ => none

def debugUnlock (strap : Bool) (r : Req) (s0 : State) : Answer :=
  let s := s0.sampleStrap strap
  let level := r.f 0 1
  let auth := r.pay.drop 8
  let unlock (g : Sheepdog) : Sheepdog := { g.countTransition id with debugLevel := level }
  if level = 0 then (if r.f 1 1 != 0 || !(r.zero 4 8) then refuse s stBadParam else .reply (s.modDog unlock) stOk [])
  else match s.presenceFails false with
    | some st => refuse s st
    | none =>
      if level = 2 && !strap then refuse s stPresence
      else match debugAuthority s.dog.lcState with
        | none => refuse s stRefused
        | some who =>
          if 2 < level || r.f 1 1 != 0 || !(r.zero 4 8) || (who != .none && !(authShape 4 level auth)) then refuse s stBadParam
          else if who != .none && !(s.dog.authOk who auth) then refuse s stIntegrity
          else .reply (s.modDog (fun g => (unlock g).closeWindow)) stOk []

def execDebugUnlock (fn : Fin 9) (slot : Fin 4) (strap : Bool) (s : State) : Result :=
  done (s.quiet.serve fn slot 0x0A01 (debugUnlock strap))

/-! ## DEBUG_REG_READ and DEBUG_REG_WRITE (R67, R432) -/

/-- R432: a word of a control address that is not published, or of the Fold-local region: a free value; zero, with
PROV_HIDDEN set, for a half whose task is provisional. -/
def State.readHidden (s : State) (a : Nat) : Nat × State :=
  let plain := s.draw
  match Config.foldLocal a with
  | none => (plain.1.toNat % 2 ^ 32, plain.2)
  | some (k, second) =>
    let f := s.fold k
    if (if second then f.half1 else f.half0).prov != [] then (0, s.modFold k (fun x => { x with provHidden := true }))
    else (plain.1.toNat % 2 ^ 32, plain.2)

/-- R432: words from ascending addresses. -/
def State.readWords (s : State) : Nat → Nat → List Byte × State
  | _, 0 => ([], s)
  | a, n + 1 =>
    let x := (match published a with
      | some p => s.readPublished p
      | none => s.readHidden a)
    let rest := x.2.readWords (a + 4) n
    (leBytes 4 x.1 ++ rest.1, rest.2)

def debugRegRead (r : Req) (s : State) : Answer :=
  let a := r.f 0 8
  let n := r.f 8 2
  if a % 4 != 0 || n = 0 || 1000 < n || !(r.zero 10 16) then refuse s stBadParam
  else if s.dog.debugLevel = 0 && (List.range n).any (fun i => (published (a + 4 * i)).isNone) then refuse s stNotPermitted
  else
    let x := s.readWords a n
    .reply x.2 stOk x.1

/-- R432: the RW, RWS and W1C fields of the published registers; every other bit is read only. -/
def State.writePublished (s : State) (v : Nat) : Published → State
  | .foldStatus p => if v.testBit 15 then s.modFold p (fun x => { x with provHidden := false }) else s
  | .aging => if 2 ≤ v % 256 && v % 256 ≤ 64 then s.modNp (fun n => { n with thresh := BitVec.ofNat 8 v }) else s
  | .stack k => if bitsOf v 23 16 = 0 then s.modStack k (fun x => { x with maxTemp := 0 }) else s
  | _ => s

/-- R432: what a write to an address that is not published does is not stated: nothing that the model holds (log entry 67). -/
def debugRegWrite (r : Req) (s : State) : Answer :=
  let a := r.f 0 8
  if a % 4 != 0 || !(r.zero 12 16) then refuse s stBadParam
  else match published a with
    | some (.topo _) => refuse s stNotPermitted
    | some p => .reply (s.writePublished (r.f 8 4) p) stOk []
    | none => if s.dog.debugLevel < 2 then refuse s stNotPermitted else .reply s stOk []

def execDebugRegRead (fn : Fin 9) (slot : Fin 4) (s : State) : Result := done (s.quiet.serve fn slot 0x0A02 debugRegRead)
def execDebugRegWrite (fn : Fin 9) (slot : Fin 4) (s : State) : Result := done (s.quiet.serve fn slot 0x0A03 debugRegWrite)

end Sys2Proof.Machine
end

