-- ==== Sys2Proof/Machine/EszerPen.lean ====
section
/-! DEFINITION. Eszer commands on devices and pens (R415 to R420, R434, R435): what is reported, pens, tensors, views, recipes,
itineraries, jobs and checkpoint drains. -/

namespace Sys2Proof.Machine

/-! ## Device (R415 to R417) -/

def devIdentify (_r : Req) (s : State) : Answer :=
  .reply s stOk (leBytes 2 0x1F3C ++ leBytes 2 0x0384 ++ [0xB0, 2, BitVec.ofNat 8 s.eszerMinor, 0] ++ leBytes 4 s.fwVersion ++
    leBytes 4 0 ++ leBytes 8 s.dog.serial.toNat ++ [BitVec.ofNat 8 s.dog.lcState] ++ List.replicate 7 0)

/-- Table 17.4: one PEN_STATE byte. -/
def Pen.stateByte (p : Pen) : Byte := BitVec.ofNat 8 (p.state.code + natOfBool p.grazing <<< 3 + p.vf <<< 4)

/-- Table 17.4: the recovery record. -/
def State.recoveryRecord (s : State) (p : Pen) : List Byte :=
  match p.placement with
  | none => [0, 0, 0xFF] ++ List.replicate 21 0
  | some x =>
    if x.lextent = 0 then [0, 0, 0xFF] ++ List.replicate 21 0
    else
      let rep := s.report x.jobKey
      let subs := (rep.elim [] RecoveryReport.subs).take 64
      leBytes 2 p.jobKey.toNat ++ [BitVec.ofNat 8 (rep.elim 0 RecoveryReport.phase), BitVec.ofNat 8 p.jobStatus] ++
        leBytes 4 (s.generation x.jobKey).toNat ++ leBytes 8 x.checkpointId.toNat ++ [BitVec.ofNat 8 subs.length] ++
        List.replicate 7 0 ++ subs.flatMap (fun y => leBytes 2 y.1.toNat ++ leBytes 2 y.2.toNat)

def devStatus (r : Req) (s : State) : Answer :=
  withPen r s (fun p =>
    if 1 < r.f 1 1 || !(r.zero 2 8) then refuse s stBadParam
    else
      let bytes := (List.range 8).map (fun k => if r.fn = 0 || k = p then (s.pen k).stateByte else 0)
      .reply s stOk ([BitVec.ofNat 8 s.boot.stage, BitVec.ofNat 8 (bitsOf (s.stageReg r.fn) 20 16), 0, 0] ++ bytes ++
        leBytes 4 s.boot.heartbeat.toNat ++ leBytes 8 s.time.now.toNat ++ leBytes 2 (if s.bootHandler then 0 else s.time.epoch.toNat) ++
        [BitVec.ofNat 8 (s.time.role + natOfBool s.time.synced <<< 2)] ++ List.replicate 5 0 ++
        (if r.f 1 1 = 1 then s.recoveryRecord (s.pen p) else [])))

/-- Table 17.5: FCLK_POINT, HOST_LINK and the capacities of the stage. -/
def FclkPoint.code : FclkPoint → Nat
  | .nominal => 0
  | .boost => 1
  | .efficiency => 2
  | .reduced => 3

def rateCode : HostRate → Nat
  | .g64 => 0
  | .g32 => 1
  | .g16 => 2
  | .lower => 3

def widthCode : HostWidth → Nat
  | .x16 => 0
  | .x8 => 1
  | .x4 => 2
  | .other => 3

def devCaps (_r : Req) (s : State) : Answer :=
  let folds (lo n : Nat) : Nat := if 3 ≤ s.boot.stage then s.enabledFolds lo n else 0
  let bitsSet (l : List Bool) : Nat := (l.zipIdx.map (fun x => natOfBool x.1 <<< x.2)).sum
  .reply s stOk ([BitVec.ofNat 8 (folds 0 128), BitVec.ofNat 8 s.health.power.point.code] ++ leBytes 2 s.health.power.point.mhz ++
    (List.range 4).map (fun d => BitVec.ofNat 8 (folds (32 * d) 32)) ++
    leBytes 8 (48 * 2 ^ 30 * (s.np.stackList.filter Stack.trained).length) ++ leBytes 8 s.drover.farCapacity ++
    [BitVec.ofNat 8 (bitsSet (s.talsen.map (fun t => t.state == .up))),
      BitVec.ofNat 8 (rateCode s.boot.linkRate + widthCode s.boot.linkWidth <<< 2 + natOfBool s.boot.linkFlit <<< 4),
      BitVec.ofNat 8 (if 4 ≤ s.boot.stage then bitsSet (s.video.cores.map (fun c => !c.inReset)) else 0), 0] ++
    leBytes 4 s.health.power.limit ++ leBytes 4 (if 4 ≤ s.boot.stage then 1048576 else 0) ++
    leBytes 4 (if 4 ≤ s.boot.stage then 1048576 else 0) ++ leBytes 8 0)

def execDevIdentify (fn : Fin 9) (slot : Fin 4) (s : State) : Result := done (s.quiet.serve fn slot 0x0101 devIdentify)
def execDevStatus (fn : Fin 9) (slot : Fin 4) (s : State) : Result := done (s.quiet.serve fn slot 0x0102 devStatus)
def execDevCaps (fn : Fin 9) (slot : Fin 4) (s : State) : Result := done (s.quiet.serve fn slot 0x0103 devCaps)

/-! ## Pens (R346, R348, R349, R352, R360, R418) -/

def penCreate (r : Req) (s : State) : Answer :=
  withPen r s (fun p =>
    if !(r.zero 1 8) then refuse s stBadParam
    else match (s.pen p).state with
      | .empty => .reply (s.modPen p (fun _ => { Pen.vacant with state := .ready })) stOk []
      | .wiping => refuse s stBusy
      | .ready | .running | .quiescing | .quiesced | .faulted => refuse s stRefused)

/-- R360: the abort handling, then the wipe. -/
def State.destroyPen (s : State) (p : Nat) : State :=
  let s1 := (s.forAll (s.comp.ops.filter (fun o => o.pen = p)) State.removeOp).modPen p (fun x => { x with state := .wiping })
  (((s1.droverAbort p).abandonEncodes p).dropRops p).freePenQueues p

def penDestroy (r : Req) (s : State) : Answer :=
  withPen r s (fun p =>
    if !(r.zero 1 8) then refuse s stBadParam
    else match (s.pen p).state with
      | .ready | .faulted => .reply (s.destroyPen p) stOk []
      | .running | .quiescing | .quiesced => refuse s stJobActive
      | .empty | .wiping => refuse s stRefused)

def penSetQuota (r : Req) (s : State) : Answer :=
  withLivePen r s (fun p =>
    let near := r.f 8 8
    let far := r.f 16 8
    if !(r.zero 1 8) || near % pageBytes != 0 || far % 4096 != 0 then refuse s stBadParam
    else if !(s.quotaFits p near far) || near < (s.pen p).fixedUse || far < (s.pen p).farUse then refuse s stNoResource
    else .reply ((s.modPen p (fun x => { x with nearMin := near, farMax := far })).retryAllocs) stOk [])

def penSetPriority (r : Req) (s : State) : Answer :=
  withPen r s (fun p =>
    if 1 < r.f 1 1 || !(r.zero 2 8) then refuse s stBadParam
    else if (s.pen p).state != .ready then refuse s stRefused
    else .reply (s.modPen p (fun x => { x with grazing := r.f 1 1 = 1 })) stOk [])

def penBindVf (r : Req) (s : State) : Answer :=
  withPen r s (fun p =>
    let v := r.f 1 1
    if 8 < v || !(r.zero 2 8) then refuse s stBadParam
    else if (s.pen p).state != .ready || (v != 0 && (List.range 8).any (fun k => k != p && (s.pen k).vf = v && (s.pen k).state != .empty)) then
      refuse s stRefused
    else .reply (s.modPen p (fun x => { x with vf := v })) stOk [])

def execPenCreate (fn : Fin 9) (slot : Fin 4) (s : State) : Result := done (s.quiet.serve fn slot 0x0201 penCreate)
def execPenDestroy (fn : Fin 9) (slot : Fin 4) (s : State) : Result := done (s.quiet.serve fn slot 0x0202 penDestroy)
def execPenSetQuota (fn : Fin 9) (slot : Fin 4) (s : State) : Result := done (s.quiet.serve fn slot 0x0203 penSetQuota)
def execPenSetPriority (fn : Fin 9) (slot : Fin 4) (s : State) : Result := done (s.quiet.serve fn slot 0x0204 penSetPriority)
def execPenBindVf (fn : Fin 9) (slot : Fin 4) (s : State) : Result := done (s.quiet.serve fn slot 0x0205 penBindVf)

/-! ## TENSOR_REGISTER: tensors (R187, R194, R198, R216 to R218, R220, R223, R419) -/

/-- Table 9.3 with Table 9.4 and the shard record, as a tensor that has just been registered, at no address yet. -/
def parseTensor (e sh : List Byte) : Tensor :=
  let shape := leField e 5 1
  let words (l : List Byte) (off n : Nat) : List Nat := (List.range n).map (fun k => leField l (off + 4 * k) 4)
  { handle := BitVec.ofNat 32 (leField e 0 4), fmt := leField e 4 1 % 16, mx := (leField e 4 1).testBit 4, comp := leField e 4 1 / 32
    rank := shape % 8, interleaved := shape.testBit 3, hostLoaded := shape.testBit 5, extents := words e 8 6, strides := words e 32 5
    base := BitVec.ofNat 32 (leField e 52 4), pinned := leField e 7 1 = 1, recipeIndex := 0, recipe := []
    shard := if shape.testBit 4 then some (words sh 0 6, words sh 24 6) else none
    res := .none, isBase := false, lost := false, lastUse := 0, penAddr := 0, accounted := 0, nearTable := [], farTable := [], far := none
    fetch := none, wb := none, wbDue := none, encodeFrom := none, waitUntil := none, run := none, held := false, released := false, allocWait := false
    room := [], farReserved := 0, runBy := 0, dead := false }

/-- Insert a dimension by its stride. -/
def insertDim (x : Nat × Nat) (l : List (Nat × Nat)) : List (Nat × Nat) :=
  l.takeWhile (fun y => y.1 ≤ x.1) ++ x :: l.dropWhile (fun y => y.1 ≤ x.1)

/-- Strides that nest, each beyond the span of those below: (stride, extent), ascending, over a span. -/
def nested : Nat → List (Nat × Nat) → Bool
  | _, [] => true
  | span, (st, n) :: r => span < st && nested (span + st * (n - 1)) r

/-- R217: no two elements share storage. -/
def Tensor.separate (t : Tensor) : Bool :=
  let dims := ((1 :: t.strides).zip t.extents).filter (fun x => 1 < x.2)
  nested 0 (dims.foldl (fun l x => insertDim x l) []) || decide ((List.range t.elements).map t.storageIndex).Nodup

/-- R194, R247: a registered base of the format and extents of a DLT tensor; a base is registered once its BASE_REGISTER has
completed. -/
def State.baseFits (s : State) (t : Tensor) : Bool :=
  match s.base? t.base.toNat with
  | some b => b.res != .none && b.fmt = t.fmt && b.extents = t.extents
  | none => false

/-- The checks of R187, R194, R217 and R218 and the reserved fields of the entry.  An MX bit that R23 does not define is no
error here: it is one of the operator that references the tensor. -/
def State.entryOk (s : State) (pen : Nat) (e sh : List Byte) (t : Tensor) : Bool :=
  t.handle.toNat / 2 ^ 29 = pen && t.handle.toNat % 2 ^ 29 < 1048576 && t.fmt < 0xE && compFormatOk t.comp t.fmt &&
    !(t.comp != 0 && t.mx) && !(t.interleaved && (t.comp = 3 || t.comp = 4)) && 1 ≤ t.rank && t.rank ≤ 6 && leField e 5 1 < 64 &&
    leField e 6 1 = 0 && leField e 7 1 ≤ 1 && t.extents.all (fun n => 1 ≤ n && n < 2 ^ 31) && (t.extents.drop t.rank).all (· = 1) &&
    prodOf (t.extents.take 5) < 2 ^ 32 && leField e 56 8 = 0 && (if t.comp = 2 then s.baseFits t else t.base = 0) &&
    (if t.comp != 0 || t.block != 0 then t.dense else t.separate) &&
    (match t.shard with
      | some (org, log) => (sh.drop 48).all (· == 0) && (List.range 6).all (fun k => org.getD k 0 + extAt t.extents k ≤ log.getD k 0)
      | none => true)

/-- R198: the source of a DLT encode: an uncompressed tensor of the pen with the format and extents of the base. -/
def State.encodeSourceOk (s : State) (pen h : Nat) (t : Tensor) : Bool :=
  match s.tensor? h with
  | some x => h / 2 ^ 29 = pen && !x.released && x.comp = 0 && !x.mx && x.fmt = t.fmt && x.extents = t.extents
  | none => false

/-- R220, R221: the address of a new tensor, and with it the page of small tensors and the next address of the pen: whole
pages, or lots of a page of small tensors (log entry 11). -/
def Pen.place (p : Pen) (t : Tensor) : Nat × Option (Nat × Nat) × Nat :=
  let lots := t.rangeBytes / 65536
  let fresh := (p.nextAddr, some (p.nextAddr, lots), p.nextAddr + roundUp (65536 * lots) pageBytes)
  if t.small then
    match p.smallPage with
    | some (page, lot) => if lot + lots ≤ 32 then (page + 65536 * lot, some (page, lot + lots), p.nextAddr) else fresh
    | none => fresh
  else (p.nextAddr, p.smallPage, p.nextAddr + t.rangeBytes)

/-- A tensor enters its pen: `x` is its place, as `Pen.place` has it. -/
def State.addTensor (s : State) (p : Nat) (x : Nat × Option (Nat × Nat) × Nat) (t : Tensor) : State :=
  s.modPen p (fun q => { q with smallPage := x.2.1, nextAddr := x.2.2, tensors := q.tensors ++ [t] })

def State.registerTensor (s : State) (r : Req) (p : Nat) : Answer :=
  let e := (r.pay.drop 16).take 64
  let flags := r.f 2 2
  let sh := if flags.testBit 1 then (r.pay.drop 80).take 64 else []
  let t0 := parseTensor e sh
  let source := r.f 8 4
  let encode := flags.testBit 2
  if 8 ≤ flags || r.f 4 4 != 0 || (!encode && source != 0) || t0.shard.isSome != flags.testBit 1 || t0.hostLoaded != flags.testBit 0 ||
      !(s.entryOk p e sh t0) || (encode && (t0.comp != 2 || t0.hostLoaded || !(s.encodeSourceOk p source t0))) then refuse s stBadParam
  else if (s.tensor? t0.handle.toNat).isSome then refuse s stRefused
  else
    let x := (s.pen p).place t0
    let t : Tensor := { t0.freshTables with
      penAddr := x.1, accounted := t0.accountedSize, encodeFrom := if encode then some (BitVec.ofNat 32 source) else none
      lastUse := BitVec.ofNat 32 (s.time.now.toNat / 1024) }
    let u := s.addTensor p x t
    if (s.pen p).nearMin < (u.pen p).fixedUse || 2 ^ 48 ≤ x.2.2 then refuse s stNoResource
    else
      let payload := leBytes 8 t.penAddr ++ leBytes 8 t.accounted
      if t.hostLoaded then
        let v := u.allocate p t false s.time.clock
        if v.2 then .reply (v.1.becomeNear p t.handle.toNat .near) stOk payload else refuse s stNoResource
      else .reply u stOk payload

/-! ## TENSOR_REGISTER: views and recipes (R143, R219, R231) -/

def State.registerView (s : State) (r : Req) (p : Nat) : Answer :=
  let e := (r.pay.drop 16).take 64
  let words (off n : Nat) : List Nat := (List.range n).map (fun k => leField e (off + 4 * k) 4)
  let v : View := { number := r.f 4 4, extents := words 0 6, strides := words 24 5 }
  if r.f 2 2 != 0 || r.f 8 4 != 0 || v.number = 0 || 65535 < v.number || (e.drop 44).any (· != 0) ||
      v.extents.any (fun n => n = 0 || 2 ^ 31 ≤ n) then refuse s stBadParam
  else
    let u := s.modPen p (fun x => { x with views := x.views.filter (fun y => y.number != v.number) ++ [v] })
    if (s.pen p).nearMin < (u.pen p).fixedUse then refuse s stNoResource else .reply u stOk []

/-- R143, R184: whether a descriptor may serve in a recipe. -/
def recipeOp (d : List Byte) : Bool :=
  match dOpcode d with
  | 0x10 | 0x11 => !(epiAcc d)
  | 0x20 => !(atnAppend d)
  | 0x30 => !(refPresent d 5)
  | 0x32 => dVariant d != 0x25
  | 0x12 | 0x31 | 0x33 | 0x34 | 0x36 | 0x37 | 0x40 => true
  | _ => false

/-- R231: the output references of a descriptor that name a handle. -/
def outRefsTo (d : List Byte) (h : Nat) : List Nat :=
  ((refRoles d).zipIdx.filter (fun x => isOut x.1 && refPresent d x.2 && refHandle d x.2 = h)).map Prod.snd

/-- R231: a tensor that a recipe may read or use as scratch has no recipe of its own. -/
def State.plainTensor (s : State) (pen h : Nat) : Bool :=
  match s.tensor? h with
  | some t => h / 2 ^ 29 = pen && !t.released && t.recipe = []
  | none => false

/-- R231. -/
def State.recipeOk (s : State) (pen h : Nat) (ds : List (List Byte)) : Bool :=
  let last := ds.getLast?.getD []
  ds.all (fun d => recipeOp d && dPen d = pen && (namedHandles d).all (fun x => x / 2 ^ 29 = pen && s.live? x)) &&
    (outRefsTo last h).length = 1 && (outRefsTo last h).all (fun n => refElem last n = 0 && refView last n = 0) &&
    (s.scratchHandles ds).all (fun x => x != h && s.plainTensor pen x && (match s.tensor? x with
      | some t => !t.pinned
      | none => false)) &&
    (ds.flatMap s.inputHandles).all (fun x => x != h && s.plainTensor pen x) &&
    !((s.pen pen).tensors.any (fun t => t.handle.toNat != h && !t.released &&
      ((s.checkpoints t.recipe).contains h || (s.scratchHandles t.recipe).contains h)))

def State.registerRecipe (s : State) (r : Req) (p : Nat) : Answer :=
  let n := r.f 4 4
  let h := r.f 8 4
  let ds := (List.range n).map (fun k => (r.pay.drop (16 + 256 * k)).take 256)
  match s.tensor? h with
  | none => refuse s stNotFound
  | some t =>
    if h / 2 ^ 29 != p || t.released then refuse s stNotFound
    else if r.f 2 2 != 0 || n = 0 || 8 < n || !(s.recipeOk p h ds) then refuse s stBadParam
    else if t.run.isSome then refuse s stRefused
    else
      let k := (s.pen p).nextRecipe
      let u := (s.modTensor h (fun x => { x with recipe := ds, recipeIndex := k })).modPen p (fun x => { x with nextRecipe := k + 1 })
      if (s.pen p).nearMin < (u.pen p).fixedUse || 2 ^ 24 ≤ k then refuse s stNoResource else .reply u stOk (leBytes 4 k ++ leBytes 4 0)

def tensorRegister (r : Req) (s : State) : Answer :=
  withLivePen r s (fun p =>
    if r.f 12 4 != 0 then refuse s stBadParam
    else match r.f 1 1 with
      | 0 => s.registerTensor r p
      | 1 => s.registerView r p
      | 2 => s.registerRecipe r p
      | _ => refuse s stBadParam)

def execTensorRegister (fn : Fin 9) (slot : Fin 4) (s : State) : Result := done (s.quiet.serve fn slot 0x0301 tensorRegister)

/-! ## TENSOR_RELEASE (R251, R420) -/

/-- R420: what keeps a tensor from being released. -/
def State.bound (s : State) (pen : Nat) (t : Tensor) : Bool :=
  let p := s.pen pen
  let h := t.handle.toNat
  let needs (i : Option Itinerary) : Bool := (match i with
    | some it => it.points.any (fun q => q.needs.any (fun x => x.1 = t.handle))
    | none => false)
  t.held || needs p.itinerary || needs p.pendingItin ||
    p.tensors.any (fun x => x.handle != t.handle && !x.released && ((s.checkpoints x.recipe).contains h || (s.scratchHandles x.recipe).contains h)) ||
    s.qe.queues.any (fun q => q.pen = pen && !q.cplHost && t.penAddr ≤ q.ringAddr && q.ringAddr < t.penAddr + t.roomBytes)

/-- R251: the moves of a tensor are cancelled. -/
def State.cancelMoves (s : State) (pen h : Nat) : State :=
  (((s.abandonRun h).endFetch pen h).modPen pen (fun p => { p with
    tensors := p.tensors.map (fun t => if t.encodeFrom = some (BitVec.ofNat 32 h) then { t with encodeFrom := none } else t) })).modTensor h
      (fun t => { t with wb := none, wbDue := none, encodeFrom := none, waitUntil := none, allocWait := false, released := true })

def tensorRelease (r : Req) (s : State) : Answer :=
  withLivePen r s (fun p =>
    let h := r.f 4 4
    if !(r.zero 1 4) then refuse s stBadParam
    else match s.tensor? h with
      | none => refuse s stNotFound
      | some t =>
        if h / 2 ^ 29 != p || t.released then refuse s stNotFound
        else if s.bound p t then refuse s stRefused
        else .reply ((s.cancelMoves p h).sweepReleased.retryAllocs) stOk [])

def execTensorRelease (fn : Fin 9) (slot : Fin 4) (s : State) : Result := done (s.quiet.serve fn slot 0x0302 tensorRelease)

/-! ## POOL_QUERY (R420) -/

def poolQuery (r : Req) (s : State) : Answer :=
  withPen r s (fun p =>
    if !(r.zero 1 8) then refuse s stBadParam
    else
      let x := s.pen p
      let farUsed := (s.pens.map Pen.farUse).sum + s.farShared
      .reply s stOk ([poolBytes, s.poolFree, s.nearShared, s.drover.farCapacity, s.drover.farCapacity - farUsed, s.farShared,
        x.nearMin, x.farMax, x.nearUse, x.farUse].flatMap (leBytes 8)))

def execPoolQuery (fn : Fin 9) (slot : Fin 4) (s : State) : Result := done (s.quiet.serve fn slot 0x0304 poolQuery)

end Sys2Proof.Machine
end

