-- ==== Sys2Proof/Machine/EszerJob.lean ====
section
/-! DEFINITION. Eszer commands on jobs and queues (R299, R322, R355, R356, R358, R424, R434, R435) and on video streams (R367 to
R369, R426). -/

namespace Sys2Proof.Machine

/-! ## JOB_SUBMIT (R322, R434) -/

/-- Table 13.1. -/
def parsePlacement (b : List Byte) : Placement :=
  { expertGroup := leField b 1 1, cutMap := BitVec.ofNat 16 (leField b 2 2), lextent := BitVec.ofNat 16 (leField b 4 2)
    lcoord := BitVec.ofNat 16 (leField b 6 2), jobKey := BitVec.ofNat 16 (leField b 8 2), watchdogMs := leField b 12 4
    generation := BitVec.ofNat 32 (leField b 16 4), spare := BitVec.ofNat 64 (leField b 24 8), checkpointId := BitVec.ofNat 64 (leField b 32 8) }

/-- Table 13.2: the axes of the data, pipeline, tensor and sequence cuts; 4 for none. -/
def Placement.cuts (x : Placement) : List Nat := (List.range 4).map (fun k => bitsOf x.cutMap.toNat (3 * k + 2) (3 * k))

/-- Spare positions of an axis. -/
def Placement.spares (x : Placement) (a : Nat) : Nat := ((List.range 16).filter (fun i => x.spare.toNat.testBit (16 * a + i))).length

/-- Table 13.1, R322. -/
def State.placementOk (s : State) (b : List Byte) (x : Placement) : Bool :=
  let used := x.cuts.filter (· < 4)
  let na (a : Nat) : Nat := extentOf x.lextent a
  leField b 0 1 = 1 && x.cutMap.toNat < 2 ^ 12 && leField b 10 2 = 0 && leField b 20 4 = 0 && (b.drop 40).all (· == 0) &&
    x.cuts.all (· ≤ 4) && decide used.Nodup && (x.watchdogMs = 0 || (100 ≤ x.watchdogMs && x.watchdogMs ≤ 600000)) &&
    (List.range 4).all (fun a => (used.contains a || na a = 1) && axisOf x.lcoord a < na a && na a + x.spares a ≤ extentOf s.fab.extent a) &&
    (x.expertGroup = 0 || (x.cuts.getD 0 4 < 4 && x.expertGroup ≤ 16 && na (x.cuts.getD 0 4) % x.expertGroup = 0))

def jobSubmit (r : Req) (s : State) : Answer :=
  let p := r.f 0 1 % 8
  if s.dog.session.isSome then refuse s stBusy
  else if r.fn != 0 && s.boundPen r.fn != some p then refuse s stNotPermitted
  else
    let b := (r.pay.drop 8).take 64
    let x := parsePlacement b
    if (s.pen p).state != .ready then refuse s stRefused
    else if 8 ≤ r.f 0 1 || !(r.zero 1 8) || !(s.placementOk b x) then refuse s stBadParam
    else if (s.pen p).grazing && x.lextent != 0 then refuse s stBadParam
    else if s.boot.stage = 4 && x.lextent != 0 then refuse s stNotReady
    else if x.generation != s.generation x.jobKey then refuse s stRefused
    else
      let t := s.modPen p (fun y => { y with state := .running, jobKey := x.jobKey, placement := some x, jobStatus := 0, drained := false })
      .reply (if x.lextent = 0 then t else t.join p) stOk []

def execJobSubmit (fn : Fin 9) (slot : Fin 4) (s : State) : Result := done (s.quiet.serve fn slot 0x0901 jobSubmit)

/-! ## JOB_QUIESCE, JOB_RESUME, JOB_ABORT (R355, R356, R358) -/

def jobQuiesce (r : Req) (s : State) : Answer :=
  withPen r s (fun p =>
    if !(r.zero 1 8) then refuse s stBadParam
    else if (s.pen p).state != .running then refuse s stRefused
    else .wait ((s.modPen p (fun x => { x with state := .quiescing })).drainPen p))

/-- R356, R435: the pen runs again, and what a drain held is free. -/
def jobResume (r : Req) (s : State) : Answer :=
  withPen r s (fun p =>
    if !(r.zero 1 8) then refuse s stBadParam
    else if (s.pen p).state != .quiesced then refuse s stRefused
    else
      let t := s.modPen p (fun x => { x with state := .running, drained := false, tensors := x.tensors.map (fun y => { y with held := false }) })
      .reply (t.prepare p) stOk [])

def jobAbort (r : Req) (s : State) : Answer :=
  withPen r s (fun p =>
    if !(r.zero 1 8) then refuse s stBadParam
    else if !((s.pen p).state.abortable) then refuse s stRefused
    else .reply (s.hostAbort p).retryAllocs stOk [])

def execJobQuiesce (fn : Fin 9) (slot : Fin 4) (s : State) : Result := done (s.quiet.serve fn slot 0x0902 jobQuiesce)
def execJobResume (fn : Fin 9) (slot : Fin 4) (s : State) : Result := done (s.quiet.serve fn slot 0x0903 jobResume)
def execJobAbort (fn : Fin 9) (slot : Fin 4) (s : State) : Result := done (s.quiet.serve fn slot 0x0905 jobAbort)

/-! ## CHECKPOINT_DRAIN (R435) -/

/-- R435 step 1: one tensor is brought near. -/
def State.bringNear (s : State) (p h : Nat) : State :=
  (s.takePath p h s.time.clock false).modTensor h (fun t => { t with held := true })

/-- R435 step 2: the pen's entries of the write-combining buffer. -/
def State.flushPen (s : State) (p : Nat) : State :=
  let mine (l : Nat) : Bool := (s.pen p).pages.any (fun x => x.2 = l / pageBytes)
  s.forAll ((s.np.wc.map WcEntry.line).filter mine) (fun t l => t.npFlush l none)

def checkpointDrain (r : Req) (s : State) : Answer :=
  withPen r s (fun p =>
    let n := r.f 2 2
    let hs := drainHandles r.pay
    if n = 0 || 1000 < n || r.f 1 1 != 0 || !(r.zero 4 8) then refuse s stBadParam
    else if (s.pen p).state != .quiesced then refuse s stRefused
    else
      let known (h : Nat) : Bool := h / 2 ^ 29 = p && s.live? h
      match hs.findIdx? (fun h => !(known h)) with
      | some i => .reply s stNotFound (leBytes 2 i)
      | none =>
        let s1 := s.modPen p (fun x => { x with tensors := x.tensors.map (fun y => { y with held := false }) })
        let t := (s1.forAll hs (fun u h => u.bringNear p h)).flushPen p
        let stuck (h : Nat) : Bool := (match t.tensor? h with
          | some y => y.allocWait
          | none => false)
        match hs.findIdx? stuck with
        | some i => .reply ((t.forAll (hs.filter stuck) (fun u h => u.setAllocWait h false)).holdNear hs) stNoResource (leBytes 2 i)
        | none => if (t.firstFar hs).isNone then .reply t stOk (leBytes 2 n) else .wait t)

def execCheckpointDrain (fn : Fin 9) (slot : Fin 4) (s : State) : Result := done (s.quiet.serve fn slot 0x0904 checkpointDrain)

/-! ## Queues (R299, R300, R302, R424) -/

/-- The lowest free queue id. -/
def freeQueueId (used : List Nat) : Nat → Nat → Option Nat
  | 0, _ => none
  | n + 1, k => if used.contains k then freeQueueId used n (k + 1) else if k < 2 ^ 20 then some k else none

/-- R302, Table 12.2: a ring in near pasture is aligned and lies wholly within one PINNED tensor of the pen. -/
def State.ringOk (s : State) (pen addr bytes : Nat) : Bool :=
  addr % 4096 = 0 && (s.pen pen).tensors.any (fun t =>
    !t.released && t.pinned && t.penAddr ≤ addr && addr + bytes ≤ t.penAddr + t.storedBytes)

/-- Table 12.1. -/
def qtypeOf : Nat → Option QType
  | 1 => some .opr
  | 2 => some .rop
  | 3 => some .cpl
  | 4 => some .vid
  | _ => none

/-- R424: the context that a request sets, under an id. -/
def parseQueue (r : Req) (id pen : Nat) (ty : QType) : Queue :=
  { id := id, type := ty, pen := pen, enabled := true, halted := false, log2 := r.f 2 1, cplHost := (r.f 3 1).testBit 0
    cplIrq := (r.f 3 1).testBit 1, routeHold := false, ringAddr := r.f 8 8, head := 0, tail := 0, cplQid := BitVec.ofNat 32 (r.f 4 4)
    expectSeq := 0, irqVector := r.f 16 2, timeoutUs := r.f 18 2, maxOut := r.f 20 2, out := 0, haltInfo := 0, taken := 0
    dying := false, waitingCpl := [] }

/-- R424: the fields of a request against the queue's type. -/
def State.queueFieldsOk (s : State) (q : Queue) : Bool :=
  let cpl := q.type = .cpl
  let named := (match s.queue? q.cplQid.toNat with
    | some c => c.type = .cpl && c.pen = q.pen && !c.dying
    | none => false)
  (if cpl then q.cplQid = 0xFFFFFFFF else named) && (cpl || !(q.cplHost || q.cplIrq)) &&
    (if q.cplIrq then 2 ≤ q.irqVector && q.irqVector < vectorsOf (s.penFunction q.pen) else q.irqVector = 0) &&
    (if q.type = .rop then 1 ≤ q.maxOut && q.maxOut ≤ 256 else q.maxOut = 0 && q.timeoutUs = 0) &&
    (if q.cplHost then q.ringAddr % 4096 = 0 else s.ringOk q.pen q.ringAddr (q.type.entryBytes * q.size))

def queueCreate (r : Req) (s : State) : Answer :=
  withLivePen r s (fun p =>
    match qtypeOf (r.f 1 1) with
    | none => refuse s stBadParam
    | some ty =>
      let q := parseQueue r 0 p ty
      if 15 < r.f 2 1 || 3 < r.f 3 1 || !(r.zero 22 24) || !(s.queueFieldsOk q) then refuse s stBadParam
      else match freeQueueId (s.qe.queues.map Queue.id) (s.qe.queues.length + 1) 0 with
        | none => refuse s stNoResource
        | some n =>
          .reply (s.modQe (fun e => { e with queues := e.queues ++ [{ q with
            id := n, timeoutUs := if ty = .rop && q.timeoutUs = 0 then 1000 else q.timeoutUs }] })) stOk (leBytes 4 n))

def queueDestroy (r : Req) (s : State) : Answer :=
  withLivePen r s (fun p =>
    let n := r.f 4 4
    if !(r.zero 1 4) then refuse s stBadParam
    else match s.queue? n with
      | none => refuse s stNotFound
      | some q =>
        if q.pen != p || q.dying then refuse s stNotFound
        else if q.type = .cpl && s.qe.queues.any (fun x => x.id != n && x.type != .cpl && x.cplQid.toNat = n) then refuse s stRefused
        else .reply ((s.modQueue n (fun x => { x with dying := true })).closeStreamsOf (· == n)).sweepQueues.makeAllReady stOk [])

def execQueueCreate (fn : Fin 9) (slot : Fin 4) (s : State) : Result := done (s.quiet.serve fn slot 0x0403 queueCreate)
def execQueueDestroy (fn : Fin 9) (slot : Fin 4) (s : State) : Result := done (s.quiet.serve fn slot 0x0404 queueDestroy)

/-! ## Video streams (R367 to R369, R426) -/

/-- Table 15.3; STARVE_MS 0 selects 200. -/
def parseStream (b : List Byte) : StreamRec :=
  let flags := leField b 3 1
  { encode := leField b 0 1 = 1, codec := leField b 1 1, cls := leField b 2 1, filmGrain := flags.testBit 0, hashCheck := flags.testBit 1
    refresh := flags.testBit 2, queue := leField b 4 4, maxW := leField b 8 2, maxH := leField b 10 2, depth := leField b 12 1
    reserve := leField b 13 1, starveMs := if leField b 14 2 = 0 then 200 else leField b 14 2, deadlineUs := leField b 16 4
    vbr := leField b 24 1 = 1, qp := leField b 25 1, keyInterval := leField b 26 2, refreshPeriod := leField b 28 1, refs := leField b 29 1
    bitrateKbps := leField b 32 4, rateMhz := leField b 36 4 }

/-- R369: the smallest RESERVE. -/
def StreamRec.minReserve (c : StreamRec) : Nat := if c.encode then c.refs + 1 else if c.codec = 2 then 9 else 17

/-- R369: the bytes a buffer of the stream needs. -/
def StreamRec.bufferBytes (c : StreamRec) : Nat :=
  roundUp (ceilDiv c.maxW 64 * 64 * (ceilDiv c.maxH 64 * 64) * 2 * (if c.depth = 8 then 1 else 2)) pageBytes

/-- R367, Table 15.3: every field in its range. -/
def streamFieldsOk (b : List Byte) (c : StreamRec) : Bool :=
  leField b 0 1 ≤ 1 && c.codec ≤ 2 && c.cls ≤ 2 && leField b 3 1 < 8 && c.queue < 2 ^ 20 && !(c.encode && c.codec = 0) &&
    16 ≤ c.maxW && c.maxW ≤ 8192 && 16 ≤ c.maxH && c.maxH ≤ 4352 && (c.depth = 8 || (c.depth = 10 && c.codec != 0)) &&
    c.minReserve ≤ c.reserve && c.reserve ≤ 64 && leField b 14 2 ≤ 10000 &&
    (if c.cls = 0 then 100 ≤ c.deadlineUs && c.deadlineUs ≤ 1000000 else c.deadlineUs = 0) && leField b 20 4 = 0 &&
    leField b 24 1 ≤ (if c.encode then 1 else 0) && (!c.encode || (c.qp ≤ c.topQp && 1 ≤ c.refs && c.refs ≤ 4)) &&
    (if c.encode && c.refresh then 2 ≤ c.refreshPeriod && c.refreshPeriod ≤ 64 else c.refreshPeriod = 0) &&
    leField b 30 2 = 0 && ((b.drop 40).take 24).all (· == 0)

/-- R367: the lowest free context of a kind. -/
def State.freeContext (s : State) (encode : Bool) : Option Nat :=
  (if encode then (List.range 32).map (256 + ·) else List.range 256).find? (fun n => !(s.video.streams.any (fun x => x.number = n)))

/-- R369: buffers of a pen's pool that no open stream has reserved. -/
def State.unreserved (s : State) (pen : Nat) : Nat :=
  ((s.pen pen).pool.elim 0 Prod.fst) - ((s.video.streams.filter (fun x => x.pen = pen)).map (fun x => x.conf.reserve)).sum

def videoStreamOpen (r : Req) (s : State) : Answer :=
  withLivePen r s (fun p =>
    let b := (r.pay.drop 8).take 64
    let c := parseStream b
    let fed := (match s.queue? c.queue with
      | some q => q.type = .vid && q.pen = p && !q.dying
      | none => false)
    if !(r.zero 1 8) || !(streamFieldsOk b c) || !fed then refuse s stBadParam
    else match s.freeContext c.encode with
      | none => refuse s stNoResource
      | some n =>
        if ((s.pen p).pool.elim 0 Prod.snd) < c.bufferBytes || s.unreserved p < c.reserve then refuse s stNoResource
        else
          let x : Stream := { number := n, pen := p, conf := c, pieces := [], offset := 0, work := [], ready := none, pictures := []
                              outputs := [], flush := none, context := 0, outUpTo := 0, nextPicture := 0, qp := c.qp, sizes := []
                              sinceKey := none, band := 0, skipping := none, clashes := [], closing := false, closeSlots := [] }
          .reply (s.modVideo (fun v => { v with streams := v.streams ++ [x] })) stOk (leBytes 2 n))

/-- R368, R426: the response follows the end of the close. -/
def videoStreamClose (r : Req) (s : State) : Answer :=
  withLivePen r s (fun p =>
    let n := r.f 2 2
    if r.f 1 1 != 0 || !(r.zero 4 8) then refuse s stBadParam
    else match s.stream? n with
      | none => refuse s stNotFound
      | some x =>
        if x.pen != p then refuse s stNotFound
        else
          let t := s.closeStream n (some r.slot)
          if (t.stream? n).isSome then .wait t else .reply t.makeAllReady stOk [])

def videoPoolSet (r : Req) (s : State) : Answer :=
  withLivePen r s (fun p =>
    let count := r.f 4 4
    let bytes := r.f 8 8
    if !(r.zero 1 4) || 4096 < count || bytes % pageBytes != 0 then refuse s stBadParam
    else if s.video.streams.any (fun x => x.pen = p) then refuse s stRefused
    else
      let u := s.modPen p (fun x => { x with pool := if count = 0 then none else some (count, bytes) })
      if (s.pen p).nearMin < (u.pen p).fixedUse then refuse s stNoResource else .reply u.retryAllocs stOk [])

def execVideoStreamOpen (fn : Fin 9) (slot : Fin 4) (s : State) : Result := done (s.quiet.serve fn slot 0x0501 videoStreamOpen)
def execVideoStreamClose (fn : Fin 9) (slot : Fin 4) (s : State) : Result := done (s.quiet.serve fn slot 0x0502 videoStreamClose)
def execVideoPoolSet (fn : Fin 9) (slot : Fin 4) (s : State) : Result := done (s.quiet.serve fn slot 0x0503 videoPoolSet)

end Sys2Proof.Machine
end

