-- ==== Sys2Proof/Machine/Thermal.lean ====
section
/-! DEFINITION. Stack temperatures (R266 to R269), poisoned lines at the Drover (R245, R249, R271), and the Talsen ports in
operation (R243, R244, R406, R445). -/

namespace Sys2Proof.Machine

/-! ## Thermal states (R266) -/

/-- Table 10.3: the highest state whose lower bound a temperature reaches. -/
def bandOf (celsius : Nat) : Nat :=
  if 105 ≤ celsius then 3 else if 95 ≤ celsius then 2 else if 85 ≤ celsius then 1 else 0

/-- Table 10.3: the lower bound of a state. -/
def bandFloor : Nat → Nat
  | 1 => 85
  | 2 => 95
  | 3 => 105
  | _ => 0

/-- R266: a state is left for the one below 3 °C under its bound; `n` bounds the steps down. -/
def coolTo (celsius : Nat) : Nat → Nat → Nat
  | 0, st => st
  | n + 1, st => if st != 0 && celsius + 3 ≤ bandFloor st then coolTo celsius n (st - 1) else st

/-- R266, R268: the state after a report; Shutdown is left only by a reset. -/
def nextThermal (old celsius : Nat) : Nat :=
  if old = 4 || 115 ≤ celsius then 4 else coolTo celsius 3 (max old (bandOf celsius))

def hotState (st : Nat) : Bool := st = 2 || st = 3

/-- R274: groups whose training temperature is 8 °C away. -/
def NearMem.dueByTemp (n : NearMem) (stack celsius : Nat) : NearMem :=
  { n with groups := n.groups.zipIdx.map (fun g =>
      if g.2 / 8 = stack && 8 ≤ max celsius g.1.trainedTemp - min celsius g.1.trainedTemp then { g.1 with due := true } else g.1) }

/-- R268: below stage 4 the Folds are those of R82; a FAILED one stays so until its takeover (R74).  During a control-complex reset the
stage that it returns to falls. -/
def State.fallToReduced (s : State) : State :=
  if s.keptStage ≤ 3 then s
  else
    let die := reducedDie s.comp.slots
    let served := servedFolds s.comp.slots
    let t := s.modComp (fun c => { c with
      folds := keepFailed c.folds (rebuildFolds s.dog.retiredNow c.slots (fun k => k / 34 = die && served.contains k)) })
    if s.boot.resetting = some .controlComplex then t.modBoot (fun b => { b with ccStage := 3 }) else t.setStage 3

/-- R268: the shutdown of a stack. -/
def State.shutDown (s : State) (stack celsius : Nat) : State :=
  let t := (s.modStack stack (fun k => { k with trained := false, powered := false })).logFault 8 0x86 .uncontained stack none none (celsius % 256)
  let u := t.forAll (List.range 8) (fun v p => v.penFault p 0x86 (celsius % 256))
  u.fallToReduced.modBoot (fun b => { b with thermalWait := true })

/-- R267: the notices that a change of a stack's state sends. -/
def State.slowNotices (s : State) (stack old new : Nat) : State :=
  if hotState new && new != old then s.sendSlow true stack
  else if hotState old && new < 2 && !s.thermal then s.sendSlow false stack
  else s

/-- R268: with every stack that was shut down below 95 °C the device takes a warm reset. -/
def State.thermalReset (s : State) : State :=
  if s.boot.thermalWait && s.np.stackList.all (fun k => k.tstate != 4 || k.temp < 95) then s.warmReset 6 else s

/-- R266, R274: the temperature and the state of a stack, and the groups that a drift makes due. -/
def State.takeTemp (s : State) (stack celsius new : Nat) : State :=
  (s.modStack stack (fun k => { k with temp := celsius, tstate := new, slow := hotState new, maxTemp := max k.maxTemp celsius })).modNp
    (fun n => if n.stackList.any Stack.trained then n.dueByTemp stack celsius else n)

/-- R266, R275: near pasture serves again what it held, the video engine's releases last. -/
def State.pastureServes (s : State) : State := s.nearServes.releaseVideo

def execStackTemperatureRead (stack : Fin 8) (celsius : Nat) (s : State) : Result :=
  let t := s.quiet
  if t.boot.hubEn && t.hubRails then
    let c := min celsius 255
    let old := (t.stackAt stack).tstate
    let new := nextThermal old c
    let u := t.takeTemp stack c new
    let v := if new = 4 && old != 4 then u.shutDown stack c else u.slowNotices stack old new
    let w := if v.thermal != t.thermal then v.healthEventAll 2 else v
    done (w.pastureServes.thermalReset)
  else done t

/-- R275: the window ends: the group is trained at its stack's temperature, and the requests that waited go on. -/
def execRetrainWindowEnd (s : State) : Result :=
  let t := s.quiet
  match t.np.retraining with
  | some g => done ((t.modNp (fun n => { n with
      retraining := none, groups := n.groups.modify g (fun x => { x with trainedTemp := (t.stackAt (g / 8)).temp }) })).pastureServes)
  | none => done t

/-- R267: repeated for every stack that is Hot or Critical. -/
def execSlowRepeat (s : State) : Result :=
  let t := s.quiet
  done (t.forAll ((List.range 8).filter (fun k => hotState (t.stackAt k).tstate)) (fun u k => u.sendSlow true k))

/-! ## Uncorrectable lines (R245, R249, R271) -/

/-- The pen and the pen address that a near line is mapped to. -/
def State.nearOwner (s : State) (line : Nat) : Option (Nat × Nat) :=
  (List.range 8).findSome? (fun p => (s.pen p).pages.findSome? (fun x =>
    if x.2 = line / pageBytes then some (p, x.1 * pageBytes + line % pageBytes) else none))

/-- The tensor with a near copy that holds a line. -/
def State.nearCopyAt (s : State) (line : Nat) : Option (Nat × Tensor) :=
  match s.nearOwner line with
  | none => none
  | some (p, a) => match s.tensorAt p a with
    | some t => if t.res.isNear && a < t.penAddr + t.storedBytes then some (p, t) else none
    | none => none

/-- The base whose near copy holds a line. -/
def State.baseAt (s : State) (line : Nat) : Option Nat :=
  (s.drover.bases.find? (fun b => b.2.penAddr ≤ line && line < b.2.penAddr + b.2.storedBytes && b.2.res = .both)).map Prod.fst

/-- R271: an uncorrectable sector. -/
def execNpUe (addr : Nat) (s : State) : Result :=
  if nearBytes ≤ addr then .fault (.noSuchNearAddress addr)
  else
    let line := lineOf addr
    let t := ((s.quiet.npPoison line).count 19 1).logFault 8 0x0202 .deferred (npStack line) none (some line)
    done (match t.nearCopyAt line with
      | some (p, x) => (t.poisonTensor p x false).retryAllocs
      | none => match t.baseAt line with
        | some n => t.poisonBase n
        | none => t)

/-! ## Talsen ports (R243, R244, R406) -/

/-- Whether a chunk of a fetch has been issued to a port. -/
def Tensor.issuedTo (t : Tensor) (port : Nat) : Option Nat :=
  match t.fetch, t.far with
  | some f, some copy => (List.range f.chunks.length).find? (fun c => f.chunks[c]? = some .issued && (copy.chunkPlace c).1 = port)
  | _, _ => none

/-- R243: the reads in flight on the port fail, and the write-behinds over it end. -/
def execTalsenLinkDown (port : Fin 4) (s : State) : Result :=
  let t := s.quiet
  let p := t.talsenAt port
  if p.state == .up && !p.relinking then
    let u := ((t.modTalsen port (fun x => { x with state := .down, relinkDue := false })).logFault 10 0x0602 .corrected port.val).healthEventAll 4
    let v := u.forAll u.allTensors (fun w x => match (w.any? x.1).bind (fun y => y.issuedTo port) with
      | some c => w.farCopyBad x.1 c 5
      | none => w)
    let z := v.forAll v.allTensors (fun w x => match (w.tensor? x.1).bind Tensor.wb with
      | some b => if b.stripe.contains port.val then w.wbFails x.1 port else w
      | none => w)
    done ((z.forAll z.fetchOrder State.stallFetch).pumpReads)
  else done t

/-- R240, R406: waiting needs are decided again, and what waited for the port goes on. -/
def State.portBack (s : State) : State :=
  let s0 := s.forAll s.fetchOrder State.unstallFetch
  let t := s0.forAll s0.allTensors (fun u x => match u.tensor? x.1 with
    | some y => match y.waitUntil with
      | some d => u.takePath (x.1 / 2 ^ 29) x.1 d false
      | none => u
    | none => u)
  (t.forAll (t.drover.bases.filter (fun b => b.2.res = .poisoned)) (fun u b => u.reloadBase b.1)).pumpReads

/-- R406: the same expander, with at least its former capacity. -/
def Talsen.takesBack (p : Talsen) (x : Expander) : Bool :=
  p.serial = some x.serial && Expander.failedRow x = 0 && p.usedMib ≤ x.mib

def execTalsenLinkUp (port : Fin 4) (expander : Expander) (s : State) : Result :=
  let t := s.quiet
  let p := t.talsenAt port
  if t.keptStage < 4 || (p.state == .up && !p.relinking) then done t
  else if p.takesBack expander then
    done ((((t.modTalsen port (fun x => { x with
      state := .up, relinking := false, failed := 0, rate32 := expander.rate32, width8 := expander.width8 })).healthEventAll 4).portBack).startRelink)
  else if Expander.failedRow expander != 0 then
    done (((t.modTalsen port (fun x => { x with state := .down, relinking := false, failed := Expander.failedRow expander })).logFault 10 0x0601
      .corrected port.val none none (Expander.failedRow expander)).startRelink)
  else done ((t.modTalsen port (fun x => { x with state := .unused, relinking := false })).startRelink)

/-- R406: more than 1,000 corrected errors in 60 s; a port waits for the relink of another to end. -/
def execTalsenCorrectedError (port : Fin 4) (s : State) : Result :=
  let t := s.quiet.count 39 1
  let now := t.time.clock
  let u := t.modTalsen port (fun x => { x with corrected := x.corrected.filter (fun c => now ≤ c + 60000000000) ++ [now] })
  let p := u.talsenAt port
  done (if 1000 < p.corrected.length && p.state == .up then (u.modTalsen port (fun x => { x with relinkDue := true })).startRelink else u)

/-- R445: the next bytes of a port's used capacity are overwritten, from address 0 up (log entry 11). -/
def execFarPastureOverwrite (port : Fin 4) (bytes : Nat) (s : State) : Result :=
  let t := s.quiet
  let left := t.boot.farUnwiped.getD port 0
  let n := min bytes left
  if n = 0 || (t.talsenAt port).state != .up then done t
  else
    done ((t.modBoot (fun b => { b with farUnwiped := b.farUnwiped.modify port (fun x => x - n) })).emit
      (.farZero port (t.farUsable port) n))

end Sys2Proof.Machine
end

