-- ==== Sys2Proof/Machine/EszerFabric.lean ====
section
/-! DEFINITION. Eszer commands on bases (R247, R421), the fabric and device time (R422, R423, R425), and Tally and telemetry
(R433, R494, R495, R497, R499). -/

namespace Sys2Proof.Machine

/-! ## BASE_REGISTER (R247, R421) -/

/-- R247: the formats of a base. -/
def baseSource (t : Tensor) : Bool :=
  t.comp = 0 && !t.mx && !t.released && (t.fmt = 1 || t.fmt = 2 || t.fmt = 3 || t.fmt = 4 || t.fmt = 0xA)

/-- R421: whether a live DLT tensor names a base. -/
def State.baseNamed (s : State) (n : Nat) : Bool :=
  s.pens.any (fun p => p.tensors.any (fun t => t.comp = 2 && !t.released && t.base.toNat = baseHandle n))

def baseRelease (r : Req) (s : State) : Answer :=
  let n := r.f 1 1
  if r.f 4 4 != 0 then refuse s stBadParam
  else match s.base? (baseHandle n) with
    | none => refuse s stNotFound
    | some b =>
      if s.baseNamed n then refuse s stRefused
      else .reply (((s.freeBasePages b).modDrover (fun d => { d with
        bases := d.bases.filter (fun x => x.1 != n), basePens := d.basePens.filter (fun x => x.1 != n) })).retryAllocs) stOk []

def baseRegister (r : Req) (s : State) : Answer :=
  withPen r s (fun p =>
    let n := r.f 1 1
    let h := r.f 4 4
    let inUse : Bool := (match s.base? (baseHandle n) with
      | some b => !b.lost
      | none => false)
    if (s.busySlots 0x0305 (fun _ => true)).any (· != r.slot) then refuse s stBusy
    else if 63 < n || 1 < r.f 2 1 || r.f 3 1 != 0 then refuse s stBadParam
    else if r.f 2 1 = 1 then baseRelease r s
    else if !((s.pen p).state.live) then refuse s stRefused
    else match s.tensor? h with
      | none => refuse s stNotFound
      | some t =>
        if h / 2 ^ 29 != p || t.released then refuse s stNotFound
        else if !(baseSource t) then refuse s stBadParam
        else if inUse then refuse s stRefused
        else if s.stripeNow = [] then refuse s stNoResource
        else .wait (if t.readable then s.tryBase r.slot p n t else s.takePath p h s.time.clock false))

def execBaseRegister (fn : Fin 9) (slot : Fin 4) (s : State) : Result := done (s.quiet.serve fn slot 0x0305 baseRegister)

/-! ## FABRIC_TOPOLOGY_SET (R296, R297, R331, R422) -/

def coordWithin (e c : B16) : Bool := (List.range 4).all (fun a => axisOf c a < extentOf e a)

/-- R331: what this device knows to be skipped, itself included. -/
def State.skipped (s : State) (coord : B16) (placed leave : Bool) : List B16 :=
  s.coord.unusable.filter (fun c => c != coord) ++ (if !placed || (s.fab.transitOnly && !leave) then [coord] else [])

/-- R278: a port under a topology whose PLACED has changed: disabled on an axis of extent 1, and else tried again if it was disabled. -/
def State.rewire (s : State) (port : Nat) : State :=
  if s.portDisabled port then
    ((if (s.port port).lstate == .up then s.portDown port else s).modPort port (linkReset true))
  else if (s.port port).lstate == .disabled then s.modPort port (linkReset false)
  else s

/-- R278, R297: PLACED alone changes at once, and with it the wiring that applies (log entry 149). -/
def State.setPlaced (s : State) (b : Bool) : State :=
  if s.fab.placed = b then s else (s.modFab (fun f => { f with placed := b })).forAll (List.range 8) State.rewire

def fabricTopologySet (r : Req) (s : State) : Answer :=
  let flags := r.f 8 1
  let leave := flags.testBit 1
  let x : TopoChange :=
    { coord := BitVec.ofNat 16 (r.f 0 2), extent := BitVec.ofNat 16 (r.f 2 2), bellwether := BitVec.ofNat 16 (r.f 4 2)
      deputy := BitVec.ofNat 16 (r.f 6 2), placed := flags.testBit 0, slot := some r.slot }
  let changes := x.coord != s.fab.coord || x.extent != s.fab.extent
  if 3 < flags || !(r.zero 9 16) || !(coordWithin x.extent x.coord) || !(coordWithin x.extent x.bellwether) ||
      !(coordWithin x.extent x.deputy) || 8192 < extentProduct x.extent ||
      x.deputy != deputyOf x.extent x.bellwether (s.skipped x.coord x.placed leave) then refuse s stBadParam
  else if changes && s.jobActive then refuse s stJobActive
  else if s.fab.draining.isSome then refuse s stBusy
  else if leave && s.boot.hubFaulted then refuse s stRefused
  else
    let t := (s.modFab (fun f => { f with transitOnly := f.transitOnly && !leave })).ownWrite (.settings { s.dog.inUse with
      coord := x.coord, extent := x.extent, bellwether := x.bellwether, deputy := x.deputy, placed := x.placed })
    if changes then .wait ((t.modFab (fun f => { f with draining := some x })).leaveFull)
    else
      let u := (t.setPlaced x.placed).nameLeaders x.bellwether x.deputy
      .reply (if x.placed then u else u.leaveFull) stOk []

def execFabricTopologySet (fn : Fin 9) (slot : Fin 4) (s : State) : Result := done (s.quiet.serve fn slot 0x0401 fabricTopologySet)

/-! ## LINK_STATUS (R423) -/

def TalsenState.code : TalsenState → Nat
  | .down => 0
  | .training => 1
  | .up => 2
  | .unused => 3

/-- R423: one Talsen record. -/
def Talsen.status (t : Talsen) : Nat :=
  (if t.relinking && t.state = .up then 1 else t.state.code) + natOfBool t.rate32 <<< 2 + natOfBool t.width8 <<< 3 + natOfBool t.relinking <<< 4 +
    t.failed <<< 8 + (t.usedMib / 256) <<< 32

def linkStatus (_r : Req) (s : State) : Answer :=
  .reply s stOk ((List.range 8).flatMap (fun p => leBytes 8 (s.port p).status) ++ leBytes 8 s.fabTopo ++ leBytes 8 s.fabRing ++
    (List.range 4).flatMap (fun p => leBytes 8 (s.talsenAt p).status))

def execLinkStatus (fn : Fin 9) (slot : Fin 4) (s : State) : Result := done (s.quiet.serve fn slot 0x0402 linkStatus)

/-! ## TIME_ROLE_SET (R338, R425) -/

def timeRoleSet (r : Req) (s : State) : Answer :=
  let host := r.f 0 1 = 1
  let ref := r.f 1 1 = 1
  if 1 < r.f 0 1 || 1 < r.f 1 1 || !(r.zero 2 8) || (ref && !host) then refuse s stBadParam
  else if !(s.isMaster) then refuse s stRefused
  else
    let t := s.modTime (fun x =>
      if host then { (if ref then x.refer (r.f 8 8) else x) with hostSource := true }
      else { x with hostSource := false, ratePpb := 0, slewLeft := none })
    .reply t stOk (leBytes 8 s.time.now.toNat ++ leBytes 2 s.time.epoch.toNat)

def execTimeRoleSet (fn : Fin 9) (slot : Fin 4) (s : State) : Result := done (s.quiet.serve fn slot 0x0405 timeRoleSet)

/-! ## TALLY_SNAPSHOT (R433, R494, R495) -/

def tallySnapshot (r : Req) (s : State) : Answer :=
  let epoch := r.f 2 2
  let time := r.f 8 8
  if s.health.snapshot.isSome then refuse s stBusy
  else if 1 < r.f 0 1 || r.f 1 1 != 0 || !(r.zero 4 8) then refuse s stBadParam
  else if r.f 0 1 = 0 then
    let t := s.tick
    .reply t stOk t.tickBytes
  else if epoch != s.time.epoch.toNat || s.time.now.toNat + 1000000000 < time then refuse s stBadParam
  else
    let t := if s.isBellwether then s.sendDown 0x2D (tallyOp time epoch) else s
    if s.time.now.toNat < time then
      .wait (t.modHealth (fun h => { h with snapshot := some (BitVec.ofNat 16 epoch, BitVec.ofNat 64 time, some r.slot) }))
    else
      let u := t.tick
      .reply u stOk u.tickBytes

def execTallySnapshot (fn : Fin 9) (slot : Fin 4) (s : State) : Result := done (s.quiet.serve fn slot 0x0803 tallySnapshot)

/-! ## TELEMETRY_READ and POWER_LIMIT_SET (R433, R497, R499) -/

def telemetryRead (r : Req) (s : State) : Answer :=
  let first := r.f 0 2
  let n := r.f 2 2
  if n = 0 || 500 < n || !(r.zero 4 8) then refuse s stBadParam
  else if 58 ≤ first then refuse s stNotFound
  else
    let k := min n (58 - first)
    .reply s stOk (leBytes 2 k ++ List.replicate 6 0 ++ (List.range k).flatMap (fun i => leBytes 8 (s.item (first + i))))

def execTelemetryRead (fn : Fin 9) (slot : Fin 4) (s : State) : Result := done (s.quiet.serve fn slot 0x0804 telemetryRead)

def powerLimitSet (r : Req) (s : State) : Answer :=
  let w := r.f 0 4
  if w < 600 || 1200 < w || !(r.zero 4 8) then refuse s stBadParam
  else .reply (s.modPower (fun p => { p with limit := w })) stOk (leBytes 4 w ++ leBytes 4 0)

def execPowerLimitSet (fn : Fin 9) (slot : Fin 4) (s : State) : Result := done (s.quiet.serve fn slot 0x0805 powerLimitSet)

/-! ## FAULT_READ and FAULT_CLEAR (R80, R433, R486, R487) -/

def faultRead (r : Req) (s : State) : Answer :=
  let n := r.f 2 1
  if n = 0 || 32 < n || !(r.zero 3 8) then refuse s stBadParam
  else match s.health.banks[r.f 0 1]? with
    | none => refuse s stNotFound
    | some b =>
      let rs := (b.records.drop (r.f 1 1)).take n
      .reply s stOk ([BitVec.ofNat 8 b.records.length, BitVec.ofNat 8 rs.length] ++ List.replicate 6 0 ++ rs.flatMap recordBytes)

def State.modBank (s : State) (b : Nat) (f : FaultBank → FaultBank) : State :=
  s.modHealth (fun h => { h with banks := h.banks.modify b f })

def faultClear (r : Req) (s : State) : Answer :=
  let k := r.f 2 1
  if 2 < r.f 1 1 || !(r.zero 3 8) then refuse s stBadParam
  else if r.f 1 1 = 2 then
    if 135 < k then refuse s stBadParam
    else if (s.fold k).state != .retired then refuse s stRefused
    else .reply (s.modDog (fun g => { g with retest := insertNat k g.retest })) stOk []
  else match s.health.banks[r.f 0 1]? with
    | none => refuse s stNotFound
    | some b =>
      if r.f 1 1 = 1 then .reply (s.modBank (r.f 0 1) (fun x => { x with records := x.records.map (fun _ => none), lost := 0 })) stOk []
      else if b.records.length ≤ k then refuse s stBadParam
      else .reply (s.modBank (r.f 0 1) (fun x => { x with records := x.records.set k none })) stOk []

def execFaultRead (fn : Fin 9) (slot : Fin 4) (s : State) : Result := done (s.quiet.serve fn slot 0x0801 faultRead)
def execFaultClear (fn : Fin 9) (slot : Fin 4) (s : State) : Result := done (s.quiet.serve fn slot 0x0802 faultClear)

end Sys2Proof.Machine
end

