-- ==== Sys2Proof/Machine/HostLink.lean ====
section
/-! DEFINITION. The host link and the management port (chapter 16, R463): register writes, BAR0, BAR2 and BAR4 accesses,
function-level reset, D3hot, and I3C. -/

namespace Sys2Proof.Machine

/-! ## The BARs (R395) -/

/-- Table 16.2: what a function's BARs decode; the owner's BAR4 at the size it has. -/
def bar0Bytes (fn : Nat) : Nat := if fn = 0 then 2 ^ 24 else 2 ^ 16
def bar2Bytes : Nat := 2 ^ 26
def State.bar4Bytes (s : State) (fn : Nat) : Nat := if fn = 0 then 2 ^ s.host.bar4Bits else 2 ^ 30

/-! ## Configuration space (R393, Table 16.1) -/

/-- Table 16.1. -/
inductive Capability where
  | pciExpress | powerManagement | msix | advancedErrors | serialNumber | srIov | ari | resizableBar | secondaryPcie
  | dataLinkFeature | physical16 | physical32 | physical64 | laneMargining | device3 | flitLogging
deriving DecidableEq, Repr

/-- R393: the capabilities of a function and no others. -/
def capabilities (fn : Nat) : List Capability :=
  if fn = 0 then
    [.pciExpress, .powerManagement, .msix, .advancedErrors, .serialNumber, .srIov, .ari, .resizableBar, .secondaryPcie,
      .dataLinkFeature, .physical16, .physical32, .physical64, .laneMargining, .device3, .flitLogging]
  else [.pciExpress, .msix, .ari, .advancedErrors]

/-- Table 16.1: Device Serial Number, equal to SERIAL. -/
def State.deviceSerial (s : State) : DWord := s.dog.serial

/-- Table 16.1, SR-IOV: the virtual functions, the offset of the first and their stride. -/
def vfCount : Nat := 8
def firstVf : Nat := 1
def vfStride : Nat := 1

/-- R392: the largest payload and read request, and the width of a tag. -/
def maxPayload : Nat := 512
def maxReadRequest : Nat := 4096
def Boot.tagBits (b : Boot) : Nat := if b.linkFlit then 14 else 10

/-- R393: D3hot is entered only when no pen is RUNNING. -/
def State.enterD3hot (s : State) : State :=
  if s.pens.any (fun p => p.state = .running) then s.emit .d3Refused else s.modBoot (fun b => { b with d3hot := true })

/-- R393, R395: a write of a configuration register of a function that carries its capability: PowerState 0 (D0) or 3 (D3hot), and the
BAR Size field, 2^(20 + n) bytes (the fields of the PCI Express standards, log entry 128). -/
def State.writeConfig (s : State) (fn : Nat) (r : ConfigReg) (v : Nat) : State :=
  match r with
  | .powerState =>
    if (capabilities fn).contains .powerManagement then
      (match v % 4 with
        | 0 => s.modBoot (fun b => { b with d3hot := false })
        | 3 => s.enterD3hot
        | _ => s)
    else s
  | .bar4Size =>
    if (capabilities fn).contains .resizableBar && 8 ≤ v && v ≤ 19 then s.modHost (fun h => { h with bar4Bits := 20 + v }) else s

/-! ## Register writes (R8 to R11) -/

/-- R397: unmasking a vector sends the message that waited. -/
def State.msixUnmask (s : State) (fn : Nat) (e : MsixEntry) : State :=
  if !e.masked && e.pending then
    (s.modFn fn (fun r => { r with msix := r.msix.map (fun x => if x.vector = e.vector then { x with pending := false } else x) })).emit
      (.msix fn e.vector e.addr e.data)
  else s

/-- R397: a word of a vector's table entry. -/
def MsixEntry.write (e : MsixEntry) (off : Nat) (w : Word) : MsixEntry :=
  match off with
  | 0 => { e with addr := (e.addr >>> 32 <<< 32) ||| w.setWidth 64 }
  | 4 => { e with addr := (w.setWidth 64 <<< 32) ||| (e.addr &&& 0xFFFFFFFF) }
  | 8 => { e with data := w }
  | _ => { e with masked := w.getLsbD 0 }

def State.writeMsix (s : State) (fn off : Nat) (w : Word) : State :=
  let v := off / 16
  if v < vectorsOf fn then
    let e := ((s.fnRegs fn).vector v).write (off % 16) w
    (s.modFn fn (fun r => { r with msix := r.msix.filter (fun x => x.vector != v) ++ [e] })).msixUnmask fn e
  else s

/-- R399: writes of the request area and of MB_REQ_LEN are dropped and logged while the slot is BUSY. -/
def State.writeRequest (s : State) (fn i : Nat) (f : Mailbox → Mailbox) : State :=
  if (s.slotAt i).state = 1 then s.logFault 9 0x0503 .corrected fn else s.modSlot i f

/-- Bytes written into the request area; trailing zeros are left out. -/
def Mailbox.putRequest (m : Mailbox) (off : Nat) (w : Word) : Mailbox :=
  { m with req := trimZeros (setBytes (padTo 4032 m.req) off (leBytes 4 w.toNat)) }

/-- Table 16.6: a word written to a slot. -/
def State.writeSlot (s : State) (fn i off : Nat) (w : Word) : State :=
  match off with
  | 0x00 =>
    let t := s.modSlot i (fun m => { m with irq := w.getLsbD 2 })
    let u := if w.getLsbD 1 then t.mbAbort i else t
    if w.getLsbD 0 then u.mbGo i (w.getLsbD 2) else u
  | 0x08 => s.writeRequest fn i (fun m => { m with reqLen := w.toNat % 2 ^ 13 })
  | 0x10 => if w.getLsbD 0 then s.modSlot i (fun m => { m with evt := false }) else s
  | _ => if 0x40 ≤ off && off < 0x1000 then s.writeRequest fn i (fun m => m.putRequest (off - 0x40) w) else s

/-- Table 16.5: BAR4_WINDOW takes effect with its upper word (R10). -/
def FnRegs.setWindow (r : FnRegs) (low high : Nat) : FnRegs :=
  { r with winPen := low % 8, winEnable := low.testBit 3, winBase := low / 2 ^ 21 + high % 2 ^ 16 * 2 ^ 11, heldLow := [] }

/-- Table 16.5: a word written to the stage-and-health page. -/
def State.writeStage (s : State) (fn off : Nat) (w : Word) : State :=
  match off with
  | 0x04 => s.modFn fn (fun r => { r with healthEvt := r.healthEvt &&& ~~~(w.setWidth 5) })
  | 0x08 => s.modFn fn (fun r => { r with healthMask := w.setWidth 5 })
  | 0x10 => s.modFn fn (fun r => { r with heldLow := [(0x1010, w)] })
  | 0x14 => s.modFn fn (fun r =>
      let low := match r.heldLow with
        | x :: _ => x.2.toNat
        | [] => r.winPen + natOfBool r.winEnable <<< 3 + (r.winBase <<< 21) % 2 ^ 32
      r.setWindow low w.toNat)
  | _ => s

/-- A 32-bit word written at an aligned offset of a function's BAR0. -/
def State.writeWord (s : State) (fn off : Nat) (w : Word) : State :=
  let p := bar0Place fn off
  if s.bar0Served p then
    match p with
    | .stage o => s.writeStage fn o w
    | .slot i o => s.writeSlot fn i o w
    | .dog o => if o = 0x100 then s.writeResetCtrl w.toNat else s
    | .msix o => s.writeMsix fn o w
    | .identity _ | .shadow _ | .mirror _ | .pba _ | .nothing => s
  else s

/-- R11: the corrected host-interface fault of an access that is not aligned and of 4 or 8 bytes. -/
def State.logAccess (s : State) (fn off : Nat) : State := s.logFault 9 0x0501 .corrected fn none (some off)

/-- R399: the writes that a BUSY slot drops: of its request area and of MB_REQ_LEN. -/
def State.dropsWrite (s : State) (fn off : Nat) : Bool :=
  s.bar0Served (bar0Place fn off) && (match bar0Place fn off with
    | .slot i o => (s.slotAt i).state = 1 && (o = 8 || (0x40 ≤ o && o < 0x1000))
    | _ => false)

/-- R8, R10, R11: a register write through BAR0, or of a configuration register.  A 64-bit write that is dropped is one write (R399). -/
def execRegisterWrite (fn : Fin 9) (place : RegPlace) (wide : Bool) (value : DWord) (s : State) : Result :=
  let t := s.quiet
  if !t.boot.linkUp then done t
  else match place with
    | .config r => done (t.writeConfig fn.val r value.toNat)
    | .bar0 off =>
      if bar0Bytes fn.val ≤ off then done t
      else if off % (if wide then 8 else 4) != 0 then done (t.logAccess fn off)
      else
        let u := t.writeWord fn off (value.setWidth 32)
        done (if wide && !(t.dropsWrite fn off && t.dropsWrite fn (off + 4)) then u.writeWord fn (off + 4) ((value >>> 32).setWidth 32) else u)

/-! ## Reads, and accesses of the wrong form (R11, R303) -/

/-- R11: aligned accesses of 32 or 64 bits. -/
def accessOk (off size : Nat) : Bool := (size = 4 || size = 8) && off % size = 0

/-- R11, R303: a read answers its words, or all ones (zeros in BAR2) and a fault; a write of the wrong form is ignored and logged. -/
def execBar0Access (fn : Fin 9) (bar2 write : Bool) (off size : Nat) (s : State) : Result :=
  let t := s.quiet
  if !t.boot.linkUp || (if bar2 then bar2Bytes else bar0Bytes fn.val) < off + size then done t
  else if bar2 then
    if write && size = 4 && off % 64 = 0 then done t
    else
      let u := t.logAccess fn off
      done (if write then u else u.emit (.readData (List.replicate size 0) false))
  else if accessOk off size then
    done (if write then t
      else t.emit (.readData ((List.range (size / 4)).flatMap (fun i => leBytes 4 (t.bar0Word fn (off + 4 * i)))) false))
  else
    let u := t.logAccess fn off
    done (if write then u else u.emit (.readData (List.replicate size 0xFF) false))

/-! ## BAR4 (R396) -/

/-- R348, R396: the pen that a function's BAR4 reaches. -/
def State.windowPen (s : State) (fn : Nat) : Option Nat :=
  let r := s.fnRegs fn
  if !r.winEnable || s.keptStage < 4 then none
  else
    let p := if fn = 0 then some r.winPen else s.boundPen fn
    match p with
    | some k => if (s.pen k).state.live then some k else none
    | none => none

/-- The pen address of a BAR4 offset. -/
def State.windowAddr (s : State) (fn off : Nat) : Nat := ((s.fnRegs fn).winBase * pageBytes + off) % 2 ^ 48

/-- R396: the device address of a BAR4 access, when its page is mapped. -/
def State.windowTarget (s : State) (fn off : Nat) : Option Nat :=
  (s.windowPen fn).bind (fun k => s.penTranslate k (s.windowAddr fn off))

def State.logUnmapped (s : State) (fn off : Nat) : State := s.logFault 9 0x0504 .corrected fn none (some (s.windowAddr fn off))

/-- R263, R275: the requests of a host access, served at once, or waiting line by line. -/
def State.hostRead (s : State) (d len : Nat) : State :=
  let req (a n : Nat) : NpReq := { kind := .read a n, source := .host, cls := .norm, urgent := false }
  if (linesOf d len).any (s.npBlocked .host) then
    s.forAll (linesOf d len) (fun t l => t.npRequest (req (max l d) (min (l + 256) (d + len) - max l d)))
  else s.npRequest (req d len)

def execBar4Read (fn : Fin 9) (off len : Nat) (s : State) : Result :=
  let t := s.quiet
  if !t.boot.linkUp || t.bar4Bytes fn.val < off + len then done t
  else match t.windowTarget fn off with
    | some d => done (t.hostRead d len)
    | none => done ((t.logUnmapped fn off).emit (.readData (List.replicate len 0xFF) false))

def execBar4Write (fn : Fin 9) (off : Nat) (bytes : List Byte) (s : State) : Result :=
  let t := s.quiet
  if !t.boot.linkUp || t.bar4Bytes fn.val < off + bytes.length then done t
  else match t.windowTarget fn off with
    | some d => done (t.forAll (piecesOf d bytes) (fun u x =>
        u.npRequest { kind := .write x.1 x.2, source := .host, cls := .norm, urgent := false }))
    | none => done (t.logUnmapped fn off)

/-! ## Function-level reset, D3hot, link retraining (R392 to R394) -/


/-- R407: a mailbox reset; a command in progress runs to its end and its response is discarded. -/
def State.resetSlot (s : State) (i : Nat) : State :=
  if (s.slotAt i).state = 1 then s.modSlot i (fun m => { m with discard := true }) else s.modSlot i (fun _ => .idle)

/-- R394; a function-level reset of the owner function is not supported. -/
def execFunctionLevelReset (fn : Fin 9) (s : State) : Result :=
  let t := s.quiet
  if fn.val = 0 || !t.boot.linkUp then done t
  else
    let u := match t.boundPen fn with
      | some p => if (t.pen p).state.abortable then (t.hostAbort p).retryAllocs else t
      | none => t
    done ((u.resetSlot (fn.val + 3)).settleRound)

/-- R393: accepted only when no pen is RUNNING. -/
def execD3hotEntry (s : State) : Result :=
  let t := s.quiet
  done (if t.boot.linkUp then t.enterD3hot else t)

/-- R392: the modes that the partner supports and the channel allows. -/
def commonModes (partner channel : List (HostRate × HostWidth)) : List (HostRate × HostWidth) := partner.filter channel.contains

/-- R392: a link that is up settles on the best mode that the partner and the channel now allow, one that is down will. -/
def execHostLinkRetrain (partner channel : List (HostRate × HostWidth)) (flitMode : Bool) (s : State) : Result :=
  let t := s.quiet.modBoot (fun b => { b with linkModes := commonModes partner channel, partnerFlit := flitMode })
  done (if t.boot.linkUp then t.modBoot Boot.train else t)

/-! ## The management port (R463) -/

/-- R463: the port serves from stage 1. -/
def State.i3cServes (s : State) : Bool := 1 ≤ s.boot.stage

/-- R463: the port map, byte by byte. -/
def State.i3cByte (s : State) (o : Nat) : Byte :=
  let word (base w : Nat) : Byte := BitVec.ofNat 8 (w >>> (8 * (o - base)))
  if o < 0x20 then word (o / 4 * 4) (s.identityWord 0 (o / 4 * 4))
  else if o < 0x24 then word 0x20 (s.stageReg 0)
  else if 0x30 ≤ o && o < 0x34 then word 0x30 s.sdStatus
  else if 0x40 ≤ o && o < 0x44 then word 0x40 s.resetCtrl
  else if 0x44 ≤ o && o < 0x48 then word 0x44 s.resetCause
  else if 0x100 ≤ o && o < 0x200 then word (o / 8 * 8) (s.item ((o - 0x100) / 8))
  else 0

/-- R463: an offset and data; only RESET_CTRL is writable. -/
def execI3cPrivateWrite (bytes : List Byte) (s : State) : Result :=
  let t := s.quiet
  if t.i3cServes && 2 ≤ bytes.length then
    let o := leField bytes 0 2
    let data := bytes.drop 2
    let u := t.modHost (fun h => { h with i3cOffset := o })
    done (if o ≤ 0x40 && 0x40 < o + data.length then u.writeResetCtrl (leField data (0x40 - o) 4) else u)
  else done t

def execI3cPrivateRead (len : Nat) (s : State) : Result :=
  let t := s.quiet
  if t.i3cServes then
    let o := t.host.i3cOffset
    done ((t.modHost (fun h => { h with i3cOffset := o + len })).emit (.readData ((List.range len).map (fun i => t.i3cByte (o + i))) false))
  else done t

/-- R463: bit 32 set, bits [31:0] SERIAL[31:0]. -/
def State.i3cPid (s : State) : Nat := 2 ^ 32 + s.dog.serial.toNat % 2 ^ 32

/-- A CCC whose answer the manual does not state: free bytes. -/
def i3cFree (n : Nat) (s : State) : Result :=
  let t := s.quiet
  if t.i3cServes then
    let r := t.drawBytes n
    done (r.2.emit (.i3c r.1))
  else done t

/-- The dynamic address assignment: the target answers its provisional ID, BCR and DCR. -/
def execEntdaa (addr : BitVec 7) (s : State) : Result :=
  let t := s.quiet
  if t.i3cServes && t.host.i3cAddr.isNone then
    let r := t.drawBytes 2
    done ((r.2.modHost (fun h => { h with i3cAddr := some addr })).emit (.i3c (leBytes 6 t.i3cPid ++ r.1)))
  else done t

/-- R463: the static address is 0x2C. -/
def execSetdasa (target addr : BitVec 7) (s : State) : Result :=
  let t := s.quiet
  done (if t.i3cServes && target = 0x2C && t.host.i3cAddr.isNone then t.modHost (fun h => { h with i3cAddr := some addr }) else t)

def execRstdaa (s : State) : Result :=
  let t := s.quiet
  done (if t.i3cServes then t.modHost (fun h => { h with i3cAddr := none }) else t)

def execGetpid (s : State) : Result :=
  let t := s.quiet
  done (if t.i3cServes then t.emit (.i3c (leBytes 6 t.i3cPid)) else t)

def execGetbcr (s : State) : Result := i3cFree 1 s
def execGetdcr (s : State) : Result := i3cFree 1 s
def execGetstatus (s : State) : Result := i3cFree 2 s
def execGetmwl (s : State) : Result := i3cFree 2 s
def execGetmrl (s : State) : Result := i3cFree 2 s

end Sys2Proof.Machine
end

