-- ==== Sys2Proof/Machine/Operators.lean ====
section
/-! DEFINITION. The operators of an OPR ring (R83): each command offers the ring's head descriptor of its opcode for
issue, with every check of R107. -/

namespace Sys2Proof.Machine

/-- R88. -/
def execGemm (q : Nat) (s : State) : Result := done (s.quiet.issueHead q 0x10)

/-- R98. -/
def execConv (q : Nat) (s : State) : Result := done (s.quiet.issueHead q 0x11)

/-- R104. -/
def execCropResize (q : Nat) (s : State) : Result := done (s.quiet.issueHead q 0x12)

/-- R174. -/
def execAttnFwd (q : Nat) (s : State) : Result := done (s.quiet.issueHead q 0x20)

/-- R177. -/
def execAttnBwd (q : Nat) (s : State) : Result := done (s.quiet.issueHead q 0x21)

/-- R119. -/
def execNorm (q : Nat) (s : State) : Result := done (s.quiet.issueHead q 0x30)

/-- R123. -/
def execSoftmax (q : Nat) (s : State) : Result := done (s.quiet.issueHead q 0x31)

/-- R125. -/
def execEltwise (q : Nat) (s : State) : Result := done (s.quiet.issueHead q 0x32)

/-- R128. -/
def execReduce (q : Nat) (s : State) : Result := done (s.quiet.issueHead q 0x33)

/-- R129. -/
def execRngFill (q : Nat) (s : State) : Result := done (s.quiet.issueHead q 0x34)

/-- R130. -/
def execOptStep (q : Nat) (s : State) : Result := done (s.quiet.issueHead q 0x35)

/-- R133. -/
def execLoss (q : Nat) (s : State) : Result := done (s.quiet.issueHead q 0x36)

/-- R135. -/
def execCast (q : Nat) (s : State) : Result := done (s.quiet.issueHead q 0x37)

/-- R136. -/
def execMove (q : Nat) (s : State) : Result := done (s.quiet.issueHead q 0x40)

/-- R137. -/
def execFence (q : Nat) (s : State) : Result := done (s.quiet.issueHead q 0x41)

/-- R138. -/
def execLayerMark (q : Nat) (s : State) : Result := done (s.quiet.issueHead q 0x42)

/-- R139. -/
def execCollStep (q : Nat) (s : State) : Result := done (s.quiet.issueHead q 0x43)

end Sys2Proof.Machine
end

