-- ==== Sys2Proof/Machine/PenRows.lean ====
section
/-! DEFINITION. How a pen's drain and its wipe end (R355, R357, R360). -/

namespace Sys2Proof.Machine

/-! ## The drain (R355) -/

/-- R355: no task of the pen remains: QUIESCED, the Drover's handling of R251, and JOB_QUIESCE answers. -/
def execQuiesceDrainComplete (pen : Fin 8) (s : State) : Result :=
  let t := s.quiet
  let p := pen.val
  if (t.pen p).state = .quiescing && t.penDrained p && t.boot.shepherdRuns then
    done (((t.modPen p (fun x => { x with state := .quiesced })).droverQuiesce p).answerPen 0x0902 p stOk)
  else done t

/-- R355, R357: a drain that is not finished after 1 s. -/
def execQuiesceTimeout (pen : Fin 8) (s : State) : Result :=
  let t := s.quiet
  let p := pen.val
  match (t.pen p).state with
  | .quiescing => done ((t.answerPen 0x0902 p stTimeout).penFault p 0x85 0).retryAllocs
  | .running => done (if t.boot.ccDraining && !(t.penDrained p) then (t.penFault p 0x85 0).retryAllocs else t)
  | .empty | .ready | .quiesced | .faulted | .wiping => done t

/-! ## The wipe (R360) -/

/-- R360: whole near pages are written with zeros. -/
def State.zeroPages (s : State) (pages : List Nat) : State :=
  let mine (a : Nat) : Bool := pages.contains (a / pageBytes)
  (s.modNp (fun n => { n with
    mem := n.mem.filter (fun c => !(mine c.1)), poison := n.poison.filter (fun l => !(mine l))
    loose := pages.foldl (fun l p => cutLoose l (p * pageBytes) pageBytes) n.loose
    wc := n.wc.filter (fun e => !(mine e.line)), waiting := n.waiting.filter (fun r => !(mine r.kind.addr)) })).count 17 (pageBytes * pages.length)

/-- R360: the chunks of a far copy are overwritten with zeros. -/
def State.zeroFar (s : State) (f : FarCopy) : State :=
  (s.forAll (List.range (ceilDiv f.bytes 4096)) (fun t c => t.emit (.farZero (f.chunkPlace c).1 (f.chunkPlace c).2 4096))).count 21
    (4096 * ceilDiv f.bytes 4096)

/-- The far copies of a tensor, with what a write-behind has written. -/
def Tensor.farCopies (t : Tensor) : List FarCopy :=
  t.far.toList ++ (match t.wb with
    | some w => [{ stripe := w.stripe, bytes := w.form.length, place := w.place, exact := w.exact }]
    | none => [])

/-- R360: the halves last written by the pen hold nothing of it. -/
def Fold.wiped (f : Fold) (pen : Nat) : Fold :=
  let clear (h : AccHalf) : AccHalf := if h.lastPen = some pen then AccHalf.idle else h
  { f with half0 := clear f.half0, half1 := clear f.half1 }

/-- R360: the near pages of a pen, those of allocations that are not mapped yet among them. -/
def Pen.nearPages (p : Pen) : List Nat := ((p.pages ++ p.tensors.flatMap Tensor.room).map Prod.snd).eraseDups

/-- R360: what the wipe leaves of a pen: nothing. -/
def State.wipePen (s : State) (pen : Nat) : State :=
  let p := s.pen pen
  let pages := p.nearPages
  let s1 := (s.zeroPages pages).forAll (p.tensors.flatMap Tensor.farCopies) State.zeroFar
  let s2 := (s1.modDrover (fun d => { d with
    nearUsed := d.nearUsed.filter (fun n => !(pages.contains n))
    verdicts := d.verdicts.filter (fun v => v.1.handle.toNat / 2 ^ 29 != pen)
    basePens := d.basePens.filter (fun x => x.2 != pen) })).modComp (fun c => { c with folds := c.folds.map (fun f => f.wiped pen) })
  let s3 := s2.modQe (fun e => { e with
    queues := e.queues.filter (fun q => q.pen != pen), rops := e.rops.filter (fun r => r.pen != pen)
    opens := e.opens.filter (fun o => o.pen != pen) })
  (s3.modPen pen (fun _ => .vacant)).retryAllocs

/-- R360: the pen is EMPTY when the last write is visible; its operations in flight and its pictures have ended before (R321,
R368). -/
def execWipeComplete (pen : Fin 8) (s : State) : Result :=
  let t := s.quiet
  let p := pen.val
  if (t.pen p).state = .wiping && t.qe.rops.all (fun r => r.pen != p) && t.video.streams.all (fun x => x.pen != p) &&
      (t.pen p).nearPages.all (fun n => !(t.npHeld .wipe (n * pageBytes) pageBytes)) then
    done (t.wipePen p)
  else done t

end Sys2Proof.Machine
end

