-- ==== Sys2Proof/Machine/Dispatch.lean ====
section
/-! DEFINITION. One arm per command of the table: a direct call of its meaning. -/

namespace Sys2Proof.Machine

def exec (i : Instr) (s : State) : Host.Outcome State Fault Refusal :=
  match i with
  | .resetNLow => Sys2Proof.Machine.execResetNLow s
  | .resetNRelease => Sys2Proof.Machine.execResetNRelease s
  | .perstNAssert => Sys2Proof.Machine.execPerstNAssert s
  | .perstNRelease => Sys2Proof.Machine.execPerstNRelease s
  | .vddAonLoss => Sys2Proof.Machine.execVddAonLoss s
  | .vddTransitLoss aonUp => Sys2Proof.Machine.execVddTransitLoss aonUp s
  | .railGood rail => Sys2Proof.Machine.execRailGood rail s
  | .railHold rail => Sys2Proof.Machine.execRailHold rail s
  | .railGoodTimeout rail => Sys2Proof.Machine.execRailGoodTimeout rail s
  | .thermtrip die => Sys2Proof.Machine.execThermtrip die s
  | .powerBrakeNAsserted => Sys2Proof.Machine.execPowerBrakeNAsserted s
  | .powerBrakeNReleased => Sys2Proof.Machine.execPowerBrakeNReleased s
  | .presencePress rested => Sys2Proof.Machine.execPresencePress rested s
  | .presenceStuck => Sys2Proof.Machine.execPresenceStuck s
  | .presenceWindowExpiry => Sys2Proof.Machine.execPresenceWindowExpiry s
  | .sealSample pins => Sys2Proof.Machine.execSealSample pins s
  | .stageManagement => Sys2Proof.Machine.execStageManagement s
  | .stageFirmware => Sys2Proof.Machine.execStageFirmware s
  | .stageReduced badFolds badCommons => Sys2Proof.Machine.execStageReduced badFolds badCommons s
  | .stageMemory badStacks expanders => Sys2Proof.Machine.execStageMemory badStacks expanders s
  | .stageFull => Sys2Proof.Machine.execStageFull s
  | .resetCtrlCc value => Sys2Proof.Machine.execResetCtrlCc value s
  | .resetCtrlWarm value => Sys2Proof.Machine.execResetCtrlWarm value s
  | .resetCtrlCold value => Sys2Proof.Machine.execResetCtrlCold value s
  | .heartbeatReset => Sys2Proof.Machine.execHeartbeatReset s
  | .ccResetEscalation => Sys2Proof.Machine.execCcResetEscalation s
  | .ccDrainComplete => Sys2Proof.Machine.execCcDrainComplete s
  | .shepherdRestart => Sys2Proof.Machine.execShepherdRestart s
  | .fwHealthTimeout => Sys2Proof.Machine.execFwHealthTimeout s
  | .healthWatchdog => Sys2Proof.Machine.execHealthWatchdog s
  | .firmwareSelftestPass => Sys2Proof.Machine.execFirmwareSelftestPass s
  | .powerMeasurement milliwatts dieTemps => Sys2Proof.Machine.execPowerMeasurement milliwatts dieTemps s
  | .capIteration => Sys2Proof.Machine.execCapIteration s
  | .tallyTick => Sys2Proof.Machine.execTallyTick s
  | .tallyReq => Sys2Proof.Machine.execTallyReq s
  | .mbCtrlGo fn slot irq => Sys2Proof.Machine.execMbCtrlGo fn slot irq s
  | .mbCtrlAbort fn slot => Sys2Proof.Machine.execMbCtrlAbort fn slot s
  | .commandTimeout fn slot => Sys2Proof.Machine.execCommandTimeout fn slot s
  | .registerWrite fn place wide value => Sys2Proof.Machine.execRegisterWrite fn place wide value s
  | .bar0Access fn bar2 write off size => Sys2Proof.Machine.execBar0Access fn bar2 write off size s
  | .timeNowRead => Sys2Proof.Machine.execTimeNowRead s
  | .doorbellAdd fn q value => Sys2Proof.Machine.execDoorbellAdd fn q value s
  | .doorbellRestart fn q value => Sys2Proof.Machine.execDoorbellRestart fn q value s
  | .bar4Read fn off len => Sys2Proof.Machine.execBar4Read fn off len s
  | .bar4Write fn off bytes => Sys2Proof.Machine.execBar4Write fn off bytes s
  | .functionLevelReset fn => Sys2Proof.Machine.execFunctionLevelReset fn s
  | .d3hotEntry => Sys2Proof.Machine.execD3hotEntry s
  | .i3cPrivateWrite bytes => Sys2Proof.Machine.execI3cPrivateWrite bytes s
  | .i3cPrivateRead len => Sys2Proof.Machine.execI3cPrivateRead len s
  | .entdaa addr => Sys2Proof.Machine.execEntdaa addr s
  | .setdasa target addr => Sys2Proof.Machine.execSetdasa target addr s
  | .rstdaa => Sys2Proof.Machine.execRstdaa s
  | .getpid => Sys2Proof.Machine.execGetpid s
  | .getbcr => Sys2Proof.Machine.execGetbcr s
  | .getdcr => Sys2Proof.Machine.execGetdcr s
  | .getstatus => Sys2Proof.Machine.execGetstatus s
  | .getmwl => Sys2Proof.Machine.execGetmwl s
  | .getmrl => Sys2Proof.Machine.execGetmrl s
  | .devIdentify fn slot => Sys2Proof.Machine.execDevIdentify fn slot s
  | .devStatus fn slot => Sys2Proof.Machine.execDevStatus fn slot s
  | .devCaps fn slot => Sys2Proof.Machine.execDevCaps fn slot s
  | .penCreate fn slot => Sys2Proof.Machine.execPenCreate fn slot s
  | .penDestroy fn slot => Sys2Proof.Machine.execPenDestroy fn slot s
  | .penSetQuota fn slot => Sys2Proof.Machine.execPenSetQuota fn slot s
  | .penSetPriority fn slot => Sys2Proof.Machine.execPenSetPriority fn slot s
  | .penBindVf fn slot => Sys2Proof.Machine.execPenBindVf fn slot s
  | .tensorRegister fn slot => Sys2Proof.Machine.execTensorRegister fn slot s
  | .tensorRelease fn slot => Sys2Proof.Machine.execTensorRelease fn slot s
  | .itineraryLoad fn slot => Sys2Proof.Machine.execItineraryLoad fn slot s
  | .poolQuery fn slot => Sys2Proof.Machine.execPoolQuery fn slot s
  | .baseRegister fn slot => Sys2Proof.Machine.execBaseRegister fn slot s
  | .fabricTopologySet fn slot => Sys2Proof.Machine.execFabricTopologySet fn slot s
  | .linkStatus fn slot => Sys2Proof.Machine.execLinkStatus fn slot s
  | .queueCreate fn slot => Sys2Proof.Machine.execQueueCreate fn slot s
  | .queueDestroy fn slot => Sys2Proof.Machine.execQueueDestroy fn slot s
  | .timeRoleSet fn slot => Sys2Proof.Machine.execTimeRoleSet fn slot s
  | .videoStreamOpen fn slot => Sys2Proof.Machine.execVideoStreamOpen fn slot s
  | .videoStreamClose fn slot => Sys2Proof.Machine.execVideoStreamClose fn slot s
  | .videoPoolSet fn slot => Sys2Proof.Machine.execVideoPoolSet fn slot s
  | .fwUpdateBegin fn slot holdup => Sys2Proof.Machine.execFwUpdateBegin fn slot holdup s
  | .fwUpdateBlock fn slot holdup => Sys2Proof.Machine.execFwUpdateBlock fn slot holdup s
  | .fwUpdateCommit fn slot holdup => Sys2Proof.Machine.execFwUpdateCommit fn slot holdup s
  | .fwConfirmHealth fn slot => Sys2Proof.Machine.execFwConfirmHealth fn slot s
  | .fwUpdateAbort fn slot => Sys2Proof.Machine.execFwUpdateAbort fn slot s
  | .fwSlotStatus fn slot => Sys2Proof.Machine.execFwSlotStatus fn slot s
  | .lcStateGet fn slot strap => Sys2Proof.Machine.execLcStateGet fn slot strap s
  | .lcTransition fn slot strap => Sys2Proof.Machine.execLcTransition fn slot strap s
  | .ownerLock fn slot strap => Sys2Proof.Machine.execOwnerLock fn slot strap s
  | .ownerUnlock fn slot strap => Sys2Proof.Machine.execOwnerUnlock fn slot strap s
  | .faultRead fn slot => Sys2Proof.Machine.execFaultRead fn slot s
  | .faultClear fn slot => Sys2Proof.Machine.execFaultClear fn slot s
  | .tallySnapshot fn slot => Sys2Proof.Machine.execTallySnapshot fn slot s
  | .telemetryRead fn slot => Sys2Proof.Machine.execTelemetryRead fn slot s
  | .powerLimitSet fn slot => Sys2Proof.Machine.execPowerLimitSet fn slot s
  | .jobSubmit fn slot => Sys2Proof.Machine.execJobSubmit fn slot s
  | .jobQuiesce fn slot => Sys2Proof.Machine.execJobQuiesce fn slot s
  | .jobResume fn slot => Sys2Proof.Machine.execJobResume fn slot s
  | .checkpointDrain fn slot => Sys2Proof.Machine.execCheckpointDrain fn slot s
  | .jobAbort fn slot => Sys2Proof.Machine.execJobAbort fn slot s
  | .debugUnlock fn slot strap => Sys2Proof.Machine.execDebugUnlock fn slot strap s
  | .debugRegRead fn slot => Sys2Proof.Machine.execDebugRegRead fn slot s
  | .debugRegWrite fn slot => Sys2Proof.Machine.execDebugRegWrite fn slot s
  | .gemm q => Sys2Proof.Machine.execGemm q s
  | .conv q => Sys2Proof.Machine.execConv q s
  | .cropResize q => Sys2Proof.Machine.execCropResize q s
  | .norm q => Sys2Proof.Machine.execNorm q s
  | .softmax q => Sys2Proof.Machine.execSoftmax q s
  | .eltwise q => Sys2Proof.Machine.execEltwise q s
  | .reduce q => Sys2Proof.Machine.execReduce q s
  | .rngFill q => Sys2Proof.Machine.execRngFill q s
  | .optStep q => Sys2Proof.Machine.execOptStep q s
  | .loss q => Sys2Proof.Machine.execLoss q s
  | .cast q => Sys2Proof.Machine.execCast q s
  | .move q => Sys2Proof.Machine.execMove q s
  | .fence q => Sys2Proof.Machine.execFence q s
  | .layerMark q => Sys2Proof.Machine.execLayerMark q s
  | .collStep q => Sys2Proof.Machine.execCollStep q s
  | .attnFwd q => Sys2Proof.Machine.execAttnFwd q s
  | .attnBwd q => Sys2Proof.Machine.execAttnBwd q s
  | .taskIssue => Sys2Proof.Machine.execTaskIssue s
  | .taskCompletion phys half => Sys2Proof.Machine.execTaskCompletion phys half s
  | .confirm handle chunk => Sys2Proof.Machine.execConfirm handle chunk s
  | .reject handle chunk => Sys2Proof.Machine.execReject handle chunk s
  | .foldBufferCe phys buffer => Sys2Proof.Machine.execFoldBufferCe phys buffer s
  | .foldBufferUe phys gone0 gone1 => Sys2Proof.Machine.execFoldBufferUe phys gone0 gone1 s
  | .foldParity phys gone0 gone1 => Sys2Proof.Machine.execFoldParity phys gone0 gone1 s
  | .foldTaskTimeout phys half gone0 gone1 => Sys2Proof.Machine.execFoldTaskTimeout phys half gone0 gone1 s
  | .spareTakeover bad => Sys2Proof.Machine.execSpareTakeover bad s
  | .spareSelftest phys pass => Sys2Proof.Machine.execSpareSelftest phys pass s
  | .fetchRepredict => Sys2Proof.Machine.execFetchRepredict s
  | .needWaitTimeout handle => Sys2Proof.Machine.execNeedWaitTimeout handle s
  | .farReadComplete handle chunk bytes poison => Sys2Proof.Machine.execFarReadComplete handle chunk bytes poison s
  | .farReadTimeout handle chunk => Sys2Proof.Machine.execFarReadTimeout handle chunk s
  | .writeBehindComplete handle => Sys2Proof.Machine.execWriteBehindComplete handle s
  | .farWriteFailure handle port => Sys2Proof.Machine.execFarWriteFailure handle port s
  | .recipeComplete handle => Sys2Proof.Machine.execRecipeComplete handle s
  | .dltEncodeComplete handle => Sys2Proof.Machine.execDltEncodeComplete handle s
  | .poolExhausted handle => Sys2Proof.Machine.execPoolExhausted handle s
  | .lastUseSweep => Sys2Proof.Machine.execLastUseSweep s
  | .goldenScrub base chunks poison => Sys2Proof.Machine.execGoldenScrub base chunks poison s
  | .nearPastureRead cls source addr len => Sys2Proof.Machine.execNearPastureRead cls source addr len s
  | .nearPastureWrite cls source addr bytes => Sys2Proof.Machine.execNearPastureWrite cls source addr bytes s
  | .accumulateWrite cls source addr targetBf16 addendBf16 addends => Sys2Proof.Machine.execAccumulateWrite cls source addr targetBf16 addendBf16 addends s
  | .wcAgeFlush line => Sys2Proof.Machine.execWcAgeFlush line s
  | .requestAging index => Sys2Proof.Machine.execRequestAging index s
  | .requestWaitBound index => Sys2Proof.Machine.execRequestWaitBound index s
  | .stackTemperatureRead stack celsius => Sys2Proof.Machine.execStackTemperatureRead stack celsius s
  | .slowRepeat => Sys2Proof.Machine.execSlowRepeat s
  | .npCe addr => Sys2Proof.Machine.execNpCe addr s
  | .npUe addr => Sys2Proof.Machine.execNpUe addr s
  | .patrolScrub group corrected => Sys2Proof.Machine.execPatrolScrub group corrected s
  | .retrainPeriod group => Sys2Proof.Machine.execRetrainPeriod group s
  | .retrainWindowStart => Sys2Proof.Machine.execRetrainWindowStart s
  | .retrainWindowEnd => Sys2Proof.Machine.execRetrainWindowEnd s
  | .portSignalDetect port lanes => Sys2Proof.Machine.execPortSignalDetect port lanes s
  | .trainingFrame port coord extent peerPort slOk => Sys2Proof.Machine.execTrainingFrame port coord extent peerPort slOk s
  | .portUp port goodFast goodSlow lightBer => Sys2Proof.Machine.execPortUp port goodFast goodSlow lightBer s
  | .negotiationTimeout port => Sys2Proof.Machine.execNegotiationTimeout port s
  | .negotiationRetry port => Sys2Proof.Machine.execNegotiationRetry port s
  | .laneNarrowing port lane => Sys2Proof.Machine.execLaneNarrowing port lane s
  | .laneWidening port => Sys2Proof.Machine.execLaneWidening port s
  | .flit port bytes => Sys2Proof.Machine.execFlit port bytes s
  | .validFlitTimeout port => Sys2Proof.Machine.execValidFlitTimeout port s
  | .lossOfSignal port => Sys2Proof.Machine.execLossOfSignal port s
  | .packet input cls => Sys2Proof.Machine.execPacket input cls s
  | .refusal => Sys2Proof.Machine.execRefusal s
  | .ringNotice => Sys2Proof.Machine.execRingNotice s
  | .isolate => Sys2Proof.Machine.execIsolate s
  | .topologyDrainComplete => Sys2Proof.Machine.execTopologyDrainComplete s
  | .timeSync => Sys2Proof.Machine.execTimeSync s
  | .timeSyncPeriod => Sys2Proof.Machine.execTimeSyncPeriod s
  | .delayReq => Sys2Proof.Machine.execDelayReq s
  | .delayResp => Sys2Proof.Machine.execDelayResp s
  | .delayReqPeriod port => Sys2Proof.Machine.execDelayReqPeriod port s
  | .holdover => Sys2Proof.Machine.execHoldover s
  | .epochReq => Sys2Proof.Machine.execEpochReq s
  | .beacon => Sys2Proof.Machine.execBeacon s
  | .beaconPeriod => Sys2Proof.Machine.execBeaconPeriod s
  | .beaconTimeout => Sys2Proof.Machine.execBeaconTimeout s
  | .probe => Sys2Proof.Machine.execProbe s
  | .probeTimeout => Sys2Proof.Machine.execProbeTimeout s
  | .bellwetherChange => Sys2Proof.Machine.execBellwetherChange s
  | .join => Sys2Proof.Machine.execJoin s
  | .faultNotice => Sys2Proof.Machine.execFaultNotice s
  | .collectEnd key => Sys2Proof.Machine.execCollectEnd key s
  | .haltAckTimeout key => Sys2Proof.Machine.execHaltAckTimeout key s
  | .recovery => Sys2Proof.Machine.execRecovery s
  | .recoveryAck => Sys2Proof.Machine.execRecoveryAck s
  | .managementResend => Sys2Proof.Machine.execManagementResend s
  | .coordinatorLost pen => Sys2Proof.Machine.execCoordinatorLost pen s
  | .slow => Sys2Proof.Machine.execSlow s
  | .slowExpiry port => Sys2Proof.Machine.execSlowExpiry port s
  | .collWatchdog q => Sys2Proof.Machine.execCollWatchdog q s
  | .put q => Sys2Proof.Machine.execPut q s
  | .get q => Sys2Proof.Machine.execGet q s
  | .putAcc q => Sys2Proof.Machine.execPutAcc q s
  | .atomic q => Sys2Proof.Machine.execAtomic q s
  | .signal q => Sys2Proof.Machine.execSignal q s
  | .ropFence q => Sys2Proof.Machine.execRopFence q s
  | .putData => Sys2Proof.Machine.execPutData s
  | .getReq => Sys2Proof.Machine.execGetReq s
  | .atomicReq => Sys2Proof.Machine.execAtomicReq s
  | .signalReq => Sys2Proof.Machine.execSignalReq s
  | .putAccData => Sys2Proof.Machine.execPutAccData s
  | .ack => Sys2Proof.Machine.execAck s
  | .getData => Sys2Proof.Machine.execGetData s
  | .valueResp => Sys2Proof.Machine.execValueResp s
  | .ropTimeout q seq => Sys2Proof.Machine.execRopTimeout q seq s
  | .data q => Sys2Proof.Machine.execData q s
  | .output q => Sys2Proof.Machine.execOutput q s
  | .encode q => Sys2Proof.Machine.execEncode q s
  | .flush q => Sys2Proof.Machine.execFlush q s
  | .picturePick core => Sys2Proof.Machine.execPicturePick core s
  | .pictureEnd core => Sys2Proof.Machine.execPictureEnd core s
  | .coreReset core => Sys2Proof.Machine.execCoreReset core s
  | .quiesceDrainComplete pen => Sys2Proof.Machine.execQuiesceDrainComplete pen s
  | .quiesceTimeout pen => Sys2Proof.Machine.execQuiesceTimeout pen s
  | .wipeComplete pen => Sys2Proof.Machine.execWipeComplete pen s
  | .hubEcc unit => Sys2Proof.Machine.execHubEcc unit s
  | .droveRoadCe unit => Sys2Proof.Machine.execDroveRoadCe unit s
  | .droveRoadUe unit => Sys2Proof.Machine.execDroveRoadUe unit s
  | .commonsUe bank => Sys2Proof.Machine.execCommonsUe bank s
  | .cometSramUe => Sys2Proof.Machine.execCometSramUe s
  | .talsenLinkDown port => Sys2Proof.Machine.execTalsenLinkDown port s
  | .talsenLinkUp port expander => Sys2Proof.Machine.execTalsenLinkUp port expander s
  | .talsenCorrectedError port => Sys2Proof.Machine.execTalsenCorrectedError port s
  | .holdupOkAsserted => Sys2Proof.Machine.execHoldupOkAsserted s
  | .flashSectorErased => Sys2Proof.Machine.execFlashSectorErased s
  | .farPastureOverwrite port bytes => Sys2Proof.Machine.execFarPastureOverwrite port bytes s
  | .heartbeatIncrement => Sys2Proof.Machine.execHeartbeatIncrement s
  | .hostLinkRetrain partner channel flitMode => Sys2Proof.Machine.execHostLinkRetrain partner channel flitMode s
  | .videoCoreResetEnd core => Sys2Proof.Machine.execVideoCoreResetEnd core s

end Sys2Proof.Machine
end

