-- ==== Sys2Proof/Safety.lean ====
section
/-! DEFINITION. What counts as a safe run of the block, in the terms the statements use: the machine's shape, the ranges of
its modes, the canonical form of its sparse memories, and which areas of the machine a command may change. -/

namespace Sys2Proof.Machine

/-- R252, R255: near pasture keeps its canonical form. -/
def State.MemCanonical (s : State) : Prop := cellsWf (0 : Byte) s.np.mem = true

/-- R398, R402: nine functions and twelve slots. -/
def HostIf.Sound (h : HostIf) : Prop := h.fns.length = 9 ∧ h.slots.length = 12

/-- R52, R53: 136 Folds and 128 logical slots. -/
def Compute.Sound (c : Compute) : Prop := c.folds.length = 136 ∧ c.slots.length = 128

/-- R108: a pen's signal counters keep their canonical form (an unlisted counter is zero). -/
def Pen.Sound (p : Pen) : Prop := cellsWf (0 : DWord) p.counters = true

/-- R256: one entry of a line, with the bytes of its mask in order and within the line. -/
def WcSound (l : List WcEntry) : Prop :=
  (l.map WcEntry.line).Nodup ∧
    ∀ e ∈ l, e.line % 256 = 0 ∧ (e.bytes.map Prod.fst).Pairwise (· < ·) ∧ ∀ x ∈ e.bytes, x.1 < 256

/-- R252, R256, R274: eight stacks, 64 groups, memory in canonical form, and at most one open entry of a line. -/
def NearMem.Sound (n : NearMem) : Prop :=
  n.stackList.length = 8 ∧ n.groups.length = 64 ∧ cellsWf (0 : Byte) n.mem = true ∧ WcSound n.wc

/-- R281, Table 11.7: eight ports and four rings. -/
def Fabric.Sound (f : Fabric) : Prop := f.ports.length = 8 ∧ f.rings.length = 4

/-- R366: six cores. -/
def Video.Sound (v : Video) : Prop := v.cores.length = 6

/-- R482, R492, R499: sixteen banks of the sizes of Table 20.1, 58 items, and a duty from 4 to 16. -/
def Health.Sound (h : Health) : Prop :=
  h.banks.map (fun b => b.records.length) = bankSizes ∧ h.counters.length = 58 ∧ 4 ≤ h.power.duty ∧ h.power.duty ≤ 16

/-- Table 16.5 and Table 18.8: a stage from 0 to 5, and counts of 8 bits. -/
def Boot.Sound (b : Boot) : Prop := b.stage ≤ 5 ∧ b.ccStage ≤ 5 ∧ b.ccCount ≤ 255 ∧ b.warmCount ≤ 255

/-- Table 17.13, R431: a life-cycle state from 0 to 5 and a debug level from 0 to 2. -/
def Sheepdog.Sound (g : Sheepdog) : Prop := g.lcState ≤ 5 ∧ g.debugLevel ≤ 2

/-- Table 13.6: a role from 0 to 3. -/
def TimeUnit.Sound (t : TimeUnit) : Prop := t.role ≤ 3

/-- The parts of the machine that the manual numbers are all there, its modes are legal, and its sparse memories are in
canonical form. -/
structure State.Sound (s : State) : Prop where
  dog : s.dog.Sound
  boot : s.boot.Sound
  host : s.host.Sound
  comp : s.comp.Sound
  pens : s.pens.length = 8 ∧ ∀ p ∈ s.pens, p.Sound
  talsen : s.talsen.length = 4
  np : s.np.Sound
  fab : s.fab.Sound
  time : s.time.Sound
  video : s.video.Sound
  health : s.health.Sound

/-! ## What the statements on resets and on the mailboxes speak of -/

/-- Table 18.6, first column: what a cold reset leaves of a machine. -/
structure AfterColdReset (s t : State) (cause : Nat) : Prop where
  stage : t.boot.stage = 0
  enables : t.boot.transitEn = false ∧ t.boot.hubEn = false ∧ t.boot.fieldEn = false
  stopped : t.boot.linkUp = false ∧ t.boot.shepherdRuns = false ∧ t.boot.resetting = some .cold
  lastCause : s.boot.resetting ≠ some .cold → t.boot.lastCause = cause
  counts : t.boot.ccCount = 0 ∧ t.boot.warmCount = 0
  parts : t.host = .initial ∧ t.comp = Compute.unpowered t.dog.retiredNow Compute.initial.slots ∧ t.pens = State.reset.pens ∧ t.drover = .initial ∧ t.talsen = State.reset.talsen ∧
    t.np = .initial ∧ t.fab = .initial ∧ t.qe = State.reset.qe ∧ t.coord = State.reset.coord ∧ t.video = .initial
  time : t.time.now = 0 ∧ t.time.epoch = 0
  counters : t.health.counters = Health.initial.counters
  sheepdog : t.dog.session = none ∧ t.dog.window = none ∧ t.dog.debugLevel = 0 ∧ t.dog.ownerSlots = s.dog.ownerSlots ∧
    t.dog.floor = s.dog.floor

/-- Table 18.6, second column: what a warm reset leaves of a machine at stage 2 or above. -/
structure AfterWarmReset (s t : State) (cause : Nat) : Prop where
  stage : t.boot.stage = 2
  state : t.boot.shepherdRuns = false ∧ t.boot.resetting = some .warm ∧ t.boot.lastCause = cause ∧
    t.boot.warmCount = satInc s.boot.warmCount 255
  parts : t.pens = State.reset.pens ∧ t.drover = .initial ∧ t.qe = State.reset.qe ∧ t.coord = State.reset.coord ∧ t.video = .initial ∧
    t.comp = Compute.unpowered t.dog.retiredNow s.comp.slots
  memory : t.np.mem = [] ∧ t.np.loose = [] ∧ t.np.poison = [] ∧ t.np.wc = [] ∧ t.np.waiting = []
  fabric : t.fab.ports = s.fab.ports ∧ t.fab.coord = s.fab.coord ∧ t.fab.extent = s.fab.extent ∧ t.fab.placed = s.fab.placed
  time : t.time = s.time
  banks : t.health.banks = s.health.banks
  slots : ∀ i < 12, t.slotAt i = (s.slotAt i).returned
  ports : s.dog.lcState ≠ lcDecommissioned → ∀ x ∈ t.talsen, x.state = .training
  sheepdog : t.dog.session = none ∧ t.dog.window = none ∧ t.dog.debugLevel = 0 ∧ t.dog.lcState = s.dog.lcState

/-- R443, R444, Tables 18.5 and 18.6: what the trigger of a control-complex reset leaves: STAGE reads 2 while the pens drain, and the
stage that the device returns to is kept. -/
structure AfterCcTrigger (s t : State) (cause : Nat) : Prop where
  stage : t.boot.stage = 2
  state : t.boot.resetting = some .controlComplex ∧ t.boot.ccDraining = true ∧ t.boot.ccStage = s.boot.stage
  record : t.boot.lastCause = cause ∧ t.boot.ccCount = satInc s.boot.ccCount 255
  kept : t.pens = s.pens ∧ t.qe = s.qe ∧ t.np = s.np ∧ t.fab = s.fab ∧ t.time = s.time

/-- Whether an accumulate-write has an element over a byte. -/
def NpKind.addsAt (x : Nat) : NpKind → Prop
  | .acc a bf16 _ ys => a ≤ x ∧ x < a + ys.length * (if bf16 then 2 else 4)
  | .read _ _ | .fetch _ _ | .write _ _ | .merge _ _ => False

/-- No write of a byte waits at its pseudo-channel, and no accumulate-write over it. -/
def NearMem.SettledAt (n : NearMem) (x : Nat) : Prop := n.pendingByte x = none ∧ ∀ r ∈ n.waiting, ¬ r.kind.addsAt x

/-- Where the near addresses end that a command names; 0 of a command that names none. -/
def Instr.nearEnd : Instr → Nat
  | .nearPastureRead _ _ a len => a + len
  | .nearPastureWrite _ _ a bs => a + bs.length
  | .accumulateWrite _ _ a bf16 _ ys => a + ys.length * (if bf16 then 2 else 4)
  | .npCe a | .npUe a => a + 1
  | _ => 0

/-- R399, R400, R402: it is a slot's turn, and its request names an opcode and passes every check. -/
structure State.Waits (s : State) (fn : Fin 9) (slot : Fin 4) (op : Nat) : Prop where
  due : s.slotDue = some (slotIndex fn slot)
  served : s.served = true
  opcode : leField (s.slotAt (slotIndex fn slot)).request 0 2 = op
  passes : s.precheck fn.val (slotIndex fn slot) (s.slotAt (slotIndex fn slot)) = none

/-- The request in a slot of a function, as its command reads it. -/
def State.reqIn (s : State) (fn : Fin 9) (slot : Fin 4) : Req :=
  { fn := fn.val, slot := slotIndex fn slot, pay := (s.slotAt (slotIndex fn slot)).request.drop 8 }

/-- R399: the request of a slot has been taken: the slot is BUSY, and nothing else has happened yet. -/
def State.taken (s : State) (fn : Fin 9) (slot : Fin 4) : State := s.quiet.takeGo (slotIndex fn slot)

/-- The areas of the machine: the fields of `State` but for the queue of waiting commands. -/
inductive Area where
  | dog | boot | host | comp | pens | drover | talsen | np | fab | qe | time | coord | video | health | out | free
deriving DecidableEq, Repr

/-- Two states agree on an area. -/
def Area.same : Area → State → State → Prop
  | .dog, s, t => t.dog = s.dog
  | .boot, s, t => t.boot = s.boot
  | .host, s, t => t.host = s.host
  | .comp, s, t => t.comp = s.comp
  | .pens, s, t => t.pens = s.pens
  | .drover, s, t => t.drover = s.drover
  | .talsen, s, t => t.talsen = s.talsen
  | .np, s, t => t.np = s.np
  | .fab, s, t => t.fab = s.fab
  | .qe, s, t => t.qe = s.qe
  | .time, s, t => t.time = s.time
  | .coord, s, t => t.coord = s.coord
  | .video, s, t => t.video = s.video
  | .health, s, t => t.health = s.health
  | .out, s, t => t.out = s.out
  | .free, s, t => t.free = s.free

/-- From `s` to `t` nothing has changed outside the areas `cs`, nor the queue of waiting commands. -/
structure Only (cs : List Area) (s t : State) : Prop where
  same : ∀ a, a ∉ cs → a.same s t
  pending : t.pending = s.pending

/-- The areas that a command may change, whatever the state: the frame of every row of the table. -/
def commandAreas : Instr → List Area
  | .getpid => [.out]
  | .resetNRelease | .thermtrip _ | .d3hotEntry | .coordinatorLost _ | .farPastureOverwrite _ _ | .heartbeatIncrement
    | .hostLinkRetrain _ _ _ => [.boot, .out]
  | .presencePress _ | .presenceWindowExpiry | .firmwareSelftestPass | .holdupOkAsserted => [.dog, .out]
  | .portSignalDetect _ _ | .negotiationTimeout _ | .negotiationRetry _ | .laneWidening _ | .delayResp | .slow
    | .slowExpiry _ => [.fab, .out]
  | .powerBrakeNAsserted | .powerBrakeNReleased | .powerMeasurement _ _ => [.health, .out]
  | .timeNowRead | .i3cPrivateRead _ | .setdasa _ _ | .rstdaa => [.host, .out]
  | .requestAging _ | .retrainPeriod _ | .retrainWindowStart => [.np, .out]
  | .getbcr | .getdcr | .getstatus | .getmwl | .getmrl => [.out, .free]
  | .lastUseSweep => [.pens, .out]
  | .holdover => [.time, .out]
  | .picturePick _ => [.video, .out]
  | .spareTakeover _ => [.dog, .comp, .out]
  | .beacon => [.fab, .coord, .out]
  | .slowRepeat | .packet _ _ | .delayReq | .delayReqPeriod _ | .beaconPeriod | .managementResend => [.fab, .health, .out]
  | .epochReq => [.fab, .time, .out]
  | .capIteration | .tallyTick | .mbCtrlGo _ _ _ | .mbCtrlAbort _ _ | .bar0Access _ _ _ _ _ | .devIdentify _ _
    | .devStatus _ _ | .devCaps _ _ | .poolQuery _ _ | .linkStatus _ _ | .fwSlotStatus _ _ | .faultRead _ _
    | .telemetryRead _ _ | .powerLimitSet _ _ | .foldBufferCe _ _ | .droveRoadCe _ => [.host, .health, .out]
  | .entdaa _ => [.host, .out, .free]
  | .farWriteFailure _ _ => [.pens, .health, .out]
  | .perstNRelease | .railGood _ => [.boot, .fab, .time, .out]
  | .reject _ _ => [.comp, .drover, .health, .out]
  | .fetchRepredict => [.comp, .pens, .health, .out]
  | .presenceStuck | .fwHealthTimeout | .fwUpdateBegin _ _ _ | .fwUpdateBlock _ _ _ | .fwConfirmHealth _ _
    | .fwUpdateAbort _ _ | .lcStateGet _ _ _ | .ownerLock _ _ _ | .ownerUnlock _ _ _ | .faultClear _ _
    | .debugUnlock _ _ _ | .flashSectorErased => [.dog, .host, .health, .out]
  | .beaconTimeout | .probe | .join => [.fab, .coord, .health, .out]
  | .tallyReq => [.fab, .health, .out, .free]
  | .portUp _ _ _ _ | .ringNotice => [.fab, .qe, .health, .out]
  | .goldenScrub _ _ _ => [.host, .drover, .health, .out]
  | .trainingFrame _ _ _ _ _ => [.host, .fab, .health, .out]
  | .bar4Read _ _ _ | .bar4Write _ _ _ | .nearPastureRead _ _ _ _ | .nearPastureWrite _ _ _ _
    | .accumulateWrite _ _ _ _ _ _ | .wcAgeFlush _ | .requestWaitBound _ | .npCe _ | .patrolScrub _ _ => [.host, .np, .health, .out]
  | .penCreate _ _ | .penSetPriority _ _ | .penBindVf _ _ => [.host, .pens, .health, .out]
  | .queueCreate _ _ => [.host, .qe, .health, .out]
  | .timeRoleSet _ _ => [.host, .time, .health, .out]
  | .videoStreamOpen _ _ | .videoStreamClose _ _ => [.host, .video, .health, .out]
  | .stageFull => [.dog, .boot, .host, .health, .out]
  | .spareSelftest _ _ => [.dog, .host, .comp, .health, .out]
  | .sealSample _ => [.dog, .host, .health, .out, .free]
  | .recoveryAck => [.fab, .coord, .health, .out, .free]
  | .timeSync | .timeSyncPeriod => [.fab, .time, .health, .out, .free]
  | .debugRegRead _ _ => [.host, .comp, .health, .out, .free]
  | .debugRegWrite _ _ => [.host, .comp, .np, .health, .out]
  | .quiesceDrainComplete _ => [.host, .comp, .pens, .drover, .out]
  | .jobQuiesce _ _ => [.host, .comp, .pens, .health, .out]
  | .tallySnapshot _ _ => [.host, .fab, .health, .out, .free]
  | .laneNarrowing _ _ | .flit _ _ | .validFlitTimeout _ | .lossOfSignal _ => [.host, .fab, .qe, .health, .out]
  | .doorbellAdd _ _ _ | .doorbellRestart _ _ _ => [.host, .np, .qe, .health, .out]
  | .jobSubmit _ _ => [.host, .pens, .fab, .health, .out]
  | .queueDestroy _ _ => [.host, .qe, .video, .health, .out]
  | .railGoodTimeout _ => [.boot, .host, .comp, .fab, .health, .out]
  | .stageReduced _ _ | .heartbeatReset | .healthWatchdog | .fwUpdateCommit _ _ _ => [.dog, .boot, .host, .comp, .health, .out]
  | .talsenCorrectedError _ => [.host, .comp, .pens, .talsen, .health, .out]
  | .topologyDrainComplete => [.boot, .host, .fab, .qe, .time, .health, .out]
  | .bellwetherChange => [.boot, .pens, .fab, .time, .health, .out, .free]
  | .stageManagement => [.dog, .boot, .host, .fab, .time, .health, .out]
  | .commandTimeout _ _ => [.host, .pens, .drover, .fab, .video, .health, .out]
  | .put _ | .get _ | .putAcc _ | .atomic _ | .signal _ | .ropFence _ | .putData | .getReq | .atomicReq | .signalReq
    | .putAccData | .ack | .getData | .valueResp | .ropTimeout _ _ => [.host, .pens, .np, .fab, .qe, .health, .out]
  | .probeTimeout | .faultNotice | .collectEnd _ | .haltAckTimeout _ => [.boot, .pens, .fab, .time, .coord, .health, .out, .free]
  | .stageFirmware => [.dog, .boot, .host, .comp, .talsen, .health, .out, .free]
  | .fabricTopologySet _ _ => [.dog, .boot, .host, .fab, .qe, .time, .health, .out]
  | .tensorRegister _ _ => [.host, .comp, .pens, .drover, .np, .health, .out, .free]
  | .penDestroy _ _ => [.host, .comp, .pens, .drover, .qe, .video, .health, .out]
  | .data _ | .output _ | .encode _ | .flush _ | .pictureEnd _ | .coreReset _ | .videoCoreResetEnd _ => [.host, .pens, .np, .qe, .video, .health, .out, .free]
  | .ccDrainComplete => [.boot, .host, .comp, .pens, .drover, .np, .fab, .health, .out]
  | .stageMemory _ _ => [.dog, .boot, .host, .comp, .drover, .talsen, .np, .health, .out]
  | .penSetQuota _ _ | .tensorRelease _ _ | .itineraryLoad _ _ | .baseRegister _ _ | .videoPoolSet _ _
    | .jobResume _ _ | .checkpointDrain _ _ | .gemm _ | .conv _ | .cropResize _ | .norm _ | .softmax _ | .eltwise _
    | .reduce _ | .rngFill _ | .optStep _ | .loss _ | .cast _ | .move _ | .fence _ | .layerMark _ | .collStep _
    | .attnFwd _ | .attnBwd _ | .taskIssue | .taskCompletion _ _ | .confirm _ _ | .needWaitTimeout _
    | .farReadComplete _ _ _ _ | .farReadTimeout _ _ | .writeBehindComplete _ | .recipeComplete _
    | .dltEncodeComplete _ | .poolExhausted _ | .npUe _ | .collWatchdog _ | .quiesceTimeout _ | .wipeComplete _ => [.host, .comp, .pens, .drover, .np, .fab, .qe, .health, .out, .free]
  | .isolate | .hubEcc _ | .droveRoadUe _ | .commonsUe _ | .cometSramUe => [.boot, .host, .comp, .pens, .drover, .np, .fab, .qe, .health, .out, .free]
  | .refusal => [.boot, .host, .pens, .np, .fab, .qe, .time, .coord, .health, .out, .free]
  | .foldBufferUe _ _ _ | .foldParity _ _ _ | .foldTaskTimeout _ _ _ _ => [.dog, .host, .comp, .pens, .drover, .np, .fab, .qe, .health, .out, .free]
  | .functionLevelReset _ | .jobAbort _ _ | .retrainWindowEnd => [.host, .comp, .pens, .drover, .np, .fab, .qe, .video, .health, .out, .free]
  | .talsenLinkDown _ | .talsenLinkUp _ _ => [.host, .comp, .pens, .drover, .talsen, .np, .fab, .qe, .health, .out, .free]
  | .recovery => [.host, .comp, .pens, .drover, .np, .fab, .qe, .coord, .video, .health, .out, .free]
  | .perstNAssert | .ccResetEscalation | .lcTransition _ _ _ => [.dog, .boot, .host, .comp, .pens, .drover, .talsen, .np, .fab, .qe, .coord, .video, .health, .out]
  | .shepherdRestart => [.dog, .boot, .host, .comp, .pens, .drover, .talsen, .np, .fab, .qe, .video, .health, .out, .free]
  | .stackTemperatureRead _ _ => [.dog, .boot, .host, .comp, .pens, .drover, .talsen, .np, .fab, .qe, .coord, .video, .health, .out, .free]
  | .resetNLow | .vddAonLoss | .vddTransitLoss _ | .railHold _ | .resetCtrlCc _ | .resetCtrlWarm _ | .resetCtrlCold _
    | .registerWrite _ _ _ _ | .i3cPrivateWrite _ => [.dog, .boot, .host, .comp, .pens, .drover, .talsen, .np, .fab, .qe, .time, .coord, .video, .health, .out]

end Sys2Proof.Machine
end

