-- ==== Sys2Proof/Certificates/Slice0/Obligations.lean ====
section
/-! DEFINITION. The statements for the provers. -/

open Sys2Proof Sys2Proof.Machine

/-! ## The whole machine -/

/-- With a command at the front of the queue, a step is that command's meaning on the queue's rest. -/
def Obligations.StepRunsFrontCommand : Prop :=
∀ (c : Instr) (rest : List Instr) (s : State),
    step { s with pending := c :: rest } = exec c { s with pending := rest }

/-- With an empty queue a step is one nanosecond of the model's clock (log entry 2, DESIGN CHOICE): TIME advances
with it by one while the transit plane is live (R335) and no correction (R337) is in force, stands still while it is not, and nothing
outside the time unit changes. -/
def Obligations.IdleStepIsATick : Prop :=
∀ s : State, s.pending = [] → ∃ t, step s = .next t ∧ t.time.clock = s.time.clock + 1 ∧ t.out = [] ∧
    Only [.time, .out] s t ∧
    (s.transitLive = true → s.time.ratePpb = 0 → s.time.frac = 0 → t.time.now = s.time.now + 1 ∧ t.time.frac = 0) ∧
    (s.transitLive = false → t.time.now = s.time.now)

/-- Table 18.6: what the cold reset leaves, where the manual states it. -/
def Obligations.ResetState : Prop :=
State.reset.boot.stage = 0 ∧ State.reset.boot.heartbeat = 0 ∧ State.reset.boot.ccCount = 0 ∧ State.reset.boot.warmCount = 0 ∧
    (∀ p < 8, (State.reset.pen p).state = .empty ∧ (State.reset.pen p).pages = []) ∧
    (∀ a < nearBytes, State.reset.npByte a = 0) ∧ State.reset.np.poison = [] ∧
    (∀ p < 8, (State.reset.port p).lstate = .down) ∧ (∀ k < 136, (State.reset.fold k).state = .off) ∧
    (∀ i < 12, State.reset.slotAt i = .idle) ∧ State.reset.faultPending = false ∧ State.reset.time.epoch = 0 ∧
    State.reset.qe.queues = [] ∧ State.reset.pending = []

/-- The reset state has every part that the manual numbers, legal modes, and its sparse memories in canonical form. -/
def Obligations.ResetIsSound : Prop :=
State.reset.Sound

/-- Every step from a sound state that answers a next state answers a sound one: eight pens, ports and stacks, 136 Folds,
sixteen banks of the sizes of Table 20.1, STAGE at most 5, the issue duty from 4 to 16, a life-cycle state of Table 17.13, and
every sparse memory in canonical form. -/
def Obligations.StepsKeepTheMachineSound : Prop :=
∀ s t : State, s.Sound → step s = .next t → t.Sound

/-- The frame of every command: outside the areas of its row nothing changes, and no command changes the queue of waiting
commands; and every command whose near addresses lie within the 384 GiB of R255 completes, in every state. -/
def Obligations.CommandFrames : Prop :=
(∀ (c : Instr) (s t : State), exec c s = .next t → Only (commandAreas c) s t) ∧
  (∀ (c : Instr) (s : State), Sys2Proof.Machine.Instr.nearEnd c ≤ nearBytes → ∃ t, exec c s = .next t ∧ Only (commandAreas c) s t)

/-- No command is refused, and a command stops only where it names a byte of near pasture beyond the 384 GiB of R255. -/
def Obligations.CommandsStopOnlyBeyondNearPasture : Prop :=
∀ (c : Instr) (s : State),
    (∀ r, exec c s ≠ .refused r) ∧
      ∀ f, exec c s = .fault f → ∃ a, f = .noSuchNearAddress a ∧
        ((∃ cls src len, c = .nearPastureRead cls src a len ∧ nearBytes < a + len) ∨
          (∃ cls src bs, c = .nearPastureWrite cls src a bs ∧ nearBytes < a + bs.length) ∨
          (∃ cls src tb ab ys, c = .accumulateWrite cls src a tb ab ys ∧ nearBytes < a + ys.length * (if tb then 2 else 4)) ∨
          (c = .npCe a ∧ nearBytes ≤ a) ∨ (c = .npUe a ∧ nearBytes ≤ a))

/-! ## Rails, pins and resets (chapters 18 and 21) -/

/-- R443, R444, Table 18.6: RESET_N, a loss of VDD_AON and a loss of VDD_TRANSIT take a cold reset, each with its cause; the
fault banks are lost with VDD_AON alone (R486). R443 to R446, R477, Tables 18.5 to 18.7: the resets that RESET_CTRL requests under its key, the deepest prevailing, and
those of PERST_N, of a control-complex reset that does not end, and of the heartbeat.  A warm reset is taken when no warm or cold
reset is in progress and the rails are not held; a control-complex reset when none is in progress and the device has a control complex
(neither DECOMMISSIONED nor in rail hold); its STAGE reads 2 from the trigger on. -/
def Obligations.Resets : Prop :=
(∀ s : State, ∃ t, exec .resetNLow s = .next t ∧ AfterColdReset s t 1 ∧ t.boot.resetN = false ∧ t.health.banks = s.health.banks) ∧
  (∀ s : State, ∃ t, exec .vddAonLoss s = .next t ∧ AfterColdReset s t 0 ∧ t.health.banks = Health.initial.banks) ∧
  (∀ s : State, ∃ t, exec (.vddTransitLoss true) s = .next t ∧ AfterColdReset s t 3 ∧ t.health.banks = s.health.banks) ∧
  (∀ s : State, ∃ t, exec (.vddTransitLoss false) s = .next t ∧ AfterColdReset s t 0 ∧ t.health.banks = Health.initial.banks) ∧
(∀ (v : Word) (s : State), s.boot.linkUp = true → bitsOf v.toNat 15 8 = 0xA5 → v.toNat.testBit 2 = true →
    ∃ t, exec (.resetCtrlCold v) s = .next t ∧ AfterColdReset s t 2 ∧ t.boot.holdAt2 = v.toNat.testBit 3 ∧
      t.health.banks = s.health.banks) ∧
  (∀ (v : Word) (s : State), s.boot.linkUp = true → bitsOf v.toNat 15 8 = 0xA5 → v.toNat.testBit 2 = false → v.toNat.testBit 1 = true →
    2 ≤ s.boot.stage → s.boot.resetting ≠ some .cold → s.boot.resetting ≠ some .warm → s.boot.railHold = false → s.Sound →
      ∃ t, exec (.resetCtrlWarm v) s = .next t ∧ AfterWarmReset s t 4 ∧ t.boot.holdAt2 = v.toNat.testBit 3) ∧
  (∀ (v : Word) (s : State), s.boot.linkUp = true → bitsOf v.toNat 15 8 = 0xA5 → v.toNat.testBit 2 = false → v.toNat.testBit 1 = false →
    v.toNat.testBit 0 = true → 2 ≤ s.boot.stage → s.boot.resetting = none → s.noComplex = false →
      ∃ t, exec (.resetCtrlCc v) s = .next t ∧ AfterCcTrigger s t 9 ∧ t.boot.holdAt2 = v.toNat.testBit 3) ∧
  (∀ (v : Word) (s : State), s.boot.linkUp = true → bitsOf v.toNat 15 8 ≠ 0xA5 → ∀ c ∈ [Instr.resetCtrlCc v, .resetCtrlWarm v, .resetCtrlCold v],
    exec c s = .next (s.quiet.modBoot (fun b => { b with holdAt2 := v.toNat.testBit 3 }))) ∧
  (∀ s : State, 2 ≤ s.boot.stage → s.boot.resetting ≠ some .cold → s.boot.resetting ≠ some .warm → s.boot.railHold = false → s.Sound →
    ∃ t, exec .perstNAssert s = .next t ∧ AfterWarmReset s t 5 ∧ t.boot.perstN = false ∧ t.boot.linkUp = false ∧
      t.host.fns = List.replicate 9 .initial) ∧
  (∀ s : State, s.boot.resetting = some .controlComplex → 2 ≤ s.boot.stage → s.boot.railHold = false → s.Sound →
    ∃ t, exec .ccResetEscalation s = .next t ∧ AfterWarmReset s t 8) ∧
  (∀ s : State, 2 ≤ s.boot.stage → s.boot.resetting = none → s.noComplex = false →
    ∃ t, exec .heartbeatReset s = .next t ∧ AfterCcTrigger s t 11 ∧ t.dog.healthStart = none ∧
      (s.dog.fwUnconfirmed = true → t.dog.fwUnconfirmed = false))

/-- R440, R508: the pins RESET_N and PERST_N are released, the rails become good, and the sequence of R440 goes on: with the
transit plane live HUB_EN is asserted, and with HUB_EN, VDD_HUB and PERST_N the host link trains where the partner and the channel
allow a mode. -/
def Obligations.PowerOnSequence : Prop :=
(∀ s : State, exec .resetNRelease s = .next (s.quiet.modBoot (fun b => { b with resetN := true, fusesRead := true }))) ∧
  (∀ s : State, ∃ t, exec .perstNRelease s = .next t ∧ t.boot.perstN = true ∧ t.boot.stage = s.boot.stage ∧
    (s.boot.hubEn = true → s.rail .hub = true → bestMode s.boot.linkModes ≠ none → t.boot.linkUp = true)) ∧
  (∀ (r : Rail) (s : State), ∃ t, exec (.railGood r) s = .next t ∧ t.rail r = true ∧ (∀ x, s.rail x = true → t.rail x = true) ∧
    t.boot.stage = s.boot.stage ∧ (s.boot.transitEn = true → t.rail .transit = true → s.boot.railHold = false → t.boot.hubEn = true)) ∧
  (∀ s : State, s.boot.stage = 0 → s.rail .aon = true → s.rail .vddio = true → s.boot.resetN = true → s.boot.fusesRead = true →
    ∃ t, exec .stageManagement s = .next t ∧ t.boot.stage = 1 ∧ t.boot.transitEn = true ∧ t.boot.resetting = none ∧
      t.dog.lcState = s.dog.deriveLc)

/-- R505, R512, Table 21.1: rail hold when a rail fails or does not become good in time: FIELD_EN and HUB_EN are released, the Folds
lose power and STAGE reads 1, while the transit plane stays as it was; and the thermal trip. -/
def Obligations.RailHoldAndTrip : Prop :=
(∀ (r : Rail) (s : State), s.rail r = true → r ≠ .aon → r ≠ .transit → s.boot.stage ≠ 0 →
    ∃ t, exec (.railHold r) s = .next t ∧ t.boot.railHold = true ∧ t.boot.stage = 1 ∧ t.boot.fieldEn = false ∧ t.boot.hubEn = false ∧
      t.boot.shepherdRuns = false ∧ t.boot.transitEn = s.boot.transitEn ∧ t.rail r = false ∧
      t.fab = { s.fab with ejected := s.fab.ejected.filter (fun x => pVc x.2 = 3) } ∧
      ∀ f ∈ t.comp.folds, f.state = .off ∨ f.state = .retired) ∧
  (∀ s : State, s.rail .aon = true → ∃ t, exec (.railHold .aon) s = .next t ∧ AfterColdReset s t 0) ∧
  (∀ s : State, s.rail .transit = true → ∃ t, exec (.railHold .transit) s = .next t ∧ AfterColdReset s t 3) ∧
  (∀ (r : Rail) (s : State), s.railEnabled r = true → s.rail r = false →
    ∃ t, exec (.railGoodTimeout r) s = .next t ∧ t.boot.railHold = true ∧ t.boot.stage = 1 ∧ t.boot.fieldEn = false ∧
      t.boot.hubEn = false ∧ t.boot.transitEn = (s.boot.transitEn && r != .transit)) ∧
  (∀ (d : Fin 5) (s : State), ∃ t, exec (.thermtrip d) s = .next t ∧ t.boot.thermtrip = true ∧ d.val ∈ t.boot.stoppedDies ∧
    t.out = [.thermtrip] ∧ (d.val = 4 → t.boot.shepherdRuns = false) ∧ Only [.boot, .out] s t)

/-- R437, R438, R440, R467, R475: stage 2 with the Shepherd started on the image that the boot ROM chose; stage 3 with the Folds of
one die and a map of slots that leaves out the retired ones; stage 4 with near pasture trained and zero; stage 5. -/
def Obligations.Stages : Prop :=
(∀ s : State, (s.boot.stage = 1 ∧ s.boot.railHold = false ∧ s.boot.resetting ≠ some .controlComplex ∨
      s.boot.stage = 2 ∧ s.boot.resetting = some .warm) →
    s.boot.linkUp = true → s.hubRails = true → 4 ∉ s.boot.stoppedDies → s.dog.lcState ≠ lcDecommissioned → s.dog.identityOk = true → s.dog.flashUsable = true →
      (∀ i g, (s.dog.scan).choose true = (g, some i) → ∃ t, exec .stageFirmware s = .next t ∧ t.boot.stage = 2 ∧
        t.boot.shepherdRuns = true ∧ t.boot.fieldEn = true ∧ t.boot.resetting = none ∧ t.dog.running = some i ∧
        (∀ x ∈ t.talsen, x.state ≠ .down)) ∧
      (∀ g, (s.dog.scan).choose true = (g, none) → ∃ t, exec .stageFirmware s = .next t ∧ t.boot.stage = 1)) ∧
  (∀ s : State, (s.boot.stage = 1 ∧ s.boot.railHold = false ∧ s.boot.resetting ≠ some .controlComplex ∨
      s.boot.stage = 2 ∧ s.boot.resetting = some .warm) →
    s.boot.linkUp = true → s.hubRails = true → 4 ∉ s.boot.stoppedDies → s.dog.lcState = lcDecommissioned → ∃ t, exec .stageFirmware s = .next t ∧ t.boot.stage = 2 ∧
      t.boot.shepherdRuns = s.boot.shepherdRuns ∧ t.boot.resetting = none) ∧
  (∀ (bad : List Nat) (s : State), s.boot.stage = 2 → s.boot.resetting = none → s.boot.shepherdRuns = true → s.dog.running ≠ some 2 →
    s.fieldsPowered = true → s.heldAt2 = false → s.dog.lcState ≠ lcDecommissioned →
      ∃ t, exec (.stageReduced bad []) s = .next t ∧ t.boot.stage = 3 ∧ t.comp.slots.length = 128 ∧
        (∀ k ∈ t.dog.retiredNow, k < 136 → (t.fold k).state = .retired) ∧
        (∀ k < 136, (t.fold k).state = .active → k / 34 = reducedDie t.comp.slots ∧ k ∉ t.dog.retiredNow)) ∧
  (∀ (b : Nat) (bad cs : List Nat) (s : State), s.boot.stage = 2 → s.boot.resetting = none → s.boot.shepherdRuns = true →
    s.dog.running ≠ some 2 → s.fieldsPowered = true → s.heldAt2 = false → s.dog.lcState ≠ lcDecommissioned →
      ∃ t, exec (.stageReduced bad (b :: cs)) s = .next t ∧ t.boot.stage = 2) ∧
  (∀ (xs : List (Option Expander)) (s : State), s.boot.stage = 3 → s.boot.resetting = none → s.boot.shepherdRuns = true →
    s.dog.lcState ≠ lcReturn → (∀ k ∈ s.np.stackList, k.tstate ≠ 4) →
      ∃ t, exec (.stageMemory [] xs) s = .next t ∧ t.boot.stage = 4 ∧ (∀ a, t.npByte a = 0) ∧ t.np.poison = [] ∧
        (∀ k ∈ t.np.stackList, k.trained = true) ∧ t.drover.farCapacity = (t.talsen.map Talsen.usedMib).sum * 2 ^ 20 ∧
        (s.health.power.brake = false → t.health.power.point = .nominal ∧ t.health.power.duty = 16)) ∧
  (∀ (b : Nat) (bs : List Nat) (xs : List (Option Expander)) (s : State), s.boot.stage = 3 → s.boot.resetting = none →
    s.boot.shepherdRuns = true → s.dog.lcState ≠ lcReturn → (∀ k ∈ s.np.stackList, k.tstate ≠ 4) →
      ∃ t, exec (.stageMemory (b :: bs) xs) s = .next t ∧ t.boot.stage = 3) ∧
  (∀ s : State, s.boot.stage = 4 → s.boot.resetting = none → s.boot.shepherdRuns = true → s.fab.placed = true → s.fab.transitOnly = false →
    s.fab.draining = none → s.axesUp = true → (s.time.synced = true ∨ s.isMaster = true) → s.dog.lcState ≠ lcReturn →
      ∃ t, exec .stageFull s = .next t ∧ t.boot.stage = 5 ∧ Only [.dog, .boot, .host, .out] s t)

/-- R357, R407, R443, R476, R477: the drain of a control-complex reset ends with the Shepherd stopped, at the STAGE that it has; its
restart, from an image that verifies, returns the device to the stage that it had (an image of the slot alone, to stage 2) and answers
every BUSY slot NOT_READY; with no image the reset goes on at stage 1. An unconfirmed image falls back after 300 s, and the self-test
confirms it with CONFIRM_MODE 1, at once while HOLDUP_OK is there; the heartbeat counts while the Shepherd runs. -/
def Obligations.ShepherdRestartAndHealth : Prop :=
(∀ s : State, s.boot.resetting = some .controlComplex → s.boot.ccDraining = true →
    (s.pensIn .running ++ s.pensIn .quiescing).all s.penDrained = true →
      ∃ t, exec .ccDrainComplete s = .next t ∧ t.boot.stage = s.boot.stage ∧ t.boot.shepherdRuns = false ∧ t.boot.ccDraining = false ∧
        t.boot.resetting = some .controlComplex ∧ (s.Sound → ∀ e ∈ t.np.wc, t.npBlocked e.source e.line = true)) ∧
  (∀ (i : Nat) (g : Sheepdog) (s : State), s.boot.resetting = some .controlComplex → s.boot.shepherdRuns = false →
    s.boot.ccDraining = false → s.canBoot = true → s.dog.choose (s.boot.lastCause = 11) = (g, some i) →
      ∃ t, exec .shepherdRestart s = .next t ∧ t.boot.shepherdRuns = true ∧ t.boot.resetting = none ∧
        t.boot.stage = (if i < 2 then s.boot.ccStage else 2) ∧ (s.host.Sound → ∀ k < 12, (t.slotAt k).state ≠ 1)) ∧
  (∀ (g : Sheepdog) (s : State), s.boot.resetting = some .controlComplex → s.boot.shepherdRuns = false →
    s.boot.ccDraining = false → s.canBoot = true → s.dog.choose (s.boot.lastCause = 11) = (g, none) →
      ∃ t, exec .shepherdRestart s = .next t ∧ t.boot.shepherdRuns = false ∧ t.boot.resetting = some .controlComplex ∧ t.boot.stage = 1) ∧
  (∀ s : State, s.dog.fwUnconfirmed = true → s.dog.healthStart.isSome = true → s.dog.confirming = false → exec .fwHealthTimeout s =
    .next ((s.quiet.modDog Sheepdog.fallBack).logFault 13 0x0905 .corrected 0 none none s.fwVersion)) ∧
  (∀ s : State, (s.dog.fwUnconfirmed = false ∨ s.dog.healthStart = none ∨ s.dog.confirming = true) →
    exec .fwHealthTimeout s = .next s.quiet) ∧
  (∀ s : State, s.dog.healthStart.isSome = true → s.dog.fwUnconfirmed = false → s.boot.resetting = none → 2 ≤ s.boot.stage →
    s.noComplex = false → ∃ t, exec .healthWatchdog s = .next t ∧ AfterCcTrigger s t 12) ∧
  (∀ s : State, s.dog.fwUnconfirmed = true → s.dog.healthStart.isSome = true → s.dog.inUse.confirmMode = 1 →
    ∃ t, exec .firmwareSelftestPass s = .next t ∧ t.dog = s.dog.confirmHealth ∧ Only [.dog, .out] s t ∧
      (s.dog.holdup = true → s.dog.ownWrites = [] → t.dog.fwUnconfirmed = false ∧ t.dog.healthStart = none) ∧
      (s.dog.holdup = false → t.dog.fwUnconfirmed = true ∧ t.dog.confirming = true)) ∧
  (∀ s : State, s.boot.shepherdRuns = true → exec .heartbeatIncrement s =
    .next (s.quiet.modBoot (fun b => { b with heartbeat := b.heartbeat + 1 })))

/-! ## The Sheepdog's events (chapter 19) -/

/-- R459: a press opens the window for 30 s from stage 1 with an intact seal loop (after a rest of 1 s where a stuck press asks for
it); a stuck press and the expiry close it. R461: each sample compares SEAL_SENSE_B with the level driven on SEAL_SENSE_A, which takes a new level that nothing constrains;
the third mismatch in a row closes the window, clears the debug level and latches SEAL_BROKEN. -/
def Obligations.PresenceAndSeal : Prop :=
(∀ (rested : Bool) (s : State), 1 ≤ s.boot.stage → s.dog.sealIntact = true → (rested = true ∨ s.dog.presenceStuck = false) →
    ∃ t, exec (.presencePress rested) s = .next t ∧ t.windowOpen = true ∧ t.windowSeconds = 30 ∧ t.dog.sealBroken = false ∧
      t.dog.presenceStuck = false ∧ Only [.dog, .out] s t) ∧
  (∀ (rested : Bool) (s : State), (s.boot.stage = 0 ∨ s.dog.sealIntact = false ∨ (rested = false ∧ s.dog.presenceStuck = true)) →
    exec (.presencePress rested) s = .next s.quiet) ∧
  (∀ s : State, ∃ t, exec .presenceStuck s = .next t ∧ t.windowOpen = false ∧ t.dog.presenceStuck = true ∧
    Only [.dog, .host, .health, .out] s t) ∧
  (∀ s : State, exec .presenceWindowExpiry s = .next (s.quiet.modDog (fun g => { g with window := none }))) ∧
(∀ (strap holdup : Bool) (s : State), ∃ t, exec (.sealSample ⟨s.dog.sealA, strap, holdup⟩) s = .next t ∧ t.dog.sealMiss = 0 ∧
    t.dog.sealA = (Config.freeBits s.free).getLsbD 0 ∧ t.dog.window = s.dog.window ∧ t.dog.debugLevel = s.dog.debugLevel ∧
    t.free = s.free + 1 ∧ t.dog.strap = strap ∧ t.dog.holdup = holdup ∧ (holdup = true → t.dog.ownWrites = []) ∧
    (holdup = false → t.dog.ownWrites = s.dog.ownWrites)) ∧
  (∀ (strap holdup : Bool) (s : State), s.dog.sealMiss < 2 → ∃ t, exec (.sealSample ⟨!s.dog.sealA, strap, holdup⟩) s = .next t ∧
    t.dog.sealMiss = s.dog.sealMiss + 1 ∧ t.dog.window = s.dog.window ∧ t.dog.sealBroken = s.dog.sealBroken ∧ t.dog.strap = strap ∧
    t.dog.holdup = holdup) ∧
  (∀ (strap holdup : Bool) (s : State), s.dog.sealMiss = 2 → ∃ t, exec (.sealSample ⟨!s.dog.sealA, strap, holdup⟩) s = .next t ∧
    t.dog.sealMiss = 3 ∧ t.dog.window = none ∧ t.dog.debugLevel = 0 ∧ t.dog.sealBroken = true ∧ t.dog.strap = strap ∧ t.dog.holdup = holdup)

/-- R471 to R473: HOLDUP_OK lets the waiting writes go, in order; an erased sector reads erased, its erase is journaled, the next
begins, and the blocks that wait for it are looked at again. -/
def Obligations.FlashEvents : Prop :=
(∀ s : State, ∃ t, exec .holdupOkAsserted s = .next t ∧ t.dog.holdup = true ∧ t.dog.ownWrites = [] ∧
    t.dog = { s.dog.settled with holdup := true } ∧ Only [.dog, .out] s t) ∧
  (∀ (a : Nat) (rest : List Nat) (s : State), s.dog.erasing = a :: rest →
    ∃ t, exec .flashSectorErased s = .next t ∧ Only [.dog, .host, .health, .out] s t ∧
      t = ((s.quiet.modDog Sheepdog.sectorErased).retryBlocks)) ∧
  (∀ (a : Nat) (rest : List Nat) (s : State), s.dog.erasing = a :: rest → s.busySlots 0x0602 (fun _ => true) = [] →
    ∃ t, exec .flashSectorErased s = .next t ∧ t.dog.erasing = rest ∧ Only [.dog, .host, .out] s t ∧
      (∀ i < 4096, t.dog.flashByte (a + i) = 0xFF) ∧
      (∀ x, x < a ∨ a + 4096 ≤ x → t.dog.flashByte x = s.dog.flashByte x) ∧
      ∃ r ∈ t.dog.journal, r.type = .eraseDone ∧ r.addr = a)

/-! ## Power and Tally (chapter 20) -/

/-- R501: the power brake forces the reduced point and a duty of 4 of 16, and counts; its release goes on from the reduced point. R498, R500: a measurement enters the last second and the energy counter; an iteration of the capping loop over the limit
lowers the duty by one down to 8 and then the point; at the brake, and below stage 4, the loop does nothing. -/
def Obligations.PowerControl : Prop :=
(∀ s : State, s.boot.railHold = false → s.health.power.brake = false → exec .powerBrakeNAsserted s =
    .next ((s.quiet.modPower (fun p => { p with brake := true, duty := 4, point := .reduced })).count 10 1)) ∧
  (∀ s : State, s.boot.railHold = true → exec .powerBrakeNAsserted s = .next s.quiet) ∧
  (∀ s : State, s.health.power.brake = true → exec .powerBrakeNReleased s =
    .next (s.quiet.modPower (fun p => { p with brake := false, duty := 16, point := .reduced }))) ∧
(∀ (mw : Nat) (temps : List Nat) (s : State), exec (.powerMeasurement mw temps) s =
    .next ((s.quiet.count 4 ((s.health.power.energyRest + mw) / 10000)).modPower (fun p => { p with
      samples := (mw :: p.samples).take 10000, dieTemps := temps, energyRest := (p.energyRest + mw) % 10000 }))) ∧
  (∀ s : State, 4 ≤ s.boot.stage → s.health.power.brake = false →
    (s.health.power.meanAbove 10 (1000 * s.health.power.limit) = true ∨ s.health.power.hot = true) →
      ∃ t, exec .capIteration s = .next t ∧ t.health.power.lastOver = s.time.clock ∧
        (8 < s.health.power.duty → t.health.power.duty = s.health.power.duty - 1 ∧ t.health.power.point = s.health.power.point) ∧
        (s.health.power.duty ≤ 8 → s.health.power.point ≠ .reduced →
          t.health.power.duty = 16 ∧ t.health.power.point = s.health.power.point.lower)) ∧
  (∀ s : State, 4 ≤ s.boot.stage → s.health.power.brake = false → s.health.power.meanAbove 10 (1000 * s.health.power.limit) = false →
    s.health.power.hot = false → ∃ t, exec .capIteration s = .next t ∧ t.health.power.unmetMs = 0 ∧
      s.health.power.duty ≤ t.health.power.duty ∧ t.health.power.duty ≤ max 16 s.health.power.duty) ∧
  (∀ s : State, (s.boot.stage < 4 ∨ s.health.power.brake = true) → exec .capIteration s = .next s.quiet)

/-- R493 to R496: a Tally tick raises SNAP_EPOCH and fills the shadow's 58 items, stamped with the time; it answers the snapshot that
is due; TALLY_REQ from the parent schedules one. -/
def Obligations.TallyTicks : Prop :=
(∀ s : State, s.snapshotDue = false → ∃ t, exec .tallyTick s = .next t ∧ t.health.snapEpoch = s.health.snapEpoch + 1 ∧
    t.health.shadow.snapEpoch = s.health.snapEpoch + 1 ∧ t.health.shadow.time = s.time.now ∧ t.health.shadow.epoch = s.time.epoch ∧
    t.health.shadow.items.length = 58 ∧ t.health.counters = s.health.counters ∧ Only [.health, .out] s t) ∧
  (∀ (e : B16) (at' : DWord) (i : Nat) (s : State), s.health.snapshot = some (e, at', some i) → s.snapshotDue = true →
    ∃ t : State, exec .tallyTick s = .next (t.answer i stOk t.tickBytes) ∧ t.health.snapshot = none ∧
      t.health.shadow.snapEpoch = s.health.snapEpoch + 1 ∧ Only [.health, .out] s t) ∧
  (∀ (inp : Nat) (p : Packet) (s : State), s.mgmtPacket 0x2D = some (inp, p) → s.isMaster = false → s.parentPort = some inp →
    (s.tallyAllowed (BitVec.ofNat 16 (leField p 16 2)) (BitVec.ofNat 64 (leField p 8 8)) = true →
      ∃ t, exec .tallyReq s = .next t ∧
        t.health.snapshot = some (BitVec.ofNat 16 (leField p 16 2), BitVec.ofNat 64 (leField p 8 8), none)) ∧
    (s.tallyAllowed (BitVec.ofNat 16 (leField p 16 2)) (BitVec.ofNat 64 (leField p 8 8)) = false →
      ∃ t, exec .tallyReq s = .next t ∧ t.health.snapshot = s.health.snapshot)) ∧
  (∀ (inp : Nat) (p : Packet) (s : State), s.mgmtPacket 0x2D = some (inp, p) → (s.isMaster = true ∨ s.parentPort ≠ some inp) →
    exec .tallyReq s = .next (s.quiet.takePacket (inp, p)))

/-! ## Temperatures (R266 to R268) -/

/-- R266, R267, Table 10.4: a temperature report sets TEMP, MAX_TEMP and SLOW and the state of the stack, which rises with the bounds
of Table 10.3 and falls 3 °C below them; SLOW is repeated for every stack that is Hot or Critical; the shutdown of a stack takes STAGE to 3 (R268), in a control-complex reset the stage that it returns to. R266,
Table 10.3: the thermal states a stack takes from Normal, and on cooling. -/
def Obligations.StackTemperatures : Prop :=
(∀ (k : Fin 8) (c : Nat) (s : State), s.boot.hubEn = true → s.hubRails = true → s.np.Sound → c < 115 → (s.stackAt k).tstate ≠ 4 →
    s.boot.thermalWait = false →
      ∃ t, exec (.stackTemperatureRead k c) s = .next t ∧ (t.stackAt k).temp = c ∧
        (t.stackAt k).tstate = nextThermal (s.stackAt k).tstate c ∧ (t.stackAt k).slow = hotState (nextThermal (s.stackAt k).tstate c) ∧
        (t.stackAt k).maxTemp = max (s.stackAt k).maxTemp c) ∧
  (∀ (k : Fin 8) (c : Nat) (s : State), s.boot.hubEn = true → s.hubRails = true → s.np.Sound → 115 ≤ c → (s.stackAt k).tstate ≠ 4 →
    4 ≤ s.boot.stage → s.boot.resetting ≠ some .controlComplex → ∃ t, exec (.stackTemperatureRead k c) s = .next t ∧ (t.stackAt k).tstate = 4 ∧
      (t.stackAt k).trained = false ∧ (t.stackAt k).powered = false ∧ t.boot.stage = 3 ∧ t.boot.thermalWait = true ∧
      (∀ p < 8, (s.pen p).state ∈ [.running, .quiescing, .quiesced] → (t.pen p).state = .faulted)) ∧
  (∀ (k : Fin 8) (c : Nat) (s : State), s.boot.hubEn = true → s.hubRails = true → s.np.Sound → 115 ≤ c → (s.stackAt k).tstate ≠ 4 →
    s.boot.resetting = some .controlComplex → 4 ≤ s.boot.ccStage → ∃ t, exec (.stackTemperatureRead k c) s = .next t ∧
      (t.stackAt k).tstate = 4 ∧ t.boot.ccStage = 3 ∧ t.boot.stage = s.boot.stage ∧ t.boot.thermalWait = true) ∧
  (∀ (k : Nat) (s : State), k < 8 → (∀ j < 8, hotState (s.stackAt j).tstate = true ↔ j = k) →
    exec .slowRepeat s = .next (s.quiet.sendSlow true k)) ∧
(∀ c < 85, nextThermal 0 c = 0) ∧ (∀ c, 85 ≤ c → c < 95 → nextThermal 0 c = 1) ∧ (∀ c, 95 ≤ c → c < 105 → nextThermal 0 c = 2) ∧
    (∀ c, 105 ≤ c → c < 115 → nextThermal 0 c = 3) ∧ (∀ old c, 115 ≤ c → nextThermal old c = 4) ∧ (∀ c, nextThermal 4 c = 4) ∧
    (∀ c, 82 < c → c < 95 → nextThermal 1 c = 1) ∧ (∀ c ≤ 82, nextThermal 1 c = 0) ∧ (∀ c, 92 < c → c < 105 → nextThermal 2 c = 2) ∧
    (∀ c, 82 < c → c ≤ 92 → nextThermal 2 c = 1) ∧ (∀ c, 102 < c → c < 115 → nextThermal 3 c = 3)

/-! ## Time across devices (chapter 13) -/

/-- R336, R337, R338, R339, Table 13.5: a follower takes the time of a TIME_SYNC that comes from its parent, and
drops any other: in its epoch the rate is corrected by the offset, above 10 ms EPOCH_REQ is due, and 16 offsets in a row below 1 µs
synchronise it; a new epoch that answers its EPOCH_REQ, or whose offset is above 10 ms, is adopted with a step, any other without one (log
entry 188, DESIGN CHOICE); the master numbers one in each period. -/
def Obligations.TimeSync : Prop :=
(∀ (inp : Nat) (p : Packet) (s : State), s.mgmtPacket 0x20 = some (inp, p) → s.isMaster = false → s.parentPort = some inp →
    ∃ t, exec .timeSync s = .next t ∧
      let master := leField p 8 8 + (leField p 20 8 + (s.port inp).delay)
      let off : Int := (master : Nat) - (s.arrival p : Int)
      t.time = s.time.follow inp (leField p 8 8) (leField p 16 2) (leField p 20 8 + (s.port inp).delay) (s.arrival p) ∧
      t.time.parentPort = inp ∧ t.time.role = 2 ∧ t.time.offset = clampInt 8388607 off ∧
      (leField p 16 2 = s.time.epoch.toNat → t.time.now = s.time.now ∧ t.time.epoch = s.time.epoch ∧
        t.time.ratePpb = clampInt 500000 off ∧ (10000000 < off.natAbs → t.time.epochReq = true) ∧
        (1000 ≤ off.natAbs → t.time.synced = false) ∧
        (off.natAbs < 1000 → 15 ≤ s.time.goodSyncs → t.time.synced = true)) ∧
      (leField p 16 2 ≠ s.time.epoch.toNat → (s.time.epoch = 0 ∨ s.time.epochReq = true ∨ 10000000 < off.natAbs) →
        t.time.now = BitVec.ofNat 64 (master + (s.time.now.toNat - s.arrival p)) ∧
        t.time.epoch = BitVec.ofNat 16 (leField p 16 2) ∧ t.time.synced = false ∧ t.time.epochReq = false) ∧
      (leField p 16 2 ≠ s.time.epoch.toNat → s.time.epoch ≠ 0 → s.time.epochReq = false → off.natAbs ≤ 10000000 →
        t.time.now = s.time.now ∧ t.time.epoch = BitVec.ofNat 16 (leField p 16 2) ∧ t.time.synced = false)) ∧
  (∀ (inp : Nat) (p : Packet) (s : State), s.mgmtPacket 0x20 = some (inp, p) → (s.isMaster = true ∨ s.parentPort ≠ some inp) →
    exec .timeSync s = .next (s.quiet.takePacket (inp, p))) ∧
  (∀ s : State, s.transitLive = true → s.isMaster = true → ∃ t, exec .timeSyncPeriod s = .next t ∧
    t.time = { s.time with syncNumber := s.time.syncNumber + 1 } ∧
    (s.childPorts = [] → t = (s.quiet.spend 8).modTime (fun x => { x with syncNumber := x.syncNumber + 1 })))

/-- R336: the exchange that measures a link's delay: half the round trip, the neighbour's own time left out. R335, R337, R338, R339: holdover after 10 ms without TIME_SYNC; the master starts a new epoch on EPOCH_REQ, never epoch 0; a
read of the low word of TIME_NOW latches the rest. -/
def Obligations.LinkDelaysAndEpochs : Prop :=
(∀ (p : Fin 8) (s : State), (s.port p).lstate = .up → exec (.delayReqPeriod p) s =
    .next (s.quiet.sendHop p 0x21 (leBytes 8 s.time.now.toNat))) ∧
  (∀ (inp : Nat) (p : Packet) (s : State), s.mgmtPacket 0x21 = some (inp, p) → exec .delayReq s =
    .next ((s.quiet.takePacket (inp, p)).sendHop inp 0x22
      (leBytes 8 (leField p 8 8) ++ leBytes 8 (s.arrival p) ++ leBytes 8 s.time.now.toNat))) ∧
  (∀ (inp : Nat) (p : Packet) (s : State), s.mgmtPacket 0x22 = some (inp, p) → exec .delayResp s =
    .next ((s.quiet.takePacket (inp, p)).modPort inp (fun x => { x with
      delay := (s.arrival p - leField p 8 8 - (leField p 24 8 - leField p 16 8)) / 2 }))) ∧
(∀ s : State, s.time.role = 2 → exec .holdover s = .next (s.quiet.modTime (fun t => { t with role := 3 }))) ∧
  (∀ s : State, s.time.role ≠ 2 → exec .holdover s = .next s.quiet) ∧
  (∀ (x : Nat × Packet) (s : State), s.mgmtPacket 0x23 = some x → s.isMaster = true →
    ∃ t, exec .epochReq s = .next t ∧ t.time = { s.time with epoch := if s.time.epoch = 0xFFFF then 1 else s.time.epoch + 1 } ∧
      t.fab.ejected = s.fab.ejected.erase x) ∧
  (∀ s : State, ∃ t, exec .timeNowRead s = .next t ∧ t.out = [.readData (leBytes 4 s.time.now.toNat) false] ∧
    t.host.timeHigh = some (BitVec.ofNat 32 (s.time.now.toNat / 2 ^ 32)) ∧ t.host.timeEpoch = some s.time.epoch ∧ Only [.host, .out] s t)

/-! ## Host link, mailbox transport and management port (chapter 16, R463) -/

/-- R399, R401, R402: GO of a slot that is not BUSY sets GO and DONE_IRQ, and the round goes on: the request whose turn it is waits
for its command when it passes the checks of R400; one that fails them is answered at once with the first failing status and the header
alone; GO is ignored while the slot is BUSY, but for its DONE_IRQ; and below stage 2. R401: ABORT withdraws a request that still
waits, and the round goes on (log entry 157: the order in which the round is taken is the model's choice where R402 leaves it
open). R403, R409: a command that waits past its time limit answers TIMEOUT; a CHECKPOINT_DRAIN also names its first tensor that is not
near; nothing happens to a slot that is not BUSY. -/
def Obligations.MailboxControl : Prop :=
(∀ (fn : Fin 9) (slot : Fin 4) (irq : Bool) (s : State),
    let i := slotIndex fn slot
    let u := s.quiet.modSlot i (fun m => { m with irq := irq, go := true })
    2 ≤ s.boot.stage → (s.slotAt i).state ≠ 1 →
      exec (.mbCtrlGo fn slot irq) s = .next u.settleRound ∧
      (∀ j, u.slotDue = some j → u.precheck (slotFn j) j (u.slotAt j) = none → exec (.mbCtrlGo fn slot irq) s = .next u) ∧
      (∀ st, u.goServed = true → u.slotDue = some i → u.precheck (slotFn i) i (u.slotAt i) = some st → s.host.Sound →
        (s.slotAt i).discard = false → ∃ t, exec (.mbCtrlGo fn slot irq) s = .next t ∧ (t.slotAt i).state = 2 ∧
          (t.slotAt i).last = BitVec.ofNat 8 st ∧ (t.slotAt i).rspLen = 8 ∧ (t.slotAt i).go = false)) ∧
  (∀ (fn : Fin 9) (slot : Fin 4) (irq : Bool) (s : State), 2 ≤ s.boot.stage → (s.slotAt (slotIndex fn slot)).state = 1 →
    exec (.mbCtrlGo fn slot irq) s = .next (s.quiet.modSlot (slotIndex fn slot) (fun m => { m with irq := irq }))) ∧
  (∀ (fn : Fin 9) (slot : Fin 4) (irq : Bool) (s : State), s.boot.stage < 2 → exec (.mbCtrlGo fn slot irq) s = .next s.quiet) ∧
(∀ (fn : Fin 9) (slot : Fin 4) (s : State), (s.slotAt (slotIndex fn slot)).go = true →
    ∃ t, exec (.mbCtrlAbort fn slot) s = .next t ∧
      t = (s.quiet.modSlot (slotIndex fn slot) (fun m => { m with go := false })).settleRound ∧
      (s.host.Sound → t.slotAt (slotIndex fn slot) = { s.slotAt (slotIndex fn slot) with go := false })) ∧
  (∀ (fn : Fin 9) (slot : Fin 4) (s : State), (s.slotAt (slotIndex fn slot)).go = false → s.host.Sound →
    ∃ t, exec (.mbCtrlAbort fn slot) s = .next t ∧ t.slotAt (slotIndex fn slot) = s.slotAt (slotIndex fn slot)) ∧
(∀ (fn : Fin 9) (slot : Fin 4) (s : State), (s.slotAt (slotIndex fn slot)).state = 1 →
    (leField (s.slotAt (slotIndex fn slot)).taken 0 2 ≠ 0x0904 → exec (.commandTimeout fn slot) s =
      .next ((s.quiet.cancelWait (slotIndex fn slot)).answer (slotIndex fn slot) stTimeout [])) ∧
    (leField (s.slotAt (slotIndex fn slot)).taken 0 2 = 0x0904 → exec (.commandTimeout fn slot) s =
      .next (s.quiet.drainFails (slotIndex fn slot) stTimeout))) ∧
  (∀ (fn : Fin 9) (slot : Fin 4) (s : State), (s.slotAt (slotIndex fn slot)).state ≠ 1 → exec (.commandTimeout fn slot) s = .next s.quiet)

/-- R399, R407: the answer of a slot: the response header echoes the opcode and the tag around the status, MB_RSP_LEN is its length,
STATE reads DONE with the status, and MB_EVT.DONE is set. -/
def Obligations.MailboxAnswer : Prop :=
∀ (i st : Nat) (payload : List Byte) (s : State), i < 12 → s.host.Sound → (s.slotAt i).discard = false → 8 ≤ (s.slotAt i).taken.length →
    let m := (s.answer i st payload).slotAt i
    let rsp := (s.slotAt i).taken.take 2 ++ [BitVec.ofNat 8 st, 0] ++ ((s.slotAt i).taken.drop 4).take 4 ++ payload
    m.state = 2 ∧ m.last = BitVec.ofNat 8 st ∧ m.rspLen = 8 + payload.length ∧ m.evt = true ∧ m.rsp = trimZeros rsp ∧
      ((s.slotAt i).irq = false → s.answer i st payload = s.modSlot i (fun x => { x with
        state := 2, last := BitVec.ofNat 8 st, rsp := trimZeros rsp, rspLen := rsp.length, evt := true, taken := [] }))

/-- R8, R10, R11, R395, R399, Table 16.5: register writes through BAR0: a misaligned one is logged and ignored; one of a BUSY slot's
request area is dropped and logged, once for 64 bits too; BAR4_WINDOW is written at
once by a 64-bit write, and by two 32-bit writes only with the upper half; HEALTH_EVT is cleared by ones; nothing happens beyond a
BAR's size or with the link down. R11, R303: reads of BAR0 answer the words of the registers; an access of the wrong form is logged,
and a read of it answers all ones, or zeros in BAR2. -/
def Obligations.HostRegisters : Prop :=
(∀ (fn : Fin 9) (off : Nat) (wide : Bool) (v : DWord) (s : State), s.boot.linkUp = true → off < bar0Bytes fn →
    off % (if wide then 8 else 4) ≠ 0 →
    exec (.registerWrite fn (.bar0 off) wide v) s = .next (s.quiet.logFault 9 0x0501 .corrected fn none (some off))) ∧
  (∀ (fn : Fin 9) (v : DWord) (s : State), s.boot.linkUp = true →
    exec (.registerWrite fn (.bar0 0x1004) false v) s =
      .next (s.quiet.modFn fn (fun r => { r with healthEvt := r.healthEvt &&& ~~~(v.setWidth 5) }))) ∧
  (∀ (fn : Fin 9) (v : DWord) (s : State), s.boot.linkUp = true →
    exec (.registerWrite fn (.bar0 0x1008) false v) s = .next (s.quiet.modFn fn (fun r => { r with healthMask := v.setWidth 5 }))) ∧
  (∀ (fn : Fin 9) (v : DWord) (s : State), s.boot.linkUp = true → s.host.Sound →
    ∃ t, exec (.registerWrite fn (.bar0 0x1010) true v) s = .next t ∧ (t.fnRegs fn).winPen = v.toNat % 8 ∧
      (t.fnRegs fn).winEnable = v.toNat.testBit 3 ∧ (t.fnRegs fn).winBase = v.toNat / 2 ^ 21 % 2 ^ 27 ∧
      Only [.host, .out] s t) ∧
  (∀ (fn : Fin 9) (v : DWord) (s : State), s.boot.linkUp = true → s.host.Sound →
    ∃ t, exec (.registerWrite fn (.bar0 0x1010) false v) s = .next t ∧ (t.fnRegs fn).winPen = (s.fnRegs fn).winPen ∧
      (t.fnRegs fn).winEnable = (s.fnRegs fn).winEnable ∧ (t.fnRegs fn).winBase = (s.fnRegs fn).winBase ∧
      (t.fnRegs fn).heldLow = [(0x1010, v.setWidth 32)] ∧ Only [.host, .out] s t) ∧
  (∀ (fn : Fin 9) (lo : Word) (v : DWord) (s : State), s.boot.linkUp = true → s.host.Sound → (s.fnRegs fn).heldLow = [(0x1010, lo)] →
    ∃ t, exec (.registerWrite fn (.bar0 0x1014) false v) s = .next t ∧ (t.fnRegs fn).winPen = lo.toNat % 8 ∧
      (t.fnRegs fn).winEnable = lo.toNat.testBit 3 ∧
      (t.fnRegs fn).winBase = lo.toNat / 2 ^ 21 + v.toNat % 2 ^ 16 * 2 ^ 11 ∧ Only [.host, .out] s t) ∧
  (∀ (slot : Fin 4) (k : Nat) (v : DWord) (s : State), s.boot.linkUp = true → 2 ≤ s.boot.stage → k % 4 = 0 → k < 4032 →
    (s.slotAt slot).state ≠ 1 → s.host.Sound →
      ∃ t, exec (.registerWrite 0 (.bar0 (0x100000 + 0x2000 * slot + 0x40 + k)) false v) s = .next t ∧
        leField (t.slotAt slot).req k 4 = v.toNat % 2 ^ 32 ∧ Only [.host, .out] s t) ∧
  (∀ (slot : Fin 4) (k : Nat) (v : DWord) (s : State), s.boot.linkUp = true → 2 ≤ s.boot.stage → k % 4 = 0 → k < 4032 →
    (s.slotAt slot).state = 1 → exec (.registerWrite 0 (.bar0 (0x100000 + 0x2000 * slot + 0x40 + k)) false v) s =
      .next (s.quiet.logFault 9 0x0503 .corrected 0)) ∧
  (∀ (slot : Fin 4) (k : Nat) (v : DWord) (s : State), s.boot.linkUp = true → 2 ≤ s.boot.stage → k % 8 = 0 → k < 4032 →
    (s.slotAt slot).state = 1 → exec (.registerWrite 0 (.bar0 (0x100000 + 0x2000 * slot + 0x40 + k)) true v) s =
      .next (s.quiet.logFault 9 0x0503 .corrected 0)) ∧
  (∀ (fn : Fin 9) (off : Nat) (wide : Bool) (v : DWord) (s : State), s.boot.linkUp = false ∨ bar0Bytes fn ≤ off →
    exec (.registerWrite fn (.bar0 off) wide v) s = .next s.quiet) ∧
  (∀ (fn : Fin 9) (bar2 write : Bool) (off size : Nat) (s : State),
    s.boot.linkUp = false ∨ (if bar2 then bar2Bytes else bar0Bytes fn) < off + size →
      exec (.bar0Access fn bar2 write off size) s = .next s.quiet) ∧
(∀ (fn : Fin 9) (off : Nat) (s : State), s.boot.linkUp = true → off % 4 = 0 → off + 4 ≤ bar0Bytes fn → exec (.bar0Access fn false false off 4) s =
    .next (s.quiet.emit (.readData (leBytes 4 (s.bar0Word fn off)) false))) ∧
  (∀ (fn : Fin 9) (off : Nat) (s : State), s.boot.linkUp = true → off % 8 = 0 → off + 8 ≤ bar0Bytes fn → exec (.bar0Access fn false false off 8) s =
    .next (s.quiet.emit (.readData (leBytes 4 (s.bar0Word fn off) ++ leBytes 4 (s.bar0Word fn (off + 4))) false))) ∧
  (∀ (fn : Fin 9) (off size : Nat) (s : State), s.boot.linkUp = true → off + size ≤ bar0Bytes fn → accessOk off size = false →
    exec (.bar0Access fn false false off size) s =
      .next ((s.quiet.logFault 9 0x0501 .corrected fn none (some off)).emit (.readData (List.replicate size 0xFF) false)) ∧
    exec (.bar0Access fn false true off size) s = .next (s.quiet.logFault 9 0x0501 .corrected fn none (some off))) ∧
  (∀ (fn : Fin 9) (off size : Nat) (s : State), s.boot.linkUp = true → off + size ≤ bar2Bytes → exec (.bar0Access fn true false off size) s =
    .next ((s.quiet.logFault 9 0x0501 .corrected fn none (some off)).emit (.readData (List.replicate size 0) false))) ∧
  (∀ (s : State), s.bar0Word 0 0x1000 = s.stageReg 0 ∧ s.bar0Word 0 0x200104 = s.boot.lastCause + s.boot.ccCount <<< 8 + s.boot.warmCount <<< 16 ∧
    s.bar0Word 0 0x1004 = (s.fnRegs 0).healthEvt.toNat ∧ (s.boot.stage < 2 → ∀ i : Fin 4, ∀ o < 0x2000, s.bar0Word 0 (0x100000 + 0x2000 * i + o) = 0))

/-- R258, R263, R271, R275, R395, R396: a BAR4 access reaches near pasture through its function's window and the pen's page table; a
read of lines that are held waits, line by line; an access that reaches nothing is logged, and a read of it answers all ones. -/
def Obligations.Bar4Accesses : Prop :=
(∀ (fn : Fin 9) (off len : Nat) (d : Nat) (s : State), s.boot.linkUp = true → off + len ≤ s.bar4Bytes fn →
    s.windowTarget fn off = some d →
      ((∀ l ∈ linesOf d len, s.npBlocked .host l = false) →
        ∃ t, exec (.bar4Read fn off len) s = .next t ∧ t.out = [.readData (t.npRead d len) (t.npPoisoned d len)] ∧
          (s.np.Sound → ∀ x, lineOf x ∉ s.np.poison → s.np.SettledAt x → t.npByte x = s.npByte x)) ∧
      ((∀ l ∈ linesOf d len, s.npBlocked .host l = true) → len ≠ 0 → exec (.bar4Read fn off len) s =
        .next (s.quiet.modNp (fun n => { n with waiting := n.waiting ++ (linesOf d len).map (fun l =>
          { kind := .read (max l d) (min (l + 256) (d + len) - max l d), source := .host, cls := .norm, urgent := false }) })))) ∧
  (∀ (fn : Fin 9) (off : Nat) (bytes : List Byte) (d : Nat) (s : State), s.boot.linkUp = true →
    off + bytes.length ≤ s.bar4Bytes fn → s.windowTarget fn off = some d → s.np.Sound →
      ∃ t, exec (.bar4Write fn off bytes) s = .next t ∧
        ∀ x, lineOf x ∉ s.np.poison ∨ (d ≤ lineOf x ∧ lineOf x + 256 ≤ d + bytes.length) → s.np.SettledAt x →
          t.npByte x = if d ≤ x ∧ x < d + bytes.length then bytes.getD (x - d) 0 else s.npByte x) ∧
  (∀ (fn : Fin 9) (off len : Nat) (bytes : List Byte) (s : State), s.boot.linkUp = false →
    exec (.bar4Read fn off len) s = .next s.quiet ∧ exec (.bar4Write fn off bytes) s = .next s.quiet) ∧
  (∀ (fn : Fin 9) (off len : Nat) (bytes : List Byte) (s : State), s.bar4Bytes fn < off + len → bytes.length = len →
    exec (.bar4Read fn off len) s = .next s.quiet ∧ exec (.bar4Write fn off bytes) s = .next s.quiet) ∧
  (∀ (fn : Fin 9) (off len : Nat) (s : State), s.boot.linkUp = true → off + len ≤ s.bar4Bytes fn → s.windowTarget fn off = none →
    exec (.bar4Read fn off len) s = .next ((s.quiet.logFault 9 0x0504 .corrected fn none (some (s.windowAddr fn off))).emit
      (.readData (List.replicate len 0xFF) false))) ∧
  (∀ (fn : Fin 9) (off : Nat) (bytes : List Byte) (s : State), s.boot.linkUp = true → off + bytes.length ≤ s.bar4Bytes fn →
    s.windowTarget fn off = none →
    exec (.bar4Write fn off bytes) s = .next (s.quiet.logFault 9 0x0504 .corrected fn none (some (s.windowAddr fn off))))

/-- R392 to R395, R407: a function-level reset of a virtual function resets its slot and aborts its pen's job, and the round of the
slots goes on; D3hot is refused while a pen runs, and left for D0; the owner's BAR4 is resized from 256 MiB to 512 GiB; the link settles
on the best mode that the partner and the channel allow, in the order of R392, in flit mode at 64 GT/s, and below it where the partner
supports it (log entry 128: the two configuration fields are those of the PCI Express standards, PRESUMED). -/
def Obligations.HostFunctionEvents : Prop :=
(∀ (v : Fin 9) (s : State), v.val ≠ 0 → s.boot.linkUp = true →
    (∀ p, s.boundPen v = some p → (s.pen p).state.abortable = false) → s.host.Sound →
      ∃ t, exec (.functionLevelReset v) s = .next t ∧
        t.slotAt (v.val + 3) = (if (s.slotAt (v.val + 3)).state = 1 then { s.slotAt (v.val + 3) with discard := true } else .idle) ∧
        t = (s.quiet.resetSlot (v.val + 3)).settleRound ∧
        ((s.quiet.resetSlot (v.val + 3)).slotDue = none → ∀ j, j ≠ v.val + 3 → t.slotAt j = s.slotAt j) ∧ Only [.host, .out] s t) ∧
  (∀ (v : Fin 9) (s : State), (v.val = 0 ∨ s.boot.linkUp = false) → exec (.functionLevelReset v) s = .next s.quiet) ∧
  (∀ (v : Fin 9) (p : Nat) (s : State), v.val ≠ 0 → s.boot.linkUp = true → s.boundPen v = some p → (s.pen p).state.abortable = true →
    exec (.functionLevelReset v) s = .next ((((s.quiet.hostAbort p).retryAllocs).resetSlot (v.val + 3)).settleRound)) ∧
  (∀ s : State, s.boot.linkUp = true → (∀ p ∈ s.pens, p.state ≠ .running) →
    exec .d3hotEntry s = .next (s.quiet.modBoot (fun b => { b with d3hot := true }))) ∧
  (∀ s : State, s.boot.linkUp = true → (∃ p ∈ s.pens, p.state = .running) → exec .d3hotEntry s = .next (s.quiet.emit .d3Refused)) ∧
  (∀ (wide : Bool) (v : DWord) (s : State), s.boot.linkUp = true → v.toNat % 4 = 0 →
    exec (.registerWrite 0 (.config .powerState) wide v) s = .next (s.quiet.modBoot (fun b => { b with d3hot := false }))) ∧
  (∀ (wide : Bool) (v : DWord) (s : State), s.boot.linkUp = true → v.toNat % 4 = 3 → (∀ p ∈ s.pens, p.state ≠ .running) →
    exec (.registerWrite 0 (.config .powerState) wide v) s = .next (s.quiet.modBoot (fun b => { b with d3hot := true }))) ∧
  (∀ (wide : Bool) (v : DWord) (s : State), s.boot.linkUp = true → 8 ≤ v.toNat → v.toNat ≤ 19 →
    ∃ t, exec (.registerWrite 0 (.config .bar4Size) wide v) s = .next t ∧ t.bar4Bytes 0 = 2 ^ (20 + v.toNat) ∧ Only [.host, .out] s t) ∧
  (∀ (r : HostRate) (w : HostWidth) (partner channel : List (HostRate × HostWidth)) (f : Bool) (s : State), s.boot.linkUp = true →
    bestMode (commonModes partner channel) = some (r, w) → ∃ t, exec (.hostLinkRetrain partner channel f) s = .next t ∧ t.boot.linkRate = r ∧ t.boot.linkWidth = w ∧
      (r = .g64 → t.boot.linkFlit = true) ∧ (r = .g32 ∨ r = .g16 → t.boot.linkFlit = f) ∧ t.boot.linkUp = true ∧ Only [.boot, .out] s t) ∧
  (∀ (m : HostRate × HostWidth) (modes : List (HostRate × HostWidth)), m ∈ modes → m ∈ linkOrder →
    ∃ b, bestMode modes = some b ∧ b ∈ linkOrder ∧ b ∈ modes ∧ linkOrder.idxOf b ≤ linkOrder.idxOf m)

/-- R463: the I3C port from stage 1: a private write sets the offset and, at 0x40, RESET_CTRL alone; a read answers the port map
from the offset on; the dynamic address; GETPID.  The bytes that the manual does not state (BCR, DCR, status and the limits; PRESUMED
to exist, log entry 9) are free. -/
def Obligations.ManagementPort : Prop :=
(∀ (bytes : List Byte) (s : State), 1 ≤ s.boot.stage → 2 ≤ bytes.length → (0x40 < leField bytes 0 2 ∨ leField bytes 0 2 + (bytes.length - 2) ≤ 0x40) →
    exec (.i3cPrivateWrite bytes) s = .next (s.quiet.modHost (fun h => { h with i3cOffset := leField bytes 0 2 }))) ∧
  (∀ (v : Word) (s : State), 1 ≤ s.boot.stage → exec (.i3cPrivateWrite (leBytes 2 0x40 ++ leBytes 4 v.toNat)) s =
    .next ((s.quiet.modHost (fun h => { h with i3cOffset := 0x40 })).writeResetCtrl v.toNat)) ∧
  (∀ (len : Nat) (s : State), 1 ≤ s.boot.stage → exec (.i3cPrivateRead len) s =
    .next ((s.quiet.modHost (fun h => { h with i3cOffset := h.i3cOffset + len })).emit
      (.readData ((List.range len).map (fun i => s.i3cByte (s.host.i3cOffset + i))) false))) ∧
  (∀ (a : BitVec 7) (s : State), 1 ≤ s.boot.stage → s.host.i3cAddr = none → ∃ t bs, exec (.entdaa a) s = .next t ∧
    t.host.i3cAddr = some a ∧ bs.length = 2 ∧ t.out = [.i3c (leBytes 6 (2 ^ 32 + s.dog.serial.toNat % 2 ^ 32) ++ bs)] ∧
    Only [.host, .out, .free] s t) ∧
  (∀ (a : BitVec 7) (s : State), 1 ≤ s.boot.stage → s.host.i3cAddr = none →
    exec (.setdasa 0x2C a) s = .next (s.quiet.modHost (fun h => { h with i3cAddr := some a }))) ∧
  (∀ s : State, 1 ≤ s.boot.stage → exec .rstdaa s = .next (s.quiet.modHost (fun h => { h with i3cAddr := none }))) ∧
  (∀ s : State, 1 ≤ s.boot.stage → exec .getpid s = .next (s.quiet.emit (.i3c (leBytes 6 (2 ^ 32 + s.dog.serial.toNat % 2 ^ 32))))) ∧
  (∀ (c : Instr) (s : State), 1 ≤ s.boot.stage → c ∈ [.getbcr, .getdcr, .getstatus, .getmwl, .getmrl] → ∃ t bs, exec c s = .next t ∧
    t.out = [.i3c bs] ∧ bs.length = (if c = .getbcr ∨ c = .getdcr then 1 else 2) ∧ Only [.out, .free] s t)

/-- R303, R304, R348, Table 12.4: a doorbell adds to TAIL, or consumes from a CPL ring, up to its room; one that overflows halts
the queue; RESTART runs a halted queue again, from the next entry with SKIP; a doorbell of a queue that its function does not reach is
logged. -/
def Obligations.Doorbells : Prop :=
(∀ (fn : Fin 9) (q : Nat) (v : Word) (x y : Queue) (s : State), s.doorbellQueue fn q = some x → v.toNat % 2 ^ 17 ≤ 65536 →
    v.getLsbD 31 = false → x.add (v.toNat % 2 ^ 17) = some y → x.type ≠ .cpl →
      exec (.doorbellAdd fn q v) s = .next (s.quiet.modQueue q (fun _ => { x with tail := x.tail + BitVec.ofNat 32 (v.toNat % 2 ^ 17) }))) ∧
  (∀ (fn : Fin 9) (q : Nat) (v : Word) (x : Queue) (s : State), s.doorbellQueue fn q = some x → v.toNat % 2 ^ 17 ≤ 65536 →
    v.getLsbD 31 = false → x.type = .cpl → x.waitingCpl = [] → v.toNat % 2 ^ 17 ≤ x.fill →
      exec (.doorbellAdd fn q v) s = .next (s.quiet.modQueue q (fun _ => { x with
        head := x.head + BitVec.ofNat 32 (v.toNat % 2 ^ 17), taken := x.taken + BitVec.ofNat 64 (v.toNat % 2 ^ 17) }))) ∧
  (∀ (fn : Fin 9) (q : Nat) (v : Word) (x : Queue) (s : State), s.doorbellQueue fn q = some x → v.toNat % 2 ^ 17 ≤ 65536 →
    x.type ≠ .cpl → x.size < x.fill + v.toNat % 2 ^ 17 → exec (.doorbellAdd fn q v) s = .next (s.quiet.haltEvent x 0x20)) ∧
  (∀ (fn : Fin 9) (q : Nat) (v : Word) (x y : Queue) (s : State), s.doorbellQueue fn q = some x → v.toNat % 2 ^ 17 ≤ 65536 →
    v.getLsbD 31 = true → x.add (v.toNat % 2 ^ 17) = some y → x.type ≠ .cpl → x.halted = true →
      exec (.doorbellRestart fn q v) s = .next (s.quiet.modQueue q (fun _ => { y with
        halted := false, haltInfo := 0, head := if v.getLsbD 30 && y.head != y.tail then y.head + 1 else y.head }))) ∧
  (∀ (fn : Fin 9) (q : Nat) (v : Word) (s : State), s.doorbellQueue fn q = none →
    exec (.doorbellAdd fn q v) s = .next (s.quiet.logFault 9 0x0502 .corrected fn none none (q % 2 ^ 20)) ∧
    exec (.doorbellRestart fn q v) s = .next (s.quiet.logFault 9 0x0502 .corrected fn none none (q % 2 ^ 20)))

/-! ## Eszer commands (chapter 17): every clause speaks of a request that waits in a slot and passes the checks of R400 -/

/-- R415 to R417, R420, R423: the commands that report change nothing but their slot, and answer OK with the fields of their
tables. -/
def Obligations.ReportingCommands : Prop :=
(∀ (fn : Fin 9) (slot : Fin 4) (s : State), s.Waits fn slot 0x0101 → ∃ pay,
    exec (.devIdentify fn slot) s = .next (((s.taken fn slot).answer (slotIndex fn slot) stOk pay).settleRound) ∧ pay.length = 32 ∧
      leField pay 0 2 = 0x1F3C ∧ leField pay 2 2 = 0x0384 ∧ leField pay 4 1 = 0xB0 ∧ leField pay 5 1 = 2 ∧
      leField pay 16 8 = s.dog.serial.toNat ∧ (s.dog.Sound → leField pay 24 1 = s.dog.lcState)) ∧
  (∀ (fn : Fin 9) (slot : Fin 4) (p : Nat) (s : State), s.Waits fn slot 0x0102 → (s.reqIn fn slot).f 0 1 = p → p < 8 →
    (fn = 0 ∨ s.boundPen fn = some p) → (s.reqIn fn slot).f 1 1 ≤ 1 → (s.reqIn fn slot).zero 2 8 = true → ∃ pay,
      exec (.devStatus fn slot) s = .next (((s.taken fn slot).answer (slotIndex fn slot) stOk pay).settleRound) ∧
        (s.boot.Sound → leField pay 0 1 = s.boot.stage) ∧
        (∀ k < 8, pay.getD (4 + k) 0 = if fn = 0 ∨ k = p then (s.pen k).stateByte else 0) ∧
        leField pay 12 4 = s.boot.heartbeat.toNat ∧ leField pay 16 8 = s.time.now.toNat ∧
        leField pay 24 2 = (if s.bootHandler then 0 else s.time.epoch.toNat)) ∧
  (∀ (fn : Fin 9) (slot : Fin 4) (s : State), s.Waits fn slot 0x0103 → ∃ pay,
    exec (.devCaps fn slot) s = .next (((s.taken fn slot).answer (slotIndex fn slot) stOk pay).settleRound) ∧
      (3 ≤ s.boot.stage → leField pay 0 1 = s.enabledFolds 0 128) ∧ (s.boot.stage < 3 → leField pay 0 1 = 0) ∧
      (s.boot.stage < 4 → leField pay 32 8 = 0) ∧ (4 ≤ s.boot.stage → leField pay 32 4 = 1048576 ∧ leField pay 36 4 = 1048576) ∧
      (s.np.Sound → leField pay 8 8 = 48 * 2 ^ 30 * (s.np.stackList.filter Stack.trained).length)) ∧
  (∀ (fn : Fin 9) (slot : Fin 4) (p : Nat) (s : State), s.Waits fn slot 0x0304 → (s.reqIn fn slot).f 0 1 = p → p < 8 →
    (fn = 0 ∨ s.boundPen fn = some p) → (s.reqIn fn slot).zero 1 8 = true → ∃ pay,
      exec (.poolQuery fn slot) s = .next (((s.taken fn slot).answer (slotIndex fn slot) stOk pay).settleRound) ∧ pay.length = 80 ∧
        leField pay 48 8 = (s.pen p).nearMin % 2 ^ 64 ∧ leField pay 56 8 = (s.pen p).farMax % 2 ^ 64) ∧
  (∀ (fn : Fin 9) (slot : Fin 4) (s : State), s.Waits fn slot 0x0402 → ∃ pay,
    exec (.linkStatus fn slot) s = .next (((s.taken fn slot).answer (slotIndex fn slot) stOk pay).settleRound) ∧ pay.length = 112 ∧
      (∀ p < 8, leField pay (8 * p) 8 = (s.port p).status % 2 ^ 64) ∧ leField pay 64 8 = s.fabTopo % 2 ^ 64 ∧
      leField pay 72 8 = s.fabRing % 2 ^ 64)

/-- R410: a command on a pen from 8 up answers BAD_PARAM, and one of a virtual function on a pen that is not bound to it
NOT_PERMITTED; nothing else happens. -/
def Obligations.PenNotReached : Prop :=
∀ (c : Fin 9 → Fin 4 → Instr) (op : Nat),
    (c, op) ∈ [(Instr.devStatus, 0x0102), (.penCreate, 0x0201), (.penDestroy, 0x0202), (.penSetQuota, 0x0203), (.penSetPriority, 0x0204),
      (.penBindVf, 0x0205), (.tensorRegister, 0x0301), (.tensorRelease, 0x0302), (.itineraryLoad, 0x0303), (.poolQuery, 0x0304), (.baseRegister, 0x0305),
      (.queueCreate, 0x0403), (.queueDestroy, 0x0404), (.videoStreamOpen, 0x0501), (.videoStreamClose, 0x0502),
      (.videoPoolSet, 0x0503), (.jobQuiesce, 0x0902), (.jobResume, 0x0903), (.checkpointDrain, 0x0904), (.jobAbort, 0x0905)] →
    ∀ (fn : Fin 9) (slot : Fin 4) (s : State), s.Waits fn slot op →
      (8 ≤ (s.reqIn fn slot).f 0 1 → exec (c fn slot) s = .next (((s.taken fn slot).answer (slotIndex fn slot) stBadParam []).settleRound)) ∧
      ((s.reqIn fn slot).f 0 1 < 8 → fn ≠ 0 → s.boundPen fn ≠ some ((s.reqIn fn slot).f 0 1) →
        exec (c fn slot) s = .next (((s.taken fn slot).answer (slotIndex fn slot) stNotPermitted []).settleRound))

/-- R346, R348, R349, R360, R418: the pen commands in the states of a pen that allow them. -/
def Obligations.PenCommands : Prop :=
(∀ (fn : Fin 9) (slot : Fin 4) (p : Nat) (s : State), s.Waits fn slot 0x0201 → (s.reqIn fn slot).f 0 1 = p → p < 8 →
    (fn = 0 ∨ s.boundPen fn = some p) → (s.reqIn fn slot).zero 1 8 = true → (s.pen p).state = .empty →
      exec (.penCreate fn slot) s = .next ((((s.taken fn slot).modPen p (fun _ => { Pen.vacant with state := .ready })).answer
        (slotIndex fn slot) stOk []).settleRound)) ∧
  (∀ (fn : Fin 9) (slot : Fin 4) (p : Nat) (s : State), s.Waits fn slot 0x0202 → (s.reqIn fn slot).f 0 1 = p → p < 8 →
    (fn = 0 ∨ s.boundPen fn = some p) → (s.reqIn fn slot).zero 1 8 = true → ((s.pen p).state = .ready ∨ (s.pen p).state = .faulted) →
      ∃ t : State, exec (.penDestroy fn slot) s = .next ((t.answer (slotIndex fn slot) stOk []).settleRound) ∧
        (s.Sound → (t.pen p).state = .wiping ∧ (∀ o ∈ t.comp.ops, o.pen ≠ p) ∧ ∀ r ∈ t.qe.rops, r.pen ≠ p)) ∧
  (∀ (fn : Fin 9) (slot : Fin 4) (p : Nat) (s : State), s.Waits fn slot 0x0203 → (s.reqIn fn slot).f 0 1 = p → p < 8 →
    (fn = 0 ∨ s.boundPen fn = some p) → (s.reqIn fn slot).zero 1 8 = true → (s.pen p).state.live = true →
      let near := (s.reqIn fn slot).f 8 8
      let far := (s.reqIn fn slot).f 16 8
      near % pageBytes = 0 → far % 4096 = 0 → s.quotaFits p near far = true → (s.pen p).fixedUse ≤ near → (s.pen p).farUse ≤ far →
        exec (.penSetQuota fn slot) s = .next (((((s.taken fn slot).modPen p (fun x => { x with
          nearMin := near, farMax := far })).retryAllocs).answer (slotIndex fn slot) stOk []).settleRound)) ∧
  (∀ (fn : Fin 9) (slot : Fin 4) (p : Nat) (s : State), s.Waits fn slot 0x0204 → (s.reqIn fn slot).f 0 1 = p → p < 8 →
    (fn = 0 ∨ s.boundPen fn = some p) → (s.reqIn fn slot).f 1 1 ≤ 1 → (s.reqIn fn slot).zero 2 8 = true → (s.pen p).state = .ready →
      exec (.penSetPriority fn slot) s = .next ((((s.taken fn slot).modPen p (fun x => { x with
        grazing := (s.reqIn fn slot).f 1 1 = 1 })).answer (slotIndex fn slot) stOk []).settleRound)) ∧
  (∀ (fn : Fin 9) (slot : Fin 4) (p : Nat) (s : State), s.Waits fn slot 0x0205 → (s.reqIn fn slot).f 0 1 = p → p < 8 →
    (fn = 0 ∨ s.boundPen fn = some p) → (s.reqIn fn slot).f 1 1 ≤ 8 → (s.reqIn fn slot).zero 2 8 = true → (s.pen p).state = .ready →
    (∀ k < 8, k ≠ p → (s.pen k).vf = (s.reqIn fn slot).f 1 1 → (s.reqIn fn slot).f 1 1 = 0 ∨ (s.pen k).state = .empty) →
      exec (.penBindVf fn slot) s = .next ((((s.taken fn slot).modPen p (fun x => { x with vf := (s.reqIn fn slot).f 1 1 })).answer
        (slotIndex fn slot) stOk []).settleRound))

/-- R198, R217 to R221, R229, R251, R419, R420: a tensor enters its pen at the pen's next address with its stored size, at once near when
the host loads it, to be encoded when it names a source; a released tensor's moves are cancelled; R233, R234, R420: an itinerary is adopted
at once when no job is active, at the pen's next mark of point 0 otherwise, and 0xFFFFFFFF selects demand loading; the load waits for a
stack that does not serve it (R275), and one whose tensor is poisoned poisons it and answers BAD_PARAM (log entry 169);
R247, R271, R275, R421: a base is registered from a tensor, once it is near, served and free of poison, answering when its golden copy is
written. -/
def Obligations.TensorCommands : Prop :=
(∀ (fn : Fin 9) (slot : Fin 4) (p : Nat) (s : State), s.Waits fn slot 0x0301 → (s.reqIn fn slot).f 0 1 = p → p < 8 →
    (fn = 0 ∨ s.boundPen fn = some p) → (s.pen p).state.live = true → (s.reqIn fn slot).f 12 4 = 0 → (s.reqIn fn slot).f 1 1 = 0 →
    (s.reqIn fn slot).f 4 4 = 0 →
      let flags := (s.reqIn fn slot).f 2 2
      let source := (s.reqIn fn slot).f 8 4
      let encode := flags.testBit 2
      let e := ((s.reqIn fn slot).pay.drop 16).take 64
      let sh := if flags.testBit 1 then ((s.reqIn fn slot).pay.drop 80).take 64 else []
      let t0 := parseTensor e sh
      let x := (s.pen p).place t0
      let t : Tensor := { t0.freshTables with
        penAddr := x.1, accounted := t0.accountedSize, encodeFrom := if encode then some (BitVec.ofNat 32 source) else none
        lastUse := BitVec.ofNat 32 (s.time.now.toNat / 1024) }
      let u := (s.taken fn slot).addTensor p x t
      let pay := leBytes 8 x.1 ++ leBytes 8 t0.accountedSize
      flags < 8 → t0.shard.isSome = flags.testBit 1 → t0.hostLoaded = flags.testBit 0 → s.entryOk p e sh t0 = true →
      (encode = false → source = 0) → (encode = true → t0.comp = 2 ∧ t0.hostLoaded = false ∧ s.encodeSourceOk p source t0 = true) →
      s.tensor? t0.handle.toNat = none → x.2.2 < 2 ^ 48 → (u.pen p).fixedUse ≤ (s.pen p).nearMin →
        (t0.hostLoaded = false → exec (.tensorRegister fn slot) s = .next ((u.answer (slotIndex fn slot) stOk pay).settleRound)) ∧
        (t0.hostLoaded = true → (u.allocate p t false s.time.clock).2 = true → exec (.tensorRegister fn slot) s =
          .next ((((u.allocate p t false s.time.clock).1.becomeNear p t0.handle.toNat .near).answer (slotIndex fn slot) stOk pay).settleRound)) ∧
        (t0.hostLoaded = true → (u.allocate p t false s.time.clock).2 = false → exec (.tensorRegister fn slot) s =
          .next (((s.taken fn slot).answer (slotIndex fn slot) stNoResource []).settleRound))) ∧
  (∀ (fn : Fin 9) (slot : Fin 4) (p : Nat) (s : State), s.Waits fn slot 0x0301 → (s.reqIn fn slot).f 0 1 = p → p < 8 →
    (fn = 0 ∨ s.boundPen fn = some p) → (s.pen p).state.live = true → (s.reqIn fn slot).f 12 4 = 0 → (s.reqIn fn slot).f 1 1 = 1 →
    (s.reqIn fn slot).f 2 2 = 0 → (s.reqIn fn slot).f 8 4 = 0 →
      let e := ((s.reqIn fn slot).pay.drop 16).take 64
      let v : View := { number := (s.reqIn fn slot).f 4 4, extents := (List.range 6).map (fun k => leField e (4 * k) 4)
                        strides := (List.range 5).map (fun k => leField e (24 + 4 * k) 4) }
      let u := (s.taken fn slot).modPen p (fun x => { x with views := x.views.filter (fun y => y.number != v.number) ++ [v] })
      v.number ≠ 0 → v.number ≤ 65535 → (∀ b ∈ e.drop 44, b = 0) → (∀ n ∈ v.extents, n ≠ 0 ∧ n < 2 ^ 31) →
      (u.pen p).fixedUse ≤ (s.pen p).nearMin →
        exec (.tensorRegister fn slot) s = .next ((u.answer (slotIndex fn slot) stOk []).settleRound)) ∧
  (∀ (fn : Fin 9) (slot : Fin 4) (p : Nat) (t : Tensor) (s : State), s.Waits fn slot 0x0301 → (s.reqIn fn slot).f 0 1 = p → p < 8 →
    (fn = 0 ∨ s.boundPen fn = some p) → (s.pen p).state.live = true → (s.reqIn fn slot).f 12 4 = 0 → (s.reqIn fn slot).f 1 1 = 2 →
    (s.reqIn fn slot).f 2 2 = 0 →
      let h := (s.reqIn fn slot).f 8 4
      let n := (s.reqIn fn slot).f 4 4
      let ds := (List.range n).map (fun k => ((s.reqIn fn slot).pay.drop (16 + 256 * k)).take 256)
      let k := (s.pen p).nextRecipe
      let u := ((s.taken fn slot).modTensor h (fun x => { x with recipe := ds, recipeIndex := k })).modPen p (fun x => { x with
        nextRecipe := k + 1 })
      s.tensor? h = some t → h / 2 ^ 29 = p → t.released = false → 1 ≤ n → n ≤ 8 → s.recipeOk p h ds = true → t.run = none →
      (u.pen p).fixedUse ≤ (s.pen p).nearMin → k < 2 ^ 24 →
        exec (.tensorRegister fn slot) s = .next ((u.answer (slotIndex fn slot) stOk (leBytes 4 k ++ leBytes 4 0)).settleRound)) ∧
  (∀ (fn : Fin 9) (slot : Fin 4) (p : Nat) (t : Tensor) (s : State), s.Waits fn slot 0x0302 → (s.reqIn fn slot).f 0 1 = p → p < 8 →
    (fn = 0 ∨ s.boundPen fn = some p) → (s.pen p).state.live = true → (s.reqIn fn slot).zero 1 4 = true →
    s.tensor? ((s.reqIn fn slot).f 4 4) = some t → (s.reqIn fn slot).f 4 4 / 2 ^ 29 = p → t.released = false → s.bound p t = false →
      exec (.tensorRelease fn slot) s = .next ((((((s.taken fn slot).cancelMoves p ((s.reqIn fn slot).f 4 4)).sweepReleased).retryAllocs).answer
        (slotIndex fn slot) stOk []).settleRound)) ∧
  (∀ (fn : Fin 9) (slot : Fin 4) (p : Nat) (s : State), s.Waits fn slot 0x0303 → (s.reqIn fn slot).f 0 1 = p → p < 8 →
    (fn = 0 ∨ s.boundPen fn = some p) → (s.pen p).state.live = true → (s.reqIn fn slot).zero 1 4 = true →
    (s.reqIn fn slot).f 4 4 = 0xFFFFFFFF →
      exec (.itineraryLoad fn slot) s = .next ((((s.taken fn slot).modPen p (fun x => { x with
        itinerary := none, pendingItin := none, demand := true, measured := [] })).answer (slotIndex fn slot) stOk (List.replicate 16 0)).settleRound)) ∧
  (∀ (fn : Fin 9) (slot : Fin 4) (p : Nat) (t : Tensor) (it : Itinerary) (s : State), s.Waits fn slot 0x0303 → (s.reqIn fn slot).f 0 1 = p →
    p < 8 → (fn = 0 ∨ s.boundPen fn = some p) → (s.pen p).state.live = true → (s.reqIn fn slot).zero 1 4 = true →
    s.tensor? ((s.reqIn fn slot).f 4 4) = some t → (s.reqIn fn slot).f 4 4 / 2 ^ 29 = p → t.released = false → t.fmt = 0xC → t.mx = false →
    t.comp = 0 → t.hostLoaded = true → t.readable = true → s.servesTensor .drover t = true → s.tensorPoisoned t = false →
    (s.taken fn slot).parseItinerary p ((List.range t.storedBytes).map ((s.taken fn slot).nearForm p t)) = some it →
    (s.reqIn fn slot).f 4 4 ≠ 0xFFFFFFFF →
      let running := (s.pen p).state = .running ∨ (s.pen p).state = .quiescing ∨ (s.pen p).state = .quiesced
      let now := (s.taken fn slot).modPen p (fun x => { x with itinerary := some it, pendingItin := none })
      let later := (s.taken fn slot).modPen p (fun x => { x with pendingItin := some it })
      ∃ pay, pay.length = 16 ∧ leField pay 0 4 = it.points.length % 2 ^ 32 ∧
        (¬ running → (now.pen p).fixedUse ≤ (s.pen p).nearMin → leField pay 8 1 = 0 ∧ exec (.itineraryLoad fn slot) s =
          .next (((((s.taken fn slot).adoptNow p it).useTensor t.handle.toNat).answer (slotIndex fn slot) stOk pay).settleRound)) ∧
        (running → (later.pen p).fixedUse ≤ (s.pen p).nearMin → leField pay 8 1 = 1 ∧ exec (.itineraryLoad fn slot) s =
          .next (((later.useTensor t.handle.toNat).answer (slotIndex fn slot) stOk pay).settleRound))) ∧
  (∀ (fn : Fin 9) (slot : Fin 4) (p : Nat) (t : Tensor) (s : State), s.Waits fn slot 0x0303 → (s.reqIn fn slot).f 0 1 = p →
    p < 8 → (fn = 0 ∨ s.boundPen fn = some p) → (s.pen p).state.live = true → (s.reqIn fn slot).zero 1 4 = true →
    s.tensor? ((s.reqIn fn slot).f 4 4) = some t → (s.reqIn fn slot).f 4 4 / 2 ^ 29 = p → t.released = false → t.fmt = 0xC → t.mx = false →
    t.comp = 0 → t.hostLoaded = true → t.readable = true → (s.reqIn fn slot).f 4 4 ≠ 0xFFFFFFFF →
      (s.servesTensor .drover t = false → exec (.itineraryLoad fn slot) s = .next (s.taken fn slot).settleRound) ∧
      (s.servesTensor .drover t = true → s.tensorPoisoned t = true → exec (.itineraryLoad fn slot) s =
        .next ((((s.taken fn slot).meetPoison t).answer (slotIndex fn slot) stBadParam []).settleRound))) ∧
  (∀ (fn : Fin 9) (slot : Fin 4) (p : Nat) (t : Tensor) (s : State), s.Waits fn slot 0x0305 → (s.reqIn fn slot).f 0 1 = p → p < 8 →
    (fn = 0 ∨ s.boundPen fn = some p) → (s.pen p).state.live = true → (s.reqIn fn slot).f 1 1 ≤ 63 → (s.reqIn fn slot).f 2 1 = 0 →
    (s.reqIn fn slot).f 3 1 = 0 → s.busySlots 0x0305 (fun _ => true) = [] → s.tensor? ((s.reqIn fn slot).f 4 4) = some t →
    (s.reqIn fn slot).f 4 4 / 2 ^ 29 = p → t.released = false → baseSource t = true →
    (∀ b, s.base? (baseHandle ((s.reqIn fn slot).f 1 1)) = some b → b.lost = true) → s.stripeNow ≠ [] →
      let u := s.taken fn slot
      (t.readable = true → s.servesTensor .drover t = true → s.tensorPoisoned t = false → exec (.baseRegister fn slot) s =
        .next ((u.beginBase (slotIndex fn slot) p ((s.reqIn fn slot).f 1 1) t).settleRound)) ∧
      (t.readable = true → s.servesTensor .drover t = true → s.tensorPoisoned t = true → exec (.baseRegister fn slot) s =
        .next ((u.meetPoison t).settleRound)) ∧
      (t.readable = true → s.servesTensor .drover t = false → exec (.baseRegister fn slot) s = .next u.settleRound) ∧
      (t.readable = false → exec (.baseRegister fn slot) s = .next ((u.takePath p ((s.reqIn fn slot).f 4 4) s.time.clock false).settleRound))) ∧
  (∀ (fn : Fin 9) (slot : Fin 4) (p : Nat) (b : Tensor) (s : State), s.Waits fn slot 0x0305 → (s.reqIn fn slot).f 0 1 = p → p < 8 →
    (fn = 0 ∨ s.boundPen fn = some p) → (s.reqIn fn slot).f 1 1 ≤ 63 → (s.reqIn fn slot).f 2 1 = 1 → (s.reqIn fn slot).f 3 1 = 0 →
    (s.reqIn fn slot).f 4 4 = 0 → s.busySlots 0x0305 (fun _ => true) = [] → s.base? (baseHandle ((s.reqIn fn slot).f 1 1)) = some b →
    s.baseNamed ((s.reqIn fn slot).f 1 1) = false →
      exec (.baseRegister fn slot) s = .next (((((((s.taken fn slot).freeBasePages b).modDrover (fun d => { d with
        bases := d.bases.filter (fun x => x.1 != (s.reqIn fn slot).f 1 1)
        basePens := d.basePens.filter (fun x => x.1 != (s.reqIn fn slot).f 1 1) })).retryAllocs)).answer (slotIndex fn slot) stOk []).settleRound))

/-- R278, R296, R297, R331, R338, R422, R425: a topology that leaves the coordinate and the extents as they are takes effect at once and
is kept in the settings, and a device that becomes placed disables its ports on an axis of extent 1 (the effect of PLACED alone is the
model's choice, log entry 149); one that changes them starts the drain, and the response follows it; the master's time role. -/
def Obligations.FabricCommands : Prop :=
(∀ (fn : Fin 9) (slot : Fin 4) (s : State), s.Waits fn slot 0x0401 →
    let r := s.reqIn fn slot
    let flags := r.f 8 1
    let x : TopoChange := { coord := BitVec.ofNat 16 (r.f 0 2), extent := BitVec.ofNat 16 (r.f 2 2), bellwether := BitVec.ofNat 16 (r.f 4 2)
                            deputy := BitVec.ofNat 16 (r.f 6 2), placed := flags.testBit 0, slot := some (slotIndex fn slot) }
    let set := ((s.taken fn slot).modFab (fun f => { f with transitOnly := f.transitOnly && !(flags.testBit 1) })).ownWrite
      (.settings { s.dog.inUse with coord := x.coord, extent := x.extent, bellwether := x.bellwether, deputy := x.deputy, placed := x.placed })
    flags ≤ 3 → r.zero 9 16 = true → coordWithin x.extent x.coord = true → coordWithin x.extent x.bellwether = true →
    coordWithin x.extent x.deputy = true → extentProduct x.extent ≤ 8192 →
    x.deputy = deputyOf x.extent x.bellwether (s.skipped x.coord x.placed (flags.testBit 1)) → s.fab.draining = none →
    (flags.testBit 1 = false ∨ s.boot.hubFaulted = false) →
      (x.coord = s.fab.coord → x.extent = s.fab.extent → ∃ u : State,
        u = (if x.placed = s.fab.placed then set else
          (set.modFab (fun f => { f with placed := x.placed })).forAll (List.range 8) State.rewire).nameLeaders x.bellwether x.deputy ∧
        (x.placed = true → exec (.fabricTopologySet fn slot) s = .next ((u.answer (slotIndex fn slot) stOk []).settleRound)) ∧
        (x.placed = false → exec (.fabricTopologySet fn slot) s = .next ((u.leaveFull.answer (slotIndex fn slot) stOk []).settleRound)) ∧
        u.fab.placed = x.placed ∧ u.fab.coord = s.fab.coord ∧ u.fab.extent = s.fab.extent ∧
        (s.fab.ports.length = 8 → s.fab.placed = false → x.placed = true → ∀ k < 8, extentOf s.fab.extent (k / 2) = 1 →
          (u.port k).lstate = .disabled)) ∧
      (x.coord ≠ s.fab.coord ∨ x.extent ≠ s.fab.extent → s.jobActive = false → exec (.fabricTopologySet fn slot) s =
        .next (((set.modFab (fun f => { f with draining := some x })).leaveFull).settleRound)) ∧
      (x.coord ≠ s.fab.coord ∨ x.extent ≠ s.fab.extent → s.jobActive = true → exec (.fabricTopologySet fn slot) s =
        .next (((s.taken fn slot).answer (slotIndex fn slot) stJobActive []).settleRound))) ∧
  (∀ (fn : Fin 9) (slot : Fin 4) (s : State), s.Waits fn slot 0x0405 →
    let r := s.reqIn fn slot
    r.f 0 1 ≤ 1 → r.f 1 1 ≤ 1 → r.zero 2 8 = true → (r.f 1 1 = 1 → r.f 0 1 = 1) →
      (s.isMaster = true → exec (.timeRoleSet fn slot) s = .next ((((s.taken fn slot).modTime (fun x =>
        if r.f 0 1 = 1 then { (if r.f 1 1 = 1 then x.refer (r.f 8 8) else x) with hostSource := true }
        else { x with hostSource := false, ratePpb := 0, slewLeft := none })).answer (slotIndex fn slot) stOk
          (leBytes 8 s.time.now.toNat ++ leBytes 2 s.time.epoch.toNat)).settleRound)) ∧
      (s.isMaster = false → exec (.timeRoleSet fn slot) s = .next (((s.taken fn slot).answer (slotIndex fn slot) stRefused []).settleRound)))

/-- R299, R302, R424: QUEUE_CREATE gives the lowest free id an enabled context with HEAD and TAIL 0; QUEUE_DESTROY closes the
streams that the queue feeds and frees it once nothing of it is in flight. -/
def Obligations.QueueCommands : Prop :=
(∀ (fn : Fin 9) (slot : Fin 4) (p n : Nat) (ty : QType) (s : State), s.Waits fn slot 0x0403 →
    let r := s.reqIn fn slot
    let q := parseQueue r 0 p ty
    r.f 0 1 = p → p < 8 → (fn = 0 ∨ s.boundPen fn = some p) → (s.pen p).state.live = true → qtypeOf (r.f 1 1) = some ty → r.f 2 1 ≤ 15 →
    r.f 3 1 ≤ 3 → r.zero 22 24 = true → s.queueFieldsOk q = true → n < 2 ^ 20 → (∀ x ∈ s.qe.queues, x.id ≠ n) →
    (∀ k < n, ∃ x ∈ s.qe.queues, x.id = k) →
      exec (.queueCreate fn slot) s = .next ((((s.taken fn slot).modQe (fun e => { e with queues := e.queues ++ [{ q with
        id := n, timeoutUs := if ty = .rop && q.timeoutUs = 0 then 1000 else q.timeoutUs }] })).answer (slotIndex fn slot) stOk (leBytes 4 n)).settleRound) ∧
      q.enabled = true ∧ q.halted = false ∧ q.head = 0 ∧ q.tail = 0 ∧ q.taken = 0) ∧
  (∀ (fn : Fin 9) (slot : Fin 4) (p : Nat) (q : Queue) (s : State), s.Waits fn slot 0x0404 →
    let r := s.reqIn fn slot
    r.f 0 1 = p → p < 8 → (fn = 0 ∨ s.boundPen fn = some p) → (s.pen p).state.live = true → r.zero 1 4 = true → s.queue? (r.f 4 4) = some q →
    q.pen = p → q.dying = false →
    (q.type = .cpl → ∀ x ∈ s.qe.queues, x.id ≠ r.f 4 4 → x.type ≠ .cpl → x.cplQid.toNat ≠ r.f 4 4) →
      exec (.queueDestroy fn slot) s = .next ((((((s.taken fn slot).modQueue (r.f 4 4) (fun x => { x with
        dying := true })).closeStreamsOf (· == r.f 4 4)).sweepQueues.makeAllReady).answer (slotIndex fn slot) stOk []).settleRound))

/-- R367 to R369, R426: a stream opens on the lowest free context of its kind when the pen's pool has the buffers; it closes at once
unless a picture of it is on a core, and then when that ends; the pool changes while no stream of the pen is open. -/
def Obligations.VideoStreamCommands : Prop :=
(∀ (fn : Fin 9) (slot : Fin 4) (p n : Nat) (s : State), s.Waits fn slot 0x0501 →
    let r := s.reqIn fn slot
    let b := (r.pay.drop 8).take 64
    let c := parseStream b
    r.f 0 1 = p → p < 8 → (fn = 0 ∨ s.boundPen fn = some p) → (s.pen p).state.live = true → r.zero 1 8 = true → streamFieldsOk b c = true →
    (∃ q, s.queue? c.queue = some q ∧ q.type = .vid ∧ q.pen = p ∧ q.dying = false) → s.freeContext c.encode = some n →
    c.bufferBytes ≤ (s.pen p).pool.elim 0 Prod.snd → c.reserve ≤ s.unreserved p →
      exec (.videoStreamOpen fn slot) s = .next ((((s.taken fn slot).modVideo (fun v => { v with streams := v.streams ++
        [{ number := n, pen := p, conf := c, pieces := [], offset := 0, work := [], ready := none, pictures := []
           outputs := [], flush := none, context := 0, outUpTo := 0, nextPicture := 0, qp := c.qp, sizes := []
           sinceKey := none, band := 0, skipping := none, clashes := [], closing := false, closeSlots := [] }] })).answer (slotIndex fn slot) stOk (leBytes 2 n)).settleRound)) ∧
  (∀ (fn : Fin 9) (slot : Fin 4) (p : Nat) (x : Stream) (s : State), s.Waits fn slot 0x0502 →
    let r := s.reqIn fn slot
    let t := (s.taken fn slot).closeStream (r.f 2 2) (some (slotIndex fn slot))
    r.f 0 1 = p → p < 8 → (fn = 0 ∨ s.boundPen fn = some p) → (s.pen p).state.live = true → r.f 1 1 = 0 → r.zero 4 8 = true →
    s.stream? (r.f 2 2) = some x → x.pen = p →
      (t.stream? (r.f 2 2) = none → exec (.videoStreamClose fn slot) s = .next ((t.makeAllReady.answer (slotIndex fn slot) stOk []).settleRound)) ∧
      (t.stream? (r.f 2 2) ≠ none → exec (.videoStreamClose fn slot) s = .next t.settleRound)) ∧
  (∀ (fn : Fin 9) (slot : Fin 4) (p : Nat) (s : State), s.Waits fn slot 0x0503 →
    let r := s.reqIn fn slot
    let u := (s.taken fn slot).modPen p (fun x => { x with pool := if r.f 4 4 = 0 then none else some (r.f 4 4, r.f 8 8) })
    r.f 0 1 = p → p < 8 → (fn = 0 ∨ s.boundPen fn = some p) → (s.pen p).state.live = true → r.zero 1 4 = true → r.f 4 4 ≤ 4096 →
    r.f 8 8 % pageBytes = 0 → (∀ x ∈ s.video.streams, x.pen ≠ p) →
      ((u.pen p).fixedUse ≤ (s.pen p).nearMin → exec (.videoPoolSet fn slot) s = .next ((u.retryAllocs.answer (slotIndex fn slot) stOk []).settleRound)) ∧
      ((s.pen p).nearMin < (u.pen p).fixedUse → exec (.videoPoolSet fn slot) s =
        .next (((s.taken fn slot).answer (slotIndex fn slot) stNoResource []).settleRound)))

/-- R80, R433, R486, R487, R494, R497, R499: the fault log is read and cleared, a retired Fold is put down for the self-test, a
snapshot is taken at once or scheduled, telemetry is read, and the power limit is set within 600 to 1,200 W. -/
def Obligations.HealthCommands : Prop :=
(∀ (fn : Fin 9) (slot : Fin 4) (b : FaultBank) (s : State), s.Waits fn slot 0x0801 →
    let r := s.reqIn fn slot
    let rs := (b.records.drop (r.f 1 1)).take (r.f 2 1)
    1 ≤ r.f 2 1 → r.f 2 1 ≤ 32 → r.zero 3 8 = true → s.health.banks[r.f 0 1]? = some b →
      exec (.faultRead fn slot) s = .next (((s.taken fn slot).answer (slotIndex fn slot) stOk
        ([BitVec.ofNat 8 b.records.length, BitVec.ofNat 8 rs.length] ++ List.replicate 6 0 ++ rs.flatMap recordBytes)).settleRound)) ∧
  (∀ (fn : Fin 9) (slot : Fin 4) (b : FaultBank) (s : State), s.Waits fn slot 0x0802 →
    let r := s.reqIn fn slot
    r.zero 3 8 = true → s.health.banks[r.f 0 1]? = some b →
      (r.f 1 1 = 0 → r.f 2 1 < b.records.length → exec (.faultClear fn slot) s = .next ((((s.taken fn slot).modBank (r.f 0 1) (fun x => { x with
        records := x.records.set (r.f 2 1) none })).answer (slotIndex fn slot) stOk []).settleRound)) ∧
      (r.f 1 1 = 1 → exec (.faultClear fn slot) s = .next ((((s.taken fn slot).modBank (r.f 0 1) (fun x => { x with
        records := x.records.map (fun _ => none), lost := 0 })).answer (slotIndex fn slot) stOk []).settleRound))) ∧
  (∀ (fn : Fin 9) (slot : Fin 4) (s : State), s.Waits fn slot 0x0802 →
    let r := s.reqIn fn slot
    r.zero 3 8 = true → r.f 1 1 = 2 → r.f 2 1 ≤ 135 → (s.fold (r.f 2 1)).state = .retired →
      ∃ t : State, exec (.faultClear fn slot) s = .next ((t.answer (slotIndex fn slot) stOk []).settleRound) ∧ r.f 2 1 ∈ t.dog.retest ∧
        (∀ k ∈ s.dog.retest, k ∈ t.dog.retest) ∧ (∀ k ∈ t.dog.retest, k = r.f 2 1 ∨ k ∈ s.dog.retest)) ∧
  (∀ (fn : Fin 9) (slot : Fin 4) (s : State), s.Waits fn slot 0x0803 →
    let r := s.reqIn fn slot
    s.health.snapshot = none → r.f 1 1 = 0 → r.zero 4 8 = true →
      (r.f 0 1 = 0 → exec (.tallySnapshot fn slot) s = .next (((s.taken fn slot).tick.answer (slotIndex fn slot) stOk (s.taken fn slot).tick.tickBytes).settleRound)) ∧
      (r.f 0 1 = 1 → r.f 2 2 = s.time.epoch.toNat → r.f 8 8 ≤ s.time.now.toNat + 1000000000 → s.time.now.toNat < r.f 8 8 →
        s.isBellwether = false → exec (.tallySnapshot fn slot) s = .next (((s.taken fn slot).modHealth (fun h => { h with
          snapshot := some (BitVec.ofNat 16 (r.f 2 2), BitVec.ofNat 64 (r.f 8 8), some (slotIndex fn slot)) })).settleRound))) ∧
  (∀ (fn : Fin 9) (slot : Fin 4) (s : State), s.Waits fn slot 0x0804 →
    let r := s.reqIn fn slot
    1 ≤ r.f 2 2 → r.f 2 2 ≤ 500 → r.zero 4 8 = true → r.f 0 2 < 58 →
      exec (.telemetryRead fn slot) s = .next (((s.taken fn slot).answer (slotIndex fn slot) stOk
        (leBytes 2 (min (r.f 2 2) (58 - r.f 0 2)) ++ List.replicate 6 0 ++
          (List.range (min (r.f 2 2) (58 - r.f 0 2))).flatMap (fun i => leBytes 8 ((s.taken fn slot).item (r.f 0 2 + i))))).settleRound)) ∧
  (∀ (fn : Fin 9) (slot : Fin 4) (s : State), s.Waits fn slot 0x0805 →
    let r := s.reqIn fn slot
    r.zero 4 8 = true →
      (600 ≤ r.f 0 4 → r.f 0 4 ≤ 1200 → exec (.powerLimitSet fn slot) s = .next ((((s.taken fn slot).modPower (fun p => { p with
        limit := r.f 0 4 })).answer (slotIndex fn slot) stOk (leBytes 4 (r.f 0 4) ++ leBytes 4 0)).settleRound)) ∧
      (r.f 0 4 < 600 ∨ 1200 < r.f 0 4 → exec (.powerLimitSet fn slot) s = .next (((s.taken fn slot).answer (slotIndex fn slot) stBadParam []).settleRound)))

/-- R322, R355, R356, R358, R434, R435: a job starts in a READY pen, quiesces, goes on and is aborted; a drain answers when every
tensor it lists is near, and at once when they all are; with no room for one it answers NO_RESOURCE, and only those already near stay
held. -/
def Obligations.JobCommands : Prop :=
(∀ (fn : Fin 9) (slot : Fin 4) (p : Nat) (s : State), s.Waits fn slot 0x0901 →
    let r := s.reqIn fn slot
    let b := (r.pay.drop 8).take 64
    let x := parsePlacement b
    let t := (s.taken fn slot).modPen p (fun y => { y with
      state := .running, jobKey := x.jobKey, placement := some x, jobStatus := 0, drained := false })
    s.dog.session = none → r.f 0 1 = p → p < 8 → (fn = 0 ∨ s.boundPen fn = some p) → (s.pen p).state = .ready → r.zero 1 8 = true →
    s.placementOk b x = true → x.generation = s.generation x.jobKey →
      (x.lextent = 0 → exec (.jobSubmit fn slot) s = .next ((t.answer (slotIndex fn slot) stOk []).settleRound)) ∧
      (x.lextent ≠ 0 → (s.pen p).grazing = false → s.boot.stage ≠ 4 → exec (.jobSubmit fn slot) s =
        .next (((t.join p).answer (slotIndex fn slot) stOk []).settleRound))) ∧
  (∀ (fn : Fin 9) (slot : Fin 4) (p : Nat) (s : State), s.Waits fn slot 0x0902 →
    let r := s.reqIn fn slot
    r.f 0 1 = p → p < 8 → (fn = 0 ∨ s.boundPen fn = some p) → r.zero 1 8 = true → (s.pen p).state = .running →
      ∃ t, exec (.jobQuiesce fn slot) s = .next t.settleRound ∧ t = ((s.taken fn slot).modPen p (fun x => { x with state := .quiescing })).drainPen p ∧
        (s.Sound → (t.pen p).state = .quiescing ∧ (t.slotAt (slotIndex fn slot)).state = 1)) ∧
  (∀ (fn : Fin 9) (slot : Fin 4) (p : Nat) (s : State), s.Waits fn slot 0x0903 →
    let r := s.reqIn fn slot
    r.f 0 1 = p → p < 8 → (fn = 0 ∨ s.boundPen fn = some p) → r.zero 1 8 = true → (s.pen p).state = .quiesced →
      exec (.jobResume fn slot) s = .next (((((s.taken fn slot).modPen p (fun x => { x with
        state := .running, drained := false, tensors := x.tensors.map (fun y => { y with held := false }) })).prepare p).answer
          (slotIndex fn slot) stOk []).settleRound)) ∧
  (∀ (fn : Fin 9) (slot : Fin 4) (p : Nat) (s : State), s.Waits fn slot 0x0905 →
    let r := s.reqIn fn slot
    r.f 0 1 = p → p < 8 → (fn = 0 ∨ s.boundPen fn = some p) → r.zero 1 8 = true → (s.pen p).state.abortable = true →
      exec (.jobAbort fn slot) s = .next (((((s.taken fn slot).hostAbort p).retryAllocs).answer (slotIndex fn slot) stOk []).settleRound)) ∧
  (∀ (fn : Fin 9) (slot : Fin 4) (p : Nat) (s : State), s.Waits fn slot 0x0904 →
    let r := s.reqIn fn slot
    let hs := drainHandles r.pay
    let s1 := (s.taken fn slot).modPen p (fun x => { x with tensors := x.tensors.map (fun y => { y with held := false }) })
    let t := (s1.forAll hs (fun u h => u.bringNear p h)).flushPen p
    r.f 0 1 = p → p < 8 → (fn = 0 ∨ s.boundPen fn = some p) → r.f 1 1 = 0 → 1 ≤ r.f 2 2 → r.f 2 2 ≤ 1000 → r.zero 4 8 = true →
    (s.pen p).state = .quiesced → (∀ h ∈ hs, h / 2 ^ 29 = p ∧ s.live? h = true) →
    let stuck (h : Nat) : Bool := (t.tensor? h).any Tensor.allocWait
    (∀ i, hs.findIdx? stuck = some i → exec (.checkpointDrain fn slot) s =
      .next ((((t.forAll (hs.filter stuck) (fun u h => u.setAllocWait h false)).holdNear hs).answer (slotIndex fn slot) stNoResource
        (leBytes 2 i)).settleRound)) ∧
    ((∀ h ∈ hs, stuck h = false) →
      ((t.firstFar hs).isNone = true → exec (.checkpointDrain fn slot) s = .next ((t.answer (slotIndex fn slot) stOk (leBytes 2 (r.f 2 2))).settleRound)) ∧
      ((t.firstFar hs).isSome = true → exec (.checkpointDrain fn slot) s = .next t.settleRound)))

/-- R427 to R430, R472 to R474, R476: an update session opens on an idle device and starts the erase, takes the image's blocks in order,
each once its sectors are erased, and answers with the next offset, and ends by the one write of the boot control block, by an abort or by a failed check; the running
image is confirmed; the slots are reported. -/
def Obligations.FirmwareUpdate : Prop :=
(∀ (fn : Fin 9) (slot : Fin 4) (s : State), s.Waits fn slot 0x0601 →
    let r := s.reqIn fn slot
    let t := (s.taken fn slot).sampleHoldup true
    let b := (t.dog.settled.bcbNow).getD .none'
    let u := t.modDog (fun g => { (g.openSession (r.f 0 4) (BitVec.ofNat 32 (r.f 4 4))) with
      window := if r.f 4 4 < t.fwVersion then none else g.window })
    t.dog.session = none → b.states.contains .unconfirmed = false → ((t.dog.settled.identNow).getD .none').ownerLock = false → s.jobActive = false →
    r.f 0 4 ≠ 0 → r.f 0 4 ≤ (if t.dog.dualSlot then 48 * mib else 24 * mib) → r.f 8 1 ≤ 1 → r.zero 9 16 = true → t.dog.floor ≤ r.f 4 4 / 2 ^ 24 →
    (r.f 4 4 < t.fwVersion → r.f 8 1 = 1 ∧ t.windowOpen = true) →
      exec (.fwUpdateBegin fn slot true) s = .next ((u.answer (slotIndex fn slot) stOk (leBytes 4 u.dog.sessionCounter.toNat ++ leBytes 4 2048)).settleRound) ∧
      (∃ x, u.dog.session = some x ∧ x.number = u.dog.sessionCounter ∧ x.number ≠ 0 ∧ x.accepted = 0 ∧ x.imageBytes = r.f 0 4 ∧ x.target < 2)) ∧
  (∀ (fn : Fin 9) (slot : Fin 4) (x : Session) (s : State), s.Waits fn slot 0x0602 →
    let r := s.reqIn fn slot
    let t := (s.taken fn slot).sampleHoldup true
    let data := r.pay.drop 16
    t.dog.session = some x → x.number.toNat = r.f 0 4 → r.zero 10 16 = true →
      (r.f 4 4 = x.accepted → data ≠ [] → data.length = min 2048 (x.imageBytes - x.accepted) →
       (∀ a ∈ t.dog.blockSectors x, a ∉ t.dog.erasing) → ∃ u : State,
        u = t.modDog (fun g => g.takeBlock x data) ∧
        exec (.fwUpdateBlock fn slot true) s = .next ((u.answer (slotIndex fn slot) stOk (leBytes 4 (x.accepted + data.length))).settleRound) ∧
          (∃ y, u.dog.session = some y ∧ y.number = x.number ∧ y.accepted = x.accepted + data.length)) ∧
      (r.f 4 4 = x.accepted → data ≠ [] → data.length = min 2048 (x.imageBytes - x.accepted) →
       (∃ a ∈ t.dog.blockSectors x, a ∈ t.dog.erasing) → exec (.fwUpdateBlock fn slot true) s = .next t.settleRound) ∧
      (r.f 4 4 ≠ x.accepted → r.f 4 4 = x.lastOffset → x.lastData ≠ [] → data = x.lastData →
        exec (.fwUpdateBlock fn slot true) s = .next ((t.answer (slotIndex fn slot) stOk (leBytes 4 x.accepted)).settleRound)) ∧
      (r.f 4 4 ≠ x.accepted → (r.f 4 4 ≠ x.lastOffset ∨ data ≠ x.lastData) →
        exec (.fwUpdateBlock fn slot true) s = .next ((t.answer (slotIndex fn slot) stSequence (leBytes 4 x.accepted)).settleRound))) ∧
  (∀ (fn : Fin 9) (slot : Fin 4) (x : Session) (s : State), s.Waits fn slot 0x0603 →
    let r := s.reqIn fn slot
    let t := (s.taken fn slot).sampleHoldup true
    let u := t.modDog (fun g => g.commit x)
    r.zero 5 8 = true → t.dog.session = some x → x.number.toNat = r.f 0 4 → x.imageBytes ≤ x.accepted → s.jobActive = false →
      (t.dog.verified x.target = true → t.dog.imageVersion x.target = x.version →
        (r.f 4 1 = 0 → exec (.fwUpdateCommit fn slot true) s = .next ((u.answer (slotIndex fn slot) stOk []).settleRound)) ∧
        (r.f 4 1 = 1 → exec (.fwUpdateCommit fn slot true) s = .next (((u.answer (slotIndex fn slot) stOk []).ccReset 10).settleRound))) ∧
      (t.dog.verified x.target = false ∨ t.dog.imageVersion x.target ≠ x.version → r.f 4 1 ≤ 1 →
        exec (.fwUpdateCommit fn slot true) s = .next (((t.modDog Sheepdog.closeSession).answer (slotIndex fn slot) stIntegrity []).settleRound))) ∧
  (∀ (fn : Fin 9) (slot : Fin 4) (s : State), s.Waits fn slot 0x0604 →
    (s.dog.fwUnconfirmed = true → exec (.fwConfirmHealth fn slot) s =
      .next ((((s.taken fn slot).modDog Sheepdog.confirmHealth).answer (slotIndex fn slot) stOk []).settleRound)) ∧
    (s.dog.fwUnconfirmed = false → exec (.fwConfirmHealth fn slot) s = .next (((s.taken fn slot).answer (slotIndex fn slot) stRefused []).settleRound))) ∧
  (∀ (fn : Fin 9) (slot : Fin 4) (x : Session) (s : State), s.Waits fn slot 0x0605 → (s.reqIn fn slot).zero 4 8 = true →
    s.dog.session = some x → x.number.toNat = (s.reqIn fn slot).f 0 4 →
      exec (.fwUpdateAbort fn slot) s = .next (((((s.taken fn slot).modDog (fun g => { g with
        session := none, erasing := g.erasing.take 1 })).forAll ((s.taken fn slot).busySlots 0x0602 (fun _ => true)) State.retryBlock).answer (slotIndex fn slot) stOk []).settleRound)) ∧
  (∀ (fn : Fin 9) (slot : Fin 4) (s : State), s.Waits fn slot 0x0606 → ∃ pay,
    exec (.fwSlotStatus fn slot) s = .next (((s.taken fn slot).answer (slotIndex fn slot) stOk pay).settleRound) ∧ pay.length = 64 ∧
      leField pay 0 1 = (if 128 ≤ s.dog.flashMib then 0 else 1) ∧ leField pay 2 1 = (if s.dog.session.isSome then 1 else 0) ∧
      leField pay 4 4 = s.dog.flashMib % 2 ^ 32)

/-- R431, R453 to R458: the life-cycle state is reported at any time; a transition, a lock and a debug unlock need the open window, the intact seal loop,
the strap where the table says so and a credential that the owner's key signed; each counts, closes the window, and a transition ends
in a warm reset.  A command of the list outside an open window answers PRESENCE_REQUIRED. -/
def Obligations.LifeCycle : Prop :=
(∀ (fn : Fin 9) (slot : Fin 4) (strap : Bool) (s : State), s.Waits fn slot 0x0701 → ∃ pay,
    exec (.lcStateGet fn slot strap) s = .next ((((s.taken fn slot).sampleStrap strap).answer (slotIndex fn slot) stOk pay).settleRound) ∧ pay.length = 16 ∧
      (s.dog.Sound → leField pay 0 1 = s.dog.lcState) ∧ (∀ b ∈ pay.drop 8, b = 0)) ∧
  (∀ (fn : Fin 9) (slot : Fin 4) (who : Authority) (st strap : Bool) (s : State), s.Waits fn slot 0x0702 →
    let r := s.reqIn fn slot
    let t := (s.taken fn slot).sampleStrap strap
    let auth := r.pay.drop 8
    let key := sha384 ((auth.drop 16).take 97)
    s.windowOpen = true → s.dog.session = none → s.dog.sealIntact = true → lcRule s.dog.lcState (r.f 0 1) = some (who, st) → (st = true → strap = true) →
    s.jobActive = false → r.f 1 1 = 0 → r.zero 4 8 = true → authShape 1 (r.f 0 1) auth = true → t.dog.authOk who auth = true →
    (who = .newOwner → s.dog.ownerSlots.length < 8) →
      exec (.lcTransition fn slot strap) s = .next (((((t.modDog (fun g => { g.transition s.dog.lcState (r.f 0 1) key with
        window := none })).answer (slotIndex fn slot) stOk []).endRegistration).warmReset 7).settleRound)) ∧
  (∀ (fn : Fin 9) (slot : Fin 4) (lock strap : Bool) (s : State), s.Waits fn slot (if lock then 0x0703 else 0x0704) →
    let r := s.reqIn fn slot
    let t := (s.taken fn slot).sampleStrap strap
    let auth := r.pay.drop 8
    s.windowOpen = true → s.dog.session = none → s.dog.sealIntact = true → (lock = true ∨ strap = true) →
    (s.dog.lcState = lcOwned ∨ s.dog.lcState = lcLocked) → r.zero 0 2 = true → r.zero 4 8 = true →
    authShape (if lock then 2 else 3) 0 auth = true → t.dog.authOk .owner auth = true →
      exec (if lock then .ownerLock fn slot strap else .ownerUnlock fn slot strap) s = .next (((t.modDog (fun g => {
        g.countTransition (fun x => { x with ownerLock := lock }) with window := none })).answer (slotIndex fn slot) stOk []).settleRound)) ∧
  (∀ (fn : Fin 9) (slot : Fin 4) (strap : Bool) (who : Authority) (s : State), s.Waits fn slot 0x0A01 →
    let r := s.reqIn fn slot
    let t := (s.taken fn slot).sampleStrap strap
    let auth := r.pay.drop 8
    let unlock := t.modDog (fun g => { g.countTransition id with debugLevel := r.f 0 1 })
    (r.f 0 1 = 0 → r.f 1 1 = 0 → r.zero 4 8 = true →
      exec (.debugUnlock fn slot strap) s = .next ((unlock.answer (slotIndex fn slot) stOk []).settleRound)) ∧
    (r.f 0 1 = 0 → (r.f 1 1 ≠ 0 ∨ r.zero 4 8 = false) →
      exec (.debugUnlock fn slot strap) s = .next ((t.answer (slotIndex fn slot) stBadParam []).settleRound)) ∧
    (1 ≤ r.f 0 1 → r.f 0 1 ≤ 2 → s.windowOpen = true → s.dog.sealIntact = true → (r.f 0 1 = 2 → strap = true) →
     debugAuthority s.dog.lcState = some who → r.f 1 1 = 0 → r.zero 4 8 = true →
     (who = .none ∨ (authShape 4 (r.f 0 1) auth = true ∧ t.dog.authOk who auth = true)) →
      exec (.debugUnlock fn slot strap) s = .next (((unlock.modDog (fun g => { g with window := none })).answer (slotIndex fn slot) stOk []).settleRound))) ∧
  (∀ (fn : Fin 9) (slot : Fin 4) (strap : Bool) (s : State), s.windowOpen = false ∨ s.dog.sealIntact = false →
    (s.Waits fn slot 0x0702 → s.dog.session = none → exec (.lcTransition fn slot strap) s =
      .next ((((s.taken fn slot).sampleStrap strap).answer (slotIndex fn slot) stPresence []).settleRound)) ∧
    (s.Waits fn slot 0x0703 → s.dog.session = none → exec (.ownerLock fn slot strap) s =
      .next ((((s.taken fn slot).sampleStrap strap).answer (slotIndex fn slot) stPresence []).settleRound)) ∧
    (s.Waits fn slot 0x0704 → s.dog.session = none → exec (.ownerUnlock fn slot strap) s =
      .next ((((s.taken fn slot).sampleStrap strap).answer (slotIndex fn slot) stPresence []).settleRound)) ∧
    (s.Waits fn slot 0x0A01 → (s.reqIn fn slot).f 0 1 ≠ 0 → exec (.debugUnlock fn slot strap) s =
      .next ((((s.taken fn slot).sampleStrap strap).answer (slotIndex fn slot) stPresence []).settleRound)))

/-- R432: registers are read in words from ascending addresses; at debug level 0 an address that is not published is not reached; a
write changes the fields that software may write and no other. -/
def Obligations.DebugRegisters : Prop :=
(∀ (fn : Fin 9) (slot : Fin 4) (s : State), s.Waits fn slot 0x0A02 →
    let r := s.reqIn fn slot
    r.f 0 8 % 4 = 0 → 1 ≤ r.f 8 2 → r.f 8 2 ≤ 1000 → r.zero 10 16 = true →
      (s.dog.debugLevel ≠ 0 ∨ (∀ k < r.f 8 2, (published (r.f 0 8 + 4 * k)).isSome = true) → ∃ (t : State) (pay : List Byte),
        exec (.debugRegRead fn slot) s = .next ((t.answer (slotIndex fn slot) stOk pay).settleRound) ∧ pay.length = 4 * r.f 8 2 ∧
          (∀ p, published (r.f 0 8) = some p → pay.take 4 = leBytes 4 ((s.taken fn slot).readPublished p).1)) ∧
      (s.dog.debugLevel = 0 → (∃ k < r.f 8 2, published (r.f 0 8 + 4 * k) = none) →
        exec (.debugRegRead fn slot) s = .next (((s.taken fn slot).answer (slotIndex fn slot) stNotPermitted []).settleRound))) ∧
  (∀ (fn : Fin 9) (slot : Fin 4) (s : State), s.Waits fn slot 0x0A03 →
    let r := s.reqIn fn slot
    let t := s.taken fn slot
    r.f 0 8 % 4 = 0 → r.zero 12 16 = true →
      (∀ k, published (r.f 0 8) = some (.foldStatus k) → exec (.debugRegWrite fn slot) s = .next (((if (r.f 8 4).testBit 15 then
        t.modFold k (fun x => { x with provHidden := false }) else t).answer (slotIndex fn slot) stOk []).settleRound)) ∧
      (published (r.f 0 8) = some .aging → exec (.debugRegWrite fn slot) s = .next (((if 2 ≤ r.f 8 4 % 256 ∧ r.f 8 4 % 256 ≤ 64 then
        t.modNp (fun n => { n with thresh := BitVec.ofNat 8 (r.f 8 4) }) else t).answer (slotIndex fn slot) stOk []).settleRound)) ∧
      (∀ k, published (r.f 0 8) = some (.topo k) → exec (.debugRegWrite fn slot) s = .next ((t.answer (slotIndex fn slot) stNotPermitted []).settleRound)) ∧
      (published (r.f 0 8) = none → s.dog.debugLevel < 2 → exec (.debugRegWrite fn slot) s = .next ((t.answer (slotIndex fn slot) stNotPermitted []).settleRound)) ∧
      (published (r.f 0 8) = none → 2 ≤ s.dog.debugLevel → exec (.debugRegWrite fn slot) s = .next ((t.answer (slotIndex fn slot) stOk []).settleRound)))

/-! ## The compute side (chapters 3 to 7) -/

/-- R84, R85, R107, R109, R110, R137 to R139, R304: the head descriptor of a ring issues under its operator's command once its wait is met: HEAD,
TAKEN and EXPECT_SEQ advance; the lowest failed check halts the ring at that descriptor instead, with its completion record; a wait
that is not met, a fence of the ring in flight, and a tensor scale that near pasture holds leave everything as it is, and a poisoned one
takes its tensor's near copy (R34, R271, R275). -/
def Obligations.OperatorIssue : Prop :=
∀ (c : Nat → Instr) (op : Nat),
    (c, op) ∈ [(Instr.gemm, 0x10), (.conv, 0x11), (.cropResize, 0x12), (.attnFwd, 0x20), (.attnBwd, 0x21), (.norm, 0x30), (.softmax, 0x31),
      (.eltwise, 0x32), (.reduce, 0x33), (.rngFill, 0x34), (.optStep, 0x35), (.loss, 0x36), (.cast, 0x37), (.move, 0x40), (.fence, 0x41),
      (.layerMark, 0x42), (.collStep, 0x43)] →
    ∀ (q : Nat) (x : Queue) (d : List Byte) (s : State), s.queue? q = some x → x.type = .opr → s.takes x = true → s.headEntry x = .ok d →
      dOpcode d = op →
        let held (t : Tensor) : Bool := s.penHeld .fold x.pen (t.penAddr + t.scaleBase) 4
        let bad (t : Tensor) : Bool := s.penPoisoned x.pen (t.penAddr + t.scaleBase) 4
        (s.ringFenced q = true ∨ s.waitMet x.pen d = false ∨ (s.bs4Scales d).any held = true → exec (c q) s = .next s.quiet) ∧
        (∀ t, s.ringFenced q = false → s.waitMet x.pen d = true → (s.bs4Scales d).any held = false → (s.bs4Scales d).find? bad = some t →
          exec (c q) s = .next (s.quiet.meetPoison t)) ∧
        ((∀ t ∈ s.bs4Scales d, held t = false ∧ bad t = false) → s.ringFenced q = false → s.waitMet x.pen d = true → s.bs4Waits d = [] →
          s.issueError x d = none →
          exec (c q) s = .next (s.quiet.issue x d) ∧
            (op ∉ [0x20, 0x21, 0x41, 0x42, 0x43] → ∃ y, (s.quiet.issue x d).queue? q = some y ∧ y.head = x.head + 1 ∧ y.taken = x.taken + 1 ∧
              y.expectSeq = x.expectSeq + 1 ∧ y.halted = false ∧
              ∃ o ∈ (s.quiet.issue x d).comp.ops, o.id = s.comp.nextOp ∧ o.desc = s.bindViews d ∧ o.queue = q ∧ o.pen = x.pen ∧
                o.index = x.head)) ∧
        (∀ code, (∀ t ∈ s.bs4Scales d, held t = false ∧ bad t = false) → s.ringFenced q = false → s.waitMet x.pen d = true →
          s.bs4Waits d = [] → s.issueError x d = some code →
          exec (c q) s = .next (s.quiet.issueFails x d code) ∧
            ∃ y, (s.quiet.issueFails x d code).queue? q = some y ∧ y.halted = true ∧
              y.haltInfo = BitVec.ofNat 32 (code + x.head.toNat % 2 ^ 24 * 256) ∧ y.head = x.head)

/-- R58 to R60, R65, R67, R71, R112, R161, R162, R223, R229, R350, R351: with primary and grazing operators ready, the best primary one
starts its next task, with its gang, once there is a slot for every member and its outputs have their room; an output that finds none
waits, and the next operator is tried; a task that reads a provisional chunk makes no room.  A task alone goes to a free half of an ACTIVE
Fold, or to the half of the grazing task that R351 stops; while a chunk of its inputs is provisional the half holds the task with those
chunks, and nothing of near pasture changes.  A grazing operator starts a task only when no primary one has any, and a pre-emption leaves
near pasture as it was. -/
def Obligations.TaskPlacement : Prop :=
∀ (o : Op) (i : Nat) (s : State),
    let t := s.quiet.serveNeeds
    let room := if t.openChunks o = [] then t.giveOutputs o else (t, true)
    let u := room.1
    let o1 := (u.op? o.id).getD o
    (t.bestOp t.opRank (t.opsOf false) = some (o, i) ∨
      (t.bestOp t.opRank (t.opsOf false) = none ∧ t.bestOp t.grazingRank (t.opsOf true) = some (o, i))) →
      t.slotsFor o (o.gangOf i).length = true ∧
      (room.2 = false → o.roomed = false ∧ u = (t.roomOutputs o (t.mayWrite o)).1.forAll (t.mayWrite o) (fun w h => w.setAllocWait h true) ∧
        exec .taskIssue s = .next (u.startNext t.comp.ops.length) ∧ (u.nextStart = none → exec .taskIssue s = .next u)) ∧
      (room.2 = true → exec .taskIssue s = .next (u.placeAll o1 (o.gangOf i) [])) ∧
      (room.2 = true → o.gangOf i = [i] →
        (∀ k h, u.placeFor o1 i [] = some (k, h) → exec .taskIssue s = .next (u.place o1 i k h) ∧ (u.fold k).state = .active ∧
          (u.half k h).busy = none ∧ (o1.tasks[i]? ≠ none → u.openChunks o1 ≠ [] →
            ((u.place o1 i k h).half k h).busy = some (o1.id, i) ∧ ((u.place o1 i k h).half k h).pen = o1.pen ∧
            ((u.place o1 i k h).half k h).prov = u.openChunks o1 ∧ (u.place o1 i k h).np = u.np)) ∧
        (∀ k h, u.placeFor o1 i [] = none → (u.pen o1.pen).grazing = false → u.victimTask [] = some (k, h) →
          exec .taskIssue s = .next ((u.preempt k h).place o1 i k h) ∧ (u.pen (u.half k h).pen).grazing = true ∧
          (u.preempt k h).np = u.np) ∧
        (u.placeFor o1 i [] = none → ((u.pen o1.pen).grazing = true ∨ u.victimTask [] = none) → exec .taskIssue s = .next u))

/-- R58, R62, R65 to R69, R153, R245, R271, R491: a task that has its inputs at hand takes its tiles and does its work into vector scratch:
no byte of near pasture changes while a chunk it read is provisional; with none left, and room for its outputs, its effects are released
and its half is freed; poison in what it reads takes its tensor's near copy instead, and poison in its partial plane starts its chain again
(log entry 162); a rejected chunk discards every task that read it, and nothing of them is visible. -/
def Obligations.TaskEffects : Prop :=
(∀ (k : Fin 136) (h : Bool) (id i : Nat) (o : Op) (t : Task) (s : State), (s.half k h).busy = some (id, i) → s.op? id = some o →
    o.tasks[i]? = some t → t.phase = .running → s.inputsHere o = true → s.planeHeld t = false → s.planePoisoned t = false →
    s.poisonedRead (s.readHandles o) = none →
    let u0 := s.quiet.takeInputs k h o t
    let view := u0.taskView o (u0.half k h)
    view.taskFault o t = none → ∃ (u : State) (o1 : Op) (t1 : Task),
      u = s.quiet.finishWork k h ∧ (u.half k h).scratch = (view.taskPart o t).1.effects ∧ u.np = s.np ∧
        u.op? id = some o1 ∧ o1.tasks[i]? = some t1 ∧ t1.tile = t.tile ∧ t1.phase = .held ∧
        ((s.half k h).prov ≠ [] → exec (.taskCompletion k h) s = .next u) ∧
        ((s.half k h).prov = [] → (s.half k h).fault = none → s.accTurn o = true →
          ((u.giveOutputs o1).2 = true → exec (.taskCompletion k h) s =
            .next ((u.giveOutputs o1).1.releaseTask k h (((u.giveOutputs o1).1.op? id).getD o1) i t1)) ∧
          ((u.giveOutputs o1).2 = false → exec (.taskCompletion k h) s = .next (u.giveOutputs o1).1))) ∧
  (∀ (k : Fin 136) (h : Bool) (id i : Nat) (o : Op) (t : Task) (x : Tensor) (s : State), (s.half k h).busy = some (id, i) →
    s.op? id = some o → o.tasks[i]? = some t → t.phase = .running → s.inputsHere o = true → s.planeHeld t = false →
    s.planePoisoned t = false → (s.half k h).stationary = none → s.poisonedRead (s.readHandles o) = some x →
    ((s.quiet.meetPoison x).half k h).busy = none → exec (.taskCompletion k h) s = .next (s.quiet.meetPoison x)) ∧
  (∀ (k : Fin 136) (h : Bool) (id i : Nat) (o : Op) (t : Task) (s : State), (s.half k h).busy = some (id, i) →
    s.op? id = some o → o.tasks[i]? = some t → t.phase = .running → s.inputsHere o = true → s.planeHeld t = false →
    s.planePoisoned t = true → exec (.taskCompletion k h) s = .next (s.quiet.losePlane k h o t) ∧
      ((s.quiet.losePlane k h o t).half k h).busy = none) ∧
  (∀ (handle : Word) (chunk : Nat) (s : State), ({ handle := handle, chunk := chunk }, true) ∈ s.drover.verdicts →
    let id : ChunkId := { handle := handle, chunk := chunk }
    let u := (s.quiet.takeVerdict (id, true)).forAll (s.readersOf id) (fun t x => t.modHalf x.1 x.2 (fun y => { y with
      prov := y.prov.filter (· != id) }))
    exec (.confirm handle chunk) s = .next (u.forAll (s.readersOf id) (fun t x => t.resolveHeld x.1 x.2)) ∧ u.np = s.np ∧
      (∀ k < 136, ∀ h, id ∉ (u.half k h).prov ∧ ∀ c, c ≠ id → (c ∈ (u.half k h).prov ↔ c ∈ (s.half k h).prov))) ∧
  (∀ (handle : Word) (chunk : Nat) (s : State), ({ handle := handle, chunk := chunk }, false) ∈ s.drover.verdicts →
    ∃ t, exec (.reject handle chunk) s = .next t ∧ t.np = s.np ∧ t.pens = s.pens ∧
      (∀ k < 136, ∀ h, (s.half k h).busy ≠ none → { handle := handle, chunk := chunk } ∉ (t.half k h).prov) ∧
      ∀ k h, { handle := handle, chunk := chunk } ∉ (s.half k h).prov → t.half k h = s.half k h)

/-- R57, R74, R75, R77 to R81, R488, R490: a corrected buffer error is logged in the die's bank; an uncorrectable one, a parity error and a
task that overruns take an ACTIVE Fold to FAILED and retire a SPARE; at a boundary a spare takes the slot of a failed Fold over, or
the slot goes; an idle spare that fails its self-test is retired. R296, R488, R490: an uncontained hub error is logged in its bank and takes the hub out: the device goes transit only, and no pen is
left in a state that runs; a corrected one of the Drove Road is only logged. -/
def Obligations.HardwareErrors : Prop :=
(∀ (k : Fin 136) (b : Fin 4) (s : State), ((s.fold k).state = .active ∨ (s.fold k).state = .spare ∨ (s.fold k).state = .failed) →
    exec (.foldBufferCe k b) s = .next (s.quiet.logFault (k / 34) 0x0101 .corrected (k % 34) none none b)) ∧
  (∀ (c : Instr) (k : Fin 136) (s : State),
    ((∃ g0 g1, c = .foldBufferUe k g0 g1) ∨ (∃ g0 g1, c = .foldParity k g0 g1) ∨
      ∃ h g0 g1, c = .foldTaskTimeout k h g0 g1 ∧ (s.half k h).busy ≠ none) →
    ((s.fold k).state = .active → ∃ t, exec c s = .next t ∧ (t.fold k).state = .failed ∧ (t.half k false).busy = none ∧
      (t.half k true).busy = none ∧ (t.foldsIdle = false → (t.fold k).dueTakeover = false)) ∧
    ((s.fold k).state = .spare → exec c s = .next (s.quiet.retireSpare k) ∧ ((s.quiet.retireSpare k).fold k).state = .retired)) ∧
  (∀ (n : Nat) (bad : Bool) (s : State), s.takeoverSlot = some n →
    let failed := 34 * (n / 32) + (s.comp.slots.getD n { phys := 0, active := false, takeovers := 0 }).phys
    (s.spareOf (n / 32) = none → exec (.spareTakeover bad) s =
      .next ((s.quiet.retireFold failed).modFoldSlot n (fun x => { x with active := false }))) ∧
    (∀ k, s.spareOf (n / 32) = some k →
      (s.fold (34 * (n / 32) + k)).state = .spare ∧ k < 34 ∧
      exec (.spareTakeover false) s = .next (((s.quiet.retireFold failed).modFold (34 * (n / 32) + k) (fun _ => { Fold.off with
        state := .active })).modFoldSlot n (fun x => { x with phys := k, takeovers := satInc x.takeovers 255 })) ∧
      exec (.spareTakeover true) s = .next (((s.quiet.retireFold (34 * (n / 32) + k)).ownWrite (.retire (34 * (n / 32) + k))).modFold failed
        (fun f => { f with dueTakeover := false })))) ∧
  (∀ (k : Fin 136) (s : State), exec (.spareSelftest k true) s = .next s.quiet) ∧
  (∀ (k : Fin 136) (s : State), (s.fold k).state = .spare → exec (.spareSelftest k false) s = .next (s.quiet.retireSpare k)) ∧
(∀ (u : Fin 5) (s : State), exec (.droveRoadCe u) s = .next (s.quiet.logFault 14 0x0B01 .corrected (16 + u))) ∧
  (∀ (c : Instr) (bank code unit : Nat) (s : State),
    ((∃ u : Fin 7, c = .hubEcc u ∧ bank = 6 ∧ code = 0x0A01 ∧ unit = u) ∨ (∃ u : Fin 5, c = .droveRoadUe u ∧ bank = 14 ∧ code = 0x0B02 ∧ unit = 16 + u) ∨
      (∃ u : Fin 16, c = .commonsUe u ∧ bank = 14 ∧ code = 0x0B04 ∧ unit = u) ∨ (c = .cometSramUe ∧ bank = 4 ∧ code = 0x0C01 ∧ unit = 0)) →
    ∃ t, exec c s = .next t ∧ t = (s.quiet.logFault bank code .uncontained unit).hubFault ∧ t.boot.hubFaulted = true ∧
      t.fab.transitOnly = true ∧ t.boot.stage ≠ 5 ∧ ∀ p < 8, (t.pen p).state.faultable = false)

/-! ## Near pasture (chapter 10) -/

/-- R258, R263, R266, R271, R275: a near-pasture read answers the bytes as every reader sees them and whether a line is poisoned, and
changes no byte of a line that is not poisoned and that no waiting request writes; a read that its stack or its group holds waits, in the
class of its source. -/
def Obligations.NearPastureReads : Prop :=
∀ (cls : NpClass) (src : NpSource) (addr len : Nat) (s : State), addr + len ≤ nearBytes →
    ((∃ l ∈ linesOf addr len, s.npBlocked src l = true) → exec (.nearPastureRead cls src addr len) s =
      .next (s.quiet.modNp (fun n => { n with
        waiting := n.waiting ++ [{ kind := .read addr len, source := src, cls := tableClass src true false cls, urgent := false }] }))) ∧
    ((∀ l ∈ linesOf addr len, s.npBlocked src l = false) → ∃ t, exec (.nearPastureRead cls src addr len) s = .next t ∧
      t.out = [.readData (t.npRead addr len) (t.npPoisoned addr len)] ∧
      (s.np.Sound → ∀ x, lineOf x ∉ s.np.poison → s.np.SettledAt x → t.npByte x = s.npByte x))

/-- R256 to R259, R263, R266, R272, R275: a near-pasture write: every byte it writes reads as written, and every other byte reads as
before, on lines that are not poisoned or that it writes whole, and where no other waiting request writes; a whole line, or a narrow write
past the buffer, whose stack or group is held waits in the class of its source. -/
def Obligations.NearPastureWrites : Prop :=
∀ (cls : NpClass) (src : NpSource) (addr : Nat) (bytes : List Byte) (s : State), addr + bytes.length ≤ nearBytes →
    (s.np.Sound → ∃ t, exec (.nearPastureWrite cls src addr bytes) s = .next t ∧
      ∀ x, lineOf x ∉ s.np.poison ∨ (addr ≤ lineOf x ∧ lineOf x + 256 ≤ addr + bytes.length) → s.np.SettledAt x →
        t.npByte x = if addr ≤ x ∧ x < addr + bytes.length then bytes.getD (x - addr) 0 else s.npByte x) ∧
    (s.npBlocked src addr = true → addr % 256 = 0 → bytes.length = 256 → exec (.nearPastureWrite cls src addr bytes) s =
      .next ((s.quiet.npDrop addr).npHold (.write addr bytes) src (tableClass src false false cls))) ∧
    (s.npBlocked src addr = true → narrowWriter src = true → bytes ≠ [] → addr % 32 + bytes.length ≤ 32 → s.np.sectorOpen addr = false →
      exec (.nearPastureWrite cls src addr bytes) s = .next (s.quiet.npHold (.write addr bytes) src (tableClass src false false cls)))

/-- R257, R260, R261, R263, R272, R275: a served accumulate-write adds each addend that is not masked off to its element, rounding once,
and leaves every other byte, on lines that are not poisoned and that no waiting request writes; one that is held waits behind the flush of
its line's entry. -/
def Obligations.AccumulateWrites : Prop :=
∀ (cls : NpClass) (src : NpSource) (addr : Nat) (tb ab : Bool) (ys : List (Option Word)) (s : State),
    let w := if tb then 2 else 4
    addr + ys.length * w ≤ nearBytes →
    (s.npBlocked src (lineOf addr) = true → ys ≠ [] → addr % w = 0 → addr % 256 + ys.length * w ≤ 256 →
      exec (.accumulateWrite cls src addr tb ab ys) s =
        .next ((s.quiet.npHoldEntry (lineOf addr)).npHold (.acc addr tb ab ys) src (tableClass src false true cls))) ∧
    ((∀ l ∈ linesOf addr (ys.length * w), s.npBlocked src l = false) → addr % w = 0 → s.np.Sound →
      ∃ t, exec (.accumulateWrite cls src addr tb ab ys) s = .next t ∧
        (∀ i < ys.length, lineOf (addr + i * w) ∉ s.np.poison → (∀ b < w, s.np.SettledAt (addr + i * w + b)) →
          t.npRead (addr + i * w) w = match ys.getD i none with
            | none => s.npRead (addr + i * w) w
            | some v => leBytes w (accElement tb ab (leNat (s.npRead (addr + i * w) w)) v.toNat)) ∧
        ∀ x, x < addr ∨ addr + ys.length * w ≤ x → lineOf x ∉ s.np.poison → s.np.SettledAt x → t.npByte x = s.npByte x)

/-- R257, R264, R265, R276: the entry of a line is flushed after 1 µs, so that it is open no longer, and no byte of a line that is not
poisoned changes, unless its stack or its group holds its source's requests; a waiting request gains a class, or at its bound is served
before every other, at once when nothing holds it. -/
def Obligations.NearPastureWaits : Prop :=
(∀ (line : Nat) (e : WcEntry) (s : State), s.np.wc.find? (fun x => x.line = line) = some e →
    (s.npBlocked e.source line = false → s.np.Sound →
      ∃ t, exec (.wcAgeFlush line) s = .next t ∧ (∀ x ∈ t.np.wc, x.line ≠ line) ∧
        ∀ x, lineOf x ∉ s.np.poison → s.np.SettledAt x → t.npByte x = s.npByte x) ∧
    (s.npBlocked e.source line = true → exec (.wcAgeFlush line) s = .next (s.quiet.modNp (fun n => { n with
      wc := n.wc.map (fun x => if x.line = line then { x with due := some .norm } else x) })))) ∧
  (∀ (i : Nat) (s : State), exec (.requestAging i) s =
    .next (s.quiet.modNp (fun n => { n with waiting := n.waiting.modify i (fun r => { r with cls := promoteClass r.cls }) }))) ∧
  (∀ (i : Nat) (r : NpReq) (s : State), s.np.waiting[i]? = some r →
    let u := s.quiet.modNp (fun n => { n with waiting := n.waiting.set i { r with urgent := true } })
    (s.npWaits r = false → exec (.requestWaitBound i) s = .next (u.npServe { r with urgent := true })) ∧
    (s.npWaits r = true → exec (.requestWaitBound i) s = .next u))

/-- R270, R271, R273: a corrected sector is counted, in its group too, and logged with its address; an uncorrectable one is counted and
logged DEFERRED, its whole line is poisoned, and the tensor or the base whose near copy holds the line is treated as R245 and R249 say. -/
def Obligations.NearPastureErrors : Prop :=
(∀ (addr : Nat) (s : State), addr < nearBytes → exec (.npCe addr) s =
    .next (((s.quiet.npCorrected (npGroup addr) 1).count 18 1).logFault 8 0x0201 .corrected (npStack addr) none (some (addr / 32 * 32)))) ∧
  (∀ (addr : Nat) (s : State), addr < nearBytes →
    let t := ((s.quiet.npPoison (lineOf addr)).count 19 1).logFault 8 0x0202 .deferred (npStack (lineOf addr)) none (some (lineOf addr))
    lineOf addr ∈ t.np.poison ∧
    (t.nearCopyAt (lineOf addr) = none → t.baseAt (lineOf addr) = none → exec (.npUe addr) s = .next t) ∧
    (∀ p x, t.nearCopyAt (lineOf addr) = some (p, x) → exec (.npUe addr) s = .next (t.poisonTensor p x false).retryAllocs) ∧
    (∀ n, t.nearCopyAt (lineOf addr) = none → t.baseAt (lineOf addr) = some n → exec (.npUe addr) s = .next (t.poisonBase n)))

/-- R273 to R275: a group is due for retraining after 15 minutes, or when more than 1,000 of its sectors have been corrected within 60 s;
a window takes one due group of a stack that is Normal or Warm, 10 ms after the last; at its end the group's training
temperature is the stack's, and what waited for it is served. -/
def Obligations.LiveRetraining : Prop :=
(∀ (g : Fin 64) (sectors : List Nat) (s : State), s.np.Sound →
    let n := (sectors.filter (fun a => a < nearBytes && npGroup a = g.val)).length
    let old := s.np.groups.getD g { trainedTemp := 0, due := false, corrected := [] }
    let recent := (old.corrected.filter (fun c => s.time.clock ≤ c + 60000000000)).length
    ∃ t, exec (.patrolScrub g sectors) s = .next t ∧ Only [.host, .np, .health, .out] s t ∧
      (∀ k < 64, k ≠ g.val → t.np.groups[k]? = s.np.groups[k]?) ∧
      ((t.np.groups.getD g { trainedTemp := 0, due := false, corrected := [] }).due = true ↔ old.due = true ∨ (n ≠ 0 ∧ 1000 < recent + n))) ∧
  (∀ (g : Fin 64) (s : State), exec (.retrainPeriod g) s =
    .next (s.quiet.modNp (fun x => { x with groups := x.groups.modify g (fun y => { y with due := true }) }))) ∧
  (∀ s : State, s.np.retraining = none → (∀ w, s.np.lastWindow = some w → w + 10000000 ≤ s.time.clock) → s.Sound →
    (∃ g < 64, (s.np.groups.getD g ⟨0, false, []⟩).due = true ∧ (s.stackAt (g / 8)).trained = true ∧ (s.stackAt (g / 8)).tstate ≤ 1) →
      ∃ t g, exec .retrainWindowStart s = .next t ∧ g < 64 ∧ (s.np.groups.getD g ⟨0, false, []⟩).due = true ∧
        (s.stackAt (g / 8)).tstate ≤ 1 ∧ t = s.quiet.modNp (fun n => { n with
          retraining := some g, lastWindow := some s.time.clock, groups := n.groups.modify g (fun x => { x with due := false }) })) ∧
  (∀ (s : State) (g : Nat), s.np.retraining = some g → exec .retrainWindowEnd s =
    .next (s.quiet.modNp (fun n => { n with
      retraining := none
      groups := n.groups.modify g (fun x => { x with trainedTemp := (s.stackAt (g / 8)).temp }) })).pastureServes)

/-! ## The Drover and the Talsen ports (chapters 8, 9 and 16) -/

/-- R66, R207, R208, R222, R240 to R243, R246: a far chunk that arrives whole and agrees with its entries is kept, the verdicts it completes
go to the Folds, and with the last of them the near copy is written; a bad, poisoned or late one ends the fetch and the far copy.  The path
of a fetch that will miss its deadline is chosen again once; a need without any path fails its pen. -/
def Obligations.FarReads : Prop :=
(∀ (handle : Word) (chunk : Nat) (bytes : List Byte) (poison : Bool) (t : Tensor) (f : Fetch) (copy : FarCopy) (s : State),
    let h := handle.toNat
    let g := { f with chunks := f.chunks.set chunk (.confirmed bytes) }
    let u := (s.quiet.count 20 bytes.length).modAny h (fun x => { x with fetch := some g })
    let v := if t.farCoded then u.sendVerdicts h t g chunk else u.sendVerdict { handle := handle, chunk := chunk } true
    let whole := (∀ c ∈ g.chunks, ∃ b, c = .confirmed b) ∧ ((v.any? h).bind Tensor.fetch).isSome = true ∧ t.run = none ∧
      (t.res = .far ∨ isBaseHandle h = true)
    s.any? h = some t → t.fetch = some f → t.far = some copy → f.chunks[chunk]? = some .issued →
      (poison = false → bytes.length = 4096 → t.farPasses copy chunk bytes = true →
        (whole → exec (.farReadComplete handle chunk bytes poison) s = .next (v.landFetch h t g copy).retryAllocs.pumpReads) ∧
        (¬ whole → exec (.farReadComplete handle chunk bytes poison) s = .next (v.endSwitched h).retryAllocs.pumpReads)) ∧
      (poison = true ∨ bytes.length ≠ 4096 ∨ t.farPasses copy chunk bytes = false →
        exec (.farReadComplete handle chunk bytes poison) s =
          .next ((s.quiet.count 20 bytes.length).farCopyBad h chunk (if poison then 2 else 1)).pumpReads) ∧
      (t.farPasses copy chunk bytes = true → t.farCheck chunk = some (BitVec.ofNat 32 (crc32c bytes))) ∧
      exec (.farReadTimeout handle chunk) s = .next (s.quiet.farCopyBad h chunk 4).pumpReads) ∧
  (∀ s : State, exec .fetchRepredict s = .next (s.quiet.forAll s.fetchOrder State.repredict)) ∧
  (∀ (h r : Nat) (t : Tensor) (f : Fetch) (s : State), s.tensor? h = some t → t.fetch = some f → f.switched = false → t.run = none →
    (s.pen (h / 2 ^ 29)).drained = false → s.predictRecipe t f.deadline = some r →
    (∀ x, s.predictFetch t f.deadline = some x → f.deadline < x ∧ r < x) →
      s.repredict h = (s.modTensor h (fun x => { x with fetch := some { f with
        switched := true, chunks := f.chunks.map (fun c => if c = .waiting then .cancelled else c) } })).startRecipe (h / 2 ^ 29) h f.deadline) ∧
  (∀ (handle : Word) (t : Tensor) (s : State), s.tensor? handle.toNat = some t → t.waitUntil ≠ none →
    (t.needsPath = true ∨ s.stalled t = true) →
    exec (.needWaitTimeout handle) s = .next ((s.quiet.count 24 1).penFault (handle.toNat / 2 ^ 29) 0x81 handle.toNat).retryAllocs)

/-- R144, R198, R227, R229, R230, R232, R240, R248, R271, R275: a write-behind that ends leaves the tensor on both sides; one over a failed
port is tried once more without it; a recipe run and a DLT encode that end leave the tensor near, an encode that finds no room waits and
one that near pasture holds stays as it is; an allocation that found no room fails its pen; old use
times are kept in range; a golden copy that fails its scrub is written again from a near copy that is whole. -/
def Obligations.DroverMoves : Prop :=
(∀ (handle : Word) (t : Tensor) (w : WriteBehind) (s : State), s.tensor? handle.toNat = some t → t.wb = some w →
    exec (.writeBehindComplete handle) s = .next (s.quiet.modTensor handle.toNat (fun x => { x with
      wb := none, far := some { stripe := w.stripe, bytes := w.form.length, place := w.place, exact := w.exact }
      farTable := if x.farDiffers then chunkTable w.form else []
      res := if x.res = .near then .both else x.res })).retryAllocs) ∧
  (∀ (handle : Word) (port : Fin 4) (t : Tensor) (w : WriteBehind) (s : State), s.tensor? handle.toNat = some t → t.wb = some w → ↑port ∈ w.stripe →
    let u := s.quiet.modTensor handle.toNat (fun x => { x with wb := none })
    exec (.farWriteFailure handle port) s = .next (if w.retry then u else
      u.beginWriteBehind (handle.toNat / 2 ^ 29) handle.toNat (s.stripeNow.filter (· != ↑port)) true)) ∧
  (∀ (handle : Word) (t : Tensor) (s : State), s.tensor? handle.toNat = some t → t.recipe ≠ [] → t.run = some t.recipe.length →
    let h := handle.toNat
    let u := ((s.quiet.countRecompute h).becomeNear (h / 2 ^ 29) h (if t.far.isSome then .both else .near)).modTensor h (fun x => { x with
      run := none })
    exec (.recipeComplete handle) s =
      .next (((((u.endSwitched h).freeScratch (h / 2 ^ 29) t.recipe).settleWaits).idleTensor h).retryAllocs)) ∧
  (∀ (handle hs : Word) (t src b : Tensor) (s : State), s.tensor? handle.toNat = some t → t.encodeFrom = some hs → s.tensor? hs.toNat = some src →
    s.base? t.base.toNat = some b → b.res ≠ .poisoned → (src.readable = false → exec (.dltEncodeComplete handle) s =
      .next (s.quiet.takePath (handle.toNat / 2 ^ 29) src.handle.toNat s.time.clock false)) ∧ (src.readable = true →
      let h := handle.toNat
      let pen := h / 2 ^ 29
      let form := piecesBytes (t.compShape.encode true (s.elemCode pen src) (s.baseCode t))
      let r := s.quiet.allocate pen t false s.time.clock
      let u := ((((r.1.count 16 src.storedBytes).becomeNear pen h .near).useTensor src.handle.toNat).penWrite .norm .shears pen t.penAddr
        form).npFlushSource .shears
      (s.servesTensor .shears t = false ∨ s.servesTensor .shears src = false → exec (.dltEncodeComplete handle) s = .next s.quiet) ∧
      (s.servesTensor .shears t = true → s.servesTensor .shears src = true →
        (s.tensorPoisoned src = true ∨ s.basePoisoned t = true → exec (.dltEncodeComplete handle) s =
          .next (s.quiet.meetEncodePoison t src)) ∧
        (s.tensorPoisoned src = false → s.basePoisoned t = false →
          (r.2 = true → exec (.dltEncodeComplete handle) s = .next (((((u.modTensor h (fun x => { (x.freshTables) with
            encodeFrom := none, nearTable := x.tableOf form })).useTensor h).settleWaits).idleTensor h).idleTensor src.handle.toNat)) ∧
          (r.2 = false → exec (.dltEncodeComplete handle) s = .next (r.1.setAllocWait h true)))))) ∧
  (∀ (handle : Word) (t : Tensor) (s : State), s.tensor? handle.toNat = some t → t.allocWait = true →
    (s.pen (handle.toNat / 2 ^ 29)).nearMin < (s.pen (handle.toNat / 2 ^ 29)).nearUse + t.chargedBytes →
    (s.allocate (handle.toNat / 2 ^ 29) t false s.time.clock).2 = false →
    s.chooseVictim { pen := handle.toNat / 2 ^ 29, size := t.chargedBytes, prefetch := false, deadline := s.time.clock } = none →
      exec (.poolExhausted handle) s = .next (s.quiet.penFault (handle.toNat / 2 ^ 29) 0x83 t.accountedSize).retryAllocs) ∧
  (∀ s : State, ∃ t, exec .lastUseSweep s = .next t ∧ Only [.pens, .out] s t ∧
    ∀ (p : Nat) (x : Tensor), x ∈ (t.pen p).tensors → (BitVec.ofNat 32 (s.time.now.toNat / 1024) - x.lastUse).toNat ≤ 2 ^ 31 ∧
      ∃ y ∈ (s.pen p).tensors, x = { y with lastUse := x.lastUse } ∧
        ((BitVec.ofNat 32 (s.time.now.toNat / 1024) - y.lastUse).toNat ≤ 2 ^ 31 → x = y)) ∧
  (∀ (base : Fin 64) (chunks : List (List Byte)) (poison : Bool) (t : Tensor) (f : FarCopy) (s : State), s.base? (baseHandle base) = some t →
    t.far = some f → t.res = .both → s.fetchable f = true →
      let u := s.quiet.count 20 (4096 * ceilDiv f.bytes 4096)
      let good := poison = false ∧ chunks.length = ceilDiv f.bytes 4096 ∧
        ∀ k < chunks.length, (chunks.getD k []).length = 4096 ∧ t.farCheck k = some (BitVec.ofNat 32 (crc32c (chunks.getD k [])))
      let held := s.npHeld .scrub t.penAddr t.storedBytes
      (held = true → exec (.goldenScrub base chunks poison) s = .next s.quiet) ∧
      (held = false → good ∨ s.npPoisoned t.penAddr t.storedBytes = true → exec (.goldenScrub base chunks poison) s = .next u) ∧
      (held = false → ¬ good → s.npPoisoned t.penAddr t.storedBytes = false → exec (.goldenScrub base chunks poison) s =
        .next ((((u.count 16 t.storedBytes).writeFar f (t.farForm (s.baseForm t))).modBase base (fun x => { x with
          farTable := if x.farDiffers then chunkTable (t.farForm (s.baseForm t)) else x.farTable })).logFault 7 0x0304 .corrected base)))

/-- R243, R244, R404 to R406, R445: a Talsen port that goes down leaves the other ports as they are; the same expander coming back
takes the port up and waiting needs are decided again, one that fails a requirement is logged with its row, any other stays unused; more
than 1,000 corrected errors in 60 s relink the port, or let it wait while another relinks (log entry 166: the lowest port goes first); far
pasture is overwritten after a cold start. -/
def Obligations.TalsenPorts : Prop :=
(∀ (port : Fin 4) (s : State), 4 ≤ s.keptStage → (s.talsenAt port).state = .up → (s.talsenAt port).relinking = false → s.talsen.length = 4 →
    ∃ t, exec (.talsenLinkDown port) s = .next t ∧ (t.talsenAt port).state = .down ∧
      (∀ p < 4, p ≠ port → t.talsenAt p = s.talsenAt p)) ∧
  (∀ (port : Fin 4) (x : Expander) (s : State), 4 ≤ s.keptStage → ((s.talsenAt port).state ≠ .up ∨ (s.talsenAt port).relinking = true) →
    ((s.talsenAt port).takesBack x = true → exec (.talsenLinkUp port x) s = .next (((s.quiet.modTalsen port (fun y => { y with
      state := .up, relinking := false, failed := 0, rate32 := x.rate32, width8 := x.width8 })).healthEventAll 4).portBack.startRelink)) ∧
    ((s.talsenAt port).takesBack x = false → Expander.failedRow x ≠ 0 → exec (.talsenLinkUp port x) s = .next ((s.quiet.modTalsen port
      (fun y => { y with state := .down, relinking := false, failed := Expander.failedRow x })).logFault 10 0x0601 .corrected port none none
        (Expander.failedRow x)).startRelink) ∧
    ((s.talsenAt port).takesBack x = false → Expander.failedRow x = 0 → exec (.talsenLinkUp port x) s = .next (s.quiet.modTalsen port
      (fun y => { y with state := .unused, relinking := false })).startRelink)) ∧
  (∀ (port : Fin 4) (s : State),
    let recent := (s.talsenAt port).corrected.filter (fun c => s.time.clock ≤ c + 60000000000)
    s.talsen.length = 4 →
      (recent.length < 1000 → exec (.talsenCorrectedError port) s = .next ((s.quiet.count 39 1).modTalsen port (fun x => { x with
        corrected := recent ++ [s.time.clock] }))) ∧
      (1000 ≤ recent.length → (s.talsenAt port).state = .up → ∃ t, exec (.talsenCorrectedError port) s = .next t ∧
        (s.talsen.any Talsen.relinking = false → s.boot.shepherdRuns = true →
          (∀ q < port.val, (s.talsenAt q).relinkDue = false ∨ (s.talsenAt q).state ≠ .up) →
            t.talsenAt port = { s.talsenAt port with state := .training, relinking := true, relinkDue := false, corrected := [] }) ∧
        (s.talsen.any Talsen.relinking = true → t.talsenAt port = { s.talsenAt port with
          relinkDue := true, corrected := recent ++ [s.time.clock] }))) ∧
  (∀ (port : Fin 4) (bytes : Nat) (s : State), (s.talsenAt port).state = .up → 0 < min bytes (s.boot.farUnwiped.getD port 0) →
    exec (.farPastureOverwrite port bytes) s = .next ((s.quiet.modBoot (fun b => { b with
      farUnwiped := b.farUnwiped.modify port (fun x => x - min bytes (s.boot.farUnwiped.getD port 0)) })).emit
        (.farZero port (s.farUsable port) (min bytes (s.boot.farUnwiped.getD port 0)))))

/-! ## The transit plane (chapter 11) -/

/-- R278, R281 to R283, R287: how a port comes up, narrows, widens and goes down; what has not been acknowledged or delivered then is
refused or dropped. -/
def Obligations.PortStates : Prop :=
(∀ (p : Fin 8) (lanes : Byte) (s : State), s.transitLive = true → (s.port p).lstate = .down → 2 ≤ laneCount lanes →
    (s.port p).failures < 3 → exec (.portSignalDetect p lanes) s = .next (s.quiet.modPort p (fun x =>
      if s.fab.placed = true ∧ extentOf s.fab.extent (↑p / 2) = 1 then { x with lstate := .disabled, peerValid := false }
      else { x with lstate := .training, peerValid := false, trained := true
                    retrains := if x.trained then satInc x.retrains 255 else x.retrains }))) ∧
  (∀ (p q : Fin 8) (coord extent : B16) (sl : Bool) (s : State), (s.port p).lstate = .training →
    let u := s.quiet.modPort p (fun x => { x with peerValid := true, peerCoord := coord, peerPort := q, slPermitted := sl })
    ((s.fab.placed = false ∨ s.peerExpected p coord extent q = true) → exec (.trainingFrame p coord extent q sl) s = .next u) ∧
    (s.fab.placed = true → s.peerExpected p coord extent q = false → exec (.trainingFrame p coord extent q sl) s =
      .next ((u.modPort p (fun x => { x with lstate := .disabled })).logFault 11 0x0701 .uncontained p none none (coord.toNat + ↑q <<< 16)))) ∧
  (∀ (p : Fin 8) (fast slow light : Byte) (w lo m : Nat) (s : State), s.fab.ports.length = 8 → (s.port p).lstate = .training → (s.port p).peerValid = true →
    (bestLanes fast = some (w, lo, m) ∨ (bestLanes fast = none ∧ adjacentLanes fast = false ∧ bestLanes slow = some (w, lo, m))) →
      ∃ t, exec (.portUp p fast slow light) s = .next t ∧ (t.port p).lstate = .up ∧ (t.port p).width = w ∧ (t.port p).laneLo = lo ∧
        (t.port p).slowRate = (bestLanes fast).isNone ∧ (t.port p).failures = 0) ∧
  (∀ (p : Fin 8) (fast slow light : Byte) (s : State), (s.port p).lstate = .training → bestLanes fast = none →
    (adjacentLanes fast = true ∨ bestLanes slow = none) → exec (.portUp p fast slow light) s = .next s.quiet) ∧
  (∀ (p : Fin 8) (fast slow light : Byte) (s : State), (s.port p).lstate = .up → exec (.portUp p fast slow light) s =
    .next (s.quiet.modPort p (fun x => { x with laneGood := x.laneGood ||| (if x.slowRate then slow else fast) }))) ∧
  (∀ (p : Fin 8) (s : State), (s.port p).lstate = .training → exec (.negotiationTimeout p) s = .next (s.quiet.modPort p (fun x =>
    if x.failures < 2 then { x with failures := x.failures + 1, lstate := .training, peerValid := false, trained := true
                                    retrains := if x.trained then satInc x.retrains 255 else x.retrains }
    else { x with failures := x.failures + 1, lstate := .down, peerValid := false }))) ∧
  (∀ (p : Fin 8) (s : State), (s.port p).lstate = .down → 3 ≤ (s.port p).failures → exec (.negotiationRetry p) s =
    .next (s.quiet.modPort p (fun x => { x with
      lstate := .training, peerValid := false, trained := true, retrains := if x.trained then satInc x.retrains 255 else x.retrains }))) ∧
  (∀ (p l : Fin 8) (s : State), (s.port p).lstate = .up → (s.port p).laneGood.getLsbD l = true →
    let good := (s.port p).laneGood &&& ~~~(1#8 <<< l.val)
    (∀ w lo m, bestLanes good = some (w, lo, m) →
      let u := s.quiet.modPort p (fun x => { x with laneGood := good, width := w, laneLo := lo })
      exec (.laneNarrowing p l) s = .next (if w = (s.port p).width ∧ lo = (s.port p).laneLo then u else u.sendControl p 1)) ∧
    (bestLanes good = none → exec (.laneNarrowing p l) s = .next ((s.quiet.modPort p (fun x => { x with laneGood := good })).portDown p))) ∧
  (∀ (p : Fin 8) (s : State), (s.port p).lstate = .up →
    let u := s.quiet.modPort p (fun x => { x with laneGood := 0xFF, width := 0, laneLo := 0 })
    exec (.laneWidening p) s = .next (if (s.port p).width = 0 ∧ (s.port p).laneLo = 0 then u else u.sendControl p 1)) ∧
  (∀ (p : Fin 8) (s : State), (s.port p).lstate = .up →
    exec (.lossOfSignal p) s = .next (s.quiet.portDown p) ∧ exec (.validFlitTimeout p) s = .next (s.quiet.portDown p)) ∧
  (∀ (p : Fin 8) (s : State), (s.port p).lstate = .training → exec (.lossOfSignal p) s = .next (s.quiet.modPort p (fun x => { x with
    lstate := .down, peerValid := false })))

/-- R284, R285: a flit in sequence takes effect, joins its class and is acknowledged; one received before is acknowledged again and brings
nothing; one out of sequence or with a bad CRC asks for replay, again only after a round trip (log entry 184); the other flits have the
effects of their headers, and show by their number that a DATA flit is missing (log entry 16: DEDUCED). -/
def Obligations.Flits : Prop :=
∀ (p : Fin 8) (bytes : List Byte) (s : State), (s.port p).lstate = .up →
    let u := s.quiet.modPort p (fun x => x.heard bytes)
    let v := if (leField bytes 2 2).testBit 13 then u.replayAll p else u
    let seq := leField bytes 0 2 % 4096
    let cls := 2 * (leField bytes 4 1 % 4) + leField bytes 4 1 / 4 % 2
    (bytes.length ≠ 256 ∨ leField bytes 12 4 ≠ flitCrc bytes → exec (.flit p bytes) s = .next (s.quiet.sendNak p) ∧
      (∀ n, (s.port p).nakSent = some n → s.time.clock < n + 500 → s.quiet.sendNak p = s.quiet)) ∧
    (bytes.length = 256 → leField bytes 12 4 = flitCrc bytes →
      (bitsOf (leField bytes 0 2) 13 12 ≠ 0 →
        ((v.port p).lstate ≠ .up → exec (.flit p bytes) s = .next v) ∧
        ((v.port p).lstate = .up → seq = (v.port p).rxSeq → exec (.flit p bytes) s = .next (v.modPort p (fun x => { x with nakSent := none }))) ∧
        ((v.port p).lstate = .up → seq ≠ (v.port p).rxSeq → exec (.flit p bytes) s = .next (v.sendNak p))) ∧
      (bitsOf (leField bytes 0 2) 13 12 = 0 → seq = (s.port p).rxSeq → (v.port p).lstate = .up →
        exec (.flit p bytes) s = .next ((v.modPort p (fun x => x.accept cls (bytes.drop 16) v.time.now)).sendIdle p false)) ∧
      (bitsOf (leField bytes 0 2) 13 12 = 0 → seq = (s.port p).rxSeq → (v.port p).lstate ≠ .up → exec (.flit p bytes) s = .next v) ∧
      (bitsOf (leField bytes 0 2) 13 12 = 0 → seq ≠ (s.port p).rxSeq → ((s.port p).rxSeq + 4096 - seq) % 4096 ≤ 512 →
        exec (.flit p bytes) s = .next (s.quiet.sendIdle p false)) ∧
      (bitsOf (leField bytes 0 2) 13 12 = 0 → seq ≠ (s.port p).rxSeq → 512 < ((s.port p).rxSeq + 4096 - seq) % 4096 →
        exec (.flit p bytes) s = .next (s.quiet.sendNak p)))

/-- R288 to R293, R296, R297: a packet at the head of an input is delivered here, refused or dropped and counted, or forwarded: a flit at
each command, when its output port has credits and its turn has come (VC3 first while it has waited for its 64 flits, VC0 to VC2 in turn,
and the inputs in turn; log entry 133); a ring notice that brings something new is kept and sent on; ISOLATE from a leader makes the device transit only; a
topology change takes effect when the drain ends. -/
def Obligations.PacketRouting : Prop :=
(∀ (i : Fin 9) (k : Fin 8) (p : Packet) (s : State), s.sendingFrom i k = none → s.quiet.inputHead i k = some p →
    let u := s.quiet.freePacket i p
    (s.quiet.routePacket (i.val < 8) p = .eject → exec (.packet i k) s = .next ((u.modFab (fun f => { f with
      ejected := f.ejected ++ [(i.val, p)] })).count 26 (16 * pSlots p))) ∧
    (s.quiet.routePacket (i.val < 8) p = .drop → exec (.packet i k) s = .next (u.count 29 1)) ∧
    (∀ st, s.quiet.routePacket (i.val < 8) p = .refuse st → exec (.packet i k) s = .next (u.cannotDeliver p st)) ∧
    (∀ port q, s.quiet.routePacket (i.val < 8) p = .forward port q →
      let out := if i.val = 8 then s.quiet.departing q else q
      let x : Sending := { input := i, cls := k, packet := p, out := out, left := out.take (16 * pSlots out), first := 0, alive := true }
      ((s.port port).canSend (pClass q) = true → s.nextTurn port = some (pVc q, i.val) → exec (.packet i k) s =
        .next ((s.quiet.modPort port (fun y => y.begin x)).sendFlit port x true)) ∧
      ((s.port port).canSend (pClass q) = false ∨ s.nextTurn port ≠ some (pVc q, i.val) →
        exec (.packet i k) s = .next s.quiet) ∧
      (i.val < 8 ∨ pHops p = 0 → pHops p + 1 ≤ 60) ∧ (s.port port).lstate = .up)) ∧
  (∀ (i : Fin 9) (k : Fin 8) (port : Nat) (x : Sending) (s : State), s.sendingFrom i k = some (port, x) →
    ((s.port port).canSend (pClass x.out) = true → s.nextTurn port = some (pVc x.out, i.val) → exec (.packet i k) s =
      .next (s.quiet.sendFlit port x false)) ∧
    ((s.port port).canSend (pClass x.out) = false ∨ s.nextTurn port ≠ some (pVc x.out, i.val) → exec (.packet i k) s = .next s.quiet)) ∧
  (∀ (port v i : Nat) (s : State), s.nextTurn port = some (v, i) →
    (i, v) ∈ s.readyFor port ∧
    (v = 3 → (s.port port).vc3Wait = 0 ∨ ∀ x ∈ s.readyFor port, x.2 ≠ 0 ∧ x.2 ≠ 1 ∧ x.2 ≠ 2) ∧
    ((s.port port).vc3Wait = 0 → (∃ x ∈ s.readyFor port, x.2 = 3) → v = 3) ∧
    (v < 3 → v = ((s.port port).lastVc + 1) % 3 ∨ ∀ x ∈ s.readyFor port, x.2 ≠ ((s.port port).lastVc + 1) % 3)) ∧
  (∀ (i : Nat) (p : Packet) (s : State), s.quiet.mgmtPacket 0x2C = some (i, p) →
    let axis := leField p 8 1 % 4
    let link := leField p 9 1
    let broken := decide (leField p 10 1 = 1)
    let u := s.quiet.takePacket (i, p)
    (((s.fab.rings.getD axis { breaks := [] }).breaks.contains link) = broken → exec .ringNotice s = .next u) ∧
    (((s.fab.rings.getD axis { breaks := [] }).breaks.contains link) ≠ broken → exec .ringNotice s =
      .next ((u.ringChange axis link broken).forAll ((u.ringChange axis link broken).upPorts.filter (fun q => q / 2 = axis && q != i))
        (fun w q => w.sendHop q 0x2C (ringNoticeOp axis link broken))))) ∧
  (∀ (i : Nat) (p : Packet) (s : State), s.quiet.mgmtPacket 0x28 = some (i, p) →
    (s.fab.placed = true → (pSrc p = s.fab.bellwether ∨ pSrc p = s.fab.deputy) → ∃ t,
      exec .isolate s = .next t ∧ t = (s.quiet.takePacket (i, p)).enterTransitOnly false ∧ t.fab.transitOnly = true ∧
        ∀ k < 8, (t.pen k).state ≠ .running ∧ (t.pen k).state ≠ .quiescing ∧ (t.pen k).state ≠ .quiesced) ∧
    (s.fab.placed = false ∨ (pSrc p ≠ s.fab.bellwether ∧ pSrc p ≠ s.fab.deputy) →
      exec .isolate s = .next ((s.quiet.takePacket (i, p)).count 29 1))) ∧
  (∀ (x : TopoChange) (s : State), s.fab.draining = some x → ∃ u t, exec .topologyDrainComplete s = .next t ∧
    (x.slot = none → t = u) ∧ (∀ i, x.slot = some i → t = u.answer i stOk []) ∧
    u.fab.coord = x.coord ∧ u.fab.extent = x.extent ∧ u.fab.placed = x.placed ∧ u.fab.bellwether = x.bellwether ∧ u.fab.deputy = x.deputy ∧
    u.fab.draining = none ∧ (s.fab.ports.length = 8 → ∀ k < 8, (u.port k).lstate =
      if x.placed = true ∧ extentOf x.extent (k / 2) = 1 then .disabled else .training))

/-! ## Coordination and recovery (chapters 11 and 13) -/

/-- R267, R331 to R334, R340: the Bellwether sends its BEACON and answers a PROBE; the deputy probes when beacons stay out, and takes over when the
probe stays unanswered; a change that is new is kept and sent down the tree; what is unanswered goes again. -/
def Obligations.Leaders : Prop :=
(∀ s : State, s.isBellwether = true → s.fab.deputy ≠ s.fab.bellwether →
    exec .beaconPeriod s = .next (s.quiet.sendMgmt 0x24 s.fab.deputy [0] [])) ∧
  (∀ (x : Nat × Packet) (s : State), s.quiet.beaconPacket (· = 0) = some x → s.isDeputy = true → pSrc x.2 = s.fab.bellwether →
    exec .beacon s = .next ((s.quiet.takePacket x).modCoord (fun c => { c with probing := false }))) ∧
  (∀ s : State, s.isDeputy = true → exec .beaconTimeout s =
    .next ((s.quiet.modCoord (fun c => { c with probing := true })).sendMgmt 0x24 s.fab.bellwether [1] [])) ∧
  (∀ (x : Nat × Packet) (s : State), s.quiet.beaconPacket (· != 0) = some x →
    (leField x.2 8 1 = 1 → s.isBellwether = true → exec .probe s = .next ((s.quiet.takePacket x).sendMgmt 0x24 (pSrc x.2) [2] [])) ∧
    (leField x.2 8 1 = 2 → exec .probe s = .next ((s.quiet.takePacket x).modCoord (fun c => { c with probing := false })))) ∧
  (∀ s : State, s.coord.probing = true → s.isDeputy = true →
    let u := (s.quiet.modCoord (fun c => { c with probing := false, jobs := c.jobs.map Job.restarted })).nameLeaders s.fab.coord
      (deputyOf s.fab.extent s.fab.coord s.coord.unusable)
    exec .probeTimeout s = .next (u.sendDown 0x25 (changeOp u.fab.bellwether u.fab.deputy)).rejoin ∧
      u.fab.bellwether = s.fab.coord ∧ u.isBellwether = true) ∧
  (∀ (i : Nat) (p : Packet) (s : State), s.quiet.mgmtPacket 0x25 = some (i, p) →
    let bw := BitVec.ofNat 16 (leField p 8 2)
    let dep := BitVec.ofNat 16 (leField p 10 2)
    let u := s.quiet.takePacket (i, p)
    (bw = s.fab.bellwether → dep = s.fab.deputy → exec .bellwetherChange s = .next u) ∧
    (bw ≠ s.fab.bellwether ∨ dep ≠ s.fab.deputy → exec .bellwetherChange s =
      .next ((u.nameLeaders bw dep).sendOn i 0x25 (changeOp bw dep)).rejoin)) ∧
  (∀ (p : Fin 8) (s : State), (s.pen p).notices ≠ [] → exec (.coordinatorLost p) s =
    .next (s.quiet.modBoot (fun b => { b with coordinatorLost := true }))) ∧
  (∀ s : State,
    let t := (if s.time.epochReq then s.quiet.sendEpochReq else s.quiet).forAll (List.range 8) (fun u p =>
      (if (u.pen p).joining then u.sendJoin p else u).forAll (u.pen p).notices State.sendNotice)
    (s.isBellwether = false → exec .managementResend s = .next t) ∧
    (s.isBellwether = true → exec .managementResend s = .next (t.forAll (t.coord.jobs.filter (fun j => j.phase.announced)) (fun u j =>
      u.forAll j.waiting (fun v m => v.sendRecovery j m))))) ∧
  (∀ (i : Nat) (p : Packet) (s : State), s.quiet.mgmtPacket 0x2B = some (i, p) → exec .slow s =
    .next ((s.quiet.takePacket (i, p)).modPort i (fun x => { x with slow := leField p 8 1 = 1 }))) ∧
  (∀ (p : Fin 8) (s : State), exec (.slowExpiry p) s = .next (s.quiet.modPort p (fun x => { x with slow := false }))) ∧
  (∀ (q id : Nat) (x : Queue) (s : State), s.queue? q = some x → s.waitingHead x = some id → (s.pen x.pen).member = true →
    exec (.collWatchdog q) s = .next (s.quiet.penFault x.pen 0x84 (q % 2 ^ 20 + id <<< 32)).retryAllocs)

/-- R296, R322, R341 to R344, Table 13.7: JOIN and FAULT_NOTICE enter the job table of a leader and are counted elsewhere; collection ends in HALT under the
next generation, which the deputy counts along, members that reported a hub fault or stay silent are isolated (log entry 186: those
that stay silent about the plan restart the recovery), and every live member's acknowledgement moves the job on; a member keeps the report,
acts on it and acknowledges, and an earlier generation has no effect. -/
def Obligations.Recovery : Prop :=
(∀ (x : Nat × Packet) (s : State), s.quiet.mgmtPacket 0x26 = some x →
    let f (o n : Nat) : Nat := leField x.2 o n
    (s.isBellwether = true ∨ s.isDeputy = true → exec .join s = .next ((s.quiet.takePacket x).takeJoin (pSrc x.2) (BitVec.ofNat 16 (f 8 2))
      (BitVec.ofNat 16 (f 10 2)) (BitVec.ofNat 16 (f 12 2)) (BitVec.ofNat 32 (f 16 4)))) ∧
    (s.isBellwether = false → s.isDeputy = false → exec .join s = .next ((s.quiet.takePacket x).count 29 1))) ∧
  (∀ (x : Nat × Packet) (s : State), s.quiet.mgmtPacket 0x27 = some x →
    (s.isBellwether = true ∨ s.isDeputy = true → ∃ t, exec .faultNotice s = .next t ∧
      (leField x.2 10 1 ≠ 0xFF → Only [.fab, .coord, .out] s t) ∧ (leField x.2 10 1 = 0xFF → pSrc x.2 ∈ t.coord.unusable) ∧
      t.coord.jobs.map Job.key = s.coord.jobs.map Job.key ∧
      ∀ j ∈ t.coord.jobs, j.key = BitVec.ofNat 16 (leField x.2 8 2) → j.phase = .stopped ∨
        (j.phase = .collect ∧ (pSrc x.2, leField x.2 10 1) ∈ j.notices)) ∧
    (s.isBellwether = false → s.isDeputy = false → exec .faultNotice s = .next ((s.quiet.takePacket x).count 29 1))) ∧
  (∀ (key : B16) (j : Job) (s : State), s.job? key = some j → j.phase = .collect → s.isBellwether = true →
    exec (.collectEnd key) s = .next (((((s.quiet.modJob key (fun x => { x with
      generation := x.generation + 1, members := x.members.map (fun m => { m with joined := false }) })).forAll
        (j.members.filter (fun m => j.notices.contains (m.coord, 0xFF))) (fun v m => v.isolateMember key m)).announce key .halt)).advanceJob key)) ∧
  (∀ (key : B16) (j : Job) (s : State), s.job? key = some j → j.phase = .collect → s.isDeputy = true →
    exec (.collectEnd key) s = .next (s.quiet.modJob key (fun x => { x with
      phase := .halt, generation := x.generation + 1, members := x.members.map (fun m => { m with joined := false }) }))) ∧
  (∀ (key : B16) (j : Job) (s : State), s.job? key = some j → j.phase = .plan → s.isBellwether = true → j.waiting ≠ [] →
    exec (.haltAckTimeout key) s = .next ((s.quiet.forAll j.waiting (fun u m => u.isolateMember key m)).modJob key Job.restarted)) ∧
  (∀ (key : B16) (j : Job) (s : State), s.job? key = some j → j.phase = .halt → s.isBellwether = true →
    exec (.haltAckTimeout key) s = .next ((s.quiet.forAll j.waiting (fun u m => u.isolateMember key m)).advanceJob key)) ∧
  (∀ (x : Nat × Packet) (s : State), s.quiet.mgmtPacket 0x2A = some x →
    let key := BitVec.ofNat 16 (leField x.2 8 2)
    (s.isBellwether = false → exec .recoveryAck s = .next ((s.quiet.takePacket x).count 29 1)) ∧
    (∀ j, s.isBellwether = true → s.coord.jobs = [j] → j.key = key → leField x.2 12 4 = j.generation.toNat → leField x.2 10 1 = j.phase.code →
      j.phase.announced = true → exec .recoveryAck s = .next (((s.quiet.takePacket x).modCoord (fun c => { c with jobs := [{ j with
        members := j.members.map (fun m => if m.coord = pSrc x.2 then { m with acked := true } else m) }] })).advanceJob key))) ∧
  (∀ (x : Nat × Packet) (s : State), s.quiet.mgmtPacket 0x29 = some x →
    let key := BitVec.ofNat 16 (leField x.2 8 2)
    let r : RecoveryReport := { phase := leField x.2 10 1, status := leField x.2 11 1, generation := BitVec.ofNat 32 (leField x.2 12 4)
                                subs := parseSubs x.2 }
    let u := s.quiet.takePacket x
    (s.hubPresent = true → r.generation.toNat < (s.generation key).toNat → exec .recovery s = .next u) ∧
    (s.hubPresent = true → (s.generation key).toNat ≤ r.generation.toNat → exec .recovery s =
      .next (((u.keepReport key r).actOn key r).sendMgmt 0x2A (pSrc x.2)
        (leBytes 2 key.toNat ++ [BitVec.ofNat 8 r.phase, 0] ++ leBytes 4 r.generation.toNat) [])))

/-! ## Remote operations (chapter 12) -/

/-- R266, R275, R306, R308, R310, R311, R317, R319: the head descriptor of a ROP queue is taken under its operation's command while the
queue has room for it and near pasture serves its source, or the first failed check halts the queue at that descriptor; a queue that is
full, fenced or held takes nothing; an operation without its response in time fails with status 0x18. -/
def Obligations.RemoteOperations : Prop :=
(∀ (c : Nat → Instr) (op : Nat),
    (c, op) ∈ [(Instr.put, 1), (.get, 2), (.putAcc, 3), (.atomic, 4), (.signal, 5), (.ropFence, 6)] →
    ∀ (q : Nat) (x : Queue) (d : List Byte) (s : State), s.queue? q = some x → x.type = .rop → s.takes x = true → s.headEntry x = .ok d →
      rOp d = op →
        (s.ropOpen x = false → exec (c q) s = .next s.quiet) ∧
        (s.ropOpen x = true → s.ropError x d = none → s.ropHeld x d = false → exec (c q) s = .next (s.quiet.ropTake x d)) ∧
        (s.ropOpen x = true → s.ropError x d = none → s.ropHeld x d = true → exec (c q) s = .next s.quiet) ∧
        (∀ code, s.ropOpen x = true → s.ropError x d = some code → exec (c q) s = .next (s.quiet.ropRefused x d code) ∧
          ∃ y, (s.quiet.ropRefused x d code).queue? q = some y ∧ y.halted = true ∧ y.head = x.head)) ∧
  (∀ (q : Nat) (seq : Word) (r : RopOp) (s : State),
    s.qe.rops.find? (fun r => r.queue = q && rSeq r.desc = seq.toNat && !r.waiting && r.due.isNone && rOp r.desc != 6) = some r →
      exec (.ropTimeout q seq) s = .next ((s.quiet.ropFail r 0x18).afterRop q))

/-- R257, R266, R272, R275, R293, R307, R309 to R312, R316, R318, R319, R321, R332: a request at the head of its channel is carried out in
its pen when near pasture serves it, and answered; a GET, ATOMIC or SIGNAL that near pasture holds leaves its channel and waits; one for a
pen that does not take it is answered with the status alone; a response ends or advances its operation; a fragment refused for the first
time after a route change goes again once the queue's hold ends, any other refusal fails the operation (a refusal's BAD_DEST reads 0x07 in
the completion, log entry 160: DEDUCED); the deputy whose PROBE is refused for want of the Bellwether's hub takes over. -/
def Obligations.RemotePackets : Prop :=
(∀ (x : Nat × Packet) (s : State), s.quiet.headPacket 0 0x01 = some x →
    let r := (s.quiet.takePacket x).arrivePut x.2 (dataBytes x.2) false
    (s.putHeld x.2 false = false →
      exec .putData s = .next (r.1.forAll r.2 State.inject) ∧ (s.acceptOp x.2 ≠ 0 → r.1.np = s.np ∧ r.1.pens = s.pens)) ∧
    (s.putHeld x.2 false = true → exec .putData s = .next s.quiet)) ∧
  (∀ (x : Nat × Packet) (s : State), s.quiet.headPacket 2 0x05 = some x →
    let r := (s.quiet.takePacket x).arrivePut x.2 (dataBytes x.2) true
    (s.putHeld x.2 true = false →
      exec .putAccData s = .next (r.1.forAll r.2 State.inject) ∧ (s.acceptOp x.2 ≠ 0 → r.1.np = s.np ∧ r.1.pens = s.pens)) ∧
    (s.putHeld x.2 true = true → exec .putAccData s = .next s.quiet)) ∧
  (∀ (x : Nat × Packet) (s : State), s.quiet.headPacket 0 0x02 = some x →
    let u := s.quiet.takePacket x
    (s.requestHeld s.qe.held x.2 = true → exec .getReq s = .next (u.modQe (fun e => { e with held := e.held ++ [x.2] }))) ∧
    (s.requestHeld s.qe.held x.2 = false →
      (s.acceptOp x.2 ≠ 0 → exec .getReq s = .next (u.inject (u.response x.2 0x12 0 (s.acceptOp x.2) (pArg1 x.2) []))) ∧
      (s.acceptOp x.2 = 0 → s.penMapped (pPen x.2) (pAddr x.2) (pArg0 x.2) = false → exec .getReq s =
        .next (u.inject (u.response x.2 0x12 0 0x10 (pArg1 x.2) []))) ∧
      (s.acceptOp x.2 = 0 → s.penMapped (pPen x.2) (pAddr x.2) (pArg0 x.2) = true → exec .getReq s =
        .next ((u.count 16 (pArg0 x.2)).inject (u.response x.2 0x12 (if s.penPoisoned (pPen x.2) (pAddr x.2) (pArg0 x.2) then 32 else 0) 0
          (pArg1 x.2) (s.penRead (pPen x.2) (pAddr x.2) (pArg0 x.2))))))) ∧
  (∀ (c : Instr) (ty : Nat) (x : Nat × Packet) (s : State), (c, ty) ∈ [(Instr.atomicReq, 0x03), (.signalReq, 0x04)] →
    s.quiet.headPacket 0 ty = some x → s.requestHeld s.qe.held x.2 = true →
      exec c s = .next ((s.quiet.takePacket x).modQe (fun e => { e with held := e.held ++ [x.2] }))) ∧
  (∀ (x : Nat × Packet) (s : State), s.quiet.headPacket 0 0x03 = some x → s.requestHeld s.qe.held x.2 = false →
    let u := s.quiet.takePacket x
    (s.acceptOp x.2 ≠ 0 → exec .atomicReq s = .next (u.inject (u.response x.2 0x13 0 (s.acceptOp x.2) 0 []))) ∧
    (s.acceptOp x.2 = 0 → s.penMapped (pPen x.2) (pAddr x.2) 8 = false → exec .atomicReq s = .next (u.inject (u.response x.2 0x13 0 0x10 0 []))) ∧
    (s.acceptOp x.2 = 0 → s.penMapped (pPen x.2) (pAddr x.2) 8 = true →
      let v := u.penFlush (pPen x.2) (pAddr x.2) 8
      let old := leNat (v.penRead (pPen x.2) (pAddr x.2) 8)
      let a := leField (pPayload x.2) 0 8
      let b := leField (pPayload x.2) 8 8
      let put (n : Nat) : State := v.penWrite .hi .queue (pPen x.2) (pAddr x.2) (leBytes 8 n)
      let w := if pSubop x.2 = 0 then put ((old + a) % 2 ^ 64) else if pSubop x.2 = 1 then (if old = a then put b else v) else put a
      exec .atomicReq s = .next (w.inject (w.response x.2 0x13 (if v.penPoisoned (pPen x.2) (pAddr x.2) 8 then 32 else 0) 0 0 (leBytes 8 old))))) ∧
  (∀ (x : Nat × Packet) (s : State), s.quiet.headPacket 0 0x04 = some x → s.requestHeld s.qe.held x.2 = false →
    let w := s.quiet.takePacket x
    let u := w.addCounter (pPen x.2) (pArg1 x.2 % 65536) (BitVec.ofNat 64 (pArg0 x.2))
    (s.acceptOp x.2 ≠ 0 → exec .signalReq s = .next (w.inject (if (pArg1 x.2).testBit 16 then w.response x.2 0x13 0 (s.acceptOp x.2) 0 []
      else w.response x.2 0x10 0 0 (s.acceptOp x.2) []))) ∧
    (s.acceptOp x.2 = 0 → (pArg1 x.2).testBit 16 = false → exec .signalReq s = .next (u.inject (u.response x.2 0x10 0 1 0 []))) ∧
    (s.acceptOp x.2 = 0 → (pArg1 x.2).testBit 16 = true → exec .signalReq s =
      .next (u.inject (u.response x.2 0x13 0 0 0 (leBytes 8 (u.signalCounter (pPen x.2) (pArg1 x.2 % 65536)).toNat))))) ∧
  (∀ (c : Instr) (ty : Nat) (x : Nat × Packet) (s : State), (c, ty) ∈ [(Instr.ack, 0x10), (.getData, 0x12), (.valueResp, 0x13)] →
    s.quiet.headPacket 1 ty = some x →
      (s.landingHeld x.2 = true → exec c s = .next s.quiet) ∧
      (s.landingHeld x.2 = false → exec c s = .next (((s.quiet.takePacket x).takeResponse x.2).afterRop (pTag x.2 % 2 ^ 20))) ∧
      (s.ropOf (pTag x.2) = none → (s.quiet.takePacket x).takeResponse x.2 = s.quiet.takePacket x) ∧
      (∀ r, s.ropOf (pTag x.2) = some r → ty = 0x10 → pArg1 x.2 % 256 = 0 →
        (s.quiet.takePacket x).takeResponse x.2 = (s.quiet.takePacket x).ropDone r 0)) ∧
  (∀ (x : Nat × Packet) (r : RopOp) (s : State), s.quiet.headPacket 1 0x11 = some x → s.ropOf (pTag x.2) = some r →
    let u := s.quiet.takePacket x
    let status := leField x.2 31 1
    let i := refusedIndex r x.2
    (status = 2 → r.epoch ≠ s.fab.routeEpoch → r.frags[i]? = some .inFlight → exec .refusal s =
      .next (((u.modRop r (fun y => { y with frags := y.frags.set i .refused })).modQueue r.queue (fun q => { q with
        routeHold := true })).afterRop r.queue)) ∧
    (r.epoch = s.fab.routeEpoch ∨ r.frags[i]? ≠ some .inFlight ∨ status = 1 ∨ status = 3 ∨ status = 4 ∨ status = 5 →
      exec .refusal s = .next ((u.ropFail r (if status = 1 then 0x14 else if status = 2 then 0x15 else if status = 3 then 0x07
        else if status = 4 then 0x16 else if status = 5 then 0x17 else status)).afterRop r.queue |>.leaderRefused (pSrc x.2) 0 status))) ∧
  (∀ (x : Nat × Packet) (s : State), s.quiet.headPacket 1 0x11 = some x → s.ropOf (pTag x.2) = none →
    let u := s.quiet.takePacket x
    exec .refusal s = .next (u.leaderRefused (pSrc x.2) (leField x.2 8 1) (leField x.2 31 1)) ∧
    (leField x.2 8 1 = 1 → leField x.2 31 1 = 1 → pSrc x.2 = s.fab.bellwether → s.coord.probing = true → s.isDeputy = true →
      exec .refusal s = .next u.takeOver ∧ u.takeOver.fab.bellwether = s.fab.coord))

/-! ## Video (chapter 15) and the ends of a pen (chapter 14) -/

/-- R266, R275, R366, R371, R372, R382 to R384, R391: the head entry of a VID queue is taken under its operation's command, or the first
failed check halts the queue; it waits while near pasture holds the data that it names; a picture is chosen for an idle core, leaves it
when it ends, unless near pasture holds the picture that it encodes, and a core reset conceals a decode and puts an encode back; one core
is in reset at a time. -/
def Obligations.VideoWork : Prop :=
(∀ (c : Nat → Instr) (op : Nat), (c, op) ∈ [(Instr.data, 1), (.output, 2), (.encode, 3), (.flush, 4)] →
    ∀ (q : Nat) (x : Queue) (e : List Byte) (s : State), s.queue? q = some x → x.type = .vid → s.takes x = true → s.headEntry x = .ok e →
      vOp e = op →
        (s.streamTakes e = false → exec (c q) s = .next s.quiet) ∧
        (s.streamTakes e = true → s.videoError x e = none → (op = 1 → s.videoHeld x.pen e = false) →
          exec (c q) s = .next (s.quiet.videoTake x e)) ∧
        (s.streamTakes e = true → s.videoError x e = none → op = 1 → s.videoHeld x.pen e = true →
          exec (c q) s = .next (s.quiet.videoFetch x.pen e true)) ∧
        (∀ code, s.streamTakes e = true → s.videoError x e = some code → exec (c q) s = .next (s.quiet.videoRefused x e code))) ∧
  (∀ (core : Fin 6) (s : State), (s.core core).busy = none → (s.core core).inReset = false → s.boot.shepherdRuns = true →
    (∀ x w, pickPicture s.time.clock (s.readyPictures (decide (4 ≤ core.val))) = some (x, w) →
      (x, w) ∈ s.readyPictures (decide (4 ≤ core.val)) ∧
      exec (.picturePick core) s = .next ((s.quiet.modStream x.number (fun y => { y with ready := none })).modCore core (fun k => { k with
        busy := some (x.number, w) }))) ∧
    (pickPicture s.time.clock (s.readyPictures (decide (4 ≤ core.val))) = none → exec (.picturePick core) s = .next s.quiet)) ∧
  (∀ (core : Fin 6) (s : State),
    ((s.core core).resetQueued = false → s.pictureHeld core = false → exec (.pictureEnd core) s = .next (s.quiet.endPicture core false)) ∧
    ((s.core core).resetQueued = false → s.pictureHeld core = true → exec (.pictureEnd core) s = .next (s.quiet.pictureFetch core)) ∧
    ((s.core core).resetQueued = true → exec (.pictureEnd core) s = .next s.quiet)) ∧
  (∀ (core : Fin 6) (s : State), (s.core core).busy ≠ none → (s.core core).inReset = false → s.boot.shepherdRuns = true →
    ((∃ k ∈ s.video.cores, k.inReset = true) → exec (.coreReset core) s = .next (s.quiet.modCore core (fun k => { k with resetQueued := true }))) ∧
    ((∀ k ∈ s.video.cores, k.inReset = false ∧ k.resetQueued = false) →
      exec (.coreReset core) s = .next ((s.quiet.modCore core (fun k => { k with resetQueued := true })).beginCoreReset core))) ∧
  (∀ (core : Fin 6) (s : State), (s.core core).inReset = true → exec (.videoCoreResetEnd core) s =
    .next (s.quiet.modCore core (fun k => { k with inReset := false })).nextCoreReset)

/-- R321, R355, R357, R360, R368: a pen whose tasks have ended is QUIESCED and its waiting JOB_QUIESCE is answered; one that is not drained in
1 s takes a fault; a wiped pen is EMPTY, its near pages read zero and hold no poison, and no queue of it is left; the wipe waits while
near pasture holds its writes (R266, R275). -/
def Obligations.PenEnds : Prop :=
(∀ (p : Fin 8) (s : State), (s.pen p).state = .quiescing → s.penDrained p = true → s.boot.shepherdRuns = true →
    exec (.quiesceDrainComplete p) s =
      .next (((s.quiet.modPen p (fun x => { x with state := .quiesced })).droverQuiesce p).answerPen 0x0902 p stOk)) ∧
  (∀ (p : Fin 8) (s : State), (s.pen p).state = .quiescing →
    exec (.quiesceTimeout p) s = .next ((s.quiet.answerPen 0x0902 p stTimeout).penFault p 0x85 0).retryAllocs) ∧
  (∀ (p : Fin 8) (s : State), (s.pen p).state = .wiping → (∀ r ∈ s.qe.rops, r.pen ≠ p) → (∀ x ∈ s.video.streams, x.pen ≠ p) →
    ((∀ n ∈ (s.pen p).nearPages, s.npHeld .wipe (n * pageBytes) pageBytes = false) →
      (∀ q, q ≠ p.val → ∀ x ∈ (s.pen q).tensors, x.allocWait = false) →
        ∃ t, exec (.wipeComplete p) s = .next t ∧ (t.pen p).state = .empty ∧ (t.pen p).pages = [] ∧ (t.pen p).tensors = [] ∧
          (∀ q ∈ t.qe.queues, q.pen ≠ p) ∧
          ∀ a, a / pageBytes ∈ (s.pen p).nearPages →
            (∀ r ∈ s.np.waiting, r.kind.addr / pageBytes ∈ (s.pen p).nearPages ∨ r.kind.byteAt a = none) →
              t.npByte a = 0 ∧ lineOf a ∉ t.np.poison) ∧
    ((∃ n ∈ (s.pen p).nearPages, s.npHeld .wipe (n * pageBytes) pageBytes = true) → exec (.wipeComplete p) s = .next s.quiet))
end

