-- ==== Sys2Proof/Laws/Frame.lean ====
section
/-! SUPPORT. The calculus of frames: `Keeps cs s t` says that from `s` to `t` nothing changes outside the areas `cs` and that
a sound machine stays sound.  It is reflexive and transitive, and every operation of the model has one such lemma. -/

-- One proof at a time: the package as one text otherwise asks for more threads than its memory limit allows.
set_option Elab.async false
set_option linter.all false

namespace Sys2Proof.Machine

/-- Every area of the first list is in the second. -/
def Area.sub (a b : List Area) : Bool := a.all (fun x => b.contains x)

theorem Area.mem_of_sub {a b : List Area} (h : Area.sub a b = true) {x : Area} (hx : x ∈ a) : x ∈ b := by
  simp only [Area.sub, List.all_eq_true] at h
  simpa using h x hx

theorem Area.same_refl (a : Area) (s : State) : a.same s s := by cases a <;> rfl

theorem Area.same_trans {a : Area} {s t u : State} (h : a.same s t) (k : a.same t u) : a.same s u := by
  cases a <;> exact Eq.trans k h

/-- Nothing changes outside `cs`, and a sound machine stays sound. -/
structure Keeps (cs : List Area) (s t : State) : Prop where
  only : Only cs s t
  sound : s.Sound → t.Sound

theorem Keeps.rfl {cs : List Area} {s : State} : Keeps cs s s := ⟨⟨fun a _ => a.same_refl s, Eq.refl _⟩, id⟩

theorem Keeps.trans {cs : List Area} {s t u : State} (h : Keeps cs s t) (k : Keeps cs t u) : Keeps cs s u :=
  ⟨⟨fun a ha => Area.same_trans (h.only.same a ha) (k.only.same a ha), k.only.pending.trans h.only.pending⟩,
    fun x => k.sound (h.sound x)⟩

theorem Keeps.mono {a b : List Area} {s t : State} (h : Keeps a s t) (hm : Area.sub a b = true) : Keeps b s t :=
  ⟨⟨fun x hx => h.only.same x (fun hc => hx (Area.mem_of_sub hm hc)), h.only.pending⟩, h.sound⟩

/-- One more operation, which keeps to fewer areas. -/
theorem Keeps.step {a cs : List Area} {s t u : State} (h : Keeps cs s t) (k : Keeps a t u) (hm : Area.sub a cs = true) :
    Keeps cs s u := h.trans (k.mono hm)

theorem State.forAll_keeps {α : Type} {cs : List Area} {s t : State} {l : List α} {f : State → α → State}
    (h : Keeps cs s t) (hf : ∀ u x, Keeps cs u (f u x)) : Keeps cs s (t.forAll l f) := by
  induction l generalizing t with
  | nil => exact h
  | cons x l ih => exact ih (h.trans (hf t x))

/-- What an answer leaves of the state. -/
def Answer.state : Answer → State
  | .reply s _ _ => s
  | .wait s => s

theorem Keeps.reply {cs : List Area} {s t : State} {n : Nat} {p : List Byte} (h : Keeps cs s t) :
    Keeps cs s (Answer.reply t n p).state := h

theorem Keeps.waits {cs : List Area} {s t : State} (h : Keeps cs s t) : Keeps cs s (Answer.wait t).state := h

theorem Keeps.refuses {cs : List Area} {s t : State} {n : Nat} (h : Keeps cs s t) : Keeps cs s (refuse t n).state := h

/-- A result whose next state, if it has one, keeps to the areas. -/
def Result.Keeps (cs : List Area) (s : State) (r : Result) : Prop := ∀ t, r = .next t → Machine.Keeps cs s t

theorem Result.keeps_done {cs : List Area} {s t : State} (h : Machine.Keeps cs s t) : Result.Keeps cs s (done t) := by
  intro u e
  cases e
  exact h

theorem Result.keeps_fault {cs : List Area} {s : State} {r : Fault} : Result.Keeps cs s (Host.Outcome.fault r) := by
  intro u e
  cases e

theorem Result.Keeps.mono {a b : List Area} {s : State} {r : Result} (h : Result.Keeps a s r) (hm : Area.sub a b = true) :
    Result.Keeps b s r := fun t e => (h t e).mono hm

/-! ## Sparse maps -/

theorem cellsWf_tail {α : Type} [DecidableEq α] {d : α} {x : Nat × α} {m : List (Nat × α)} (h : cellsWf d (x :: m) = true) :
    cellsWf d m = true := by
  cases m with
  | nil => rfl
  | cons y r =>
    simp only [cellsWf, Bool.and_eq_true] at h
    exact h.2

/-- The keys after the first are above it. -/
theorem cellsWf_lt {α : Type} [DecidableEq α] {d : α} {k : Nat} {v : α} {m : List (Nat × α)}
    (h : cellsWf d ((k, v) :: m) = true) : ∀ x ∈ m, k < x.1 := by
  induction m generalizing k v with
  | nil => simp
  | cons y r ih =>
    obtain ⟨k', v'⟩ := y
    have hl : k < k' := by
      simp only [cellsWf, Bool.and_eq_true, decide_eq_true_eq] at h
      exact h.1.2
    intro x hx
    rcases List.mem_cons.1 hx with rfl | hx
    · exact hl
    · exact Nat.lt_trans hl (ih (cellsWf_tail h) x hx)

theorem cellsWf_cons {α : Type} [DecidableEq α] {d : α} {k : Nat} {v : α} {m : List (Nat × α)} (hv : v ≠ d)
    (hk : ∀ x ∈ m, k < x.1) (h : cellsWf d m = true) : cellsWf d ((k, v) :: m) = true := by
  cases m with
  | nil => simpa [cellsWf] using hv
  | cons y r => simp_all [cellsWf]

theorem cellsWf_head {α : Type} [DecidableEq α] {d : α} {k : Nat} {v : α} {m : List (Nat × α)}
    (h : cellsWf d ((k, v) :: m) = true) : v ≠ d := by
  cases m <;> simp_all [cellsWf]

theorem cellPut_mem {α : Type} [DecidableEq α] {d : α} {m : List (Nat × α)} {a : Nat} {b : α} :
    ∀ x ∈ cellPut d m a b, x.1 = a ∨ x ∈ m := by
  induction m with
  | nil =>
    intro x hx
    simp only [cellPut] at hx
    split at hx <;> simp_all
  | cons y r ih =>
    obtain ⟨k, v⟩ := y
    intro x hx
    simp only [cellPut] at hx
    split at hx
    · split at hx
      · exact .inr hx
      · rcases List.mem_cons.1 hx with rfl | h
        · exact .inl rfl
        · exact .inr h
    · split at hx
      · split at hx
        · exact .inr (List.mem_cons_of_mem _ hx)
        · rcases List.mem_cons.1 hx with rfl | h
          · exact .inl rfl
          · exact .inr (List.mem_cons_of_mem _ h)
      · rcases List.mem_cons.1 hx with rfl | h
        · exact .inr (List.mem_cons_self ..)
        · exact (ih x h).imp id (List.mem_cons_of_mem _)

/-- A store keeps the canonical form. -/
theorem cellPut_wf {α : Type} [DecidableEq α] {d : α} {m : List (Nat × α)} {a : Nat} {b : α} (h : cellsWf d m = true) :
    cellsWf d (cellPut d m a b) = true := by
  induction m with
  | nil =>
    simp only [cellPut]
    split
    · rfl
    · simpa [cellsWf]
  | cons y r ih =>
    obtain ⟨k, v⟩ := y
    simp only [cellPut]
    split
    · rename_i hak
      split
      · exact h
      · rename_i hb
        exact cellsWf_cons hb (fun x hx => (List.mem_cons.1 hx).elim (fun e => e ▸ hak) (fun e => Nat.lt_trans hak (cellsWf_lt h x e))) h
    · rename_i hak
      split
      · rename_i hek
        split
        · exact cellsWf_tail h
        · rename_i hb
          exact cellsWf_cons hb (fun x hx => hek ▸ cellsWf_lt h x hx) (cellsWf_tail h)
      · rename_i hne
        refine cellsWf_cons (cellsWf_head h) (fun x hx => ?_) (ih (cellsWf_tail h))
        rcases cellPut_mem x hx with e | e
        · omega
        · exact cellsWf_lt h x e

theorem cellPutAll_wf {α : Type} [DecidableEq α] {d : α} {m : List (Nat × α)} {a : Nat} {bs : List α} (h : cellsWf d m = true) :
    cellsWf d (cellPutAll d m a bs) = true := by
  induction bs generalizing m a with
  | nil => exact h
  | cons b bs ih => exact ih (cellPut_wf h)

theorem cellsWf_filter {α : Type} [DecidableEq α] {d : α} {m : List (Nat × α)} {p : Nat × α → Bool} (h : cellsWf d m = true) :
    cellsWf d (m.filter p) = true := by
  induction m with
  | nil => rfl
  | cons y r ih =>
    obtain ⟨k, v⟩ := y
    simp only [List.filter_cons]
    split
    · exact cellsWf_cons (cellsWf_head h) (fun x hx => cellsWf_lt h x (List.mem_filter.1 hx).1) (ih (cellsWf_tail h))
    · exact ih (cellsWf_tail h)

/-- A read after a store: the stored value at its key, and every other key as before. -/
theorem cellGet_cellPut {α : Type} [DecidableEq α] {d : α} {m : List (Nat × α)} {a : Nat} {b : α} (h : cellsWf d m = true)
    (x : Nat) : cellGet d (cellPut d m a b) x = if x = a then b else cellGet d m x := by
  have miss : ∀ (r : List (Nat × α)) (z : Nat), (∀ y ∈ r, z < y.1) → cellGet d r z = d := by
    intro r z hr
    induction r with
    | nil => rfl
    | cons y r ih =>
      obtain ⟨k, v⟩ := y
      have := hr (k, v) (List.mem_cons_self ..)
      simp only [cellGet]
      rw [if_neg (by simp only at this; omega)]
      exact ih (fun y hy => hr y (List.mem_cons_of_mem _ hy))
  induction m with
  | nil =>
    simp only [cellPut, cellGet]
    split
    · rename_i hb
      simp [cellGet, hb]
    · by_cases hx : x = a
      · simp [cellGet, hx]
      · simp [cellGet, hx, Ne.symm hx]
  | cons y r ih =>
    obtain ⟨k, v⟩ := y
    have hl := cellsWf_lt h
    simp only [cellPut]
    split
    · rename_i hak
      have hm : cellGet d ((k, v) :: r) a = d :=
        miss _ a (fun z hz => (List.mem_cons.1 hz).elim (fun e => e ▸ hak) (fun e => Nat.lt_trans hak (hl z e)))
      split
      · rename_i hb
        split
        · rename_i hx
          rw [hx, hm, hb]
        · rfl
      · simp only [cellGet]
        by_cases hx : x = a
        · simp [hx]
        · simp [hx, Ne.symm hx]
    · split
      · rename_i hek
        split
        · rename_i hb
          split
          · rename_i hx
            rw [hx, hb]
            exact miss r a (fun z hz => hek ▸ hl z hz)
          · rename_i hx
            simp only [cellGet]
            rw [if_neg (by omega)]
        · simp only [cellGet, hek]
          by_cases hx : x = k
          · simp [hx]
          · simp [hx, Ne.symm hx]
      · simp only [cellGet]
        rw [ih (cellsWf_tail h)]
        split
        · rename_i hx
          rw [if_neg (by omega)]
        · rfl

end Sys2Proof.Machine
end

