-- ==== Sys2Proof/Laws/FrameShared.lean ====
section
/-! SUPPORT. What each operation of the shared operations, near pasture, the fabric, the queues and the pens may change, and that it keeps a sound machine sound: one lemma per definition. -/

-- One proof at a time: the package as one text otherwise asks for more threads than its memory limit allows.
set_option Elab.async false
set_option linter.all false

namespace Sys2Proof.Machine

/-! ## Machine/Ops.lean -/

theorem satInc_le {v n : Nat} : satInc v n ≤ n := by
  unfold satInc
  split <;> omega

theorem FaultBank.enter_length (b : FaultBank) (r : FaultRec) : (b.enter r).records.length = b.records.length := by
  unfold FaultBank.enter
  repeat' first | split | simp

theorem banks_modify {bs : List FaultBank} {k : Nat} {f : FaultBank → FaultBank} (hf : ∀ b, (f b).records.length = b.records.length) :
    (bs.modify k f).map (fun b => b.records.length) = bs.map (fun b => b.records.length) := by
  apply List.ext_getElem
  · simp
  · intro i h1 h2
    simp only [List.getElem_map, List.getElem_modify]
    split <;> simp [hf]

theorem State.quiet_keeps {t : State} : Keeps [.out] t (State.quiet t) := by
  exact ⟨⟨fun a h => by cases a <;> first | rfl | exact absurd (by decide) h, rfl⟩, fun h => { h with }⟩

theorem State.emit_keeps {a1} {t : State} : Keeps [.out] t (State.emit t a1) := by
  exact ⟨⟨fun a h => by cases a <;> first | rfl | exact absurd (by decide) h, rfl⟩, fun h => { h with }⟩

theorem State.modPen_keeps {a1 a2} {t : State} (hf : ∀ p, p.Sound → (a2 p).Sound) : Keeps [.pens] t (State.modPen t a1 a2) := by
  exact ⟨⟨fun a h => by cases a <;> first | rfl | exact absurd (by decide) h, rfl⟩, fun h => { h with
    pens := ⟨by simpa [State.modPen] using h.pens.1, fun p hp => by
      simp only [State.modPen, List.mem_iff_getElem, List.length_modify] at hp
      obtain ⟨i, hi, rfl⟩ := hp
      rw [List.getElem_modify]
      split
      · exact hf _ (h.pens.2 _ (List.getElem_mem _))
      · exact h.pens.2 _ (List.getElem_mem _)⟩ }⟩

theorem State.modPort_keeps {a1 a2} {t : State} : Keeps [.fab] t (State.modPort t a1 a2) := by
  exact ⟨⟨fun a h => by cases a <;> first | rfl | exact absurd (by decide) h, rfl⟩, fun h => { h with fab := by simpa [State.modPort, Fabric.Sound] using h.fab }⟩

theorem State.modStack_keeps {a1 a2} {t : State} : Keeps [.np] t (State.modStack t a1 a2) := by
  exact ⟨⟨fun a h => by cases a <;> first | rfl | exact absurd (by decide) h, rfl⟩, fun h => { h with np := by simpa [State.modStack, NearMem.Sound] using h.np }⟩

theorem State.modTalsen_keeps {a1 a2} {t : State} : Keeps [.talsen] t (State.modTalsen t a1 a2) := by
  exact ⟨⟨fun a h => by cases a <;> first | rfl | exact absurd (by decide) h, rfl⟩, fun h => { h with talsen := by simpa [State.modTalsen] using h.talsen }⟩

theorem State.modFn_keeps {a1 a2} {t : State} : Keeps [.host] t (State.modFn t a1 a2) := by
  exact ⟨⟨fun a h => by cases a <;> first | rfl | exact absurd (by decide) h, rfl⟩, fun h => { h with host := by simpa [State.modFn, HostIf.Sound] using h.host }⟩

theorem State.modSlot_keeps {a1 a2} {t : State} : Keeps [.host] t (State.modSlot t a1 a2) := by
  exact ⟨⟨fun a h => by cases a <;> first | rfl | exact absurd (by decide) h, rfl⟩, fun h => { h with host := by simpa [State.modSlot, HostIf.Sound] using h.host }⟩

theorem State.modFold_keeps {a1 a2} {t : State} : Keeps [.comp] t (State.modFold t a1 a2) := by
  exact ⟨⟨fun a h => by cases a <;> first | rfl | exact absurd (by decide) h, rfl⟩, fun h => { h with comp := by simpa [State.modFold, Compute.Sound] using h.comp }⟩

theorem State.modBoot_keeps {a1} {t : State} (hf : t.Sound → (a1 t.boot).Sound) : Keeps [.boot] t (State.modBoot t a1) := by
  exact ⟨⟨fun a h => by cases a <;> first | rfl | exact absurd (by decide) h, rfl⟩, fun h => { h with boot := hf h }⟩

theorem State.modDog_keeps {a1} {t : State} (hf : t.Sound → (a1 t.dog).Sound) : Keeps [.dog] t (State.modDog t a1) := by
  exact ⟨⟨fun a h => by cases a <;> first | rfl | exact absurd (by decide) h, rfl⟩, fun h => { h with dog := hf h }⟩

theorem State.modNp_keeps {a1} {t : State} (hf : t.Sound → (a1 t.np).Sound) : Keeps [.np] t (State.modNp t a1) := by
  exact ⟨⟨fun a h => by cases a <;> first | rfl | exact absurd (by decide) h, rfl⟩, fun h => { h with np := hf h }⟩

theorem State.modFab_keeps {a1} {t : State} (hf : t.Sound → (a1 t.fab).Sound) : Keeps [.fab] t (State.modFab t a1) := by
  exact ⟨⟨fun a h => by cases a <;> first | rfl | exact absurd (by decide) h, rfl⟩, fun h => { h with fab := hf h }⟩

theorem State.modComp_keeps {a1} {t : State} (hf : t.Sound → (a1 t.comp).Sound) : Keeps [.comp] t (State.modComp t a1) := by
  exact ⟨⟨fun a h => by cases a <;> first | rfl | exact absurd (by decide) h, rfl⟩, fun h => { h with comp := hf h }⟩

theorem State.modQe_keeps {a1} {t : State} : Keeps [.qe] t (State.modQe t a1) := by
  exact ⟨⟨fun a h => by cases a <;> first | rfl | exact absurd (by decide) h, rfl⟩, fun h => { h with }⟩

theorem State.modTime_keeps {a1} {t : State} (hf : t.Sound → (a1 t.time).Sound) : Keeps [.time] t (State.modTime t a1) := by
  exact ⟨⟨fun a h => by cases a <;> first | rfl | exact absurd (by decide) h, rfl⟩, fun h => { h with time := hf h }⟩

theorem State.modCoord_keeps {a1} {t : State} : Keeps [.coord] t (State.modCoord t a1) := by
  exact ⟨⟨fun a h => by cases a <;> first | rfl | exact absurd (by decide) h, rfl⟩, fun h => { h with }⟩

theorem State.modVideo_keeps {a1} {t : State} (hf : t.Sound → (a1 t.video).Sound) : Keeps [.video] t (State.modVideo t a1) := by
  exact ⟨⟨fun a h => by cases a <;> first | rfl | exact absurd (by decide) h, rfl⟩, fun h => { h with video := hf h }⟩

theorem State.modHealth_keeps {a1} {t : State} (hf : t.Sound → (a1 t.health).Sound) : Keeps [.health] t (State.modHealth t a1) := by
  exact ⟨⟨fun a h => by cases a <;> first | rfl | exact absurd (by decide) h, rfl⟩, fun h => { h with health := hf h }⟩

theorem State.modPower_keeps {a1} {t : State} (hf : t.Sound → 4 ≤ (a1 t.health.power).duty ∧ (a1 t.health.power).duty ≤ 16) : Keeps [.health] t (State.modPower t a1) := by
  exact State.modHealth_keeps (fun h => ⟨h.health.1, h.health.2.1, hf h⟩)

theorem State.modDrover_keeps {a1} {t : State} : Keeps [.drover] t (State.modDrover t a1) := by
  exact ⟨⟨fun a h => by cases a <;> first | rfl | exact absurd (by decide) h, rfl⟩, fun h => { h with }⟩

theorem State.modHost_keeps {a1} {t : State} (hf : t.Sound → (a1 t.host).Sound) : Keeps [.host] t (State.modHost t a1) := by
  exact ⟨⟨fun a h => by cases a <;> first | rfl | exact absurd (by decide) h, rfl⟩, fun h => { h with host := hf h }⟩

theorem State.draw_keeps {t : State} : Keeps [.free] t (State.draw t).2 := by
  exact ⟨⟨fun a h => by cases a <;> first | rfl | exact absurd (by decide) h, rfl⟩, fun h => { h with }⟩

theorem State.spend_keeps {a1} {t : State} : Keeps [.free] t (State.spend t a1) := by
  exact ⟨⟨fun a h => by cases a <;> first | rfl | exact absurd (by decide) h, rfl⟩, fun h => { h with }⟩

theorem State.drawBytes_keeps {a1} {t : State} : Keeps [.free] t (State.drawBytes t a1).2 := by
  induction a1 generalizing t with
  | zero => exact Keeps.rfl
  | succ n ih => exact Keeps.trans State.draw_keeps ih

theorem State.count_keeps {a1 a2} {t : State} : Keeps [.health] t (State.count t a1 a2) := by
  exact State.modHealth_keeps (fun h => ⟨h.health.1, by simpa using h.health.2.1, h.health.2.2⟩)

theorem State.raiseVector_keeps {a1 a2} {t : State} : Keeps [.host, .out] t (State.raiseVector t a1 a2) := by
  unfold State.raiseVector
  try dsimp only
  repeat' first
    | with_reducible apply Keeps.rfl | decide | with_reducible apply Keeps.step ?_ State.emit_keeps ?_
    | with_reducible apply Keeps.step ?_ State.modFn_keeps ?_ | split

theorem State.healthEvent_keeps {a1 a2} {t : State} : Keeps [.host, .out] t (State.healthEvent t a1 a2) := by
  unfold State.healthEvent
  try dsimp only
  repeat' first
    | with_reducible apply Keeps.rfl | decide | with_reducible apply Keeps.step ?_ State.modFn_keeps ?_
    | with_reducible apply Keeps.step ?_ State.raiseVector_keeps ?_ | split

theorem State.healthEventAll_keeps {a1} {t : State} : Keeps [.host, .out] t (State.healthEventAll t a1) := by
  unfold State.healthEventAll
  try dsimp only
  repeat' first
    | with_reducible apply Keeps.rfl | decide | with_reducible apply Keeps.step ?_ State.healthEvent_keeps ?_
    | with_reducible apply State.forAll_keeps ?_ (fun u x => ?_) | split

theorem State.setStage_keeps {a1} {t : State} (hn : t.Sound → a1 ≤ 5) : Keeps [.boot, .host, .health, .out] t (State.setStage t a1) := by
  have hp : ∀ (n : Nat) (u : State), Keeps [.health] u (u.modPower (fun p => p.atStage n a1)) := fun n u =>
    State.modPower_keeps (fun h => by
      unfold Power.atStage
      repeat' split
      all_goals first | exact h.health.2.2 | exact ⟨(by decide : 4 ≤ 16), (by decide : 16 ≤ 16)⟩)
  unfold State.setStage
  split
  · exact Keeps.rfl
  · exact Keeps.step (Keeps.step (Keeps.step Keeps.rfl (State.modBoot_keeps (fun h => ⟨hn h, h.boot.2⟩)) (by decide)) (hp _ _) (by decide))
      State.healthEventAll_keeps (by decide)

theorem State.logFault_keeps {a1 a2 a3 a4 a5 a6 a7} {t : State} : Keeps [.host, .health, .out] t (State.logFault t a1 a2 a3 a4 a5 a6 a7) := by
  unfold State.logFault
  try dsimp only
  have hh : t.Sound → ({ t.health with banks := t.health.banks.modify a1 (fun b => b.enter (t.occurrence a2 a3 a4 a5 a6 a7)) } : Health).Sound :=
    fun h => ⟨(banks_modify (fun b => b.enter_length _)).trans h.health.1, h.health.2⟩
  split
  · exact Keeps.step (Keeps.step ((State.modHealth_keeps hh).mono (by decide)) State.count_keeps (by decide)) State.healthEvent_keeps (by decide)
  · exact Keeps.step ((State.modHealth_keeps hh).mono (by decide)) State.count_keeps (by decide)

/-- STAGE, which takes a value from 0 to 5. -/
theorem State.setStage_from {cs : List Area} {s t : State} {n : Nat} (h : Keeps cs s t) (hn : s.Sound → n ≤ 5)
    (hm : Area.sub [.boot, .host, .health, .out] cs = true) : Keeps cs s (t.setStage n) := by
  by_cases k : n ≤ 5
  · exact h.step (State.setStage_keeps (fun _ => k)) hm
  · refine ⟨?_, fun hs => absurd (hn hs) k⟩
    have hb : Only [.boot, .health] t ((t.modBoot (fun b => { b with stage := n })).modPower (fun p => p.atStage t.boot.stage n)) :=
      ⟨fun a h => by cases a <;> first | rfl | exact absurd (by decide) h, rfl⟩
    have ho : Only [.boot, .host, .health, .out] t (t.setStage n) := by
      unfold State.setStage
      split
      · exact Keeps.rfl.only
      · have hk := (State.healthEventAll_keeps (a1 := 0)
          (t := (t.modBoot (fun b => { b with stage := n })).modPower (fun p => p.atStage t.boot.stage n))).only
        exact ⟨fun a ha => Area.same_trans (hb.same a (fun hx => ha (by revert hx; cases a <;> decide)))
          (hk.same a (fun hx => ha (by revert hx; cases a <;> decide))), hk.pending.trans hb.pending⟩
    exact ⟨fun a ha => Area.same_trans (h.only.same a ha) (ho.same a (fun hx => ha (Area.mem_of_sub hm hx))),
      ho.pending.trans h.only.pending⟩

/-! ## Machine/Clock.lean -/

theorem idleTick_keeps {t : State} : Keeps [.time, .out] t (idleTick t) := by
  unfold idleTick
  try dsimp only
  repeat' first
    | with_reducible apply Keeps.rfl | decide | ((with_reducible intro h); apply h.time)
    | with_reducible apply Keeps.step ?_ (State.modTime_keeps ?_) ?_
    | with_reducible apply Keeps.step ?_ State.quiet_keeps ?_ | split | ((with_reducible intro h); exact by simp [TimeUnit.Sound])

/-! ## Machine/NearMem.lean -/

theorem WcSound.nil : WcSound [] := ⟨List.nodup_nil, fun _ h => nomatch h⟩

theorem WcSound.filter {l : List WcEntry} {p : WcEntry → Bool} (h : WcSound l) : WcSound (l.filter p) :=
  ⟨(List.filter_sublist.map _).nodup h.1, fun e he => h.2 e ((List.mem_filter.1 he).1)⟩

theorem maskPut_mem {m : List (Nat × Byte)} {k : Nat} {b : Byte} : ∀ x ∈ maskPut m k b, x.1 = k ∨ x ∈ m := by
  induction m with
  | nil => intro x hx; simp_all [maskPut]
  | cons y r ih =>
    obtain ⟨i, v⟩ := y
    intro x hx
    simp only [maskPut] at hx
    repeat' split at hx
    · rcases List.mem_cons.1 hx with rfl | h
      · exact .inl rfl
      · exact .inr h
    · rcases List.mem_cons.1 hx with rfl | h
      · exact .inl rfl
      · exact .inr (List.mem_cons_of_mem _ h)
    · rcases List.mem_cons.1 hx with rfl | h
      · exact .inr (List.mem_cons_self ..)
      · exact (ih x h).imp id (List.mem_cons_of_mem _)

/-- A mask that takes a byte stays in order. -/
theorem maskPut_sorted {m : List (Nat × Byte)} {k : Nat} {b : Byte} (h : (m.map Prod.fst).Pairwise (· < ·)) :
    ((maskPut m k b).map Prod.fst).Pairwise (· < ·) := by
  induction m with
  | nil => simp [maskPut]
  | cons y r ih =>
    obtain ⟨i, v⟩ := y
    simp only [List.map_cons, List.pairwise_cons, List.mem_map] at h
    obtain ⟨hi, hr⟩ := h
    simp only [maskPut]
    repeat' split
    · rename_i hk
      simp only [List.map_cons, List.pairwise_cons, List.mem_cons, List.mem_map]
      refine ⟨fun z hz => ?_, hi, hr⟩
      rcases hz with rfl | hz
      · exact hk
      · exact Nat.lt_trans hk (hi z hz)
    · rename_i hk
      simp only [List.map_cons, List.pairwise_cons, List.mem_map]
      exact ⟨fun z hz => hk ▸ hi z hz, hr⟩
    · simp only [List.map_cons, List.pairwise_cons, List.mem_map]
      refine ⟨fun z hz => ?_, ih hr⟩
      obtain ⟨x, hx, rfl⟩ := hz
      rcases maskPut_mem x hx with e | e
      · omega
      · exact hi _ ⟨x, e, rfl⟩

theorem maskPutAll_sorted {m : List (Nat × Byte)} {k : Nat} {bs : List Byte} (h : (m.map Prod.fst).Pairwise (· < ·)) :
    ((maskPutAll m k bs).map Prod.fst).Pairwise (· < ·) := by
  induction bs generalizing m k with
  | nil => exact h
  | cons b bs ih => exact ih (maskPut_sorted h)

theorem maskPutAll_lt {m : List (Nat × Byte)} {k n : Nat} {bs : List Byte} (h : ∀ x ∈ m, x.1 < n) (hk : k + bs.length ≤ n) :
    ∀ x ∈ maskPutAll m k bs, x.1 < n := by
  induction bs generalizing m k with
  | nil => exact h
  | cons b bs ih =>
    simp only [List.length_cons] at hk
    refine ih (fun x hx => ?_) (by omega)
    rcases maskPut_mem x hx with e | e
    · omega
    · exact h x e

theorem WcSound.map {l : List WcEntry} {f : WcEntry → WcEntry} (h : WcSound l) (hf : ∀ x ∈ l, (f x).line = x.line)
    (hm : ∀ x ∈ l, ((f x).bytes.map Prod.fst).Pairwise (· < ·) ∧ ∀ y ∈ (f x).bytes, y.1 < 256) : WcSound (l.map f) := by
  refine ⟨?_, fun e he => ?_⟩
  · rw [List.map_map, show l.map (WcEntry.line ∘ f) = l.map WcEntry.line from List.map_congr_left hf]
    exact h.1
  · obtain ⟨x, hx, rfl⟩ := List.mem_map.1 he
    exact ⟨hf x hx ▸ (h.2 x hx).1, hm x hx⟩

theorem WcSound.append {l : List WcEntry} {e : WcEntry} (h : WcSound l) (hn : ∀ x ∈ l, x.line ≠ e.line) (he : e.line % 256 = 0)
    (hm : (e.bytes.map Prod.fst).Pairwise (· < ·)) (hl : ∀ x ∈ e.bytes, x.1 < 256) : WcSound (l ++ [e]) := by
  refine ⟨?_, fun x hx => ?_⟩
  · simp only [List.map_append, List.map_cons, List.map_nil]
    refine List.nodup_append.2 ⟨h.1, by simp, ?_⟩
    intro a ha b hb
    obtain ⟨x, hx, rfl⟩ := List.mem_map.1 ha
    rw [List.mem_singleton] at hb
    exact hb ▸ hn x hx
  · rcases List.mem_append.1 hx with hx | hx
    · exact h.2 x hx
    · rw [List.mem_singleton] at hx
      exact hx ▸ ⟨he, hm, hl⟩

theorem lineOf_mod (a : Nat) : lineOf a % 256 = 0 := Nat.mul_mod_left ..

theorem mask_fits (a : Nat) (bs : List Byte) : a % 256 + (bs.take (256 - a % 256)).length ≤ 256 := by
  have := Nat.mod_lt a (show 0 < 256 by decide)
  rw [List.length_take]
  omega

theorem NearMem.put_sound {n : NearMem} {a : Nat} {bs : List Byte} (h : n.Sound) : (n.put a bs).Sound :=
  ⟨h.1, h.2.1, cellPutAll_wf h.2.2.1, h.2.2.2⟩

/-- Any number of writes. -/
theorem NearMem.putAll_sound {α : Type} {n : NearMem} {l : List α} {at' : NearMem → α → Nat} {bs : NearMem → α → List Byte} (h : n.Sound) :
    (l.foldl (fun m x => m.put (at' m x) (bs m x)) n).Sound := by
  induction l generalizing n with
  | nil => exact h
  | cons x l ih => exact ih (NearMem.put_sound h)

theorem NearMem.loosen_sound {n : NearMem} {lo hi seed : Nat} (h : n.Sound) : (n.loosen lo hi seed).Sound :=
  ⟨h.1, h.2.1, cellsWf_filter h.2.2.1, h.2.2.2.filter⟩

/-- What a write or an accumulate-write that reaches memory leaves of the open entries: all of them. -/
theorem State.npPoisonWrite_wc {s : State} {a : Nat} {c : NpClass} : (s.npPoisonWrite a c).np = s.np :=
  (State.logFault_keeps (t := s)).only.same .np (by decide)

theorem NearMem.putAll_wc {α : Type} {n : NearMem} {l : List α} {at' : NearMem → α → Nat} {bs : NearMem → α → List Byte} :
    (l.foldl (fun m x => m.put (at' m x) (bs m x)) n).wc = n.wc := by
  induction l generalizing n with
  | nil => rfl
  | cons x l ih => exact (ih (n := n.put (at' n x) (bs n x))).trans rfl

theorem NearMem.accPutAll_sound {n : NearMem} {t d : Bool} {a : Nat} {l : List (Option Word × Nat)} (h : n.Sound) :
    (l.foldl (NearMem.accPut t d a) n).Sound := by
  induction l generalizing n with
  | nil => exact h
  | cons y l ih =>
    refine ih ?_
    unfold NearMem.accPut
    split
    · exact h
    · exact NearMem.put_sound h

theorem NearMem.accPutAll_wc {n : NearMem} {t d : Bool} {a : Nat} {l : List (Option Word × Nat)} :
    (l.foldl (NearMem.accPut t d a) n).wc = n.wc := by
  induction l generalizing n with
  | nil => rfl
  | cons y l ih =>
    refine ih.trans ?_
    unfold NearMem.accPut
    split <;> rfl

theorem State.npHold_keeps {a1 a2 a3} {t : State} : Keeps [.np] t (State.npHold t a1 a2 a3) := by
  unfold State.npHold
  try dsimp only
  repeat' first
    | with_reducible apply Keeps.rfl | decide | ((with_reducible intro h); apply h.np) | ((with_reducible intro h); exact NearMem.trained_sound h.np)
    | with_reducible apply Keeps.step ?_ (State.modNp_keeps ?_) ?_ | split
    | ((with_reducible intro h); exact by simpa [NearMem.Sound] using h.np)

theorem State.npLoosen_keeps {a1 a2} {t : State} : Keeps [.np, .free] t (State.npLoosen t a1 a2) := by
  unfold State.npLoosen
  try dsimp only
  repeat' first
    | with_reducible apply Keeps.rfl | decide | ((with_reducible intro h); exact NearMem.loosen_sound h.np) | ((with_reducible intro h); apply h.np)
    | ((with_reducible intro h); exact NearMem.trained_sound h.np) | with_reducible apply Keeps.step ?_ (State.modNp_keeps ?_) ?_
    | with_reducible apply Keeps.step ?_ State.spend_keeps ?_ | split
    | ((with_reducible intro h); exact by simpa [NearMem.Sound] using h.np)

theorem State.npPoison_keeps {a1} {t : State} : Keeps [.np] t (State.npPoison t a1) := by
  unfold State.npPoison
  try dsimp only
  repeat' first
    | with_reducible apply Keeps.rfl | decide | ((with_reducible intro h); apply h.np) | ((with_reducible intro h); exact NearMem.trained_sound h.np)
    | with_reducible apply Keeps.step ?_ (State.modNp_keeps ?_) ?_ | split
    | ((with_reducible intro h); exact by simpa [NearMem.Sound] using h.np)

theorem State.npPoisonWrite_keeps {a1 a2} {t : State} : Keeps [.host, .health, .out] t (State.npPoisonWrite t a1 a2) := by
  unfold State.npPoisonWrite
  try dsimp only
  repeat' first
    | with_reducible apply Keeps.rfl | decide | with_reducible apply Keeps.step ?_ State.logFault_keeps ?_ | split

theorem State.npStore_keeps {a1 a2 a3} {t : State} : Keeps [.host, .np, .health, .out] t (State.npStore t a1 a2 a3) := by
  unfold State.npStore
  dsimp only
  repeat' first
    | with_reducible apply Keeps.rfl | decide | ((with_reducible intro h); exact NearMem.put_sound h.np)
    | with_reducible apply Keeps.step ?_ State.count_keeps ?_ | with_reducible apply Keeps.step ?_ (State.modNp_keeps ?_) ?_
    | with_reducible apply Keeps.step ?_ State.npPoisonWrite_keeps ?_ | split

theorem State.npStoreMasked_keeps {a1 a2} {t : State} : Keeps [.host, .np, .health, .out] t (State.npStoreMasked t a1 a2) := by
  unfold State.npStoreMasked
  repeat' first
    | with_reducible apply Keeps.rfl | decide | ((with_reducible intro h); exact NearMem.putAll_sound h.np)
    | with_reducible apply Keeps.step ?_ State.count_keeps ?_ | with_reducible apply Keeps.step ?_ (State.modNp_keeps ?_) ?_
    | with_reducible apply Keeps.step ?_ State.npStore_keeps ?_
    | with_reducible apply Keeps.step ?_ State.npPoisonWrite_keeps ?_ | split

theorem State.npDrop_keeps {a1} {t : State} : Keeps [.np] t (State.npDrop t a1) := by
  unfold State.npDrop
  try dsimp only
  repeat' first
    | with_reducible apply Keeps.rfl | decide | ((with_reducible intro h); exact ⟨h.np.1, h.np.2.1, h.np.2.2.1, h.np.2.2.2.filter⟩)
    | ((with_reducible intro h); apply h.np) | ((with_reducible intro h); exact NearMem.trained_sound h.np)
    | with_reducible apply Keeps.step ?_ (State.modNp_keeps ?_) ?_ | split
    | ((with_reducible intro h); exact by simpa [NearMem.Sound] using h.np)

theorem State.npAdd_keeps {a1 a2 a3 a4 a5} {t : State} : Keeps [.host, .np, .health, .out] t (State.npAdd t a1 a2 a3 a4 a5) := by
  unfold State.npAdd
  dsimp only
  split
  · exact State.npPoisonWrite_keeps.mono (by decide)
  · exact Keeps.step (Keeps.step ((State.modNp_keeps (fun h => NearMem.accPutAll_sound h.np)).mono (by decide)) State.count_keeps (by decide))
      State.count_keeps (by decide)

theorem State.npApply_keeps {a1} {t : State} : Keeps [.host, .np, .health, .out] t (State.npApply t a1) := by
  unfold State.npApply
  try dsimp only
  repeat' first
    | with_reducible apply Keeps.rfl | decide | with_reducible apply Keeps.step ?_ State.npAdd_keeps ?_
    | with_reducible apply Keeps.step ?_ State.npStore_keeps ?_
    | with_reducible apply Keeps.step ?_ State.npStoreMasked_keeps ?_ | split

theorem State.npSettle_keeps {a1 a2 a3} {t : State} : Keeps [.host, .np, .health, .out] t (State.npSettle t a1 a2 a3) := by
  unfold State.npSettle
  try dsimp only
  repeat' first
    | with_reducible apply Keeps.rfl | decide | ((with_reducible intro h); apply h.np) | ((with_reducible intro h); exact NearMem.trained_sound h.np)
    | with_reducible apply Keeps.step ?_ (State.modNp_keeps ?_) ?_
    | with_reducible apply Keeps.step ?_ State.npApply_keeps ?_
    | with_reducible apply State.forAll_keeps ?_ (fun u x => ?_) | split
    | ((with_reducible intro h); exact by simpa [NearMem.Sound] using h.np)

theorem State.npFlushNow_keeps {a1 a2} {t : State} : Keeps [.host, .np, .health, .out] t (State.npFlushNow t a1 a2) := by
  unfold State.npFlushNow
  try dsimp only
  repeat' first
    | with_reducible apply Keeps.rfl | decide | with_reducible apply Keeps.step ?_ State.npDrop_keeps ?_
    | with_reducible apply Keeps.step ?_ State.npSettle_keeps ?_
    | with_reducible apply Keeps.step ?_ State.npStoreMasked_keeps ?_ | split

theorem State.npFlush_keeps {a1 a2} {t : State} : Keeps [.host, .np, .health, .out] t (State.npFlush t a1 a2) := by
  unfold State.npFlush
  try dsimp only
  repeat' first
    | with_reducible apply Keeps.rfl | decide
    | ((with_reducible intro h); exact ⟨h.np.1, h.np.2.1, h.np.2.2.1, h.np.2.2.2.map (fun x _ => by split <;> rfl) (fun x hx => by have := h.np.2.2.2.2 x hx; split <;> exact this.2)⟩)
    | ((with_reducible intro h); apply h.np) | ((with_reducible intro h); exact NearMem.trained_sound h.np)
    | with_reducible apply Keeps.step ?_ (State.modNp_keeps ?_) ?_
    | with_reducible apply Keeps.step ?_ State.npFlushNow_keeps ?_ | split
    | ((with_reducible intro h); exact by simpa [NearMem.Sound] using h.np)

theorem State.npStore_wc {s : State} {c : NpClass} {a : Nat} {bs : List Byte} : (s.npStore c a bs).np.wc = s.np.wc := by
  unfold State.npStore
  dsimp only
  repeat' split
  · rfl
  · rw [State.npPoisonWrite_wc]
  · rfl

theorem State.npStoreMasked_wc {s : State} {e : WcEntry} {c : NpClass} : (s.npStoreMasked e c).np.wc = s.np.wc := by
  unfold State.npStoreMasked
  repeat' split
  · exact State.npStore_wc
  · rw [State.npPoisonWrite_wc]
  · exact NearMem.putAll_wc

theorem State.npAdd_wc {s : State} {c : NpClass} {t d : Bool} {a : Nat} {ys : List (Option Word)} : (s.npAdd c t d a ys).np.wc = s.np.wc := by
  unfold State.npAdd
  dsimp only
  split
  · rw [State.npPoisonWrite_wc]
  · exact NearMem.accPutAll_wc

theorem State.npApply_wc {s : State} {r : NpReq} : (s.npApply r).np.wc = s.np.wc := by
  unfold State.npApply
  split
  · rfl
  · rfl
  · exact State.npStore_wc
  · exact State.npAdd_wc
  · exact State.npStoreMasked_wc

theorem State.npSettle_wc {s : State} {line n : Nat} {all : Bool} : (s.npSettle line all n).np.wc = s.np.wc := by
  have hf : ∀ (l : List NpReq) (u : State), (u.forAll l State.npApply).np.wc = u.np.wc := by
    intro l
    induction l with
    | nil => exact fun _ => rfl
    | cons r l ih => exact fun u => (ih _).trans State.npApply_wc
  unfold State.npSettle
  dsimp only
  split
  · rfl
  · exact hf _ _

/-- A flush leaves no line that was not there. -/
theorem State.npFlush_lines {s : State} {a : Nat} {c : Option NpClass} :
    ∀ x ∈ (s.npFlush a c).np.wc, ∃ y ∈ s.np.wc, y.line = x.line := by
  intro x hx
  unfold State.npFlush at hx
  split at hx
  · exact ⟨x, hx, rfl⟩
  · split at hx
    · obtain ⟨y, hy, rfl⟩ := List.mem_map.1 hx
      exact ⟨y, hy, by split <;> rfl⟩
    · unfold State.npFlushNow at hx
      split at hx
      · exact ⟨x, hx, rfl⟩
      · rw [State.npStoreMasked_wc, State.npSettle_wc] at hx
        exact ⟨x, (List.mem_filter.1 hx).1, rfl⟩

theorem State.npFlushDue_keeps {t : State} : Keeps [.host, .np, .health, .out] t (State.npFlushDue t) := by
  unfold State.npFlushDue
  try dsimp only
  repeat' first
    | with_reducible apply Keeps.rfl | decide | with_reducible apply Keeps.step ?_ State.npFlush_keeps ?_
    | with_reducible apply State.forAll_keeps ?_ (fun u x => ?_) | split

theorem State.npCombine_keeps {a1 a2 a3 a4} {t : State} : Keeps [.host, .np, .health, .out] t (State.npCombine t a1 a2 a3 a4) := by
  unfold State.npCombine
  dsimp only
  split
  · rename_i e he
    have hin := List.mem_of_find?_eq_some he
    have h1 : ∀ f : WcEntry → WcEntry, (∀ x, (f x).line = x.line) →
        (∀ x, (f x).bytes = if x.line = lineOf a3 then maskPutAll e.bytes (a3 % 256) (a4.take (256 - a3 % 256)) else x.bytes) →
        Keeps [.host, .np, .health, .out] t (t.modNp (fun n => { n with wc := n.wc.map f })) := fun f hl hb =>
      (State.modNp_keeps (fun h => ⟨h.np.1, h.np.2.1, h.np.2.2.1, h.np.2.2.2.map (fun x _ => hl x) (fun x hx => by
        have hs := h.np.2.2.2.2
        rw [hb]
        split
        · exact ⟨maskPutAll_sorted (hs e hin).2.1, maskPutAll_lt (hs e hin).2.2 (mask_fits _ _)⟩
        · exact (hs x hx).2)⟩)).mono (by decide)
    have h2 := h1 (fun x => if x.line = lineOf a3 then { x with bytes := maskPutAll e.bytes (a3 % 256) (a4.take (256 - a3 % 256)), writers := if x.writers.contains a2 = true then x.writers else x.writers ++ [a2] } else x)
      (fun x => by split <;> rfl) (fun x => by split <;> rfl)
    split
    · exact h2.step State.npFlush_keeps (by decide)
    · exact h2
  · rename_i hn
    have hn' : ∀ x ∈ t.np.wc, x.line ≠ lineOf a3 := fun x hx => by simpa using List.find?_eq_none.1 hn x hx
    have key : ∀ u : State, Keeps [.host, .np, .health, .out] t u → (∀ x ∈ u.np.wc, ∃ y ∈ t.np.wc, y.line = x.line) →
        Keeps [.host, .np, .health, .out] t (u.npOpen a1 a2 a3 a4) := by
      intro u hu hw
      refine hu.trans ((State.modNp_keeps (fun h => ⟨h.np.1, h.np.2.1, h.np.2.2.1, h.np.2.2.2.append
        (fun x hx => by obtain ⟨y, hy, e⟩ := hw x hx; exact e ▸ hn' y hy) (lineOf_mod _) (maskPutAll_sorted List.Pairwise.nil)
        (maskPutAll_lt (by simp) (mask_fits _ _))⟩)).mono (by decide))
    split
    · exact key _ Keeps.rfl (fun x h => ⟨x, h, rfl⟩)
    · split
      · exact key _ (State.npFlush_keeps.mono (by decide)) (fun _ h => State.npFlush_lines _ h)
      · exact State.npHold_keeps.mono (by decide)

theorem State.npDirect_keeps {a1 a2 a3 a4} {t : State} : Keeps [.host, .np, .health, .out] t (State.npDirect t a1 a2 a3 a4) := by
  unfold State.npDirect
  try dsimp only
  repeat' first
    | with_reducible apply Keeps.rfl | decide | with_reducible apply Keeps.step ?_ State.npHold_keeps ?_
    | with_reducible apply Keeps.step ?_ State.npSettle_keeps ?_
    | with_reducible apply Keeps.step ?_ State.npStore_keeps ?_ | split

theorem State.npWriteLine_keeps {a1 a2 a3 a4} {t : State} : Keeps [.host, .np, .health, .out] t (State.npWriteLine t a1 a2 a3 a4) := by
  unfold State.npWriteLine
  try dsimp only
  repeat' first
    | with_reducible apply Keeps.rfl | decide | with_reducible apply Keeps.step ?_ State.npCombine_keeps ?_
    | with_reducible apply Keeps.step ?_ State.npDirect_keeps ?_
    | with_reducible apply Keeps.step ?_ State.npDrop_keeps ?_ | split

theorem State.npWrite_keeps {a1 a2 a3 a4} {t : State} : Keeps [.host, .np, .health, .out] t (State.npWrite t a1 a2 a3 a4) := by
  unfold State.npWrite
  try dsimp only
  repeat' first
    | with_reducible apply Keeps.rfl | decide | with_reducible apply Keeps.step ?_ State.npWriteLine_keeps ?_
    | with_reducible apply State.forAll_keeps ?_ (fun u x => ?_) | split

theorem State.npFlushSource_keeps {a1} {t : State} : Keeps [.host, .np, .health, .out] t (State.npFlushSource t a1) := by
  unfold State.npFlushSource
  try dsimp only
  repeat' first
    | with_reducible apply Keeps.rfl | decide | with_reducible apply Keeps.step ?_ State.npFlush_keeps ?_
    | with_reducible apply State.forAll_keeps ?_ (fun u x => ?_) | split

theorem State.npAccNow_keeps {a1 a2 a3 a4 a5} {t : State} : Keeps [.host, .np, .health, .out] t (State.npAccNow t a1 a2 a3 a4 a5) := by
  unfold State.npAccNow
  try dsimp only
  repeat' first
    | with_reducible apply Keeps.rfl | decide | with_reducible apply Keeps.step ?_ State.npAdd_keeps ?_
    | with_reducible apply Keeps.step ?_ State.npFlushNow_keeps ?_
    | with_reducible apply Keeps.step ?_ State.npSettle_keeps ?_ | split

theorem State.npHoldEntry_keeps {a1} {t : State} : Keeps [.np] t (State.npHoldEntry t a1) := by
  unfold State.npHoldEntry
  try dsimp only
  repeat' first
    | with_reducible apply Keeps.rfl | decide | with_reducible apply Keeps.step ?_ State.npDrop_keeps ?_
    | with_reducible apply Keeps.step ?_ State.npHold_keeps ?_ | split

theorem State.npAccLine_keeps {a1 a2 a3 a4 a5 a6} {t : State} : Keeps [.host, .np, .health, .out] t (State.npAccLine t a1 a2 a3 a4 a5 a6) := by
  unfold State.npAccLine
  try dsimp only
  repeat' first
    | with_reducible apply Keeps.rfl | decide | with_reducible apply Keeps.step ?_ State.npAccNow_keeps ?_
    | with_reducible apply Keeps.step ?_ State.npHold_keeps ?_
    | with_reducible apply Keeps.step ?_ State.npHoldEntry_keeps ?_ | split

theorem State.npAcc_keeps {a1 a2 a3 a4 a5 a6} {t : State} : Keeps [.host, .np, .health, .out] t (State.npAcc t a1 a2 a3 a4 a5 a6) := by
  unfold State.npAcc
  try dsimp only
  repeat' first
    | with_reducible apply Keeps.rfl | decide | with_reducible apply Keeps.step ?_ State.npAccLine_keeps ?_
    | with_reducible apply State.forAll_keeps ?_ (fun u x => ?_) | split

theorem State.npServeRead_keeps {a1 a2 a3} {t : State} : Keeps [.host, .np, .health, .out] t (State.npServeRead t a1 a2 a3) := by
  unfold State.npServeRead
  try dsimp only
  repeat' first
    | with_reducible apply Keeps.rfl | decide | with_reducible apply Keeps.step ?_ State.count_keeps ?_
    | with_reducible apply Keeps.step ?_ State.emit_keeps ?_
    | with_reducible apply Keeps.step ?_ State.npFlushNow_keeps ?_ | split

theorem State.npServe_keeps {a1} {t : State} : Keeps [.host, .np, .health, .out] t (State.npServe t a1) := by
  unfold State.npServe
  try dsimp only
  repeat' first
    | with_reducible apply Keeps.rfl | decide | ((with_reducible intro h); apply h.np) | ((with_reducible intro h); exact NearMem.trained_sound h.np)
    | with_reducible apply Keeps.step ?_ (State.modNp_keeps ?_) ?_
    | with_reducible apply Keeps.step ?_ State.npApply_keeps ?_
    | with_reducible apply Keeps.step ?_ State.npServeRead_keeps ?_
    | with_reducible apply Keeps.step ?_ State.npSettle_keeps ?_ | split
    | ((with_reducible intro h); exact by simpa [NearMem.Sound] using h.np)

theorem State.npServeWaiting_keeps {t : State} : Keeps [.host, .np, .health, .out] t (State.npServeWaiting t) := by
  unfold State.npServeWaiting
  try dsimp only
  repeat' first
    | with_reducible apply Keeps.rfl | decide | with_reducible apply Keeps.step ?_ State.npFlushDue_keeps ?_
    | with_reducible apply Keeps.step ?_ State.npServe_keeps ?_
    | with_reducible apply State.forAll_keeps ?_ (fun u x => ?_) | split

theorem State.npRequest_keeps {a1} {t : State} : Keeps [.host, .np, .health, .out] t (State.npRequest t a1) := by
  unfold State.npRequest
  try dsimp only
  repeat' first
    | with_reducible apply Keeps.rfl | decide | with_reducible apply Keeps.step ?_ State.npAcc_keeps ?_
    | with_reducible apply Keeps.step ?_ State.npFlush_keeps ?_
    | with_reducible apply Keeps.step ?_ State.npHold_keeps ?_
    | with_reducible apply Keeps.step ?_ State.npServeRead_keeps ?_
    | with_reducible apply Keeps.step ?_ State.npWrite_keeps ?_ | split

theorem State.penWrite_keeps {a1 a2 a3 a4 a5} {t : State} : Keeps [.host, .np, .health, .out] t (State.penWrite t a1 a2 a3 a4 a5) := by
  unfold State.penWrite
  try dsimp only
  repeat' first
    | with_reducible apply Keeps.rfl | decide | with_reducible apply Keeps.step ?_ State.npWriteLine_keeps ?_
    | with_reducible apply State.forAll_keeps ?_ (fun u x => ?_) | split

theorem State.penLoosen_keeps {a1 a2 a3} {t : State} : Keeps [.np, .free] t (State.penLoosen t a1 a2 a3) := by
  unfold State.penLoosen
  try dsimp only
  repeat' first
    | with_reducible apply Keeps.rfl | decide | with_reducible apply Keeps.step ?_ State.npLoosen_keeps ?_
    | with_reducible apply State.forAll_keeps ?_ (fun u x => ?_) | split

theorem State.penFetch_keeps {a1 a2 a3 a4 a5 a6} {t : State} : Keeps [.host, .np, .health, .out] t (State.penFetch t a1 a2 a3 a4 a5 a6) := by
  unfold State.penFetch
  try dsimp only
  repeat' first
    | with_reducible apply Keeps.rfl | decide | ((with_reducible intro h); apply h.np) | ((with_reducible intro h); exact NearMem.trained_sound h.np)
    | with_reducible apply Keeps.step ?_ (State.modNp_keeps ?_) ?_
    | with_reducible apply Keeps.step ?_ State.npRequest_keeps ?_
    | with_reducible apply State.forAll_keeps ?_ (fun u x => ?_) | split
    | ((with_reducible intro h); exact by simpa [NearMem.Sound] using h.np)

theorem State.penFlush_keeps {a1 a2 a3} {t : State} : Keeps [.host, .np, .health, .out] t (State.penFlush t a1 a2 a3) := by
  unfold State.penFlush
  try dsimp only
  repeat' first
    | with_reducible apply Keeps.rfl | decide | with_reducible apply Keeps.step ?_ State.npFlushNow_keeps ?_
    | with_reducible apply State.forAll_keeps ?_ (fun u x => ?_) | split

theorem State.penAcc_keeps {a1 a2 a3 a4 a5 a6 a7} {t : State} : Keeps [.host, .np, .health, .out] t (State.penAcc t a1 a2 a3 a4 a5 a6 a7) := by
  unfold State.penAcc
  try dsimp only
  repeat' first
    | with_reducible apply Keeps.rfl | decide | with_reducible apply Keeps.step ?_ State.npAccLine_keeps ?_
    | with_reducible apply State.forAll_keeps ?_ (fun u x => ?_) | split

theorem npCommand_keeps {a1 a2} {t : State} : Result.Keeps [.host, .np, .health, .out] t (npCommand t a1 a2) := by
  unfold npCommand
  try dsimp only
  repeat' first
    | with_reducible apply Keeps.rfl | decide | with_reducible apply Result.keeps_done | with_reducible apply Result.keeps_fault
    | with_reducible apply Keeps.step ?_ State.npRequest_keeps ?_
    | with_reducible apply Keeps.step ?_ State.quiet_keeps ?_ | split

theorem execNearPastureRead_keeps {a0 a1 a2 a3} {t : State} : Result.Keeps [.host, .np, .health, .out] t (execNearPastureRead a0 a1 a2 a3 t) := by
  unfold execNearPastureRead
  try dsimp only
  repeat' first
    | with_reducible apply Keeps.rfl | decide | with_reducible apply Result.keeps_done | with_reducible apply Result.keeps_fault
    | exact npCommand_keeps.mono (by decide) | split

theorem execNearPastureWrite_keeps {a0 a1 a2 a3} {t : State} : Result.Keeps [.host, .np, .health, .out] t (execNearPastureWrite a0 a1 a2 a3 t) := by
  unfold execNearPastureWrite
  try dsimp only
  repeat' first
    | with_reducible apply Keeps.rfl | decide | with_reducible apply Result.keeps_done | with_reducible apply Result.keeps_fault
    | exact npCommand_keeps.mono (by decide) | split

theorem execAccumulateWrite_keeps {a0 a1 a2 a3 a4 a5} {t : State} : Result.Keeps [.host, .np, .health, .out] t (execAccumulateWrite a0 a1 a2 a3 a4 a5 t) := by
  unfold execAccumulateWrite
  try dsimp only
  repeat' first
    | with_reducible apply Keeps.rfl | decide | with_reducible apply Result.keeps_done | with_reducible apply Result.keeps_fault
    | exact npCommand_keeps.mono (by decide) | split

theorem execWcAgeFlush_keeps {a0} {t : State} : Result.Keeps [.host, .np, .health, .out] t (execWcAgeFlush a0 t) := by
  unfold execWcAgeFlush
  try dsimp only
  repeat' first
    | with_reducible apply Keeps.rfl | decide | with_reducible apply Result.keeps_done | with_reducible apply Result.keeps_fault
    | with_reducible apply Keeps.step ?_ State.npFlush_keeps ?_
    | with_reducible apply Keeps.step ?_ State.quiet_keeps ?_ | split

theorem execRequestAging_keeps {a0} {t : State} : Result.Keeps [.np, .out] t (execRequestAging a0 t) := by
  unfold execRequestAging
  try dsimp only
  repeat' first
    | with_reducible apply Keeps.rfl | decide | with_reducible apply Result.keeps_done | with_reducible apply Result.keeps_fault
    | ((with_reducible intro h); apply h.np) | ((with_reducible intro h); exact NearMem.trained_sound h.np)
    | with_reducible apply Keeps.step ?_ (State.modNp_keeps ?_) ?_
    | with_reducible apply Keeps.step ?_ State.quiet_keeps ?_ | split
    | ((with_reducible intro h); exact by simpa [NearMem.Sound] using h.np)

theorem execRequestWaitBound_keeps {a0} {t : State} : Result.Keeps [.host, .np, .health, .out] t (execRequestWaitBound a0 t) := by
  unfold execRequestWaitBound
  try dsimp only
  repeat' first
    | with_reducible apply Keeps.rfl | decide | with_reducible apply Result.keeps_done | with_reducible apply Result.keeps_fault
    | ((with_reducible intro h); apply h.np) | ((with_reducible intro h); exact NearMem.trained_sound h.np)
    | with_reducible apply Keeps.step ?_ (State.modNp_keeps ?_) ?_
    | with_reducible apply Keeps.step ?_ State.npServe_keeps ?_
    | with_reducible apply Keeps.step ?_ State.quiet_keeps ?_ | split
    | ((with_reducible intro h); exact by simpa [NearMem.Sound] using h.np)

theorem State.npCorrected_keeps {a1 a2} {t : State} : Keeps [.np] t (State.npCorrected t a1 a2) := by
  unfold State.npCorrected
  try dsimp only
  repeat' first
    | with_reducible apply Keeps.rfl | decide | ((with_reducible intro h); apply h.np) | ((with_reducible intro h); exact NearMem.trained_sound h.np)
    | with_reducible apply Keeps.step ?_ (State.modNp_keeps ?_) ?_ | split
    | ((with_reducible intro h); exact by simpa [NearMem.Sound] using h.np)

theorem State.npCe_keeps {a1} {t : State} : Keeps [.host, .np, .health, .out] t (State.npCe t a1) := by
  unfold State.npCe
  try dsimp only
  repeat' first
    | with_reducible apply Keeps.rfl | decide | with_reducible apply Keeps.step ?_ State.count_keeps ?_
    | with_reducible apply Keeps.step ?_ State.logFault_keeps ?_
    | with_reducible apply Keeps.step ?_ State.npCorrected_keeps ?_ | split

theorem execNpCe_keeps {a0} {t : State} : Result.Keeps [.host, .np, .health, .out] t (execNpCe a0 t) := by
  unfold execNpCe
  try dsimp only
  repeat' first
    | with_reducible apply Keeps.rfl | decide | with_reducible apply Result.keeps_done | with_reducible apply Result.keeps_fault
    | with_reducible apply Keeps.step ?_ State.npCe_keeps ?_ | with_reducible apply Keeps.step ?_ State.quiet_keeps ?_
    | split

theorem execPatrolScrub_keeps {a0 a1} {t : State} : Result.Keeps [.host, .np, .health, .out] t (execPatrolScrub a0 a1 t) := by
  unfold execPatrolScrub
  try dsimp only
  repeat' first
    | with_reducible apply Keeps.rfl | decide | with_reducible apply Result.keeps_done | with_reducible apply Result.keeps_fault
    | with_reducible apply Keeps.step ?_ State.npCe_keeps ?_ | with_reducible apply Keeps.step ?_ State.quiet_keeps ?_
    | with_reducible apply State.forAll_keeps ?_ (fun u x => ?_) | split

theorem execRetrainPeriod_keeps {a0} {t : State} : Result.Keeps [.np, .out] t (execRetrainPeriod a0 t) := by
  unfold execRetrainPeriod
  try dsimp only
  repeat' first
    | with_reducible apply Keeps.rfl | decide | with_reducible apply Result.keeps_done | with_reducible apply Result.keeps_fault
    | ((with_reducible intro h); apply h.np) | ((with_reducible intro h); exact NearMem.trained_sound h.np)
    | with_reducible apply Keeps.step ?_ (State.modNp_keeps ?_) ?_
    | with_reducible apply Keeps.step ?_ State.quiet_keeps ?_ | split
    | ((with_reducible intro h); exact by simpa [NearMem.Sound] using h.np)

theorem execRetrainWindowStart_keeps {t : State} : Result.Keeps [.np, .out] t (execRetrainWindowStart t) := by
  unfold execRetrainWindowStart
  try dsimp only
  repeat' first
    | with_reducible apply Keeps.rfl | decide | with_reducible apply Result.keeps_done | with_reducible apply Result.keeps_fault
    | ((with_reducible intro h); apply h.np) | ((with_reducible intro h); exact NearMem.trained_sound h.np)
    | with_reducible apply Keeps.step ?_ (State.modNp_keeps ?_) ?_
    | with_reducible apply Keeps.step ?_ State.quiet_keeps ?_ | split
    | ((with_reducible intro h); exact by simpa [NearMem.Sound] using h.np)

/-! ## Machine/Packets.lean -/

theorem State.sendIdle_keeps {a1 a2} {t : State} : Keeps [.fab, .out] t (State.sendIdle t a1 a2) := by
  unfold State.sendIdle
  try dsimp only
  repeat' first
    | with_reducible apply Keeps.rfl | decide | with_reducible apply Keeps.step ?_ State.emit_keeps ?_
    | with_reducible apply Keeps.step ?_ State.modPort_keeps ?_ | split

theorem State.sendControl_keeps {a1 a2} {t : State} : Keeps [.fab, .out] t (State.sendControl t a1 a2) := by
  unfold State.sendControl
  try dsimp only
  repeat' first
    | with_reducible apply Keeps.rfl | decide | with_reducible apply Keeps.step ?_ State.emit_keeps ?_
    | with_reducible apply Keeps.step ?_ State.modPort_keeps ?_ | split

theorem State.sendData_keeps {a1 a2 a3 a4} {t : State} : Keeps [.fab, .out] t (State.sendData t a1 a2 a3 a4) := by
  unfold State.sendData
  try dsimp only
  repeat' first
    | with_reducible apply Keeps.rfl | decide | with_reducible apply Keeps.step ?_ State.emit_keeps ?_
    | with_reducible apply Keeps.step ?_ State.modPort_keeps ?_ | split

theorem State.sendHop_keeps {a1 a2 a3} {t : State} : Keeps [.fab, .health] t (State.sendHop t a1 a2 a3) := by
  unfold State.sendHop
  try dsimp only
  repeat' first
    | with_reducible apply Keeps.rfl | decide | ((with_reducible intro h); apply h.fab)
    | with_reducible apply Keeps.step ?_ State.count_keeps ?_
    | with_reducible apply Keeps.step ?_ (State.modFab_keeps ?_) ?_ | split
    | ((with_reducible intro h); exact by simpa [Fabric.Sound] using h.fab)

theorem State.enqueue_keeps {a1} {t : State} : Keeps [.fab] t (State.enqueue t a1) := by
  unfold State.enqueue
  try dsimp only
  repeat' first
    | with_reducible apply Keeps.rfl | decide | ((with_reducible intro h); apply h.fab)
    | with_reducible apply Keeps.step ?_ (State.modFab_keeps ?_) ?_ | split
    | ((with_reducible intro h); exact by simpa [Fabric.Sound] using h.fab)

theorem State.cannotDeliver_keeps {a1 a2} {t : State} : Keeps [.fab, .health] t (State.cannotDeliver t a1 a2) := by
  unfold State.cannotDeliver
  try dsimp only
  repeat' first
    | with_reducible apply Keeps.rfl | decide | with_reducible apply Keeps.step ?_ State.count_keeps ?_
    | with_reducible apply Keeps.step ?_ State.enqueue_keeps ?_ | split

theorem State.inject_keeps {a1} {t : State} : Keeps [.fab, .health] t (State.inject t a1) := by
  unfold State.inject
  try dsimp only
  repeat' first
    | with_reducible apply Keeps.rfl | decide | with_reducible apply Keeps.step ?_ State.cannotDeliver_keeps ?_
    | with_reducible apply Keeps.step ?_ State.enqueue_keeps ?_ | split

theorem State.sendMgmt_keeps {a1 a2 a3 a4} {t : State} : Keeps [.fab, .health] t (State.sendMgmt t a1 a2 a3 a4) := by
  unfold State.sendMgmt
  try dsimp only
  repeat' first
    | with_reducible apply Keeps.rfl | decide | with_reducible apply Keeps.step ?_ State.inject_keeps ?_ | split

theorem State.sendSlow_keeps {a1 a2} {t : State} : Keeps [.fab, .health] t (State.sendSlow t a1 a2) := by
  unfold State.sendSlow
  try dsimp only
  repeat' first
    | with_reducible apply Keeps.rfl | decide | with_reducible apply Keeps.step ?_ State.sendHop_keeps ?_
    | with_reducible apply State.forAll_keeps ?_ (fun u x => ?_) | split

theorem State.takePacket_keeps {a1} {t : State} : Keeps [.fab] t (State.takePacket t a1) := by
  unfold State.takePacket
  try dsimp only
  repeat' first
    | with_reducible apply Keeps.rfl | decide | ((with_reducible intro h); apply h.fab)
    | with_reducible apply Keeps.step ?_ (State.modFab_keeps ?_) ?_ | split
    | ((with_reducible intro h); exact by simpa [Fabric.Sound] using h.fab)

/-! ## Machine/Fabric.lean -/

theorem State.ringChange_keeps {a1 a2 a3} {t : State} : Keeps [.fab, .qe] t (State.ringChange t a1 a2 a3) := by
  unfold State.ringChange
  try dsimp only
  repeat' first
    | with_reducible apply Keeps.rfl | decide | ((with_reducible intro h); apply h.fab)
    | with_reducible apply Keeps.step ?_ (State.modFab_keeps ?_) ?_
    | with_reducible apply Keeps.step ?_ State.modQe_keeps ?_ | split
    | ((with_reducible intro h); exact by simpa [Fabric.Sound] using h.fab)

theorem State.portChange_keeps {a1 a2} {t : State} : Keeps [.fab, .qe, .health] t (State.portChange t a1 a2) := by
  unfold State.portChange
  try dsimp only
  repeat' first
    | with_reducible apply Keeps.rfl | decide | with_reducible apply Keeps.step ?_ State.ringChange_keeps ?_
    | with_reducible apply Keeps.step ?_ State.sendHop_keeps ?_
    | with_reducible apply State.forAll_keeps ?_ (fun u x => ?_) | split

theorem State.lostPart_keeps {a1} {t : State} : Keeps [.fab, .health] t (State.lostPart t a1) := by
  unfold State.lostPart
  try dsimp only
  repeat' first
    | with_reducible apply Keeps.rfl | decide | with_reducible apply Keeps.step ?_ State.cannotDeliver_keeps ?_
    | with_reducible apply Keeps.step ?_ State.count_keeps ?_ | split

theorem State.reportFreed_keeps {a1} {t : State} : Keeps [.fab, .out] t (State.reportFreed t a1) := by
  unfold State.reportFreed
  try dsimp only
  repeat' first
    | with_reducible apply Keeps.rfl | decide | with_reducible apply Keeps.step ?_ State.sendIdle_keeps ?_ | split

theorem State.freePacket_keeps {a1 a2} {t : State} : Keeps [.fab, .out] t (State.freePacket t a1 a2) := by
  unfold State.freePacket
  try dsimp only
  repeat' first
    | with_reducible apply Keeps.rfl | decide | ((with_reducible intro h); apply h.fab)
    | with_reducible apply Keeps.step ?_ (State.modFab_keeps ?_) ?_
    | with_reducible apply Keeps.step ?_ State.modPort_keeps ?_
    | with_reducible apply Keeps.step ?_ State.reportFreed_keeps ?_ | split
    | ((with_reducible intro h); exact by simpa [Fabric.Sound] using h.fab)

theorem State.breakOff_keeps {a1 a2} {t : State} : Keeps [.fab, .health, .out] t (State.breakOff t a1 a2) := by
  unfold State.breakOff
  try dsimp only
  repeat' first
    | with_reducible apply Keeps.rfl | decide | with_reducible apply Keeps.step ?_ State.cannotDeliver_keeps ?_
    | with_reducible apply Keeps.step ?_ State.freePacket_keeps ?_ | split

theorem State.portDown_keeps {a1} {t : State} : Keeps [.host, .fab, .qe, .health, .out] t (State.portDown t a1) := by
  unfold State.portDown
  try dsimp only
  repeat' first
    | with_reducible apply Keeps.rfl | decide | with_reducible apply Keeps.step ?_ State.breakOff_keeps ?_
    | with_reducible apply Keeps.step ?_ State.cannotDeliver_keeps ?_
    | with_reducible apply Keeps.step ?_ State.logFault_keeps ?_
    | with_reducible apply Keeps.step ?_ State.lostPart_keeps ?_
    | with_reducible apply Keeps.step ?_ State.modPort_keeps ?_
    | with_reducible apply Keeps.step ?_ State.portChange_keeps ?_
    | with_reducible apply State.forAll_keeps ?_ (fun u x => ?_) | split

theorem execPortSignalDetect_keeps {a0 a1} {t : State} : Result.Keeps [.fab, .out] t (execPortSignalDetect a0 a1 t) := by
  unfold execPortSignalDetect
  try dsimp only
  repeat' first
    | with_reducible apply Keeps.rfl | decide | with_reducible apply Result.keeps_done | with_reducible apply Result.keeps_fault
    | with_reducible apply Keeps.step ?_ State.modPort_keeps ?_
    | with_reducible apply Keeps.step ?_ State.quiet_keeps ?_ | split

theorem execTrainingFrame_keeps {a0 a1 a2 a3 a4} {t : State} : Result.Keeps [.host, .fab, .health, .out] t (execTrainingFrame a0 a1 a2 a3 a4 t) := by
  unfold execTrainingFrame
  try dsimp only
  repeat' first
    | with_reducible apply Keeps.rfl | decide | with_reducible apply Result.keeps_done | with_reducible apply Result.keeps_fault
    | with_reducible apply Keeps.step ?_ State.logFault_keeps ?_
    | with_reducible apply Keeps.step ?_ State.modPort_keeps ?_
    | with_reducible apply Keeps.step ?_ State.quiet_keeps ?_ | split

theorem execPortUp_keeps {a0 a1 a2 a3} {t : State} : Result.Keeps [.fab, .qe, .health, .out] t (execPortUp a0 a1 a2 a3 t) := by
  unfold execPortUp
  try dsimp only
  repeat' first
    | with_reducible apply Keeps.rfl | decide | with_reducible apply Result.keeps_done | with_reducible apply Result.keeps_fault
    | with_reducible apply Keeps.step ?_ State.modPort_keeps ?_
    | with_reducible apply Keeps.step ?_ State.portChange_keeps ?_
    | with_reducible apply Keeps.step ?_ State.quiet_keeps ?_
    | with_reducible apply Keeps.step ?_ State.sendControl_keeps ?_ | split

theorem execNegotiationTimeout_keeps {a0} {t : State} : Result.Keeps [.fab, .out] t (execNegotiationTimeout a0 t) := by
  unfold execNegotiationTimeout
  try dsimp only
  repeat' first
    | with_reducible apply Keeps.rfl | decide | with_reducible apply Result.keeps_done | with_reducible apply Result.keeps_fault
    | with_reducible apply Keeps.step ?_ State.modPort_keeps ?_
    | with_reducible apply Keeps.step ?_ State.quiet_keeps ?_ | split

theorem execNegotiationRetry_keeps {a0} {t : State} : Result.Keeps [.fab, .out] t (execNegotiationRetry a0 t) := by
  unfold execNegotiationRetry
  try dsimp only
  repeat' first
    | with_reducible apply Keeps.rfl | decide | with_reducible apply Result.keeps_done | with_reducible apply Result.keeps_fault
    | with_reducible apply Keeps.step ?_ State.modPort_keeps ?_
    | with_reducible apply Keeps.step ?_ State.quiet_keeps ?_ | split

theorem State.controlWidth_keeps {a1 a2} {t : State} : Keeps [.fab, .out] t (State.controlWidth t a1 a2) := by
  unfold State.controlWidth
  try dsimp only
  repeat' first
    | with_reducible apply Keeps.rfl | decide | with_reducible apply Keeps.step ?_ State.sendControl_keeps ?_ | split

theorem execLaneNarrowing_keeps {a0 a1} {t : State} : Result.Keeps [.host, .fab, .qe, .health, .out] t (execLaneNarrowing a0 a1 t) := by
  unfold execLaneNarrowing
  try dsimp only
  repeat' first
    | with_reducible apply Keeps.rfl | decide | with_reducible apply Result.keeps_done | with_reducible apply Result.keeps_fault
    | with_reducible apply Keeps.step ?_ State.controlWidth_keeps ?_
    | with_reducible apply Keeps.step ?_ State.modPort_keeps ?_
    | with_reducible apply Keeps.step ?_ State.portDown_keeps ?_
    | with_reducible apply Keeps.step ?_ State.quiet_keeps ?_ | split

theorem execLaneWidening_keeps {a0} {t : State} : Result.Keeps [.fab, .out] t (execLaneWidening a0 t) := by
  unfold execLaneWidening
  try dsimp only
  repeat' first
    | with_reducible apply Keeps.rfl | decide | with_reducible apply Result.keeps_done | with_reducible apply Result.keeps_fault
    | with_reducible apply Keeps.step ?_ State.controlWidth_keeps ?_
    | with_reducible apply Keeps.step ?_ State.modPort_keeps ?_
    | with_reducible apply Keeps.step ?_ State.quiet_keeps ?_ | split

theorem execLossOfSignal_keeps {a0} {t : State} : Result.Keeps [.host, .fab, .qe, .health, .out] t (execLossOfSignal a0 t) := by
  unfold execLossOfSignal
  try dsimp only
  repeat' first
    | with_reducible apply Keeps.rfl | decide | with_reducible apply Result.keeps_done | with_reducible apply Result.keeps_fault
    | with_reducible apply Keeps.step ?_ State.modPort_keeps ?_
    | with_reducible apply Keeps.step ?_ State.portDown_keeps ?_
    | with_reducible apply Keeps.step ?_ State.quiet_keeps ?_ | split

theorem execValidFlitTimeout_keeps {a0} {t : State} : Result.Keeps [.host, .fab, .qe, .health, .out] t (execValidFlitTimeout a0 t) := by
  unfold execValidFlitTimeout
  try dsimp only
  repeat' first
    | with_reducible apply Keeps.rfl | decide | with_reducible apply Result.keeps_done | with_reducible apply Result.keeps_fault
    | with_reducible apply Keeps.step ?_ State.portDown_keeps ?_
    | with_reducible apply Keeps.step ?_ State.quiet_keeps ?_ | split

theorem State.replayAll_keeps {a1} {t : State} : Keeps [.host, .fab, .qe, .health, .out] t (State.replayAll t a1) := by
  unfold State.replayAll
  try dsimp only
  repeat' first
    | with_reducible apply Keeps.rfl | decide | with_reducible apply Keeps.step ?_ State.count_keeps ?_
    | with_reducible apply Keeps.step ?_ State.emit_keeps ?_
    | with_reducible apply Keeps.step ?_ State.modPort_keeps ?_
    | with_reducible apply Keeps.step ?_ State.portDown_keeps ?_
    | with_reducible apply State.forAll_keeps ?_ (fun u x => ?_) | split

theorem State.sendNak_keeps {a1} {t : State} : Keeps [.fab, .out] t (State.sendNak t a1) := by
  unfold State.sendNak
  try dsimp only
  repeat' first
    | with_reducible apply Keeps.rfl | decide | with_reducible apply Keeps.step ?_ State.modPort_keeps ?_
    | with_reducible apply Keeps.step ?_ State.sendIdle_keeps ?_ | split

theorem State.hear_keeps {a1 a2} {t : State} : Keeps [.host, .fab, .qe, .health, .out] t (State.hear t a1 a2) := by
  unfold State.hear
  try dsimp only
  repeat' first
    | with_reducible apply Keeps.rfl | decide | with_reducible apply Keeps.step ?_ State.modPort_keeps ?_
    | with_reducible apply Keeps.step ?_ State.replayAll_keeps ?_ | split

theorem State.dataFlit_keeps {a1 a2} {t : State} : Keeps [.host, .fab, .qe, .health, .out] t (State.dataFlit t a1 a2) := by
  unfold State.dataFlit
  try dsimp only
  repeat' first
    | with_reducible apply Keeps.rfl | decide | with_reducible apply Keeps.step ?_ State.hear_keeps ?_
    | with_reducible apply Keeps.step ?_ State.modPort_keeps ?_
    | with_reducible apply Keeps.step ?_ State.sendIdle_keeps ?_
    | with_reducible apply Keeps.step ?_ State.sendNak_keeps ?_ | split

theorem State.idleFlit_keeps {a1 a2} {t : State} : Keeps [.host, .fab, .qe, .health, .out] t (State.idleFlit t a1 a2) := by
  unfold State.idleFlit
  try dsimp only
  repeat' first
    | with_reducible apply Keeps.rfl | decide | with_reducible apply Keeps.step ?_ State.hear_keeps ?_
    | with_reducible apply Keeps.step ?_ State.modPort_keeps ?_
    | with_reducible apply Keeps.step ?_ State.sendNak_keeps ?_ | split

theorem execFlit_keeps {a0 a1} {t : State} : Result.Keeps [.host, .fab, .qe, .health, .out] t (execFlit a0 a1 t) := by
  unfold execFlit
  try dsimp only
  repeat' first
    | with_reducible apply Keeps.rfl | decide | with_reducible apply Result.keeps_done | with_reducible apply Result.keeps_fault
    | with_reducible apply Keeps.step ?_ State.dataFlit_keeps ?_
    | with_reducible apply Keeps.step ?_ State.idleFlit_keeps ?_
    | with_reducible apply Keeps.step ?_ State.quiet_keeps ?_
    | with_reducible apply Keeps.step ?_ State.sendNak_keeps ?_ | split

theorem State.sendFlit_keeps {a1 a2 a3} {t : State} : Keeps [.fab, .health, .out] t (State.sendFlit t a1 a2 a3) := by
  unfold State.sendFlit
  try dsimp only
  repeat' first
    | with_reducible apply Keeps.rfl | decide | with_reducible apply Keeps.step ?_ State.count_keeps ?_
    | with_reducible apply Keeps.step ?_ State.freePacket_keeps ?_
    | with_reducible apply Keeps.step ?_ State.modPort_keeps ?_
    | with_reducible apply Keeps.step ?_ State.sendData_keeps ?_ | split

theorem execPacket_keeps {a0 a1} {t : State} : Result.Keeps [.fab, .health, .out] t (execPacket a0 a1 t) := by
  unfold execPacket
  try dsimp only
  repeat' first
    | with_reducible apply Keeps.rfl | decide | with_reducible apply Result.keeps_done | with_reducible apply Result.keeps_fault
    | ((with_reducible intro h); apply h.fab) | with_reducible apply Keeps.step ?_ State.cannotDeliver_keeps ?_
    | with_reducible apply Keeps.step ?_ State.count_keeps ?_
    | with_reducible apply Keeps.step ?_ State.freePacket_keeps ?_
    | with_reducible apply Keeps.step ?_ (State.modFab_keeps ?_) ?_
    | with_reducible apply Keeps.step ?_ State.modPort_keeps ?_
    | with_reducible apply Keeps.step ?_ State.quiet_keeps ?_
    | with_reducible apply Keeps.step ?_ State.sendFlit_keeps ?_ | split
    | ((with_reducible intro h); exact by simpa [Fabric.Sound] using h.fab)

theorem execRingNotice_keeps {t : State} : Result.Keeps [.fab, .qe, .health, .out] t (execRingNotice t) := by
  unfold execRingNotice
  try dsimp only
  repeat' first
    | with_reducible apply Keeps.rfl | decide | with_reducible apply Result.keeps_done | with_reducible apply Result.keeps_fault
    | with_reducible apply Keeps.step ?_ State.quiet_keeps ?_
    | with_reducible apply Keeps.step ?_ State.ringChange_keeps ?_
    | with_reducible apply Keeps.step ?_ State.sendHop_keeps ?_
    | with_reducible apply Keeps.step ?_ State.takePacket_keeps ?_
    | with_reducible apply State.forAll_keeps ?_ (fun u x => ?_) | split

/-! ## Machine/Queue.lean -/

theorem State.modQueue_keeps {a1 a2} {t : State} : Keeps [.qe] t (State.modQueue t a1 a2) := by
  unfold State.modQueue
  try dsimp only
  repeat' first
    | with_reducible apply Keeps.rfl | decide | with_reducible apply Keeps.step ?_ State.modQe_keeps ?_ | split

theorem State.logQueueEvent_keeps {a1 a2} {t : State} : Keeps [.host, .health, .out] t (State.logQueueEvent t a1 a2) := by
  unfold State.logQueueEvent
  try dsimp only
  repeat' first
    | with_reducible apply Keeps.rfl | decide | with_reducible apply Keeps.step ?_ State.logFault_keeps ?_ | split

theorem State.putCpl_keeps {a1 a2} {t : State} : Keeps [.host, .np, .qe, .health, .out] t (State.putCpl t a1 a2) := by
  unfold State.putCpl
  try dsimp only
  repeat' first
    | with_reducible apply Keeps.rfl | decide | with_reducible apply Keeps.step ?_ State.emit_keeps ?_
    | with_reducible apply Keeps.step ?_ State.logQueueEvent_keeps ?_
    | with_reducible apply Keeps.step ?_ State.modQueue_keeps ?_
    | with_reducible apply Keeps.step ?_ State.penWrite_keeps ?_
    | with_reducible apply Keeps.step ?_ State.raiseVector_keeps ?_ | split

theorem State.cpl_keeps {a1 a2 a3 a4} {t : State} : Keeps [.host, .np, .qe, .health, .out] t (State.cpl t a1 a2 a3 a4) := by
  unfold State.cpl
  try dsimp only
  repeat' first
    | with_reducible apply Keeps.rfl | decide | with_reducible apply Keeps.step ?_ State.modQueue_keeps ?_
    | with_reducible apply Keeps.step ?_ State.putCpl_keeps ?_ | split

theorem State.drainCpl_keeps {a1 a2} {t : State} : Keeps [.host, .np, .qe, .health, .out] t (State.drainCpl t a1 a2) := by
  fun_induction State.drainCpl t a1 a2
  all_goals try dsimp only
  all_goals
    repeat' first
      | refine Keeps.trans ?_ (by assumption) | assumption | with_reducible apply Keeps.rfl | decide
      | with_reducible apply Keeps.step ?_ State.modQueue_keeps ?_
      | with_reducible apply Keeps.step ?_ State.putCpl_keeps ?_ | split

theorem State.queueEvent_keeps {a1 a2} {t : State} : Keeps [.host, .np, .qe, .health, .out] t (State.queueEvent t a1 a2) := by
  unfold State.queueEvent
  try dsimp only
  repeat' first
    | with_reducible apply Keeps.rfl | decide | with_reducible apply Keeps.step ?_ State.cpl_keeps ?_
    | with_reducible apply Keeps.step ?_ State.logQueueEvent_keeps ?_ | split

theorem State.haltEvent_keeps {a1 a2} {t : State} : Keeps [.host, .np, .qe, .health, .out] t (State.haltEvent t a1 a2) := by
  unfold State.haltEvent
  try dsimp only
  repeat' first
    | with_reducible apply Keeps.rfl | decide | with_reducible apply Keeps.step ?_ State.modQueue_keeps ?_
    | with_reducible apply Keeps.step ?_ State.queueEvent_keeps ?_ | split

theorem State.takeEntry_keeps {a1 a2} {t : State} : Keeps [.qe, .health] t (State.takeEntry t a1 a2) := by
  unfold State.takeEntry
  try dsimp only
  repeat' first
    | with_reducible apply Keeps.rfl | decide | with_reducible apply Keeps.step ?_ State.count_keeps ?_
    | with_reducible apply Keeps.step ?_ State.modQueue_keeps ?_ | split

theorem State.doorbell_keeps {a1 a2 a3} {t : State} : Keeps [.host, .np, .qe, .health, .out] t (State.doorbell t a1 a2 a3) := by
  unfold State.doorbell
  try dsimp only
  repeat' first
    | with_reducible apply Keeps.rfl | decide | with_reducible apply Keeps.step ?_ State.drainCpl_keeps ?_
    | with_reducible apply Keeps.step ?_ State.haltEvent_keeps ?_
    | with_reducible apply Keeps.step ?_ State.logFault_keeps ?_
    | with_reducible apply Keeps.step ?_ State.modQueue_keeps ?_
    | with_reducible apply Keeps.step ?_ State.queueEvent_keeps ?_ | split

theorem execDoorbellAdd_keeps {a0 a1 a2} {t : State} : Result.Keeps [.host, .np, .qe, .health, .out] t (execDoorbellAdd a0 a1 a2 t) := by
  unfold execDoorbellAdd
  try dsimp only
  repeat' first
    | with_reducible apply Keeps.rfl | decide | with_reducible apply Result.keeps_done | with_reducible apply Result.keeps_fault
    | with_reducible apply Keeps.step ?_ State.doorbell_keeps ?_
    | with_reducible apply Keeps.step ?_ State.quiet_keeps ?_ | split

theorem execDoorbellRestart_keeps {a0 a1 a2} {t : State} : Result.Keeps [.host, .np, .qe, .health, .out] t (execDoorbellRestart a0 a1 a2 t) := by
  unfold execDoorbellRestart
  try dsimp only
  repeat' first
    | with_reducible apply Keeps.rfl | decide | with_reducible apply Result.keeps_done | with_reducible apply Result.keeps_fault
    | with_reducible apply Keeps.step ?_ State.doorbell_keeps ?_
    | with_reducible apply Keeps.step ?_ State.quiet_keeps ?_ | split

theorem State.closeStream_keeps {a1 a2} {t : State} : Keeps [.video] t (State.closeStream t a1 a2) := by
  unfold State.closeStream
  try dsimp only
  repeat' first
    | with_reducible apply Keeps.rfl | decide | ((with_reducible intro h); apply h.video)
    | with_reducible apply Keeps.step ?_ (State.modVideo_keeps ?_) ?_ | split
    | ((with_reducible intro h); exact by simpa [Video.Sound] using h.video)

theorem State.closeStreamsOf_keeps {a1} {t : State} : Keeps [.video] t (State.closeStreamsOf t a1) := by
  unfold State.closeStreamsOf
  try dsimp only
  repeat' first
    | with_reducible apply Keeps.rfl | decide | with_reducible apply Keeps.step ?_ State.closeStream_keeps ?_
    | with_reducible apply State.forAll_keeps ?_ (fun u x => ?_) | split

theorem State.sweepQueues_keeps {t : State} : Keeps [.qe] t (State.sweepQueues t) := by
  unfold State.sweepQueues
  try dsimp only
  repeat' first
    | with_reducible apply Keeps.rfl | decide | with_reducible apply Keeps.step ?_ State.modQe_keeps ?_ | split

theorem State.dropVideoSignals_keeps {a1} {t : State} : Keeps [.video] t (State.dropVideoSignals t a1) := by
  unfold State.dropVideoSignals
  try dsimp only
  repeat' first
    | with_reducible apply Keeps.rfl | decide | ((with_reducible intro h); apply h.video)
    | with_reducible apply Keeps.step ?_ (State.modVideo_keeps ?_) ?_ | split
    | ((with_reducible intro h); exact by simpa [Video.Sound] using h.video)

theorem State.freePenQueues_keeps {a1} {t : State} : Keeps [.qe, .video] t (State.freePenQueues t a1) := by
  unfold State.freePenQueues
  try dsimp only
  repeat' first
    | with_reducible apply Keeps.rfl | decide | with_reducible apply Keeps.step ?_ State.closeStreamsOf_keeps ?_
    | with_reducible apply Keeps.step ?_ State.dropVideoSignals_keeps ?_
    | with_reducible apply Keeps.step ?_ State.modQe_keeps ?_
    | with_reducible apply Keeps.step ?_ State.sweepQueues_keeps ?_ | split

theorem State.addCounter_keeps {a1 a2 a3} {t : State} : Keeps [.pens] t (State.addCounter t a1 a2 a3) := by
  exact State.modPen_keeps (fun _ k => cellPut_wf k)

/-! ## Machine/Operands.lean -/

theorem State.modTensor_keeps {a1 a2} {t : State} : Keeps [.pens] t (State.modTensor t a1 a2) := by
  unfold State.modTensor
  try dsimp only
  repeat' first
    | with_reducible apply Keeps.rfl | decide | ((with_reducible intro _ k); exact k) | ((with_reducible intro _ _); exact (by rfl))
    | ((with_reducible intro _ k); exact (by split <;> exact k)) | ((with_reducible intro _ k); exact Pen.adopt_sound k)
    | with_reducible apply Keeps.step ?_ (State.modPen_keeps ?_) ?_ | split

/-! ## Machine/Residence.lean -/

theorem State.mapRoom_keeps {a1 a2} {t : State} : Keeps [.pens] t (State.mapRoom t a1 a2) := by
  unfold State.mapRoom
  try dsimp only
  repeat' first
    | with_reducible apply Keeps.rfl | decide | ((with_reducible intro _ k); exact k) | ((with_reducible intro _ _); exact (by rfl))
    | ((with_reducible intro _ k); exact (by split <;> exact k)) | ((with_reducible intro _ k); exact Pen.adopt_sound k)
    | with_reducible apply Keeps.step ?_ (State.modPen_keeps ?_) ?_ | split

theorem State.pagesAs_keeps {a1} {v : State} {t : State} : Keeps [.pens] t (State.pagesAs t a1 v) :=
  State.modPen_keeps (fun _ k => k)

theorem State.zeroGaps_keeps {a1 a2} {t : State} : Keeps [.host, .pens, .np, .health, .out] t (State.zeroGaps t a1 a2) := by
  unfold State.zeroGaps
  dsimp only
  split
  · exact Keeps.rfl
  · exact Keeps.step (State.forAll_keeps (State.mapRoom_keeps.mono (by decide)) (fun u x => State.penWrite_keeps.mono (by decide)))
      State.pagesAs_keeps (by decide)

theorem State.loosenRoom_keeps {a1 a2} {t : State} : Keeps [.np, .free] t (State.loosenRoom t a1 a2) := by
  unfold State.loosenRoom
  try dsimp only
  repeat' first
    | with_reducible apply Keeps.rfl | decide | with_reducible apply Keeps.step ?_ State.npLoosen_keeps ?_
    | with_reducible apply State.forAll_keeps ?_ (fun u x => ?_) | split

theorem State.giveRoom_keeps {a1 a2 a3} {t : State} : Keeps [.host, .pens, .drover, .np, .health, .out, .free] t (State.giveRoom t a1 a2 a3) := by
  unfold State.giveRoom
  try dsimp only
  repeat' first
    | with_reducible apply Keeps.rfl | decide | with_reducible apply Keeps.step ?_ State.loosenRoom_keeps ?_
    | with_reducible apply Keeps.step ?_ State.modDrover_keeps ?_
    | with_reducible apply Keeps.step ?_ State.modTensor_keeps ?_
    | with_reducible apply Keeps.step ?_ State.zeroGaps_keeps ?_ | split

theorem State.takeRoom_keeps {a1 a2} {t u : State} (h : State.takeRoom t a1 a2 = some u) : Keeps [.host, .pens, .drover, .np, .health, .out, .free] t u := by
  unfold State.takeRoom at h
  split at h
  · exact Option.some.inj h ▸ Keeps.rfl
  · obtain ⟨ps, -, rfl⟩ := Option.map_eq_some_iff.1 h
    exact State.giveRoom_keeps.mono (by decide)

theorem State.freeRoom_keeps {a1 a2} {t : State} : Keeps [.pens, .drover] t (State.freeRoom t a1 a2) := by
  unfold State.freeRoom
  try dsimp only
  repeat' first
    | with_reducible apply Keeps.rfl | decide | ((with_reducible intro _ k); exact k) | ((with_reducible intro _ _); exact (by rfl))
    | ((with_reducible intro _ k); exact (by split <;> exact k)) | ((with_reducible intro _ k); exact Pen.adopt_sound k)
    | with_reducible apply Keeps.step ?_ State.modDrover_keeps ?_
    | with_reducible apply Keeps.step ?_ (State.modPen_keeps ?_) ?_
    | with_reducible apply Keeps.step ?_ State.modTensor_keeps ?_ | split

theorem State.freeIdleRoom_keeps {a1 a2} {t : State} : Keeps [.pens, .drover] t (State.freeIdleRoom t a1 a2) := by
  unfold State.freeIdleRoom
  try dsimp only
  repeat' first
    | with_reducible apply Keeps.rfl | decide | with_reducible apply Keeps.step ?_ State.freeRoom_keeps ?_ | split

theorem State.touchTable_keeps {a1 a2 a3} {t : State} : Keeps [.pens] t (State.touchTable t a1 a2 a3) := by
  unfold State.touchTable
  try dsimp only
  repeat' first
    | with_reducible apply Keeps.rfl | decide | with_reducible apply Keeps.step ?_ State.modTensor_keeps ?_ | split

theorem State.unstage_keeps {a1} {t : State} : Keeps [.comp] t (State.unstage t a1) := by
  unfold State.unstage
  try dsimp only
  repeat' first
    | with_reducible apply Keeps.rfl | decide | ((with_reducible intro h); apply h.comp) | ((with_reducible intro h); exact ⟨rebuildFolds_length, h.comp.2⟩)
    | ((with_reducible intro h); exact ⟨rebuildFolds_length, rebuildSlots_length⟩)
    | with_reducible apply Keeps.step ?_ (State.modComp_keeps ?_) ?_ | split
    | ((with_reducible intro h); exact by simpa [Compute.Sound] using h.comp)

theorem State.dropNear_keeps {a1 a2} {t : State} : Keeps [.comp, .pens, .drover] t (State.dropNear t a1 a2) := by
  unfold State.dropNear
  try dsimp only
  repeat' first
    | with_reducible apply Keeps.rfl | decide | with_reducible apply Keeps.step ?_ State.freeRoom_keeps ?_
    | with_reducible apply Keeps.step ?_ State.modTensor_keeps ?_
    | with_reducible apply Keeps.step ?_ State.unstage_keeps ?_ | split

theorem State.freeCopies_keeps {a1 a2} {t : State} : Keeps [.comp, .pens, .drover] t (State.freeCopies t a1 a2) := by
  unfold State.freeCopies
  try dsimp only
  repeat' first
    | with_reducible apply Keeps.rfl | decide | with_reducible apply Keeps.step ?_ State.freeRoom_keeps ?_
    | with_reducible apply Keeps.step ?_ State.modTensor_keeps ?_
    | with_reducible apply Keeps.step ?_ State.unstage_keeps ?_ | split

theorem State.becomeNear_keeps {a1 a2 a3} {t : State} : Keeps [.pens] t (State.becomeNear t a1 a2 a3) := by
  unfold State.becomeNear
  try dsimp only
  repeat' first
    | with_reducible apply Keeps.rfl | decide | with_reducible apply Keeps.step ?_ State.mapRoom_keeps ?_
    | with_reducible apply Keeps.step ?_ State.modTensor_keeps ?_ | split

theorem State.useTensor_keeps {a1} {t : State} : Keeps [.pens] t (State.useTensor t a1) := by
  unfold State.useTensor
  try dsimp only
  repeat' first
    | with_reducible apply Keeps.rfl | decide | with_reducible apply Keeps.step ?_ State.modTensor_keeps ?_ | split

/-! ## Machine/Mailbox.lean -/

theorem State.takeGo_keeps {a1} {t : State} : Keeps [.host, .health] t (State.takeGo t a1) := by
  unfold State.takeGo
  try dsimp only
  repeat' first
    | with_reducible apply Keeps.rfl | decide | ((with_reducible intro h); apply h.host) | ((with_reducible intro h); exact ⟨rfl, h.host.2⟩)
    | ((with_reducible intro h); exact ⟨h.host.1, rfl⟩) | with_reducible apply Keeps.step ?_ State.count_keeps ?_
    | with_reducible apply Keeps.step ?_ (State.modHost_keeps ?_) ?_
    | with_reducible apply Keeps.step ?_ State.modSlot_keeps ?_ | split
    | ((with_reducible intro h); exact by simpa [HostIf.Sound] using h.host)

theorem State.answer_keeps {a1 a2 a3} {t : State} : Keeps [.host, .out] t (State.answer t a1 a2 a3) := by
  unfold State.answer
  try dsimp only
  repeat' first
    | with_reducible apply Keeps.rfl | decide | with_reducible apply Keeps.step ?_ State.modSlot_keeps ?_
    | with_reducible apply Keeps.step ?_ State.raiseVector_keeps ?_ | split

theorem State.refuseDue_keeps {a1} {t : State} : Keeps [.host, .health, .out] t (State.refuseDue t a1) := by
  induction a1 generalizing t with
  | zero => exact Keeps.rfl
  | succ n ih =>
    unfold State.refuseDue
    repeat' split
    all_goals first
      | with_reducible apply Keeps.rfl
      | exact Keeps.trans (Keeps.step (State.takeGo_keeps.mono (by decide)) State.answer_keeps (by decide)) ih

theorem State.settleRound_keeps {t : State} : Keeps [.host, .health, .out] t (State.settleRound t) := by
  unfold State.settleRound
  try dsimp only
  repeat' first
    | with_reducible apply Keeps.rfl | decide | with_reducible apply Keeps.step ?_ State.refuseDue_keeps ?_ | split

theorem State.serve_keeps {a1 a2 a3 cs body} {t : State} (hb : ∀ r u, Keeps cs u (body r u).state)
    (hm : Area.sub [.host, .health, .out] cs = true) : Keeps cs t (State.serve t a1 a2 a3 body) := by
  have ha : ∀ (u : State) i st p, Keeps cs u (u.answer i st p) := fun u i st p =>
    Keeps.mono (Keeps.mono State.answer_keeps (b := [.host, .health, .out]) (by decide)) hm
  have ht : ∀ (u : State) i, Keeps cs u (u.takeGo i) := fun u i =>
    Keeps.mono (Keeps.mono State.takeGo_keeps (b := [.host, .health, .out]) (by decide)) hm
  unfold State.serve
  simp only
  split
  · refine Keeps.trans ?_ (State.settleRound_keeps.mono hm)
    split
    · exact (ht _ _).trans (ha _ _ _ _)
    · have hu := hb { fn := a1.val, slot := slotIndex a1 a2, pay := List.drop 8 (t.slotAt (slotIndex a1 a2)).request }
        (t.takeGo (slotIndex a1 a2))
      split
      · rename_i r u st p hr
        rw [hr] at hu
        exact (ht _ _).trans (Keeps.trans hu (ha u _ _ _))
      · rename_i r u hr
        rw [hr] at hu
        exact (ht _ _).trans hu
  · exact Keeps.rfl

theorem State.answerPen_keeps {a1 a2 a3} {t : State} : Keeps [.host, .out] t (State.answerPen t a1 a2 a3) := by
  unfold State.answerPen
  try dsimp only
  repeat' first
    | with_reducible apply Keeps.rfl | decide | with_reducible apply Keeps.step ?_ State.answer_keeps ?_
    | with_reducible apply State.forAll_keeps ?_ (fun u x => ?_) | split

theorem State.answerBusy_keeps {t : State} : Keeps [.host, .out] t (State.answerBusy t) := by
  unfold State.answerBusy
  try dsimp only
  repeat' first
    | with_reducible apply Keeps.rfl | decide | with_reducible apply Keeps.step ?_ State.answer_keeps ?_
    | with_reducible apply State.forAll_keeps ?_ (fun u x => ?_) | split

theorem State.mbGo_keeps {a1 a2} {t : State} : Keeps [.host, .health, .out] t (State.mbGo t a1 a2) := by
  unfold State.mbGo
  try dsimp only
  repeat' first
    | with_reducible apply Keeps.rfl | decide | with_reducible apply Keeps.step ?_ State.modSlot_keeps ?_
    | with_reducible apply Keeps.step ?_ State.settleRound_keeps ?_ | split

theorem State.mbAbort_keeps {a1} {t : State} : Keeps [.host, .health, .out] t (State.mbAbort t a1) := by
  unfold State.mbAbort
  try dsimp only
  repeat' first
    | with_reducible apply Keeps.rfl | decide | with_reducible apply Keeps.step ?_ State.modSlot_keeps ?_
    | with_reducible apply Keeps.step ?_ State.settleRound_keeps ?_ | split

theorem execMbCtrlGo_keeps {a0 a1 a2} {t : State} : Result.Keeps [.host, .health, .out] t (execMbCtrlGo a0 a1 a2 t) := by
  unfold execMbCtrlGo
  try dsimp only
  repeat' first
    | with_reducible apply Keeps.rfl | decide | with_reducible apply Result.keeps_done | with_reducible apply Result.keeps_fault
    | with_reducible apply Keeps.step ?_ State.mbGo_keeps ?_ | with_reducible apply Keeps.step ?_ State.quiet_keeps ?_
    | split

theorem execMbCtrlAbort_keeps {a0 a1} {t : State} : Result.Keeps [.host, .health, .out] t (execMbCtrlAbort a0 a1 t) := by
  unfold execMbCtrlAbort
  try dsimp only
  repeat' first
    | with_reducible apply Keeps.rfl | decide | with_reducible apply Result.keeps_done | with_reducible apply Result.keeps_fault
    | with_reducible apply Keeps.step ?_ State.mbAbort_keeps ?_
    | with_reducible apply Keeps.step ?_ State.quiet_keeps ?_ | split

theorem State.freeBasePages_keeps {a1} {t : State} : Keeps [.drover] t (State.freeBasePages t a1) := by
  unfold State.freeBasePages
  try dsimp only
  repeat' first
    | with_reducible apply Keeps.rfl | decide | with_reducible apply Keeps.step ?_ State.modDrover_keeps ?_ | split

theorem State.abandonBase_keeps {a1} {t : State} : Keeps [.drover] t (State.abandonBase t a1) := by
  unfold State.abandonBase
  try dsimp only
  repeat' first
    | with_reducible apply Keeps.rfl | decide | with_reducible apply Keeps.step ?_ State.freeBasePages_keeps ?_
    | with_reducible apply Keeps.step ?_ State.modDrover_keeps ?_
    | with_reducible apply State.forAll_keeps ?_ (fun u x => ?_) | split

theorem State.answerBase_keeps {a1 a2 a3} {t : State} : Keeps [.host, .out] t (State.answerBase t a1 a2 a3) := by
  unfold State.answerBase
  try dsimp only
  repeat' first
    | with_reducible apply Keeps.rfl | decide | with_reducible apply Keeps.step ?_ State.answer_keeps ?_
    | with_reducible apply State.forAll_keeps ?_ (fun u x => ?_) | split

theorem State.holdNear_keeps {a1} {t : State} : Keeps [.pens] t (State.holdNear t a1) := by
  unfold State.holdNear
  try dsimp only
  repeat' first
    | with_reducible apply Keeps.rfl | decide | with_reducible apply Keeps.step ?_ State.modTensor_keeps ?_
    | with_reducible apply State.forAll_keeps ?_ (fun u x => ?_) | split

theorem State.drainFails_keeps {a1 a2} {t : State} : Keeps [.host, .pens, .out] t (State.drainFails t a1 a2) := by
  unfold State.drainFails
  try dsimp only
  repeat' first
    | with_reducible apply Keeps.rfl | decide | with_reducible apply Keeps.step ?_ State.answer_keeps ?_
    | with_reducible apply Keeps.step ?_ State.holdNear_keeps ?_ | split

theorem State.settleDrains_keeps {t : State} : Keeps [.host, .out] t (State.settleDrains t) := by
  unfold State.settleDrains
  try dsimp only
  repeat' first
    | with_reducible apply Keeps.rfl | decide | with_reducible apply Keeps.step ?_ State.answer_keeps ?_
    | with_reducible apply State.forAll_keeps ?_ (fun u x => ?_) | split

theorem State.endWaits_keeps {a1 a2 a3} {t : State} : Keeps [.host, .pens, .out] t (State.endWaits t a1 a2 a3) := by
  unfold State.endWaits
  try dsimp only
  repeat' first
    | with_reducible apply Keeps.rfl | decide | with_reducible apply Keeps.step ?_ State.answer_keeps ?_
    | with_reducible apply Keeps.step ?_ State.answerPen_keeps ?_
    | with_reducible apply Keeps.step ?_ State.drainFails_keeps ?_
    | with_reducible apply State.forAll_keeps ?_ (fun u x => ?_) | split

theorem State.cancelWait_keeps {a1} {t : State} : Keeps [.drover, .fab, .video, .health] t (State.cancelWait t a1) := by
  unfold State.cancelWait
  try dsimp only
  repeat' first
    | with_reducible apply Keeps.rfl | decide | ((with_reducible intro h); apply h.fab) | ((with_reducible intro h); apply h.health)
    | ((with_reducible intro h); apply h.video) | with_reducible apply Keeps.step ?_ State.abandonBase_keeps ?_
    | with_reducible apply Keeps.step ?_ (State.modFab_keeps ?_) ?_
    | with_reducible apply Keeps.step ?_ (State.modHealth_keeps ?_) ?_
    | with_reducible apply Keeps.step ?_ (State.modVideo_keeps ?_) ?_ | split
    | ((with_reducible intro h); exact by simpa [Fabric.Sound] using h.fab) | ((with_reducible intro h); exact by simpa [Video.Sound] using h.video)

theorem State.blockBusy_keeps {a1} {t : State} : Keeps [.host, .out] t (State.blockBusy t a1) := by
  unfold State.blockBusy
  try dsimp only
  repeat' first
    | with_reducible apply Keeps.rfl | decide | with_reducible apply Keeps.step ?_ State.answer_keeps ?_ | split

theorem execCommandTimeout_keeps {a0 a1} {t : State} : Result.Keeps [.host, .pens, .drover, .fab, .video, .health, .out] t (execCommandTimeout a0 a1 t) := by
  unfold execCommandTimeout
  try dsimp only
  repeat' first
    | with_reducible apply Keeps.rfl | decide | with_reducible apply Result.keeps_done | with_reducible apply Result.keeps_fault
    | with_reducible apply Keeps.step ?_ State.answer_keeps ?_
    | with_reducible apply Keeps.step ?_ State.blockBusy_keeps ?_
    | with_reducible apply Keeps.step ?_ State.cancelWait_keeps ?_
    | with_reducible apply Keeps.step ?_ State.drainFails_keeps ?_
    | with_reducible apply Keeps.step ?_ State.quiet_keeps ?_ | split

/-! ## Machine/PenOps.lean -/

theorem State.modHalf_keeps {a1 a2 a3} {t : State} : Keeps [.comp] t (State.modHalf t a1 a2 a3) := by
  unfold State.modHalf
  try dsimp only
  repeat' first
    | with_reducible apply Keeps.rfl | decide | with_reducible apply Keeps.step ?_ State.modFold_keeps ?_ | split

theorem State.modOp_keeps {a1 a2} {t : State} : Keeps [.comp] t (State.modOp t a1 a2) := by
  unfold State.modOp
  try dsimp only
  repeat' first
    | with_reducible apply Keeps.rfl | decide | ((with_reducible intro h); apply h.comp) | ((with_reducible intro h); exact ⟨rebuildFolds_length, h.comp.2⟩)
    | ((with_reducible intro h); exact ⟨rebuildFolds_length, rebuildSlots_length⟩)
    | with_reducible apply Keeps.step ?_ (State.modComp_keeps ?_) ?_ | split
    | ((with_reducible intro h); exact by simpa [Compute.Sound] using h.comp)

theorem State.modBase_keeps {a1 a2} {t : State} : Keeps [.drover] t (State.modBase t a1 a2) := by
  unfold State.modBase
  try dsimp only
  repeat' first
    | with_reducible apply Keeps.rfl | decide | with_reducible apply Keeps.step ?_ State.modDrover_keeps ?_ | split

theorem State.modAny_keeps {a1 a2} {t : State} : Keeps [.pens, .drover] t (State.modAny t a1 a2) := by
  unfold State.modAny
  try dsimp only
  repeat' first
    | with_reducible apply Keeps.rfl | decide | with_reducible apply Keeps.step ?_ State.modBase_keeps ?_
    | with_reducible apply Keeps.step ?_ State.modTensor_keeps ?_ | split

theorem State.sendVerdict_keeps {a1 a2} {t : State} : Keeps [.drover] t (State.sendVerdict t a1 a2) := by
  unfold State.sendVerdict
  try dsimp only
  repeat' first
    | with_reducible apply Keeps.rfl | decide | with_reducible apply Keeps.step ?_ State.modDrover_keeps ?_ | split

theorem State.rejectOpen_keeps {a1} {t : State} : Keeps [.drover] t (State.rejectOpen t a1) := by
  unfold State.rejectOpen
  try dsimp only
  repeat' first
    | with_reducible apply Keeps.rfl | decide | with_reducible apply Keeps.step ?_ State.sendVerdict_keeps ?_
    | with_reducible apply State.forAll_keeps ?_ (fun u x => ?_) | split

theorem State.endSwitched_keeps {a1} {t : State} : Keeps [.pens, .drover] t (State.endSwitched t a1) := by
  unfold State.endSwitched
  try dsimp only
  repeat' first
    | with_reducible apply Keeps.rfl | decide | with_reducible apply Keeps.step ?_ State.freeIdleRoom_keeps ?_
    | with_reducible apply Keeps.step ?_ State.modAny_keeps ?_
    | with_reducible apply Keeps.step ?_ State.rejectOpen_keeps ?_ | split

theorem State.endFetch_keeps {a1 a2} {t : State} : Keeps [.pens, .drover] t (State.endFetch t a1 a2) := by
  unfold State.endFetch
  try dsimp only
  repeat' first
    | with_reducible apply Keeps.rfl | decide | with_reducible apply Keeps.step ?_ State.freeIdleRoom_keeps ?_
    | with_reducible apply Keeps.step ?_ State.modTensor_keeps ?_
    | with_reducible apply Keeps.step ?_ State.rejectOpen_keeps ?_ | split

theorem State.layerBoundary_keeps {t : State} : Keeps [.comp] t (State.layerBoundary t) := by
  unfold State.layerBoundary
  try dsimp only
  repeat' first
    | with_reducible apply Keeps.rfl | decide | ((with_reducible intro h); apply h.comp) | ((with_reducible intro h); exact ⟨rebuildFolds_length, h.comp.2⟩)
    | ((with_reducible intro h); exact ⟨rebuildFolds_length, rebuildSlots_length⟩)
    | with_reducible apply Keeps.step ?_ (State.modComp_keeps ?_) ?_ | split
    | ((with_reducible intro h); exact by simpa [Compute.Sound] using h.comp)

theorem State.idleBoundary_keeps {t : State} : Keeps [.comp] t (State.idleBoundary t) := by
  unfold State.idleBoundary
  try dsimp only
  repeat' first
    | with_reducible apply Keeps.rfl | decide | with_reducible apply Keeps.step ?_ State.layerBoundary_keeps ?_
    | split

theorem State.discardTask_keeps {a1 a2 a3} {t : State} : Keeps [.comp, .health] t (State.discardTask t a1 a2 a3) := by
  unfold State.discardTask
  try dsimp only
  repeat' first
    | with_reducible apply Keeps.rfl | decide | with_reducible apply Keeps.step ?_ State.count_keeps ?_
    | with_reducible apply Keeps.step ?_ State.idleBoundary_keeps ?_
    | with_reducible apply Keeps.step ?_ State.modHalf_keeps ?_
    | with_reducible apply Keeps.step ?_ State.modOp_keeps ?_ | split

theorem State.completeOn_keeps {a1 a2} {t : State} : Keeps [.host, .np, .qe, .health, .out] t (State.completeOn t a1 a2) := by
  unfold State.completeOn
  try dsimp only
  repeat' first
    | with_reducible apply Keeps.rfl | decide | with_reducible apply Keeps.step ?_ State.cpl_keeps ?_ | split

theorem State.removeOp_keeps {a1} {t : State} : Keeps [.comp] t (State.removeOp t a1) := by
  unfold State.removeOp
  try dsimp only
  repeat' first
    | with_reducible apply Keeps.rfl | decide | ((with_reducible intro h); apply h.comp) | ((with_reducible intro h); exact ⟨rebuildFolds_length, h.comp.2⟩)
    | ((with_reducible intro h); exact ⟨rebuildFolds_length, rebuildSlots_length⟩)
    | with_reducible apply Keeps.step ?_ State.idleBoundary_keeps ?_
    | with_reducible apply Keeps.step ?_ (State.modComp_keeps ?_) ?_
    | with_reducible apply Keeps.step ?_ State.modHalf_keeps ?_
    | with_reducible apply State.forAll_keeps ?_ (fun u x => ?_) | split
    | ((with_reducible intro h); exact by simpa [Compute.Sound] using h.comp)

theorem State.endFaulted_keeps {a1 a2 a3} {t : State} : Keeps [.host, .comp, .np, .qe, .health, .out] t (State.endFaulted t a1 a2 a3) := by
  unfold State.endFaulted
  try dsimp only
  repeat' first
    | with_reducible apply Keeps.rfl | decide | with_reducible apply Keeps.step ?_ State.completeOn_keeps ?_
    | with_reducible apply Keeps.step ?_ State.removeOp_keeps ?_ | split

theorem State.spoil_keeps {a1} {t : State} : Keeps [.pens, .np, .free] t (State.spoil t a1) := by
  unfold State.spoil
  try dsimp only
  repeat' first
    | with_reducible apply Keeps.rfl | decide | with_reducible apply Keeps.step ?_ State.modTensor_keeps ?_
    | with_reducible apply Keeps.step ?_ State.penLoosen_keeps ?_
    | with_reducible apply State.forAll_keeps ?_ (fun u x => ?_) | split

theorem State.freeScratch_keeps {a1 a2} {t : State} : Keeps [.comp, .pens, .drover] t (State.freeScratch t a1 a2) := by
  unfold State.freeScratch
  try dsimp only
  repeat' first
    | with_reducible apply Keeps.rfl | decide | with_reducible apply Keeps.step ?_ State.freeCopies_keeps ?_
    | with_reducible apply State.forAll_keeps ?_ (fun u x => ?_) | split

theorem State.abandonRun_keeps {a1} {t : State} : Keeps [.comp, .pens, .drover] t (State.abandonRun t a1) := by
  unfold State.abandonRun
  try dsimp only
  repeat' first
    | with_reducible apply Keeps.rfl | decide | with_reducible apply Keeps.step ?_ State.endSwitched_keeps ?_
    | with_reducible apply Keeps.step ?_ State.freeIdleRoom_keeps ?_
    | with_reducible apply Keeps.step ?_ State.freeScratch_keeps ?_
    | with_reducible apply Keeps.step ?_ State.modTensor_keeps ?_
    | with_reducible apply Keeps.step ?_ State.removeOp_keeps ?_
    | with_reducible apply State.forAll_keeps ?_ (fun u x => ?_) | split

theorem State.abandonRecipes_keeps {a1} {t : State} : Keeps [.comp, .pens, .drover] t (State.abandonRecipes t a1) := by
  unfold State.abandonRecipes
  try dsimp only
  repeat' first
    | with_reducible apply Keeps.rfl | decide | with_reducible apply Keeps.step ?_ State.abandonRun_keeps ?_
    | with_reducible apply State.forAll_keeps ?_ (fun u x => ?_) | split

theorem State.cancelFetches_keeps {a1} {t : State} : Keeps [.pens, .drover] t (State.cancelFetches t a1) := by
  unfold State.cancelFetches
  try dsimp only
  repeat' first
    | with_reducible apply Keeps.rfl | decide | with_reducible apply Keeps.step ?_ State.freeIdleRoom_keeps ?_
    | with_reducible apply Keeps.step ?_ State.modTensor_keeps ?_
    | with_reducible apply State.forAll_keeps ?_ (fun u x => ?_) | split

theorem State.droverQuiesce_keeps {a1} {t : State} : Keeps [.comp, .pens, .drover] t (State.droverQuiesce t a1) := by
  unfold State.droverQuiesce
  try dsimp only
  repeat' first
    | with_reducible apply Keeps.rfl | decide | ((with_reducible intro _ k); exact k) | ((with_reducible intro _ _); exact (by rfl))
    | ((with_reducible intro _ k); exact (by split <;> exact k)) | ((with_reducible intro _ k); exact Pen.adopt_sound k)
    | with_reducible apply Keeps.step ?_ State.abandonRecipes_keeps ?_
    | with_reducible apply Keeps.step ?_ (State.modPen_keeps ?_) ?_ | split

theorem State.droverAbort_keeps {a1} {t : State} : Keeps [.comp, .pens, .drover] t (State.droverAbort t a1) := by
  unfold State.droverAbort
  try dsimp only
  repeat' first
    | with_reducible apply Keeps.rfl | decide | with_reducible apply Keeps.step ?_ State.cancelFetches_keeps ?_
    | with_reducible apply Keeps.step ?_ State.droverQuiesce_keeps ?_ | split

theorem State.abandonEncodes_keeps {a1} {t : State} : Keeps [.pens] t (State.abandonEncodes t a1) := by
  unfold State.abandonEncodes
  try dsimp only
  repeat' first
    | with_reducible apply Keeps.rfl | decide | ((with_reducible intro _ k); exact k) | ((with_reducible intro _ _); exact (by rfl))
    | ((with_reducible intro _ k); exact (by split <;> exact k)) | ((with_reducible intro _ k); exact Pen.adopt_sound k)
    | with_reducible apply Keeps.step ?_ (State.modPen_keeps ?_) ?_ | split

theorem State.sendLeaders_keeps {a1 a2} {t : State} : Keeps [.fab, .health] t (State.sendLeaders t a1 a2) := by
  unfold State.sendLeaders
  try dsimp only
  repeat' first
    | with_reducible apply Keeps.rfl | decide | with_reducible apply Keeps.step ?_ State.sendMgmt_keeps ?_ | split

theorem State.sendNotice_keeps {a1} {t : State} : Keeps [.fab, .health] t (State.sendNotice t a1) := by
  unfold State.sendNotice
  try dsimp only
  repeat' first
    | with_reducible apply Keeps.rfl | decide | with_reducible apply Keeps.step ?_ State.sendLeaders_keeps ?_ | split

theorem State.faultNotice_keeps {a1 a2 a3} {t : State} : Keeps [.pens, .fab, .health] t (State.faultNotice t a1 a2 a3) := by
  unfold State.faultNotice
  try dsimp only
  repeat' first
    | with_reducible apply Keeps.rfl | decide | ((with_reducible intro _ k); exact k) | ((with_reducible intro _ _); exact (by rfl))
    | ((with_reducible intro _ k); exact (by split <;> exact k)) | ((with_reducible intro _ k); exact Pen.adopt_sound k)
    | with_reducible apply Keeps.step ?_ (State.modPen_keeps ?_) ?_
    | with_reducible apply Keeps.step ?_ State.sendNotice_keeps ?_ | split

theorem State.dropRops_keeps {a1} {t : State} : Keeps [.qe] t (State.dropRops t a1) := by
  unfold State.dropRops
  try dsimp only
  repeat' first
    | with_reducible apply Keeps.rfl | decide | with_reducible apply Keeps.step ?_ State.modQe_keeps ?_ | split

theorem State.penFault_keeps {a1 a2 a3} {t : State} : Keeps [.host, .comp, .pens, .drover, .np, .fab, .qe, .health, .out, .free] t (State.penFault t a1 a2 a3) := by
  unfold State.penFault
  try dsimp only
  repeat' first
    | with_reducible apply Keeps.rfl | decide | ((with_reducible intro _ k); exact k) | ((with_reducible intro _ _); exact (by rfl))
    | ((with_reducible intro _ k); exact (by split <;> exact k)) | ((with_reducible intro _ k); exact Pen.adopt_sound k)
    | with_reducible apply Keeps.step ?_ State.abandonEncodes_keeps ?_
    | with_reducible apply Keeps.step ?_ State.dropRops_keeps ?_
    | with_reducible apply Keeps.step ?_ State.droverAbort_keeps ?_
    | with_reducible apply Keeps.step ?_ State.endFaulted_keeps ?_
    | with_reducible apply Keeps.step ?_ State.endWaits_keeps ?_
    | with_reducible apply Keeps.step ?_ State.faultNotice_keeps ?_
    | with_reducible apply Keeps.step ?_ State.healthEvent_keeps ?_
    | with_reducible apply Keeps.step ?_ State.logFault_keeps ?_
    | with_reducible apply Keeps.step ?_ (State.modPen_keeps ?_) ?_
    | with_reducible apply Keeps.step ?_ State.spoil_keeps ?_
    | with_reducible apply State.forAll_keeps ?_ (fun u x => ?_) | split

theorem State.abortPen_keeps {a1} {t : State} : Keeps [.host, .comp, .pens, .drover, .np, .qe, .video, .out, .free] t (State.abortPen t a1) := by
  unfold State.abortPen
  try dsimp only
  repeat' first
    | with_reducible apply Keeps.rfl | decide | ((with_reducible intro _ k); exact k) | ((with_reducible intro _ _); exact (by rfl))
    | ((with_reducible intro _ k); exact (by split <;> exact k)) | ((with_reducible intro _ k); exact Pen.adopt_sound k)
    | with_reducible apply Keeps.step ?_ State.abandonEncodes_keeps ?_
    | with_reducible apply Keeps.step ?_ State.dropRops_keeps ?_
    | with_reducible apply Keeps.step ?_ State.droverAbort_keeps ?_
    | with_reducible apply Keeps.step ?_ State.endWaits_keeps ?_
    | with_reducible apply Keeps.step ?_ State.freePenQueues_keeps ?_
    | with_reducible apply Keeps.step ?_ (State.modPen_keeps ?_) ?_
    | with_reducible apply Keeps.step ?_ State.removeOp_keeps ?_
    | with_reducible apply Keeps.step ?_ State.spoil_keeps ?_
    | with_reducible apply State.forAll_keeps ?_ (fun u x => ?_) | split

theorem State.hostAbort_keeps {a1} {t : State} : Keeps [.host, .comp, .pens, .drover, .np, .fab, .qe, .video, .health, .out, .free] t (State.hostAbort t a1) := by
  unfold State.hostAbort
  try dsimp only
  repeat' first
    | with_reducible apply Keeps.rfl | decide | with_reducible apply Keeps.step ?_ State.abortPen_keeps ?_
    | with_reducible apply Keeps.step ?_ State.faultNotice_keeps ?_ | split

theorem State.opFault_keeps {a1 a2 a3 a4 a5} {t : State} : Keeps [.host, .comp, .np, .qe, .health, .out] t (State.opFault t a1 a2 a3 a4 a5) := by
  unfold State.opFault
  try dsimp only
  repeat' first
    | with_reducible apply Keeps.rfl | decide | with_reducible apply Keeps.step ?_ State.endFaulted_keeps ?_
    | with_reducible apply Keeps.step ?_ State.logFault_keeps ?_
    | with_reducible apply Keeps.step ?_ State.modQueue_keeps ?_ | split

theorem State.leaveFull_keeps {t : State} : Keeps [.boot, .host, .health, .out] t (State.leaveFull t) := by
  unfold State.leaveFull
  try dsimp only
  repeat' first
    | with_reducible apply Keeps.rfl | decide
    | ((with_reducible intro h); exact ⟨h.boot.1, Nat.le_trans (Nat.min_le_left _ _) h.boot.2.1, h.boot.2.2⟩) | ((with_reducible intro h); apply h.boot)
    | ((with_reducible intro h); exact ⟨h.boot.1, h.boot.2.1, h.boot.2.2.1, satInc_le⟩)
    | ((with_reducible intro h); exact ⟨h.boot.1, h.boot.1, satInc_le, h.boot.2.2.2⟩)
    | with_reducible apply Keeps.step ?_ (State.modBoot_keeps ?_) ?_
    | with_reducible apply Keeps.step ?_ (State.setStage_keeps ?_) ?_ | split | ((with_reducible intro _); exact by decide)

theorem State.enterTransitOnly_keeps {a1} {t : State} : Keeps [.boot, .host, .comp, .pens, .drover, .np, .fab, .qe, .health, .out, .free] t (State.enterTransitOnly t a1) := by
  unfold State.enterTransitOnly
  try dsimp only
  repeat' first
    | with_reducible apply Keeps.rfl | decide | ((with_reducible intro h); apply h.fab)
    | with_reducible apply Keeps.step ?_ State.leaveFull_keeps ?_
    | with_reducible apply Keeps.step ?_ (State.modFab_keeps ?_) ?_
    | with_reducible apply Keeps.step ?_ State.penFault_keeps ?_
    | with_reducible apply State.forAll_keeps ?_ (fun u x => ?_) | split
    | ((with_reducible intro h); exact by simpa [Fabric.Sound] using h.fab)

theorem State.hubFault_keeps {t : State} : Keeps [.boot, .host, .comp, .pens, .drover, .np, .fab, .qe, .health, .out, .free] t (State.hubFault t) := by
  unfold State.hubFault
  try dsimp only
  repeat' first
    | with_reducible apply Keeps.rfl | decide | ((with_reducible intro h); apply h.boot)
    | ((with_reducible intro h); exact ⟨h.boot.1, h.boot.2.1, h.boot.2.2.1, satInc_le⟩)
    | ((with_reducible intro h); exact ⟨h.boot.1, h.boot.1, satInc_le, h.boot.2.2.2⟩)
    | with_reducible apply Keeps.step ?_ State.enterTransitOnly_keeps ?_
    | with_reducible apply Keeps.step ?_ State.faultNotice_keeps ?_
    | with_reducible apply Keeps.step ?_ (State.modBoot_keeps ?_) ?_
    | with_reducible apply State.forAll_keeps ?_ (fun u x => ?_) | split

/-! ## Machine/Time.lean -/

@[simp] theorem TimeUnit.judge_role (t : TimeUnit) (off : Int) : (t.judge off).role = t.role := by
  unfold TimeUnit.judge
  repeat' split
  all_goals rfl

@[simp] theorem TimeUnit.slew_role (t : TimeUnit) (off : Int) : (t.slew off).role = t.role := by
  unfold TimeUnit.slew
  repeat' split
  all_goals simp

@[simp] theorem TimeUnit.follow_role (t : TimeUnit) (a b c d e : Nat) : (t.follow a b c d e).role = 2 := by
  unfold TimeUnit.follow
  dsimp only
  repeat' split
  all_goals simp

theorem State.sendOn_keeps {a1 a2 a3} {t : State} : Keeps [.fab, .health, .free] t (State.sendOn t a1 a2 a3) := by
  unfold State.sendOn
  try dsimp only
  repeat' first
    | with_reducible apply Keeps.rfl | decide | with_reducible apply Keeps.step ?_ State.sendHop_keeps ?_
    | with_reducible apply Keeps.step ?_ State.spend_keeps ?_
    | with_reducible apply State.forAll_keeps ?_ (fun u x => ?_) | split

theorem State.sendDown_keeps {a1 a2} {t : State} : Keeps [.fab, .health, .free] t (State.sendDown t a1 a2) := by
  unfold State.sendDown
  try dsimp only
  repeat' first
    | with_reducible apply Keeps.rfl | decide | with_reducible apply Keeps.step ?_ State.sendOn_keeps ?_ | split

theorem State.retime_keeps {t : State} : Keeps [.time] t (State.retime t) := by
  unfold State.retime
  try dsimp only
  repeat' first
    | with_reducible apply Keeps.rfl | decide | ((with_reducible intro h); apply h.time)
    | with_reducible apply Keeps.step ?_ (State.modTime_keeps ?_) ?_ | split | ((with_reducible intro h); exact by simp [TimeUnit.Sound])

theorem State.sendEpochReq_keeps {t : State} : Keeps [.fab, .health] t (State.sendEpochReq t) := by
  unfold State.sendEpochReq
  try dsimp only
  repeat' first
    | with_reducible apply Keeps.rfl | decide | with_reducible apply Keeps.step ?_ State.sendMgmt_keeps ?_ | split

theorem execTimeSync_keeps {t : State} : Result.Keeps [.fab, .time, .health, .out, .free] t (execTimeSync t) := by
  unfold execTimeSync
  try dsimp only
  repeat' first
    | with_reducible apply Keeps.rfl | decide | with_reducible apply Result.keeps_done | with_reducible apply Result.keeps_fault
    | ((with_reducible intro h); apply h.time) | with_reducible apply Keeps.step ?_ (State.modTime_keeps ?_) ?_
    | with_reducible apply Keeps.step ?_ State.quiet_keeps ?_
    | with_reducible apply Keeps.step ?_ State.sendDown_keeps ?_
    | with_reducible apply Keeps.step ?_ State.sendEpochReq_keeps ?_
    | with_reducible apply Keeps.step ?_ State.takePacket_keeps ?_ | split | ((with_reducible intro h); exact by simp [TimeUnit.Sound])

theorem execTimeSyncPeriod_keeps {t : State} : Result.Keeps [.fab, .time, .health, .out, .free] t (execTimeSyncPeriod t) := by
  unfold execTimeSyncPeriod
  try dsimp only
  repeat' first
    | with_reducible apply Keeps.rfl | decide | with_reducible apply Result.keeps_done | with_reducible apply Result.keeps_fault
    | ((with_reducible intro h); apply h.time) | with_reducible apply Keeps.step ?_ (State.modTime_keeps ?_) ?_
    | with_reducible apply Keeps.step ?_ State.quiet_keeps ?_
    | with_reducible apply Keeps.step ?_ State.sendDown_keeps ?_ | split | ((with_reducible intro h); exact by simp [TimeUnit.Sound])

theorem execDelayReqPeriod_keeps {a0} {t : State} : Result.Keeps [.fab, .health, .out] t (execDelayReqPeriod a0 t) := by
  unfold execDelayReqPeriod
  try dsimp only
  repeat' first
    | with_reducible apply Keeps.rfl | decide | with_reducible apply Result.keeps_done | with_reducible apply Result.keeps_fault
    | with_reducible apply Keeps.step ?_ State.quiet_keeps ?_
    | with_reducible apply Keeps.step ?_ State.sendHop_keeps ?_ | split

theorem execDelayReq_keeps {t : State} : Result.Keeps [.fab, .health, .out] t (execDelayReq t) := by
  unfold execDelayReq
  try dsimp only
  repeat' first
    | with_reducible apply Keeps.rfl | decide | with_reducible apply Result.keeps_done | with_reducible apply Result.keeps_fault
    | with_reducible apply Keeps.step ?_ State.quiet_keeps ?_
    | with_reducible apply Keeps.step ?_ State.sendHop_keeps ?_
    | with_reducible apply Keeps.step ?_ State.takePacket_keeps ?_ | split

theorem execDelayResp_keeps {t : State} : Result.Keeps [.fab, .out] t (execDelayResp t) := by
  unfold execDelayResp
  try dsimp only
  repeat' first
    | with_reducible apply Keeps.rfl | decide | with_reducible apply Result.keeps_done | with_reducible apply Result.keeps_fault
    | with_reducible apply Keeps.step ?_ State.modPort_keeps ?_
    | with_reducible apply Keeps.step ?_ State.quiet_keeps ?_
    | with_reducible apply Keeps.step ?_ State.takePacket_keeps ?_ | split

theorem execHoldover_keeps {t : State} : Result.Keeps [.time, .out] t (execHoldover t) := by
  unfold execHoldover
  try dsimp only
  repeat' first
    | with_reducible apply Keeps.rfl | decide | with_reducible apply Result.keeps_done | with_reducible apply Result.keeps_fault
    | ((with_reducible intro h); apply h.time) | with_reducible apply Keeps.step ?_ (State.modTime_keeps ?_) ?_
    | with_reducible apply Keeps.step ?_ State.quiet_keeps ?_ | split | ((with_reducible intro h); exact by simp [TimeUnit.Sound])

theorem execEpochReq_keeps {t : State} : Result.Keeps [.fab, .time, .out] t (execEpochReq t) := by
  unfold execEpochReq
  try dsimp only
  repeat' first
    | with_reducible apply Keeps.rfl | decide | with_reducible apply Result.keeps_done | with_reducible apply Result.keeps_fault
    | ((with_reducible intro h); apply h.time) | with_reducible apply Keeps.step ?_ (State.modTime_keeps ?_) ?_
    | with_reducible apply Keeps.step ?_ State.quiet_keeps ?_
    | with_reducible apply Keeps.step ?_ State.takePacket_keeps ?_ | split | ((with_reducible intro h); exact by simp [TimeUnit.Sound])

theorem State.latchTime_keeps {t : State} : Keeps [.host] t (State.latchTime t) := by
  unfold State.latchTime
  try dsimp only
  repeat' first
    | with_reducible apply Keeps.rfl | decide | ((with_reducible intro h); apply h.host) | ((with_reducible intro h); exact ⟨rfl, h.host.2⟩)
    | ((with_reducible intro h); exact ⟨h.host.1, rfl⟩) | with_reducible apply Keeps.step ?_ (State.modHost_keeps ?_) ?_ | split
    | ((with_reducible intro h); exact by simpa [HostIf.Sound] using h.host)

theorem execTimeNowRead_keeps {t : State} : Result.Keeps [.host, .out] t (execTimeNowRead t) := by
  unfold execTimeNowRead
  try dsimp only
  repeat' first
    | with_reducible apply Keeps.rfl | decide | with_reducible apply Result.keeps_done | with_reducible apply Result.keeps_fault
    | with_reducible apply Keeps.step ?_ State.emit_keeps ?_
    | with_reducible apply Keeps.step ?_ State.latchTime_keeps ?_
    | with_reducible apply Keeps.step ?_ State.quiet_keeps ?_ | split

theorem execTallyReq_keeps {t : State} : Result.Keeps [.fab, .health, .out, .free] t (execTallyReq t) := by
  unfold execTallyReq
  try dsimp only
  repeat' first
    | with_reducible apply Keeps.rfl | decide | with_reducible apply Result.keeps_done | with_reducible apply Result.keeps_fault
    | ((with_reducible intro h); apply h.health) | with_reducible apply Keeps.step ?_ State.count_keeps ?_
    | with_reducible apply Keeps.step ?_ (State.modHealth_keeps ?_) ?_
    | with_reducible apply Keeps.step ?_ State.quiet_keeps ?_
    | with_reducible apply Keeps.step ?_ State.sendDown_keeps ?_
    | with_reducible apply Keeps.step ?_ State.takePacket_keeps ?_ | split

/-! ## Machine/Plan.lean -/

theorem State.planFor_keeps {a1} {t u : State} {x : Plan} (h : State.planFor t a1 = some (x, u)) : Keeps [.comp, .health] t u := by
  simp only [State.planFor] at h
  repeat' split at h
  all_goals simp only [Option.some.injEq, Prod.mk.injEq, reduceCtorEq] at h
  all_goals obtain ⟨-, rfl⟩ := h
  all_goals exact Keeps.step ((State.modComp_keeps (fun h => h.comp)).mono (by decide)) State.count_keeps (by decide)

/-! ## Machine/Buffers.lean -/

theorem Compute.stage_sound {c : Compute} {x} (h : c.Sound) : (c.stage x).Sound := by
  unfold Compute.stage
  split
  · exact h
  · exact h

theorem State.spendRace_keeps {a1} {t : State} : Keeps [.free] t (State.spendRace t a1) := by
  unfold State.spendRace
  try dsimp only
  repeat' first
    | with_reducible apply Keeps.rfl | decide | with_reducible apply Keeps.step ?_ State.spend_keeps ?_ | split

theorem State.loadTask_keeps {a1 a2 a3 a4} {t : State} : Keeps [.comp, .free] t (State.loadTask t a1 a2 a3 a4) := by
  unfold State.loadTask
  try dsimp only
  repeat' first
    | with_reducible apply Keeps.rfl | decide | ((with_reducible intro h); exact Compute.stage_sound h.comp) | ((with_reducible intro h); apply h.comp)
    | ((with_reducible intro h); exact ⟨rebuildFolds_length, h.comp.2⟩) | ((with_reducible intro h); exact ⟨rebuildFolds_length, rebuildSlots_length⟩)
    | with_reducible apply Keeps.step ?_ (State.modComp_keeps ?_) ?_
    | with_reducible apply Keeps.step ?_ State.modHalf_keeps ?_
    | with_reducible apply Keeps.step ?_ State.spendRace_keeps ?_ | split
    | ((with_reducible intro h); exact by simpa [Compute.Sound] using h.comp)

end Sys2Proof.Machine
end

