-- ==== Sys2Proof/Laws/FramePens.lean ====
section
/-! SUPPORT. What each operation of the Drover, the scheduler, coordination, flash, the Folds and the remote operations may change, and that it keeps a sound machine sound: one lemma per definition. -/

-- One proof at a time: the package as one text otherwise asks for more threads than its memory limit allows.
set_option Elab.async false
set_option linter.all false

namespace Sys2Proof.Machine

/-! ## Machine/Drover.lean -/

theorem Pen.adopt_sound {p : Pen} {a b c : Nat} (h : p.Sound) : (p.adopt a b c).Sound := by
  unfold Pen.adopt
  repeat' split
  all_goals exact h

theorem State.tasksFor_keeps {a1} {t : State} : Keeps [.comp, .health] t (State.tasksFor t a1).2.2 := by
  unfold State.tasksFor
  try dsimp only
  repeat' first
    | with_reducible apply Keeps.rfl | decide
    | refine Keeps.trans ?_ ((State.planFor_keeps (by assumption)).mono (by decide)) | split

theorem State.newOp_keeps {a1 a2 a3 a4 a5 a6} {t : State} : Keeps [.comp, .health] t (State.newOp t a1 a2 a3 a4 a5 a6) := by
  unfold State.newOp
  try dsimp only
  repeat' first
    | with_reducible apply Keeps.rfl | decide | ((with_reducible intro h); apply h.comp) | ((with_reducible intro h); exact ⟨rebuildFolds_length, h.comp.2⟩)
    | ((with_reducible intro h); exact ⟨rebuildFolds_length, rebuildSlots_length⟩)
    | with_reducible apply Keeps.step ?_ (State.modComp_keeps ?_) ?_
    | with_reducible apply Keeps.step ?_ State.tasksFor_keeps ?_ | split
    | ((with_reducible intro h); exact by simpa [Compute.Sound] using h.comp)

theorem State.makeRoom_keeps {a1 a2} {t : State} : Keeps [.comp, .pens, .drover] t (State.makeRoom t a1 a2).1 := by
  induction a2 generalizing t with
  | zero => exact Keeps.rfl
  | succ n ih =>
    unfold State.makeRoom
    repeat' split
    · exact Keeps.rfl
    · exact Keeps.rfl
    · exact Keeps.trans (State.dropNear_keeps.mono (by decide)) ih
    · exact Keeps.rfl

theorem State.allocate_keeps {a1 a2 a3 a4} {t : State} : Keeps [.host, .comp, .pens, .drover, .np, .health, .out, .free] t (State.allocate t a1 a2 a3 a4).1 := by
  have room : ∀ n, Keeps [.host, .comp, .pens, .drover, .np, .health, .out, .free] t
      (t.makeRoom { pen := a1, size := a2.chargedBytes, prefetch := a3, deadline := a4 } n).1 := fun _ => State.makeRoom_keeps.mono (by decide)
  unfold State.allocate
  dsimp only
  split
  · exact Keeps.rfl
  split
  · exact Keeps.rfl
  split
  · split
    · rename_i hu
      exact Keeps.step ((room _).trans ((State.takeRoom_keeps hu).mono (by decide))) State.modTensor_keeps (by decide)
    · exact room _
  · exact room _

theorem State.setAllocWait_keeps {a1 a2} {t : State} : Keeps [.pens] t (State.setAllocWait t a1 a2) := by
  unfold State.setAllocWait
  try dsimp only
  repeat' first
    | with_reducible apply Keeps.rfl | decide | with_reducible apply Keeps.step ?_ State.modTensor_keeps ?_ | split

theorem State.issueChunk_keeps {a1 a2} {t : State} : Keeps [.pens, .drover, .out] t (State.issueChunk t a1 a2) := by
  unfold State.issueChunk
  try dsimp only
  repeat' first
    | with_reducible apply Keeps.rfl | decide | with_reducible apply Keeps.step ?_ State.emit_keeps ?_
    | with_reducible apply Keeps.step ?_ State.modAny_keeps ?_ | split

theorem State.pumpReads_keeps {t : State} : Keeps [.pens, .drover, .out] t (State.pumpReads t) := by
  unfold State.pumpReads
  try dsimp only
  repeat' first
    | with_reducible apply Keeps.rfl | decide | with_reducible apply Keeps.step ?_ State.issueChunk_keeps ?_
    | with_reducible apply State.forAll_keeps ?_ (fun u x => ?_) | split

theorem State.beginFetch_keeps {a1 a2} {t : State} : Keeps [.pens, .drover, .health, .out] t (State.beginFetch t a1 a2) := by
  unfold State.beginFetch
  try dsimp only
  repeat' first
    | with_reducible apply Keeps.rfl | decide | with_reducible apply Keeps.step ?_ State.count_keeps ?_
    | with_reducible apply Keeps.step ?_ State.modAny_keeps ?_
    | with_reducible apply Keeps.step ?_ State.pumpReads_keeps ?_ | split

theorem State.startFetch_keeps {a1 a2 a3 a4} {t : State} : Keeps [.host, .comp, .pens, .drover, .np, .health, .out, .free] t (State.startFetch t a1 a2 a3 a4) := by
  unfold State.startFetch
  try dsimp only
  repeat' first
    | with_reducible apply Keeps.rfl | decide | with_reducible apply Keeps.step ?_ State.allocate_keeps ?_
    | with_reducible apply Keeps.step ?_ State.beginFetch_keeps ?_
    | with_reducible apply Keeps.step ?_ State.setAllocWait_keeps ?_ | split

theorem State.runDescriptor_keeps {a1 a2 a3} {t : State} : Keeps [.comp, .pens, .health] t (State.runDescriptor t a1 a2 a3) := by
  unfold State.runDescriptor
  try dsimp only
  repeat' first
    | with_reducible apply Keeps.rfl | decide | with_reducible apply Keeps.step ?_ State.modTensor_keeps ?_
    | with_reducible apply Keeps.step ?_ State.newOp_keeps ?_ | split

theorem State.startRecipe_keeps {a1 a2 a3} {t : State} : Keeps [.comp, .pens, .health] t (State.startRecipe t a1 a2 a3) := by
  unfold State.startRecipe
  try dsimp only
  repeat' first
    | with_reducible apply Keeps.rfl | decide | with_reducible apply Keeps.step ?_ State.count_keeps ?_
    | with_reducible apply Keeps.step ?_ State.modTensor_keeps ?_
    | with_reducible apply Keeps.step ?_ State.runDescriptor_keeps ?_ | split

theorem State.hasten_keeps {a1 a2} {t : State} : Keeps [.pens] t (State.hasten t a1 a2) := by
  unfold State.hasten
  try dsimp only
  repeat' first
    | with_reducible apply Keeps.rfl | decide | with_reducible apply Keeps.step ?_ State.modTensor_keeps ?_ | split

theorem State.takePath_keeps {a1 a2 a3 a4} {t : State} : Keeps [.host, .comp, .pens, .drover, .np, .fab, .qe, .health, .out, .free] t (State.takePath t a1 a2 a3 a4) := by
  unfold State.takePath
  try dsimp only
  repeat' first
    | with_reducible apply Keeps.rfl | decide | with_reducible apply Keeps.step ?_ State.hasten_keeps ?_
    | with_reducible apply Keeps.step ?_ State.modTensor_keeps ?_
    | with_reducible apply Keeps.step ?_ State.penFault_keeps ?_
    | with_reducible apply Keeps.step ?_ State.startFetch_keeps ?_
    | with_reducible apply Keeps.step ?_ State.startRecipe_keeps ?_ | split

theorem State.prepare_keeps {a1} {t : State} : Keeps [.host, .comp, .pens, .drover, .np, .fab, .qe, .health, .out, .free] t (State.prepare t a1) := by
  unfold State.prepare
  try dsimp only
  repeat' first
    | with_reducible apply Keeps.rfl | decide | with_reducible apply Keeps.step ?_ State.takePath_keeps ?_
    | with_reducible apply State.forAll_keeps ?_ (fun u x => ?_) | split

theorem State.writeFar_keeps {a1 a2} {t : State} : Keeps [.health, .out] t (State.writeFar t a1 a2) := by
  unfold State.writeFar
  try dsimp only
  repeat' first
    | with_reducible apply Keeps.rfl | decide | with_reducible apply Keeps.step ?_ State.count_keeps ?_
    | with_reducible apply Keeps.step ?_ State.emit_keeps ?_
    | with_reducible apply State.forAll_keeps ?_ (fun u x => ?_) | split

theorem State.beginWriteBehind_keeps {a1 a2 a3 a4} {t : State} : Keeps [.pens, .health, .out] t (State.beginWriteBehind t a1 a2 a3 a4) := by
  unfold State.beginWriteBehind
  try dsimp only
  repeat' first
    | with_reducible apply Keeps.rfl | decide | with_reducible apply Keeps.step ?_ State.count_keeps ?_
    | with_reducible apply Keeps.step ?_ State.modTensor_keeps ?_
    | with_reducible apply Keeps.step ?_ State.writeFar_keeps ?_ | split

theorem State.buryTensor_keeps {a1} {t : State} : Keeps [.comp, .pens, .drover] t (State.buryTensor t a1) := by
  unfold State.buryTensor
  try dsimp only
  repeat' first
    | with_reducible apply Keeps.rfl | decide | with_reducible apply Keeps.step ?_ State.endFetch_keeps ?_
    | with_reducible apply Keeps.step ?_ State.freeCopies_keeps ?_
    | with_reducible apply Keeps.step ?_ State.modTensor_keeps ?_ | split

theorem State.idleTensor_keeps {a1} {t : State} : Keeps [.comp, .pens, .drover, .health, .out] t (State.idleTensor t a1) := by
  unfold State.idleTensor
  try dsimp only
  repeat' first
    | with_reducible apply Keeps.rfl | decide | with_reducible apply Keeps.step ?_ State.beginWriteBehind_keeps ?_
    | with_reducible apply Keeps.step ?_ State.buryTensor_keeps ?_ | split

theorem State.freeDead_keeps {a1 a2} {t : State} : Keeps [.comp, .pens, .drover] t (State.freeDead t a1 a2) := by
  unfold State.freeDead
  try dsimp only
  repeat' first
    | with_reducible apply Keeps.rfl | decide | with_reducible apply Keeps.step ?_ State.buryTensor_keeps ?_
    | with_reducible apply Keeps.step ?_ State.modTensor_keeps ?_
    | with_reducible apply State.forAll_keeps ?_ (fun u x => ?_) | split

theorem State.layerMark_keeps {a1 a2 a3 a4} {t : State} : Keeps [.host, .comp, .pens, .drover, .np, .fab, .qe, .health, .out, .free] t (State.layerMark t a1 a2 a3 a4) := by
  unfold State.layerMark
  try dsimp only
  repeat' first
    | with_reducible apply Keeps.rfl | decide | ((with_reducible intro _ k); exact k) | ((with_reducible intro _ _); exact (by rfl))
    | ((with_reducible intro _ k); exact (by split <;> exact k)) | ((with_reducible intro _ k); exact Pen.adopt_sound k)
    | with_reducible apply Keeps.step ?_ State.freeDead_keeps ?_
    | with_reducible apply Keeps.step ?_ State.logFault_keeps ?_
    | with_reducible apply Keeps.step ?_ (State.modPen_keeps ?_) ?_
    | with_reducible apply Keeps.step ?_ State.prepare_keeps ?_
    | with_reducible apply State.forAll_keeps ?_ (fun u x => ?_) | split

/-! ## Machine/Sched.lean -/

theorem State.touchStores_keeps {a1 a2} {t : State} : Keeps [.pens] t (State.touchStores t a1 a2) := by
  unfold State.touchStores
  try dsimp only
  repeat' first
    | with_reducible apply Keeps.rfl | decide | with_reducible apply Keeps.step ?_ State.touchTable_keeps ?_
    | with_reducible apply State.forAll_keeps ?_ (fun u x => ?_) | split

theorem State.applyEffect_keeps {a1 a2 a3} {t : State} : Keeps [.host, .comp, .np, .health, .out] t (State.applyEffect t a1 a2 a3) := by
  unfold State.applyEffect
  try dsimp only
  repeat' first
    | with_reducible apply Keeps.rfl | decide | with_reducible apply Keeps.step ?_ State.modOp_keeps ?_
    | with_reducible apply Keeps.step ?_ State.npWrite_keeps ?_
    | with_reducible apply Keeps.step ?_ State.penAcc_keeps ?_
    | with_reducible apply Keeps.step ?_ State.penWrite_keeps ?_ | split

theorem State.exposed_keeps {a1} {t : State} : Keeps [.pens] t (State.exposed t a1) := by
  unfold State.exposed
  try dsimp only
  repeat' first
    | with_reducible apply Keeps.rfl | decide | with_reducible apply Keeps.step ?_ State.mapRoom_keeps ?_ | split

theorem State.releaseEffects_keeps {a1 a2} {t : State} : Keeps [.host, .comp, .pens, .np, .health, .out] t (State.releaseEffects t a1 a2) := by
  unfold State.releaseEffects
  try dsimp only
  repeat' first
    | with_reducible apply Keeps.rfl | decide | with_reducible apply Keeps.step ?_ State.applyEffect_keeps ?_
    | with_reducible apply Keeps.step ?_ State.exposed_keeps ?_
    | with_reducible apply Keeps.step ?_ State.npFlushSource_keeps ?_
    | with_reducible apply Keeps.step ?_ State.pagesAs_keeps ?_
    | with_reducible apply Keeps.step ?_ State.touchStores_keeps ?_
    | with_reducible apply State.forAll_keeps ?_ (fun u x => ?_) | split

theorem State.sweepReleased_keeps {t : State} : Keeps [.comp, .pens, .drover] t (State.sweepReleased t) := by
  unfold State.sweepReleased
  try dsimp only
  repeat' first
    | with_reducible apply Keeps.rfl | decide | ((with_reducible intro _ k); exact k) | ((with_reducible intro _ _); exact (by rfl))
    | ((with_reducible intro _ k); exact (by split <;> exact k)) | ((with_reducible intro _ k); exact Pen.adopt_sound k)
    | with_reducible apply Keeps.step ?_ State.freeCopies_keeps ?_
    | with_reducible apply Keeps.step ?_ (State.modPen_keeps ?_) ?_
    | with_reducible apply State.forAll_keeps ?_ (fun u x => ?_) | split

theorem State.roomOutput_keeps {a1 a2} {t : State} : Keeps [.host, .comp, .pens, .drover, .np, .health, .out, .free] t (State.roomOutput t a1 a2).1 := by
  unfold State.roomOutput
  try dsimp only
  repeat' first
    | with_reducible apply Keeps.rfl | decide | with_reducible apply Keeps.step ?_ State.allocate_keeps ?_ | split

theorem State.roomOutputs_keeps {a1 a2} {t : State} : Keeps [.host, .comp, .pens, .drover, .np, .health, .out, .free] t (State.roomOutputs t a1 a2).1 := by
  induction a2 generalizing t with
  | nil => exact Keeps.rfl
  | cons x l ih =>
    unfold State.roomOutputs
    dsimp only
    split
    · exact State.roomOutput_keeps.trans ih
    · exact State.roomOutput_keeps

theorem State.retryAlloc_keeps {a1} {t : State} : Keeps [.host, .comp, .pens, .drover, .np, .fab, .qe, .health, .out, .free] t (State.retryAlloc t a1) := by
  unfold State.retryAlloc
  try dsimp only
  repeat' first
    | with_reducible apply Keeps.rfl | decide | with_reducible apply Keeps.step ?_ State.allocate_keeps ?_
    | with_reducible apply Keeps.step ?_ State.modOp_keeps ?_
    | with_reducible apply Keeps.step ?_ State.roomOutputs_keeps ?_
    | with_reducible apply Keeps.step ?_ State.setAllocWait_keeps ?_
    | with_reducible apply Keeps.step ?_ State.takePath_keeps ?_
    | with_reducible apply State.forAll_keeps ?_ (fun u x => ?_) | split

theorem State.retryAllocs_keeps {t : State} : Keeps [.host, .comp, .pens, .drover, .np, .fab, .qe, .health, .out, .free] t (State.retryAllocs t) := by
  unfold State.retryAllocs
  try dsimp only
  repeat' first
    | with_reducible apply Keeps.rfl | decide | with_reducible apply Keeps.step ?_ State.retryAlloc_keeps ?_
    | with_reducible apply State.forAll_keeps ?_ (fun u x => ?_) | split

theorem State.signalAndRecord_keeps {a1 a2} {t : State} : Keeps [.host, .pens, .np, .qe, .health, .out] t (State.signalAndRecord t a1 a2) := by
  unfold State.signalAndRecord
  try dsimp only
  repeat' first
    | with_reducible apply Keeps.rfl | decide | with_reducible apply Keeps.step ?_ State.addCounter_keeps ?_
    | with_reducible apply Keeps.step ?_ State.completeOn_keeps ?_ | split

theorem State.reportMark_keeps {a1} {t : State} : Keeps [.host, .comp, .pens, .drover, .np, .fab, .qe, .health, .out, .free] t (State.reportMark t a1) := by
  unfold State.reportMark
  try dsimp only
  repeat' first
    | with_reducible apply Keeps.rfl | decide | with_reducible apply Keeps.step ?_ State.layerBoundary_keeps ?_
    | with_reducible apply Keeps.step ?_ State.layerMark_keeps ?_ | split

theorem State.countMiss_keeps {a1} {t : State} : Keeps [.health] t (State.countMiss t a1) := by
  unfold State.countMiss
  try dsimp only
  repeat' first
    | with_reducible apply Keeps.rfl | decide | with_reducible apply Keeps.step ?_ State.count_keeps ?_ | split

theorem State.fillRows_keeps {a1} {t : State} : Keeps [.host, .comp, .pens, .np, .health, .out, .free] t (State.fillRows t a1) := by
  unfold State.fillRows
  try dsimp only
  repeat' first
    | with_reducible apply Keeps.rfl | decide | with_reducible apply Keeps.step ?_ State.releaseEffects_keeps ?_
    | with_reducible apply Keeps.step ?_ State.spendRace_keeps ?_ | split

theorem State.releaseUnits_keeps {a1 a2 a3} {t : State} : Keeps [.host, .comp, .pens, .np, .health, .out] t (State.releaseUnits t a1 a2 a3) := by
  unfold State.releaseUnits
  try dsimp only
  repeat' first
    | with_reducible apply Keeps.rfl | decide | with_reducible apply Keeps.step ?_ State.exposed_keeps ?_
    | with_reducible apply Keeps.step ?_ State.modOp_keeps ?_
    | with_reducible apply Keeps.step ?_ State.releaseEffects_keeps ?_
    | with_reducible apply Keeps.step ?_ State.touchStores_keeps ?_ | split

theorem State.closeOp_keeps {a1} {t : State} : Keeps [.host, .comp, .pens, .np, .health, .out, .free] t (State.closeOp t a1) := by
  unfold State.closeOp
  try dsimp only
  repeat' first
    | with_reducible apply Keeps.rfl | decide | with_reducible apply Keeps.step ?_ State.fillRows_keeps ?_
    | with_reducible apply Keeps.step ?_ State.modOp_keeps ?_
    | with_reducible apply Keeps.step ?_ State.releaseUnits_keeps ?_ | split

theorem State.completeOp_keeps {a1} {t : State} : Keeps [.host, .comp, .pens, .drover, .np, .fab, .qe, .health, .out, .free] t (State.completeOp t a1) := by
  unfold State.completeOp
  try dsimp only
  repeat' first
    | with_reducible apply Keeps.rfl | decide | with_reducible apply Keeps.step ?_ State.countMiss_keeps ?_
    | with_reducible apply Keeps.step ?_ State.idleTensor_keeps ?_
    | with_reducible apply Keeps.step ?_ State.removeOp_keeps ?_
    | with_reducible apply Keeps.step ?_ State.reportMark_keeps ?_
    | with_reducible apply Keeps.step ?_ State.retryAllocs_keeps ?_
    | with_reducible apply Keeps.step ?_ State.runDescriptor_keeps ?_
    | with_reducible apply Keeps.step ?_ State.signalAndRecord_keeps ?_
    | with_reducible apply Keeps.step ?_ State.sweepQueues_keeps ?_
    | with_reducible apply Keeps.step ?_ State.sweepReleased_keeps ?_
    | with_reducible apply Keeps.step ?_ State.useTensor_keeps ?_
    | with_reducible apply State.forAll_keeps ?_ (fun u x => ?_) | split

theorem State.endOps_keeps {a1} {t : State} : Keeps [.host, .comp, .pens, .drover, .np, .fab, .qe, .health, .out, .free] t (State.endOps t a1) := by
  fun_induction State.endOps t a1
  all_goals try dsimp only
  all_goals
    repeat' first
      | refine Keeps.trans ?_ (by assumption) | assumption | with_reducible apply Keeps.rfl | decide
      | with_reducible apply Keeps.step ?_ State.closeOp_keeps ?_
      | with_reducible apply Keeps.step ?_ State.completeOp_keeps ?_ | split

theorem State.completeEnded_keeps {t : State} : Keeps [.host, .comp, .pens, .drover, .np, .fab, .qe, .health, .out, .free] t (State.completeEnded t) := by
  unfold State.completeEnded
  try dsimp only
  repeat' first
    | with_reducible apply Keeps.rfl | decide | with_reducible apply Keeps.step ?_ State.endOps_keeps ?_ | split

theorem State.issueFails_keeps {a1 a2 a3} {t : State} : Keeps [.host, .np, .qe, .health, .out] t (State.issueFails t a1 a2 a3) := by
  unfold State.issueFails
  try dsimp only
  repeat' first
    | with_reducible apply Keeps.rfl | decide | with_reducible apply Keeps.step ?_ State.completeOn_keeps ?_
    | with_reducible apply Keeps.step ?_ State.modQueue_keeps ?_ | split

theorem State.collDoorbell_keeps {a1} {t : State} : Keeps [.host, .np, .qe, .health, .out] t (State.collDoorbell t a1) := by
  unfold State.collDoorbell
  try dsimp only
  repeat' first
    | with_reducible apply Keeps.rfl | decide | with_reducible apply Keeps.step ?_ State.haltEvent_keeps ?_
    | with_reducible apply Keeps.step ?_ State.modQueue_keeps ?_ | split

theorem State.takeBasePoison_keeps {a1 a2} {t : State} : Keeps [.host, .comp, .pens, .drover, .np, .fab, .qe, .health, .out, .free] t (State.takeBasePoison t a1 a2) := by
  unfold State.takeBasePoison
  try dsimp only
  repeat' first
    | with_reducible apply Keeps.rfl | decide | with_reducible apply Keeps.step ?_ State.modDrover_keeps ?_
    | with_reducible apply Keeps.step ?_ State.penFault_keeps ?_ | split

theorem State.demand_keeps {a1} {t : State} : Keeps [.host, .comp, .pens, .drover, .np, .fab, .qe, .health, .out, .free] t (State.demand t a1) := by
  unfold State.demand
  try dsimp only
  repeat' first
    | with_reducible apply Keeps.rfl | decide | with_reducible apply Keeps.step ?_ State.takePath_keeps ?_
    | with_reducible apply State.forAll_keeps ?_ (fun u x => ?_) | split

theorem State.openOutput_keeps {a1 a2} {t : State} : Keeps [.comp, .pens, .drover] t (State.openOutput t a1 a2) := by
  unfold State.openOutput
  try dsimp only
  repeat' first
    | with_reducible apply Keeps.rfl | decide | with_reducible apply Keeps.step ?_ State.abandonRun_keeps ?_
    | with_reducible apply Keeps.step ?_ State.becomeNear_keeps ?_
    | with_reducible apply Keeps.step ?_ State.modTensor_keeps ?_
    | with_reducible apply Keeps.step ?_ State.rejectOpen_keeps ?_ | split

theorem State.openOutputs_keeps {a1} {t : State} : Keeps [.comp, .pens, .drover] t (State.openOutputs t a1) := by
  unfold State.openOutputs
  try dsimp only
  repeat' first
    | with_reducible apply Keeps.rfl | decide | with_reducible apply Keeps.step ?_ State.modOp_keeps ?_
    | with_reducible apply Keeps.step ?_ State.openOutput_keeps ?_
    | with_reducible apply State.forAll_keeps ?_ (fun u x => ?_) | split

theorem State.poisonTensor_keeps {a1 a2 a3} {t : State} : Keeps [.host, .comp, .pens, .drover, .np, .fab, .qe, .health, .out, .free] t (State.poisonTensor t a1 a2 a3) := by
  unfold State.poisonTensor
  try dsimp only
  repeat' first
    | with_reducible apply Keeps.rfl | decide | with_reducible apply Keeps.step ?_ State.discardTask_keeps ?_
    | with_reducible apply Keeps.step ?_ State.dropNear_keeps ?_
    | with_reducible apply Keeps.step ?_ State.modTensor_keeps ?_
    | with_reducible apply Keeps.step ?_ State.penFault_keeps ?_
    | with_reducible apply State.forAll_keeps ?_ (fun u x => ?_) | split

theorem State.moveBase_keeps {a1 a2} {t : State} : Keeps [.comp, .drover] t (State.moveBase t a1 a2) := by
  unfold State.moveBase
  try dsimp only
  repeat' first
    | with_reducible apply Keeps.rfl | decide | with_reducible apply Keeps.step ?_ State.freeBasePages_keeps ?_
    | with_reducible apply Keeps.step ?_ State.modBase_keeps ?_
    | with_reducible apply Keeps.step ?_ State.modDrover_keeps ?_
    | with_reducible apply Keeps.step ?_ State.unstage_keeps ?_ | split

theorem State.reloadBase_keeps {a1} {t : State} : Keeps [.comp, .pens, .drover, .health, .out] t (State.reloadBase t a1) := by
  unfold State.reloadBase
  try dsimp only
  repeat' first
    | with_reducible apply Keeps.rfl | decide | with_reducible apply Keeps.step ?_ State.beginFetch_keeps ?_
    | with_reducible apply Keeps.step ?_ State.moveBase_keeps ?_ | split

theorem State.dropEncodesOn_keeps {a1} {t : State} : Keeps [.pens] t (State.dropEncodesOn t a1) := by
  refine ⟨⟨fun a h => by cases a <;> first | rfl | exact absurd (by decide) h, rfl⟩, fun h => { h with
    pens := ⟨by simpa [State.dropEncodesOn] using h.pens.1, fun p hp => ?_⟩ }⟩
  obtain ⟨q, hq, rfl⟩ := List.mem_map.1 hp
  exact h.pens.2 q hq

theorem State.poisonBase_keeps {a1} {t : State} : Keeps [.host, .comp, .pens, .drover, .np, .fab, .qe, .health, .out, .free] t (State.poisonBase t a1) := by
  unfold State.poisonBase
  try dsimp only
  repeat' first
    | with_reducible apply Keeps.rfl | decide | with_reducible apply Keeps.step ?_ State.dropEncodesOn_keeps ?_
    | with_reducible apply Keeps.step ?_ State.modBase_keeps ?_
    | with_reducible apply Keeps.step ?_ State.modDrover_keeps ?_
    | with_reducible apply Keeps.step ?_ State.reloadBase_keeps ?_
    | with_reducible apply Keeps.step ?_ State.takeBasePoison_keeps ?_
    | with_reducible apply State.forAll_keeps ?_ (fun u x => ?_) | split

theorem State.meetPoison_keeps {a1} {t : State} : Keeps [.host, .comp, .pens, .drover, .np, .fab, .qe, .health, .out, .free] t (State.meetPoison t a1) := by
  unfold State.meetPoison
  try dsimp only
  repeat' first
    | with_reducible apply Keeps.rfl | decide | with_reducible apply Keeps.step ?_ State.poisonBase_keeps ?_
    | with_reducible apply Keeps.step ?_ State.poisonTensor_keeps ?_
    | with_reducible apply Keeps.step ?_ State.retryAllocs_keeps ?_ | split

theorem State.takeInputs_keeps {a1 a2 a3 a4} {t : State} : Keeps [.host, .comp, .pens, .drover, .np, .fab, .qe, .health, .out, .free] t (State.takeInputs t a1 a2 a3 a4) := by
  unfold State.takeInputs
  try dsimp only
  repeat' first
    | with_reducible apply Keeps.rfl | decide | with_reducible apply Keeps.step ?_ State.loadTask_keeps ?_
    | with_reducible apply Keeps.step ?_ State.meetPoison_keeps ?_ | split

theorem State.serveTables_keeps {a1} {t : State} : Keeps [.host, .comp, .pens, .drover, .np, .fab, .qe, .health, .out, .free] t (State.serveTables t a1) := by
  unfold State.serveTables
  try dsimp only
  repeat' first
    | with_reducible apply Keeps.rfl | decide | with_reducible apply Keeps.step ?_ State.completeEnded_keeps ?_
    | with_reducible apply Keeps.step ?_ State.meetPoison_keeps ?_
    | with_reducible apply Keeps.step ?_ State.modOp_keeps ?_
    | with_reducible apply Keeps.step ?_ State.opFault_keeps ?_
    | with_reducible apply Keeps.step ?_ State.penFlush_keeps ?_
    | with_reducible apply Keeps.step ?_ State.spendRace_keeps ?_
    | with_reducible apply State.forAll_keeps ?_ (fun u x => ?_) | split

theorem State.afterIssue_keeps {a1 a2} {t : State} : Keeps [.host, .comp, .pens, .drover, .np, .fab, .qe, .health, .out, .free] t (State.afterIssue t a1 a2) := by
  unfold State.afterIssue
  try dsimp only
  repeat' first
    | with_reducible apply Keeps.rfl | decide | with_reducible apply Keeps.step ?_ State.collDoorbell_keeps ?_
    | with_reducible apply Keeps.step ?_ State.completeEnded_keeps ?_
    | with_reducible apply Keeps.step ?_ State.serveTables_keeps ?_ | split

theorem State.issue_keeps {a1 a2} {t : State} : Keeps [.host, .comp, .pens, .drover, .np, .fab, .qe, .health, .out, .free] t (State.issue t a1 a2) := by
  unfold State.issue
  try dsimp only
  repeat' first
    | with_reducible apply Keeps.rfl | decide | with_reducible apply Keeps.step ?_ State.afterIssue_keeps ?_
    | with_reducible apply Keeps.step ?_ State.newOp_keeps ?_
    | with_reducible apply Keeps.step ?_ State.takeEntry_keeps ?_ | split

theorem State.issueHead_keeps {a1 a2} {t : State} : Keeps [.host, .comp, .pens, .drover, .np, .fab, .qe, .health, .out, .free] t (State.issueHead t a1 a2) := by
  unfold State.issueHead
  try dsimp only
  repeat' first
    | with_reducible apply Keeps.rfl | decide | with_reducible apply Keeps.step ?_ State.haltEvent_keeps ?_
    | with_reducible apply Keeps.step ?_ State.issue_keeps ?_
    | with_reducible apply Keeps.step ?_ State.issueFails_keeps ?_
    | with_reducible apply Keeps.step ?_ State.meetPoison_keeps ?_
    | with_reducible apply Keeps.step ?_ State.takePath_keeps ?_
    | with_reducible apply State.forAll_keeps ?_ (fun u x => ?_) | split

theorem State.place_keeps {a1 a2 a3 a4} {t : State} : Keeps [.host, .comp, .pens, .drover, .np, .fab, .qe, .health, .out, .free] t (State.place t a1 a2 a3 a4) := by
  unfold State.place
  try dsimp only
  repeat' first
    | with_reducible apply Keeps.rfl | decide | ((with_reducible intro h); apply h.comp) | ((with_reducible intro h); exact ⟨rebuildFolds_length, h.comp.2⟩)
    | ((with_reducible intro h); exact ⟨rebuildFolds_length, rebuildSlots_length⟩)
    | with_reducible apply Keeps.step ?_ (State.modComp_keeps ?_) ?_
    | with_reducible apply Keeps.step ?_ State.modHalf_keeps ?_
    | with_reducible apply Keeps.step ?_ State.modOp_keeps ?_
    | with_reducible apply Keeps.step ?_ State.openOutputs_keeps ?_
    | with_reducible apply Keeps.step ?_ State.takeInputs_keeps ?_ | split
    | ((with_reducible intro h); exact by simpa [Compute.Sound] using h.comp)

theorem State.preempt_keeps {a1 a2} {t : State} : Keeps [.comp, .health] t (State.preempt t a1 a2) := by
  unfold State.preempt
  try dsimp only
  repeat' first
    | with_reducible apply Keeps.rfl | decide | with_reducible apply Keeps.step ?_ State.count_keeps ?_
    | with_reducible apply Keeps.step ?_ State.modHalf_keeps ?_
    | with_reducible apply Keeps.step ?_ State.modOp_keeps ?_ | split

theorem State.placeAll_keeps {a1 a2 a3} {t : State} : Keeps [.host, .comp, .pens, .drover, .np, .fab, .qe, .health, .out, .free] t (State.placeAll t a1 a2 a3) := by
  fun_induction State.placeAll t a1 a2 a3
  all_goals repeat' first
    | with_reducible apply Keeps.rfl | decide | assumption | refine Keeps.trans ?_ (by assumption)
    | with_reducible apply Keeps.step ?_ State.place_keeps ?_
    | with_reducible apply Keeps.step ?_ State.preempt_keeps ?_ | split

theorem State.giveOutputs_keeps {a1} {t : State} : Keeps [.host, .comp, .pens, .drover, .np, .health, .out, .free] t (State.giveOutputs t a1).1 := by
  unfold State.giveOutputs
  try dsimp only
  repeat' first
    | with_reducible apply Keeps.rfl | decide | with_reducible apply Keeps.step ?_ State.modOp_keeps ?_
    | with_reducible apply Keeps.step ?_ State.roomOutputs_keeps ?_
    | with_reducible apply Keeps.step ?_ State.setAllocWait_keeps ?_
    | with_reducible apply State.forAll_keeps ?_ (fun u x => ?_) | split

theorem State.startTask_keeps {a1 a2} {t : State} : Keeps [.host, .comp, .pens, .drover, .np, .fab, .qe, .health, .out, .free] t (State.startTask t a1 a2).1 := by
  unfold State.startTask
  try dsimp only
  repeat' first
    | with_reducible apply Keeps.rfl | decide | with_reducible apply Keeps.step ?_ State.giveOutputs_keeps ?_
    | with_reducible apply Keeps.step ?_ State.placeAll_keeps ?_ | split

theorem State.finishTaskless_keeps {a1} {t : State} : Keeps [.host, .comp, .pens, .drover, .np, .fab, .qe, .health, .out, .free] t (State.finishTaskless t a1) := by
  unfold State.finishTaskless
  try dsimp only
  repeat' first
    | with_reducible apply Keeps.rfl | decide | with_reducible apply Keeps.step ?_ State.completeEnded_keeps ?_
    | with_reducible apply Keeps.step ?_ State.giveOutputs_keeps ?_
    | with_reducible apply Keeps.step ?_ State.openOutputs_keeps ?_ | split

theorem State.serveNeeds_keeps {t : State} : Keeps [.host, .comp, .pens, .drover, .np, .fab, .qe, .health, .out, .free] t (State.serveNeeds t) := by
  unfold State.serveNeeds
  try dsimp only
  repeat' first
    | with_reducible apply Keeps.rfl | decide | with_reducible apply Keeps.step ?_ State.demand_keeps ?_
    | with_reducible apply Keeps.step ?_ State.finishTaskless_keeps ?_
    | with_reducible apply Keeps.step ?_ State.serveTables_keeps ?_
    | with_reducible apply Keeps.step ?_ State.takeBasePoison_keeps ?_
    | with_reducible apply State.forAll_keeps ?_ (fun u x => ?_) | split

theorem State.startNext_keeps {a1} {t : State} : Keeps [.host, .comp, .pens, .drover, .np, .fab, .qe, .health, .out, .free] t (State.startNext t a1) := by
  fun_induction State.startNext t a1
  all_goals try dsimp only
  all_goals
    repeat' first
      | refine Keeps.trans ?_ (by assumption) | assumption | with_reducible apply Keeps.rfl | decide
      | with_reducible apply Keeps.step ?_ State.startTask_keeps ?_ | split

theorem State.schedule_keeps {t : State} : Keeps [.host, .comp, .pens, .drover, .np, .fab, .qe, .health, .out, .free] t (State.schedule t) := by
  unfold State.schedule
  try dsimp only
  repeat' first
    | with_reducible apply Keeps.rfl | decide | with_reducible apply Keeps.step ?_ State.serveNeeds_keeps ?_
    | with_reducible apply Keeps.step ?_ State.startNext_keeps ?_ | split

/-! ## Machine/Coordination.lean -/

theorem foldl_length {α β : Type} {f : List α → β → List α} (hf : ∀ l x, (f l x).length = l.length) (xs : List β) (l : List α) :
    (xs.foldl f l).length = l.length := by
  induction xs generalizing l with
  | nil => rfl
  | cons x xs ih => exact (ih _).trans (hf l x)

theorem State.sendJoin_keeps {a1} {t : State} : Keeps [.fab, .health] t (State.sendJoin t a1) := by
  unfold State.sendJoin
  try dsimp only
  repeat' first
    | with_reducible apply Keeps.rfl | decide | with_reducible apply Keeps.step ?_ State.sendLeaders_keeps ?_ | split

theorem State.join_keeps {a1} {t : State} : Keeps [.pens, .fab, .health] t (State.join t a1) := by
  unfold State.join
  try dsimp only
  repeat' first
    | with_reducible apply Keeps.rfl | decide | ((with_reducible intro _ k); exact k) | ((with_reducible intro _ _); exact (by rfl))
    | ((with_reducible intro _ k); exact (by split <;> exact k)) | ((with_reducible intro _ k); exact Pen.adopt_sound k)
    | with_reducible apply Keeps.step ?_ (State.modPen_keeps ?_) ?_
    | with_reducible apply Keeps.step ?_ State.sendJoin_keeps ?_ | split

theorem State.rejoin_keeps {t : State} : Keeps [.pens, .fab, .health] t (State.rejoin t) := by
  unfold State.rejoin
  try dsimp only
  repeat' first
    | with_reducible apply Keeps.rfl | decide | with_reducible apply Keeps.step ?_ State.join_keeps ?_
    | with_reducible apply State.forAll_keeps ?_ (fun u x => ?_) | split

theorem State.nameLeaders_keeps {a1 a2} {t : State} : Keeps [.boot, .fab, .time] t (State.nameLeaders t a1 a2) := by
  unfold State.nameLeaders
  try dsimp only
  repeat' first
    | with_reducible apply Keeps.rfl | decide | ((with_reducible intro h); apply h.boot)
    | ((with_reducible intro h); exact ⟨h.boot.1, h.boot.2.1, h.boot.2.2.1, satInc_le⟩)
    | ((with_reducible intro h); exact ⟨h.boot.1, h.boot.1, satInc_le, h.boot.2.2.2⟩) | ((with_reducible intro h); apply h.fab)
    | with_reducible apply Keeps.step ?_ (State.modBoot_keeps ?_) ?_
    | with_reducible apply Keeps.step ?_ (State.modFab_keeps ?_) ?_
    | with_reducible apply Keeps.step ?_ State.retime_keeps ?_ | split
    | ((with_reducible intro h); exact by simpa [Fabric.Sound] using h.fab)

theorem State.nameDeputy_keeps {t : State} : Keeps [.boot, .pens, .fab, .time, .health, .free] t (State.nameDeputy t) := by
  unfold State.nameDeputy
  try dsimp only
  repeat' first
    | with_reducible apply Keeps.rfl | decide | with_reducible apply Keeps.step ?_ State.nameLeaders_keeps ?_
    | with_reducible apply Keeps.step ?_ State.rejoin_keeps ?_
    | with_reducible apply Keeps.step ?_ State.sendDown_keeps ?_ | split

theorem State.markUnusable_keeps {a1} {t : State} : Keeps [.boot, .pens, .fab, .time, .coord, .health, .free] t (State.markUnusable t a1) := by
  unfold State.markUnusable
  try dsimp only
  repeat' first
    | with_reducible apply Keeps.rfl | decide | with_reducible apply Keeps.step ?_ State.modCoord_keeps ?_
    | with_reducible apply Keeps.step ?_ State.nameDeputy_keeps ?_ | split

theorem execBeacon_keeps {t : State} : Result.Keeps [.fab, .coord, .out] t (execBeacon t) := by
  unfold execBeacon
  try dsimp only
  repeat' first
    | with_reducible apply Keeps.rfl | decide | with_reducible apply Result.keeps_done | with_reducible apply Result.keeps_fault
    | with_reducible apply Keeps.step ?_ State.modCoord_keeps ?_
    | with_reducible apply Keeps.step ?_ State.quiet_keeps ?_
    | with_reducible apply Keeps.step ?_ State.takePacket_keeps ?_ | split

theorem execBeaconPeriod_keeps {t : State} : Result.Keeps [.fab, .health, .out] t (execBeaconPeriod t) := by
  unfold execBeaconPeriod
  try dsimp only
  repeat' first
    | with_reducible apply Keeps.rfl | decide | with_reducible apply Result.keeps_done | with_reducible apply Result.keeps_fault
    | with_reducible apply Keeps.step ?_ State.quiet_keeps ?_
    | with_reducible apply Keeps.step ?_ State.sendMgmt_keeps ?_ | split

theorem execBeaconTimeout_keeps {t : State} : Result.Keeps [.fab, .coord, .health, .out] t (execBeaconTimeout t) := by
  unfold execBeaconTimeout
  try dsimp only
  repeat' first
    | with_reducible apply Keeps.rfl | decide | with_reducible apply Result.keeps_done | with_reducible apply Result.keeps_fault
    | with_reducible apply Keeps.step ?_ State.modCoord_keeps ?_
    | with_reducible apply Keeps.step ?_ State.quiet_keeps ?_
    | with_reducible apply Keeps.step ?_ State.sendMgmt_keeps ?_ | split

theorem State.takeOver_keeps {t : State} : Keeps [.boot, .pens, .fab, .time, .coord, .health, .free] t (State.takeOver t) := by
  unfold State.takeOver
  try dsimp only
  repeat' first
    | with_reducible apply Keeps.rfl | decide | with_reducible apply Keeps.step ?_ State.modCoord_keeps ?_
    | with_reducible apply Keeps.step ?_ State.nameDeputy_keeps ?_ | split

theorem State.leaderRefused_keeps {a1 a2 a3} {t : State} : Keeps [.boot, .pens, .fab, .time, .coord, .health, .free] t (State.leaderRefused t a1 a2 a3) := by
  unfold State.leaderRefused
  try dsimp only
  repeat' first
    | with_reducible apply Keeps.rfl | decide | with_reducible apply Keeps.step ?_ State.markUnusable_keeps ?_
    | with_reducible apply Keeps.step ?_ State.takeOver_keeps ?_ | split

theorem execProbe_keeps {t : State} : Result.Keeps [.fab, .coord, .health, .out] t (execProbe t) := by
  unfold execProbe
  try dsimp only
  repeat' first
    | with_reducible apply Keeps.rfl | decide | with_reducible apply Result.keeps_done | with_reducible apply Result.keeps_fault
    | with_reducible apply Keeps.step ?_ State.modCoord_keeps ?_
    | with_reducible apply Keeps.step ?_ State.quiet_keeps ?_
    | with_reducible apply Keeps.step ?_ State.sendMgmt_keeps ?_
    | with_reducible apply Keeps.step ?_ State.takePacket_keeps ?_ | split

theorem State.modJob_keeps {a1 a2} {t : State} : Keeps [.coord] t (State.modJob t a1 a2) := by
  unfold State.modJob
  try dsimp only
  repeat' first
    | with_reducible apply Keeps.rfl | decide | with_reducible apply Keeps.step ?_ State.modCoord_keeps ?_ | split

theorem State.sendRecovery_keeps {a1 a2} {t : State} : Keeps [.fab, .health] t (State.sendRecovery t a1 a2) := by
  unfold State.sendRecovery
  try dsimp only
  repeat' first
    | with_reducible apply Keeps.rfl | decide | with_reducible apply Keeps.step ?_ State.sendMgmt_keeps ?_ | split

theorem State.announce_keeps {a1 a2} {t : State} : Keeps [.fab, .coord, .health] t (State.announce t a1 a2) := by
  unfold State.announce
  try dsimp only
  repeat' first
    | with_reducible apply Keeps.rfl | decide | with_reducible apply Keeps.step ?_ State.modJob_keeps ?_
    | with_reducible apply Keeps.step ?_ State.sendRecovery_keeps ?_
    | with_reducible apply State.forAll_keeps ?_ (fun u x => ?_) | split

theorem State.isolateMember_keeps {a1 a2} {t : State} : Keeps [.boot, .pens, .fab, .time, .coord, .health, .free] t (State.isolateMember t a1 a2) := by
  unfold State.isolateMember
  try dsimp only
  repeat' first
    | with_reducible apply Keeps.rfl | decide | with_reducible apply Keeps.step ?_ State.markUnusable_keeps ?_
    | with_reducible apply Keeps.step ?_ State.modJob_keeps ?_
    | with_reducible apply Keeps.step ?_ State.sendMgmt_keeps ?_ | split

theorem State.spareBits_keeps {a1} {t : State} : Keeps [.free] t (State.spareBits t a1).2 := by
  unfold State.spareBits
  try dsimp only
  repeat' first
    | with_reducible apply Keeps.rfl | decide | with_reducible apply Keeps.step ?_ State.draw_keeps ?_ | split

theorem State.enterPlan_keeps {a1} {t : State} : Keeps [.fab, .coord, .health, .free] t (State.enterPlan t a1) := by
  unfold State.enterPlan
  try dsimp only
  repeat' first
    | with_reducible apply Keeps.rfl | decide | with_reducible apply Keeps.step ?_ State.announce_keeps ?_
    | with_reducible apply Keeps.step ?_ State.modJob_keeps ?_
    | with_reducible apply Keeps.step ?_ State.spareBits_keeps ?_
    | with_reducible apply Keeps.step ?_ State.spend_keeps ?_ | split

theorem State.advanceJob_keeps {a1} {t : State} : Keeps [.fab, .coord, .health, .free] t (State.advanceJob t a1) := by
  unfold State.advanceJob
  try dsimp only
  repeat' first
    | with_reducible apply Keeps.rfl | decide | with_reducible apply Keeps.step ?_ State.enterPlan_keeps ?_
    | with_reducible apply Keeps.step ?_ State.modJob_keeps ?_ | split

theorem State.settleJob_keeps {a1} {t : State} : Keeps [.fab, .coord, .health] t (State.settleJob t a1) := by
  unfold State.settleJob
  try dsimp only
  repeat' first
    | with_reducible apply Keeps.rfl | decide | with_reducible apply Keeps.step ?_ State.announce_keeps ?_
    | with_reducible apply Keeps.step ?_ State.modJob_keeps ?_ | split

theorem State.takeJoin_keeps {a1 a2 a3 a4 a5} {t : State} : Keeps [.fab, .coord, .health] t (State.takeJoin t a1 a2 a3 a4 a5) := by
  unfold State.takeJoin
  try dsimp only
  repeat' first
    | with_reducible apply Keeps.rfl | decide | with_reducible apply Keeps.step ?_ State.modCoord_keeps ?_
    | with_reducible apply Keeps.step ?_ State.modJob_keeps ?_
    | with_reducible apply Keeps.step ?_ State.sendRecovery_keeps ?_
    | with_reducible apply Keeps.step ?_ State.settleJob_keeps ?_
    | with_reducible apply State.forAll_keeps ?_ (fun u x => ?_) | split

theorem execJoin_keeps {t : State} : Result.Keeps [.fab, .coord, .health, .out] t (execJoin t) := by
  unfold execJoin
  try dsimp only
  repeat' first
    | with_reducible apply Keeps.rfl | decide | with_reducible apply Result.keeps_done | with_reducible apply Result.keeps_fault
    | with_reducible apply Keeps.step ?_ State.count_keeps ?_
    | with_reducible apply Keeps.step ?_ State.quiet_keeps ?_
    | with_reducible apply Keeps.step ?_ State.takeJoin_keeps ?_
    | with_reducible apply Keeps.step ?_ State.takePacket_keeps ?_ | split

theorem execFaultNotice_keeps {t : State} : Result.Keeps [.boot, .pens, .fab, .time, .coord, .health, .out, .free] t (execFaultNotice t) := by
  unfold execFaultNotice
  try dsimp only
  repeat' first
    | with_reducible apply Keeps.rfl | decide | with_reducible apply Result.keeps_done | with_reducible apply Result.keeps_fault
    | with_reducible apply Keeps.step ?_ State.count_keeps ?_
    | with_reducible apply Keeps.step ?_ State.markUnusable_keeps ?_
    | with_reducible apply Keeps.step ?_ State.modJob_keeps ?_
    | with_reducible apply Keeps.step ?_ State.quiet_keeps ?_
    | with_reducible apply Keeps.step ?_ State.takePacket_keeps ?_ | split

theorem execCollectEnd_keeps {a0} {t : State} : Result.Keeps [.boot, .pens, .fab, .time, .coord, .health, .out, .free] t (execCollectEnd a0 t) := by
  unfold execCollectEnd
  try dsimp only
  repeat' first
    | with_reducible apply Keeps.rfl | decide | with_reducible apply Result.keeps_done | with_reducible apply Result.keeps_fault
    | with_reducible apply Keeps.step ?_ State.advanceJob_keeps ?_
    | with_reducible apply Keeps.step ?_ State.announce_keeps ?_
    | with_reducible apply Keeps.step ?_ State.isolateMember_keeps ?_
    | with_reducible apply Keeps.step ?_ State.modJob_keeps ?_
    | with_reducible apply Keeps.step ?_ State.quiet_keeps ?_
    | with_reducible apply State.forAll_keeps ?_ (fun u x => ?_) | split

theorem execHaltAckTimeout_keeps {a0} {t : State} : Result.Keeps [.boot, .pens, .fab, .time, .coord, .health, .out, .free] t (execHaltAckTimeout a0 t) := by
  unfold execHaltAckTimeout
  try dsimp only
  repeat' first
    | with_reducible apply Keeps.rfl | decide | with_reducible apply Result.keeps_done | with_reducible apply Result.keeps_fault
    | with_reducible apply Keeps.step ?_ State.advanceJob_keeps ?_
    | with_reducible apply Keeps.step ?_ State.isolateMember_keeps ?_
    | with_reducible apply Keeps.step ?_ State.modJob_keeps ?_
    | with_reducible apply Keeps.step ?_ State.quiet_keeps ?_
    | with_reducible apply State.forAll_keeps ?_ (fun u x => ?_) | split

theorem execRecoveryAck_keeps {t : State} : Result.Keeps [.fab, .coord, .health, .out, .free] t (execRecoveryAck t) := by
  unfold execRecoveryAck
  try dsimp only
  repeat' first
    | with_reducible apply Keeps.rfl | decide | with_reducible apply Result.keeps_done | with_reducible apply Result.keeps_fault
    | with_reducible apply Keeps.step ?_ State.advanceJob_keeps ?_
    | with_reducible apply Keeps.step ?_ State.count_keeps ?_
    | with_reducible apply Keeps.step ?_ State.modJob_keeps ?_
    | with_reducible apply Keeps.step ?_ State.quiet_keeps ?_
    | with_reducible apply Keeps.step ?_ State.takePacket_keeps ?_ | split

theorem State.keepReport_keeps {a1 a2} {t : State} : Keeps [.host, .coord, .out] t (State.keepReport t a1 a2) := by
  unfold State.keepReport
  try dsimp only
  repeat' first
    | with_reducible apply Keeps.rfl | decide | with_reducible apply Keeps.step ?_ State.healthEvent_keeps ?_
    | with_reducible apply Keeps.step ?_ State.modCoord_keeps ?_
    | with_reducible apply State.forAll_keeps ?_ (fun u x => ?_) | split

theorem State.actOn_keeps {a1 a2} {t : State} : Keeps [.host, .comp, .pens, .drover, .np, .fab, .qe, .video, .health, .out, .free] t (State.actOn t a1 a2) := by
  unfold State.actOn
  try dsimp only
  repeat' first
    | with_reducible apply Keeps.rfl | decide | ((with_reducible intro _ k); exact k) | ((with_reducible intro _ _); exact (by rfl))
    | ((with_reducible intro _ k); exact (by split <;> exact k)) | ((with_reducible intro _ k); exact Pen.adopt_sound k)
    | with_reducible apply Keeps.step ?_ State.abortPen_keeps ?_
    | with_reducible apply Keeps.step ?_ (State.modPen_keeps ?_) ?_
    | with_reducible apply Keeps.step ?_ State.retryAllocs_keeps ?_
    | with_reducible apply State.forAll_keeps ?_ (fun u x => ?_) | split

theorem execRecovery_keeps {t : State} : Result.Keeps [.host, .comp, .pens, .drover, .np, .fab, .qe, .coord, .video, .health, .out, .free] t (execRecovery t) := by
  unfold execRecovery
  try dsimp only
  repeat' first
    | with_reducible apply Keeps.rfl | decide | with_reducible apply Result.keeps_done | with_reducible apply Result.keeps_fault
    | with_reducible apply Keeps.step ?_ State.actOn_keeps ?_
    | with_reducible apply Keeps.step ?_ State.count_keeps ?_
    | with_reducible apply Keeps.step ?_ State.keepReport_keeps ?_
    | with_reducible apply Keeps.step ?_ State.quiet_keeps ?_
    | with_reducible apply Keeps.step ?_ State.sendMgmt_keeps ?_
    | with_reducible apply Keeps.step ?_ State.takePacket_keeps ?_ | split

theorem execProbeTimeout_keeps {t : State} : Result.Keeps [.boot, .pens, .fab, .time, .coord, .health, .out, .free] t (execProbeTimeout t) := by
  unfold execProbeTimeout
  try dsimp only
  repeat' first
    | with_reducible apply Keeps.rfl | decide | with_reducible apply Result.keeps_done | with_reducible apply Result.keeps_fault
    | with_reducible apply Keeps.step ?_ State.quiet_keeps ?_
    | with_reducible apply Keeps.step ?_ State.takeOver_keeps ?_ | split

theorem execBellwetherChange_keeps {t : State} : Result.Keeps [.boot, .pens, .fab, .time, .health, .out, .free] t (execBellwetherChange t) := by
  unfold execBellwetherChange
  try dsimp only
  repeat' first
    | with_reducible apply Keeps.rfl | decide | with_reducible apply Result.keeps_done | with_reducible apply Result.keeps_fault
    | with_reducible apply Keeps.step ?_ State.nameLeaders_keeps ?_
    | with_reducible apply Keeps.step ?_ State.quiet_keeps ?_
    | with_reducible apply Keeps.step ?_ State.rejoin_keeps ?_
    | with_reducible apply Keeps.step ?_ State.sendOn_keeps ?_
    | with_reducible apply Keeps.step ?_ State.takePacket_keeps ?_ | split

theorem execCoordinatorLost_keeps {a0} {t : State} : Result.Keeps [.boot, .out] t (execCoordinatorLost a0 t) := by
  unfold execCoordinatorLost
  try dsimp only
  repeat' first
    | with_reducible apply Keeps.rfl | decide | with_reducible apply Result.keeps_done | with_reducible apply Result.keeps_fault
    | ((with_reducible intro h); apply h.boot) | ((with_reducible intro h); exact ⟨h.boot.1, h.boot.2.1, h.boot.2.2.1, satInc_le⟩)
    | ((with_reducible intro h); exact ⟨h.boot.1, h.boot.1, satInc_le, h.boot.2.2.2⟩)
    | with_reducible apply Keeps.step ?_ (State.modBoot_keeps ?_) ?_
    | with_reducible apply Keeps.step ?_ State.quiet_keeps ?_ | split

theorem execManagementResend_keeps {t : State} : Result.Keeps [.fab, .health, .out] t (execManagementResend t) := by
  unfold execManagementResend
  try dsimp only
  repeat' first
    | with_reducible apply Keeps.rfl | decide | with_reducible apply Result.keeps_done | with_reducible apply Result.keeps_fault
    | with_reducible apply Keeps.step ?_ State.quiet_keeps ?_
    | with_reducible apply Keeps.step ?_ State.sendEpochReq_keeps ?_
    | with_reducible apply Keeps.step ?_ State.sendJoin_keeps ?_
    | with_reducible apply Keeps.step ?_ State.sendNotice_keeps ?_
    | with_reducible apply Keeps.step ?_ State.sendRecovery_keeps ?_
    | with_reducible apply State.forAll_keeps ?_ (fun u x => ?_) | split

theorem execIsolate_keeps {t : State} : Result.Keeps [.boot, .host, .comp, .pens, .drover, .np, .fab, .qe, .health, .out, .free] t (execIsolate t) := by
  unfold execIsolate
  try dsimp only
  repeat' first
    | with_reducible apply Keeps.rfl | decide | with_reducible apply Result.keeps_done | with_reducible apply Result.keeps_fault
    | with_reducible apply Keeps.step ?_ State.count_keeps ?_
    | with_reducible apply Keeps.step ?_ State.enterTransitOnly_keeps ?_
    | with_reducible apply Keeps.step ?_ State.quiet_keeps ?_
    | with_reducible apply Keeps.step ?_ State.takePacket_keeps ?_ | split

theorem State.setTopology_keeps {a1} {t : State} : Keeps [.boot, .fab, .time] t (State.setTopology t a1) := by
  unfold State.setTopology
  dsimp only
  refine Keeps.step (State.forAll_keeps ((State.modFab_keeps (fun h => ⟨h.fab.1, rfl⟩)).mono (by decide)) (fun u x => ?_))
    State.nameLeaders_keeps (by decide)
  exact State.modPort_keeps.mono (by decide)

theorem State.breakLinks_keeps {a1} {t : State} : Keeps [.fab] t (State.breakLinks t a1) := by
  unfold State.breakLinks
  try dsimp only
  repeat' first
    | with_reducible apply Keeps.rfl | decide
    | ((with_reducible intro h); exact ⟨h.fab.1, (foldl_length (fun l x => by split <;> simp) _ _).trans h.fab.2⟩) | ((with_reducible intro h); apply h.fab)
    | with_reducible apply Keeps.step ?_ (State.modFab_keeps ?_) ?_ | split
    | ((with_reducible intro h); exact by simpa [Fabric.Sound] using h.fab)

theorem execTopologyDrainComplete_keeps {t : State} : Result.Keeps [.boot, .host, .fab, .qe, .time, .health, .out] t (execTopologyDrainComplete t) := by
  unfold execTopologyDrainComplete
  try dsimp only
  repeat' first
    | with_reducible apply Keeps.rfl | decide | with_reducible apply Result.keeps_done | with_reducible apply Result.keeps_fault
    | ((with_reducible intro h); apply h.fab) | with_reducible apply Keeps.step ?_ State.answer_keeps ?_
    | with_reducible apply Keeps.step ?_ State.breakLinks_keeps ?_
    | with_reducible apply Keeps.step ?_ State.cannotDeliver_keeps ?_
    | with_reducible apply Keeps.step ?_ (State.modFab_keeps ?_) ?_
    | with_reducible apply Keeps.step ?_ State.portDown_keeps ?_
    | with_reducible apply Keeps.step ?_ State.quiet_keeps ?_
    | with_reducible apply Keeps.step ?_ State.setTopology_keeps ?_
    | with_reducible apply State.forAll_keeps ?_ (fun u x => ?_) | split
    | ((with_reducible intro h); exact by simpa [Fabric.Sound] using h.fab)

theorem execSlow_keeps {t : State} : Result.Keeps [.fab, .out] t (execSlow t) := by
  unfold execSlow
  try dsimp only
  repeat' first
    | with_reducible apply Keeps.rfl | decide | with_reducible apply Result.keeps_done | with_reducible apply Result.keeps_fault
    | with_reducible apply Keeps.step ?_ State.modPort_keeps ?_
    | with_reducible apply Keeps.step ?_ State.quiet_keeps ?_
    | with_reducible apply Keeps.step ?_ State.takePacket_keeps ?_ | split

theorem execSlowExpiry_keeps {a0} {t : State} : Result.Keeps [.fab, .out] t (execSlowExpiry a0 t) := by
  unfold execSlowExpiry
  try dsimp only
  repeat' first
    | with_reducible apply Keeps.rfl | decide | with_reducible apply Result.keeps_done | with_reducible apply Result.keeps_fault
    | with_reducible apply Keeps.step ?_ State.modPort_keeps ?_
    | with_reducible apply Keeps.step ?_ State.quiet_keeps ?_ | split

theorem execCollWatchdog_keeps {a0} {t : State} : Result.Keeps [.host, .comp, .pens, .drover, .np, .fab, .qe, .health, .out, .free] t (execCollWatchdog a0 t) := by
  unfold execCollWatchdog
  try dsimp only
  repeat' first
    | with_reducible apply Keeps.rfl | decide | with_reducible apply Result.keeps_done | with_reducible apply Result.keeps_fault
    | with_reducible apply Keeps.step ?_ State.penFault_keeps ?_
    | with_reducible apply Keeps.step ?_ State.quiet_keeps ?_
    | with_reducible apply Keeps.step ?_ State.retryAllocs_keeps ?_ | split

/-! ## Machine/Flash.lean -/

/-- A change of the Sheepdog that leaves its life-cycle state and its debug level. -/
def Sheepdog.SameModes (g h : Sheepdog) : Prop := h.lcState = g.lcState ∧ h.debugLevel = g.debugLevel

theorem Sheepdog.SameModes.sound {g h : Sheepdog} (k : g.SameModes h) (hg : g.Sound) : h.Sound := by
  unfold Sheepdog.Sound
  rw [k.1, k.2]
  exact hg

theorem Sheepdog.SameModes.refl (g : Sheepdog) : g.SameModes g := ⟨rfl, rfl⟩

theorem Sheepdog.SameModes.trans {g h k : Sheepdog} (a : g.SameModes h) (b : h.SameModes k) : g.SameModes k :=
  ⟨b.1.trans a.1, b.2.trans a.2⟩

theorem foldl_sameModes {α : Type} {f : Sheepdog → α → Sheepdog} (hf : ∀ (g : Sheepdog) x, g.SameModes (f g x)) (l : List α) (g : Sheepdog) :
    g.SameModes (l.foldl f g) := by
  induction l generalizing g with
  | nil => exact ⟨rfl, rfl⟩
  | cons x l ih => exact (hf g x).trans (ih _)

theorem Sheepdog.record_same (g : Sheepdog) (ty : JournalType) (a : Nat) : g.SameModes (g.record ty a) := ⟨rfl, rfl⟩

theorem Sheepdog.journal_same (g : Sheepdog) (j : List JournalRec) : g.SameModes { g with journal := j } := ⟨rfl, rfl⟩

theorem Sheepdog.recycle_same (g : Sheepdog) : g.SameModes g.recycle := by
  unfold Sheepdog.recycle
  generalize (decide (122878 ≤ g.journal.length) && _) = b
  cases b
  · exact Sheepdog.SameModes.refl g
  · exact ((g.record_same _ _).trans (Sheepdog.journal_same _ _)).trans (Sheepdog.record_same _ _ _)

theorem Sheepdog.append_same (g : Sheepdog) (ty : JournalType) (a : Nat) : g.SameModes (g.append ty a) :=
  Sheepdog.SameModes.trans ⟨rfl, rfl⟩ (Sheepdog.recycle_same _)

theorem Sheepdog.programmed_same (g : Sheepdog) (a : Nat) : g.SameModes (g.programmed a) :=
  (g.append_same _ _).trans (Sheepdog.append_same _ _ _)

theorem Sheepdog.rewritten_same (g : Sheepdog) (a : Nat) : g.SameModes (g.rewritten a) := by
  unfold Sheepdog.rewritten
  exact ((g.append_same _ _).trans (Sheepdog.append_same _ _ _)).trans (foldl_sameModes (fun x i => x.programmed_same _) _ _)

theorem Sheepdog.writeBcb_same (g : Sheepdog) (f : Bcb → Bcb) : g.SameModes (g.writeBcb f) := by
  unfold Sheepdog.writeBcb
  dsimp only
  generalize hx : g.rewritten _ = x
  have h := hx ▸ g.rewritten_same _
  exact ⟨h.1, h.2⟩

theorem Sheepdog.writeIdentity_same (g : Sheepdog) (f : Identity → Identity) : g.SameModes (g.writeIdentity f) := by
  unfold Sheepdog.writeIdentity
  dsimp only
  generalize hx : g.rewritten _ = x
  have h := hx ▸ g.rewritten_same _
  exact ⟨h.1, h.2⟩

theorem Sheepdog.settings_same (g : Sheepdog) (l : List Settings) : g.SameModes { g with settings := l } := ⟨rfl, rfl⟩

theorem Sheepdog.writeSettings_same (g : Sheepdog) (k : Nat) (x : Settings) : g.SameModes (g.writeSettings k x) := by
  unfold Sheepdog.writeSettings
  exact (g.rewritten_same _).trans (Sheepdog.settings_same _ _)

theorem Sheepdog.changeSettings_same (g : Sheepdog) (x : Settings) : g.SameModes (g.changeSettings x) := by
  unfold Sheepdog.changeSettings
  dsimp only
  split
  · exact g.writeSettings_same _ _
  · exact (g.writeSettings_same _ _).trans (Sheepdog.writeBcb_same _ _)

theorem Sheepdog.applyOwn_same (g : Sheepdog) (w : OwnWrite) : g.SameModes (g.applyOwn w) := by
  cases w
  all_goals unfold Sheepdog.applyOwn
  all_goals first
    | with_reducible exact g.writeBcb_same _ | with_reducible exact g.writeIdentity_same _
    | with_reducible exact g.changeSettings_same _ | with_reducible exact g.writeSettings_same _ _ | exact ⟨rfl, rfl⟩

theorem Sheepdog.ownWrite_same (g : Sheepdog) (w : OwnWrite) : g.SameModes (g.ownWrite w) := by
  unfold Sheepdog.ownWrite
  split
  · exact g.applyOwn_same w
  · exact ⟨rfl, rfl⟩

theorem Sheepdog.flushOwn_same (g : Sheepdog) : g.SameModes g.flushOwn :=
  Sheepdog.SameModes.trans ⟨rfl, rfl⟩ (foldl_sameModes (fun x w => x.applyOwn_same w) _ _)

theorem Sheepdog.flushOwn_sound {g : Sheepdog} (h : g.Sound) : g.flushOwn.Sound := g.flushOwn_same.sound h

theorem State.ownWrite_keeps {a1} {t : State} : Keeps [.dog] t (State.ownWrite t a1) := by
  exact State.modDog_keeps (fun h => (t.dog.ownWrite_same a1).sound h.dog)

/-! ## Machine/Folds.lean -/

theorem execTaskIssue_keeps {t : State} : Result.Keeps [.host, .comp, .pens, .drover, .np, .fab, .qe, .health, .out, .free] t (execTaskIssue t) := by
  unfold execTaskIssue
  try dsimp only
  repeat' first
    | with_reducible apply Keeps.rfl | decide | with_reducible apply Result.keeps_done | with_reducible apply Result.keeps_fault
    | with_reducible apply Keeps.step ?_ State.quiet_keeps ?_
    | with_reducible apply Keeps.step ?_ State.schedule_keeps ?_ | split

theorem State.countReads_keeps {t : State} : Keeps [.health, .free] t (State.countReads t) := by
  unfold State.countReads
  try dsimp only
  repeat' first
    | with_reducible apply Keeps.rfl | decide | with_reducible apply Keeps.step ?_ State.count_keeps ?_
    | with_reducible apply Keeps.step ?_ State.draw_keeps ?_ | split

theorem State.releaseTask_keeps {a1 a2 a3 a4 a5} {t : State} : Keeps [.host, .comp, .pens, .drover, .np, .fab, .qe, .health, .out, .free] t (State.releaseTask t a1 a2 a3 a4 a5) := by
  unfold State.releaseTask
  try dsimp only
  repeat' first
    | with_reducible apply Keeps.rfl | decide | ((with_reducible intro h); apply h.comp) | ((with_reducible intro h); exact ⟨rebuildFolds_length, h.comp.2⟩)
    | ((with_reducible intro h); exact ⟨rebuildFolds_length, rebuildSlots_length⟩)
    | with_reducible apply Keeps.step ?_ State.completeEnded_keeps ?_
    | with_reducible apply Keeps.step ?_ State.count_keeps ?_
    | with_reducible apply Keeps.step ?_ State.countReads_keeps ?_
    | with_reducible apply Keeps.step ?_ State.idleBoundary_keeps ?_
    | with_reducible apply Keeps.step ?_ (State.modComp_keeps ?_) ?_
    | with_reducible apply Keeps.step ?_ State.modHalf_keeps ?_
    | with_reducible apply Keeps.step ?_ State.modOp_keeps ?_
    | with_reducible apply Keeps.step ?_ State.openOutputs_keeps ?_
    | with_reducible apply Keeps.step ?_ State.releaseEffects_keeps ?_
    | with_reducible apply Keeps.step ?_ State.releaseUnits_keeps ?_ | split
    | ((with_reducible intro h); exact by simpa [Compute.Sound] using h.comp)

theorem State.resolveHeld_keeps {a1 a2} {t : State} : Keeps [.host, .comp, .pens, .drover, .np, .fab, .qe, .health, .out, .free] t (State.resolveHeld t a1 a2) := by
  unfold State.resolveHeld
  try dsimp only
  repeat' first
    | with_reducible apply Keeps.rfl | decide | with_reducible apply Keeps.step ?_ State.completeEnded_keeps ?_
    | with_reducible apply Keeps.step ?_ State.giveOutputs_keeps ?_
    | with_reducible apply Keeps.step ?_ State.opFault_keeps ?_
    | with_reducible apply Keeps.step ?_ State.releaseTask_keeps ?_ | split

theorem State.losePlane_keeps {a1 a2 a3 a4} {t : State} : Keeps [.host, .comp, .np, .health, .out] t (State.losePlane t a1 a2 a3 a4) := by
  unfold State.losePlane
  try dsimp only
  repeat' first
    | with_reducible apply Keeps.rfl | decide | with_reducible apply Keeps.step ?_ State.discardTask_keeps ?_
    | with_reducible apply Keeps.step ?_ State.modOp_keeps ?_
    | with_reducible apply Keeps.step ?_ State.npWrite_keeps ?_ | split

theorem State.finishWork_keeps {a1 a2} {t : State} : Keeps [.host, .comp, .pens, .drover, .np, .fab, .qe, .health, .out, .free] t (State.finishWork t a1 a2) := by
  unfold State.finishWork
  try dsimp only
  repeat' first
    | with_reducible apply Keeps.rfl | decide | with_reducible apply Keeps.step ?_ State.losePlane_keeps ?_
    | with_reducible apply Keeps.step ?_ State.modHalf_keeps ?_
    | with_reducible apply Keeps.step ?_ State.modOp_keeps ?_
    | with_reducible apply Keeps.step ?_ State.spendRace_keeps ?_
    | with_reducible apply Keeps.step ?_ State.takeInputs_keeps ?_ | split

theorem execTaskCompletion_keeps {a0 a1} {t : State} : Result.Keeps [.host, .comp, .pens, .drover, .np, .fab, .qe, .health, .out, .free] t (execTaskCompletion a0 a1 t) := by
  unfold execTaskCompletion
  try dsimp only
  repeat' first
    | with_reducible apply Keeps.rfl | decide | with_reducible apply Result.keeps_done | with_reducible apply Result.keeps_fault
    | with_reducible apply Keeps.step ?_ State.finishWork_keeps ?_
    | with_reducible apply Keeps.step ?_ State.quiet_keeps ?_
    | with_reducible apply Keeps.step ?_ State.resolveHeld_keeps ?_ | split

theorem State.takeVerdict_keeps {a1} {t : State} : Keeps [.drover] t (State.takeVerdict t a1) := by
  unfold State.takeVerdict
  try dsimp only
  repeat' first
    | with_reducible apply Keeps.rfl | decide | with_reducible apply Keeps.step ?_ State.modDrover_keeps ?_ | split

theorem execConfirm_keeps {a0 a1} {t : State} : Result.Keeps [.host, .comp, .pens, .drover, .np, .fab, .qe, .health, .out, .free] t (execConfirm a0 a1 t) := by
  unfold execConfirm
  try dsimp only
  repeat' first
    | with_reducible apply Keeps.rfl | decide | with_reducible apply Result.keeps_done | with_reducible apply Result.keeps_fault
    | with_reducible apply Keeps.step ?_ State.modHalf_keeps ?_
    | with_reducible apply Keeps.step ?_ State.quiet_keeps ?_
    | with_reducible apply Keeps.step ?_ State.resolveHeld_keeps ?_
    | with_reducible apply Keeps.step ?_ State.takeVerdict_keeps ?_
    | with_reducible apply State.forAll_keeps ?_ (fun u x => ?_) | split

theorem execReject_keeps {a0 a1} {t : State} : Result.Keeps [.comp, .drover, .health, .out] t (execReject a0 a1 t) := by
  unfold execReject
  try dsimp only
  repeat' first
    | with_reducible apply Keeps.rfl | decide | with_reducible apply Result.keeps_done | with_reducible apply Result.keeps_fault
    | with_reducible apply Keeps.step ?_ State.discardTask_keeps ?_
    | with_reducible apply Keeps.step ?_ State.quiet_keeps ?_
    | with_reducible apply Keeps.step ?_ State.takeVerdict_keeps ?_
    | with_reducible apply State.forAll_keeps ?_ (fun u x => ?_) | split

theorem State.foldLog_keeps {a1 a2 a3 a4 a5} {t : State} : Keeps [.host, .health, .out] t (State.foldLog t a1 a2 a3 a4 a5) := by
  unfold State.foldLog
  try dsimp only
  repeat' first
    | with_reducible apply Keeps.rfl | decide | with_reducible apply Keeps.step ?_ State.logFault_keeps ?_ | split

theorem execFoldBufferCe_keeps {a0 a1} {t : State} : Result.Keeps [.host, .health, .out] t (execFoldBufferCe a0 a1 t) := by
  unfold execFoldBufferCe
  try dsimp only
  repeat' first
    | with_reducible apply Keeps.rfl | decide | with_reducible apply Result.keeps_done | with_reducible apply Result.keeps_fault
    | with_reducible apply Keeps.step ?_ State.foldLog_keeps ?_
    | with_reducible apply Keeps.step ?_ State.quiet_keeps ?_ | split

theorem State.keepUndo_keeps {a1 a2 a3} {t : State} : Keeps [.comp] t (State.keepUndo t a1 a2 a3) := by
  unfold State.keepUndo
  try dsimp only
  repeat' first
    | with_reducible apply Keeps.rfl | decide | with_reducible apply Keeps.step ?_ State.modOp_keeps ?_ | split

theorem State.failHalf_keeps {a1 a2 a3} {t : State} : Keeps [.host, .comp, .pens, .drover, .np, .fab, .qe, .health, .out, .free] t (State.failHalf t a1 a2 a3) := by
  unfold State.failHalf
  try dsimp only
  repeat' first
    | with_reducible apply Keeps.rfl | decide | with_reducible apply Keeps.step ?_ State.discardTask_keeps ?_
    | with_reducible apply Keeps.step ?_ State.keepUndo_keeps ?_
    | with_reducible apply Keeps.step ?_ State.openOutputs_keeps ?_
    | with_reducible apply Keeps.step ?_ State.penFault_keeps ?_
    | with_reducible apply Keeps.step ?_ State.releaseEffects_keeps ?_
    | with_reducible apply Keeps.step ?_ State.spoil_keeps ?_ | split

theorem State.retireSpare_keeps {a1} {t : State} : Keeps [.dog, .host, .comp, .health, .out] t (State.retireSpare t a1) := by
  unfold State.retireSpare
  try dsimp only
  repeat' first
    | with_reducible apply Keeps.rfl | decide | with_reducible apply Keeps.step ?_ State.foldLog_keeps ?_
    | with_reducible apply Keeps.step ?_ State.modFold_keeps ?_
    | with_reducible apply Keeps.step ?_ State.ownWrite_keeps ?_ | split

theorem State.foldFails_keeps {a1 a2 a3 a4 a5} {t : State} : Keeps [.dog, .host, .comp, .pens, .drover, .np, .fab, .qe, .health, .out, .free] t (State.foldFails t a1 a2 a3 a4 a5) := by
  unfold State.foldFails
  try dsimp only
  repeat' first
    | with_reducible apply Keeps.rfl | decide | with_reducible apply Keeps.step ?_ State.failHalf_keeps ?_
    | with_reducible apply Keeps.step ?_ State.foldLog_keeps ?_
    | with_reducible apply Keeps.step ?_ State.idleBoundary_keeps ?_
    | with_reducible apply Keeps.step ?_ State.modFold_keeps ?_
    | with_reducible apply Keeps.step ?_ State.ownWrite_keeps ?_
    | with_reducible apply Keeps.step ?_ State.retireSpare_keeps ?_
    | with_reducible apply Keeps.step ?_ State.retryAllocs_keeps ?_ | split

theorem execFoldBufferUe_keeps {a0 a1 a2} {t : State} : Result.Keeps [.dog, .host, .comp, .pens, .drover, .np, .fab, .qe, .health, .out, .free] t (execFoldBufferUe a0 a1 a2 t) := by
  unfold execFoldBufferUe
  try dsimp only
  repeat' first
    | with_reducible apply Keeps.rfl | decide | with_reducible apply Result.keeps_done | with_reducible apply Result.keeps_fault
    | with_reducible apply Keeps.step ?_ State.foldFails_keeps ?_
    | with_reducible apply Keeps.step ?_ State.quiet_keeps ?_ | split

theorem execFoldParity_keeps {a0 a1 a2} {t : State} : Result.Keeps [.dog, .host, .comp, .pens, .drover, .np, .fab, .qe, .health, .out, .free] t (execFoldParity a0 a1 a2 t) := by
  unfold execFoldParity
  try dsimp only
  repeat' first
    | with_reducible apply Keeps.rfl | decide | with_reducible apply Result.keeps_done | with_reducible apply Result.keeps_fault
    | with_reducible apply Keeps.step ?_ State.foldFails_keeps ?_
    | with_reducible apply Keeps.step ?_ State.quiet_keeps ?_ | split

theorem execFoldTaskTimeout_keeps {a0 a1 a2 a3} {t : State} : Result.Keeps [.dog, .host, .comp, .pens, .drover, .np, .fab, .qe, .health, .out, .free] t (execFoldTaskTimeout a0 a1 a2 a3 t) := by
  unfold execFoldTaskTimeout
  try dsimp only
  repeat' first
    | with_reducible apply Keeps.rfl | decide | with_reducible apply Result.keeps_done | with_reducible apply Result.keeps_fault
    | with_reducible apply Keeps.step ?_ State.foldFails_keeps ?_
    | with_reducible apply Keeps.step ?_ State.quiet_keeps ?_ | split

theorem State.retireFold_keeps {a1} {t : State} : Keeps [.comp] t (State.retireFold t a1) := by
  unfold State.retireFold
  try dsimp only
  repeat' first
    | with_reducible apply Keeps.rfl | decide | with_reducible apply Keeps.step ?_ State.modFold_keeps ?_ | split

theorem State.modFoldSlot_keeps {a1 a2} {t : State} : Keeps [.comp] t (State.modFoldSlot t a1 a2) := by
  unfold State.modFoldSlot
  try dsimp only
  repeat' first
    | with_reducible apply Keeps.rfl | decide | ((with_reducible intro h); apply h.comp) | ((with_reducible intro h); exact ⟨rebuildFolds_length, h.comp.2⟩)
    | ((with_reducible intro h); exact ⟨rebuildFolds_length, rebuildSlots_length⟩)
    | with_reducible apply Keeps.step ?_ (State.modComp_keeps ?_) ?_ | split
    | ((with_reducible intro h); exact by simpa [Compute.Sound] using h.comp)

theorem execSpareTakeover_keeps {a0} {t : State} : Result.Keeps [.dog, .comp, .out] t (execSpareTakeover a0 t) := by
  unfold execSpareTakeover
  try dsimp only
  repeat' first
    | with_reducible apply Keeps.rfl | decide | with_reducible apply Result.keeps_done | with_reducible apply Result.keeps_fault
    | with_reducible apply Keeps.step ?_ State.modFold_keeps ?_
    | with_reducible apply Keeps.step ?_ State.modFoldSlot_keeps ?_
    | with_reducible apply Keeps.step ?_ State.ownWrite_keeps ?_
    | with_reducible apply Keeps.step ?_ State.quiet_keeps ?_
    | with_reducible apply Keeps.step ?_ State.retireFold_keeps ?_ | split

theorem execSpareSelftest_keeps {a0 a1} {t : State} : Result.Keeps [.dog, .host, .comp, .health, .out] t (execSpareSelftest a0 a1 t) := by
  unfold execSpareSelftest
  try dsimp only
  repeat' first
    | with_reducible apply Keeps.rfl | decide | with_reducible apply Result.keeps_done | with_reducible apply Result.keeps_fault
    | with_reducible apply Keeps.step ?_ State.quiet_keeps ?_
    | with_reducible apply Keeps.step ?_ State.retireSpare_keeps ?_ | split

/-! ## Machine/Rop.lean -/

theorem State.ropCpl_keeps {a1 a2 a3 a4 a5} {t : State} : Keeps [.host, .np, .qe, .health, .out] t (State.ropCpl t a1 a2 a3 a4 a5) := by
  unfold State.ropCpl
  try dsimp only
  repeat' first
    | with_reducible apply Keeps.rfl | decide | with_reducible apply Keeps.step ?_ State.cpl_keeps ?_ | split

theorem State.poisonRange_keeps {a1 a2 a3} {t : State} : Keeps [.host, .np, .health, .out] t (State.poisonRange t a1 a2 a3) := by
  unfold State.poisonRange
  try dsimp only
  repeat' first
    | with_reducible apply Keeps.rfl | decide | with_reducible apply Keeps.step ?_ State.npFlushNow_keeps ?_
    | with_reducible apply Keeps.step ?_ State.npPoison_keeps ?_
    | with_reducible apply Keeps.step ?_ State.npSettle_keeps ?_
    | with_reducible apply State.forAll_keeps ?_ (fun u x => ?_) | split

theorem State.putFragment_keeps {a1 a2 a3} {t : State} : Keeps [.host, .np, .health, .out] t (State.putFragment t a1 a2 a3).1 := by
  unfold State.putFragment
  try dsimp only
  repeat' first
    | with_reducible apply Keeps.rfl | decide | with_reducible apply Keeps.step ?_ State.penAcc_keeps ?_
    | with_reducible apply Keeps.step ?_ State.penWrite_keeps ?_
    | with_reducible apply Keeps.step ?_ State.poisonRange_keeps ?_ | split

theorem State.closePut_keeps {a1} {t : State} : Keeps [.host, .pens, .np, .qe, .health, .out] t (State.closePut t a1).1 := by
  unfold State.closePut
  try dsimp only
  repeat' first
    | with_reducible apply Keeps.rfl | decide | with_reducible apply Keeps.step ?_ State.addCounter_keeps ?_
    | with_reducible apply Keeps.step ?_ State.modQe_keeps ?_
    | with_reducible apply Keeps.step ?_ State.npFlushSource_keeps ?_ | split

theorem State.arrivePut_keeps {a1 a2 a3} {t : State} : Keeps [.host, .pens, .np, .qe, .health, .out] t (State.arrivePut t a1 a2 a3).1 := by
  unfold State.arrivePut
  try dsimp only
  repeat' first
    | with_reducible apply Keeps.rfl | decide | with_reducible apply Keeps.step ?_ State.closePut_keeps ?_
    | with_reducible apply Keeps.step ?_ State.modQe_keeps ?_
    | with_reducible apply Keeps.step ?_ State.putFragment_keeps ?_ | split

theorem State.arriveGet_keeps {a1} {t : State} : Keeps [.health] t (State.arriveGet t a1).1 := by
  unfold State.arriveGet
  try dsimp only
  repeat' first
    | with_reducible apply Keeps.rfl | decide | with_reducible apply Keeps.step ?_ State.count_keeps ?_ | split

theorem State.arriveAtomic_keeps {a1} {t : State} : Keeps [.host, .np, .health, .out] t (State.arriveAtomic t a1).1 := by
  unfold State.arriveAtomic
  try dsimp only
  repeat' first
    | with_reducible apply Keeps.rfl | decide | with_reducible apply Keeps.step ?_ State.penFlush_keeps ?_
    | with_reducible apply Keeps.step ?_ State.penWrite_keeps ?_ | split

theorem State.arriveSignal_keeps {a1} {t : State} : Keeps [.pens] t (State.arriveSignal t a1).1 := by
  unfold State.arriveSignal
  try dsimp only
  repeat' first
    | with_reducible apply Keeps.rfl | decide | with_reducible apply Keeps.step ?_ State.addCounter_keeps ?_ | split

theorem State.modRop_keeps {a1 a2} {t : State} : Keeps [.qe] t (State.modRop t a1 a2) := by
  unfold State.modRop
  try dsimp only
  repeat' first
    | with_reducible apply Keeps.rfl | decide | with_reducible apply Keeps.step ?_ State.modQe_keeps ?_ | split

theorem State.dropRop_keeps {a1} {t : State} : Keeps [.qe] t (State.dropRop t a1) := by
  unfold State.dropRop
  try dsimp only
  repeat' first
    | with_reducible apply Keeps.rfl | decide | with_reducible apply Keeps.step ?_ State.modQe_keeps ?_
    | with_reducible apply Keeps.step ?_ State.modQueue_keeps ?_ | split

theorem State.ropRelease_keeps {a1 a2} {t : State} : Keeps [.host, .pens, .np, .qe, .health, .out] t (State.ropRelease t a1 a2) := by
  unfold State.ropRelease
  try dsimp only
  repeat' first
    | with_reducible apply Keeps.rfl | decide | with_reducible apply Keeps.step ?_ State.addCounter_keeps ?_
    | with_reducible apply Keeps.step ?_ State.count_keeps ?_
    | with_reducible apply Keeps.step ?_ State.dropRop_keeps ?_
    | with_reducible apply Keeps.step ?_ State.npFlushSource_keeps ?_
    | with_reducible apply Keeps.step ?_ State.ropCpl_keeps ?_ | split

theorem State.ropDone_keeps {a1 a2} {t : State} : Keeps [.host, .pens, .np, .qe, .health, .out] t (State.ropDone t a1 a2) := by
  unfold State.ropDone
  try dsimp only
  repeat' first
    | with_reducible apply Keeps.rfl | decide | with_reducible apply Keeps.step ?_ State.modRop_keeps ?_
    | with_reducible apply Keeps.step ?_ State.ropRelease_keeps ?_ | split

theorem State.ropFailOne_keeps {a1 a2} {t : State} : Keeps [.host, .np, .qe, .health, .out] t (State.ropFailOne t a1 a2) := by
  unfold State.ropFailOne
  try dsimp only
  repeat' first
    | with_reducible apply Keeps.rfl | decide | with_reducible apply Keeps.step ?_ State.count_keeps ?_
    | with_reducible apply Keeps.step ?_ State.dropRop_keeps ?_
    | with_reducible apply Keeps.step ?_ State.modQueue_keeps ?_
    | with_reducible apply Keeps.step ?_ State.ropCpl_keeps ?_ | split

theorem State.ropFail_keeps {a1 a2} {t : State} : Keeps [.host, .pens, .np, .fab, .qe, .health, .out] t (State.ropFail t a1 a2) := by
  unfold State.ropFail
  try dsimp only
  repeat' first
    | with_reducible apply Keeps.rfl | decide | with_reducible apply Keeps.step ?_ State.faultNotice_keeps ?_
    | with_reducible apply Keeps.step ?_ State.ropFailOne_keeps ?_
    | with_reducible apply State.forAll_keeps ?_ (fun u x => ?_) | split

theorem State.injectFrags_keeps {a1 a2} {t : State} : Keeps [.fab, .health] t (State.injectFrags t a1 a2) := by
  unfold State.injectFrags
  try dsimp only
  repeat' first
    | with_reducible apply Keeps.rfl | decide | with_reducible apply Keeps.step ?_ State.inject_keeps ?_
    | with_reducible apply State.forAll_keeps ?_ (fun u x => ?_) | split

theorem State.answerRequest_keeps {a1} {t : State} : Keeps [.host, .pens, .np, .health, .out] t (State.answerRequest t a1).1 := by
  unfold State.answerRequest
  try dsimp only
  repeat' first
    | with_reducible apply Keeps.rfl | decide | with_reducible apply Keeps.step ?_ State.arriveAtomic_keeps ?_
    | with_reducible apply Keeps.step ?_ State.arriveGet_keeps ?_
    | with_reducible apply Keeps.step ?_ State.arriveSignal_keeps ?_ | split

theorem State.takeRequest_keeps {a1} {t : State} : Keeps [.host, .pens, .np, .qe, .health, .out] t (State.takeRequest t a1).1 := by
  unfold State.takeRequest
  try dsimp only
  repeat' first
    | with_reducible apply Keeps.rfl | decide | with_reducible apply Keeps.step ?_ State.answerRequest_keeps ?_
    | with_reducible apply Keeps.step ?_ State.modQe_keeps ?_ | split

theorem State.arrive_keeps {a1 a2} {t : State} : Keeps [.host, .pens, .np, .qe, .health, .out] t (State.arrive t a1 a2).1 := by
  unfold State.arrive
  try dsimp only
  repeat' first
    | with_reducible apply Keeps.rfl | decide | with_reducible apply Keeps.step ?_ State.arrivePut_keeps ?_
    | with_reducible apply Keeps.step ?_ State.takeRequest_keeps ?_ | split

theorem State.takeGetData_keeps {a1 a2} {t : State} : Keeps [.host, .pens, .np, .fab, .qe, .health, .out] t (State.takeGetData t a1 a2) := by
  unfold State.takeGetData
  try dsimp only
  repeat' first
    | with_reducible apply Keeps.rfl | decide | with_reducible apply Keeps.step ?_ State.modRop_keeps ?_
    | with_reducible apply Keeps.step ?_ State.penWrite_keeps ?_
    | with_reducible apply Keeps.step ?_ State.poisonRange_keeps ?_
    | with_reducible apply Keeps.step ?_ State.ropDone_keeps ?_
    | with_reducible apply Keeps.step ?_ State.ropFail_keeps ?_ | split

theorem State.takeValue_keeps {a1 a2} {t : State} : Keeps [.host, .pens, .np, .fab, .qe, .health, .out] t (State.takeValue t a1 a2) := by
  unfold State.takeValue
  try dsimp only
  repeat' first
    | with_reducible apply Keeps.rfl | decide | with_reducible apply Keeps.step ?_ State.penWrite_keeps ?_
    | with_reducible apply Keeps.step ?_ State.poisonRange_keeps ?_
    | with_reducible apply Keeps.step ?_ State.ropDone_keeps ?_
    | with_reducible apply Keeps.step ?_ State.ropFail_keeps ?_ | split

theorem State.takeResponse_keeps {a1} {t : State} : Keeps [.host, .pens, .np, .fab, .qe, .health, .out] t (State.takeResponse t a1) := by
  unfold State.takeResponse
  try dsimp only
  repeat' first
    | with_reducible apply Keeps.rfl | decide | with_reducible apply Keeps.step ?_ State.ropDone_keeps ?_
    | with_reducible apply Keeps.step ?_ State.ropFail_keeps ?_
    | with_reducible apply Keeps.step ?_ State.takeGetData_keeps ?_
    | with_reducible apply Keeps.step ?_ State.takeValue_keeps ?_ | split

theorem State.loopback_keeps {a1} {t : State} : Keeps [.host, .pens, .np, .fab, .qe, .health, .out] t (State.loopback t a1) := by
  unfold State.loopback
  try dsimp only
  repeat' first
    | with_reducible apply Keeps.rfl | decide | with_reducible apply Keeps.step ?_ State.arrive_keeps ?_
    | with_reducible apply Keeps.step ?_ State.takeResponse_keeps ?_
    | with_reducible apply State.forAll_keeps ?_ (fun u x => ?_) | split

theorem State.launch_keeps {a1} {t : State} : Keeps [.host, .pens, .np, .fab, .qe, .health, .out] t (State.launch t a1) := by
  unfold State.launch
  try dsimp only
  repeat' first
    | with_reducible apply Keeps.rfl | decide | with_reducible apply Keeps.step ?_ State.injectFrags_keeps ?_
    | with_reducible apply Keeps.step ?_ State.loopback_keeps ?_ | split

theorem State.ropProgress_keeps {a1 a2} {t : State} : Keeps [.host, .pens, .np, .fab, .qe, .health, .out] t (State.ropProgress t a1 a2) := by
  fun_induction State.ropProgress t a1 a2
  all_goals try dsimp only
  all_goals
    repeat' first
      | refine Keeps.trans ?_ (by assumption) | assumption | with_reducible apply Keeps.rfl | decide
      | with_reducible apply Keeps.step ?_ State.launch_keeps ?_
      | with_reducible apply Keeps.step ?_ State.modRop_keeps ?_
      | with_reducible apply Keeps.step ?_ State.ropDone_keeps ?_ | split

theorem State.tryReinject_keeps {a1} {t : State} : Keeps [.fab, .qe, .health] t (State.tryReinject t a1) := by
  unfold State.tryReinject
  try dsimp only
  repeat' first
    | with_reducible apply Keeps.rfl | decide | with_reducible apply Keeps.step ?_ State.injectFrags_keeps ?_
    | with_reducible apply Keeps.step ?_ State.modQueue_keeps ?_
    | with_reducible apply Keeps.step ?_ State.modRop_keeps ?_
    | with_reducible apply State.forAll_keeps ?_ (fun u x => ?_) | split

theorem State.afterRop_keeps {a1} {t : State} : Keeps [.host, .pens, .np, .fab, .qe, .health, .out] t (State.afterRop t a1) := by
  unfold State.afterRop
  try dsimp only
  repeat' first
    | with_reducible apply Keeps.rfl | decide | with_reducible apply Keeps.step ?_ State.ropProgress_keeps ?_
    | with_reducible apply Keeps.step ?_ State.sweepQueues_keeps ?_
    | with_reducible apply Keeps.step ?_ State.tryReinject_keeps ?_ | split

theorem State.ropRefused_keeps {a1 a2 a3} {t : State} : Keeps [.host, .np, .qe, .health, .out] t (State.ropRefused t a1 a2 a3) := by
  unfold State.ropRefused
  try dsimp only
  repeat' first
    | with_reducible apply Keeps.rfl | decide | with_reducible apply Keeps.step ?_ State.count_keeps ?_
    | with_reducible apply Keeps.step ?_ State.modQueue_keeps ?_
    | with_reducible apply Keeps.step ?_ State.ropCpl_keeps ?_ | split

theorem State.ropTake_keeps {a1 a2} {t : State} : Keeps [.host, .pens, .np, .fab, .qe, .health, .out] t (State.ropTake t a1 a2) := by
  unfold State.ropTake
  try dsimp only
  repeat' first
    | with_reducible apply Keeps.rfl | decide | with_reducible apply Keeps.step ?_ State.afterRop_keeps ?_
    | with_reducible apply Keeps.step ?_ State.count_keeps ?_
    | with_reducible apply Keeps.step ?_ State.launch_keeps ?_
    | with_reducible apply Keeps.step ?_ State.modQe_keeps ?_
    | with_reducible apply Keeps.step ?_ State.takeEntry_keeps ?_ | split

theorem State.ropHead_keeps {a1 a2} {t : State} : Keeps [.host, .pens, .np, .fab, .qe, .health, .out] t (State.ropHead t a1 a2) := by
  unfold State.ropHead
  try dsimp only
  repeat' first
    | with_reducible apply Keeps.rfl | decide | with_reducible apply Keeps.step ?_ State.haltEvent_keeps ?_
    | with_reducible apply Keeps.step ?_ State.ropRefused_keeps ?_
    | with_reducible apply Keeps.step ?_ State.ropTake_keeps ?_ | split

theorem execPut_keeps {a0} {t : State} : Result.Keeps [.host, .pens, .np, .fab, .qe, .health, .out] t (execPut a0 t) := by
  unfold execPut
  try dsimp only
  repeat' first
    | with_reducible apply Keeps.rfl | decide | with_reducible apply Result.keeps_done | with_reducible apply Result.keeps_fault
    | with_reducible apply Keeps.step ?_ State.quiet_keeps ?_
    | with_reducible apply Keeps.step ?_ State.ropHead_keeps ?_ | split

theorem execGet_keeps {a0} {t : State} : Result.Keeps [.host, .pens, .np, .fab, .qe, .health, .out] t (execGet a0 t) := by
  unfold execGet
  try dsimp only
  repeat' first
    | with_reducible apply Keeps.rfl | decide | with_reducible apply Result.keeps_done | with_reducible apply Result.keeps_fault
    | with_reducible apply Keeps.step ?_ State.quiet_keeps ?_
    | with_reducible apply Keeps.step ?_ State.ropHead_keeps ?_ | split

theorem execPutAcc_keeps {a0} {t : State} : Result.Keeps [.host, .pens, .np, .fab, .qe, .health, .out] t (execPutAcc a0 t) := by
  unfold execPutAcc
  try dsimp only
  repeat' first
    | with_reducible apply Keeps.rfl | decide | with_reducible apply Result.keeps_done | with_reducible apply Result.keeps_fault
    | with_reducible apply Keeps.step ?_ State.quiet_keeps ?_
    | with_reducible apply Keeps.step ?_ State.ropHead_keeps ?_ | split

theorem execAtomic_keeps {a0} {t : State} : Result.Keeps [.host, .pens, .np, .fab, .qe, .health, .out] t (execAtomic a0 t) := by
  unfold execAtomic
  try dsimp only
  repeat' first
    | with_reducible apply Keeps.rfl | decide | with_reducible apply Result.keeps_done | with_reducible apply Result.keeps_fault
    | with_reducible apply Keeps.step ?_ State.quiet_keeps ?_
    | with_reducible apply Keeps.step ?_ State.ropHead_keeps ?_ | split

theorem execSignal_keeps {a0} {t : State} : Result.Keeps [.host, .pens, .np, .fab, .qe, .health, .out] t (execSignal a0 t) := by
  unfold execSignal
  try dsimp only
  repeat' first
    | with_reducible apply Keeps.rfl | decide | with_reducible apply Result.keeps_done | with_reducible apply Result.keeps_fault
    | with_reducible apply Keeps.step ?_ State.quiet_keeps ?_
    | with_reducible apply Keeps.step ?_ State.ropHead_keeps ?_ | split

theorem execRopFence_keeps {a0} {t : State} : Result.Keeps [.host, .pens, .np, .fab, .qe, .health, .out] t (execRopFence a0 t) := by
  unfold execRopFence
  try dsimp only
  repeat' first
    | with_reducible apply Keeps.rfl | decide | with_reducible apply Result.keeps_done | with_reducible apply Result.keeps_fault
    | with_reducible apply Keeps.step ?_ State.quiet_keeps ?_
    | with_reducible apply Keeps.step ?_ State.ropHead_keeps ?_ | split

theorem State.dataRow_keeps {a1 a2 a3} {t : State} : Keeps [.host, .pens, .np, .fab, .qe, .health, .out] t (State.dataRow t a1 a2 a3) := by
  unfold State.dataRow
  try dsimp only
  repeat' first
    | with_reducible apply Keeps.rfl | decide | with_reducible apply Keeps.step ?_ State.arrivePut_keeps ?_
    | with_reducible apply Keeps.step ?_ State.inject_keeps ?_
    | with_reducible apply Keeps.step ?_ State.takePacket_keeps ?_
    | with_reducible apply State.forAll_keeps ?_ (fun u x => ?_) | split

theorem State.requestRow_keeps {a1} {t : State} : Keeps [.host, .pens, .np, .fab, .qe, .health, .out] t (State.requestRow t a1) := by
  unfold State.requestRow
  try dsimp only
  repeat' first
    | with_reducible apply Keeps.rfl | decide | with_reducible apply Keeps.step ?_ State.inject_keeps ?_
    | with_reducible apply Keeps.step ?_ State.takePacket_keeps ?_
    | with_reducible apply Keeps.step ?_ State.takeRequest_keeps ?_
    | with_reducible apply State.forAll_keeps ?_ (fun u x => ?_) | split

theorem execPutData_keeps {t : State} : Result.Keeps [.host, .pens, .np, .fab, .qe, .health, .out] t (execPutData t) := by
  unfold execPutData
  try dsimp only
  repeat' first
    | with_reducible apply Keeps.rfl | decide | with_reducible apply Result.keeps_done | with_reducible apply Result.keeps_fault
    | with_reducible apply Keeps.step ?_ State.dataRow_keeps ?_
    | with_reducible apply Keeps.step ?_ State.quiet_keeps ?_ | split

theorem execPutAccData_keeps {t : State} : Result.Keeps [.host, .pens, .np, .fab, .qe, .health, .out] t (execPutAccData t) := by
  unfold execPutAccData
  try dsimp only
  repeat' first
    | with_reducible apply Keeps.rfl | decide | with_reducible apply Result.keeps_done | with_reducible apply Result.keeps_fault
    | with_reducible apply Keeps.step ?_ State.dataRow_keeps ?_
    | with_reducible apply Keeps.step ?_ State.quiet_keeps ?_ | split

theorem execGetReq_keeps {t : State} : Result.Keeps [.host, .pens, .np, .fab, .qe, .health, .out] t (execGetReq t) := by
  unfold execGetReq
  try dsimp only
  repeat' first
    | with_reducible apply Keeps.rfl | decide | with_reducible apply Result.keeps_done | with_reducible apply Result.keeps_fault
    | with_reducible apply Keeps.step ?_ State.quiet_keeps ?_
    | with_reducible apply Keeps.step ?_ State.requestRow_keeps ?_ | split

theorem execAtomicReq_keeps {t : State} : Result.Keeps [.host, .pens, .np, .fab, .qe, .health, .out] t (execAtomicReq t) := by
  unfold execAtomicReq
  try dsimp only
  repeat' first
    | with_reducible apply Keeps.rfl | decide | with_reducible apply Result.keeps_done | with_reducible apply Result.keeps_fault
    | with_reducible apply Keeps.step ?_ State.quiet_keeps ?_
    | with_reducible apply Keeps.step ?_ State.requestRow_keeps ?_ | split

theorem execSignalReq_keeps {t : State} : Result.Keeps [.host, .pens, .np, .fab, .qe, .health, .out] t (execSignalReq t) := by
  unfold execSignalReq
  try dsimp only
  repeat' first
    | with_reducible apply Keeps.rfl | decide | with_reducible apply Result.keeps_done | with_reducible apply Result.keeps_fault
    | with_reducible apply Keeps.step ?_ State.quiet_keeps ?_
    | with_reducible apply Keeps.step ?_ State.requestRow_keeps ?_ | split

theorem State.responseRow_keeps {a1} {t : State} : Keeps [.host, .pens, .np, .fab, .qe, .health, .out] t (State.responseRow t a1) := by
  unfold State.responseRow
  try dsimp only
  repeat' first
    | with_reducible apply Keeps.rfl | decide | with_reducible apply Keeps.step ?_ State.afterRop_keeps ?_
    | with_reducible apply Keeps.step ?_ State.takePacket_keeps ?_
    | with_reducible apply Keeps.step ?_ State.takeResponse_keeps ?_ | split

theorem execAck_keeps {t : State} : Result.Keeps [.host, .pens, .np, .fab, .qe, .health, .out] t (execAck t) := by
  unfold execAck
  try dsimp only
  repeat' first
    | with_reducible apply Keeps.rfl | decide | with_reducible apply Result.keeps_done | with_reducible apply Result.keeps_fault
    | with_reducible apply Keeps.step ?_ State.quiet_keeps ?_
    | with_reducible apply Keeps.step ?_ State.responseRow_keeps ?_ | split

theorem execGetData_keeps {t : State} : Result.Keeps [.host, .pens, .np, .fab, .qe, .health, .out] t (execGetData t) := by
  unfold execGetData
  try dsimp only
  repeat' first
    | with_reducible apply Keeps.rfl | decide | with_reducible apply Result.keeps_done | with_reducible apply Result.keeps_fault
    | with_reducible apply Keeps.step ?_ State.quiet_keeps ?_
    | with_reducible apply Keeps.step ?_ State.responseRow_keeps ?_ | split

theorem execValueResp_keeps {t : State} : Result.Keeps [.host, .pens, .np, .fab, .qe, .health, .out] t (execValueResp t) := by
  unfold execValueResp
  try dsimp only
  repeat' first
    | with_reducible apply Keeps.rfl | decide | with_reducible apply Result.keeps_done | with_reducible apply Result.keeps_fault
    | with_reducible apply Keeps.step ?_ State.quiet_keeps ?_
    | with_reducible apply Keeps.step ?_ State.responseRow_keeps ?_ | split

theorem State.takeRefusal_keeps {a1 a2} {t : State} : Keeps [.host, .pens, .np, .fab, .qe, .health, .out] t (State.takeRefusal t a1 a2) := by
  unfold State.takeRefusal
  try dsimp only
  repeat' first
    | with_reducible apply Keeps.rfl | decide | with_reducible apply Keeps.step ?_ State.modQueue_keeps ?_
    | with_reducible apply Keeps.step ?_ State.modRop_keeps ?_
    | with_reducible apply Keeps.step ?_ State.ropFail_keeps ?_ | split

theorem execRefusal_keeps {t : State} : Result.Keeps [.boot, .host, .pens, .np, .fab, .qe, .time, .coord, .health, .out, .free] t (execRefusal t) := by
  unfold execRefusal
  try dsimp only
  repeat' first
    | with_reducible apply Keeps.rfl | decide | with_reducible apply Result.keeps_done | with_reducible apply Result.keeps_fault
    | with_reducible apply Keeps.step ?_ State.afterRop_keeps ?_
    | with_reducible apply Keeps.step ?_ State.leaderRefused_keeps ?_
    | with_reducible apply Keeps.step ?_ State.quiet_keeps ?_
    | with_reducible apply Keeps.step ?_ State.takePacket_keeps ?_
    | with_reducible apply Keeps.step ?_ State.takeRefusal_keeps ?_ | split

theorem State.deliver_keeps {a1} {t : State} : Keeps [.host, .pens, .np, .fab, .qe, .health, .out] t (State.deliver t a1) := by
  unfold State.deliver
  try dsimp only
  repeat' first
    | with_reducible apply Keeps.rfl | decide | with_reducible apply Keeps.step ?_ State.afterRop_keeps ?_
    | with_reducible apply Keeps.step ?_ State.inject_keeps ?_
    | with_reducible apply Keeps.step ?_ State.takeResponse_keeps ?_ | split

theorem State.serveHeld_keeps {a1} {t : State} : Keeps [.host, .pens, .np, .fab, .qe, .health, .out] t (State.serveHeld t a1) := by
  fun_induction State.serveHeld t a1
  all_goals try dsimp only
  all_goals
    repeat' first
      | refine Keeps.trans ?_ (by assumption) | assumption | with_reducible apply Keeps.rfl | decide
      | with_reducible apply Keeps.step ?_ State.answerRequest_keeps ?_
      | with_reducible apply Keeps.step ?_ State.deliver_keeps ?_
      | with_reducible apply Keeps.step ?_ State.modQe_keeps ?_
      | with_reducible apply State.forAll_keeps ?_ (fun u x => ?_) | split

theorem State.closePuts_keeps {t : State} : Keeps [.host, .pens, .np, .fab, .qe, .health, .out] t (State.closePuts t) := by
  unfold State.closePuts
  try dsimp only
  repeat' first
    | with_reducible apply Keeps.rfl | decide | with_reducible apply Keeps.step ?_ State.closePut_keeps ?_
    | with_reducible apply Keeps.step ?_ State.deliver_keeps ?_
    | with_reducible apply State.forAll_keeps ?_ (fun u x => ?_) | split

theorem State.releaseRops_keeps {t : State} : Keeps [.host, .pens, .np, .fab, .qe, .health, .out] t (State.releaseRops t) := by
  unfold State.releaseRops
  try dsimp only
  repeat' first
    | with_reducible apply Keeps.rfl | decide | with_reducible apply Keeps.step ?_ State.afterRop_keeps ?_
    | with_reducible apply Keeps.step ?_ State.ropDone_keeps ?_
    | with_reducible apply State.forAll_keeps ?_ (fun u x => ?_) | split

theorem State.queueServes_keeps {t : State} : Keeps [.host, .pens, .np, .fab, .qe, .health, .out] t (State.queueServes t) := by
  unfold State.queueServes
  try dsimp only
  repeat' first
    | with_reducible apply Keeps.rfl | decide | with_reducible apply Keeps.step ?_ State.closePuts_keeps ?_
    | with_reducible apply Keeps.step ?_ State.modQe_keeps ?_
    | with_reducible apply Keeps.step ?_ State.releaseRops_keeps ?_
    | with_reducible apply Keeps.step ?_ State.serveHeld_keeps ?_ | split

theorem execRopTimeout_keeps {a0 a1} {t : State} : Result.Keeps [.host, .pens, .np, .fab, .qe, .health, .out] t (execRopTimeout a0 a1 t) := by
  unfold execRopTimeout
  try dsimp only
  repeat' first
    | with_reducible apply Keeps.rfl | decide | with_reducible apply Result.keeps_done | with_reducible apply Result.keeps_fault
    | with_reducible apply Keeps.step ?_ State.afterRop_keeps ?_
    | with_reducible apply Keeps.step ?_ State.quiet_keeps ?_
    | with_reducible apply Keeps.step ?_ State.ropFail_keeps ?_ | split

/-! ## Machine/Itinerary.lean -/

theorem State.adoptNow_keeps {a1 a2} {t : State} : Keeps [.host, .comp, .pens, .drover, .np, .fab, .qe, .health, .out, .free] t (State.adoptNow t a1 a2) := by
  unfold State.adoptNow
  try dsimp only
  repeat' first
    | with_reducible apply Keeps.rfl | decide | ((with_reducible intro _ k); exact k) | ((with_reducible intro _ _); exact (by rfl))
    | ((with_reducible intro _ k); exact (by split <;> exact k)) | ((with_reducible intro _ k); exact Pen.adopt_sound k)
    | with_reducible apply Keeps.step ?_ (State.modPen_keeps ?_) ?_
    | with_reducible apply Keeps.step ?_ State.prepare_keeps ?_ | split

theorem State.loadFrom_keeps {a1 a2} {t : State} : Keeps [.host, .comp, .pens, .drover, .np, .fab, .qe, .health, .out, .free] t (State.loadFrom t a1 a2).state := by
  unfold State.loadFrom
  try dsimp only
  repeat' first
    | with_reducible apply Keeps.rfl | decide | with_reducible apply Keeps.reply | with_reducible apply Keeps.refuses
    | with_reducible apply Keeps.waits | ((with_reducible intro _ k); exact k) | ((with_reducible intro _ _); exact (by rfl))
    | ((with_reducible intro _ k); exact (by split <;> exact k)) | ((with_reducible intro _ k); exact Pen.adopt_sound k)
    | with_reducible apply Keeps.step ?_ State.adoptNow_keeps ?_
    | with_reducible apply Keeps.step ?_ State.meetPoison_keeps ?_
    | with_reducible apply Keeps.step ?_ (State.modPen_keeps ?_) ?_
    | with_reducible apply Keeps.step ?_ State.useTensor_keeps ?_ | split

theorem itineraryLoad_keeps {a0} {t : State} : Keeps [.host, .comp, .pens, .drover, .np, .fab, .qe, .health, .out, .free] t (itineraryLoad a0 t).state := by
  unfold itineraryLoad withLivePen withPen
  try dsimp only
  repeat' first
    | with_reducible apply Keeps.rfl | decide | with_reducible apply Keeps.reply | with_reducible apply Keeps.refuses
    | with_reducible apply Keeps.waits | ((with_reducible intro _ k); exact k) | ((with_reducible intro _ _); exact (by rfl))
    | ((with_reducible intro _ k); exact (by split <;> exact k)) | ((with_reducible intro _ k); exact Pen.adopt_sound k)
    | with_reducible apply Keeps.step ?_ State.loadFrom_keeps ?_
    | with_reducible apply Keeps.step ?_ (State.modPen_keeps ?_) ?_ | split

theorem State.settleItineraries_keeps {t : State} : Keeps [.host, .comp, .pens, .drover, .np, .fab, .qe, .health, .out, .free] t (State.settleItineraries t) := by
  unfold State.settleItineraries
  refine State.forAll_keeps Keeps.rfl (fun u i => ?_)
  have h := itineraryLoad_keeps (a0 := { fn := slotFn i, slot := i, pay := (u.slotAt i).taken.drop 8 }) (t := u)
  split
  · rename_i e
    rw [e] at h
    exact Keeps.step h State.answer_keeps (by decide)
  · rename_i e
    rw [e] at h
    exact h

theorem execItineraryLoad_keeps {a0 a1} {t : State} : Result.Keeps [.host, .comp, .pens, .drover, .np, .fab, .qe, .health, .out, .free] t (execItineraryLoad a0 a1 t) := by
  unfold execItineraryLoad
  try dsimp only
  repeat' first
    | with_reducible apply Keeps.rfl | decide | with_reducible apply Result.keeps_done | with_reducible apply Result.keeps_fault
    | refine Keeps.trans ?_ (State.serve_keeps (fun r u => ?_) (by decide))
    | with_reducible apply Keeps.step ?_ State.quiet_keeps ?_
    | with_reducible apply Keeps.step ?_ itineraryLoad_keeps ?_ | split

/-! ## Machine/DroverRows.lean -/

theorem State.goldenBad_keeps {a1 a2} {t : State} : Keeps [.host, .drover, .health, .out] t (State.goldenBad t a1 a2) := by
  unfold State.goldenBad
  try dsimp only
  repeat' first
    | with_reducible apply Keeps.rfl | decide | with_reducible apply Keeps.step ?_ State.abandonBase_keeps ?_
    | with_reducible apply Keeps.step ?_ State.answerBase_keeps ?_
    | with_reducible apply Keeps.step ?_ State.logFault_keeps ?_
    | with_reducible apply Keeps.step ?_ State.modBase_keeps ?_ | split

theorem State.needLost_keeps {a1 a2 a3} {t : State} : Keeps [.host, .comp, .pens, .drover, .np, .fab, .qe, .health, .out, .free] t (State.needLost t a1 a2 a3) := by
  unfold State.needLost
  try dsimp only
  repeat' first
    | with_reducible apply Keeps.rfl | decide | with_reducible apply Keeps.step ?_ State.penFault_keeps ?_
    | with_reducible apply Keeps.step ?_ State.startRecipe_keeps ?_ | split

theorem State.farCopyBad_keeps {a1 a2 a3} {t : State} : Keeps [.host, .comp, .pens, .drover, .np, .fab, .qe, .health, .out, .free] t (State.farCopyBad t a1 a2 a3) := by
  unfold State.farCopyBad
  try dsimp only
  repeat' first
    | with_reducible apply Keeps.rfl | decide | with_reducible apply Keeps.step ?_ State.freeIdleRoom_keeps ?_
    | with_reducible apply Keeps.step ?_ State.goldenBad_keeps ?_
    | with_reducible apply Keeps.step ?_ State.logFault_keeps ?_
    | with_reducible apply Keeps.step ?_ State.modTensor_keeps ?_
    | with_reducible apply Keeps.step ?_ State.needLost_keeps ?_
    | with_reducible apply Keeps.step ?_ State.rejectOpen_keeps ?_
    | with_reducible apply Keeps.step ?_ State.retryAllocs_keeps ?_ | split

theorem State.beginBase_keeps {a1 a2 a3 a4} {t : State} : Keeps [.host, .comp, .pens, .drover, .np, .health, .out] t (State.beginBase t a1 a2 a3 a4) := by
  unfold State.beginBase
  try dsimp only
  repeat' first
    | with_reducible apply Keeps.rfl | decide | with_reducible apply Keeps.step ?_ State.answer_keeps ?_
    | with_reducible apply Keeps.step ?_ State.beginFetch_keeps ?_
    | with_reducible apply Keeps.step ?_ State.count_keeps ?_
    | with_reducible apply Keeps.step ?_ State.freeBasePages_keeps ?_
    | with_reducible apply Keeps.step ?_ State.idleTensor_keeps ?_
    | with_reducible apply Keeps.step ?_ State.modDrover_keeps ?_
    | with_reducible apply Keeps.step ?_ State.npFlushSource_keeps ?_
    | with_reducible apply Keeps.step ?_ State.npWrite_keeps ?_
    | with_reducible apply Keeps.step ?_ State.useTensor_keeps ?_
    | with_reducible apply Keeps.step ?_ State.writeFar_keeps ?_ | split

theorem State.tryBase_keeps {a1 a2 a3 a4} {t : State} : Keeps [.host, .comp, .pens, .drover, .np, .fab, .qe, .health, .out, .free] t (State.tryBase t a1 a2 a3 a4) := by
  unfold State.tryBase
  try dsimp only
  repeat' first
    | with_reducible apply Keeps.rfl | decide | with_reducible apply Keeps.step ?_ State.beginBase_keeps ?_
    | with_reducible apply Keeps.step ?_ State.meetPoison_keeps ?_ | split

theorem State.settleBases_keeps {t : State} : Keeps [.host, .comp, .pens, .drover, .np, .fab, .qe, .health, .out, .free] t (State.settleBases t) := by
  unfold State.settleBases
  try dsimp only
  repeat' first
    | with_reducible apply Keeps.rfl | decide | with_reducible apply Keeps.step ?_ State.tryBase_keeps ?_
    | with_reducible apply State.forAll_keeps ?_ (fun u x => ?_) | split

theorem State.settleWaits_keeps {t : State} : Keeps [.host, .comp, .pens, .drover, .np, .fab, .qe, .health, .out, .free] t (State.settleWaits t) := by
  unfold State.settleWaits
  try dsimp only
  repeat' first
    | with_reducible apply Keeps.rfl | decide | with_reducible apply Keeps.step ?_ State.settleBases_keeps ?_
    | with_reducible apply Keeps.step ?_ State.settleDrains_keeps ?_ | split

theorem State.sendVerdicts_keeps {a1 a2 a3 a4} {t : State} : Keeps [.host, .comp, .pens, .drover, .np, .fab, .qe, .health, .out, .free] t (State.sendVerdicts t a1 a2 a3 a4) := by
  unfold State.sendVerdicts
  try dsimp only
  repeat' first
    | with_reducible apply Keeps.rfl | decide | with_reducible apply Keeps.step ?_ State.farCopyBad_keeps ?_
    | with_reducible apply Keeps.step ?_ State.logFault_keeps ?_
    | with_reducible apply Keeps.step ?_ State.sendVerdict_keeps ?_
    | with_reducible apply State.forAll_keeps ?_ (fun u x => ?_) | split

theorem State.landFetch_keeps {a1 a2 a3 a4} {t : State} : Keeps [.host, .comp, .pens, .drover, .np, .fab, .qe, .health, .out, .free] t (State.landFetch t a1 a2 a3 a4) := by
  unfold State.landFetch
  try dsimp only
  repeat' first
    | with_reducible apply Keeps.rfl | decide | with_reducible apply Keeps.step ?_ State.answerBase_keeps ?_
    | with_reducible apply Keeps.step ?_ State.becomeNear_keeps ?_
    | with_reducible apply Keeps.step ?_ State.count_keeps ?_
    | with_reducible apply Keeps.step ?_ State.farCopyBad_keeps ?_
    | with_reducible apply Keeps.step ?_ State.logFault_keeps ?_
    | with_reducible apply Keeps.step ?_ State.modBase_keeps ?_
    | with_reducible apply Keeps.step ?_ State.modTensor_keeps ?_
    | with_reducible apply Keeps.step ?_ State.npFlushSource_keeps ?_
    | with_reducible apply Keeps.step ?_ State.npWrite_keeps ?_
    | with_reducible apply Keeps.step ?_ State.penWrite_keeps ?_
    | with_reducible apply Keeps.step ?_ State.settleWaits_keeps ?_ | split

theorem execFarReadComplete_keeps {a0 a1 a2 a3} {t : State} : Result.Keeps [.host, .comp, .pens, .drover, .np, .fab, .qe, .health, .out, .free] t (execFarReadComplete a0 a1 a2 a3 t) := by
  unfold execFarReadComplete
  try dsimp only
  repeat' first
    | with_reducible apply Keeps.rfl | decide | with_reducible apply Result.keeps_done | with_reducible apply Result.keeps_fault
    | with_reducible apply Keeps.step ?_ State.count_keeps ?_
    | with_reducible apply Keeps.step ?_ State.endSwitched_keeps ?_
    | with_reducible apply Keeps.step ?_ State.farCopyBad_keeps ?_
    | with_reducible apply Keeps.step ?_ State.landFetch_keeps ?_
    | with_reducible apply Keeps.step ?_ State.modAny_keeps ?_
    | with_reducible apply Keeps.step ?_ State.pumpReads_keeps ?_
    | with_reducible apply Keeps.step ?_ State.quiet_keeps ?_
    | with_reducible apply Keeps.step ?_ State.retryAllocs_keeps ?_
    | with_reducible apply Keeps.step ?_ State.sendVerdicts_keeps ?_ | split

theorem execFarReadTimeout_keeps {a0 a1} {t : State} : Result.Keeps [.host, .comp, .pens, .drover, .np, .fab, .qe, .health, .out, .free] t (execFarReadTimeout a0 a1 t) := by
  unfold execFarReadTimeout
  try dsimp only
  repeat' first
    | with_reducible apply Keeps.rfl | decide | with_reducible apply Result.keeps_done | with_reducible apply Result.keeps_fault
    | with_reducible apply Keeps.step ?_ State.farCopyBad_keeps ?_
    | with_reducible apply Keeps.step ?_ State.pumpReads_keeps ?_
    | with_reducible apply Keeps.step ?_ State.quiet_keeps ?_ | split

theorem State.repredict_keeps {a1} {t : State} : Keeps [.comp, .pens, .health] t (State.repredict t a1) := by
  unfold State.repredict
  try dsimp only
  repeat' first
    | with_reducible apply Keeps.rfl | decide | with_reducible apply Keeps.step ?_ State.modTensor_keeps ?_
    | with_reducible apply Keeps.step ?_ State.startRecipe_keeps ?_ | split

theorem State.stallFetch_keeps {a1} {t : State} : Keeps [.comp, .pens, .health] t (State.stallFetch t a1) := by
  unfold State.stallFetch
  try dsimp only
  repeat' first
    | with_reducible apply Keeps.rfl | decide | with_reducible apply Keeps.step ?_ State.modTensor_keeps ?_
    | with_reducible apply Keeps.step ?_ State.repredict_keeps ?_ | split

theorem State.unstallFetch_keeps {a1} {t : State} : Keeps [.pens] t (State.unstallFetch t a1) := by
  unfold State.unstallFetch
  try dsimp only
  repeat' first
    | with_reducible apply Keeps.rfl | decide | with_reducible apply Keeps.step ?_ State.modTensor_keeps ?_ | split

theorem State.startRelink_keeps {t : State} : Keeps [.host, .comp, .pens, .talsen, .health, .out] t (State.startRelink t) := by
  unfold State.startRelink
  try dsimp only
  repeat' first
    | with_reducible apply Keeps.rfl | decide | with_reducible apply Keeps.step ?_ State.healthEventAll_keeps ?_
    | with_reducible apply Keeps.step ?_ State.modTalsen_keeps ?_
    | with_reducible apply Keeps.step ?_ State.stallFetch_keeps ?_
    | with_reducible apply State.forAll_keeps ?_ (fun u x => ?_) | split

theorem execFetchRepredict_keeps {t : State} : Result.Keeps [.comp, .pens, .health, .out] t (execFetchRepredict t) := by
  unfold execFetchRepredict
  try dsimp only
  repeat' first
    | with_reducible apply Keeps.rfl | decide | with_reducible apply Result.keeps_done | with_reducible apply Result.keeps_fault
    | with_reducible apply Keeps.step ?_ State.quiet_keeps ?_
    | with_reducible apply Keeps.step ?_ State.repredict_keeps ?_
    | with_reducible apply State.forAll_keeps ?_ (fun u x => ?_) | split

theorem execNeedWaitTimeout_keeps {a0} {t : State} : Result.Keeps [.host, .comp, .pens, .drover, .np, .fab, .qe, .health, .out, .free] t (execNeedWaitTimeout a0 t) := by
  unfold execNeedWaitTimeout
  try dsimp only
  repeat' first
    | with_reducible apply Keeps.rfl | decide | with_reducible apply Result.keeps_done | with_reducible apply Result.keeps_fault
    | with_reducible apply Keeps.step ?_ State.count_keeps ?_
    | with_reducible apply Keeps.step ?_ State.penFault_keeps ?_
    | with_reducible apply Keeps.step ?_ State.quiet_keeps ?_
    | with_reducible apply Keeps.step ?_ State.retryAllocs_keeps ?_ | split

theorem execPoolExhausted_keeps {a0} {t : State} : Result.Keeps [.host, .comp, .pens, .drover, .np, .fab, .qe, .health, .out, .free] t (execPoolExhausted a0 t) := by
  unfold execPoolExhausted
  try dsimp only
  repeat' first
    | with_reducible apply Keeps.rfl | decide | with_reducible apply Result.keeps_done | with_reducible apply Result.keeps_fault
    | with_reducible apply Keeps.step ?_ State.allocate_keeps ?_
    | with_reducible apply Keeps.step ?_ State.penFault_keeps ?_
    | with_reducible apply Keeps.step ?_ State.quiet_keeps ?_
    | with_reducible apply Keeps.step ?_ State.retryAllocs_keeps ?_ | split

theorem execLastUseSweep_keeps {t : State} : Result.Keeps [.pens, .out] t (execLastUseSweep t) := by
  refine Result.keeps_done ⟨⟨fun a h => by cases a <;> first | rfl | exact absurd (by decide) h, rfl⟩, fun h => { h with
    pens := ⟨by simpa [State.quiet] using h.pens.1, fun p hp => ?_⟩ }⟩
  obtain ⟨q, hq, rfl⟩ := List.mem_map.1 hp
  exact h.pens.2 q hq

theorem execWriteBehindComplete_keeps {a0} {t : State} : Result.Keeps [.host, .comp, .pens, .drover, .np, .fab, .qe, .health, .out, .free] t (execWriteBehindComplete a0 t) := by
  unfold execWriteBehindComplete
  try dsimp only
  repeat' first
    | with_reducible apply Keeps.rfl | decide | with_reducible apply Result.keeps_done | with_reducible apply Result.keeps_fault
    | with_reducible apply Keeps.step ?_ State.modTensor_keeps ?_
    | with_reducible apply Keeps.step ?_ State.quiet_keeps ?_
    | with_reducible apply Keeps.step ?_ State.retryAllocs_keeps ?_ | split

theorem State.wbFails_keeps {a1 a2} {t : State} : Keeps [.pens, .health, .out] t (State.wbFails t a1 a2) := by
  unfold State.wbFails
  try dsimp only
  repeat' first
    | with_reducible apply Keeps.rfl | decide | with_reducible apply Keeps.step ?_ State.beginWriteBehind_keeps ?_
    | with_reducible apply Keeps.step ?_ State.modTensor_keeps ?_ | split

theorem execFarWriteFailure_keeps {a0 a1} {t : State} : Result.Keeps [.pens, .health, .out] t (execFarWriteFailure a0 a1 t) := by
  unfold execFarWriteFailure
  try dsimp only
  repeat' first
    | with_reducible apply Keeps.rfl | decide | with_reducible apply Result.keeps_done | with_reducible apply Result.keeps_fault
    | with_reducible apply Keeps.step ?_ State.quiet_keeps ?_
    | with_reducible apply Keeps.step ?_ State.wbFails_keeps ?_ | split

theorem State.resumeWriteBehind_keeps {a1} {t : State} : Keeps [.pens, .health, .out] t (State.resumeWriteBehind t a1) := by
  unfold State.resumeWriteBehind
  try dsimp only
  repeat' first
    | with_reducible apply Keeps.rfl | decide | with_reducible apply Keeps.step ?_ State.beginWriteBehind_keeps ?_
    | with_reducible apply Keeps.step ?_ State.modTensor_keeps ?_ | split

theorem State.nearServes_keeps {t : State} : Keeps [.host, .comp, .pens, .drover, .np, .fab, .qe, .health, .out, .free] t (State.nearServes t) := by
  unfold State.nearServes
  try dsimp only
  repeat' first
    | with_reducible apply Keeps.rfl | decide | with_reducible apply Keeps.step ?_ State.completeEnded_keeps ?_
    | with_reducible apply Keeps.step ?_ State.npServeWaiting_keeps ?_
    | with_reducible apply Keeps.step ?_ State.queueServes_keeps ?_
    | with_reducible apply Keeps.step ?_ State.resumeWriteBehind_keeps ?_
    | with_reducible apply Keeps.step ?_ State.settleItineraries_keeps ?_
    | with_reducible apply Keeps.step ?_ State.settleWaits_keeps ?_
    | with_reducible apply State.forAll_keeps ?_ (fun u x => ?_) | split

theorem State.countRecompute_keeps {a1} {t : State} : Keeps [.comp] t (State.countRecompute t a1) := by
  unfold State.countRecompute
  try dsimp only
  repeat' first
    | with_reducible apply Keeps.rfl | decide | with_reducible apply Keeps.step ?_ State.modOp_keeps ?_
    | with_reducible apply State.forAll_keeps ?_ (fun u x => ?_) | split

theorem execRecipeComplete_keeps {a0} {t : State} : Result.Keeps [.host, .comp, .pens, .drover, .np, .fab, .qe, .health, .out, .free] t (execRecipeComplete a0 t) := by
  unfold execRecipeComplete
  try dsimp only
  repeat' first
    | with_reducible apply Keeps.rfl | decide | with_reducible apply Result.keeps_done | with_reducible apply Result.keeps_fault
    | with_reducible apply Keeps.step ?_ State.becomeNear_keeps ?_
    | with_reducible apply Keeps.step ?_ State.countRecompute_keeps ?_
    | with_reducible apply Keeps.step ?_ State.endSwitched_keeps ?_
    | with_reducible apply Keeps.step ?_ State.freeScratch_keeps ?_
    | with_reducible apply Keeps.step ?_ State.idleTensor_keeps ?_
    | with_reducible apply Keeps.step ?_ State.modTensor_keeps ?_
    | with_reducible apply Keeps.step ?_ State.quiet_keeps ?_
    | with_reducible apply Keeps.step ?_ State.retryAllocs_keeps ?_
    | with_reducible apply Keeps.step ?_ State.settleWaits_keeps ?_ | split

theorem State.meetEncodePoison_keeps {a1 a2} {t : State} : Keeps [.host, .comp, .pens, .drover, .np, .fab, .qe, .health, .out, .free] t (State.meetEncodePoison t a1 a2) := by
  unfold State.meetEncodePoison
  try dsimp only
  repeat' first
    | with_reducible apply Keeps.rfl | decide | with_reducible apply Keeps.step ?_ State.meetPoison_keeps ?_
    | with_reducible apply Keeps.step ?_ State.poisonBase_keeps ?_ | split

theorem execDltEncodeComplete_keeps {a0} {t : State} : Result.Keeps [.host, .comp, .pens, .drover, .np, .fab, .qe, .health, .out, .free] t (execDltEncodeComplete a0 t) := by
  unfold execDltEncodeComplete
  try dsimp only
  repeat' first
    | with_reducible apply Keeps.rfl | decide | with_reducible apply Result.keeps_done | with_reducible apply Result.keeps_fault
    | with_reducible apply Keeps.step ?_ State.allocate_keeps ?_
    | with_reducible apply Keeps.step ?_ State.becomeNear_keeps ?_
    | with_reducible apply Keeps.step ?_ State.count_keeps ?_
    | with_reducible apply Keeps.step ?_ State.idleTensor_keeps ?_
    | with_reducible apply Keeps.step ?_ State.meetEncodePoison_keeps ?_
    | with_reducible apply Keeps.step ?_ State.modTensor_keeps ?_
    | with_reducible apply Keeps.step ?_ State.npFlushSource_keeps ?_
    | with_reducible apply Keeps.step ?_ State.penWrite_keeps ?_
    | with_reducible apply Keeps.step ?_ State.quiet_keeps ?_
    | with_reducible apply Keeps.step ?_ State.setAllocWait_keeps ?_
    | with_reducible apply Keeps.step ?_ State.settleWaits_keeps ?_
    | with_reducible apply Keeps.step ?_ State.takePath_keeps ?_
    | with_reducible apply Keeps.step ?_ State.useTensor_keeps ?_ | split

theorem execGoldenScrub_keeps {a0 a1 a2} {t : State} : Result.Keeps [.host, .drover, .health, .out] t (execGoldenScrub a0 a1 a2 t) := by
  unfold execGoldenScrub
  try dsimp only
  repeat' first
    | with_reducible apply Keeps.rfl | decide | with_reducible apply Result.keeps_done | with_reducible apply Result.keeps_fault
    | with_reducible apply Keeps.step ?_ State.count_keeps ?_
    | with_reducible apply Keeps.step ?_ State.logFault_keeps ?_
    | with_reducible apply Keeps.step ?_ State.modBase_keeps ?_
    | with_reducible apply Keeps.step ?_ State.quiet_keeps ?_
    | with_reducible apply Keeps.step ?_ State.writeFar_keeps ?_ | split

end Sys2Proof.Machine
end

