-- ==== Sys2Proof/Laws/FrameDevice.lean ====
section
/-! SUPPORT. What each operation of the Sheepdog, the registers, Tally, video, resets, heat, the wipes and the operators may change, and that it keeps a sound machine sound: one lemma per definition. -/

-- One proof at a time: the package as one text otherwise asks for more threads than its memory limit allows.
set_option Elab.async false
set_option linter.all false

namespace Sys2Proof.Machine

/-! ## Machine/Sheepdog.lean -/

theorem Sheepdog.ownWrite_two (g : Sheepdog) (a b : OwnWrite) : g.SameModes ((g.ownWrite a).ownWrite b) :=
  (g.ownWrite_same a).trans ((g.ownWrite a).ownWrite_same b)

theorem Sheepdog.choose_same (g : Sheepdog) (b : Bool) : g.SameModes (g.choose b).1 := by
  unfold Sheepdog.choose
  dsimp only
  repeat' split
  all_goals with_reducible first
    | exact g.ownWrite_same _ | exact Sheepdog.SameModes.refl g | exact g.ownWrite_two _ _

theorem Sheepdog.migrate_same (g : Sheepdog) (i : Nat) : g.SameModes (g.migrate i) := by
  unfold Sheepdog.migrate
  dsimp only
  split
  · exact Sheepdog.SameModes.refl g
  split
  · exact Sheepdog.SameModes.refl g
  · exact (g.ownWrite_same _).trans (Sheepdog.ownWrite_same _ _)

theorem Sheepdog.started_same (g : Sheepdog) (i : Nat) : g.SameModes (g.started i) := ⟨rfl, rfl⟩

theorem Sheepdog.confirmHealth_same (g : Sheepdog) : g.SameModes g.confirmHealth := by
  unfold Sheepdog.confirmHealth
  dsimp only
  split
  · exact Sheepdog.SameModes.refl g
  · exact (Sheepdog.SameModes.trans (g.ownWrite_same _) (Sheepdog.ownWrite_same _ _)).trans (Sheepdog.ownWrite_same _ _)

theorem Sheepdog.fallBack_same (g : Sheepdog) : g.SameModes g.fallBack :=
  Sheepdog.SameModes.trans (g.ownWrite_same _) ⟨rfl, rfl⟩

theorem Sheepdog.spoilImage_same (g : Sheepdog) (i : Nat) : g.SameModes (g.spoilImage i) := by
  unfold Sheepdog.spoilImage
  repeat' split
  all_goals with_reducible first | exact g.ownWrite_same _ | exact Sheepdog.SameModes.refl g

theorem Sheepdog.restoreBcb_same (g : Sheepdog) : g.SameModes g.restoreBcb := by
  unfold Sheepdog.restoreBcb
  split
  · exact g.ownWrite_same _
  · exact Sheepdog.SameModes.refl g

theorem Sheepdog.restoreIdentity_same (g : Sheepdog) : g.SameModes g.restoreIdentity := by
  unfold Sheepdog.restoreIdentity
  split
  · exact g.ownWrite_same _
  · exact Sheepdog.SameModes.refl g

theorem Sheepdog.bcb_same (g : Sheepdog) (l : List Bcb) : g.SameModes { g with bcb := l } := ⟨rfl, rfl⟩

theorem Sheepdog.identity_same (g : Sheepdog) (l : List Identity) : g.SameModes { g with identity := l } := ⟨rfl, rfl⟩

theorem Sheepdog.flashErase_same (g : Sheepdog) (a : Nat) : g.SameModes (g.flashErase a) := ⟨rfl, rfl⟩

theorem Sheepdog.spoil_same (g : Sheepdog) (b : Bool) (a : Nat) : g.SameModes (g.spoil b a) := by
  unfold Sheepdog.spoil
  dsimp only
  split
  · split
    · exact (g.bcb_same _).trans (Sheepdog.restoreBcb_same _)
    · exact g.bcb_same _
  split
  · split
    · exact (g.identity_same _).trans (Sheepdog.restoreIdentity_same _)
    · exact g.identity_same _
  split
  · exact g.settings_same _
  · split
    · exact g.spoilImage_same _
    · exact Sheepdog.SameModes.refl g

theorem Sheepdog.eraseSector_same (g : Sheepdog) (a : Nat) : g.SameModes (g.eraseSector a) := by
  unfold Sheepdog.eraseSector
  exact ((g.append_same _ _).trans (Sheepdog.flashErase_same _ _)).trans (Sheepdog.append_same _ _ _)

theorem Sheepdog.resolve_same (g : Sheepdog) (r : JournalRec) : g.SameModes (g.resolve r) := by
  unfold Sheepdog.resolve
  refine Sheepdog.SameModes.trans (Sheepdog.SameModes.trans ?_ (Sheepdog.spoil_same _ _ _)) (Sheepdog.append_same _ _ _)
  split
  · exact g.eraseSector_same _
  · exact Sheepdog.SameModes.refl g

theorem Sheepdog.scan_same (g : Sheepdog) : g.SameModes g.scan := by
  unfold Sheepdog.scan
  exact foldl_sameModes (fun x r => x.resolve_same r) _ g

theorem Sheepdog.sectorErased_same (g : Sheepdog) : g.SameModes g.sectorErased := by
  have h (a : Nat) (l : List Nat) : g.SameModes (({ g.flashErase a with erasing := l } : Sheepdog).append .eraseDone a) :=
    Sheepdog.SameModes.trans ⟨rfl, rfl⟩ (Sheepdog.append_same _ _ _)
  unfold Sheepdog.sectorErased
  split
  · exact Sheepdog.SameModes.refl g
  · exact h _ _
  · exact (h _ _).trans (Sheepdog.append_same _ _ _)

theorem execPresencePress_keeps {a0} {t : State} : Result.Keeps [.dog, .out] t (execPresencePress a0 t) := by
  unfold execPresencePress
  try dsimp only
  repeat' first
    | with_reducible apply Keeps.rfl | decide | with_reducible apply Result.keeps_done | with_reducible apply Result.keeps_fault
    | ((with_reducible intro h); apply h.dog) | ((with_reducible intro h); exact ⟨h.dog.1, (by decide)⟩) | ((with_reducible intro h); exact ⟨h.dog.1, Nat.zero_le _⟩)
    | with_reducible apply Keeps.step ?_ (State.modDog_keeps ?_) ?_
    | with_reducible apply Keeps.step ?_ State.quiet_keeps ?_ | split

theorem execPresenceStuck_keeps {t : State} : Result.Keeps [.dog, .host, .health, .out] t (execPresenceStuck t) := by
  unfold execPresenceStuck
  try dsimp only
  repeat' first
    | with_reducible apply Keeps.rfl | decide | with_reducible apply Result.keeps_done | with_reducible apply Result.keeps_fault
    | ((with_reducible intro h); apply h.dog) | ((with_reducible intro h); exact ⟨h.dog.1, (by decide)⟩) | ((with_reducible intro h); exact ⟨h.dog.1, Nat.zero_le _⟩)
    | with_reducible apply Keeps.step ?_ State.logFault_keeps ?_
    | with_reducible apply Keeps.step ?_ (State.modDog_keeps ?_) ?_
    | with_reducible apply Keeps.step ?_ State.quiet_keeps ?_ | split

theorem execPresenceWindowExpiry_keeps {t : State} : Result.Keeps [.dog, .out] t (execPresenceWindowExpiry t) := by
  unfold execPresenceWindowExpiry
  try dsimp only
  repeat' first
    | with_reducible apply Keeps.rfl | decide | with_reducible apply Result.keeps_done | with_reducible apply Result.keeps_fault
    | ((with_reducible intro h); apply h.dog) | ((with_reducible intro h); exact ⟨h.dog.1, (by decide)⟩) | ((with_reducible intro h); exact ⟨h.dog.1, Nat.zero_le _⟩)
    | with_reducible apply Keeps.step ?_ (State.modDog_keeps ?_) ?_
    | with_reducible apply Keeps.step ?_ State.quiet_keeps ?_ | split

theorem State.sampleStrap_keeps {a1} {t : State} : Keeps [.dog] t (State.sampleStrap t a1) := by
  unfold State.sampleStrap
  try dsimp only
  repeat' first
    | with_reducible apply Keeps.rfl | decide | ((with_reducible intro h); apply h.dog) | ((with_reducible intro h); exact ⟨h.dog.1, (by decide)⟩)
    | ((with_reducible intro h); exact ⟨h.dog.1, Nat.zero_le _⟩) | with_reducible apply Keeps.step ?_ (State.modDog_keeps ?_) ?_ | split

theorem State.sampleHoldup_keeps {a1} {t : State} : Keeps [.dog] t (State.sampleHoldup t a1) := by
  unfold State.sampleHoldup
  try dsimp only
  repeat' first
    | with_reducible apply Keeps.rfl | decide | ((with_reducible intro h); exact Sheepdog.flushOwn_sound h.dog) | ((with_reducible intro h); apply h.dog)
    | ((with_reducible intro h); exact ⟨h.dog.1, (by decide)⟩) | ((with_reducible intro h); exact ⟨h.dog.1, Nat.zero_le _⟩)
    | with_reducible apply Keeps.step ?_ (State.modDog_keeps ?_) ?_ | split

theorem execSealSample_keeps {a0} {t : State} : Result.Keeps [.dog, .host, .health, .out, .free] t (execSealSample a0 t) := by
  unfold execSealSample
  try dsimp only
  repeat' first
    | with_reducible apply Keeps.rfl | decide | with_reducible apply Result.keeps_done | with_reducible apply Result.keeps_fault
    | ((with_reducible intro h); apply h.dog) | ((with_reducible intro h); exact ⟨h.dog.1, (by decide)⟩) | ((with_reducible intro h); exact ⟨h.dog.1, Nat.zero_le _⟩)
    | with_reducible apply Keeps.step ?_ State.draw_keeps ?_
    | with_reducible apply Keeps.step ?_ State.logFault_keeps ?_
    | with_reducible apply Keeps.step ?_ (State.modDog_keeps ?_) ?_
    | with_reducible apply Keeps.step ?_ State.ownWrite_keeps ?_
    | with_reducible apply Keeps.step ?_ State.quiet_keeps ?_
    | with_reducible apply Keeps.step ?_ State.sampleHoldup_keeps ?_
    | with_reducible apply Keeps.step ?_ State.sampleStrap_keeps ?_ | split

theorem execHoldupOkAsserted_keeps {t : State} : Result.Keeps [.dog, .out] t (execHoldupOkAsserted t) := by
  unfold execHoldupOkAsserted
  try dsimp only
  repeat' first
    | with_reducible apply Keeps.rfl | decide | with_reducible apply Result.keeps_done | with_reducible apply Result.keeps_fault
    | ((with_reducible intro h); exact Sheepdog.flushOwn_sound h.dog) | ((with_reducible intro h); apply h.dog) | ((with_reducible intro h); exact ⟨h.dog.1, (by decide)⟩)
    | ((with_reducible intro h); exact ⟨h.dog.1, Nat.zero_le _⟩) | with_reducible apply Keeps.step ?_ (State.modDog_keeps ?_) ?_
    | with_reducible apply Keeps.step ?_ State.quiet_keeps ?_ | split

/-! ## Machine/Registers.lean -/

theorem State.readPublished_keeps {a1} {t : State} : Keeps [.host, .free] t (State.readPublished t a1).2 := by
  unfold State.readPublished
  try dsimp only
  repeat' first
    | with_reducible apply Keeps.rfl | decide | ((with_reducible intro h); apply h.host) | ((with_reducible intro h); exact ⟨rfl, h.host.2⟩)
    | ((with_reducible intro h); exact ⟨h.host.1, rfl⟩) | with_reducible apply Keeps.step ?_ State.draw_keeps ?_
    | with_reducible apply Keeps.step ?_ State.latchTime_keeps ?_
    | with_reducible apply Keeps.step ?_ (State.modHost_keeps ?_) ?_ | split
    | ((with_reducible intro h); exact by simpa [HostIf.Sound] using h.host)

/-! ## Machine/Tally.lean -/

theorem Power.stepDown_duty {p : Power} {n : Nat} (h : 4 ≤ p.duty ∧ p.duty ≤ 16) :
    4 ≤ (p.stepDown n).duty ∧ (p.stepDown n).duty ≤ 16 := by
  unfold Power.stepDown
  dsimp only
  repeat' split
  all_goals simp only <;> omega

theorem Power.stepUp_duty {p : Power} {n : Nat} (h : 4 ≤ p.duty ∧ p.duty ≤ 16) : 4 ≤ (p.stepUp n).duty ∧ (p.stepUp n).duty ≤ 16 := by
  unfold Power.stepUp
  repeat' split
  all_goals first | exact h | simp_all only [Bool.and_eq_true, decide_eq_true_eq] <;> omega

theorem State.tick_keeps {t : State} : Keeps [.health] t (State.tick t) := by
  unfold State.tick
  try dsimp only
  repeat' first
    | with_reducible apply Keeps.rfl | decide | ((with_reducible intro h); apply h.health)
    | with_reducible apply Keeps.step ?_ (State.modHealth_keeps ?_) ?_ | split

theorem execTallyTick_keeps {t : State} : Result.Keeps [.host, .health, .out] t (execTallyTick t) := by
  unfold execTallyTick
  try dsimp only
  repeat' first
    | with_reducible apply Keeps.rfl | decide | with_reducible apply Result.keeps_done | with_reducible apply Result.keeps_fault
    | ((with_reducible intro h); apply h.health) | with_reducible apply Keeps.step ?_ State.answer_keeps ?_
    | with_reducible apply Keeps.step ?_ (State.modHealth_keeps ?_) ?_
    | with_reducible apply Keeps.step ?_ State.quiet_keeps ?_ | with_reducible apply Keeps.step ?_ State.tick_keeps ?_
    | split

theorem execPowerMeasurement_keeps {a0 a1} {t : State} : Result.Keeps [.health, .out] t (execPowerMeasurement a0 a1 t) := by
  unfold execPowerMeasurement
  try dsimp only
  repeat' first
    | with_reducible apply Keeps.rfl | decide | with_reducible apply Result.keeps_done | with_reducible apply Result.keeps_fault
    | ((with_reducible intro h); apply h.health.2.2) | ((with_reducible intro _); exact (by simp)) | ((with_reducible intro h); exact Power.stepDown_duty h.health.2.2)
    | ((with_reducible intro h); exact Power.stepUp_duty h.health.2.2) | with_reducible apply Keeps.step ?_ State.count_keeps ?_
    | with_reducible apply Keeps.step ?_ (State.modPower_keeps ?_) ?_
    | with_reducible apply Keeps.step ?_ State.quiet_keeps ?_ | split

theorem State.capIteration_keeps {t : State} : Keeps [.host, .health, .out] t (State.capIteration t) := by
  unfold State.capIteration
  dsimp only
  split
  · exact Keeps.rfl
  · have h1 : Keeps [.host, .health, .out] t
        (if (!t.health.power.meanAbove 10 (1000 * t.health.power.limit)) = true then t.modPower (fun q => { q with unmetLogged := false })
          else t) := by
      split
      · exact (State.modPower_keeps (fun h => h.health.2.2)).mono (by decide)
      · exact Keeps.rfl
    generalize (if (!t.health.power.meanAbove 10 (1000 * t.health.power.limit)) = true then
      t.modPower (fun q => { q with unmetLogged := false }) else t) = v at h1
    split
    · have h2 : Keeps [.host, .health, .out] t ((v.modPower (fun q => q.stepDown t.time.clock)).count 9 1) :=
        Keeps.step (h1.step (State.modPower_keeps (fun h => Power.stepDown_duty h.health.2.2)) (by decide)) State.count_keeps (by decide)
      generalize (v.modPower (fun q => q.stepDown t.time.clock)).count 9 1 = w at h2
      split
      · exact Keeps.step (h2.step (State.modPower_keeps (fun h => h.health.2.2)) (by decide)) State.logFault_keeps (by decide)
      · exact h2
    · exact h1.step (State.modPower_keeps (fun h => Power.stepUp_duty h.health.2.2)) (by decide)

theorem execCapIteration_keeps {t : State} : Result.Keeps [.host, .health, .out] t (execCapIteration t) := by
  unfold execCapIteration
  try dsimp only
  repeat' first
    | with_reducible apply Keeps.rfl | decide | with_reducible apply Result.keeps_done | with_reducible apply Result.keeps_fault
    | with_reducible apply Keeps.step ?_ State.capIteration_keeps ?_
    | with_reducible apply Keeps.step ?_ State.quiet_keeps ?_ | split

theorem execPowerBrakeNAsserted_keeps {t : State} : Result.Keeps [.health, .out] t (execPowerBrakeNAsserted t) := by
  unfold execPowerBrakeNAsserted
  try dsimp only
  repeat' first
    | with_reducible apply Keeps.rfl | decide | with_reducible apply Result.keeps_done | with_reducible apply Result.keeps_fault
    | ((with_reducible intro h); apply h.health.2.2) | ((with_reducible intro _); exact (by simp)) | ((with_reducible intro h); exact Power.stepDown_duty h.health.2.2)
    | ((with_reducible intro h); exact Power.stepUp_duty h.health.2.2) | with_reducible apply Keeps.step ?_ State.count_keeps ?_
    | with_reducible apply Keeps.step ?_ (State.modPower_keeps ?_) ?_
    | with_reducible apply Keeps.step ?_ State.quiet_keeps ?_ | split

theorem execPowerBrakeNReleased_keeps {t : State} : Result.Keeps [.health, .out] t (execPowerBrakeNReleased t) := by
  unfold execPowerBrakeNReleased
  try dsimp only
  repeat' first
    | with_reducible apply Keeps.rfl | decide | with_reducible apply Result.keeps_done | with_reducible apply Result.keeps_fault
    | ((with_reducible intro h); apply h.health.2.2) | ((with_reducible intro _); exact (by simp)) | ((with_reducible intro h); exact Power.stepDown_duty h.health.2.2)
    | ((with_reducible intro h); exact Power.stepUp_duty h.health.2.2) | with_reducible apply Keeps.step ?_ (State.modPower_keeps ?_) ?_
    | with_reducible apply Keeps.step ?_ State.quiet_keeps ?_ | split

theorem execHubEcc_keeps {a0} {t : State} : Result.Keeps [.boot, .host, .comp, .pens, .drover, .np, .fab, .qe, .health, .out, .free] t (execHubEcc a0 t) := by
  unfold execHubEcc
  try dsimp only
  repeat' first
    | with_reducible apply Keeps.rfl | decide | with_reducible apply Result.keeps_done | with_reducible apply Result.keeps_fault
    | with_reducible apply Keeps.step ?_ State.hubFault_keeps ?_
    | with_reducible apply Keeps.step ?_ State.logFault_keeps ?_
    | with_reducible apply Keeps.step ?_ State.quiet_keeps ?_ | split

theorem execDroveRoadCe_keeps {a0} {t : State} : Result.Keeps [.host, .health, .out] t (execDroveRoadCe a0 t) := by
  unfold execDroveRoadCe
  try dsimp only
  repeat' first
    | with_reducible apply Keeps.rfl | decide | with_reducible apply Result.keeps_done | with_reducible apply Result.keeps_fault
    | with_reducible apply Keeps.step ?_ State.logFault_keeps ?_
    | with_reducible apply Keeps.step ?_ State.quiet_keeps ?_ | split

theorem execDroveRoadUe_keeps {a0} {t : State} : Result.Keeps [.boot, .host, .comp, .pens, .drover, .np, .fab, .qe, .health, .out, .free] t (execDroveRoadUe a0 t) := by
  unfold execDroveRoadUe
  try dsimp only
  repeat' first
    | with_reducible apply Keeps.rfl | decide | with_reducible apply Result.keeps_done | with_reducible apply Result.keeps_fault
    | with_reducible apply Keeps.step ?_ State.hubFault_keeps ?_
    | with_reducible apply Keeps.step ?_ State.logFault_keeps ?_
    | with_reducible apply Keeps.step ?_ State.quiet_keeps ?_ | split

theorem execCommonsUe_keeps {a0} {t : State} : Result.Keeps [.boot, .host, .comp, .pens, .drover, .np, .fab, .qe, .health, .out, .free] t (execCommonsUe a0 t) := by
  unfold execCommonsUe
  try dsimp only
  repeat' first
    | with_reducible apply Keeps.rfl | decide | with_reducible apply Result.keeps_done | with_reducible apply Result.keeps_fault
    | with_reducible apply Keeps.step ?_ State.hubFault_keeps ?_
    | with_reducible apply Keeps.step ?_ State.logFault_keeps ?_
    | with_reducible apply Keeps.step ?_ State.quiet_keeps ?_ | split

theorem execCometSramUe_keeps {t : State} : Result.Keeps [.boot, .host, .comp, .pens, .drover, .np, .fab, .qe, .health, .out, .free] t (execCometSramUe t) := by
  unfold execCometSramUe
  try dsimp only
  repeat' first
    | with_reducible apply Keeps.rfl | decide | with_reducible apply Result.keeps_done | with_reducible apply Result.keeps_fault
    | with_reducible apply Keeps.step ?_ State.hubFault_keeps ?_
    | with_reducible apply Keeps.step ?_ State.logFault_keeps ?_
    | with_reducible apply Keeps.step ?_ State.quiet_keeps ?_ | split

/-! ## Machine/Video.lean -/

theorem State.modStream_keeps {a1 a2} {t : State} : Keeps [.video] t (State.modStream t a1 a2) := by
  unfold State.modStream
  try dsimp only
  repeat' first
    | with_reducible apply Keeps.rfl | decide | ((with_reducible intro h); apply h.video)
    | with_reducible apply Keeps.step ?_ (State.modVideo_keeps ?_) ?_ | split
    | ((with_reducible intro h); exact by simpa [Video.Sound] using h.video)

theorem State.modCore_keeps {a1 a2} {t : State} : Keeps [.video] t (State.modCore t a1 a2) := by
  unfold State.modCore
  try dsimp only
  repeat' first
    | with_reducible apply Keeps.rfl | decide | ((with_reducible intro h); apply h.video)
    | with_reducible apply Keeps.step ?_ (State.modVideo_keeps ?_) ?_ | split
    | ((with_reducible intro h); exact by simpa [Video.Sound] using h.video)

theorem State.videoAct_keeps {a1} {t : State} : Keeps [.host, .pens, .np, .qe, .health, .out] t (State.videoAct t a1) := by
  unfold State.videoAct
  try dsimp only
  repeat' first
    | with_reducible apply Keeps.rfl | decide | with_reducible apply Keeps.step ?_ State.addCounter_keeps ?_
    | with_reducible apply Keeps.step ?_ State.cpl_keeps ?_ | split

theorem State.videoDo_keeps {a1} {t : State} : Keeps [.host, .pens, .np, .qe, .video, .health, .out] t (State.videoDo t a1) := by
  unfold State.videoDo
  try dsimp only
  repeat' first
    | with_reducible apply Keeps.rfl | decide | ((with_reducible intro h); apply h.video)
    | with_reducible apply Keeps.step ?_ (State.modVideo_keeps ?_) ?_
    | with_reducible apply Keeps.step ?_ State.videoAct_keeps ?_ | split
    | ((with_reducible intro h); exact by simpa [Video.Sound] using h.video)

theorem State.releaseActs_keeps {a1} {t : State} : Keeps [.host, .pens, .np, .qe, .video, .health, .out] t (State.releaseActs t a1) := by
  fun_induction State.releaseActs t a1
  all_goals try dsimp only
  all_goals
    repeat' first
      | refine Keeps.trans ?_ (by assumption) | assumption | with_reducible apply Keeps.rfl | decide
      | ((with_reducible intro h); apply h.video) | with_reducible apply Keeps.step ?_ (State.modVideo_keeps ?_) ?_
      | with_reducible apply Keeps.step ?_ State.videoAct_keeps ?_ | split
      | ((with_reducible intro h); exact by simpa [Video.Sound] using h.video)

theorem State.releaseVideo_keeps {t : State} : Keeps [.host, .pens, .np, .qe, .video, .health, .out] t (State.releaseVideo t) := by
  unfold State.releaseVideo
  try dsimp only
  repeat' first
    | with_reducible apply Keeps.rfl | decide | with_reducible apply Keeps.step ?_ State.releaseActs_keeps ?_ | split

theorem State.videoSignal_keeps {a1 a2} {t : State} : Keeps [.host, .pens, .np, .qe, .video, .health, .out] t (State.videoSignal t a1 a2) := by
  unfold State.videoSignal
  try dsimp only
  repeat' first
    | with_reducible apply Keeps.rfl | decide | with_reducible apply Keeps.step ?_ State.videoDo_keeps ?_ | split

theorem State.videoEvent_keeps {a1 a2} {t : State} : Keeps [.host, .pens, .np, .qe, .video, .health, .out] t (State.videoEvent t a1 a2) := by
  unfold State.videoEvent
  try dsimp only
  repeat' first
    | with_reducible apply Keeps.rfl | decide | with_reducible apply Keeps.step ?_ State.videoDo_keeps ?_ | split

theorem State.videoRefused_keeps {a1 a2 a3} {t : State} : Keeps [.host, .pens, .np, .qe, .video, .health, .out] t (State.videoRefused t a1 a2 a3) := by
  unfold State.videoRefused
  try dsimp only
  repeat' first
    | with_reducible apply Keeps.rfl | decide | with_reducible apply Keeps.step ?_ State.modQueue_keeps ?_
    | with_reducible apply Keeps.step ?_ State.videoEvent_keeps ?_ | split

theorem State.makeReady_keeps {a1} {t : State} : Keeps [.video] t (State.makeReady t a1) := by
  unfold State.makeReady
  try dsimp only
  repeat' first
    | with_reducible apply Keeps.rfl | decide | with_reducible apply Keeps.step ?_ State.modStream_keeps ?_ | split

theorem State.makeAllReady_keeps {t : State} : Keeps [.video] t (State.makeAllReady t) := by
  unfold State.makeAllReady
  try dsimp only
  repeat' first
    | with_reducible apply Keeps.rfl | decide | with_reducible apply Keeps.step ?_ State.makeReady_keeps ?_
    | with_reducible apply State.forAll_keeps ?_ (fun u x => ?_) | split

theorem State.videoWrite_keeps {a1 a2 a3} {t : State} : Keeps [.host, .pens, .np, .health, .out] t (State.videoWrite t a1 a2 a3) := by
  unfold State.videoWrite
  try dsimp only
  repeat' first
    | with_reducible apply Keeps.rfl | decide | with_reducible apply Keeps.step ?_ State.npFlushSource_keeps ?_
    | with_reducible apply Keeps.step ?_ State.penWrite_keeps ?_
    | with_reducible apply Keeps.step ?_ State.touchStores_keeps ?_
    | with_reducible apply State.forAll_keeps ?_ (fun u x => ?_) | split

theorem State.noteClashes_keeps {a1 a2} {t : State} : Keeps [.video] t (State.noteClashes t a1 a2) := by
  unfold State.noteClashes
  try dsimp only
  repeat' first
    | with_reducible apply Keeps.rfl | decide | ((with_reducible intro h); apply h.video)
    | with_reducible apply Keeps.step ?_ (State.modVideo_keeps ?_) ?_ | split
    | ((with_reducible intro h); exact by simpa [Video.Sound] using h.video)

theorem State.storeOutput_keeps {a1 a2 a3} {t : State} : Keeps [.host, .pens, .np, .video, .health, .out, .free] t (State.storeOutput t a1 a2 a3) := by
  unfold State.storeOutput
  try dsimp only
  repeat' first
    | with_reducible apply Keeps.rfl | decide | with_reducible apply Keeps.step ?_ State.noteClashes_keeps ?_
    | with_reducible apply Keeps.step ?_ State.spend_keeps ?_
    | with_reducible apply Keeps.step ?_ State.useTensor_keeps ?_
    | with_reducible apply Keeps.step ?_ State.videoWrite_keeps ?_ | split

theorem State.writeFrame_keeps {a1 a2 a3} {t : State} : Keeps [.host, .pens, .np, .video, .health, .out, .free] t (State.writeFrame t a1 a2 a3).1 := by
  unfold State.writeFrame
  try dsimp only
  repeat' first
    | with_reducible apply Keeps.rfl | decide | with_reducible apply Keeps.step ?_ State.storeOutput_keeps ?_ | split

theorem State.completeOutput_keeps {a1 a2 a3} {t : State} : Keeps [.host, .pens, .np, .qe, .video, .health, .out, .free] t (State.completeOutput t a1 a2 a3) := by
  unfold State.completeOutput
  try dsimp only
  repeat' first
    | with_reducible apply Keeps.rfl | decide | with_reducible apply Keeps.step ?_ State.count_keeps ?_
    | with_reducible apply Keeps.step ?_ State.modStream_keeps ?_
    | with_reducible apply Keeps.step ?_ State.videoEvent_keeps ?_
    | with_reducible apply Keeps.step ?_ State.videoSignal_keeps ?_
    | with_reducible apply Keeps.step ?_ State.writeFrame_keeps ?_ | split

theorem State.serveOutputs_keeps {a1 a2} {t : State} : Keeps [.host, .pens, .np, .qe, .video, .health, .out, .free] t (State.serveOutputs t a1 a2) := by
  fun_induction State.serveOutputs t a1 a2
  all_goals try dsimp only
  all_goals
    repeat' first
      | refine Keeps.trans ?_ (by assumption) | assumption | with_reducible apply Keeps.rfl | decide
      | with_reducible apply Keeps.step ?_ State.completeOutput_keeps ?_ | split

theorem State.streamErrors_keeps {a1 a2 a3 a4} {t : State} : Keeps [.host, .pens, .np, .qe, .video, .health, .out] t (State.streamErrors t a1 a2 a3 a4) := by
  unfold State.streamErrors
  try dsimp only
  repeat' first
    | with_reducible apply Keeps.rfl | decide | with_reducible apply Keeps.step ?_ State.videoEvent_keeps ?_
    | with_reducible apply State.forAll_keeps ?_ (fun u x => ?_) | split

theorem State.endSkip_keeps {a1} {t : State} : Keeps [.host, .pens, .np, .qe, .video, .health, .out] t (State.endSkip t a1) := by
  unfold State.endSkip
  try dsimp only
  repeat' first
    | with_reducible apply Keeps.rfl | decide | with_reducible apply Keeps.step ?_ State.modStream_keeps ?_
    | with_reducible apply Keeps.step ?_ State.streamErrors_keeps ?_ | split

theorem State.finishFlush_keeps {a1} {t : State} : Keeps [.host, .pens, .np, .qe, .video, .health, .out] t (State.finishFlush t a1) := by
  unfold State.finishFlush
  try dsimp only
  repeat' first
    | with_reducible apply Keeps.rfl | decide | with_reducible apply Keeps.step ?_ State.endSkip_keeps ?_
    | with_reducible apply Keeps.step ?_ State.modStream_keeps ?_
    | with_reducible apply Keeps.step ?_ State.videoEvent_keeps ?_
    | with_reducible apply Keeps.step ?_ State.videoSignal_keeps ?_ | split

theorem State.streamMoves_keeps {a1} {t : State} : Keeps [.host, .pens, .np, .qe, .video, .health, .out, .free] t (State.streamMoves t a1) := by
  unfold State.streamMoves
  try dsimp only
  repeat' first
    | with_reducible apply Keeps.rfl | decide | with_reducible apply Keeps.step ?_ State.finishFlush_keeps ?_
    | with_reducible apply Keeps.step ?_ State.makeAllReady_keeps ?_
    | with_reducible apply Keeps.step ?_ State.serveOutputs_keeps ?_ | split

theorem State.videoFetch_keeps {a1 a2 a3} {t : State} : Keeps [.host, .np, .health, .out] t (State.videoFetch t a1 a2 a3) := by
  unfold State.videoFetch
  try dsimp only
  repeat' first
    | with_reducible apply Keeps.rfl | decide | with_reducible apply Keeps.step ?_ State.penFetch_keeps ?_ | split

theorem State.videoTake_keeps {a1 a2} {t : State} : Keeps [.host, .pens, .np, .qe, .video, .health, .out, .free] t (State.videoTake t a1 a2) := by
  unfold State.videoTake
  try dsimp only
  repeat' first
    | with_reducible apply Keeps.rfl | decide | with_reducible apply Keeps.step ?_ State.count_keeps ?_
    | with_reducible apply Keeps.step ?_ State.modStream_keeps ?_
    | with_reducible apply Keeps.step ?_ State.streamMoves_keeps ?_
    | with_reducible apply Keeps.step ?_ State.takeEntry_keeps ?_
    | with_reducible apply Keeps.step ?_ State.useTensor_keeps ?_
    | with_reducible apply Keeps.step ?_ State.videoFetch_keeps ?_
    | with_reducible apply Keeps.step ?_ State.videoSignal_keeps ?_ | split

theorem State.videoHead_keeps {a1 a2} {t : State} : Keeps [.host, .pens, .np, .qe, .video, .health, .out, .free] t (State.videoHead t a1 a2) := by
  unfold State.videoHead
  try dsimp only
  repeat' first
    | with_reducible apply Keeps.rfl | decide | with_reducible apply Keeps.step ?_ State.haltEvent_keeps ?_
    | with_reducible apply Keeps.step ?_ State.videoFetch_keeps ?_
    | with_reducible apply Keeps.step ?_ State.videoRefused_keeps ?_
    | with_reducible apply Keeps.step ?_ State.videoTake_keeps ?_ | split

theorem execData_keeps {a0} {t : State} : Result.Keeps [.host, .pens, .np, .qe, .video, .health, .out, .free] t (execData a0 t) := by
  unfold execData
  try dsimp only
  repeat' first
    | with_reducible apply Keeps.rfl | decide | with_reducible apply Result.keeps_done | with_reducible apply Result.keeps_fault
    | with_reducible apply Keeps.step ?_ State.quiet_keeps ?_
    | with_reducible apply Keeps.step ?_ State.videoHead_keeps ?_ | split

theorem execOutput_keeps {a0} {t : State} : Result.Keeps [.host, .pens, .np, .qe, .video, .health, .out, .free] t (execOutput a0 t) := by
  unfold execOutput
  try dsimp only
  repeat' first
    | with_reducible apply Keeps.rfl | decide | with_reducible apply Result.keeps_done | with_reducible apply Result.keeps_fault
    | with_reducible apply Keeps.step ?_ State.quiet_keeps ?_
    | with_reducible apply Keeps.step ?_ State.videoHead_keeps ?_ | split

theorem execEncode_keeps {a0} {t : State} : Result.Keeps [.host, .pens, .np, .qe, .video, .health, .out, .free] t (execEncode a0 t) := by
  unfold execEncode
  try dsimp only
  repeat' first
    | with_reducible apply Keeps.rfl | decide | with_reducible apply Result.keeps_done | with_reducible apply Result.keeps_fault
    | with_reducible apply Keeps.step ?_ State.quiet_keeps ?_
    | with_reducible apply Keeps.step ?_ State.videoHead_keeps ?_ | split

theorem execFlush_keeps {a0} {t : State} : Result.Keeps [.host, .pens, .np, .qe, .video, .health, .out, .free] t (execFlush a0 t) := by
  unfold execFlush
  try dsimp only
  repeat' first
    | with_reducible apply Keeps.rfl | decide | with_reducible apply Result.keeps_done | with_reducible apply Result.keeps_fault
    | with_reducible apply Keeps.step ?_ State.quiet_keeps ?_
    | with_reducible apply Keeps.step ?_ State.videoHead_keeps ?_ | split

theorem execPicturePick_keeps {a0} {t : State} : Result.Keeps [.video, .out] t (execPicturePick a0 t) := by
  unfold execPicturePick
  try dsimp only
  repeat' first
    | with_reducible apply Keeps.rfl | decide | with_reducible apply Result.keeps_done | with_reducible apply Result.keeps_fault
    | with_reducible apply Keeps.step ?_ State.modCore_keeps ?_
    | with_reducible apply Keeps.step ?_ State.modStream_keeps ?_
    | with_reducible apply Keeps.step ?_ State.quiet_keeps ?_ | split

theorem State.endDecode_keeps {a1 a2 a3} {t : State} : Keeps [.host, .pens, .np, .qe, .video, .health, .out] t (State.endDecode t a1 a2 a3) := by
  unfold State.endDecode
  try dsimp only
  repeat' first
    | with_reducible apply Keeps.rfl | decide | with_reducible apply Keeps.step ?_ State.count_keeps ?_
    | with_reducible apply Keeps.step ?_ State.endSkip_keeps ?_
    | with_reducible apply Keeps.step ?_ State.modStream_keeps ?_
    | with_reducible apply Keeps.step ?_ State.streamErrors_keeps ?_ | split

theorem State.endEncode_keeps {a1 a2} {t : State} : Keeps [.host, .pens, .np, .qe, .video, .health, .out, .free] t (State.endEncode t a1 a2) := by
  unfold State.endEncode
  try dsimp only
  repeat' first
    | with_reducible apply Keeps.rfl | decide | with_reducible apply Keeps.step ?_ State.count_keeps ?_
    | with_reducible apply Keeps.step ?_ State.modStream_keeps ?_
    | with_reducible apply Keeps.step ?_ State.storeOutput_keeps ?_
    | with_reducible apply Keeps.step ?_ State.useTensor_keeps ?_
    | with_reducible apply Keeps.step ?_ State.videoEvent_keeps ?_
    | with_reducible apply Keeps.step ?_ State.videoFetch_keeps ?_
    | with_reducible apply Keeps.step ?_ State.videoSignal_keeps ?_ | split

theorem State.endClosing_keeps {a1} {t : State} : Keeps [.host, .qe, .video, .out] t (State.endClosing t a1) := by
  unfold State.endClosing
  try dsimp only
  repeat' first
    | with_reducible apply Keeps.rfl | decide | ((with_reducible intro h); apply h.video)
    | with_reducible apply Keeps.step ?_ State.answer_keeps ?_
    | with_reducible apply Keeps.step ?_ State.makeAllReady_keeps ?_
    | with_reducible apply Keeps.step ?_ (State.modVideo_keeps ?_) ?_
    | with_reducible apply Keeps.step ?_ State.sweepQueues_keeps ?_
    | with_reducible apply State.forAll_keeps ?_ (fun u x => ?_) | split
    | ((with_reducible intro h); exact by simpa [Video.Sound] using h.video)

theorem State.endPicture_keeps {a1 a2} {t : State} : Keeps [.host, .pens, .np, .qe, .video, .health, .out, .free] t (State.endPicture t a1 a2) := by
  unfold State.endPicture
  try dsimp only
  repeat' first
    | with_reducible apply Keeps.rfl | decide | with_reducible apply Keeps.step ?_ State.endClosing_keeps ?_
    | with_reducible apply Keeps.step ?_ State.endDecode_keeps ?_
    | with_reducible apply Keeps.step ?_ State.endEncode_keeps ?_
    | with_reducible apply Keeps.step ?_ State.modCore_keeps ?_
    | with_reducible apply Keeps.step ?_ State.modStream_keeps ?_
    | with_reducible apply Keeps.step ?_ State.streamMoves_keeps ?_ | split

theorem State.pictureFetch_keeps {a1} {t : State} : Keeps [.host, .np, .health, .out] t (State.pictureFetch t a1) := by
  unfold State.pictureFetch
  try dsimp only
  repeat' first
    | with_reducible apply Keeps.rfl | decide | with_reducible apply Keeps.step ?_ State.videoFetch_keeps ?_ | split

theorem execPictureEnd_keeps {a0} {t : State} : Result.Keeps [.host, .pens, .np, .qe, .video, .health, .out, .free] t (execPictureEnd a0 t) := by
  unfold execPictureEnd
  try dsimp only
  repeat' first
    | with_reducible apply Keeps.rfl | decide | with_reducible apply Result.keeps_done | with_reducible apply Result.keeps_fault
    | with_reducible apply Keeps.step ?_ State.endPicture_keeps ?_
    | with_reducible apply Keeps.step ?_ State.pictureFetch_keeps ?_
    | with_reducible apply Keeps.step ?_ State.quiet_keeps ?_ | split

theorem State.beginCoreReset_keeps {a1} {t : State} : Keeps [.host, .pens, .np, .qe, .video, .health, .out, .free] t (State.beginCoreReset t a1) := by
  unfold State.beginCoreReset
  try dsimp only
  repeat' first
    | with_reducible apply Keeps.rfl | decide | with_reducible apply Keeps.step ?_ State.endPicture_keeps ?_
    | with_reducible apply Keeps.step ?_ State.logFault_keeps ?_
    | with_reducible apply Keeps.step ?_ State.modCore_keeps ?_
    | with_reducible apply Keeps.step ?_ State.modStream_keeps ?_
    | with_reducible apply Keeps.step ?_ State.videoEvent_keeps ?_ | split

theorem State.nextCoreReset_keeps {t : State} : Keeps [.host, .pens, .np, .qe, .video, .health, .out, .free] t (State.nextCoreReset t) := by
  unfold State.nextCoreReset
  try dsimp only
  repeat' first
    | with_reducible apply Keeps.rfl | decide | with_reducible apply Keeps.step ?_ State.beginCoreReset_keeps ?_
    | split

theorem execCoreReset_keeps {a0} {t : State} : Result.Keeps [.host, .pens, .np, .qe, .video, .health, .out, .free] t (execCoreReset a0 t) := by
  unfold execCoreReset
  try dsimp only
  repeat' first
    | with_reducible apply Keeps.rfl | decide | with_reducible apply Result.keeps_done | with_reducible apply Result.keeps_fault
    | with_reducible apply Keeps.step ?_ State.modCore_keeps ?_
    | with_reducible apply Keeps.step ?_ State.nextCoreReset_keeps ?_
    | with_reducible apply Keeps.step ?_ State.quiet_keeps ?_ | split

theorem execVideoCoreResetEnd_keeps {a0} {t : State} : Result.Keeps [.host, .pens, .np, .qe, .video, .health, .out, .free] t (execVideoCoreResetEnd a0 t) := by
  unfold execVideoCoreResetEnd
  try dsimp only
  repeat' first
    | with_reducible apply Keeps.rfl | decide | with_reducible apply Result.keeps_done | with_reducible apply Result.keeps_fault
    | with_reducible apply Keeps.step ?_ State.modCore_keeps ?_
    | with_reducible apply Keeps.step ?_ State.nextCoreReset_keeps ?_
    | with_reducible apply Keeps.step ?_ State.quiet_keeps ?_ | split

theorem State.resumeVideo_keeps {t : State} : Keeps [.host, .pens, .np, .qe, .video, .health, .out, .free] t (State.resumeVideo t) := by
  unfold State.resumeVideo
  try dsimp only
  repeat' first
    | with_reducible apply Keeps.rfl | decide | with_reducible apply Keeps.step ?_ State.nextCoreReset_keeps ?_
    | with_reducible apply Keeps.step ?_ State.releaseVideo_keeps ?_ | split

/-! ## Machine/Resets.lean -/

theorem Sheepdog.deriveLc_le (g : Sheepdog) : g.deriveLc ≤ 5 := by
  unfold Sheepdog.deriveLc
  dsimp only
  repeat' split
  all_goals decide

theorem Sheepdog.deriveLc_sound {g : Sheepdog} (h : g.Sound) : ({ g with lcState := g.deriveLc } : Sheepdog).Sound := ⟨g.deriveLc_le, h.2⟩

theorem rebuildFolds_length {r : List Nat} {s : List FoldSlot} {f : Nat → Bool} : (rebuildFolds r s f).length = 136 := by
  simp [rebuildFolds]

theorem foldl_fst_length {α β γ : Type} {f : List α × β → γ → List α × β} (hf : ∀ a x, (f a x).1.length = a.1.length + 1)
    (l : List γ) (a : List α × β) : (l.foldl f a).1.length = a.1.length + l.length := by
  induction l generalizing a with
  | nil => rfl
  | cons x l ih =>
    rw [List.foldl_cons, ih, hf]
    simp only [List.length_cons]
    omega

theorem mapDie_length {r : List Nat} {old : List FoldSlot} {d : Nat} : (mapDie r old d).length = 32 := by
  unfold mapDie
  rw [foldl_fst_length (fun a x => by
    repeat' split
    all_goals simp)]
  simp

theorem rebuildSlots_length {r : List Nat} {old : List FoldSlot} : (rebuildSlots r old).length = 128 := by
  simp [rebuildSlots, List.flatMap, List.range_succ, mapDie_length]

theorem Sheepdog.endImage_same (g : Sheepdog) : g.SameModes g.endImage := by
  unfold Sheepdog.endImage
  dsimp only
  split
  · exact Sheepdog.SameModes.trans (g.fallBack_same) ⟨rfl, rfl⟩
  · exact ⟨rfl, rfl⟩

theorem Sheepdog.fallIf_sound {g : Sheepdog} (h : g.Sound) :
    ({ (if g.fwUnconfirmed then g.fallBack else g) with healthStart := none } : Sheepdog).Sound := by
  have k : g.SameModes (if g.fwUnconfirmed then g.fallBack else g) := by
    split
    · exact g.fallBack_same
    · exact Sheepdog.SameModes.refl g
  exact ⟨(k.sound h).1, (k.sound h).2⟩

theorem NearMem.trained_sound {n : NearMem} {b : Byte} (h : n.Sound) : (n.trained b).Sound :=
  ⟨by simpa [NearMem.trained] using h.1, by simp [NearMem.trained], rfl, WcSound.nil⟩

/-- R499: the operating point of a stage. -/
theorem State.setPoint_keeps {t : State} {x : FclkPoint} :
    Keeps [.health] t (t.modPower (fun p => if p.brake then p else { p with point := x, duty := 16 })) := by
  refine State.modPower_keeps (fun h => ?_)
  split
  · exact h.health.2.2
  · exact ⟨by show 4 ≤ 16; decide, by show 16 ≤ 16; decide⟩

theorem Boot.train_sound {b : Boot} (h : b.Sound) : b.train.Sound := by
  unfold Boot.train
  split <;> exact h

theorem keepFailed_length {a b : List Fold} : (keepFailed a b).length = b.length := by simp [keepFailed]

theorem Compute.unpowered_sound {r : List Nat} {old : List FoldSlot} : (Compute.unpowered r old).Sound := ⟨rebuildFolds_length, rebuildSlots_length⟩

theorem State.loadTopology_keeps {t : State} : Keeps [.boot, .fab, .time] t (State.loadTopology t) := by
  unfold State.loadTopology
  try dsimp only
  repeat' first
    | with_reducible apply Keeps.rfl | decide | with_reducible apply Keeps.step ?_ State.setTopology_keeps ?_ | split

theorem State.progress_keeps {t : State} : Keeps [.boot, .fab, .time] t (State.progress t) := by
  unfold State.progress
  try dsimp only
  repeat' first
    | with_reducible apply Keeps.rfl | decide | ((with_reducible intro h); exact Boot.train_sound h.boot) | ((with_reducible intro h); apply h.boot)
    | ((with_reducible intro h); exact ⟨h.boot.1, h.boot.2.1, h.boot.2.2.1, satInc_le⟩)
    | ((with_reducible intro h); exact ⟨h.boot.1, h.boot.1, satInc_le, h.boot.2.2.2⟩)
    | with_reducible apply Keeps.step ?_ State.loadTopology_keeps ?_
    | with_reducible apply Keeps.step ?_ (State.modBoot_keeps ?_) ?_ | split

theorem State.coldReset_keeps {a1 a2} {t : State} : Keeps [.dog, .boot, .host, .comp, .pens, .drover, .talsen, .np, .fab, .qe, .time, .coord, .video, .health] t (State.coldReset t a1 a2) := by
  refine ⟨⟨fun a h => by cases a <;> first | rfl | exact absurd (by decide) h, rfl⟩, fun h => ?_⟩
  exact {
    dog := ⟨by
      show (t.dog.chilled a2).lcState ≤ 5
      unfold Sheepdog.chilled
      exact (t.dog.endImage_same.sound h.dog).1, Nat.zero_le _⟩
    boot := ⟨Nat.zero_le _, Nat.zero_le _, Nat.zero_le _, Nat.zero_le _⟩
    host := ⟨rfl, rfl⟩
    comp := Compute.unpowered_sound
    pens := ⟨rfl, fun p hp => by rw [List.eq_of_mem_replicate hp]; rfl⟩
    talsen := rfl
    np := ⟨rfl, rfl, rfl, WcSound.nil⟩
    fab := ⟨rfl, rfl⟩
    time := Nat.zero_le _
    video := rfl
    health := ⟨by
      show List.map _ (if a2 then t.health.banks else Health.initial.banks) = bankSizes
      split
      · exact h.health.1
      · rfl, rfl, (by show 4 ≤ 16; decide), (by show 16 ≤ 16; decide)⟩ }

theorem State.loseRequests_keeps {t : State} : Keeps [.fab] t (State.loseRequests t) := by
  unfold State.loseRequests
  try dsimp only
  repeat' first
    | with_reducible apply Keeps.rfl | decide | ((with_reducible intro h); apply h.fab)
    | with_reducible apply Keeps.step ?_ (State.modFab_keeps ?_) ?_ | split
    | ((with_reducible intro h); exact by simpa [Fabric.Sound] using h.fab)

theorem State.trainTalsen_keeps {t : State} : Keeps [.talsen] t (State.trainTalsen t) := by
  refine ⟨⟨fun a h => by cases a <;> first | rfl | exact absurd (by decide) h, rfl⟩, fun h => { h with talsen := ?_ }⟩
  unfold State.trainTalsen
  dsimp only
  split
  · rfl
  · simpa using h.talsen

theorem State.warmParts_keeps {t : State} : Keeps [.dog, .host, .comp, .pens, .drover, .talsen, .np, .fab, .qe, .coord, .video, .health] t (State.warmParts t) := by
  refine ⟨⟨fun a h => by cases a <;> first | rfl | exact absurd (by decide) h, rfl⟩, fun h => ?_⟩
  exact {
    dog := ⟨by
      show t.dog.warmed.lcState ≤ 5
      unfold Sheepdog.warmed
      exact (t.dog.endImage_same.sound h.dog).1, Nat.zero_le _⟩
    boot := h.boot
    host := ⟨h.host.1, by
      show (t.host.slots.map Mailbox.returned).length = 12
      simpa using h.host.2⟩
    comp := Compute.unpowered_sound
    pens := ⟨rfl, fun p hp => by rw [List.eq_of_mem_replicate hp]; rfl⟩
    talsen := by
      show (if _ then State.reset.talsen else _).length = 4
      split <;> rfl
    np := ⟨by simpa [NearMem.warmed, State.warmParts, State.modHealth, State.trainTalsen] using h.np.1, rfl, rfl, WcSound.nil⟩
    fab := h.fab
    time := h.time
    video := rfl
    health := ⟨h.health.1, rfl, (by show 4 ≤ 16; decide), (by show 16 ≤ 16; decide)⟩ }

theorem State.warmReset_keeps {a1} {t : State} : Keeps [.dog, .boot, .host, .comp, .pens, .drover, .talsen, .np, .fab, .qe, .coord, .video, .health, .out] t (State.warmReset t a1) := by
  unfold State.warmReset
  try dsimp only
  repeat' first
    | with_reducible apply Keeps.rfl | decide | ((with_reducible intro h); apply h.boot)
    | ((with_reducible intro h); exact ⟨h.boot.1, h.boot.2.1, h.boot.2.2.1, satInc_le⟩)
    | ((with_reducible intro h); exact ⟨h.boot.1, h.boot.1, satInc_le, h.boot.2.2.2⟩)
    | with_reducible apply Keeps.step ?_ (State.modBoot_keeps ?_) ?_
    | with_reducible apply Keeps.step ?_ (State.setStage_keeps ?_) ?_
    | with_reducible apply Keeps.step ?_ State.tick_keeps ?_
    | with_reducible apply Keeps.step ?_ State.warmParts_keeps ?_ | split | ((with_reducible intro _); exact by decide)

theorem State.resetEndpoint_keeps {t : State} : Keeps [.boot, .host] t (State.resetEndpoint t) := by
  unfold State.resetEndpoint
  try dsimp only
  repeat' first
    | with_reducible apply Keeps.rfl | decide | ((with_reducible intro h); apply h.boot)
    | ((with_reducible intro h); exact ⟨h.boot.1, h.boot.2.1, h.boot.2.2.1, satInc_le⟩)
    | ((with_reducible intro h); exact ⟨h.boot.1, h.boot.1, satInc_le, h.boot.2.2.2⟩) | ((with_reducible intro h); apply h.host)
    | ((with_reducible intro h); exact ⟨rfl, h.host.2⟩) | ((with_reducible intro h); exact ⟨h.host.1, rfl⟩)
    | with_reducible apply Keeps.step ?_ (State.modBoot_keeps ?_) ?_
    | with_reducible apply Keeps.step ?_ (State.modHost_keeps ?_) ?_ | split
    | ((with_reducible intro h); exact by simpa [HostIf.Sound] using h.host)

theorem State.drainPen_keeps {a1} {t : State} : Keeps [.comp, .health] t (State.drainPen t a1) := by
  unfold State.drainPen
  try dsimp only
  repeat' first
    | with_reducible apply Keeps.rfl | decide | with_reducible apply Keeps.step ?_ State.discardTask_keeps ?_
    | with_reducible apply State.forAll_keeps ?_ (fun u x => ?_) | split

theorem State.ccReset_keeps {a1} {t : State} : Keeps [.dog, .boot, .host, .comp, .health, .out] t (State.ccReset t a1) := by
  unfold State.ccReset
  try dsimp only
  repeat' first
    | with_reducible apply Keeps.rfl | decide | ((with_reducible intro h); exact Sheepdog.fallIf_sound h.dog)
    | ((with_reducible intro h); exact ⟨h.boot.1, Nat.max_le.2 ⟨by decide, h.boot.1⟩, satInc_le, h.boot.2.2.2⟩) | ((with_reducible intro h); apply h.boot)
    | ((with_reducible intro h); exact ⟨h.boot.1, h.boot.2.1, h.boot.2.2.1, satInc_le⟩)
    | ((with_reducible intro h); exact ⟨h.boot.1, h.boot.1, satInc_le, h.boot.2.2.2⟩) | ((with_reducible intro h); apply h.dog)
    | ((with_reducible intro h); exact ⟨h.dog.1, (by decide)⟩) | ((with_reducible intro h); exact ⟨h.dog.1, Nat.zero_le _⟩)
    | with_reducible apply Keeps.step ?_ State.drainPen_keeps ?_
    | with_reducible apply Keeps.step ?_ State.logFault_keeps ?_
    | with_reducible apply Keeps.step ?_ (State.modBoot_keeps ?_) ?_
    | with_reducible apply Keeps.step ?_ (State.modDog_keeps ?_) ?_
    | with_reducible apply Keeps.step ?_ (State.setStage_keeps ?_) ?_
    | with_reducible apply State.forAll_keeps ?_ (fun u x => ?_) | split | ((with_reducible intro _); exact by decide)

theorem State.closeWrites_keeps {t : State} : Keeps [.host, .pens, .np, .health, .out] t (State.closeWrites t) := by
  unfold State.closeWrites
  try dsimp only
  repeat' first
    | with_reducible apply Keeps.rfl | decide | with_reducible apply Keeps.step ?_ State.abandonEncodes_keeps ?_
    | with_reducible apply Keeps.step ?_ State.npFlush_keeps ?_
    | with_reducible apply State.forAll_keeps ?_ (fun u x => ?_) | split

theorem execCcDrainComplete_keeps {t : State} : Result.Keeps [.boot, .host, .comp, .pens, .drover, .np, .fab, .health, .out] t (execCcDrainComplete t) := by
  unfold execCcDrainComplete
  try dsimp only
  repeat' first
    | with_reducible apply Keeps.rfl | decide | with_reducible apply Result.keeps_done | with_reducible apply Result.keeps_fault
    | ((with_reducible intro h); apply h.boot) | ((with_reducible intro h); exact ⟨h.boot.1, h.boot.2.1, h.boot.2.2.1, satInc_le⟩)
    | ((with_reducible intro h); exact ⟨h.boot.1, h.boot.1, satInc_le, h.boot.2.2.2⟩)
    | with_reducible apply Keeps.step ?_ State.closeWrites_keeps ?_
    | with_reducible apply Keeps.step ?_ State.droverQuiesce_keeps ?_
    | with_reducible apply Keeps.step ?_ State.loseRequests_keeps ?_
    | with_reducible apply Keeps.step ?_ (State.modBoot_keeps ?_) ?_
    | with_reducible apply Keeps.step ?_ State.quiet_keeps ?_
    | with_reducible apply State.forAll_keeps ?_ (fun u x => ?_) | split

theorem State.reissue_keeps {a1} {t : State} : Keeps [.comp, .health] t (State.reissue t a1) := by
  unfold State.reissue
  try dsimp only
  repeat' first
    | with_reducible apply Keeps.rfl | decide | ((with_reducible intro h); apply h.comp) | ((with_reducible intro h); exact ⟨rebuildFolds_length, h.comp.2⟩)
    | ((with_reducible intro h); exact ⟨rebuildFolds_length, rebuildSlots_length⟩)
    | with_reducible apply Keeps.step ?_ (State.modComp_keeps ?_) ?_
    | with_reducible apply Keeps.step ?_ State.modHalf_keeps ?_
    | with_reducible apply Keeps.step ?_ State.modOp_keeps ?_
    | with_reducible apply Keeps.step ?_ State.tasksFor_keeps ?_
    | with_reducible apply State.forAll_keeps ?_ (fun u x => ?_) | split
    | ((with_reducible intro h); exact by simpa [Compute.Sound] using h.comp)

theorem State.endBusy_keeps {t : State} : Keeps [.host, .drover, .fab, .video, .health, .out] t (State.endBusy t) := by
  unfold State.endBusy
  try dsimp only
  repeat' first
    | with_reducible apply Keeps.rfl | decide | ((with_reducible intro h); apply h.health) | ((with_reducible intro h); apply h.host)
    | ((with_reducible intro h); exact ⟨rfl, h.host.2⟩) | ((with_reducible intro h); exact ⟨h.host.1, rfl⟩)
    | with_reducible apply Keeps.step ?_ State.answerBusy_keeps ?_
    | with_reducible apply Keeps.step ?_ State.cancelWait_keeps ?_
    | with_reducible apply Keeps.step ?_ (State.modHealth_keeps ?_) ?_
    | with_reducible apply Keeps.step ?_ (State.modHost_keeps ?_) ?_
    | with_reducible apply Keeps.step ?_ State.settleRound_keeps ?_
    | with_reducible apply State.forAll_keeps ?_ (fun u x => ?_) | split
    | ((with_reducible intro h); exact by simpa [HostIf.Sound] using h.host)

theorem State.bootImage_keeps {a1} {t : State} : Keeps [.dog, .boot, .host, .health, .out] t (State.bootImage t a1).1 := by
  unfold State.bootImage
  try dsimp only
  repeat' first
    | with_reducible apply Keeps.rfl | decide | ((with_reducible intro h); with_reducible exact (Sheepdog.choose_same _ _).sound h.dog)
    | ((with_reducible intro h); exact ((Sheepdog.migrate_same _ _).trans (Sheepdog.started_same _ _)).sound h.dog)
    | ((with_reducible intro h); apply h.dog) | ((with_reducible intro h); exact ⟨h.dog.1, (by decide)⟩) | ((with_reducible intro h); exact ⟨h.dog.1, Nat.zero_le _⟩)
    | with_reducible apply Keeps.step ?_ State.logFault_keeps ?_
    | with_reducible apply Keeps.step ?_ (State.modDog_keeps ?_) ?_
    | with_reducible apply Keeps.step ?_ (State.setStage_keeps ?_) ?_ | split | ((with_reducible intro _); exact by decide)

theorem State.startHealth_keeps {t : State} : Keeps [.dog] t (State.startHealth t) := by
  unfold State.startHealth
  try dsimp only
  repeat' first
    | with_reducible apply Keeps.rfl | decide | ((with_reducible intro h); apply h.dog) | ((with_reducible intro h); exact ⟨h.dog.1, (by decide)⟩)
    | ((with_reducible intro h); exact ⟨h.dog.1, Nat.zero_le _⟩) | with_reducible apply Keeps.step ?_ (State.modDog_keeps ?_) ?_ | split

theorem State.takeBank_keeps {t : State} : Keeps [.comp, .free] t (State.takeBank t) := by
  unfold State.takeBank
  try dsimp only
  repeat' first
    | with_reducible apply Keeps.rfl | decide | ((with_reducible intro h); apply h.comp) | ((with_reducible intro h); exact ⟨rebuildFolds_length, h.comp.2⟩)
    | ((with_reducible intro h); exact ⟨rebuildFolds_length, rebuildSlots_length⟩)
    | with_reducible apply Keeps.step ?_ State.draw_keeps ?_
    | with_reducible apply Keeps.step ?_ (State.modComp_keeps ?_) ?_ | split
    | ((with_reducible intro h); exact by simpa [Compute.Sound] using h.comp)

theorem execShepherdRestart_keeps {t : State} : Result.Keeps [.dog, .boot, .host, .comp, .pens, .drover, .talsen, .np, .fab, .qe, .video, .health, .out, .free] t (execShepherdRestart t) := by
  unfold execShepherdRestart
  try dsimp only
  repeat' first
    | with_reducible apply Keeps.rfl | decide | with_reducible apply Result.keeps_done | with_reducible apply Result.keeps_fault
    | with_reducible apply State.setStage_from ?_ ?_ ?_ | ((with_reducible intro h); apply h.boot.2.1) | ((with_reducible intro h); apply h.boot)
    | ((with_reducible intro h); exact ⟨h.boot.1, h.boot.2.1, h.boot.2.2.1, satInc_le⟩)
    | ((with_reducible intro h); exact ⟨h.boot.1, h.boot.1, satInc_le, h.boot.2.2.2⟩) | ((with_reducible intro h); apply h.comp)
    | ((with_reducible intro h); exact ⟨rebuildFolds_length, h.comp.2⟩) | ((with_reducible intro h); exact ⟨rebuildFolds_length, rebuildSlots_length⟩)
    | ((with_reducible intro h); apply h.dog) | ((with_reducible intro h); exact ⟨h.dog.1, (by decide)⟩) | ((with_reducible intro h); exact ⟨h.dog.1, Nat.zero_le _⟩)
    | ((with_reducible intro _ k); exact k) | ((with_reducible intro _ _); exact (by rfl)) | ((with_reducible intro _ k); exact (by split <;> exact k))
    | ((with_reducible intro _ k); exact Pen.adopt_sound k) | with_reducible apply Keeps.step ?_ State.bootImage_keeps ?_
    | with_reducible apply Keeps.step ?_ State.endBusy_keeps ?_
    | with_reducible apply Keeps.step ?_ (State.modBoot_keeps ?_) ?_
    | with_reducible apply Keeps.step ?_ (State.modComp_keeps ?_) ?_
    | with_reducible apply Keeps.step ?_ (State.modDog_keeps ?_) ?_
    | with_reducible apply Keeps.step ?_ (State.modPen_keeps ?_) ?_
    | with_reducible apply Keeps.step ?_ State.quiet_keeps ?_
    | with_reducible apply Keeps.step ?_ State.reissue_keeps ?_
    | with_reducible apply Keeps.step ?_ State.resumeVideo_keeps ?_
    | with_reducible apply Keeps.step ?_ (State.setStage_keeps ?_) ?_
    | with_reducible apply Keeps.step ?_ State.startHealth_keeps ?_
    | with_reducible apply Keeps.step ?_ State.startRelink_keeps ?_
    | with_reducible apply Keeps.step ?_ State.takeBank_keeps ?_
    | with_reducible apply State.forAll_keeps ?_ (fun u x => ?_) | split
    | ((with_reducible intro h); exact by simpa [Compute.Sound] using h.comp) | ((with_reducible intro _); exact by decide)

theorem execCcResetEscalation_keeps {t : State} : Result.Keeps [.dog, .boot, .host, .comp, .pens, .drover, .talsen, .np, .fab, .qe, .coord, .video, .health, .out] t (execCcResetEscalation t) := by
  unfold execCcResetEscalation
  try dsimp only
  repeat' first
    | with_reducible apply Keeps.rfl | decide | with_reducible apply Result.keeps_done | with_reducible apply Result.keeps_fault
    | with_reducible apply Keeps.step ?_ State.quiet_keeps ?_
    | with_reducible apply Keeps.step ?_ State.warmReset_keeps ?_ | split

theorem execHeartbeatReset_keeps {t : State} : Result.Keeps [.dog, .boot, .host, .comp, .health, .out] t (execHeartbeatReset t) := by
  unfold execHeartbeatReset
  try dsimp only
  repeat' first
    | with_reducible apply Keeps.rfl | decide | with_reducible apply Result.keeps_done | with_reducible apply Result.keeps_fault
    | with_reducible apply Keeps.step ?_ State.ccReset_keeps ?_
    | with_reducible apply Keeps.step ?_ State.quiet_keeps ?_ | split

theorem execHealthWatchdog_keeps {t : State} : Result.Keeps [.dog, .boot, .host, .comp, .health, .out] t (execHealthWatchdog t) := by
  unfold execHealthWatchdog
  try dsimp only
  repeat' first
    | with_reducible apply Keeps.rfl | decide | with_reducible apply Result.keeps_done | with_reducible apply Result.keeps_fault
    | with_reducible apply Keeps.step ?_ State.ccReset_keeps ?_
    | with_reducible apply Keeps.step ?_ State.quiet_keeps ?_ | split

theorem execFwHealthTimeout_keeps {t : State} : Result.Keeps [.dog, .host, .health, .out] t (execFwHealthTimeout t) := by
  unfold execFwHealthTimeout
  try dsimp only
  repeat' first
    | with_reducible apply Keeps.rfl | decide | with_reducible apply Result.keeps_done | with_reducible apply Result.keeps_fault
    | ((with_reducible intro h); with_reducible exact (Sheepdog.fallBack_same _).sound h.dog) | ((with_reducible intro h); apply h.dog)
    | ((with_reducible intro h); exact ⟨h.dog.1, (by decide)⟩) | ((with_reducible intro h); exact ⟨h.dog.1, Nat.zero_le _⟩)
    | with_reducible apply Keeps.step ?_ State.logFault_keeps ?_
    | with_reducible apply Keeps.step ?_ (State.modDog_keeps ?_) ?_
    | with_reducible apply Keeps.step ?_ State.quiet_keeps ?_ | split

theorem execFirmwareSelftestPass_keeps {t : State} : Result.Keeps [.dog, .out] t (execFirmwareSelftestPass t) := by
  unfold execFirmwareSelftestPass
  try dsimp only
  repeat' first
    | with_reducible apply Keeps.rfl | decide | with_reducible apply Result.keeps_done | with_reducible apply Result.keeps_fault
    | ((with_reducible intro h); with_reducible exact (Sheepdog.confirmHealth_same _).sound h.dog) | ((with_reducible intro h); apply h.dog)
    | ((with_reducible intro h); exact ⟨h.dog.1, (by decide)⟩) | ((with_reducible intro h); exact ⟨h.dog.1, Nat.zero_le _⟩)
    | with_reducible apply Keeps.step ?_ (State.modDog_keeps ?_) ?_
    | with_reducible apply Keeps.step ?_ State.quiet_keeps ?_ | split

theorem execHeartbeatIncrement_keeps {t : State} : Result.Keeps [.boot, .out] t (execHeartbeatIncrement t) := by
  unfold execHeartbeatIncrement
  try dsimp only
  repeat' first
    | with_reducible apply Keeps.rfl | decide | with_reducible apply Result.keeps_done | with_reducible apply Result.keeps_fault
    | ((with_reducible intro h); apply h.boot) | ((with_reducible intro h); exact ⟨h.boot.1, h.boot.2.1, h.boot.2.2.1, satInc_le⟩)
    | ((with_reducible intro h); exact ⟨h.boot.1, h.boot.1, satInc_le, h.boot.2.2.2⟩)
    | with_reducible apply Keeps.step ?_ (State.modBoot_keeps ?_) ?_
    | with_reducible apply Keeps.step ?_ State.quiet_keeps ?_ | split

theorem State.writeResetCtrl_keeps {a1} {t : State} : Keeps [.dog, .boot, .host, .comp, .pens, .drover, .talsen, .np, .fab, .qe, .time, .coord, .video, .health, .out] t (State.writeResetCtrl t a1) := by
  unfold State.writeResetCtrl
  try dsimp only
  repeat' first
    | with_reducible apply Keeps.rfl | decide | ((with_reducible intro h); apply h.boot)
    | ((with_reducible intro h); exact ⟨h.boot.1, h.boot.2.1, h.boot.2.2.1, satInc_le⟩)
    | ((with_reducible intro h); exact ⟨h.boot.1, h.boot.1, satInc_le, h.boot.2.2.2⟩)
    | with_reducible apply Keeps.step ?_ State.ccReset_keeps ?_
    | with_reducible apply Keeps.step ?_ State.coldReset_keeps ?_
    | with_reducible apply Keeps.step ?_ (State.modBoot_keeps ?_) ?_
    | with_reducible apply Keeps.step ?_ State.warmReset_keeps ?_ | split

theorem State.hostResetCtrl_keeps {a1} {t : State} : Keeps [.dog, .boot, .host, .comp, .pens, .drover, .talsen, .np, .fab, .qe, .time, .coord, .video, .health, .out] t (State.hostResetCtrl t a1) := by
  unfold State.hostResetCtrl
  try dsimp only
  repeat' first
    | with_reducible apply Keeps.rfl | decide | with_reducible apply Keeps.step ?_ State.writeResetCtrl_keeps ?_
    | split

theorem execResetCtrlCc_keeps {a0} {t : State} : Result.Keeps [.dog, .boot, .host, .comp, .pens, .drover, .talsen, .np, .fab, .qe, .time, .coord, .video, .health, .out] t (execResetCtrlCc a0 t) := by
  unfold execResetCtrlCc
  try dsimp only
  repeat' first
    | with_reducible apply Keeps.rfl | decide | with_reducible apply Result.keeps_done | with_reducible apply Result.keeps_fault
    | with_reducible apply Keeps.step ?_ State.hostResetCtrl_keeps ?_
    | with_reducible apply Keeps.step ?_ State.quiet_keeps ?_ | split

theorem execResetCtrlWarm_keeps {a0} {t : State} : Result.Keeps [.dog, .boot, .host, .comp, .pens, .drover, .talsen, .np, .fab, .qe, .time, .coord, .video, .health, .out] t (execResetCtrlWarm a0 t) := by
  unfold execResetCtrlWarm
  try dsimp only
  repeat' first
    | with_reducible apply Keeps.rfl | decide | with_reducible apply Result.keeps_done | with_reducible apply Result.keeps_fault
    | with_reducible apply Keeps.step ?_ State.hostResetCtrl_keeps ?_
    | with_reducible apply Keeps.step ?_ State.quiet_keeps ?_ | split

theorem execResetCtrlCold_keeps {a0} {t : State} : Result.Keeps [.dog, .boot, .host, .comp, .pens, .drover, .talsen, .np, .fab, .qe, .time, .coord, .video, .health, .out] t (execResetCtrlCold a0 t) := by
  unfold execResetCtrlCold
  try dsimp only
  repeat' first
    | with_reducible apply Keeps.rfl | decide | with_reducible apply Result.keeps_done | with_reducible apply Result.keeps_fault
    | with_reducible apply Keeps.step ?_ State.hostResetCtrl_keeps ?_
    | with_reducible apply Keeps.step ?_ State.quiet_keeps ?_ | split

theorem execResetNLow_keeps {t : State} : Result.Keeps [.dog, .boot, .host, .comp, .pens, .drover, .talsen, .np, .fab, .qe, .time, .coord, .video, .health, .out] t (execResetNLow t) := by
  unfold execResetNLow
  try dsimp only
  repeat' first
    | with_reducible apply Keeps.rfl | decide | with_reducible apply Result.keeps_done | with_reducible apply Result.keeps_fault
    | ((with_reducible intro h); apply h.boot) | ((with_reducible intro h); exact ⟨h.boot.1, h.boot.2.1, h.boot.2.2.1, satInc_le⟩)
    | ((with_reducible intro h); exact ⟨h.boot.1, h.boot.1, satInc_le, h.boot.2.2.2⟩)
    | with_reducible apply Keeps.step ?_ State.coldReset_keeps ?_
    | with_reducible apply Keeps.step ?_ (State.modBoot_keeps ?_) ?_
    | with_reducible apply Keeps.step ?_ State.quiet_keeps ?_ | split

theorem execResetNRelease_keeps {t : State} : Result.Keeps [.boot, .out] t (execResetNRelease t) := by
  unfold execResetNRelease
  try dsimp only
  repeat' first
    | with_reducible apply Keeps.rfl | decide | with_reducible apply Result.keeps_done | with_reducible apply Result.keeps_fault
    | ((with_reducible intro h); apply h.boot) | ((with_reducible intro h); exact ⟨h.boot.1, h.boot.2.1, h.boot.2.2.1, satInc_le⟩)
    | ((with_reducible intro h); exact ⟨h.boot.1, h.boot.1, satInc_le, h.boot.2.2.2⟩)
    | with_reducible apply Keeps.step ?_ (State.modBoot_keeps ?_) ?_
    | with_reducible apply Keeps.step ?_ State.quiet_keeps ?_ | split

theorem execPerstNAssert_keeps {t : State} : Result.Keeps [.dog, .boot, .host, .comp, .pens, .drover, .talsen, .np, .fab, .qe, .coord, .video, .health, .out] t (execPerstNAssert t) := by
  unfold execPerstNAssert
  try dsimp only
  repeat' first
    | with_reducible apply Keeps.rfl | decide | with_reducible apply Result.keeps_done | with_reducible apply Result.keeps_fault
    | ((with_reducible intro h); apply h.boot) | ((with_reducible intro h); exact ⟨h.boot.1, h.boot.2.1, h.boot.2.2.1, satInc_le⟩)
    | ((with_reducible intro h); exact ⟨h.boot.1, h.boot.1, satInc_le, h.boot.2.2.2⟩)
    | with_reducible apply Keeps.step ?_ (State.modBoot_keeps ?_) ?_
    | with_reducible apply Keeps.step ?_ State.quiet_keeps ?_
    | with_reducible apply Keeps.step ?_ State.resetEndpoint_keeps ?_
    | with_reducible apply Keeps.step ?_ State.warmReset_keeps ?_ | split

theorem execPerstNRelease_keeps {t : State} : Result.Keeps [.boot, .fab, .time, .out] t (execPerstNRelease t) := by
  unfold execPerstNRelease
  try dsimp only
  repeat' first
    | with_reducible apply Keeps.rfl | decide | with_reducible apply Result.keeps_done | with_reducible apply Result.keeps_fault
    | ((with_reducible intro h); apply h.boot) | ((with_reducible intro h); exact ⟨h.boot.1, h.boot.2.1, h.boot.2.2.1, satInc_le⟩)
    | ((with_reducible intro h); exact ⟨h.boot.1, h.boot.1, satInc_le, h.boot.2.2.2⟩)
    | with_reducible apply Keeps.step ?_ (State.modBoot_keeps ?_) ?_
    | with_reducible apply Keeps.step ?_ State.progress_keeps ?_
    | with_reducible apply Keeps.step ?_ State.quiet_keeps ?_ | split

theorem execVddAonLoss_keeps {t : State} : Result.Keeps [.dog, .boot, .host, .comp, .pens, .drover, .talsen, .np, .fab, .qe, .time, .coord, .video, .health, .out] t (execVddAonLoss t) := by
  unfold execVddAonLoss
  try dsimp only
  repeat' first
    | with_reducible apply Keeps.rfl | decide | with_reducible apply Result.keeps_done | with_reducible apply Result.keeps_fault
    | with_reducible apply Keeps.step ?_ State.coldReset_keeps ?_
    | with_reducible apply Keeps.step ?_ State.quiet_keeps ?_ | split

theorem execVddTransitLoss_keeps {a0} {t : State} : Result.Keeps [.dog, .boot, .host, .comp, .pens, .drover, .talsen, .np, .fab, .qe, .time, .coord, .video, .health, .out] t (execVddTransitLoss a0 t) := by
  unfold execVddTransitLoss
  try dsimp only
  repeat' first
    | with_reducible apply Keeps.rfl | decide | with_reducible apply Result.keeps_done | with_reducible apply Result.keeps_fault
    | with_reducible apply Keeps.step ?_ State.coldReset_keeps ?_
    | with_reducible apply Keeps.step ?_ State.quiet_keeps ?_ | split

theorem execRailGood_keeps {a0} {t : State} : Result.Keeps [.boot, .fab, .time, .out] t (execRailGood a0 t) := by
  unfold execRailGood
  try dsimp only
  repeat' first
    | with_reducible apply Keeps.rfl | decide | with_reducible apply Result.keeps_done | with_reducible apply Result.keeps_fault
    | ((with_reducible intro h); apply h.boot) | ((with_reducible intro h); exact ⟨h.boot.1, h.boot.2.1, h.boot.2.2.1, satInc_le⟩)
    | ((with_reducible intro h); exact ⟨h.boot.1, h.boot.1, satInc_le, h.boot.2.2.2⟩)
    | with_reducible apply Keeps.step ?_ (State.modBoot_keeps ?_) ?_
    | with_reducible apply Keeps.step ?_ State.progress_keeps ?_
    | with_reducible apply Keeps.step ?_ State.quiet_keeps ?_ | split

theorem State.holdRails_keeps {t : State} : Keeps [.boot, .host, .comp, .fab, .health, .out] t (State.holdRails t) := by
  unfold State.holdRails
  try dsimp only
  repeat' first
    | with_reducible apply Keeps.rfl | decide | ((with_reducible intro h); exact ⟨rebuildFolds_length, rebuildSlots_length⟩)
    | ((with_reducible intro h); exact ⟨rebuildFolds_length, h.comp.2⟩) | ((with_reducible intro h); apply h.boot)
    | ((with_reducible intro h); exact ⟨h.boot.1, h.boot.2.1, h.boot.2.2.1, satInc_le⟩)
    | ((with_reducible intro h); exact ⟨h.boot.1, h.boot.1, satInc_le, h.boot.2.2.2⟩) | ((with_reducible intro h); apply h.comp)
    | with_reducible apply Keeps.step ?_ State.loseRequests_keeps ?_
    | with_reducible apply Keeps.step ?_ (State.modBoot_keeps ?_) ?_
    | with_reducible apply Keeps.step ?_ (State.modComp_keeps ?_) ?_
    | with_reducible apply Keeps.step ?_ (State.setStage_keeps ?_) ?_ | split
    | ((with_reducible intro h); exact by simpa [Compute.Sound] using h.comp) | ((with_reducible intro _); exact by decide)

theorem State.railFails_keeps {a1} {t : State} : Keeps [.dog, .boot, .host, .comp, .pens, .drover, .talsen, .np, .fab, .qe, .time, .coord, .video, .health, .out] t (State.railFails t a1) := by
  unfold State.railFails
  try dsimp only
  repeat' first
    | with_reducible apply Keeps.rfl | decide | ((with_reducible intro h); apply h.boot)
    | ((with_reducible intro h); exact ⟨h.boot.1, h.boot.2.1, h.boot.2.2.1, satInc_le⟩)
    | ((with_reducible intro h); exact ⟨h.boot.1, h.boot.1, satInc_le, h.boot.2.2.2⟩)
    | with_reducible apply Keeps.step ?_ State.coldReset_keeps ?_
    | with_reducible apply Keeps.step ?_ State.holdRails_keeps ?_
    | with_reducible apply Keeps.step ?_ (State.modBoot_keeps ?_) ?_ | split

theorem execRailHold_keeps {a0} {t : State} : Result.Keeps [.dog, .boot, .host, .comp, .pens, .drover, .talsen, .np, .fab, .qe, .time, .coord, .video, .health, .out] t (execRailHold a0 t) := by
  unfold execRailHold
  try dsimp only
  repeat' first
    | with_reducible apply Keeps.rfl | decide | with_reducible apply Result.keeps_done | with_reducible apply Result.keeps_fault
    | with_reducible apply Keeps.step ?_ State.quiet_keeps ?_
    | with_reducible apply Keeps.step ?_ State.railFails_keeps ?_ | split

theorem execRailGoodTimeout_keeps {a0} {t : State} : Result.Keeps [.boot, .host, .comp, .fab, .health, .out] t (execRailGoodTimeout a0 t) := by
  unfold execRailGoodTimeout
  try dsimp only
  repeat' first
    | with_reducible apply Keeps.rfl | decide | with_reducible apply Result.keeps_done | with_reducible apply Result.keeps_fault
    | ((with_reducible intro h); apply h.boot) | ((with_reducible intro h); exact ⟨h.boot.1, h.boot.2.1, h.boot.2.2.1, satInc_le⟩)
    | ((with_reducible intro h); exact ⟨h.boot.1, h.boot.1, satInc_le, h.boot.2.2.2⟩)
    | with_reducible apply Keeps.step ?_ State.holdRails_keeps ?_
    | with_reducible apply Keeps.step ?_ (State.modBoot_keeps ?_) ?_
    | with_reducible apply Keeps.step ?_ State.quiet_keeps ?_ | split

theorem execThermtrip_keeps {a0} {t : State} : Result.Keeps [.boot, .out] t (execThermtrip a0 t) := by
  unfold execThermtrip
  try dsimp only
  repeat' first
    | with_reducible apply Keeps.rfl | decide | with_reducible apply Result.keeps_done | with_reducible apply Result.keeps_fault
    | ((with_reducible intro h); apply h.boot) | ((with_reducible intro h); exact ⟨h.boot.1, h.boot.2.1, h.boot.2.2.1, satInc_le⟩)
    | ((with_reducible intro h); exact ⟨h.boot.1, h.boot.1, satInc_le, h.boot.2.2.2⟩)
    | with_reducible apply Keeps.step ?_ State.emit_keeps ?_
    | with_reducible apply Keeps.step ?_ (State.modBoot_keeps ?_) ?_
    | with_reducible apply Keeps.step ?_ State.quiet_keeps ?_ | split

theorem execStageManagement_keeps {t : State} : Result.Keeps [.dog, .boot, .host, .fab, .time, .health, .out] t (execStageManagement t) := by
  unfold execStageManagement
  try dsimp only
  repeat' first
    | with_reducible apply Keeps.rfl | decide | with_reducible apply Result.keeps_done | with_reducible apply Result.keeps_fault
    | ((with_reducible intro h); exact Sheepdog.deriveLc_sound h.dog) | ((with_reducible intro h); exact ⟨rebuildFolds_length, rebuildSlots_length⟩)
    | ((with_reducible intro h); exact ⟨rebuildFolds_length, h.comp.2⟩) | ((with_reducible intro h); apply h.boot)
    | ((with_reducible intro h); exact ⟨h.boot.1, h.boot.2.1, h.boot.2.2.1, satInc_le⟩)
    | ((with_reducible intro h); exact ⟨h.boot.1, h.boot.1, satInc_le, h.boot.2.2.2⟩) | ((with_reducible intro h); apply h.dog)
    | ((with_reducible intro h); exact ⟨h.dog.1, (by decide)⟩) | ((with_reducible intro h); exact ⟨h.dog.1, Nat.zero_le _⟩)
    | with_reducible apply Keeps.step ?_ State.logFault_keeps ?_
    | with_reducible apply Keeps.step ?_ (State.modBoot_keeps ?_) ?_
    | with_reducible apply Keeps.step ?_ (State.modDog_keeps ?_) ?_
    | with_reducible apply Keeps.step ?_ State.progress_keeps ?_
    | with_reducible apply Keeps.step ?_ State.quiet_keeps ?_
    | with_reducible apply Keeps.step ?_ (State.setStage_keeps ?_) ?_ | split | ((with_reducible intro _); exact by decide)

theorem State.enterDecommissioned_keeps {t : State} : Keeps [.boot, .host, .health, .out] t (State.enterDecommissioned t) := by
  unfold State.enterDecommissioned
  try dsimp only
  repeat' first
    | with_reducible apply Keeps.rfl | decide | ((with_reducible intro h); apply h.boot)
    | ((with_reducible intro h); exact ⟨h.boot.1, h.boot.2.1, h.boot.2.2.1, satInc_le⟩)
    | ((with_reducible intro h); exact ⟨h.boot.1, h.boot.1, satInc_le, h.boot.2.2.2⟩)
    | with_reducible apply Keeps.step ?_ (State.modBoot_keeps ?_) ?_
    | with_reducible apply Keeps.step ?_ (State.setStage_keeps ?_) ?_ | split | ((with_reducible intro _); exact by decide)

theorem State.startShepherd_keeps {t : State} : Keeps [.dog, .boot, .host, .comp, .talsen, .health, .out, .free] t (State.startShepherd t) := by
  unfold State.startShepherd
  try dsimp only
  repeat' first
    | with_reducible apply Keeps.rfl | decide | ((with_reducible intro h); with_reducible exact (Sheepdog.scan_same _).sound h.dog)
    | ((with_reducible intro h); apply h.boot) | ((with_reducible intro h); exact ⟨h.boot.1, h.boot.2.1, h.boot.2.2.1, satInc_le⟩)
    | ((with_reducible intro h); exact ⟨h.boot.1, h.boot.1, satInc_le, h.boot.2.2.2⟩) | ((with_reducible intro h); apply h.dog)
    | ((with_reducible intro h); exact ⟨h.dog.1, (by decide)⟩) | ((with_reducible intro h); exact ⟨h.dog.1, Nat.zero_le _⟩)
    | with_reducible apply Keeps.step ?_ State.bootImage_keeps ?_
    | with_reducible apply Keeps.step ?_ State.logFault_keeps ?_
    | with_reducible apply Keeps.step ?_ (State.modBoot_keeps ?_) ?_
    | with_reducible apply Keeps.step ?_ (State.modDog_keeps ?_) ?_
    | with_reducible apply Keeps.step ?_ (State.setStage_keeps ?_) ?_
    | with_reducible apply Keeps.step ?_ State.takeBank_keeps ?_
    | with_reducible apply Keeps.step ?_ State.trainTalsen_keeps ?_ | split | ((with_reducible intro _); exact by decide)

theorem execStageFirmware_keeps {t : State} : Result.Keeps [.dog, .boot, .host, .comp, .talsen, .health, .out, .free] t (execStageFirmware t) := by
  unfold execStageFirmware
  try dsimp only
  repeat' first
    | with_reducible apply Keeps.rfl | decide | with_reducible apply Result.keeps_done | with_reducible apply Result.keeps_fault
    | with_reducible apply Keeps.step ?_ State.enterDecommissioned_keeps ?_
    | with_reducible apply Keeps.step ?_ State.quiet_keeps ?_
    | with_reducible apply Keeps.step ?_ State.startShepherd_keeps ?_ | split

theorem State.failSelftest_keeps {a1} {t : State} : Keeps [.dog, .host, .health, .out] t (State.failSelftest t a1) := by
  unfold State.failSelftest
  try dsimp only
  repeat' first
    | with_reducible apply Keeps.rfl | decide | with_reducible apply Keeps.step ?_ State.foldLog_keeps ?_
    | with_reducible apply Keeps.step ?_ State.ownWrite_keeps ?_ | split

theorem State.passRetest_keeps {a1} {t : State} : Keeps [.dog] t (State.passRetest t a1) := by
  unfold State.passRetest
  try dsimp only
  repeat' first
    | with_reducible apply Keeps.rfl | decide | ((with_reducible intro h); apply h.dog) | ((with_reducible intro h); exact ⟨h.dog.1, (by decide)⟩)
    | ((with_reducible intro h); exact ⟨h.dog.1, Nat.zero_le _⟩) | with_reducible apply Keeps.step ?_ (State.modDog_keeps ?_) ?_
    | with_reducible apply Keeps.step ?_ State.ownWrite_keeps ?_
    | with_reducible apply State.forAll_keeps ?_ (fun u x => ?_) | split

theorem execStageReduced_keeps {a0 a1} {t : State} : Result.Keeps [.dog, .boot, .host, .comp, .health, .out] t (execStageReduced a0 a1 t) := by
  unfold execStageReduced
  try dsimp only
  repeat' first
    | with_reducible apply Keeps.rfl | decide | with_reducible apply Result.keeps_done | with_reducible apply Result.keeps_fault
    | ((with_reducible intro h); exact ⟨rebuildFolds_length, rebuildSlots_length⟩) | ((with_reducible intro h); exact ⟨rebuildFolds_length, h.comp.2⟩)
    | ((with_reducible intro h); apply h.comp) | with_reducible apply Keeps.step ?_ State.failSelftest_keeps ?_
    | with_reducible apply Keeps.step ?_ State.logFault_keeps ?_
    | with_reducible apply Keeps.step ?_ (State.modComp_keeps ?_) ?_
    | with_reducible apply Keeps.step ?_ State.passRetest_keeps ?_
    | with_reducible apply Keeps.step ?_ State.quiet_keeps ?_
    | with_reducible apply Keeps.step ?_ (State.setStage_keeps ?_) ?_
    | with_reducible apply State.forAll_keeps ?_ (fun u x => ?_) | split
    | ((with_reducible intro h); exact by simpa [Compute.Sound] using h.comp) | ((with_reducible intro _); exact by decide)

theorem State.enumerate_keeps {a1 a2} {t : State} : Keeps [.host, .talsen, .health, .out] t (State.enumerate t a1 a2) := by
  unfold State.enumerate
  try dsimp only
  repeat' first
    | with_reducible apply Keeps.rfl | decide | with_reducible apply Keeps.step ?_ State.logFault_keeps ?_
    | with_reducible apply Keeps.step ?_ State.modTalsen_keeps ?_ | split

theorem State.fixFar_keeps {t : State} : Keeps [.boot, .drover] t (State.fixFar t) := by
  unfold State.fixFar
  try dsimp only
  repeat' first
    | with_reducible apply Keeps.rfl | decide | ((with_reducible intro h); apply h.boot)
    | ((with_reducible intro h); exact ⟨h.boot.1, h.boot.2.1, h.boot.2.2.1, satInc_le⟩)
    | ((with_reducible intro h); exact ⟨h.boot.1, h.boot.1, satInc_le, h.boot.2.2.2⟩)
    | with_reducible apply Keeps.step ?_ (State.modBoot_keeps ?_) ?_
    | with_reducible apply Keeps.step ?_ State.modDrover_keeps ?_ | split

theorem execStageMemory_keeps {a0 a1} {t : State} : Result.Keeps [.dog, .boot, .host, .comp, .drover, .talsen, .np, .health, .out] t (execStageMemory a0 a1 t) := by
  unfold execStageMemory
  dsimp only
  split
  · split
    · exact Result.keeps_done (State.forAll_keeps (State.quiet_keeps.mono (by decide)) (fun u x => State.logFault_keeps.mono (by decide)))
    · have h1 : Keeps [.dog, .boot, .host, .comp, .drover, .talsen, .np, .health, .out] t
          (((t.quiet.modNp (fun n => n.trained t.quiet.dog.inUse.thresh)).forAll ((List.range 4).zip a1) (fun w x => w.enumerate x.1 x.2)).fixFar) :=
        Keeps.step (State.forAll_keeps (Keeps.step (State.quiet_keeps.mono (by decide))
          (State.modNp_keeps (fun h => NearMem.trained_sound h.np)) (by decide)) (fun u x => State.enumerate_keeps.mono (by decide)))
          State.fixFar_keeps (by decide)
      generalize ((t.quiet.modNp (fun n => n.trained t.quiet.dog.inUse.thresh)).forAll ((List.range 4).zip a1)
        (fun w x => w.enumerate x.1 x.2)).fixFar = v at h1
      have h2 : Keeps [.dog, .boot, .host, .comp, .drover, .talsen, .np, .health, .out] t
          (if (v.talsen.any fun x => x.state == TalsenState.up) = true then v.healthEventAll 4 else v) := by
        split
        · exact h1.step State.healthEventAll_keeps (by decide)
        · exact h1
      generalize (if (v.talsen.any fun x => x.state == TalsenState.up) = true then v.healthEventAll 4 else v) = w at h2
      exact Result.keeps_done (Keeps.step (Keeps.step (h2.step (State.modComp_keeps
        (fun h => ⟨keepFailed_length.trans rebuildFolds_length, h.comp.2⟩)) (by decide)) (State.setStage_keeps (a1 := 4) (fun _ => by decide)) (by decide))
        State.startHealth_keeps (by decide))
  · exact Result.keeps_done (State.quiet_keeps.mono (by decide))

theorem execStageFull_keeps {t : State} : Result.Keeps [.dog, .boot, .host, .health, .out] t (execStageFull t) := by
  unfold execStageFull
  try dsimp only
  repeat' first
    | with_reducible apply Keeps.rfl | decide | with_reducible apply Result.keeps_done | with_reducible apply Result.keeps_fault
    | with_reducible apply Keeps.step ?_ State.quiet_keeps ?_
    | with_reducible apply Keeps.step ?_ (State.setStage_keeps ?_) ?_
    | with_reducible apply Keeps.step ?_ State.startHealth_keeps ?_ | split | ((with_reducible intro _); exact by decide)

/-! ## Machine/Thermal.lean -/

theorem NearMem.dueByTemp_sound {n : NearMem} {k c : Nat} (h : n.Sound) : (n.dueByTemp k c).Sound :=
  ⟨h.1, by simpa [NearMem.dueByTemp] using h.2.1, h.2.2⟩

theorem State.fallToReduced_keeps {t : State} : Keeps [.boot, .host, .comp, .health, .out] t (State.fallToReduced t) := by
  unfold State.fallToReduced
  dsimp only
  split
  · exact Keeps.rfl
  · split
    · exact Keeps.step (Keeps.mono (State.modComp_keeps (fun h => ⟨keepFailed_length.trans rebuildFolds_length, h.comp.2⟩)) (by decide))
        (State.modBoot_keeps (fun h => ⟨h.boot.1, (by decide : 3 ≤ 5), h.boot.2.2⟩)) (by decide)
    · exact Keeps.step (Keeps.mono (State.modComp_keeps (fun h => ⟨keepFailed_length.trans rebuildFolds_length, h.comp.2⟩)) (by decide))
        (State.setStage_keeps (fun _ => by decide)) (by decide)

theorem State.shutDown_keeps {a1 a2} {t : State} : Keeps [.boot, .host, .comp, .pens, .drover, .np, .fab, .qe, .health, .out, .free] t (State.shutDown t a1 a2) := by
  unfold State.shutDown
  dsimp only
  have h1 : Keeps [.boot, .host, .comp, .pens, .drover, .np, .fab, .qe, .health, .out, .free] t
      (((t.modStack a1 (fun k => { k with trained := false, powered := false })).logFault 8 0x86 .uncontained a1 none none (a2 % 256)).forAll
        (List.range 8) (fun v p => v.penFault p 0x86 (a2 % 256))) :=
    State.forAll_keeps (Keeps.step (State.modStack_keeps.mono (by decide)) State.logFault_keeps (by decide))
      (fun u x => State.penFault_keeps.mono (by decide))
  revert h1
  generalize State.forAll _ _ _ = u
  intro h1
  have h2 := h1.step State.fallToReduced_keeps (by decide)
  revert h2
  generalize u.fallToReduced = v
  exact fun h2 => h2.step (State.modBoot_keeps (fun h => h.boot)) (by decide)

theorem State.slowNotices_keeps {a1 a2 a3} {t : State} : Keeps [.fab, .health] t (State.slowNotices t a1 a2 a3) := by
  unfold State.slowNotices
  try dsimp only
  repeat' first
    | with_reducible apply Keeps.rfl | decide | with_reducible apply Keeps.step ?_ State.sendSlow_keeps ?_ | split

theorem State.thermalReset_keeps {t : State} : Keeps [.dog, .boot, .host, .comp, .pens, .drover, .talsen, .np, .fab, .qe, .coord, .video, .health, .out] t (State.thermalReset t) := by
  unfold State.thermalReset
  try dsimp only
  repeat' first
    | with_reducible apply Keeps.rfl | decide | with_reducible apply Keeps.step ?_ State.warmReset_keeps ?_ | split

theorem State.takeTemp_keeps {a1 a2 a3} {t : State} : Keeps [.np] t (State.takeTemp t a1 a2 a3) := by
  refine Keeps.step State.modStack_keeps (State.modNp_keeps (fun h => ?_)) (by decide)
  split
  · exact NearMem.dueByTemp_sound h.np
  · exact h.np

theorem State.pastureServes_keeps {t : State} : Keeps [.host, .comp, .pens, .drover, .np, .fab, .qe, .video, .health, .out, .free] t (State.pastureServes t) := by
  unfold State.pastureServes
  try dsimp only
  repeat' first
    | with_reducible apply Keeps.rfl | decide | with_reducible apply Keeps.step ?_ State.nearServes_keeps ?_
    | with_reducible apply Keeps.step ?_ State.releaseVideo_keeps ?_ | split

theorem execStackTemperatureRead_keeps {a0 a1} {t : State} : Result.Keeps [.dog, .boot, .host, .comp, .pens, .drover, .talsen, .np, .fab, .qe, .coord, .video, .health, .out, .free] t (execStackTemperatureRead a0 a1 t) := by
  unfold execStackTemperatureRead
  try dsimp only
  repeat' first
    | with_reducible apply Keeps.rfl | decide | with_reducible apply Result.keeps_done | with_reducible apply Result.keeps_fault
    | with_reducible apply Keeps.step ?_ State.healthEventAll_keeps ?_
    | with_reducible apply Keeps.step ?_ State.pastureServes_keeps ?_
    | with_reducible apply Keeps.step ?_ State.quiet_keeps ?_
    | with_reducible apply Keeps.step ?_ State.shutDown_keeps ?_
    | with_reducible apply Keeps.step ?_ State.slowNotices_keeps ?_
    | with_reducible apply Keeps.step ?_ State.takeTemp_keeps ?_
    | with_reducible apply Keeps.step ?_ State.thermalReset_keeps ?_ | split

theorem execRetrainWindowEnd_keeps {t : State} : Result.Keeps [.host, .comp, .pens, .drover, .np, .fab, .qe, .video, .health, .out, .free] t (execRetrainWindowEnd t) := by
  unfold execRetrainWindowEnd
  try dsimp only
  repeat' first
    | with_reducible apply Keeps.rfl | decide | with_reducible apply Result.keeps_done | with_reducible apply Result.keeps_fault
    | ((with_reducible intro h); apply h.np) | ((with_reducible intro h); exact NearMem.trained_sound h.np)
    | with_reducible apply Keeps.step ?_ (State.modNp_keeps ?_) ?_
    | with_reducible apply Keeps.step ?_ State.pastureServes_keeps ?_
    | with_reducible apply Keeps.step ?_ State.quiet_keeps ?_ | split
    | ((with_reducible intro h); exact by simpa [NearMem.Sound] using h.np)

theorem execSlowRepeat_keeps {t : State} : Result.Keeps [.fab, .health, .out] t (execSlowRepeat t) := by
  unfold execSlowRepeat
  try dsimp only
  repeat' first
    | with_reducible apply Keeps.rfl | decide | with_reducible apply Result.keeps_done | with_reducible apply Result.keeps_fault
    | with_reducible apply Keeps.step ?_ State.quiet_keeps ?_
    | with_reducible apply Keeps.step ?_ State.sendSlow_keeps ?_
    | with_reducible apply State.forAll_keeps ?_ (fun u x => ?_) | split

theorem execNpUe_keeps {a0} {t : State} : Result.Keeps [.host, .comp, .pens, .drover, .np, .fab, .qe, .health, .out, .free] t (execNpUe a0 t) := by
  unfold execNpUe
  try dsimp only
  repeat' first
    | with_reducible apply Keeps.rfl | decide | with_reducible apply Result.keeps_done | with_reducible apply Result.keeps_fault
    | with_reducible apply Keeps.step ?_ State.count_keeps ?_
    | with_reducible apply Keeps.step ?_ State.logFault_keeps ?_
    | with_reducible apply Keeps.step ?_ State.npPoison_keeps ?_
    | with_reducible apply Keeps.step ?_ State.poisonBase_keeps ?_
    | with_reducible apply Keeps.step ?_ State.poisonTensor_keeps ?_
    | with_reducible apply Keeps.step ?_ State.quiet_keeps ?_
    | with_reducible apply Keeps.step ?_ State.retryAllocs_keeps ?_ | split

theorem execTalsenLinkDown_keeps {a0} {t : State} : Result.Keeps [.host, .comp, .pens, .drover, .talsen, .np, .fab, .qe, .health, .out, .free] t (execTalsenLinkDown a0 t) := by
  unfold execTalsenLinkDown
  try dsimp only
  repeat' first
    | with_reducible apply Keeps.rfl | decide | with_reducible apply Result.keeps_done | with_reducible apply Result.keeps_fault
    | with_reducible apply Keeps.step ?_ State.farCopyBad_keeps ?_
    | with_reducible apply Keeps.step ?_ State.healthEventAll_keeps ?_
    | with_reducible apply Keeps.step ?_ State.logFault_keeps ?_
    | with_reducible apply Keeps.step ?_ State.modTalsen_keeps ?_
    | with_reducible apply Keeps.step ?_ State.pumpReads_keeps ?_
    | with_reducible apply Keeps.step ?_ State.quiet_keeps ?_
    | with_reducible apply Keeps.step ?_ State.stallFetch_keeps ?_
    | with_reducible apply Keeps.step ?_ State.wbFails_keeps ?_
    | with_reducible apply State.forAll_keeps ?_ (fun u x => ?_) | split

theorem State.portBack_keeps {t : State} : Keeps [.host, .comp, .pens, .drover, .np, .fab, .qe, .health, .out, .free] t (State.portBack t) := by
  unfold State.portBack
  try dsimp only
  repeat' first
    | with_reducible apply Keeps.rfl | decide | with_reducible apply Keeps.step ?_ State.pumpReads_keeps ?_
    | with_reducible apply Keeps.step ?_ State.reloadBase_keeps ?_
    | with_reducible apply Keeps.step ?_ State.takePath_keeps ?_
    | with_reducible apply Keeps.step ?_ State.unstallFetch_keeps ?_
    | with_reducible apply State.forAll_keeps ?_ (fun u x => ?_) | split

theorem execTalsenLinkUp_keeps {a0 a1} {t : State} : Result.Keeps [.host, .comp, .pens, .drover, .talsen, .np, .fab, .qe, .health, .out, .free] t (execTalsenLinkUp a0 a1 t) := by
  unfold execTalsenLinkUp
  try dsimp only
  repeat' first
    | with_reducible apply Keeps.rfl | decide | with_reducible apply Result.keeps_done | with_reducible apply Result.keeps_fault
    | with_reducible apply Keeps.step ?_ State.healthEventAll_keeps ?_
    | with_reducible apply Keeps.step ?_ State.logFault_keeps ?_
    | with_reducible apply Keeps.step ?_ State.modTalsen_keeps ?_
    | with_reducible apply Keeps.step ?_ State.portBack_keeps ?_
    | with_reducible apply Keeps.step ?_ State.quiet_keeps ?_
    | with_reducible apply Keeps.step ?_ State.startRelink_keeps ?_ | split

theorem execTalsenCorrectedError_keeps {a0} {t : State} : Result.Keeps [.host, .comp, .pens, .talsen, .health, .out] t (execTalsenCorrectedError a0 t) := by
  unfold execTalsenCorrectedError
  try dsimp only
  repeat' first
    | with_reducible apply Keeps.rfl | decide | with_reducible apply Result.keeps_done | with_reducible apply Result.keeps_fault
    | with_reducible apply Keeps.step ?_ State.count_keeps ?_
    | with_reducible apply Keeps.step ?_ State.modTalsen_keeps ?_
    | with_reducible apply Keeps.step ?_ State.quiet_keeps ?_
    | with_reducible apply Keeps.step ?_ State.startRelink_keeps ?_ | split

theorem execFarPastureOverwrite_keeps {a0 a1} {t : State} : Result.Keeps [.boot, .out] t (execFarPastureOverwrite a0 a1 t) := by
  unfold execFarPastureOverwrite
  try dsimp only
  repeat' first
    | with_reducible apply Keeps.rfl | decide | with_reducible apply Result.keeps_done | with_reducible apply Result.keeps_fault
    | ((with_reducible intro h); apply h.boot) | ((with_reducible intro h); exact ⟨h.boot.1, h.boot.2.1, h.boot.2.2.1, satInc_le⟩)
    | ((with_reducible intro h); exact ⟨h.boot.1, h.boot.1, satInc_le, h.boot.2.2.2⟩)
    | with_reducible apply Keeps.step ?_ State.emit_keeps ?_
    | with_reducible apply Keeps.step ?_ (State.modBoot_keeps ?_) ?_
    | with_reducible apply Keeps.step ?_ State.quiet_keeps ?_ | split

/-! ## Machine/PenRows.lean -/

theorem execQuiesceDrainComplete_keeps {a0} {t : State} : Result.Keeps [.host, .comp, .pens, .drover, .out] t (execQuiesceDrainComplete a0 t) := by
  unfold execQuiesceDrainComplete
  try dsimp only
  repeat' first
    | with_reducible apply Keeps.rfl | decide | with_reducible apply Result.keeps_done | with_reducible apply Result.keeps_fault
    | ((with_reducible intro _ k); exact k) | ((with_reducible intro _ _); exact (by rfl)) | ((with_reducible intro _ k); exact (by split <;> exact k))
    | ((with_reducible intro _ k); exact Pen.adopt_sound k) | with_reducible apply Keeps.step ?_ State.answerPen_keeps ?_
    | with_reducible apply Keeps.step ?_ State.droverQuiesce_keeps ?_
    | with_reducible apply Keeps.step ?_ (State.modPen_keeps ?_) ?_
    | with_reducible apply Keeps.step ?_ State.quiet_keeps ?_ | split

theorem execQuiesceTimeout_keeps {a0} {t : State} : Result.Keeps [.host, .comp, .pens, .drover, .np, .fab, .qe, .health, .out, .free] t (execQuiesceTimeout a0 t) := by
  unfold execQuiesceTimeout
  try dsimp only
  repeat' first
    | with_reducible apply Keeps.rfl | decide | with_reducible apply Result.keeps_done | with_reducible apply Result.keeps_fault
    | with_reducible apply Keeps.step ?_ State.answerPen_keeps ?_
    | with_reducible apply Keeps.step ?_ State.penFault_keeps ?_
    | with_reducible apply Keeps.step ?_ State.quiet_keeps ?_
    | with_reducible apply Keeps.step ?_ State.retryAllocs_keeps ?_ | split

theorem State.zeroPages_keeps {a1} {t : State} : Keeps [.np, .health] t (State.zeroPages t a1) := by
  unfold State.zeroPages
  try dsimp only
  repeat' first
    | with_reducible apply Keeps.rfl | decide
    | ((with_reducible intro h); exact ⟨h.np.1, h.np.2.1, cellsWf_filter h.np.2.2.1, h.np.2.2.2.filter⟩) | ((with_reducible intro h); apply h.np)
    | ((with_reducible intro h); exact NearMem.trained_sound h.np) | with_reducible apply Keeps.step ?_ State.count_keeps ?_
    | with_reducible apply Keeps.step ?_ (State.modNp_keeps ?_) ?_ | split
    | ((with_reducible intro h); exact by simpa [NearMem.Sound] using h.np)

theorem State.zeroFar_keeps {a1} {t : State} : Keeps [.health, .out] t (State.zeroFar t a1) := by
  unfold State.zeroFar
  try dsimp only
  repeat' first
    | with_reducible apply Keeps.rfl | decide | with_reducible apply Keeps.step ?_ State.count_keeps ?_
    | with_reducible apply Keeps.step ?_ State.emit_keeps ?_
    | with_reducible apply State.forAll_keeps ?_ (fun u x => ?_) | split

theorem State.wipePen_keeps {a1} {t : State} : Keeps [.host, .comp, .pens, .drover, .np, .fab, .qe, .health, .out, .free] t (State.wipePen t a1) := by
  unfold State.wipePen
  try dsimp only
  repeat' first
    | with_reducible apply Keeps.rfl | decide | ((with_reducible intro h); apply h.comp) | ((with_reducible intro h); exact ⟨rebuildFolds_length, h.comp.2⟩)
    | ((with_reducible intro h); exact ⟨rebuildFolds_length, rebuildSlots_length⟩) | ((with_reducible intro _ k); exact k) | ((with_reducible intro _ _); exact (by rfl))
    | ((with_reducible intro _ k); exact (by split <;> exact k)) | ((with_reducible intro _ k); exact Pen.adopt_sound k)
    | with_reducible apply Keeps.step ?_ (State.modComp_keeps ?_) ?_
    | with_reducible apply Keeps.step ?_ State.modDrover_keeps ?_
    | with_reducible apply Keeps.step ?_ (State.modPen_keeps ?_) ?_
    | with_reducible apply Keeps.step ?_ State.modQe_keeps ?_
    | with_reducible apply Keeps.step ?_ State.retryAllocs_keeps ?_
    | with_reducible apply Keeps.step ?_ State.zeroFar_keeps ?_
    | with_reducible apply Keeps.step ?_ State.zeroPages_keeps ?_
    | with_reducible apply State.forAll_keeps ?_ (fun u x => ?_) | split
    | ((with_reducible intro h); exact by simpa [Compute.Sound] using h.comp)

theorem execWipeComplete_keeps {a0} {t : State} : Result.Keeps [.host, .comp, .pens, .drover, .np, .fab, .qe, .health, .out, .free] t (execWipeComplete a0 t) := by
  unfold execWipeComplete
  try dsimp only
  repeat' first
    | with_reducible apply Keeps.rfl | decide | with_reducible apply Result.keeps_done | with_reducible apply Result.keeps_fault
    | with_reducible apply Keeps.step ?_ State.quiet_keeps ?_
    | with_reducible apply Keeps.step ?_ State.wipePen_keeps ?_ | split

/-! ## Machine/Operators.lean -/

theorem execGemm_keeps {a0} {t : State} : Result.Keeps [.host, .comp, .pens, .drover, .np, .fab, .qe, .health, .out, .free] t (execGemm a0 t) := by
  unfold execGemm
  try dsimp only
  repeat' first
    | with_reducible apply Keeps.rfl | decide | with_reducible apply Result.keeps_done | with_reducible apply Result.keeps_fault
    | with_reducible apply Keeps.step ?_ State.issueHead_keeps ?_
    | with_reducible apply Keeps.step ?_ State.quiet_keeps ?_ | split

theorem execConv_keeps {a0} {t : State} : Result.Keeps [.host, .comp, .pens, .drover, .np, .fab, .qe, .health, .out, .free] t (execConv a0 t) := by
  unfold execConv
  try dsimp only
  repeat' first
    | with_reducible apply Keeps.rfl | decide | with_reducible apply Result.keeps_done | with_reducible apply Result.keeps_fault
    | with_reducible apply Keeps.step ?_ State.issueHead_keeps ?_
    | with_reducible apply Keeps.step ?_ State.quiet_keeps ?_ | split

theorem execCropResize_keeps {a0} {t : State} : Result.Keeps [.host, .comp, .pens, .drover, .np, .fab, .qe, .health, .out, .free] t (execCropResize a0 t) := by
  unfold execCropResize
  try dsimp only
  repeat' first
    | with_reducible apply Keeps.rfl | decide | with_reducible apply Result.keeps_done | with_reducible apply Result.keeps_fault
    | with_reducible apply Keeps.step ?_ State.issueHead_keeps ?_
    | with_reducible apply Keeps.step ?_ State.quiet_keeps ?_ | split

theorem execAttnFwd_keeps {a0} {t : State} : Result.Keeps [.host, .comp, .pens, .drover, .np, .fab, .qe, .health, .out, .free] t (execAttnFwd a0 t) := by
  unfold execAttnFwd
  try dsimp only
  repeat' first
    | with_reducible apply Keeps.rfl | decide | with_reducible apply Result.keeps_done | with_reducible apply Result.keeps_fault
    | with_reducible apply Keeps.step ?_ State.issueHead_keeps ?_
    | with_reducible apply Keeps.step ?_ State.quiet_keeps ?_ | split

theorem execAttnBwd_keeps {a0} {t : State} : Result.Keeps [.host, .comp, .pens, .drover, .np, .fab, .qe, .health, .out, .free] t (execAttnBwd a0 t) := by
  unfold execAttnBwd
  try dsimp only
  repeat' first
    | with_reducible apply Keeps.rfl | decide | with_reducible apply Result.keeps_done | with_reducible apply Result.keeps_fault
    | with_reducible apply Keeps.step ?_ State.issueHead_keeps ?_
    | with_reducible apply Keeps.step ?_ State.quiet_keeps ?_ | split

theorem execNorm_keeps {a0} {t : State} : Result.Keeps [.host, .comp, .pens, .drover, .np, .fab, .qe, .health, .out, .free] t (execNorm a0 t) := by
  unfold execNorm
  try dsimp only
  repeat' first
    | with_reducible apply Keeps.rfl | decide | with_reducible apply Result.keeps_done | with_reducible apply Result.keeps_fault
    | with_reducible apply Keeps.step ?_ State.issueHead_keeps ?_
    | with_reducible apply Keeps.step ?_ State.quiet_keeps ?_ | split

theorem execSoftmax_keeps {a0} {t : State} : Result.Keeps [.host, .comp, .pens, .drover, .np, .fab, .qe, .health, .out, .free] t (execSoftmax a0 t) := by
  unfold execSoftmax
  try dsimp only
  repeat' first
    | with_reducible apply Keeps.rfl | decide | with_reducible apply Result.keeps_done | with_reducible apply Result.keeps_fault
    | with_reducible apply Keeps.step ?_ State.issueHead_keeps ?_
    | with_reducible apply Keeps.step ?_ State.quiet_keeps ?_ | split

theorem execEltwise_keeps {a0} {t : State} : Result.Keeps [.host, .comp, .pens, .drover, .np, .fab, .qe, .health, .out, .free] t (execEltwise a0 t) := by
  unfold execEltwise
  try dsimp only
  repeat' first
    | with_reducible apply Keeps.rfl | decide | with_reducible apply Result.keeps_done | with_reducible apply Result.keeps_fault
    | with_reducible apply Keeps.step ?_ State.issueHead_keeps ?_
    | with_reducible apply Keeps.step ?_ State.quiet_keeps ?_ | split

theorem execReduce_keeps {a0} {t : State} : Result.Keeps [.host, .comp, .pens, .drover, .np, .fab, .qe, .health, .out, .free] t (execReduce a0 t) := by
  unfold execReduce
  try dsimp only
  repeat' first
    | with_reducible apply Keeps.rfl | decide | with_reducible apply Result.keeps_done | with_reducible apply Result.keeps_fault
    | with_reducible apply Keeps.step ?_ State.issueHead_keeps ?_
    | with_reducible apply Keeps.step ?_ State.quiet_keeps ?_ | split

theorem execRngFill_keeps {a0} {t : State} : Result.Keeps [.host, .comp, .pens, .drover, .np, .fab, .qe, .health, .out, .free] t (execRngFill a0 t) := by
  unfold execRngFill
  try dsimp only
  repeat' first
    | with_reducible apply Keeps.rfl | decide | with_reducible apply Result.keeps_done | with_reducible apply Result.keeps_fault
    | with_reducible apply Keeps.step ?_ State.issueHead_keeps ?_
    | with_reducible apply Keeps.step ?_ State.quiet_keeps ?_ | split

theorem execOptStep_keeps {a0} {t : State} : Result.Keeps [.host, .comp, .pens, .drover, .np, .fab, .qe, .health, .out, .free] t (execOptStep a0 t) := by
  unfold execOptStep
  try dsimp only
  repeat' first
    | with_reducible apply Keeps.rfl | decide | with_reducible apply Result.keeps_done | with_reducible apply Result.keeps_fault
    | with_reducible apply Keeps.step ?_ State.issueHead_keeps ?_
    | with_reducible apply Keeps.step ?_ State.quiet_keeps ?_ | split

theorem execLoss_keeps {a0} {t : State} : Result.Keeps [.host, .comp, .pens, .drover, .np, .fab, .qe, .health, .out, .free] t (execLoss a0 t) := by
  unfold execLoss
  try dsimp only
  repeat' first
    | with_reducible apply Keeps.rfl | decide | with_reducible apply Result.keeps_done | with_reducible apply Result.keeps_fault
    | with_reducible apply Keeps.step ?_ State.issueHead_keeps ?_
    | with_reducible apply Keeps.step ?_ State.quiet_keeps ?_ | split

theorem execCast_keeps {a0} {t : State} : Result.Keeps [.host, .comp, .pens, .drover, .np, .fab, .qe, .health, .out, .free] t (execCast a0 t) := by
  unfold execCast
  try dsimp only
  repeat' first
    | with_reducible apply Keeps.rfl | decide | with_reducible apply Result.keeps_done | with_reducible apply Result.keeps_fault
    | with_reducible apply Keeps.step ?_ State.issueHead_keeps ?_
    | with_reducible apply Keeps.step ?_ State.quiet_keeps ?_ | split

theorem execMove_keeps {a0} {t : State} : Result.Keeps [.host, .comp, .pens, .drover, .np, .fab, .qe, .health, .out, .free] t (execMove a0 t) := by
  unfold execMove
  try dsimp only
  repeat' first
    | with_reducible apply Keeps.rfl | decide | with_reducible apply Result.keeps_done | with_reducible apply Result.keeps_fault
    | with_reducible apply Keeps.step ?_ State.issueHead_keeps ?_
    | with_reducible apply Keeps.step ?_ State.quiet_keeps ?_ | split

theorem execFence_keeps {a0} {t : State} : Result.Keeps [.host, .comp, .pens, .drover, .np, .fab, .qe, .health, .out, .free] t (execFence a0 t) := by
  unfold execFence
  try dsimp only
  repeat' first
    | with_reducible apply Keeps.rfl | decide | with_reducible apply Result.keeps_done | with_reducible apply Result.keeps_fault
    | with_reducible apply Keeps.step ?_ State.issueHead_keeps ?_
    | with_reducible apply Keeps.step ?_ State.quiet_keeps ?_ | split

theorem execLayerMark_keeps {a0} {t : State} : Result.Keeps [.host, .comp, .pens, .drover, .np, .fab, .qe, .health, .out, .free] t (execLayerMark a0 t) := by
  unfold execLayerMark
  try dsimp only
  repeat' first
    | with_reducible apply Keeps.rfl | decide | with_reducible apply Result.keeps_done | with_reducible apply Result.keeps_fault
    | with_reducible apply Keeps.step ?_ State.issueHead_keeps ?_
    | with_reducible apply Keeps.step ?_ State.quiet_keeps ?_ | split

theorem execCollStep_keeps {a0} {t : State} : Result.Keeps [.host, .comp, .pens, .drover, .np, .fab, .qe, .health, .out, .free] t (execCollStep a0 t) := by
  unfold execCollStep
  try dsimp only
  repeat' first
    | with_reducible apply Keeps.rfl | decide | with_reducible apply Result.keeps_done | with_reducible apply Result.keeps_fault
    | with_reducible apply Keeps.step ?_ State.issueHead_keeps ?_
    | with_reducible apply Keeps.step ?_ State.quiet_keeps ?_ | split

end Sys2Proof.Machine
end

