-- ==== Sys2Proof/Laws/FrameHost.lean ====
section
/-! SUPPORT. What each operation of the Eszer commands and the host link may change, and that it keeps a sound machine sound: one lemma per definition. -/

-- One proof at a time: the package as one text otherwise asks for more threads than its memory limit allows.
set_option Elab.async false
set_option linter.all false

namespace Sys2Proof.Machine

/-! ## Machine/EszerDog.lean -/

theorem Sheepdog.flashProgram_same (g : Sheepdog) (a : Nat) (d : List Byte) : g.SameModes (g.flashProgram a d) := ⟨rfl, rfl⟩

theorem Sheepdog.programPages_same (g : Sheepdog) (a : Nat) (d : List Byte) : g.SameModes (g.programPages a d) := by
  unfold Sheepdog.programPages
  generalize List.range ((d.length + 255) / 256) = l
  exact foldl_sameModes (fun x i => ((x.append_same _ _).trans (Sheepdog.flashProgram_same _ _ _)).trans (Sheepdog.append_same _ _ _)) l g

theorem Sheepdog.sealBlock_same (g : Sheepdog) (a b : Nat) : g.SameModes (g.sealBlock a b) := by
  unfold Sheepdog.sealBlock
  dsimp only
  exact (g.programPages_same _ _).trans (Sheepdog.programPages_same _ _ _)

theorem Sheepdog.takeBlock_same (g : Sheepdog) (x : Session) (d : List Byte) : g.SameModes (g.takeBlock x d) := by
  unfold Sheepdog.takeBlock
  dsimp only
  have h := g.programPages_same (g.regionBase x.target + x.accepted) d
  generalize g.programPages (g.regionBase x.target + x.accepted) d = y at h
  split
  · have k := y.sealBlock_same x.target (x.accepted / 4096)
    generalize y.sealBlock x.target (x.accepted / 4096) = z at k
    exact ⟨k.1.trans h.1, k.2.trans h.2⟩
  · exact ⟨h.1, h.2⟩

theorem Sheepdog.closeSession_same (g : Sheepdog) : g.SameModes g.closeSession := ⟨rfl, rfl⟩

theorem Sheepdog.commit_same (g : Sheepdog) (x : Session) : g.SameModes (g.commit x) := by
  unfold Sheepdog.commit
  exact (g.writeBcb_same _).trans (Sheepdog.closeSession_same _)

theorem Sheepdog.closeWindow_sound {g : Sheepdog} (h : g.Sound) : g.closeWindow.Sound := ⟨h.1, h.2⟩

theorem Sheepdog.countTransition_same (g : Sheepdog) (f : Identity → Identity) : g.SameModes (g.countTransition f) := by
  unfold Sheepdog.countTransition
  exact g.writeIdentity_same _

theorem Sheepdog.unlocked_sound {g : Sheepdog} {n : Nat} (h : g.Sound) (k : n ≤ 2) :
    ({ g.countTransition id with debugLevel := n } : Sheepdog).Sound := ⟨by rw [(g.countTransition_same id).1]; exact h.1, k⟩

theorem Sheepdog.unlockedClosed_sound {g : Sheepdog} {n : Nat} (h : g.Sound) (k : n ≤ 2) :
    (({ g.countTransition id with debugLevel := n } : Sheepdog).closeWindow).Sound := Sheepdog.closeWindow_sound (Sheepdog.unlocked_sound h k)

theorem Sheepdog.lockTo_sound {g : Sheepdog} {f : Identity → Identity} (h : g.Sound) : ((g.countTransition f).closeWindow).Sound :=
  Sheepdog.closeWindow_sound ((g.countTransition_same f).sound h)

theorem Sheepdog.erasing_same (g : Sheepdog) (l : List Nat) : g.SameModes { g with erasing := l } := ⟨rfl, rfl⟩

theorem Sheepdog.beginErase_same (g : Sheepdog) (i : Nat) : g.SameModes (g.beginErase i) := by
  unfold Sheepdog.beginErase
  dsimp only
  split
  · exact g.erasing_same _
  · exact (g.erasing_same _).trans (Sheepdog.append_same _ _ _)

theorem Sheepdog.session_same (g : Sheepdog) (f : List Nat) (n : Word) (x : Option Session) :
    g.SameModes { g with factory := f, sessionCounter := n, session := x } := ⟨rfl, rfl⟩

theorem Sheepdog.openSession_same (g : Sheepdog) (n : Nat) (v : Word) : g.SameModes (g.openSession n v) := by
  unfold Sheepdog.openSession
  dsimp only
  exact ((g.writeBcb_same _).trans (Sheepdog.session_same _ _ _ _)).trans (Sheepdog.beginErase_same _ _)

theorem Sheepdog.window_same (g : Sheepdog) (w : Option Nat) : g.SameModes { g with window := w } := ⟨rfl, rfl⟩

theorem Sheepdog.openWindow_sound {g : Sheepdog} {n : Nat} {v : Word} {w : Option Nat} (h : g.Sound) :
    ({ g.openSession n v with window := w } : Sheepdog).Sound :=
  ((g.openSession_same n v).trans (Sheepdog.window_same _ _)).sound h

theorem Sheepdog.defaultSettings_same (g : Sheepdog) : g.SameModes g.defaultSettings := by
  unfold Sheepdog.defaultSettings
  dsimp only
  have h := (g.rewritten_same 0x400000).trans (Sheepdog.rewritten_same _ 0x800000)
  generalize Sheepdog.rewritten _ _ = y at h
  exact ⟨h.1, h.2⟩

theorem Sheepdog.eraseRange_same (g : Sheepdog) (a b : Nat) : g.SameModes (g.eraseRange a b) := by
  unfold Sheepdog.eraseRange
  generalize List.range (b / 4096) = l
  exact foldl_sameModes (fun x k => x.eraseSector_same _) l g

theorem Sheepdog.eraseAll_same (g : Sheepdog) : g.SameModes g.eraseAll := by
  unfold Sheepdog.eraseAll
  dsimp only
  have h := ((g.eraseRange_same 0x2000 0x2000).trans (Sheepdog.eraseRange_same _ 0x400000 0x800000)).trans
    (foldl_sameModes (f := fun x i => x.eraseRange (x.regionBase i) (x.regionBytes i)) (fun x i => x.eraseRange_same _ _)
      (if g.dualSlot then [0, 1, 2] else [0, 1]) _)
  generalize List.foldl _ _ _ = y at h
  exact ⟨h.1, h.2⟩

theorem Sheepdog.revokeOwners_same (g : Sheepdog) : g.SameModes g.revokeOwners := ⟨rfl, rfl⟩

theorem Sheepdog.transitionActions_debug (g : Sheepdog) (a b k : Nat) : (g.transitionActions a b k).debugLevel = g.debugLevel := by
  have hc (f : Identity → Identity) := (g.countTransition_same f).2
  have hl (f : Identity → Identity) : ((g.countTransition f).defaultSettings.revokeOwners).debugLevel = g.debugLevel :=
    (((g.countTransition_same f).trans (Sheepdog.defaultSettings_same _)).trans (Sheepdog.revokeOwners_same _)).2
  unfold Sheepdog.transitionActions
  dsimp only
  split
  · have e := hc id
    generalize g.countTransition id = y at e
    exact e
  · have e := hc id
    generalize g.countTransition id = y at e
    exact e
  all_goals first
    | with_reducible exact hc _ | with_reducible exact hl _
    | exact (Sheepdog.eraseAll_same _).2.trans (hl _)

theorem Sheepdog.transition_sound {g : Sheepdog} {a b k : Nat} (h : g.Sound) : (g.transition a b k).closeWindow.Sound := by
  unfold Sheepdog.transition
  have e := g.transitionActions_debug a b k
  generalize g.transitionActions a b k = y at e
  exact Sheepdog.closeWindow_sound ⟨y.deriveLc_le, by show y.debugLevel ≤ 2; rw [e]; exact h.2⟩

theorem fwUpdateBegin_keeps {a0 a1} {t : State} : Keeps [.dog] t (fwUpdateBegin a0 a1 t).state := by
  unfold fwUpdateBegin
  try dsimp only
  repeat' first
    | with_reducible apply Keeps.rfl | decide | with_reducible apply Keeps.reply | with_reducible apply Keeps.refuses
    | with_reducible apply Keeps.waits | ((with_reducible intro h); with_reducible exact Sheepdog.openWindow_sound h.dog)
    | ((with_reducible intro h); apply h.dog) | ((with_reducible intro h); exact ⟨h.dog.1, (by decide)⟩) | ((with_reducible intro h); exact ⟨h.dog.1, Nat.zero_le _⟩)
    | with_reducible apply Keeps.step ?_ (State.modDog_keeps ?_) ?_
    | with_reducible apply Keeps.step ?_ State.sampleHoldup_keeps ?_ | split

theorem execFwUpdateBegin_keeps {a0 a1 a2} {t : State} : Result.Keeps [.dog, .host, .health, .out] t (execFwUpdateBegin a0 a1 a2 t) := by
  unfold execFwUpdateBegin
  try dsimp only
  repeat' first
    | with_reducible apply Keeps.rfl | decide | with_reducible apply Result.keeps_done | with_reducible apply Result.keeps_fault
    | refine Keeps.trans ?_ (State.serve_keeps (fun r u => ?_) (by decide))
    | with_reducible apply Keeps.step ?_ State.quiet_keeps ?_
    | with_reducible apply Keeps.step ?_ fwUpdateBegin_keeps ?_ | split

theorem blockAnswer_keeps {a1 a2} {t : State} : Keeps [] t (blockAnswer t a1 a2).state := by
  unfold blockAnswer
  try dsimp only
  repeat' first
    | with_reducible apply Keeps.rfl | decide | with_reducible apply Keeps.reply | with_reducible apply Keeps.refuses
    | with_reducible apply Keeps.waits | split

theorem takeOrWait_keeps {a0 a1} {t : State} : Keeps [.dog] t (takeOrWait a0 a1 t).state := by
  unfold takeOrWait
  try dsimp only
  repeat' first
    | with_reducible apply Keeps.rfl | decide | with_reducible apply Keeps.reply | with_reducible apply Keeps.refuses
    | with_reducible apply Keeps.waits | ((with_reducible intro h); with_reducible exact (Sheepdog.takeBlock_same _ _ _).sound h.dog)
    | ((with_reducible intro h); apply h.dog) | ((with_reducible intro h); exact ⟨h.dog.1, (by decide)⟩) | ((with_reducible intro h); exact ⟨h.dog.1, Nat.zero_le _⟩)
    | with_reducible apply Keeps.step ?_ (State.modDog_keeps ?_) ?_
    | with_reducible apply Keeps.step ?_ blockAnswer_keeps ?_ | split

theorem fwUpdateBlock_keeps {a0 a1} {t : State} : Keeps [.dog] t (fwUpdateBlock a0 a1 t).state := by
  unfold fwUpdateBlock
  try dsimp only
  repeat' first
    | with_reducible apply Keeps.rfl | decide | with_reducible apply Keeps.reply | with_reducible apply Keeps.refuses
    | with_reducible apply Keeps.waits | ((with_reducible intro h); with_reducible exact (Sheepdog.takeBlock_same _ _ _).sound h.dog)
    | with_reducible apply Keeps.step ?_ State.sampleHoldup_keeps ?_
    | with_reducible apply Keeps.step ?_ takeOrWait_keeps ?_ | split

theorem State.retryBlock_keeps {a1} {t : State} : Keeps [.dog, .host, .out] t (State.retryBlock t a1) := by
  unfold State.retryBlock
  have h := takeOrWait_keeps (a0 := true) (a1 := { fn := slotFn a1, slot := a1, pay := (t.slotAt a1).taken.drop 8 }) (t := t)
  split
  · rename_i e
    rw [e] at h
    exact Keeps.step (h.mono (by decide)) State.answer_keeps (by decide)
  · rename_i e
    rw [e] at h
    exact h.mono (by decide)

theorem State.retryBlocks_keeps {t : State} : Keeps [.dog, .host, .health, .out] t (State.retryBlocks t) := by
  unfold State.retryBlocks
  try dsimp only
  repeat' first
    | with_reducible apply Keeps.rfl | decide | with_reducible apply Keeps.step ?_ State.retryBlock_keeps ?_
    | with_reducible apply Keeps.step ?_ State.settleRound_keeps ?_
    | with_reducible apply State.forAll_keeps ?_ (fun u x => ?_) | split

theorem execFlashSectorErased_keeps {t : State} : Result.Keeps [.dog, .host, .health, .out] t (execFlashSectorErased t) := by
  unfold execFlashSectorErased
  try dsimp only
  repeat' first
    | with_reducible apply Keeps.rfl | decide | with_reducible apply Result.keeps_done | with_reducible apply Result.keeps_fault
    | ((with_reducible intro h); exact (Sheepdog.sectorErased_same _).sound h.dog) | ((with_reducible intro h); apply h.dog)
    | ((with_reducible intro h); exact ⟨h.dog.1, (by decide)⟩) | ((with_reducible intro h); exact ⟨h.dog.1, Nat.zero_le _⟩)
    | with_reducible apply Keeps.step ?_ (State.modDog_keeps ?_) ?_
    | with_reducible apply Keeps.step ?_ State.quiet_keeps ?_
    | with_reducible apply Keeps.step ?_ State.retryBlocks_keeps ?_ | split

theorem execFwUpdateBlock_keeps {a0 a1 a2} {t : State} : Result.Keeps [.dog, .host, .health, .out] t (execFwUpdateBlock a0 a1 a2 t) := by
  unfold execFwUpdateBlock
  try dsimp only
  repeat' first
    | with_reducible apply Keeps.rfl | decide | with_reducible apply Result.keeps_done | with_reducible apply Result.keeps_fault
    | refine Keeps.trans ?_ (State.serve_keeps (fun r u => ?_) (by decide))
    | with_reducible apply Keeps.step ?_ State.quiet_keeps ?_
    | with_reducible apply Keeps.step ?_ fwUpdateBlock_keeps ?_ | split

theorem fwUpdateCommit_keeps {a0 a1} {t : State} : Keeps [.dog, .boot, .host, .comp, .health, .out] t (fwUpdateCommit a0 a1 t).state := by
  unfold fwUpdateCommit
  try dsimp only
  repeat' first
    | with_reducible apply Keeps.rfl | decide | with_reducible apply Keeps.reply | with_reducible apply Keeps.refuses
    | with_reducible apply Keeps.waits | ((with_reducible intro h); with_reducible exact (Sheepdog.commit_same _ _).sound h.dog)
    | ((with_reducible intro h); with_reducible exact (Sheepdog.closeSession_same _).sound h.dog) | ((with_reducible intro h); apply h.dog)
    | ((with_reducible intro h); exact ⟨h.dog.1, (by decide)⟩) | ((with_reducible intro h); exact ⟨h.dog.1, Nat.zero_le _⟩)
    | with_reducible apply Keeps.step ?_ State.answer_keeps ?_
    | with_reducible apply Keeps.step ?_ State.ccReset_keeps ?_
    | with_reducible apply Keeps.step ?_ (State.modDog_keeps ?_) ?_
    | with_reducible apply Keeps.step ?_ State.sampleHoldup_keeps ?_ | split

theorem fwConfirmHealth_keeps {a0} {t : State} : Keeps [.dog] t (fwConfirmHealth a0 t).state := by
  unfold fwConfirmHealth
  try dsimp only
  repeat' first
    | with_reducible apply Keeps.rfl | decide | with_reducible apply Keeps.reply | with_reducible apply Keeps.refuses
    | with_reducible apply Keeps.waits | ((with_reducible intro h); exact (Sheepdog.confirmHealth_same _).sound h.dog)
    | ((with_reducible intro h); apply h.dog) | ((with_reducible intro h); exact ⟨h.dog.1, (by decide)⟩) | ((with_reducible intro h); exact ⟨h.dog.1, Nat.zero_le _⟩)
    | with_reducible apply Keeps.step ?_ (State.modDog_keeps ?_) ?_ | split

theorem fwUpdateAbort_keeps {a0} {t : State} : Keeps [.dog, .host, .out] t (fwUpdateAbort a0 t).state := by
  unfold fwUpdateAbort
  try dsimp only
  repeat' first
    | with_reducible apply Keeps.rfl | decide | with_reducible apply Keeps.reply | with_reducible apply Keeps.refuses
    | with_reducible apply Keeps.waits | ((with_reducible intro h); apply h.dog) | ((with_reducible intro h); exact ⟨h.dog.1, (by decide)⟩)
    | ((with_reducible intro h); exact ⟨h.dog.1, Nat.zero_le _⟩) | with_reducible apply Keeps.step ?_ (State.modDog_keeps ?_) ?_
    | with_reducible apply Keeps.step ?_ State.retryBlock_keeps ?_
    | with_reducible apply State.forAll_keeps ?_ (fun u x => ?_) | split

theorem execFwUpdateCommit_keeps {a0 a1 a2} {t : State} : Result.Keeps [.dog, .boot, .host, .comp, .health, .out] t (execFwUpdateCommit a0 a1 a2 t) := by
  unfold execFwUpdateCommit
  try dsimp only
  repeat' first
    | with_reducible apply Keeps.rfl | decide | with_reducible apply Result.keeps_done | with_reducible apply Result.keeps_fault
    | refine Keeps.trans ?_ (State.serve_keeps (fun r u => ?_) (by decide))
    | with_reducible apply Keeps.step ?_ State.quiet_keeps ?_
    | with_reducible apply Keeps.step ?_ fwUpdateCommit_keeps ?_ | split

theorem execFwConfirmHealth_keeps {a0 a1} {t : State} : Result.Keeps [.dog, .host, .health, .out] t (execFwConfirmHealth a0 a1 t) := by
  unfold execFwConfirmHealth
  try dsimp only
  repeat' first
    | with_reducible apply Keeps.rfl | decide | with_reducible apply Result.keeps_done | with_reducible apply Result.keeps_fault
    | refine Keeps.trans ?_ (State.serve_keeps (fun r u => ?_) (by decide))
    | with_reducible apply Keeps.step ?_ State.quiet_keeps ?_
    | with_reducible apply Keeps.step ?_ fwConfirmHealth_keeps ?_ | split

theorem execFwUpdateAbort_keeps {a0 a1} {t : State} : Result.Keeps [.dog, .host, .health, .out] t (execFwUpdateAbort a0 a1 t) := by
  unfold execFwUpdateAbort
  try dsimp only
  repeat' first
    | with_reducible apply Keeps.rfl | decide | with_reducible apply Result.keeps_done | with_reducible apply Result.keeps_fault
    | refine Keeps.trans ?_ (State.serve_keeps (fun r u => ?_) (by decide))
    | with_reducible apply Keeps.step ?_ State.quiet_keeps ?_
    | with_reducible apply Keeps.step ?_ fwUpdateAbort_keeps ?_ | split

theorem fwSlotStatus_keeps {a0} {t : State} : Keeps [] t (fwSlotStatus a0 t).state := by
  unfold fwSlotStatus
  try dsimp only
  repeat' first
    | with_reducible apply Keeps.rfl | decide | with_reducible apply Keeps.reply | with_reducible apply Keeps.refuses
    | with_reducible apply Keeps.waits | split

theorem execFwSlotStatus_keeps {a0 a1} {t : State} : Result.Keeps [.host, .health, .out] t (execFwSlotStatus a0 a1 t) := by
  unfold execFwSlotStatus
  try dsimp only
  repeat' first
    | with_reducible apply Keeps.rfl | decide | with_reducible apply Result.keeps_done | with_reducible apply Result.keeps_fault
    | refine Keeps.trans ?_ (State.serve_keeps (fun r u => ?_) (by decide))
    | with_reducible apply Keeps.step ?_ State.quiet_keeps ?_
    | with_reducible apply Keeps.step ?_ fwSlotStatus_keeps ?_ | split

theorem lcStateGet_keeps {a0 a1} {t : State} : Keeps [.dog] t (lcStateGet a0 a1 t).state := by
  unfold lcStateGet
  try dsimp only
  repeat' first
    | with_reducible apply Keeps.rfl | decide | with_reducible apply Keeps.reply | with_reducible apply Keeps.refuses
    | with_reducible apply Keeps.waits | with_reducible apply Keeps.step ?_ State.sampleStrap_keeps ?_ | split

theorem execLcStateGet_keeps {a0 a1 a2} {t : State} : Result.Keeps [.dog, .host, .health, .out] t (execLcStateGet a0 a1 a2 t) := by
  unfold execLcStateGet
  try dsimp only
  repeat' first
    | with_reducible apply Keeps.rfl | decide | with_reducible apply Result.keeps_done | with_reducible apply Result.keeps_fault
    | refine Keeps.trans ?_ (State.serve_keeps (fun r u => ?_) (by decide))
    | with_reducible apply Keeps.step ?_ State.quiet_keeps ?_ | with_reducible apply Keeps.step ?_ lcStateGet_keeps ?_
    | split

theorem State.endRegistration_keeps {t : State} : Keeps [.host, .out] t (State.endRegistration t) := by
  unfold State.endRegistration
  try dsimp only
  repeat' first
    | with_reducible apply Keeps.rfl | decide | with_reducible apply Keeps.step ?_ State.answer_keeps ?_
    | with_reducible apply State.forAll_keeps ?_ (fun u x => ?_) | split

theorem lcTransition_keeps {a0 a1} {t : State} : Keeps [.dog, .boot, .host, .comp, .pens, .drover, .talsen, .np, .fab, .qe, .coord, .video, .health, .out] t (lcTransition a0 a1 t).state := by
  unfold lcTransition
  try dsimp only
  repeat' first
    | with_reducible apply Keeps.rfl | decide | with_reducible apply Keeps.reply | with_reducible apply Keeps.refuses
    | with_reducible apply Keeps.waits | ((with_reducible intro h); with_reducible exact Sheepdog.transition_sound h.dog)
    | ((with_reducible intro h); apply h.dog) | ((with_reducible intro h); exact ⟨h.dog.1, (by decide)⟩) | ((with_reducible intro h); exact ⟨h.dog.1, Nat.zero_le _⟩)
    | with_reducible apply Keeps.step ?_ State.answer_keeps ?_
    | with_reducible apply Keeps.step ?_ State.endRegistration_keeps ?_
    | with_reducible apply Keeps.step ?_ (State.modDog_keeps ?_) ?_
    | with_reducible apply Keeps.step ?_ State.sampleStrap_keeps ?_
    | with_reducible apply Keeps.step ?_ State.warmReset_keeps ?_ | split

theorem execLcTransition_keeps {a0 a1 a2} {t : State} : Result.Keeps [.dog, .boot, .host, .comp, .pens, .drover, .talsen, .np, .fab, .qe, .coord, .video, .health, .out] t (execLcTransition a0 a1 a2 t) := by
  unfold execLcTransition
  try dsimp only
  repeat' first
    | with_reducible apply Keeps.rfl | decide | with_reducible apply Result.keeps_done | with_reducible apply Result.keeps_fault
    | refine Keeps.trans ?_ (State.serve_keeps (fun r u => ?_) (by decide))
    | with_reducible apply Keeps.step ?_ State.quiet_keeps ?_
    | with_reducible apply Keeps.step ?_ lcTransition_keeps ?_ | split

theorem ownerLockTo_keeps {a0 a1 a2} {t : State} : Keeps [.dog] t (ownerLockTo a0 a1 a2 t).state := by
  unfold ownerLockTo
  try dsimp only
  repeat' first
    | with_reducible apply Keeps.rfl | decide | with_reducible apply Keeps.reply | with_reducible apply Keeps.refuses
    | with_reducible apply Keeps.waits | ((with_reducible intro h); with_reducible exact Sheepdog.lockTo_sound h.dog)
    | ((with_reducible intro h); apply h.dog) | ((with_reducible intro h); exact ⟨h.dog.1, (by decide)⟩) | ((with_reducible intro h); exact ⟨h.dog.1, Nat.zero_le _⟩)
    | with_reducible apply Keeps.step ?_ (State.modDog_keeps ?_) ?_
    | with_reducible apply Keeps.step ?_ State.sampleStrap_keeps ?_ | split

theorem execOwnerLock_keeps {a0 a1 a2} {t : State} : Result.Keeps [.dog, .host, .health, .out] t (execOwnerLock a0 a1 a2 t) := by
  unfold execOwnerLock
  try dsimp only
  repeat' first
    | with_reducible apply Keeps.rfl | decide | with_reducible apply Result.keeps_done | with_reducible apply Result.keeps_fault
    | refine Keeps.trans ?_ (State.serve_keeps (fun r u => ?_) (by decide))
    | with_reducible apply Keeps.step ?_ State.quiet_keeps ?_
    | with_reducible apply Keeps.step ?_ ownerLockTo_keeps ?_ | split

theorem execOwnerUnlock_keeps {a0 a1 a2} {t : State} : Result.Keeps [.dog, .host, .health, .out] t (execOwnerUnlock a0 a1 a2 t) := by
  unfold execOwnerUnlock
  try dsimp only
  repeat' first
    | with_reducible apply Keeps.rfl | decide | with_reducible apply Result.keeps_done | with_reducible apply Result.keeps_fault
    | refine Keeps.trans ?_ (State.serve_keeps (fun r u => ?_) (by decide))
    | with_reducible apply Keeps.step ?_ State.quiet_keeps ?_
    | with_reducible apply Keeps.step ?_ ownerLockTo_keeps ?_ | split

theorem debugUnlock_keeps {a0 a1} {t : State} : Keeps [.dog] t (debugUnlock a0 a1 t).state := by
  unfold debugUnlock
  try dsimp only
  repeat' first
    | with_reducible apply Keeps.rfl | decide | with_reducible apply Keeps.reply | with_reducible apply Keeps.refuses
    | with_reducible apply Keeps.waits | ((with_reducible intro h); with_reducible exact Sheepdog.unlocked_sound h.dog (by simp_all))
    | ((with_reducible intro h); with_reducible exact Sheepdog.unlockedClosed_sound h.dog (by simp_all <;> omega)) | ((with_reducible intro h); apply h.dog)
    | ((with_reducible intro h); exact ⟨h.dog.1, (by decide)⟩) | ((with_reducible intro h); exact ⟨h.dog.1, Nat.zero_le _⟩)
    | with_reducible apply Keeps.step ?_ (State.modDog_keeps ?_) ?_
    | with_reducible apply Keeps.step ?_ State.sampleStrap_keeps ?_ | split

theorem execDebugUnlock_keeps {a0 a1 a2} {t : State} : Result.Keeps [.dog, .host, .health, .out] t (execDebugUnlock a0 a1 a2 t) := by
  unfold execDebugUnlock
  try dsimp only
  repeat' first
    | with_reducible apply Keeps.rfl | decide | with_reducible apply Result.keeps_done | with_reducible apply Result.keeps_fault
    | refine Keeps.trans ?_ (State.serve_keeps (fun r u => ?_) (by decide))
    | with_reducible apply Keeps.step ?_ State.quiet_keeps ?_
    | with_reducible apply Keeps.step ?_ debugUnlock_keeps ?_ | split

theorem State.readHidden_keeps {a1} {t : State} : Keeps [.comp, .free] t (State.readHidden t a1).2 := by
  unfold State.readHidden
  try dsimp only
  repeat' first
    | with_reducible apply Keeps.rfl | decide | with_reducible apply Keeps.step ?_ State.draw_keeps ?_
    | with_reducible apply Keeps.step ?_ State.modFold_keeps ?_ | split

theorem State.readWords_keeps {a1 a2} {t : State} : Keeps [.host, .comp, .free] t (State.readWords t a1 a2).2 := by
  induction a2 generalizing t a1 with
  | zero => exact Keeps.rfl
  | succ n ih =>
    simp only [State.readWords]
    refine Keeps.trans ?_ ih
    split
    · exact State.readPublished_keeps.mono (by decide)
    · exact State.readHidden_keeps.mono (by decide)

theorem debugRegRead_keeps {a0} {t : State} : Keeps [.host, .comp, .free] t (debugRegRead a0 t).state := by
  unfold debugRegRead
  try dsimp only
  repeat' first
    | with_reducible apply Keeps.rfl | decide | with_reducible apply Keeps.reply | with_reducible apply Keeps.refuses
    | with_reducible apply Keeps.waits | with_reducible apply Keeps.step ?_ State.readWords_keeps ?_ | split

theorem State.writePublished_keeps {a1 a2} {t : State} : Keeps [.comp, .np] t (State.writePublished t a1 a2) := by
  unfold State.writePublished
  try dsimp only
  repeat' first
    | with_reducible apply Keeps.rfl | decide | ((with_reducible intro h); apply h.np) | ((with_reducible intro h); exact NearMem.trained_sound h.np)
    | with_reducible apply Keeps.step ?_ State.modFold_keeps ?_
    | with_reducible apply Keeps.step ?_ (State.modNp_keeps ?_) ?_
    | with_reducible apply Keeps.step ?_ State.modStack_keeps ?_ | split
    | ((with_reducible intro h); exact by simpa [NearMem.Sound] using h.np)

theorem debugRegWrite_keeps {a0} {t : State} : Keeps [.comp, .np] t (debugRegWrite a0 t).state := by
  unfold debugRegWrite
  try dsimp only
  repeat' first
    | with_reducible apply Keeps.rfl | decide | with_reducible apply Keeps.reply | with_reducible apply Keeps.refuses
    | with_reducible apply Keeps.waits | with_reducible apply Keeps.step ?_ State.writePublished_keeps ?_ | split

theorem execDebugRegRead_keeps {a0 a1} {t : State} : Result.Keeps [.host, .comp, .health, .out, .free] t (execDebugRegRead a0 a1 t) := by
  unfold execDebugRegRead
  try dsimp only
  repeat' first
    | with_reducible apply Keeps.rfl | decide | with_reducible apply Result.keeps_done | with_reducible apply Result.keeps_fault
    | refine Keeps.trans ?_ (State.serve_keeps (fun r u => ?_) (by decide))
    | with_reducible apply Keeps.step ?_ State.quiet_keeps ?_
    | with_reducible apply Keeps.step ?_ debugRegRead_keeps ?_ | split

theorem execDebugRegWrite_keeps {a0 a1} {t : State} : Result.Keeps [.host, .comp, .np, .health, .out] t (execDebugRegWrite a0 a1 t) := by
  unfold execDebugRegWrite
  try dsimp only
  repeat' first
    | with_reducible apply Keeps.rfl | decide | with_reducible apply Result.keeps_done | with_reducible apply Result.keeps_fault
    | refine Keeps.trans ?_ (State.serve_keeps (fun r u => ?_) (by decide))
    | with_reducible apply Keeps.step ?_ State.quiet_keeps ?_
    | with_reducible apply Keeps.step ?_ debugRegWrite_keeps ?_ | split

/-! ## Machine/EszerPen.lean -/

theorem devIdentify_keeps {a0} {t : State} : Keeps [] t (devIdentify a0 t).state := by
  unfold devIdentify
  try dsimp only
  repeat' first
    | with_reducible apply Keeps.rfl | decide | with_reducible apply Keeps.reply | with_reducible apply Keeps.refuses
    | with_reducible apply Keeps.waits | split

theorem devStatus_keeps {a0} {t : State} : Keeps [] t (devStatus a0 t).state := by
  unfold devStatus withPen
  try dsimp only
  repeat' first
    | with_reducible apply Keeps.rfl | decide | with_reducible apply Keeps.reply | with_reducible apply Keeps.refuses
    | with_reducible apply Keeps.waits | split

theorem devCaps_keeps {a0} {t : State} : Keeps [] t (devCaps a0 t).state := by
  unfold devCaps
  try dsimp only
  repeat' first
    | with_reducible apply Keeps.rfl | decide | with_reducible apply Keeps.reply | with_reducible apply Keeps.refuses
    | with_reducible apply Keeps.waits | split

theorem execDevIdentify_keeps {a0 a1} {t : State} : Result.Keeps [.host, .health, .out] t (execDevIdentify a0 a1 t) := by
  unfold execDevIdentify
  try dsimp only
  repeat' first
    | with_reducible apply Keeps.rfl | decide | with_reducible apply Result.keeps_done | with_reducible apply Result.keeps_fault
    | refine Keeps.trans ?_ (State.serve_keeps (fun r u => ?_) (by decide))
    | with_reducible apply Keeps.step ?_ State.quiet_keeps ?_
    | with_reducible apply Keeps.step ?_ devIdentify_keeps ?_ | split

theorem execDevStatus_keeps {a0 a1} {t : State} : Result.Keeps [.host, .health, .out] t (execDevStatus a0 a1 t) := by
  unfold execDevStatus
  try dsimp only
  repeat' first
    | with_reducible apply Keeps.rfl | decide | with_reducible apply Result.keeps_done | with_reducible apply Result.keeps_fault
    | refine Keeps.trans ?_ (State.serve_keeps (fun r u => ?_) (by decide))
    | with_reducible apply Keeps.step ?_ State.quiet_keeps ?_ | with_reducible apply Keeps.step ?_ devStatus_keeps ?_
    | split

theorem execDevCaps_keeps {a0 a1} {t : State} : Result.Keeps [.host, .health, .out] t (execDevCaps a0 a1 t) := by
  unfold execDevCaps
  try dsimp only
  repeat' first
    | with_reducible apply Keeps.rfl | decide | with_reducible apply Result.keeps_done | with_reducible apply Result.keeps_fault
    | refine Keeps.trans ?_ (State.serve_keeps (fun r u => ?_) (by decide))
    | with_reducible apply Keeps.step ?_ State.quiet_keeps ?_ | with_reducible apply Keeps.step ?_ devCaps_keeps ?_
    | split

theorem penCreate_keeps {a0} {t : State} : Keeps [.pens] t (penCreate a0 t).state := by
  unfold penCreate withPen
  try dsimp only
  repeat' first
    | with_reducible apply Keeps.rfl | decide | with_reducible apply Keeps.reply | with_reducible apply Keeps.refuses
    | with_reducible apply Keeps.waits | ((with_reducible intro _ k); exact k) | ((with_reducible intro _ _); exact (by rfl))
    | ((with_reducible intro _ k); exact (by split <;> exact k)) | ((with_reducible intro _ k); exact Pen.adopt_sound k)
    | with_reducible apply Keeps.step ?_ (State.modPen_keeps ?_) ?_ | split

theorem State.destroyPen_keeps {a1} {t : State} : Keeps [.comp, .pens, .drover, .qe, .video] t (State.destroyPen t a1) := by
  unfold State.destroyPen
  try dsimp only
  repeat' first
    | with_reducible apply Keeps.rfl | decide | ((with_reducible intro _ k); exact k) | ((with_reducible intro _ _); exact (by rfl))
    | ((with_reducible intro _ k); exact (by split <;> exact k)) | ((with_reducible intro _ k); exact Pen.adopt_sound k)
    | with_reducible apply Keeps.step ?_ State.abandonEncodes_keeps ?_
    | with_reducible apply Keeps.step ?_ State.dropRops_keeps ?_
    | with_reducible apply Keeps.step ?_ State.droverAbort_keeps ?_
    | with_reducible apply Keeps.step ?_ State.freePenQueues_keeps ?_
    | with_reducible apply Keeps.step ?_ (State.modPen_keeps ?_) ?_
    | with_reducible apply Keeps.step ?_ State.removeOp_keeps ?_
    | with_reducible apply State.forAll_keeps ?_ (fun u x => ?_) | split

theorem penDestroy_keeps {a0} {t : State} : Keeps [.comp, .pens, .drover, .qe, .video] t (penDestroy a0 t).state := by
  unfold penDestroy withPen
  try dsimp only
  repeat' first
    | with_reducible apply Keeps.rfl | decide | with_reducible apply Keeps.reply | with_reducible apply Keeps.refuses
    | with_reducible apply Keeps.waits | with_reducible apply Keeps.step ?_ State.destroyPen_keeps ?_ | split

theorem penSetQuota_keeps {a0} {t : State} : Keeps [.host, .comp, .pens, .drover, .np, .fab, .qe, .health, .out, .free] t (penSetQuota a0 t).state := by
  unfold penSetQuota withLivePen withPen
  try dsimp only
  repeat' first
    | with_reducible apply Keeps.rfl | decide | with_reducible apply Keeps.reply | with_reducible apply Keeps.refuses
    | with_reducible apply Keeps.waits | ((with_reducible intro _ k); exact k) | ((with_reducible intro _ _); exact (by rfl))
    | ((with_reducible intro _ k); exact (by split <;> exact k)) | ((with_reducible intro _ k); exact Pen.adopt_sound k)
    | with_reducible apply Keeps.step ?_ (State.modPen_keeps ?_) ?_
    | with_reducible apply Keeps.step ?_ State.retryAllocs_keeps ?_ | split

theorem penSetPriority_keeps {a0} {t : State} : Keeps [.pens] t (penSetPriority a0 t).state := by
  unfold penSetPriority withPen
  try dsimp only
  repeat' first
    | with_reducible apply Keeps.rfl | decide | with_reducible apply Keeps.reply | with_reducible apply Keeps.refuses
    | with_reducible apply Keeps.waits | ((with_reducible intro _ k); exact k) | ((with_reducible intro _ _); exact (by rfl))
    | ((with_reducible intro _ k); exact (by split <;> exact k)) | ((with_reducible intro _ k); exact Pen.adopt_sound k)
    | with_reducible apply Keeps.step ?_ (State.modPen_keeps ?_) ?_ | split

theorem penBindVf_keeps {a0} {t : State} : Keeps [.pens] t (penBindVf a0 t).state := by
  unfold penBindVf withPen
  try dsimp only
  repeat' first
    | with_reducible apply Keeps.rfl | decide | with_reducible apply Keeps.reply | with_reducible apply Keeps.refuses
    | with_reducible apply Keeps.waits | ((with_reducible intro _ k); exact k) | ((with_reducible intro _ _); exact (by rfl))
    | ((with_reducible intro _ k); exact (by split <;> exact k)) | ((with_reducible intro _ k); exact Pen.adopt_sound k)
    | with_reducible apply Keeps.step ?_ (State.modPen_keeps ?_) ?_ | split

theorem execPenCreate_keeps {a0 a1} {t : State} : Result.Keeps [.host, .pens, .health, .out] t (execPenCreate a0 a1 t) := by
  unfold execPenCreate
  try dsimp only
  repeat' first
    | with_reducible apply Keeps.rfl | decide | with_reducible apply Result.keeps_done | with_reducible apply Result.keeps_fault
    | refine Keeps.trans ?_ (State.serve_keeps (fun r u => ?_) (by decide))
    | with_reducible apply Keeps.step ?_ State.quiet_keeps ?_ | with_reducible apply Keeps.step ?_ penCreate_keeps ?_
    | split

theorem execPenDestroy_keeps {a0 a1} {t : State} : Result.Keeps [.host, .comp, .pens, .drover, .qe, .video, .health, .out] t (execPenDestroy a0 a1 t) := by
  unfold execPenDestroy
  try dsimp only
  repeat' first
    | with_reducible apply Keeps.rfl | decide | with_reducible apply Result.keeps_done | with_reducible apply Result.keeps_fault
    | refine Keeps.trans ?_ (State.serve_keeps (fun r u => ?_) (by decide))
    | with_reducible apply Keeps.step ?_ State.quiet_keeps ?_ | with_reducible apply Keeps.step ?_ penDestroy_keeps ?_
    | split

theorem execPenSetQuota_keeps {a0 a1} {t : State} : Result.Keeps [.host, .comp, .pens, .drover, .np, .fab, .qe, .health, .out, .free] t (execPenSetQuota a0 a1 t) := by
  unfold execPenSetQuota
  try dsimp only
  repeat' first
    | with_reducible apply Keeps.rfl | decide | with_reducible apply Result.keeps_done | with_reducible apply Result.keeps_fault
    | refine Keeps.trans ?_ (State.serve_keeps (fun r u => ?_) (by decide))
    | with_reducible apply Keeps.step ?_ State.quiet_keeps ?_
    | with_reducible apply Keeps.step ?_ penSetQuota_keeps ?_ | split

theorem execPenSetPriority_keeps {a0 a1} {t : State} : Result.Keeps [.host, .pens, .health, .out] t (execPenSetPriority a0 a1 t) := by
  unfold execPenSetPriority
  try dsimp only
  repeat' first
    | with_reducible apply Keeps.rfl | decide | with_reducible apply Result.keeps_done | with_reducible apply Result.keeps_fault
    | refine Keeps.trans ?_ (State.serve_keeps (fun r u => ?_) (by decide))
    | with_reducible apply Keeps.step ?_ State.quiet_keeps ?_
    | with_reducible apply Keeps.step ?_ penSetPriority_keeps ?_ | split

theorem execPenBindVf_keeps {a0 a1} {t : State} : Result.Keeps [.host, .pens, .health, .out] t (execPenBindVf a0 a1 t) := by
  unfold execPenBindVf
  try dsimp only
  repeat' first
    | with_reducible apply Keeps.rfl | decide | with_reducible apply Result.keeps_done | with_reducible apply Result.keeps_fault
    | refine Keeps.trans ?_ (State.serve_keeps (fun r u => ?_) (by decide))
    | with_reducible apply Keeps.step ?_ State.quiet_keeps ?_ | with_reducible apply Keeps.step ?_ penBindVf_keeps ?_
    | split

theorem State.addTensor_keeps {a1 a2 a3} {t : State} : Keeps [.pens] t (State.addTensor t a1 a2 a3) := by
  unfold State.addTensor
  try dsimp only
  repeat' first
    | with_reducible apply Keeps.rfl | decide | ((with_reducible intro _ k); exact k) | ((with_reducible intro _ _); exact (by rfl))
    | ((with_reducible intro _ k); exact (by split <;> exact k)) | ((with_reducible intro _ k); exact Pen.adopt_sound k)
    | with_reducible apply Keeps.step ?_ (State.modPen_keeps ?_) ?_ | split

theorem State.registerTensor_keeps {a1 a2} {t : State} : Keeps [.host, .comp, .pens, .drover, .np, .health, .out, .free] t (State.registerTensor t a1 a2).state := by
  unfold State.registerTensor
  extract_lets e flags sh t0 source encode
  clear_value e flags sh t0 source encode
  split
  · exact Keeps.refuses Keeps.rfl
  split
  · exact Keeps.refuses Keeps.rfl
  rename_i _ _ u _ _ _ _
  have h : Keeps [.host, .comp, .pens, .drover, .np, .health, .out, .free] t u := State.addTensor_keeps.mono (by decide)
  clear_value u
  split
  · exact Keeps.refuses Keeps.rfl
  split
  · split
    · exact Keeps.reply ((h.trans State.allocate_keeps).step State.becomeNear_keeps (by decide))
    · exact Keeps.refuses Keeps.rfl
  · exact Keeps.reply h

theorem State.registerView_keeps {a1 a2} {t : State} : Keeps [.pens] t (State.registerView t a1 a2).state := by
  unfold State.registerView
  try dsimp only
  repeat' first
    | with_reducible apply Keeps.rfl | decide | with_reducible apply Keeps.reply | with_reducible apply Keeps.refuses
    | with_reducible apply Keeps.waits | ((with_reducible intro _ k); exact k) | ((with_reducible intro _ _); exact (by rfl))
    | ((with_reducible intro _ k); exact (by split <;> exact k)) | ((with_reducible intro _ k); exact Pen.adopt_sound k)
    | with_reducible apply Keeps.step ?_ (State.modPen_keeps ?_) ?_ | split

theorem State.registerRecipe_keeps {a1 a2} {t : State} : Keeps [.pens] t (State.registerRecipe t a1 a2).state := by
  unfold State.registerRecipe
  try dsimp only
  repeat' first
    | with_reducible apply Keeps.rfl | decide | with_reducible apply Keeps.reply | with_reducible apply Keeps.refuses
    | with_reducible apply Keeps.waits | ((with_reducible intro _ k); exact k) | ((with_reducible intro _ _); exact (by rfl))
    | ((with_reducible intro _ k); exact (by split <;> exact k)) | ((with_reducible intro _ k); exact Pen.adopt_sound k)
    | with_reducible apply Keeps.step ?_ (State.modPen_keeps ?_) ?_
    | with_reducible apply Keeps.step ?_ State.modTensor_keeps ?_ | split

theorem tensorRegister_keeps {a0} {t : State} : Keeps [.host, .comp, .pens, .drover, .np, .health, .out, .free] t (tensorRegister a0 t).state := by
  unfold tensorRegister withLivePen withPen
  try dsimp only
  repeat' first
    | with_reducible apply Keeps.rfl | decide | with_reducible apply Keeps.reply | with_reducible apply Keeps.refuses
    | with_reducible apply Keeps.waits | with_reducible apply Keeps.step ?_ State.registerRecipe_keeps ?_
    | with_reducible apply Keeps.step ?_ State.registerTensor_keeps ?_
    | with_reducible apply Keeps.step ?_ State.registerView_keeps ?_ | split

theorem execTensorRegister_keeps {a0 a1} {t : State} : Result.Keeps [.host, .comp, .pens, .drover, .np, .health, .out, .free] t (execTensorRegister a0 a1 t) := by
  unfold execTensorRegister
  try dsimp only
  repeat' first
    | with_reducible apply Keeps.rfl | decide | with_reducible apply Result.keeps_done | with_reducible apply Result.keeps_fault
    | refine Keeps.trans ?_ (State.serve_keeps (fun r u => ?_) (by decide))
    | with_reducible apply Keeps.step ?_ State.quiet_keeps ?_
    | with_reducible apply Keeps.step ?_ tensorRegister_keeps ?_ | split

theorem State.cancelMoves_keeps {a1 a2} {t : State} : Keeps [.comp, .pens, .drover] t (State.cancelMoves t a1 a2) := by
  unfold State.cancelMoves
  try dsimp only
  repeat' first
    | with_reducible apply Keeps.rfl | decide | ((with_reducible intro _ k); exact k) | ((with_reducible intro _ _); exact (by rfl))
    | ((with_reducible intro _ k); exact (by split <;> exact k)) | ((with_reducible intro _ k); exact Pen.adopt_sound k)
    | with_reducible apply Keeps.step ?_ State.abandonRun_keeps ?_
    | with_reducible apply Keeps.step ?_ State.endFetch_keeps ?_
    | with_reducible apply Keeps.step ?_ (State.modPen_keeps ?_) ?_
    | with_reducible apply Keeps.step ?_ State.modTensor_keeps ?_ | split

theorem tensorRelease_keeps {a0} {t : State} : Keeps [.host, .comp, .pens, .drover, .np, .fab, .qe, .health, .out, .free] t (tensorRelease a0 t).state := by
  unfold tensorRelease withLivePen withPen
  try dsimp only
  repeat' first
    | with_reducible apply Keeps.rfl | decide | with_reducible apply Keeps.reply | with_reducible apply Keeps.refuses
    | with_reducible apply Keeps.waits | with_reducible apply Keeps.step ?_ State.cancelMoves_keeps ?_
    | with_reducible apply Keeps.step ?_ State.retryAllocs_keeps ?_
    | with_reducible apply Keeps.step ?_ State.sweepReleased_keeps ?_ | split

theorem execTensorRelease_keeps {a0 a1} {t : State} : Result.Keeps [.host, .comp, .pens, .drover, .np, .fab, .qe, .health, .out, .free] t (execTensorRelease a0 a1 t) := by
  unfold execTensorRelease
  try dsimp only
  repeat' first
    | with_reducible apply Keeps.rfl | decide | with_reducible apply Result.keeps_done | with_reducible apply Result.keeps_fault
    | refine Keeps.trans ?_ (State.serve_keeps (fun r u => ?_) (by decide))
    | with_reducible apply Keeps.step ?_ State.quiet_keeps ?_
    | with_reducible apply Keeps.step ?_ tensorRelease_keeps ?_ | split

theorem poolQuery_keeps {a0} {t : State} : Keeps [] t (poolQuery a0 t).state := by
  unfold poolQuery withPen
  try dsimp only
  repeat' first
    | with_reducible apply Keeps.rfl | decide | with_reducible apply Keeps.reply | with_reducible apply Keeps.refuses
    | with_reducible apply Keeps.waits | split

theorem execPoolQuery_keeps {a0 a1} {t : State} : Result.Keeps [.host, .health, .out] t (execPoolQuery a0 a1 t) := by
  unfold execPoolQuery
  try dsimp only
  repeat' first
    | with_reducible apply Keeps.rfl | decide | with_reducible apply Result.keeps_done | with_reducible apply Result.keeps_fault
    | refine Keeps.trans ?_ (State.serve_keeps (fun r u => ?_) (by decide))
    | with_reducible apply Keeps.step ?_ State.quiet_keeps ?_ | with_reducible apply Keeps.step ?_ poolQuery_keeps ?_
    | split

/-! ## Machine/EszerJob.lean -/

theorem jobSubmit_keeps {a0} {t : State} : Keeps [.pens, .fab, .health] t (jobSubmit a0 t).state := by
  unfold jobSubmit
  try dsimp only
  repeat' first
    | with_reducible apply Keeps.rfl | decide | with_reducible apply Keeps.reply | with_reducible apply Keeps.refuses
    | with_reducible apply Keeps.waits | ((with_reducible intro _ k); exact k) | ((with_reducible intro _ _); exact (by rfl))
    | ((with_reducible intro _ k); exact (by split <;> exact k)) | ((with_reducible intro _ k); exact Pen.adopt_sound k)
    | with_reducible apply Keeps.step ?_ State.join_keeps ?_
    | with_reducible apply Keeps.step ?_ (State.modPen_keeps ?_) ?_ | split

theorem execJobSubmit_keeps {a0 a1} {t : State} : Result.Keeps [.host, .pens, .fab, .health, .out] t (execJobSubmit a0 a1 t) := by
  unfold execJobSubmit
  try dsimp only
  repeat' first
    | with_reducible apply Keeps.rfl | decide | with_reducible apply Result.keeps_done | with_reducible apply Result.keeps_fault
    | refine Keeps.trans ?_ (State.serve_keeps (fun r u => ?_) (by decide))
    | with_reducible apply Keeps.step ?_ State.quiet_keeps ?_ | with_reducible apply Keeps.step ?_ jobSubmit_keeps ?_
    | split

theorem jobQuiesce_keeps {a0} {t : State} : Keeps [.comp, .pens, .health] t (jobQuiesce a0 t).state := by
  unfold jobQuiesce withPen
  try dsimp only
  repeat' first
    | with_reducible apply Keeps.rfl | decide | with_reducible apply Keeps.reply | with_reducible apply Keeps.refuses
    | with_reducible apply Keeps.waits | ((with_reducible intro _ k); exact k) | ((with_reducible intro _ _); exact (by rfl))
    | ((with_reducible intro _ k); exact (by split <;> exact k)) | ((with_reducible intro _ k); exact Pen.adopt_sound k)
    | with_reducible apply Keeps.step ?_ State.drainPen_keeps ?_
    | with_reducible apply Keeps.step ?_ (State.modPen_keeps ?_) ?_ | split

theorem jobResume_keeps {a0} {t : State} : Keeps [.host, .comp, .pens, .drover, .np, .fab, .qe, .health, .out, .free] t (jobResume a0 t).state := by
  unfold jobResume withPen
  try dsimp only
  repeat' first
    | with_reducible apply Keeps.rfl | decide | with_reducible apply Keeps.reply | with_reducible apply Keeps.refuses
    | with_reducible apply Keeps.waits | ((with_reducible intro _ k); exact k) | ((with_reducible intro _ _); exact (by rfl))
    | ((with_reducible intro _ k); exact (by split <;> exact k)) | ((with_reducible intro _ k); exact Pen.adopt_sound k)
    | with_reducible apply Keeps.step ?_ (State.modPen_keeps ?_) ?_
    | with_reducible apply Keeps.step ?_ State.prepare_keeps ?_ | split

theorem jobAbort_keeps {a0} {t : State} : Keeps [.host, .comp, .pens, .drover, .np, .fab, .qe, .video, .health, .out, .free] t (jobAbort a0 t).state := by
  unfold jobAbort withPen
  try dsimp only
  repeat' first
    | with_reducible apply Keeps.rfl | decide | with_reducible apply Keeps.reply | with_reducible apply Keeps.refuses
    | with_reducible apply Keeps.waits | with_reducible apply Keeps.step ?_ State.hostAbort_keeps ?_
    | with_reducible apply Keeps.step ?_ State.retryAllocs_keeps ?_ | split

theorem execJobQuiesce_keeps {a0 a1} {t : State} : Result.Keeps [.host, .comp, .pens, .health, .out] t (execJobQuiesce a0 a1 t) := by
  unfold execJobQuiesce
  try dsimp only
  repeat' first
    | with_reducible apply Keeps.rfl | decide | with_reducible apply Result.keeps_done | with_reducible apply Result.keeps_fault
    | refine Keeps.trans ?_ (State.serve_keeps (fun r u => ?_) (by decide))
    | with_reducible apply Keeps.step ?_ State.quiet_keeps ?_ | with_reducible apply Keeps.step ?_ jobQuiesce_keeps ?_
    | split

theorem execJobResume_keeps {a0 a1} {t : State} : Result.Keeps [.host, .comp, .pens, .drover, .np, .fab, .qe, .health, .out, .free] t (execJobResume a0 a1 t) := by
  unfold execJobResume
  try dsimp only
  repeat' first
    | with_reducible apply Keeps.rfl | decide | with_reducible apply Result.keeps_done | with_reducible apply Result.keeps_fault
    | refine Keeps.trans ?_ (State.serve_keeps (fun r u => ?_) (by decide))
    | with_reducible apply Keeps.step ?_ State.quiet_keeps ?_ | with_reducible apply Keeps.step ?_ jobResume_keeps ?_
    | split

theorem execJobAbort_keeps {a0 a1} {t : State} : Result.Keeps [.host, .comp, .pens, .drover, .np, .fab, .qe, .video, .health, .out, .free] t (execJobAbort a0 a1 t) := by
  unfold execJobAbort
  try dsimp only
  repeat' first
    | with_reducible apply Keeps.rfl | decide | with_reducible apply Result.keeps_done | with_reducible apply Result.keeps_fault
    | refine Keeps.trans ?_ (State.serve_keeps (fun r u => ?_) (by decide))
    | with_reducible apply Keeps.step ?_ State.quiet_keeps ?_ | with_reducible apply Keeps.step ?_ jobAbort_keeps ?_
    | split

theorem State.bringNear_keeps {a1 a2} {t : State} : Keeps [.host, .comp, .pens, .drover, .np, .fab, .qe, .health, .out, .free] t (State.bringNear t a1 a2) := by
  unfold State.bringNear
  try dsimp only
  repeat' first
    | with_reducible apply Keeps.rfl | decide | with_reducible apply Keeps.step ?_ State.modTensor_keeps ?_
    | with_reducible apply Keeps.step ?_ State.takePath_keeps ?_ | split

theorem State.flushPen_keeps {a1} {t : State} : Keeps [.host, .np, .health, .out] t (State.flushPen t a1) := by
  unfold State.flushPen
  try dsimp only
  repeat' first
    | with_reducible apply Keeps.rfl | decide | with_reducible apply Keeps.step ?_ State.npFlush_keeps ?_
    | with_reducible apply State.forAll_keeps ?_ (fun u x => ?_) | split

theorem checkpointDrain_keeps {a0} {t : State} : Keeps [.host, .comp, .pens, .drover, .np, .fab, .qe, .health, .out, .free] t (checkpointDrain a0 t).state := by
  unfold checkpointDrain withPen
  try dsimp only
  repeat' first
    | with_reducible apply Keeps.rfl | decide | with_reducible apply Keeps.reply | with_reducible apply Keeps.refuses
    | with_reducible apply Keeps.waits | ((with_reducible intro _ k); exact k) | ((with_reducible intro _ _); exact (by rfl))
    | ((with_reducible intro _ k); exact (by split <;> exact k)) | ((with_reducible intro _ k); exact Pen.adopt_sound k)
    | with_reducible apply Keeps.step ?_ State.bringNear_keeps ?_
    | with_reducible apply Keeps.step ?_ State.flushPen_keeps ?_
    | with_reducible apply Keeps.step ?_ State.holdNear_keeps ?_
    | with_reducible apply Keeps.step ?_ (State.modPen_keeps ?_) ?_
    | with_reducible apply Keeps.step ?_ State.setAllocWait_keeps ?_
    | with_reducible apply State.forAll_keeps ?_ (fun u x => ?_) | split

theorem execCheckpointDrain_keeps {a0 a1} {t : State} : Result.Keeps [.host, .comp, .pens, .drover, .np, .fab, .qe, .health, .out, .free] t (execCheckpointDrain a0 a1 t) := by
  unfold execCheckpointDrain
  try dsimp only
  repeat' first
    | with_reducible apply Keeps.rfl | decide | with_reducible apply Result.keeps_done | with_reducible apply Result.keeps_fault
    | refine Keeps.trans ?_ (State.serve_keeps (fun r u => ?_) (by decide))
    | with_reducible apply Keeps.step ?_ State.quiet_keeps ?_
    | with_reducible apply Keeps.step ?_ checkpointDrain_keeps ?_ | split

theorem queueCreate_keeps {a0} {t : State} : Keeps [.qe] t (queueCreate a0 t).state := by
  unfold queueCreate withLivePen withPen
  try dsimp only
  repeat' first
    | with_reducible apply Keeps.rfl | decide | with_reducible apply Keeps.reply | with_reducible apply Keeps.refuses
    | with_reducible apply Keeps.waits | with_reducible apply Keeps.step ?_ State.modQe_keeps ?_ | split

theorem queueDestroy_keeps {a0} {t : State} : Keeps [.qe, .video] t (queueDestroy a0 t).state := by
  unfold queueDestroy withLivePen withPen
  try dsimp only
  repeat' first
    | with_reducible apply Keeps.rfl | decide | with_reducible apply Keeps.reply | with_reducible apply Keeps.refuses
    | with_reducible apply Keeps.waits | with_reducible apply Keeps.step ?_ State.closeStreamsOf_keeps ?_
    | with_reducible apply Keeps.step ?_ State.makeAllReady_keeps ?_
    | with_reducible apply Keeps.step ?_ State.modQueue_keeps ?_
    | with_reducible apply Keeps.step ?_ State.sweepQueues_keeps ?_ | split

theorem execQueueCreate_keeps {a0 a1} {t : State} : Result.Keeps [.host, .qe, .health, .out] t (execQueueCreate a0 a1 t) := by
  unfold execQueueCreate
  try dsimp only
  repeat' first
    | with_reducible apply Keeps.rfl | decide | with_reducible apply Result.keeps_done | with_reducible apply Result.keeps_fault
    | refine Keeps.trans ?_ (State.serve_keeps (fun r u => ?_) (by decide))
    | with_reducible apply Keeps.step ?_ State.quiet_keeps ?_
    | with_reducible apply Keeps.step ?_ queueCreate_keeps ?_ | split

theorem execQueueDestroy_keeps {a0 a1} {t : State} : Result.Keeps [.host, .qe, .video, .health, .out] t (execQueueDestroy a0 a1 t) := by
  unfold execQueueDestroy
  try dsimp only
  repeat' first
    | with_reducible apply Keeps.rfl | decide | with_reducible apply Result.keeps_done | with_reducible apply Result.keeps_fault
    | refine Keeps.trans ?_ (State.serve_keeps (fun r u => ?_) (by decide))
    | with_reducible apply Keeps.step ?_ State.quiet_keeps ?_
    | with_reducible apply Keeps.step ?_ queueDestroy_keeps ?_ | split

theorem videoStreamOpen_keeps {a0} {t : State} : Keeps [.video] t (videoStreamOpen a0 t).state := by
  unfold videoStreamOpen withLivePen withPen
  try dsimp only
  repeat' first
    | with_reducible apply Keeps.rfl | decide | with_reducible apply Keeps.reply | with_reducible apply Keeps.refuses
    | with_reducible apply Keeps.waits | ((with_reducible intro h); apply h.video)
    | with_reducible apply Keeps.step ?_ (State.modVideo_keeps ?_) ?_ | split
    | ((with_reducible intro h); exact by simpa [Video.Sound] using h.video)

theorem videoStreamClose_keeps {a0} {t : State} : Keeps [.video] t (videoStreamClose a0 t).state := by
  unfold videoStreamClose withLivePen withPen
  try dsimp only
  repeat' first
    | with_reducible apply Keeps.rfl | decide | with_reducible apply Keeps.reply | with_reducible apply Keeps.refuses
    | with_reducible apply Keeps.waits | with_reducible apply Keeps.step ?_ State.closeStream_keeps ?_
    | with_reducible apply Keeps.step ?_ State.makeAllReady_keeps ?_ | split

theorem videoPoolSet_keeps {a0} {t : State} : Keeps [.host, .comp, .pens, .drover, .np, .fab, .qe, .health, .out, .free] t (videoPoolSet a0 t).state := by
  unfold videoPoolSet withLivePen withPen
  try dsimp only
  repeat' first
    | with_reducible apply Keeps.rfl | decide | with_reducible apply Keeps.reply | with_reducible apply Keeps.refuses
    | with_reducible apply Keeps.waits | ((with_reducible intro _ k); exact k) | ((with_reducible intro _ _); exact (by rfl))
    | ((with_reducible intro _ k); exact (by split <;> exact k)) | ((with_reducible intro _ k); exact Pen.adopt_sound k)
    | with_reducible apply Keeps.step ?_ (State.modPen_keeps ?_) ?_
    | with_reducible apply Keeps.step ?_ State.retryAllocs_keeps ?_ | split

theorem execVideoStreamOpen_keeps {a0 a1} {t : State} : Result.Keeps [.host, .video, .health, .out] t (execVideoStreamOpen a0 a1 t) := by
  unfold execVideoStreamOpen
  try dsimp only
  repeat' first
    | with_reducible apply Keeps.rfl | decide | with_reducible apply Result.keeps_done | with_reducible apply Result.keeps_fault
    | refine Keeps.trans ?_ (State.serve_keeps (fun r u => ?_) (by decide))
    | with_reducible apply Keeps.step ?_ State.quiet_keeps ?_
    | with_reducible apply Keeps.step ?_ videoStreamOpen_keeps ?_ | split

theorem execVideoStreamClose_keeps {a0 a1} {t : State} : Result.Keeps [.host, .video, .health, .out] t (execVideoStreamClose a0 a1 t) := by
  unfold execVideoStreamClose
  try dsimp only
  repeat' first
    | with_reducible apply Keeps.rfl | decide | with_reducible apply Result.keeps_done | with_reducible apply Result.keeps_fault
    | refine Keeps.trans ?_ (State.serve_keeps (fun r u => ?_) (by decide))
    | with_reducible apply Keeps.step ?_ State.quiet_keeps ?_
    | with_reducible apply Keeps.step ?_ videoStreamClose_keeps ?_ | split

theorem execVideoPoolSet_keeps {a0 a1} {t : State} : Result.Keeps [.host, .comp, .pens, .drover, .np, .fab, .qe, .health, .out, .free] t (execVideoPoolSet a0 a1 t) := by
  unfold execVideoPoolSet
  try dsimp only
  repeat' first
    | with_reducible apply Keeps.rfl | decide | with_reducible apply Result.keeps_done | with_reducible apply Result.keeps_fault
    | refine Keeps.trans ?_ (State.serve_keeps (fun r u => ?_) (by decide))
    | with_reducible apply Keeps.step ?_ State.quiet_keeps ?_
    | with_reducible apply Keeps.step ?_ videoPoolSet_keeps ?_ | split

/-! ## Machine/EszerFabric.lean -/

@[simp] theorem TimeUnit.refer_role (t : TimeUnit) (n : Nat) : (t.refer n).role = t.role := by
  unfold TimeUnit.refer
  dsimp only
  split <;> rfl

theorem TimeUnit.refer_sound {t : TimeUnit} {n : Nat} (h : t.Sound) : (t.refer n).Sound := by
  unfold TimeUnit.Sound
  rw [TimeUnit.refer_role]
  exact h

theorem baseRelease_keeps {a0} {t : State} : Keeps [.host, .comp, .pens, .drover, .np, .fab, .qe, .health, .out, .free] t (baseRelease a0 t).state := by
  unfold baseRelease
  try dsimp only
  repeat' first
    | with_reducible apply Keeps.rfl | decide | with_reducible apply Keeps.reply | with_reducible apply Keeps.refuses
    | with_reducible apply Keeps.waits | with_reducible apply Keeps.step ?_ State.freeBasePages_keeps ?_
    | with_reducible apply Keeps.step ?_ State.modDrover_keeps ?_
    | with_reducible apply Keeps.step ?_ State.retryAllocs_keeps ?_ | split

theorem baseRegister_keeps {a0} {t : State} : Keeps [.host, .comp, .pens, .drover, .np, .fab, .qe, .health, .out, .free] t (baseRegister a0 t).state := by
  unfold baseRegister withPen
  try dsimp only
  repeat' first
    | with_reducible apply Keeps.rfl | decide | with_reducible apply Keeps.reply | with_reducible apply Keeps.refuses
    | with_reducible apply Keeps.waits | with_reducible apply Keeps.step ?_ State.takePath_keeps ?_
    | with_reducible apply Keeps.step ?_ State.tryBase_keeps ?_
    | with_reducible apply Keeps.step ?_ baseRelease_keeps ?_ | split

theorem execBaseRegister_keeps {a0 a1} {t : State} : Result.Keeps [.host, .comp, .pens, .drover, .np, .fab, .qe, .health, .out, .free] t (execBaseRegister a0 a1 t) := by
  unfold execBaseRegister
  try dsimp only
  repeat' first
    | with_reducible apply Keeps.rfl | decide | with_reducible apply Result.keeps_done | with_reducible apply Result.keeps_fault
    | refine Keeps.trans ?_ (State.serve_keeps (fun r u => ?_) (by decide))
    | with_reducible apply Keeps.step ?_ State.quiet_keeps ?_
    | with_reducible apply Keeps.step ?_ baseRegister_keeps ?_ | split

theorem State.rewire_keeps {a1} {t : State} : Keeps [.host, .fab, .qe, .health, .out] t (State.rewire t a1) := by
  unfold State.rewire
  try dsimp only
  repeat' first
    | with_reducible apply Keeps.rfl | decide | with_reducible apply Keeps.step ?_ State.modPort_keeps ?_
    | with_reducible apply Keeps.step ?_ State.portDown_keeps ?_ | split

theorem State.setPlaced_keeps {a1} {t : State} : Keeps [.host, .fab, .qe, .health, .out] t (State.setPlaced t a1) := by
  unfold State.setPlaced
  try dsimp only
  repeat' first
    | with_reducible apply Keeps.rfl | decide | ((with_reducible intro h); apply h.fab)
    | with_reducible apply Keeps.step ?_ (State.modFab_keeps ?_) ?_
    | with_reducible apply Keeps.step ?_ State.rewire_keeps ?_
    | with_reducible apply State.forAll_keeps ?_ (fun u x => ?_) | split
    | ((with_reducible intro h); exact by simpa [Fabric.Sound] using h.fab)

theorem fabricTopologySet_keeps {a0} {t : State} : Keeps [.dog, .boot, .host, .fab, .qe, .time, .health, .out] t (fabricTopologySet a0 t).state := by
  unfold fabricTopologySet
  try dsimp only
  repeat' first
    | with_reducible apply Keeps.rfl | decide | with_reducible apply Keeps.reply | with_reducible apply Keeps.refuses
    | with_reducible apply Keeps.waits | ((with_reducible intro h); apply h.fab)
    | with_reducible apply Keeps.step ?_ State.leaveFull_keeps ?_
    | with_reducible apply Keeps.step ?_ (State.modFab_keeps ?_) ?_
    | with_reducible apply Keeps.step ?_ State.nameLeaders_keeps ?_
    | with_reducible apply Keeps.step ?_ State.ownWrite_keeps ?_
    | with_reducible apply Keeps.step ?_ State.setPlaced_keeps ?_ | split
    | ((with_reducible intro h); exact by simpa [Fabric.Sound] using h.fab)

theorem execFabricTopologySet_keeps {a0 a1} {t : State} : Result.Keeps [.dog, .boot, .host, .fab, .qe, .time, .health, .out] t (execFabricTopologySet a0 a1 t) := by
  unfold execFabricTopologySet
  try dsimp only
  repeat' first
    | with_reducible apply Keeps.rfl | decide | with_reducible apply Result.keeps_done | with_reducible apply Result.keeps_fault
    | refine Keeps.trans ?_ (State.serve_keeps (fun r u => ?_) (by decide))
    | with_reducible apply Keeps.step ?_ State.quiet_keeps ?_
    | with_reducible apply Keeps.step ?_ fabricTopologySet_keeps ?_ | split

theorem linkStatus_keeps {a0} {t : State} : Keeps [] t (linkStatus a0 t).state := by
  unfold linkStatus
  try dsimp only
  repeat' first
    | with_reducible apply Keeps.rfl | decide | with_reducible apply Keeps.reply | with_reducible apply Keeps.refuses
    | with_reducible apply Keeps.waits | split

theorem execLinkStatus_keeps {a0 a1} {t : State} : Result.Keeps [.host, .health, .out] t (execLinkStatus a0 a1 t) := by
  unfold execLinkStatus
  try dsimp only
  repeat' first
    | with_reducible apply Keeps.rfl | decide | with_reducible apply Result.keeps_done | with_reducible apply Result.keeps_fault
    | refine Keeps.trans ?_ (State.serve_keeps (fun r u => ?_) (by decide))
    | with_reducible apply Keeps.step ?_ State.quiet_keeps ?_ | with_reducible apply Keeps.step ?_ linkStatus_keeps ?_
    | split

theorem timeRoleSet_keeps {a0} {t : State} : Keeps [.time] t (timeRoleSet a0 t).state := by
  unfold timeRoleSet
  try dsimp only
  repeat' first
    | with_reducible apply Keeps.rfl | decide | with_reducible apply Keeps.reply | with_reducible apply Keeps.refuses
    | with_reducible apply Keeps.waits | ((with_reducible intro h); exact TimeUnit.refer_sound h.time) | ((with_reducible intro h); apply h.time)
    | with_reducible apply Keeps.step ?_ (State.modTime_keeps ?_) ?_ | split | ((with_reducible intro h); exact by simp [TimeUnit.Sound])

theorem execTimeRoleSet_keeps {a0 a1} {t : State} : Result.Keeps [.host, .time, .health, .out] t (execTimeRoleSet a0 a1 t) := by
  unfold execTimeRoleSet
  try dsimp only
  repeat' first
    | with_reducible apply Keeps.rfl | decide | with_reducible apply Result.keeps_done | with_reducible apply Result.keeps_fault
    | refine Keeps.trans ?_ (State.serve_keeps (fun r u => ?_) (by decide))
    | with_reducible apply Keeps.step ?_ State.quiet_keeps ?_
    | with_reducible apply Keeps.step ?_ timeRoleSet_keeps ?_ | split

theorem tallySnapshot_keeps {a0} {t : State} : Keeps [.fab, .health, .free] t (tallySnapshot a0 t).state := by
  unfold tallySnapshot
  try dsimp only
  repeat' first
    | with_reducible apply Keeps.rfl | decide | with_reducible apply Keeps.reply | with_reducible apply Keeps.refuses
    | with_reducible apply Keeps.waits | ((with_reducible intro h); apply h.health)
    | with_reducible apply Keeps.step ?_ (State.modHealth_keeps ?_) ?_
    | with_reducible apply Keeps.step ?_ State.sendDown_keeps ?_
    | with_reducible apply Keeps.step ?_ State.tick_keeps ?_ | split

theorem execTallySnapshot_keeps {a0 a1} {t : State} : Result.Keeps [.host, .fab, .health, .out, .free] t (execTallySnapshot a0 a1 t) := by
  unfold execTallySnapshot
  try dsimp only
  repeat' first
    | with_reducible apply Keeps.rfl | decide | with_reducible apply Result.keeps_done | with_reducible apply Result.keeps_fault
    | refine Keeps.trans ?_ (State.serve_keeps (fun r u => ?_) (by decide))
    | with_reducible apply Keeps.step ?_ State.quiet_keeps ?_
    | with_reducible apply Keeps.step ?_ tallySnapshot_keeps ?_ | split

theorem telemetryRead_keeps {a0} {t : State} : Keeps [] t (telemetryRead a0 t).state := by
  unfold telemetryRead
  try dsimp only
  repeat' first
    | with_reducible apply Keeps.rfl | decide | with_reducible apply Keeps.reply | with_reducible apply Keeps.refuses
    | with_reducible apply Keeps.waits | split

theorem execTelemetryRead_keeps {a0 a1} {t : State} : Result.Keeps [.host, .health, .out] t (execTelemetryRead a0 a1 t) := by
  unfold execTelemetryRead
  try dsimp only
  repeat' first
    | with_reducible apply Keeps.rfl | decide | with_reducible apply Result.keeps_done | with_reducible apply Result.keeps_fault
    | refine Keeps.trans ?_ (State.serve_keeps (fun r u => ?_) (by decide))
    | with_reducible apply Keeps.step ?_ State.quiet_keeps ?_
    | with_reducible apply Keeps.step ?_ telemetryRead_keeps ?_ | split

theorem powerLimitSet_keeps {a0} {t : State} : Keeps [.health] t (powerLimitSet a0 t).state := by
  unfold powerLimitSet
  try dsimp only
  repeat' first
    | with_reducible apply Keeps.rfl | decide | with_reducible apply Keeps.reply | with_reducible apply Keeps.refuses
    | with_reducible apply Keeps.waits | ((with_reducible intro h); apply h.health.2.2) | ((with_reducible intro _); exact (by simp))
    | ((with_reducible intro h); exact Power.stepDown_duty h.health.2.2) | ((with_reducible intro h); exact Power.stepUp_duty h.health.2.2)
    | with_reducible apply Keeps.step ?_ (State.modPower_keeps ?_) ?_ | split

theorem execPowerLimitSet_keeps {a0 a1} {t : State} : Result.Keeps [.host, .health, .out] t (execPowerLimitSet a0 a1 t) := by
  unfold execPowerLimitSet
  try dsimp only
  repeat' first
    | with_reducible apply Keeps.rfl | decide | with_reducible apply Result.keeps_done | with_reducible apply Result.keeps_fault
    | refine Keeps.trans ?_ (State.serve_keeps (fun r u => ?_) (by decide))
    | with_reducible apply Keeps.step ?_ State.quiet_keeps ?_
    | with_reducible apply Keeps.step ?_ powerLimitSet_keeps ?_ | split

theorem faultRead_keeps {a0} {t : State} : Keeps [] t (faultRead a0 t).state := by
  unfold faultRead
  try dsimp only
  repeat' first
    | with_reducible apply Keeps.rfl | decide | with_reducible apply Keeps.reply | with_reducible apply Keeps.refuses
    | with_reducible apply Keeps.waits | split

theorem State.modBank_keeps {a1 a2} {t : State} (hf : ∀ b, (a2 b).records.length = b.records.length) : Keeps [.health] t (State.modBank t a1 a2) := by
  unfold State.modBank
  refine State.modHealth_keeps (fun h => ⟨?_, h.health.2⟩)
  rw [← h.health.1]
  refine List.ext_getElem (by simp) (fun i h1 h2 => ?_)
  simp only [List.getElem_map, List.getElem_modify]
  split
  · exact hf _
  · rfl

theorem faultClear_keeps {a0} {t : State} : Keeps [.dog, .health] t (faultClear a0 t).state := by
  unfold faultClear
  try dsimp only
  repeat' first
    | with_reducible apply Keeps.rfl | decide | with_reducible apply Keeps.reply | with_reducible apply Keeps.refuses
    | with_reducible apply Keeps.waits | ((with_reducible intro _); exact (by simp)) | ((with_reducible intro h); apply h.dog)
    | ((with_reducible intro h); exact ⟨h.dog.1, (by decide)⟩) | ((with_reducible intro h); exact ⟨h.dog.1, Nat.zero_le _⟩)
    | with_reducible apply Keeps.step ?_ (State.modBank_keeps ?_) ?_
    | with_reducible apply Keeps.step ?_ (State.modDog_keeps ?_) ?_ | split

theorem execFaultRead_keeps {a0 a1} {t : State} : Result.Keeps [.host, .health, .out] t (execFaultRead a0 a1 t) := by
  unfold execFaultRead
  try dsimp only
  repeat' first
    | with_reducible apply Keeps.rfl | decide | with_reducible apply Result.keeps_done | with_reducible apply Result.keeps_fault
    | refine Keeps.trans ?_ (State.serve_keeps (fun r u => ?_) (by decide))
    | with_reducible apply Keeps.step ?_ State.quiet_keeps ?_ | with_reducible apply Keeps.step ?_ faultRead_keeps ?_
    | split

theorem execFaultClear_keeps {a0 a1} {t : State} : Result.Keeps [.dog, .host, .health, .out] t (execFaultClear a0 a1 t) := by
  unfold execFaultClear
  try dsimp only
  repeat' first
    | with_reducible apply Keeps.rfl | decide | with_reducible apply Result.keeps_done | with_reducible apply Result.keeps_fault
    | refine Keeps.trans ?_ (State.serve_keeps (fun r u => ?_) (by decide))
    | with_reducible apply Keeps.step ?_ State.quiet_keeps ?_ | with_reducible apply Keeps.step ?_ faultClear_keeps ?_
    | split

/-! ## Machine/HostLink.lean -/

theorem State.enterD3hot_keeps {t : State} : Keeps [.boot, .out] t (State.enterD3hot t) := by
  unfold State.enterD3hot
  try dsimp only
  repeat' first
    | with_reducible apply Keeps.rfl | decide | ((with_reducible intro h); apply h.boot)
    | ((with_reducible intro h); exact ⟨h.boot.1, h.boot.2.1, h.boot.2.2.1, satInc_le⟩)
    | ((with_reducible intro h); exact ⟨h.boot.1, h.boot.1, satInc_le, h.boot.2.2.2⟩)
    | with_reducible apply Keeps.step ?_ State.emit_keeps ?_
    | with_reducible apply Keeps.step ?_ (State.modBoot_keeps ?_) ?_ | split

theorem State.writeConfig_keeps {a1 a2 a3} {t : State} : Keeps [.boot, .host, .out] t (State.writeConfig t a1 a2 a3) := by
  unfold State.writeConfig
  try dsimp only
  repeat' first
    | with_reducible apply Keeps.rfl | decide | ((with_reducible intro h); apply h.boot)
    | ((with_reducible intro h); exact ⟨h.boot.1, h.boot.2.1, h.boot.2.2.1, satInc_le⟩)
    | ((with_reducible intro h); exact ⟨h.boot.1, h.boot.1, satInc_le, h.boot.2.2.2⟩) | ((with_reducible intro h); apply h.host)
    | ((with_reducible intro h); exact ⟨rfl, h.host.2⟩) | ((with_reducible intro h); exact ⟨h.host.1, rfl⟩)
    | with_reducible apply Keeps.step ?_ State.enterD3hot_keeps ?_
    | with_reducible apply Keeps.step ?_ (State.modBoot_keeps ?_) ?_
    | with_reducible apply Keeps.step ?_ (State.modHost_keeps ?_) ?_ | split
    | ((with_reducible intro h); exact by simpa [HostIf.Sound] using h.host)

theorem State.msixUnmask_keeps {a1 a2} {t : State} : Keeps [.host, .out] t (State.msixUnmask t a1 a2) := by
  unfold State.msixUnmask
  try dsimp only
  repeat' first
    | with_reducible apply Keeps.rfl | decide | with_reducible apply Keeps.step ?_ State.emit_keeps ?_
    | with_reducible apply Keeps.step ?_ State.modFn_keeps ?_ | split

theorem State.writeMsix_keeps {a1 a2 a3} {t : State} : Keeps [.host, .out] t (State.writeMsix t a1 a2 a3) := by
  unfold State.writeMsix
  try dsimp only
  repeat' first
    | with_reducible apply Keeps.rfl | decide | with_reducible apply Keeps.step ?_ State.modFn_keeps ?_
    | with_reducible apply Keeps.step ?_ State.msixUnmask_keeps ?_ | split

theorem State.writeRequest_keeps {a1 a2 a3} {t : State} : Keeps [.host, .health, .out] t (State.writeRequest t a1 a2 a3) := by
  unfold State.writeRequest
  try dsimp only
  repeat' first
    | with_reducible apply Keeps.rfl | decide | with_reducible apply Keeps.step ?_ State.logFault_keeps ?_
    | with_reducible apply Keeps.step ?_ State.modSlot_keeps ?_ | split

theorem State.writeSlot_keeps {a1 a2 a3 a4} {t : State} : Keeps [.host, .health, .out] t (State.writeSlot t a1 a2 a3 a4) := by
  unfold State.writeSlot
  try dsimp only
  repeat' first
    | with_reducible apply Keeps.rfl | decide | with_reducible apply Keeps.step ?_ State.mbAbort_keeps ?_
    | with_reducible apply Keeps.step ?_ State.mbGo_keeps ?_
    | with_reducible apply Keeps.step ?_ State.modSlot_keeps ?_
    | with_reducible apply Keeps.step ?_ State.writeRequest_keeps ?_ | split

theorem State.writeStage_keeps {a1 a2 a3} {t : State} : Keeps [.host] t (State.writeStage t a1 a2 a3) := by
  unfold State.writeStage
  try dsimp only
  repeat' first
    | with_reducible apply Keeps.rfl | decide | with_reducible apply Keeps.step ?_ State.modFn_keeps ?_ | split

theorem State.writeWord_keeps {a1 a2 a3} {t : State} : Keeps [.dog, .boot, .host, .comp, .pens, .drover, .talsen, .np, .fab, .qe, .time, .coord, .video, .health, .out] t (State.writeWord t a1 a2 a3) := by
  unfold State.writeWord
  try dsimp only
  repeat' first
    | with_reducible apply Keeps.rfl | decide | with_reducible apply Keeps.step ?_ State.writeMsix_keeps ?_
    | with_reducible apply Keeps.step ?_ State.writeResetCtrl_keeps ?_
    | with_reducible apply Keeps.step ?_ State.writeSlot_keeps ?_
    | with_reducible apply Keeps.step ?_ State.writeStage_keeps ?_ | split

theorem State.logAccess_keeps {a1 a2} {t : State} : Keeps [.host, .health, .out] t (State.logAccess t a1 a2) := by
  unfold State.logAccess
  try dsimp only
  repeat' first
    | with_reducible apply Keeps.rfl | decide | with_reducible apply Keeps.step ?_ State.logFault_keeps ?_ | split

theorem execRegisterWrite_keeps {a0 a1 a2 a3} {t : State} : Result.Keeps [.dog, .boot, .host, .comp, .pens, .drover, .talsen, .np, .fab, .qe, .time, .coord, .video, .health, .out] t (execRegisterWrite a0 a1 a2 a3 t) := by
  unfold execRegisterWrite
  try dsimp only
  repeat' first
    | with_reducible apply Keeps.rfl | decide | with_reducible apply Result.keeps_done | with_reducible apply Result.keeps_fault
    | with_reducible apply Keeps.step ?_ State.logAccess_keeps ?_
    | with_reducible apply Keeps.step ?_ State.quiet_keeps ?_
    | with_reducible apply Keeps.step ?_ State.writeConfig_keeps ?_
    | with_reducible apply Keeps.step ?_ State.writeWord_keeps ?_ | split

theorem execBar0Access_keeps {a0 a1 a2 a3 a4} {t : State} : Result.Keeps [.host, .health, .out] t (execBar0Access a0 a1 a2 a3 a4 t) := by
  unfold execBar0Access
  try dsimp only
  repeat' first
    | with_reducible apply Keeps.rfl | decide | with_reducible apply Result.keeps_done | with_reducible apply Result.keeps_fault
    | with_reducible apply Keeps.step ?_ State.emit_keeps ?_
    | with_reducible apply Keeps.step ?_ State.logAccess_keeps ?_
    | with_reducible apply Keeps.step ?_ State.quiet_keeps ?_ | split

theorem State.logUnmapped_keeps {a1 a2} {t : State} : Keeps [.host, .health, .out] t (State.logUnmapped t a1 a2) := by
  unfold State.logUnmapped
  try dsimp only
  repeat' first
    | with_reducible apply Keeps.rfl | decide | with_reducible apply Keeps.step ?_ State.logFault_keeps ?_ | split

theorem State.hostRead_keeps {a1 a2} {t : State} : Keeps [.host, .np, .health, .out] t (State.hostRead t a1 a2) := by
  unfold State.hostRead
  try dsimp only
  repeat' first
    | with_reducible apply Keeps.rfl | decide | with_reducible apply Keeps.step ?_ State.npRequest_keeps ?_
    | with_reducible apply State.forAll_keeps ?_ (fun u x => ?_) | split

theorem execBar4Read_keeps {a0 a1 a2} {t : State} : Result.Keeps [.host, .np, .health, .out] t (execBar4Read a0 a1 a2 t) := by
  unfold execBar4Read
  try dsimp only
  repeat' first
    | with_reducible apply Keeps.rfl | decide | with_reducible apply Result.keeps_done | with_reducible apply Result.keeps_fault
    | with_reducible apply Keeps.step ?_ State.emit_keeps ?_
    | with_reducible apply Keeps.step ?_ State.hostRead_keeps ?_
    | with_reducible apply Keeps.step ?_ State.logUnmapped_keeps ?_
    | with_reducible apply Keeps.step ?_ State.quiet_keeps ?_ | split

theorem execBar4Write_keeps {a0 a1 a2} {t : State} : Result.Keeps [.host, .np, .health, .out] t (execBar4Write a0 a1 a2 t) := by
  unfold execBar4Write
  try dsimp only
  repeat' first
    | with_reducible apply Keeps.rfl | decide | with_reducible apply Result.keeps_done | with_reducible apply Result.keeps_fault
    | with_reducible apply Keeps.step ?_ State.logUnmapped_keeps ?_
    | with_reducible apply Keeps.step ?_ State.npRequest_keeps ?_
    | with_reducible apply Keeps.step ?_ State.quiet_keeps ?_
    | with_reducible apply State.forAll_keeps ?_ (fun u x => ?_) | split

theorem State.resetSlot_keeps {a1} {t : State} : Keeps [.host] t (State.resetSlot t a1) := by
  unfold State.resetSlot
  try dsimp only
  repeat' first
    | with_reducible apply Keeps.rfl | decide | with_reducible apply Keeps.step ?_ State.modSlot_keeps ?_ | split

theorem execFunctionLevelReset_keeps {a0} {t : State} : Result.Keeps [.host, .comp, .pens, .drover, .np, .fab, .qe, .video, .health, .out, .free] t (execFunctionLevelReset a0 t) := by
  unfold execFunctionLevelReset
  try dsimp only
  repeat' first
    | with_reducible apply Keeps.rfl | decide | with_reducible apply Result.keeps_done | with_reducible apply Result.keeps_fault
    | with_reducible apply Keeps.step ?_ State.hostAbort_keeps ?_
    | with_reducible apply Keeps.step ?_ State.quiet_keeps ?_
    | with_reducible apply Keeps.step ?_ State.resetSlot_keeps ?_
    | with_reducible apply Keeps.step ?_ State.retryAllocs_keeps ?_
    | with_reducible apply Keeps.step ?_ State.settleRound_keeps ?_ | split

theorem execD3hotEntry_keeps {t : State} : Result.Keeps [.boot, .out] t (execD3hotEntry t) := by
  unfold execD3hotEntry
  try dsimp only
  repeat' first
    | with_reducible apply Keeps.rfl | decide | with_reducible apply Result.keeps_done | with_reducible apply Result.keeps_fault
    | with_reducible apply Keeps.step ?_ State.enterD3hot_keeps ?_
    | with_reducible apply Keeps.step ?_ State.quiet_keeps ?_ | split

theorem execHostLinkRetrain_keeps {a0 a1 a2} {t : State} : Result.Keeps [.boot, .out] t (execHostLinkRetrain a0 a1 a2 t) := by
  unfold execHostLinkRetrain
  try dsimp only
  repeat' first
    | with_reducible apply Keeps.rfl | decide | with_reducible apply Result.keeps_done | with_reducible apply Result.keeps_fault
    | ((with_reducible intro h); exact Boot.train_sound h.boot) | ((with_reducible intro h); apply h.boot)
    | ((with_reducible intro h); exact ⟨h.boot.1, h.boot.2.1, h.boot.2.2.1, satInc_le⟩)
    | ((with_reducible intro h); exact ⟨h.boot.1, h.boot.1, satInc_le, h.boot.2.2.2⟩)
    | with_reducible apply Keeps.step ?_ (State.modBoot_keeps ?_) ?_
    | with_reducible apply Keeps.step ?_ State.quiet_keeps ?_ | split

theorem execI3cPrivateWrite_keeps {a0} {t : State} : Result.Keeps [.dog, .boot, .host, .comp, .pens, .drover, .talsen, .np, .fab, .qe, .time, .coord, .video, .health, .out] t (execI3cPrivateWrite a0 t) := by
  unfold execI3cPrivateWrite
  try dsimp only
  repeat' first
    | with_reducible apply Keeps.rfl | decide | with_reducible apply Result.keeps_done | with_reducible apply Result.keeps_fault
    | ((with_reducible intro h); apply h.host) | ((with_reducible intro h); exact ⟨rfl, h.host.2⟩) | ((with_reducible intro h); exact ⟨h.host.1, rfl⟩)
    | with_reducible apply Keeps.step ?_ (State.modHost_keeps ?_) ?_
    | with_reducible apply Keeps.step ?_ State.quiet_keeps ?_
    | with_reducible apply Keeps.step ?_ State.writeResetCtrl_keeps ?_ | split
    | ((with_reducible intro h); exact by simpa [HostIf.Sound] using h.host)

theorem execI3cPrivateRead_keeps {a0} {t : State} : Result.Keeps [.host, .out] t (execI3cPrivateRead a0 t) := by
  unfold execI3cPrivateRead
  try dsimp only
  repeat' first
    | with_reducible apply Keeps.rfl | decide | with_reducible apply Result.keeps_done | with_reducible apply Result.keeps_fault
    | ((with_reducible intro h); apply h.host) | ((with_reducible intro h); exact ⟨rfl, h.host.2⟩) | ((with_reducible intro h); exact ⟨h.host.1, rfl⟩)
    | with_reducible apply Keeps.step ?_ State.emit_keeps ?_
    | with_reducible apply Keeps.step ?_ (State.modHost_keeps ?_) ?_
    | with_reducible apply Keeps.step ?_ State.quiet_keeps ?_ | split
    | ((with_reducible intro h); exact by simpa [HostIf.Sound] using h.host)

theorem i3cFree_keeps {a0} {t : State} : Result.Keeps [.out, .free] t (i3cFree a0 t) := by
  unfold i3cFree
  try dsimp only
  repeat' first
    | with_reducible apply Keeps.rfl | decide | with_reducible apply Result.keeps_done | with_reducible apply Result.keeps_fault
    | with_reducible apply Keeps.step ?_ State.drawBytes_keeps ?_
    | with_reducible apply Keeps.step ?_ State.emit_keeps ?_ | with_reducible apply Keeps.step ?_ State.quiet_keeps ?_
    | split

theorem execEntdaa_keeps {a0} {t : State} : Result.Keeps [.host, .out, .free] t (execEntdaa a0 t) := by
  unfold execEntdaa
  try dsimp only
  repeat' first
    | with_reducible apply Keeps.rfl | decide | with_reducible apply Result.keeps_done | with_reducible apply Result.keeps_fault
    | ((with_reducible intro h); apply h.host) | ((with_reducible intro h); exact ⟨rfl, h.host.2⟩) | ((with_reducible intro h); exact ⟨h.host.1, rfl⟩)
    | with_reducible apply Keeps.step ?_ State.drawBytes_keeps ?_
    | with_reducible apply Keeps.step ?_ State.emit_keeps ?_
    | with_reducible apply Keeps.step ?_ (State.modHost_keeps ?_) ?_
    | with_reducible apply Keeps.step ?_ State.quiet_keeps ?_ | split
    | ((with_reducible intro h); exact by simpa [HostIf.Sound] using h.host)

theorem execSetdasa_keeps {a0 a1} {t : State} : Result.Keeps [.host, .out] t (execSetdasa a0 a1 t) := by
  unfold execSetdasa
  try dsimp only
  repeat' first
    | with_reducible apply Keeps.rfl | decide | with_reducible apply Result.keeps_done | with_reducible apply Result.keeps_fault
    | ((with_reducible intro h); apply h.host) | ((with_reducible intro h); exact ⟨rfl, h.host.2⟩) | ((with_reducible intro h); exact ⟨h.host.1, rfl⟩)
    | with_reducible apply Keeps.step ?_ (State.modHost_keeps ?_) ?_
    | with_reducible apply Keeps.step ?_ State.quiet_keeps ?_ | split
    | ((with_reducible intro h); exact by simpa [HostIf.Sound] using h.host)

theorem execRstdaa_keeps {t : State} : Result.Keeps [.host, .out] t (execRstdaa t) := by
  unfold execRstdaa
  try dsimp only
  repeat' first
    | with_reducible apply Keeps.rfl | decide | with_reducible apply Result.keeps_done | with_reducible apply Result.keeps_fault
    | ((with_reducible intro h); apply h.host) | ((with_reducible intro h); exact ⟨rfl, h.host.2⟩) | ((with_reducible intro h); exact ⟨h.host.1, rfl⟩)
    | with_reducible apply Keeps.step ?_ (State.modHost_keeps ?_) ?_
    | with_reducible apply Keeps.step ?_ State.quiet_keeps ?_ | split
    | ((with_reducible intro h); exact by simpa [HostIf.Sound] using h.host)

theorem execGetpid_keeps {t : State} : Result.Keeps [.out] t (execGetpid t) := by
  unfold execGetpid
  try dsimp only
  repeat' first
    | with_reducible apply Keeps.rfl | decide | with_reducible apply Result.keeps_done | with_reducible apply Result.keeps_fault
    | with_reducible apply Keeps.step ?_ State.emit_keeps ?_ | with_reducible apply Keeps.step ?_ State.quiet_keeps ?_
    | split

theorem execGetbcr_keeps {t : State} : Result.Keeps [.out, .free] t (execGetbcr t) := by
  unfold execGetbcr
  try dsimp only
  repeat' first
    | with_reducible apply Keeps.rfl | decide | with_reducible apply Result.keeps_done | with_reducible apply Result.keeps_fault
    | exact i3cFree_keeps.mono (by decide) | split

theorem execGetdcr_keeps {t : State} : Result.Keeps [.out, .free] t (execGetdcr t) := by
  unfold execGetdcr
  try dsimp only
  repeat' first
    | with_reducible apply Keeps.rfl | decide | with_reducible apply Result.keeps_done | with_reducible apply Result.keeps_fault
    | exact i3cFree_keeps.mono (by decide) | split

theorem execGetstatus_keeps {t : State} : Result.Keeps [.out, .free] t (execGetstatus t) := by
  unfold execGetstatus
  try dsimp only
  repeat' first
    | with_reducible apply Keeps.rfl | decide | with_reducible apply Result.keeps_done | with_reducible apply Result.keeps_fault
    | exact i3cFree_keeps.mono (by decide) | split

theorem execGetmwl_keeps {t : State} : Result.Keeps [.out, .free] t (execGetmwl t) := by
  unfold execGetmwl
  try dsimp only
  repeat' first
    | with_reducible apply Keeps.rfl | decide | with_reducible apply Result.keeps_done | with_reducible apply Result.keeps_fault
    | exact i3cFree_keeps.mono (by decide) | split

theorem execGetmrl_keeps {t : State} : Result.Keeps [.out, .free] t (execGetmrl t) := by
  unfold execGetmrl
  try dsimp only
  repeat' first
    | with_reducible apply Keeps.rfl | decide | with_reducible apply Result.keeps_done | with_reducible apply Result.keeps_fault
    | exact i3cFree_keeps.mono (by decide) | split

end Sys2Proof.Machine
end

