-- ==== Sys2Proof/Laws/State.lean ====
section
/-! SUPPORT. What each update of a part of the state leaves in each field: one lemma per field per update. -/

-- One proof at a time: the package as one text otherwise asks for more threads than its memory limit allows.
set_option Elab.async false
set_option linter.all false

namespace Sys2Proof.Machine

/-! ### modBoot -/

@[simp] theorem State.modBoot_dog (s : State) (f : Boot → Boot) : (s.modBoot f).dog = s.dog := rfl
@[simp] theorem State.modBoot_boot (s : State) (f : Boot → Boot) : (s.modBoot f).boot = f s.boot := rfl
@[simp] theorem State.modBoot_host (s : State) (f : Boot → Boot) : (s.modBoot f).host = s.host := rfl
@[simp] theorem State.modBoot_comp (s : State) (f : Boot → Boot) : (s.modBoot f).comp = s.comp := rfl
@[simp] theorem State.modBoot_pens (s : State) (f : Boot → Boot) : (s.modBoot f).pens = s.pens := rfl
@[simp] theorem State.modBoot_drover (s : State) (f : Boot → Boot) : (s.modBoot f).drover = s.drover := rfl
@[simp] theorem State.modBoot_talsen (s : State) (f : Boot → Boot) : (s.modBoot f).talsen = s.talsen := rfl
@[simp] theorem State.modBoot_np (s : State) (f : Boot → Boot) : (s.modBoot f).np = s.np := rfl
@[simp] theorem State.modBoot_fab (s : State) (f : Boot → Boot) : (s.modBoot f).fab = s.fab := rfl
@[simp] theorem State.modBoot_qe (s : State) (f : Boot → Boot) : (s.modBoot f).qe = s.qe := rfl
@[simp] theorem State.modBoot_time (s : State) (f : Boot → Boot) : (s.modBoot f).time = s.time := rfl
@[simp] theorem State.modBoot_coord (s : State) (f : Boot → Boot) : (s.modBoot f).coord = s.coord := rfl
@[simp] theorem State.modBoot_video (s : State) (f : Boot → Boot) : (s.modBoot f).video = s.video := rfl
@[simp] theorem State.modBoot_health (s : State) (f : Boot → Boot) : (s.modBoot f).health = s.health := rfl
@[simp] theorem State.modBoot_out (s : State) (f : Boot → Boot) : (s.modBoot f).out = s.out := rfl
@[simp] theorem State.modBoot_free (s : State) (f : Boot → Boot) : (s.modBoot f).free = s.free := rfl
@[simp] theorem State.modBoot_pending (s : State) (f : Boot → Boot) : (s.modBoot f).pending = s.pending := rfl

/-! ### modDog -/

@[simp] theorem State.modDog_dog (s : State) (f : Sheepdog → Sheepdog) : (s.modDog f).dog = f s.dog := rfl
@[simp] theorem State.modDog_boot (s : State) (f : Sheepdog → Sheepdog) : (s.modDog f).boot = s.boot := rfl
@[simp] theorem State.modDog_host (s : State) (f : Sheepdog → Sheepdog) : (s.modDog f).host = s.host := rfl
@[simp] theorem State.modDog_comp (s : State) (f : Sheepdog → Sheepdog) : (s.modDog f).comp = s.comp := rfl
@[simp] theorem State.modDog_pens (s : State) (f : Sheepdog → Sheepdog) : (s.modDog f).pens = s.pens := rfl
@[simp] theorem State.modDog_drover (s : State) (f : Sheepdog → Sheepdog) : (s.modDog f).drover = s.drover := rfl
@[simp] theorem State.modDog_talsen (s : State) (f : Sheepdog → Sheepdog) : (s.modDog f).talsen = s.talsen := rfl
@[simp] theorem State.modDog_np (s : State) (f : Sheepdog → Sheepdog) : (s.modDog f).np = s.np := rfl
@[simp] theorem State.modDog_fab (s : State) (f : Sheepdog → Sheepdog) : (s.modDog f).fab = s.fab := rfl
@[simp] theorem State.modDog_qe (s : State) (f : Sheepdog → Sheepdog) : (s.modDog f).qe = s.qe := rfl
@[simp] theorem State.modDog_time (s : State) (f : Sheepdog → Sheepdog) : (s.modDog f).time = s.time := rfl
@[simp] theorem State.modDog_coord (s : State) (f : Sheepdog → Sheepdog) : (s.modDog f).coord = s.coord := rfl
@[simp] theorem State.modDog_video (s : State) (f : Sheepdog → Sheepdog) : (s.modDog f).video = s.video := rfl
@[simp] theorem State.modDog_health (s : State) (f : Sheepdog → Sheepdog) : (s.modDog f).health = s.health := rfl
@[simp] theorem State.modDog_out (s : State) (f : Sheepdog → Sheepdog) : (s.modDog f).out = s.out := rfl
@[simp] theorem State.modDog_free (s : State) (f : Sheepdog → Sheepdog) : (s.modDog f).free = s.free := rfl
@[simp] theorem State.modDog_pending (s : State) (f : Sheepdog → Sheepdog) : (s.modDog f).pending = s.pending := rfl

/-! ### modNp -/

@[simp] theorem State.modNp_dog (s : State) (f : NearMem → NearMem) : (s.modNp f).dog = s.dog := rfl
@[simp] theorem State.modNp_boot (s : State) (f : NearMem → NearMem) : (s.modNp f).boot = s.boot := rfl
@[simp] theorem State.modNp_host (s : State) (f : NearMem → NearMem) : (s.modNp f).host = s.host := rfl
@[simp] theorem State.modNp_comp (s : State) (f : NearMem → NearMem) : (s.modNp f).comp = s.comp := rfl
@[simp] theorem State.modNp_pens (s : State) (f : NearMem → NearMem) : (s.modNp f).pens = s.pens := rfl
@[simp] theorem State.modNp_drover (s : State) (f : NearMem → NearMem) : (s.modNp f).drover = s.drover := rfl
@[simp] theorem State.modNp_talsen (s : State) (f : NearMem → NearMem) : (s.modNp f).talsen = s.talsen := rfl
@[simp] theorem State.modNp_np (s : State) (f : NearMem → NearMem) : (s.modNp f).np = f s.np := rfl
@[simp] theorem State.modNp_fab (s : State) (f : NearMem → NearMem) : (s.modNp f).fab = s.fab := rfl
@[simp] theorem State.modNp_qe (s : State) (f : NearMem → NearMem) : (s.modNp f).qe = s.qe := rfl
@[simp] theorem State.modNp_time (s : State) (f : NearMem → NearMem) : (s.modNp f).time = s.time := rfl
@[simp] theorem State.modNp_coord (s : State) (f : NearMem → NearMem) : (s.modNp f).coord = s.coord := rfl
@[simp] theorem State.modNp_video (s : State) (f : NearMem → NearMem) : (s.modNp f).video = s.video := rfl
@[simp] theorem State.modNp_health (s : State) (f : NearMem → NearMem) : (s.modNp f).health = s.health := rfl
@[simp] theorem State.modNp_out (s : State) (f : NearMem → NearMem) : (s.modNp f).out = s.out := rfl
@[simp] theorem State.modNp_free (s : State) (f : NearMem → NearMem) : (s.modNp f).free = s.free := rfl
@[simp] theorem State.modNp_pending (s : State) (f : NearMem → NearMem) : (s.modNp f).pending = s.pending := rfl

/-! ### modFab -/

@[simp] theorem State.modFab_dog (s : State) (f : Fabric → Fabric) : (s.modFab f).dog = s.dog := rfl
@[simp] theorem State.modFab_boot (s : State) (f : Fabric → Fabric) : (s.modFab f).boot = s.boot := rfl
@[simp] theorem State.modFab_host (s : State) (f : Fabric → Fabric) : (s.modFab f).host = s.host := rfl
@[simp] theorem State.modFab_comp (s : State) (f : Fabric → Fabric) : (s.modFab f).comp = s.comp := rfl
@[simp] theorem State.modFab_pens (s : State) (f : Fabric → Fabric) : (s.modFab f).pens = s.pens := rfl
@[simp] theorem State.modFab_drover (s : State) (f : Fabric → Fabric) : (s.modFab f).drover = s.drover := rfl
@[simp] theorem State.modFab_talsen (s : State) (f : Fabric → Fabric) : (s.modFab f).talsen = s.talsen := rfl
@[simp] theorem State.modFab_np (s : State) (f : Fabric → Fabric) : (s.modFab f).np = s.np := rfl
@[simp] theorem State.modFab_fab (s : State) (f : Fabric → Fabric) : (s.modFab f).fab = f s.fab := rfl
@[simp] theorem State.modFab_qe (s : State) (f : Fabric → Fabric) : (s.modFab f).qe = s.qe := rfl
@[simp] theorem State.modFab_time (s : State) (f : Fabric → Fabric) : (s.modFab f).time = s.time := rfl
@[simp] theorem State.modFab_coord (s : State) (f : Fabric → Fabric) : (s.modFab f).coord = s.coord := rfl
@[simp] theorem State.modFab_video (s : State) (f : Fabric → Fabric) : (s.modFab f).video = s.video := rfl
@[simp] theorem State.modFab_health (s : State) (f : Fabric → Fabric) : (s.modFab f).health = s.health := rfl
@[simp] theorem State.modFab_out (s : State) (f : Fabric → Fabric) : (s.modFab f).out = s.out := rfl
@[simp] theorem State.modFab_free (s : State) (f : Fabric → Fabric) : (s.modFab f).free = s.free := rfl
@[simp] theorem State.modFab_pending (s : State) (f : Fabric → Fabric) : (s.modFab f).pending = s.pending := rfl

/-! ### modComp -/

@[simp] theorem State.modComp_dog (s : State) (f : Compute → Compute) : (s.modComp f).dog = s.dog := rfl
@[simp] theorem State.modComp_boot (s : State) (f : Compute → Compute) : (s.modComp f).boot = s.boot := rfl
@[simp] theorem State.modComp_host (s : State) (f : Compute → Compute) : (s.modComp f).host = s.host := rfl
@[simp] theorem State.modComp_comp (s : State) (f : Compute → Compute) : (s.modComp f).comp = f s.comp := rfl
@[simp] theorem State.modComp_pens (s : State) (f : Compute → Compute) : (s.modComp f).pens = s.pens := rfl
@[simp] theorem State.modComp_drover (s : State) (f : Compute → Compute) : (s.modComp f).drover = s.drover := rfl
@[simp] theorem State.modComp_talsen (s : State) (f : Compute → Compute) : (s.modComp f).talsen = s.talsen := rfl
@[simp] theorem State.modComp_np (s : State) (f : Compute → Compute) : (s.modComp f).np = s.np := rfl
@[simp] theorem State.modComp_fab (s : State) (f : Compute → Compute) : (s.modComp f).fab = s.fab := rfl
@[simp] theorem State.modComp_qe (s : State) (f : Compute → Compute) : (s.modComp f).qe = s.qe := rfl
@[simp] theorem State.modComp_time (s : State) (f : Compute → Compute) : (s.modComp f).time = s.time := rfl
@[simp] theorem State.modComp_coord (s : State) (f : Compute → Compute) : (s.modComp f).coord = s.coord := rfl
@[simp] theorem State.modComp_video (s : State) (f : Compute → Compute) : (s.modComp f).video = s.video := rfl
@[simp] theorem State.modComp_health (s : State) (f : Compute → Compute) : (s.modComp f).health = s.health := rfl
@[simp] theorem State.modComp_out (s : State) (f : Compute → Compute) : (s.modComp f).out = s.out := rfl
@[simp] theorem State.modComp_free (s : State) (f : Compute → Compute) : (s.modComp f).free = s.free := rfl
@[simp] theorem State.modComp_pending (s : State) (f : Compute → Compute) : (s.modComp f).pending = s.pending := rfl

/-! ### modQe -/

@[simp] theorem State.modQe_dog (s : State) (f : QueueEngine → QueueEngine) : (s.modQe f).dog = s.dog := rfl
@[simp] theorem State.modQe_boot (s : State) (f : QueueEngine → QueueEngine) : (s.modQe f).boot = s.boot := rfl
@[simp] theorem State.modQe_host (s : State) (f : QueueEngine → QueueEngine) : (s.modQe f).host = s.host := rfl
@[simp] theorem State.modQe_comp (s : State) (f : QueueEngine → QueueEngine) : (s.modQe f).comp = s.comp := rfl
@[simp] theorem State.modQe_pens (s : State) (f : QueueEngine → QueueEngine) : (s.modQe f).pens = s.pens := rfl
@[simp] theorem State.modQe_drover (s : State) (f : QueueEngine → QueueEngine) : (s.modQe f).drover = s.drover := rfl
@[simp] theorem State.modQe_talsen (s : State) (f : QueueEngine → QueueEngine) : (s.modQe f).talsen = s.talsen := rfl
@[simp] theorem State.modQe_np (s : State) (f : QueueEngine → QueueEngine) : (s.modQe f).np = s.np := rfl
@[simp] theorem State.modQe_fab (s : State) (f : QueueEngine → QueueEngine) : (s.modQe f).fab = s.fab := rfl
@[simp] theorem State.modQe_qe (s : State) (f : QueueEngine → QueueEngine) : (s.modQe f).qe = f s.qe := rfl
@[simp] theorem State.modQe_time (s : State) (f : QueueEngine → QueueEngine) : (s.modQe f).time = s.time := rfl
@[simp] theorem State.modQe_coord (s : State) (f : QueueEngine → QueueEngine) : (s.modQe f).coord = s.coord := rfl
@[simp] theorem State.modQe_video (s : State) (f : QueueEngine → QueueEngine) : (s.modQe f).video = s.video := rfl
@[simp] theorem State.modQe_health (s : State) (f : QueueEngine → QueueEngine) : (s.modQe f).health = s.health := rfl
@[simp] theorem State.modQe_out (s : State) (f : QueueEngine → QueueEngine) : (s.modQe f).out = s.out := rfl
@[simp] theorem State.modQe_free (s : State) (f : QueueEngine → QueueEngine) : (s.modQe f).free = s.free := rfl
@[simp] theorem State.modQe_pending (s : State) (f : QueueEngine → QueueEngine) : (s.modQe f).pending = s.pending := rfl

/-! ### modTime -/

@[simp] theorem State.modTime_dog (s : State) (f : TimeUnit → TimeUnit) : (s.modTime f).dog = s.dog := rfl
@[simp] theorem State.modTime_boot (s : State) (f : TimeUnit → TimeUnit) : (s.modTime f).boot = s.boot := rfl
@[simp] theorem State.modTime_host (s : State) (f : TimeUnit → TimeUnit) : (s.modTime f).host = s.host := rfl
@[simp] theorem State.modTime_comp (s : State) (f : TimeUnit → TimeUnit) : (s.modTime f).comp = s.comp := rfl
@[simp] theorem State.modTime_pens (s : State) (f : TimeUnit → TimeUnit) : (s.modTime f).pens = s.pens := rfl
@[simp] theorem State.modTime_drover (s : State) (f : TimeUnit → TimeUnit) : (s.modTime f).drover = s.drover := rfl
@[simp] theorem State.modTime_talsen (s : State) (f : TimeUnit → TimeUnit) : (s.modTime f).talsen = s.talsen := rfl
@[simp] theorem State.modTime_np (s : State) (f : TimeUnit → TimeUnit) : (s.modTime f).np = s.np := rfl
@[simp] theorem State.modTime_fab (s : State) (f : TimeUnit → TimeUnit) : (s.modTime f).fab = s.fab := rfl
@[simp] theorem State.modTime_qe (s : State) (f : TimeUnit → TimeUnit) : (s.modTime f).qe = s.qe := rfl
@[simp] theorem State.modTime_time (s : State) (f : TimeUnit → TimeUnit) : (s.modTime f).time = f s.time := rfl
@[simp] theorem State.modTime_coord (s : State) (f : TimeUnit → TimeUnit) : (s.modTime f).coord = s.coord := rfl
@[simp] theorem State.modTime_video (s : State) (f : TimeUnit → TimeUnit) : (s.modTime f).video = s.video := rfl
@[simp] theorem State.modTime_health (s : State) (f : TimeUnit → TimeUnit) : (s.modTime f).health = s.health := rfl
@[simp] theorem State.modTime_out (s : State) (f : TimeUnit → TimeUnit) : (s.modTime f).out = s.out := rfl
@[simp] theorem State.modTime_free (s : State) (f : TimeUnit → TimeUnit) : (s.modTime f).free = s.free := rfl
@[simp] theorem State.modTime_pending (s : State) (f : TimeUnit → TimeUnit) : (s.modTime f).pending = s.pending := rfl

/-! ### modCoord -/

@[simp] theorem State.modCoord_dog (s : State) (f : Coord → Coord) : (s.modCoord f).dog = s.dog := rfl
@[simp] theorem State.modCoord_boot (s : State) (f : Coord → Coord) : (s.modCoord f).boot = s.boot := rfl
@[simp] theorem State.modCoord_host (s : State) (f : Coord → Coord) : (s.modCoord f).host = s.host := rfl
@[simp] theorem State.modCoord_comp (s : State) (f : Coord → Coord) : (s.modCoord f).comp = s.comp := rfl
@[simp] theorem State.modCoord_pens (s : State) (f : Coord → Coord) : (s.modCoord f).pens = s.pens := rfl
@[simp] theorem State.modCoord_drover (s : State) (f : Coord → Coord) : (s.modCoord f).drover = s.drover := rfl
@[simp] theorem State.modCoord_talsen (s : State) (f : Coord → Coord) : (s.modCoord f).talsen = s.talsen := rfl
@[simp] theorem State.modCoord_np (s : State) (f : Coord → Coord) : (s.modCoord f).np = s.np := rfl
@[simp] theorem State.modCoord_fab (s : State) (f : Coord → Coord) : (s.modCoord f).fab = s.fab := rfl
@[simp] theorem State.modCoord_qe (s : State) (f : Coord → Coord) : (s.modCoord f).qe = s.qe := rfl
@[simp] theorem State.modCoord_time (s : State) (f : Coord → Coord) : (s.modCoord f).time = s.time := rfl
@[simp] theorem State.modCoord_coord (s : State) (f : Coord → Coord) : (s.modCoord f).coord = f s.coord := rfl
@[simp] theorem State.modCoord_video (s : State) (f : Coord → Coord) : (s.modCoord f).video = s.video := rfl
@[simp] theorem State.modCoord_health (s : State) (f : Coord → Coord) : (s.modCoord f).health = s.health := rfl
@[simp] theorem State.modCoord_out (s : State) (f : Coord → Coord) : (s.modCoord f).out = s.out := rfl
@[simp] theorem State.modCoord_free (s : State) (f : Coord → Coord) : (s.modCoord f).free = s.free := rfl
@[simp] theorem State.modCoord_pending (s : State) (f : Coord → Coord) : (s.modCoord f).pending = s.pending := rfl

/-! ### modVideo -/

@[simp] theorem State.modVideo_dog (s : State) (f : Video → Video) : (s.modVideo f).dog = s.dog := rfl
@[simp] theorem State.modVideo_boot (s : State) (f : Video → Video) : (s.modVideo f).boot = s.boot := rfl
@[simp] theorem State.modVideo_host (s : State) (f : Video → Video) : (s.modVideo f).host = s.host := rfl
@[simp] theorem State.modVideo_comp (s : State) (f : Video → Video) : (s.modVideo f).comp = s.comp := rfl
@[simp] theorem State.modVideo_pens (s : State) (f : Video → Video) : (s.modVideo f).pens = s.pens := rfl
@[simp] theorem State.modVideo_drover (s : State) (f : Video → Video) : (s.modVideo f).drover = s.drover := rfl
@[simp] theorem State.modVideo_talsen (s : State) (f : Video → Video) : (s.modVideo f).talsen = s.talsen := rfl
@[simp] theorem State.modVideo_np (s : State) (f : Video → Video) : (s.modVideo f).np = s.np := rfl
@[simp] theorem State.modVideo_fab (s : State) (f : Video → Video) : (s.modVideo f).fab = s.fab := rfl
@[simp] theorem State.modVideo_qe (s : State) (f : Video → Video) : (s.modVideo f).qe = s.qe := rfl
@[simp] theorem State.modVideo_time (s : State) (f : Video → Video) : (s.modVideo f).time = s.time := rfl
@[simp] theorem State.modVideo_coord (s : State) (f : Video → Video) : (s.modVideo f).coord = s.coord := rfl
@[simp] theorem State.modVideo_video (s : State) (f : Video → Video) : (s.modVideo f).video = f s.video := rfl
@[simp] theorem State.modVideo_health (s : State) (f : Video → Video) : (s.modVideo f).health = s.health := rfl
@[simp] theorem State.modVideo_out (s : State) (f : Video → Video) : (s.modVideo f).out = s.out := rfl
@[simp] theorem State.modVideo_free (s : State) (f : Video → Video) : (s.modVideo f).free = s.free := rfl
@[simp] theorem State.modVideo_pending (s : State) (f : Video → Video) : (s.modVideo f).pending = s.pending := rfl

/-! ### modHealth -/

@[simp] theorem State.modHealth_dog (s : State) (f : Health → Health) : (s.modHealth f).dog = s.dog := rfl
@[simp] theorem State.modHealth_boot (s : State) (f : Health → Health) : (s.modHealth f).boot = s.boot := rfl
@[simp] theorem State.modHealth_host (s : State) (f : Health → Health) : (s.modHealth f).host = s.host := rfl
@[simp] theorem State.modHealth_comp (s : State) (f : Health → Health) : (s.modHealth f).comp = s.comp := rfl
@[simp] theorem State.modHealth_pens (s : State) (f : Health → Health) : (s.modHealth f).pens = s.pens := rfl
@[simp] theorem State.modHealth_drover (s : State) (f : Health → Health) : (s.modHealth f).drover = s.drover := rfl
@[simp] theorem State.modHealth_talsen (s : State) (f : Health → Health) : (s.modHealth f).talsen = s.talsen := rfl
@[simp] theorem State.modHealth_np (s : State) (f : Health → Health) : (s.modHealth f).np = s.np := rfl
@[simp] theorem State.modHealth_fab (s : State) (f : Health → Health) : (s.modHealth f).fab = s.fab := rfl
@[simp] theorem State.modHealth_qe (s : State) (f : Health → Health) : (s.modHealth f).qe = s.qe := rfl
@[simp] theorem State.modHealth_time (s : State) (f : Health → Health) : (s.modHealth f).time = s.time := rfl
@[simp] theorem State.modHealth_coord (s : State) (f : Health → Health) : (s.modHealth f).coord = s.coord := rfl
@[simp] theorem State.modHealth_video (s : State) (f : Health → Health) : (s.modHealth f).video = s.video := rfl
@[simp] theorem State.modHealth_health (s : State) (f : Health → Health) : (s.modHealth f).health = f s.health := rfl
@[simp] theorem State.modHealth_out (s : State) (f : Health → Health) : (s.modHealth f).out = s.out := rfl
@[simp] theorem State.modHealth_free (s : State) (f : Health → Health) : (s.modHealth f).free = s.free := rfl
@[simp] theorem State.modHealth_pending (s : State) (f : Health → Health) : (s.modHealth f).pending = s.pending := rfl

/-! ### modDrover -/

@[simp] theorem State.modDrover_dog (s : State) (f : Drover → Drover) : (s.modDrover f).dog = s.dog := rfl
@[simp] theorem State.modDrover_boot (s : State) (f : Drover → Drover) : (s.modDrover f).boot = s.boot := rfl
@[simp] theorem State.modDrover_host (s : State) (f : Drover → Drover) : (s.modDrover f).host = s.host := rfl
@[simp] theorem State.modDrover_comp (s : State) (f : Drover → Drover) : (s.modDrover f).comp = s.comp := rfl
@[simp] theorem State.modDrover_pens (s : State) (f : Drover → Drover) : (s.modDrover f).pens = s.pens := rfl
@[simp] theorem State.modDrover_drover (s : State) (f : Drover → Drover) : (s.modDrover f).drover = f s.drover := rfl
@[simp] theorem State.modDrover_talsen (s : State) (f : Drover → Drover) : (s.modDrover f).talsen = s.talsen := rfl
@[simp] theorem State.modDrover_np (s : State) (f : Drover → Drover) : (s.modDrover f).np = s.np := rfl
@[simp] theorem State.modDrover_fab (s : State) (f : Drover → Drover) : (s.modDrover f).fab = s.fab := rfl
@[simp] theorem State.modDrover_qe (s : State) (f : Drover → Drover) : (s.modDrover f).qe = s.qe := rfl
@[simp] theorem State.modDrover_time (s : State) (f : Drover → Drover) : (s.modDrover f).time = s.time := rfl
@[simp] theorem State.modDrover_coord (s : State) (f : Drover → Drover) : (s.modDrover f).coord = s.coord := rfl
@[simp] theorem State.modDrover_video (s : State) (f : Drover → Drover) : (s.modDrover f).video = s.video := rfl
@[simp] theorem State.modDrover_health (s : State) (f : Drover → Drover) : (s.modDrover f).health = s.health := rfl
@[simp] theorem State.modDrover_out (s : State) (f : Drover → Drover) : (s.modDrover f).out = s.out := rfl
@[simp] theorem State.modDrover_free (s : State) (f : Drover → Drover) : (s.modDrover f).free = s.free := rfl
@[simp] theorem State.modDrover_pending (s : State) (f : Drover → Drover) : (s.modDrover f).pending = s.pending := rfl

/-! ### modHost -/

@[simp] theorem State.modHost_dog (s : State) (f : HostIf → HostIf) : (s.modHost f).dog = s.dog := rfl
@[simp] theorem State.modHost_boot (s : State) (f : HostIf → HostIf) : (s.modHost f).boot = s.boot := rfl
@[simp] theorem State.modHost_host (s : State) (f : HostIf → HostIf) : (s.modHost f).host = f s.host := rfl
@[simp] theorem State.modHost_comp (s : State) (f : HostIf → HostIf) : (s.modHost f).comp = s.comp := rfl
@[simp] theorem State.modHost_pens (s : State) (f : HostIf → HostIf) : (s.modHost f).pens = s.pens := rfl
@[simp] theorem State.modHost_drover (s : State) (f : HostIf → HostIf) : (s.modHost f).drover = s.drover := rfl
@[simp] theorem State.modHost_talsen (s : State) (f : HostIf → HostIf) : (s.modHost f).talsen = s.talsen := rfl
@[simp] theorem State.modHost_np (s : State) (f : HostIf → HostIf) : (s.modHost f).np = s.np := rfl
@[simp] theorem State.modHost_fab (s : State) (f : HostIf → HostIf) : (s.modHost f).fab = s.fab := rfl
@[simp] theorem State.modHost_qe (s : State) (f : HostIf → HostIf) : (s.modHost f).qe = s.qe := rfl
@[simp] theorem State.modHost_time (s : State) (f : HostIf → HostIf) : (s.modHost f).time = s.time := rfl
@[simp] theorem State.modHost_coord (s : State) (f : HostIf → HostIf) : (s.modHost f).coord = s.coord := rfl
@[simp] theorem State.modHost_video (s : State) (f : HostIf → HostIf) : (s.modHost f).video = s.video := rfl
@[simp] theorem State.modHost_health (s : State) (f : HostIf → HostIf) : (s.modHost f).health = s.health := rfl
@[simp] theorem State.modHost_out (s : State) (f : HostIf → HostIf) : (s.modHost f).out = s.out := rfl
@[simp] theorem State.modHost_free (s : State) (f : HostIf → HostIf) : (s.modHost f).free = s.free := rfl
@[simp] theorem State.modHost_pending (s : State) (f : HostIf → HostIf) : (s.modHost f).pending = s.pending := rfl

/-! ### modPower -/

@[simp] theorem State.modPower_dog (s : State) (f : Power → Power) : (s.modPower f).dog = s.dog := rfl
@[simp] theorem State.modPower_boot (s : State) (f : Power → Power) : (s.modPower f).boot = s.boot := rfl
@[simp] theorem State.modPower_host (s : State) (f : Power → Power) : (s.modPower f).host = s.host := rfl
@[simp] theorem State.modPower_comp (s : State) (f : Power → Power) : (s.modPower f).comp = s.comp := rfl
@[simp] theorem State.modPower_pens (s : State) (f : Power → Power) : (s.modPower f).pens = s.pens := rfl
@[simp] theorem State.modPower_drover (s : State) (f : Power → Power) : (s.modPower f).drover = s.drover := rfl
@[simp] theorem State.modPower_talsen (s : State) (f : Power → Power) : (s.modPower f).talsen = s.talsen := rfl
@[simp] theorem State.modPower_np (s : State) (f : Power → Power) : (s.modPower f).np = s.np := rfl
@[simp] theorem State.modPower_fab (s : State) (f : Power → Power) : (s.modPower f).fab = s.fab := rfl
@[simp] theorem State.modPower_qe (s : State) (f : Power → Power) : (s.modPower f).qe = s.qe := rfl
@[simp] theorem State.modPower_time (s : State) (f : Power → Power) : (s.modPower f).time = s.time := rfl
@[simp] theorem State.modPower_coord (s : State) (f : Power → Power) : (s.modPower f).coord = s.coord := rfl
@[simp] theorem State.modPower_video (s : State) (f : Power → Power) : (s.modPower f).video = s.video := rfl
@[simp] theorem State.modPower_health (s : State) (f : Power → Power) : (s.modPower f).health = { s.health with power := f s.health.power } := rfl
@[simp] theorem State.modPower_out (s : State) (f : Power → Power) : (s.modPower f).out = s.out := rfl
@[simp] theorem State.modPower_free (s : State) (f : Power → Power) : (s.modPower f).free = s.free := rfl
@[simp] theorem State.modPower_pending (s : State) (f : Power → Power) : (s.modPower f).pending = s.pending := rfl

/-! ### modPen -/

@[simp] theorem State.modPen_dog (s : State) (k : Nat) (f : Pen → Pen) : (s.modPen k f).dog = s.dog := rfl
@[simp] theorem State.modPen_boot (s : State) (k : Nat) (f : Pen → Pen) : (s.modPen k f).boot = s.boot := rfl
@[simp] theorem State.modPen_host (s : State) (k : Nat) (f : Pen → Pen) : (s.modPen k f).host = s.host := rfl
@[simp] theorem State.modPen_comp (s : State) (k : Nat) (f : Pen → Pen) : (s.modPen k f).comp = s.comp := rfl
@[simp] theorem State.modPen_pens (s : State) (k : Nat) (f : Pen → Pen) : (s.modPen k f).pens = s.pens.modify k f := rfl
@[simp] theorem State.modPen_drover (s : State) (k : Nat) (f : Pen → Pen) : (s.modPen k f).drover = s.drover := rfl
@[simp] theorem State.modPen_talsen (s : State) (k : Nat) (f : Pen → Pen) : (s.modPen k f).talsen = s.talsen := rfl
@[simp] theorem State.modPen_np (s : State) (k : Nat) (f : Pen → Pen) : (s.modPen k f).np = s.np := rfl
@[simp] theorem State.modPen_fab (s : State) (k : Nat) (f : Pen → Pen) : (s.modPen k f).fab = s.fab := rfl
@[simp] theorem State.modPen_qe (s : State) (k : Nat) (f : Pen → Pen) : (s.modPen k f).qe = s.qe := rfl
@[simp] theorem State.modPen_time (s : State) (k : Nat) (f : Pen → Pen) : (s.modPen k f).time = s.time := rfl
@[simp] theorem State.modPen_coord (s : State) (k : Nat) (f : Pen → Pen) : (s.modPen k f).coord = s.coord := rfl
@[simp] theorem State.modPen_video (s : State) (k : Nat) (f : Pen → Pen) : (s.modPen k f).video = s.video := rfl
@[simp] theorem State.modPen_health (s : State) (k : Nat) (f : Pen → Pen) : (s.modPen k f).health = s.health := rfl
@[simp] theorem State.modPen_out (s : State) (k : Nat) (f : Pen → Pen) : (s.modPen k f).out = s.out := rfl
@[simp] theorem State.modPen_free (s : State) (k : Nat) (f : Pen → Pen) : (s.modPen k f).free = s.free := rfl
@[simp] theorem State.modPen_pending (s : State) (k : Nat) (f : Pen → Pen) : (s.modPen k f).pending = s.pending := rfl

/-! ### modTalsen -/

@[simp] theorem State.modTalsen_dog (s : State) (k : Nat) (f : Talsen → Talsen) : (s.modTalsen k f).dog = s.dog := rfl
@[simp] theorem State.modTalsen_boot (s : State) (k : Nat) (f : Talsen → Talsen) : (s.modTalsen k f).boot = s.boot := rfl
@[simp] theorem State.modTalsen_host (s : State) (k : Nat) (f : Talsen → Talsen) : (s.modTalsen k f).host = s.host := rfl
@[simp] theorem State.modTalsen_comp (s : State) (k : Nat) (f : Talsen → Talsen) : (s.modTalsen k f).comp = s.comp := rfl
@[simp] theorem State.modTalsen_pens (s : State) (k : Nat) (f : Talsen → Talsen) : (s.modTalsen k f).pens = s.pens := rfl
@[simp] theorem State.modTalsen_drover (s : State) (k : Nat) (f : Talsen → Talsen) : (s.modTalsen k f).drover = s.drover := rfl
@[simp] theorem State.modTalsen_talsen (s : State) (k : Nat) (f : Talsen → Talsen) : (s.modTalsen k f).talsen = s.talsen.modify k f := rfl
@[simp] theorem State.modTalsen_np (s : State) (k : Nat) (f : Talsen → Talsen) : (s.modTalsen k f).np = s.np := rfl
@[simp] theorem State.modTalsen_fab (s : State) (k : Nat) (f : Talsen → Talsen) : (s.modTalsen k f).fab = s.fab := rfl
@[simp] theorem State.modTalsen_qe (s : State) (k : Nat) (f : Talsen → Talsen) : (s.modTalsen k f).qe = s.qe := rfl
@[simp] theorem State.modTalsen_time (s : State) (k : Nat) (f : Talsen → Talsen) : (s.modTalsen k f).time = s.time := rfl
@[simp] theorem State.modTalsen_coord (s : State) (k : Nat) (f : Talsen → Talsen) : (s.modTalsen k f).coord = s.coord := rfl
@[simp] theorem State.modTalsen_video (s : State) (k : Nat) (f : Talsen → Talsen) : (s.modTalsen k f).video = s.video := rfl
@[simp] theorem State.modTalsen_health (s : State) (k : Nat) (f : Talsen → Talsen) : (s.modTalsen k f).health = s.health := rfl
@[simp] theorem State.modTalsen_out (s : State) (k : Nat) (f : Talsen → Talsen) : (s.modTalsen k f).out = s.out := rfl
@[simp] theorem State.modTalsen_free (s : State) (k : Nat) (f : Talsen → Talsen) : (s.modTalsen k f).free = s.free := rfl
@[simp] theorem State.modTalsen_pending (s : State) (k : Nat) (f : Talsen → Talsen) : (s.modTalsen k f).pending = s.pending := rfl

/-! ### modPort -/

@[simp] theorem State.modPort_dog (s : State) (k : Nat) (f : Port → Port) : (s.modPort k f).dog = s.dog := rfl
@[simp] theorem State.modPort_boot (s : State) (k : Nat) (f : Port → Port) : (s.modPort k f).boot = s.boot := rfl
@[simp] theorem State.modPort_host (s : State) (k : Nat) (f : Port → Port) : (s.modPort k f).host = s.host := rfl
@[simp] theorem State.modPort_comp (s : State) (k : Nat) (f : Port → Port) : (s.modPort k f).comp = s.comp := rfl
@[simp] theorem State.modPort_pens (s : State) (k : Nat) (f : Port → Port) : (s.modPort k f).pens = s.pens := rfl
@[simp] theorem State.modPort_drover (s : State) (k : Nat) (f : Port → Port) : (s.modPort k f).drover = s.drover := rfl
@[simp] theorem State.modPort_talsen (s : State) (k : Nat) (f : Port → Port) : (s.modPort k f).talsen = s.talsen := rfl
@[simp] theorem State.modPort_np (s : State) (k : Nat) (f : Port → Port) : (s.modPort k f).np = s.np := rfl
@[simp] theorem State.modPort_fab (s : State) (k : Nat) (f : Port → Port) : (s.modPort k f).fab = { s.fab with ports := s.fab.ports.modify k f } := rfl
@[simp] theorem State.modPort_qe (s : State) (k : Nat) (f : Port → Port) : (s.modPort k f).qe = s.qe := rfl
@[simp] theorem State.modPort_time (s : State) (k : Nat) (f : Port → Port) : (s.modPort k f).time = s.time := rfl
@[simp] theorem State.modPort_coord (s : State) (k : Nat) (f : Port → Port) : (s.modPort k f).coord = s.coord := rfl
@[simp] theorem State.modPort_video (s : State) (k : Nat) (f : Port → Port) : (s.modPort k f).video = s.video := rfl
@[simp] theorem State.modPort_health (s : State) (k : Nat) (f : Port → Port) : (s.modPort k f).health = s.health := rfl
@[simp] theorem State.modPort_out (s : State) (k : Nat) (f : Port → Port) : (s.modPort k f).out = s.out := rfl
@[simp] theorem State.modPort_free (s : State) (k : Nat) (f : Port → Port) : (s.modPort k f).free = s.free := rfl
@[simp] theorem State.modPort_pending (s : State) (k : Nat) (f : Port → Port) : (s.modPort k f).pending = s.pending := rfl

/-! ### modStack -/

@[simp] theorem State.modStack_dog (s : State) (k : Nat) (f : Stack → Stack) : (s.modStack k f).dog = s.dog := rfl
@[simp] theorem State.modStack_boot (s : State) (k : Nat) (f : Stack → Stack) : (s.modStack k f).boot = s.boot := rfl
@[simp] theorem State.modStack_host (s : State) (k : Nat) (f : Stack → Stack) : (s.modStack k f).host = s.host := rfl
@[simp] theorem State.modStack_comp (s : State) (k : Nat) (f : Stack → Stack) : (s.modStack k f).comp = s.comp := rfl
@[simp] theorem State.modStack_pens (s : State) (k : Nat) (f : Stack → Stack) : (s.modStack k f).pens = s.pens := rfl
@[simp] theorem State.modStack_drover (s : State) (k : Nat) (f : Stack → Stack) : (s.modStack k f).drover = s.drover := rfl
@[simp] theorem State.modStack_talsen (s : State) (k : Nat) (f : Stack → Stack) : (s.modStack k f).talsen = s.talsen := rfl
@[simp] theorem State.modStack_np (s : State) (k : Nat) (f : Stack → Stack) : (s.modStack k f).np = { s.np with stackList := s.np.stackList.modify k f } := rfl
@[simp] theorem State.modStack_fab (s : State) (k : Nat) (f : Stack → Stack) : (s.modStack k f).fab = s.fab := rfl
@[simp] theorem State.modStack_qe (s : State) (k : Nat) (f : Stack → Stack) : (s.modStack k f).qe = s.qe := rfl
@[simp] theorem State.modStack_time (s : State) (k : Nat) (f : Stack → Stack) : (s.modStack k f).time = s.time := rfl
@[simp] theorem State.modStack_coord (s : State) (k : Nat) (f : Stack → Stack) : (s.modStack k f).coord = s.coord := rfl
@[simp] theorem State.modStack_video (s : State) (k : Nat) (f : Stack → Stack) : (s.modStack k f).video = s.video := rfl
@[simp] theorem State.modStack_health (s : State) (k : Nat) (f : Stack → Stack) : (s.modStack k f).health = s.health := rfl
@[simp] theorem State.modStack_out (s : State) (k : Nat) (f : Stack → Stack) : (s.modStack k f).out = s.out := rfl
@[simp] theorem State.modStack_free (s : State) (k : Nat) (f : Stack → Stack) : (s.modStack k f).free = s.free := rfl
@[simp] theorem State.modStack_pending (s : State) (k : Nat) (f : Stack → Stack) : (s.modStack k f).pending = s.pending := rfl

/-! ### modFn -/

@[simp] theorem State.modFn_dog (s : State) (k : Nat) (f : FnRegs → FnRegs) : (s.modFn k f).dog = s.dog := rfl
@[simp] theorem State.modFn_boot (s : State) (k : Nat) (f : FnRegs → FnRegs) : (s.modFn k f).boot = s.boot := rfl
@[simp] theorem State.modFn_host (s : State) (k : Nat) (f : FnRegs → FnRegs) : (s.modFn k f).host = { s.host with fns := s.host.fns.modify k f } := rfl
@[simp] theorem State.modFn_comp (s : State) (k : Nat) (f : FnRegs → FnRegs) : (s.modFn k f).comp = s.comp := rfl
@[simp] theorem State.modFn_pens (s : State) (k : Nat) (f : FnRegs → FnRegs) : (s.modFn k f).pens = s.pens := rfl
@[simp] theorem State.modFn_drover (s : State) (k : Nat) (f : FnRegs → FnRegs) : (s.modFn k f).drover = s.drover := rfl
@[simp] theorem State.modFn_talsen (s : State) (k : Nat) (f : FnRegs → FnRegs) : (s.modFn k f).talsen = s.talsen := rfl
@[simp] theorem State.modFn_np (s : State) (k : Nat) (f : FnRegs → FnRegs) : (s.modFn k f).np = s.np := rfl
@[simp] theorem State.modFn_fab (s : State) (k : Nat) (f : FnRegs → FnRegs) : (s.modFn k f).fab = s.fab := rfl
@[simp] theorem State.modFn_qe (s : State) (k : Nat) (f : FnRegs → FnRegs) : (s.modFn k f).qe = s.qe := rfl
@[simp] theorem State.modFn_time (s : State) (k : Nat) (f : FnRegs → FnRegs) : (s.modFn k f).time = s.time := rfl
@[simp] theorem State.modFn_coord (s : State) (k : Nat) (f : FnRegs → FnRegs) : (s.modFn k f).coord = s.coord := rfl
@[simp] theorem State.modFn_video (s : State) (k : Nat) (f : FnRegs → FnRegs) : (s.modFn k f).video = s.video := rfl
@[simp] theorem State.modFn_health (s : State) (k : Nat) (f : FnRegs → FnRegs) : (s.modFn k f).health = s.health := rfl
@[simp] theorem State.modFn_out (s : State) (k : Nat) (f : FnRegs → FnRegs) : (s.modFn k f).out = s.out := rfl
@[simp] theorem State.modFn_free (s : State) (k : Nat) (f : FnRegs → FnRegs) : (s.modFn k f).free = s.free := rfl
@[simp] theorem State.modFn_pending (s : State) (k : Nat) (f : FnRegs → FnRegs) : (s.modFn k f).pending = s.pending := rfl

/-! ### modSlot -/

@[simp] theorem State.modSlot_dog (s : State) (k : Nat) (f : Mailbox → Mailbox) : (s.modSlot k f).dog = s.dog := rfl
@[simp] theorem State.modSlot_boot (s : State) (k : Nat) (f : Mailbox → Mailbox) : (s.modSlot k f).boot = s.boot := rfl
@[simp] theorem State.modSlot_host (s : State) (k : Nat) (f : Mailbox → Mailbox) : (s.modSlot k f).host = { s.host with slots := s.host.slots.modify k f } := rfl
@[simp] theorem State.modSlot_comp (s : State) (k : Nat) (f : Mailbox → Mailbox) : (s.modSlot k f).comp = s.comp := rfl
@[simp] theorem State.modSlot_pens (s : State) (k : Nat) (f : Mailbox → Mailbox) : (s.modSlot k f).pens = s.pens := rfl
@[simp] theorem State.modSlot_drover (s : State) (k : Nat) (f : Mailbox → Mailbox) : (s.modSlot k f).drover = s.drover := rfl
@[simp] theorem State.modSlot_talsen (s : State) (k : Nat) (f : Mailbox → Mailbox) : (s.modSlot k f).talsen = s.talsen := rfl
@[simp] theorem State.modSlot_np (s : State) (k : Nat) (f : Mailbox → Mailbox) : (s.modSlot k f).np = s.np := rfl
@[simp] theorem State.modSlot_fab (s : State) (k : Nat) (f : Mailbox → Mailbox) : (s.modSlot k f).fab = s.fab := rfl
@[simp] theorem State.modSlot_qe (s : State) (k : Nat) (f : Mailbox → Mailbox) : (s.modSlot k f).qe = s.qe := rfl
@[simp] theorem State.modSlot_time (s : State) (k : Nat) (f : Mailbox → Mailbox) : (s.modSlot k f).time = s.time := rfl
@[simp] theorem State.modSlot_coord (s : State) (k : Nat) (f : Mailbox → Mailbox) : (s.modSlot k f).coord = s.coord := rfl
@[simp] theorem State.modSlot_video (s : State) (k : Nat) (f : Mailbox → Mailbox) : (s.modSlot k f).video = s.video := rfl
@[simp] theorem State.modSlot_health (s : State) (k : Nat) (f : Mailbox → Mailbox) : (s.modSlot k f).health = s.health := rfl
@[simp] theorem State.modSlot_out (s : State) (k : Nat) (f : Mailbox → Mailbox) : (s.modSlot k f).out = s.out := rfl
@[simp] theorem State.modSlot_free (s : State) (k : Nat) (f : Mailbox → Mailbox) : (s.modSlot k f).free = s.free := rfl
@[simp] theorem State.modSlot_pending (s : State) (k : Nat) (f : Mailbox → Mailbox) : (s.modSlot k f).pending = s.pending := rfl

/-! ### modFold -/

@[simp] theorem State.modFold_dog (s : State) (k : Nat) (f : Fold → Fold) : (s.modFold k f).dog = s.dog := rfl
@[simp] theorem State.modFold_boot (s : State) (k : Nat) (f : Fold → Fold) : (s.modFold k f).boot = s.boot := rfl
@[simp] theorem State.modFold_host (s : State) (k : Nat) (f : Fold → Fold) : (s.modFold k f).host = s.host := rfl
@[simp] theorem State.modFold_comp (s : State) (k : Nat) (f : Fold → Fold) : (s.modFold k f).comp = { s.comp with folds := s.comp.folds.modify k f } := rfl
@[simp] theorem State.modFold_pens (s : State) (k : Nat) (f : Fold → Fold) : (s.modFold k f).pens = s.pens := rfl
@[simp] theorem State.modFold_drover (s : State) (k : Nat) (f : Fold → Fold) : (s.modFold k f).drover = s.drover := rfl
@[simp] theorem State.modFold_talsen (s : State) (k : Nat) (f : Fold → Fold) : (s.modFold k f).talsen = s.talsen := rfl
@[simp] theorem State.modFold_np (s : State) (k : Nat) (f : Fold → Fold) : (s.modFold k f).np = s.np := rfl
@[simp] theorem State.modFold_fab (s : State) (k : Nat) (f : Fold → Fold) : (s.modFold k f).fab = s.fab := rfl
@[simp] theorem State.modFold_qe (s : State) (k : Nat) (f : Fold → Fold) : (s.modFold k f).qe = s.qe := rfl
@[simp] theorem State.modFold_time (s : State) (k : Nat) (f : Fold → Fold) : (s.modFold k f).time = s.time := rfl
@[simp] theorem State.modFold_coord (s : State) (k : Nat) (f : Fold → Fold) : (s.modFold k f).coord = s.coord := rfl
@[simp] theorem State.modFold_video (s : State) (k : Nat) (f : Fold → Fold) : (s.modFold k f).video = s.video := rfl
@[simp] theorem State.modFold_health (s : State) (k : Nat) (f : Fold → Fold) : (s.modFold k f).health = s.health := rfl
@[simp] theorem State.modFold_out (s : State) (k : Nat) (f : Fold → Fold) : (s.modFold k f).out = s.out := rfl
@[simp] theorem State.modFold_free (s : State) (k : Nat) (f : Fold → Fold) : (s.modFold k f).free = s.free := rfl
@[simp] theorem State.modFold_pending (s : State) (k : Nat) (f : Fold → Fold) : (s.modFold k f).pending = s.pending := rfl

/-! ### quiet -/

@[simp] theorem State.quiet_dog (s : State) : (s.quiet).dog = s.dog := rfl
@[simp] theorem State.quiet_boot (s : State) : (s.quiet).boot = s.boot := rfl
@[simp] theorem State.quiet_host (s : State) : (s.quiet).host = s.host := rfl
@[simp] theorem State.quiet_comp (s : State) : (s.quiet).comp = s.comp := rfl
@[simp] theorem State.quiet_pens (s : State) : (s.quiet).pens = s.pens := rfl
@[simp] theorem State.quiet_drover (s : State) : (s.quiet).drover = s.drover := rfl
@[simp] theorem State.quiet_talsen (s : State) : (s.quiet).talsen = s.talsen := rfl
@[simp] theorem State.quiet_np (s : State) : (s.quiet).np = s.np := rfl
@[simp] theorem State.quiet_fab (s : State) : (s.quiet).fab = s.fab := rfl
@[simp] theorem State.quiet_qe (s : State) : (s.quiet).qe = s.qe := rfl
@[simp] theorem State.quiet_time (s : State) : (s.quiet).time = s.time := rfl
@[simp] theorem State.quiet_coord (s : State) : (s.quiet).coord = s.coord := rfl
@[simp] theorem State.quiet_video (s : State) : (s.quiet).video = s.video := rfl
@[simp] theorem State.quiet_health (s : State) : (s.quiet).health = s.health := rfl
@[simp] theorem State.quiet_out (s : State) : (s.quiet).out = [] := rfl
@[simp] theorem State.quiet_free (s : State) : (s.quiet).free = s.free := rfl
@[simp] theorem State.quiet_pending (s : State) : (s.quiet).pending = s.pending := rfl

/-! ### emit -/

@[simp] theorem State.emit_dog (s : State) (o : Output) : (s.emit o).dog = s.dog := rfl
@[simp] theorem State.emit_boot (s : State) (o : Output) : (s.emit o).boot = s.boot := rfl
@[simp] theorem State.emit_host (s : State) (o : Output) : (s.emit o).host = s.host := rfl
@[simp] theorem State.emit_comp (s : State) (o : Output) : (s.emit o).comp = s.comp := rfl
@[simp] theorem State.emit_pens (s : State) (o : Output) : (s.emit o).pens = s.pens := rfl
@[simp] theorem State.emit_drover (s : State) (o : Output) : (s.emit o).drover = s.drover := rfl
@[simp] theorem State.emit_talsen (s : State) (o : Output) : (s.emit o).talsen = s.talsen := rfl
@[simp] theorem State.emit_np (s : State) (o : Output) : (s.emit o).np = s.np := rfl
@[simp] theorem State.emit_fab (s : State) (o : Output) : (s.emit o).fab = s.fab := rfl
@[simp] theorem State.emit_qe (s : State) (o : Output) : (s.emit o).qe = s.qe := rfl
@[simp] theorem State.emit_time (s : State) (o : Output) : (s.emit o).time = s.time := rfl
@[simp] theorem State.emit_coord (s : State) (o : Output) : (s.emit o).coord = s.coord := rfl
@[simp] theorem State.emit_video (s : State) (o : Output) : (s.emit o).video = s.video := rfl
@[simp] theorem State.emit_health (s : State) (o : Output) : (s.emit o).health = s.health := rfl
@[simp] theorem State.emit_out (s : State) (o : Output) : (s.emit o).out = s.out ++ [o] := rfl
@[simp] theorem State.emit_free (s : State) (o : Output) : (s.emit o).free = s.free := rfl
@[simp] theorem State.emit_pending (s : State) (o : Output) : (s.emit o).pending = s.pending := rfl

end Sys2Proof.Machine
end

