-- ==== Sys2Proof/Laws/Quiet.lean ====
section
/-! SUPPORT. Emptying the outputs changes nothing that a command reads, and neither does taking a request, but for the slot. -/

-- One proof at a time: the package as one text otherwise asks for more threads than its memory limit allows.
set_option Elab.async false
set_option linter.all false

namespace Sys2Proof.Machine

@[simp] theorem State.taken_dog (s : State) (fn : Fin 9) (slot : Fin 4) : (s.taken fn slot).dog = s.dog := rfl
@[simp] theorem State.taken_boot (s : State) (fn : Fin 9) (slot : Fin 4) : (s.taken fn slot).boot = s.boot := rfl
@[simp] theorem State.taken_comp (s : State) (fn : Fin 9) (slot : Fin 4) : (s.taken fn slot).comp = s.comp := rfl
@[simp] theorem State.taken_pens (s : State) (fn : Fin 9) (slot : Fin 4) : (s.taken fn slot).pens = s.pens := rfl
@[simp] theorem State.taken_drover (s : State) (fn : Fin 9) (slot : Fin 4) : (s.taken fn slot).drover = s.drover := rfl
@[simp] theorem State.taken_talsen (s : State) (fn : Fin 9) (slot : Fin 4) : (s.taken fn slot).talsen = s.talsen := rfl
@[simp] theorem State.taken_np (s : State) (fn : Fin 9) (slot : Fin 4) : (s.taken fn slot).np = s.np := rfl
@[simp] theorem State.taken_fab (s : State) (fn : Fin 9) (slot : Fin 4) : (s.taken fn slot).fab = s.fab := rfl
@[simp] theorem State.taken_qe (s : State) (fn : Fin 9) (slot : Fin 4) : (s.taken fn slot).qe = s.qe := rfl
@[simp] theorem State.taken_time (s : State) (fn : Fin 9) (slot : Fin 4) : (s.taken fn slot).time = s.time := rfl
@[simp] theorem State.taken_coord (s : State) (fn : Fin 9) (slot : Fin 4) : (s.taken fn slot).coord = s.coord := rfl
@[simp] theorem State.taken_video (s : State) (fn : Fin 9) (slot : Fin 4) : (s.taken fn slot).video = s.video := rfl
@[simp] theorem State.taken_free (s : State) (fn : Fin 9) (slot : Fin 4) : (s.taken fn slot).free = s.free := rfl
@[simp] theorem State.taken_pending (s : State) (fn : Fin 9) (slot : Fin 4) : (s.taken fn slot).pending = s.pending := rfl
@[simp] theorem State.quiet_slotOperand (s : State) (d : List Byte) (k : Nat) : s.quiet.slotOperand d k = s.slotOperand d k := rfl
@[simp] theorem State.quiet_atn (s : State) (d : List Byte) : s.quiet.atn d = s.atn d := rfl
@[simp] theorem State.quiet_bytesField (s : State) (o : Operand) (off n : Nat) : s.quiet.bytesField o off n = s.bytesField o off n := rfl
@[simp] theorem State.quiet_seqRec (s : State) (a : Atn) (n : Nat) : s.quiet.seqRec a n = s.seqRec a n := rfl
@[simp] theorem State.quiet_pageEntry (s : State) (a : Atn) (i : Nat) : s.quiet.pageEntry a i = s.pageEntry a i := rfl
@[simp] theorem State.quiet_newKv (s : State) (a : Atn) (r : SeqRec) (isV : Bool) (kh i ch : Nat) : s.quiet.newKv a r isV kh i ch = s.newKv a r isV kh i ch := rfl
@[simp] theorem State.quiet_kvScale (s : State) (d : List Byte) (a : Atn) (r : SeqRec) (isV : Bool) (page kh c : Nat) : s.quiet.kvScale d a r isV page kh c = s.kvScale d a r isV page kh c := rfl
@[simp] theorem State.quiet_pagedKv (s : State) (d : List Byte) (a : Atn) (r : SeqRec) (isV : Bool) (kh j ch : Nat) : s.quiet.pagedKv d a r isV kh j ch = s.pagedKv d a r isV kh j ch := rfl
@[simp] theorem State.quiet_kvAt (s : State) (d : List Byte) (a : Atn) (r : SeqRec) (isV : Bool) (kh j ch : Nat) : s.quiet.kvAt d a r isV kh j ch = s.kvAt d a r isV kh j ch := rfl
@[simp] theorem State.quiet_appendPart (s : State) (d : List Byte) (a : Atn) (n : Nat) : s.quiet.appendPart d a n = s.appendPart d a n := rfl
@[simp] theorem State.quiet_admits (s : State) (d : List Byte) (a : Atn) (r : SeqRec) (i j : Nat) : s.quiet.admits d a r i j = s.admits d a r i j := rfl
@[simp] theorem State.quiet_score (s : State) (d : List Byte) (a : Atn) (r : SeqRec) (h i j : Nat) : s.quiet.score d a r h i j = s.score d a r h i j := rfl
@[simp] theorem State.quiet_scores (s : State) (d : List Byte) (a : Atn) (r : SeqRec) (h i : Nat) : s.quiet.scores d a r h i = s.scores d a r h i := rfl
@[simp] theorem State.quiet_valueGroups (s : State) (d : List Byte) (a : Atn) (r : SeqRec) (kh blk : Nat) (p : Nat → Option Val)   (acc : List Nat) : s.quiet.valueGroups d a r kh blk p acc = s.valueGroups d a r kh blk p acc := rfl
@[simp] theorem State.quiet_attendBlock (s : State) (d : List Byte) (a : Atn) (r : SeqRec) (kh : Nat) (sc : List (Nat × Val)) (st : RowState)   (blk : Nat) : s.quiet.attendBlock d a r kh sc st blk = s.attendBlock d a r kh sc st blk := rfl
@[simp] theorem State.quiet_rowNan (s : State) (d : List Byte) (a : Atn) (r : SeqRec) (h i : Nat) (sc : List (Nat × Val)) : s.quiet.rowNan d a r h i sc = s.rowNan d a r h i sc := rfl
@[simp] theorem State.quiet_attendRow (s : State) (d : List Byte) (a : Atn) (r : SeqRec) (h i : Nat) : s.quiet.attendRow d a r h i = s.attendRow d a r h i := rfl
@[simp] theorem State.quiet_putRow (s : State) (d : List Byte) (a : Atn) (h row : Nat) (x : RowOut) : s.quiet.putRow d a h row x = s.putRow d a h row x := rfl
@[simp] theorem State.quiet_fillPart (s : State) (d : List Byte) (a : Atn) : s.quiet.fillPart d a = s.fillPart d a := rfl
@[simp] theorem State.quiet_bwdRow (s : State) (d : List Byte) (a : Atn) (r : SeqRec) (h i : Nat) : s.quiet.bwdRow d a r h i = s.bwdRow d a r h i := rfl
@[simp] theorem State.quiet_dqPart (s : State) (d : List Byte) (a : Atn) (r : SeqRec) (h i : Nat) : s.quiet.dqPart d a r h i = s.dqPart d a r h i := rfl
@[simp] theorem State.quiet_dkvPart (s : State) (d : List Byte) (a : Atn) (r : SeqRec) (kh lo hi : Nat) : s.quiet.dkvPart d a r kh lo hi = s.dkvPart d a r kh lo hi := rfl
@[simp] theorem State.quiet_atnTiles (s : State) (d : List Byte) : s.quiet.atnTiles d = s.atnTiles d := rfl
@[simp] theorem State.quiet_atnFill (s : State) (d : List Byte) : s.quiet.atnFill d = s.atnFill d := rfl
@[simp] theorem State.quiet_atnFault (s : State) (d : List Byte) : s.quiet.atnFault d = s.atnFault d := rfl
@[simp] theorem State.quiet_fill (s : State) (addrs : List Nat) : s.quiet.fill addrs = s.fill addrs := rfl
@[simp] theorem State.quiet_operandAddrs (s : State) (pen : Nat) (t : Tensor) (lins : List Nat) : s.quiet.operandAddrs pen t lins = s.operandAddrs pen t lins := rfl
@[simp] theorem State.quiet_baseAddrs (s : State) (t : Tensor) (lins : List Nat) : s.quiet.baseAddrs t lins = s.baseAddrs t lins := rfl
@[simp] theorem State.quiet_loadTile (s : State) (o : Operand) (lins : List Nat) : s.quiet.loadTile o lins = s.loadTile o lins := rfl
@[simp] theorem State.quiet_taskTiles (s : State) (o : Op) (t : Task) : s.quiet.taskTiles o t = s.taskTiles o t := rfl
@[simp] theorem State.quiet_granulesRead (s : State) (o : Op) (t : Task) (x : Operand) : s.quiet.granulesRead o t x = s.granulesRead o t x := rfl
@[simp] theorem State.quiet_blockDone (s : State) (id : Nat) (block : List Nat) : s.quiet.blockDone id block = s.blockDone id block := rfl
@[simp] theorem State.quiet_racyBytes (s : State) (o : Op) : s.quiet.racyBytes o = s.racyBytes o := rfl
@[simp] theorem State.quiet_undone (s : State) (o : Op) (half : AccHalf) : s.quiet.undone o half = s.undone o half := rfl
@[simp] theorem State.quiet_gangStream (s : State) (o : Op) (t : Task) : s.quiet.gangStream o t = s.gangStream o t := rfl
@[simp] theorem State.quiet_stationaryHandles (s : State) (o : Op) : s.quiet.stationaryHandles o = s.stationaryHandles o := rfl
@[simp] theorem State.quiet_isBellwether (s : State) : s.quiet.isBellwether = s.isBellwether := rfl
@[simp] theorem State.quiet_isDeputy (s : State) : s.quiet.isDeputy = s.isDeputy := rfl
@[simp] theorem State.quiet_beaconPacket (s : State) (f : Nat → Bool) : s.quiet.beaconPacket f = s.beaconPacket f := rfl
@[simp] theorem State.quiet_jobOpt (s : State) (key : B16) : s.quiet.job? key = s.job? key := rfl
@[simp] theorem State.quiet_deviceServes (s : State) (c : B16) : s.quiet.deviceServes c = s.deviceServes c := rfl
@[simp] theorem State.quiet_substitute (s : State) (j : Job) (spare : DWord) (c : B16) : s.quiet.substitute j spare c = s.substitute j spare c := rfl
@[simp] theorem State.quiet_brokenPorts (s : State) : s.quiet.brokenPorts = s.brokenPorts := rfl
@[simp] theorem State.quiet_waitingHead (s : State) (q : Queue) : s.quiet.waitingHead q = s.waitingHead q := rfl
@[simp] theorem State.quiet_inUse (s : State) (h : Nat) : s.quiet.inUse h = s.inUse h := rfl
@[simp] theorem State.quiet_freeRun (s : State) (n : Nat) : s.quiet.freeRun n = s.freeRun n := rfl
@[simp] theorem State.quiet_plainReads (s : State) (d : List Byte) : s.quiet.plainReads d = s.plainReads d := rfl
@[simp] theorem State.quiet_raceOf (s : State) (reads writes : List Byte) : s.quiet.raceOf reads writes = s.raceOf reads writes := rfl
@[simp] theorem State.quiet_queuedOn (s : State) (p deadline : Nat) : s.quiet.queuedOn p deadline = s.queuedOn p deadline := rfl
@[simp] theorem State.quiet_predictFetch (s : State) (t : Tensor) (deadline : Nat) : s.quiet.predictFetch t deadline = s.predictFetch t deadline := rfl
@[simp] theorem State.quiet_macs (s : State) (d : List Byte) : s.quiet.macs d = s.macs d := rfl
@[simp] theorem State.quiet_atnBlocks (s : State) (d : List Byte) (a : Atn) (r : SeqRec) : s.quiet.atnBlocks d a r = s.atnBlocks d a r := rfl
@[simp] theorem State.quiet_work (s : State) (d : List Byte) : s.quiet.work d = s.work d := rfl
@[simp] theorem State.quiet_opDeadline (s : State) (o : Op) : s.quiet.opDeadline o = s.opDeadline o := rfl
@[simp] theorem State.quiet_rankDeadline (s : State) (o : Op) : s.quiet.rankDeadline o = s.rankDeadline o := rfl
@[simp] theorem State.quiet_slotsFree (s : State) (deadline : Nat) : s.quiet.slotsFree deadline = s.slotsFree deadline := rfl
@[simp] theorem State.quiet_predictRecipe (s : State) (t : Tensor) (deadline : Nat) : s.quiet.predictRecipe t deadline = s.predictRecipe t deadline := rfl
@[simp] theorem State.quiet_needDeadline (s : State) (h : Nat) : s.quiet.needDeadline h = s.needDeadline h := rfl
@[simp] theorem State.quiet_protected (s : State) (h : Nat) : s.quiet.protected h = s.protected h := rfl
@[simp] theorem State.quiet_age (s : State) (t : Tensor) : s.quiet.age t = s.age t := rfl
@[simp] theorem State.quiet_candidate (s : State) (r : AllocReq) (p : Nat) (t : Tensor) : s.quiet.candidate r p t = s.candidate r p t := rfl
@[simp] theorem State.quiet_victimRank (s : State) (p : Nat) (t : Tensor) : s.quiet.victimRank p t = s.victimRank p t := rfl
@[simp] theorem State.quiet_chooseVictim (s : State) (r : AllocReq) : s.quiet.chooseVictim r = s.chooseVictim r := rfl
@[simp] theorem State.quiet_farInFlight (s : State) : s.quiet.farInFlight = s.farInFlight := rfl
@[simp] theorem State.quiet_fetchOrder (s : State) : s.quiet.fetchOrder = s.fetchOrder := rfl
@[simp] theorem State.quiet_demandDeadline (s : State) (o : Op) (h : Nat) : s.quiet.demandDeadline o h = s.demandDeadline o h := rfl
@[simp] theorem State.quiet_nominalFetch (s : State) (pen : Nat) (t : Tensor) : s.quiet.nominalFetch pen t = s.nominalFetch pen t := rfl
@[simp] theorem State.quiet_nominalCopy (s : State) (t : Tensor) : s.quiet.nominalCopy t = s.nominalCopy t := rfl
@[simp] theorem State.quiet_nominalRecipe (s : State) (t : Tensor) : s.quiet.nominalRecipe t = s.nominalRecipe t := rfl
@[simp] theorem State.quiet_wantsWriteBehind (s : State) (pen : Nat) (t : Tensor) : s.quiet.wantsWriteBehind pen t = s.wantsWriteBehind pen t := rfl
@[simp] theorem State.quiet_sharedFits (s : State) : s.quiet.sharedFits = s.sharedFits := rfl
@[simp] theorem State.quiet_stalled (s : State) (t : Tensor) : s.quiet.stalled t = s.stalled t := rfl
@[simp] theorem State.quiet_sessionOpt (s : State) (n : Nat) : s.quiet.session? n = s.session? n := rfl
@[simp] theorem State.quiet_healthLeft (s : State) : s.quiet.healthLeft = s.healthLeft := rfl
@[simp] theorem State.quiet_presenceFails (s : State) (session : Bool) : s.quiet.presenceFails session = s.presenceFails session := rfl
@[simp] theorem State.quiet_baseNamed (s : State) (n : Nat) : s.quiet.baseNamed n = s.baseNamed n := rfl
@[simp] theorem State.quiet_skipped (s : State) (coord : B16) (placed leave : Bool) : s.quiet.skipped coord placed leave = s.skipped coord placed leave := rfl
@[simp] theorem State.quiet_placementOk (s : State) (b : List Byte) (x : Placement) : s.quiet.placementOk b x = s.placementOk b x := rfl
@[simp] theorem State.quiet_ringOk (s : State) (pen addr bytes : Nat) : s.quiet.ringOk pen addr bytes = s.ringOk pen addr bytes := rfl
@[simp] theorem State.quiet_queueFieldsOk (s : State) (q : Queue) : s.quiet.queueFieldsOk q = s.queueFieldsOk q := rfl
@[simp] theorem State.quiet_freeContext (s : State) (encode : Bool) : s.quiet.freeContext encode = s.freeContext encode := rfl
@[simp] theorem State.quiet_unreserved (s : State) (pen : Nat) : s.quiet.unreserved pen = s.unreserved pen := rfl
@[simp] theorem State.quiet_recoveryRecord (s : State) (p : Pen) : s.quiet.recoveryRecord p = s.recoveryRecord p := rfl
@[simp] theorem State.quiet_baseFits (s : State) (t : Tensor) : s.quiet.baseFits t = s.baseFits t := rfl
@[simp] theorem State.quiet_entryOk (s : State) (pen : Nat) (e sh : List Byte) (t : Tensor) : s.quiet.entryOk pen e sh t = s.entryOk pen e sh t := rfl
@[simp] theorem State.quiet_encodeSourceOk (s : State) (pen h : Nat) (t : Tensor) : s.quiet.encodeSourceOk pen h t = s.encodeSourceOk pen h t := rfl
@[simp] theorem State.quiet_plainTensor (s : State) (pen h : Nat) : s.quiet.plainTensor pen h = s.plainTensor pen h := rfl
@[simp] theorem State.quiet_recipeOk (s : State) (pen h : Nat) (ds : List (List Byte)) : s.quiet.recipeOk pen h ds = s.recipeOk pen h ds := rfl
@[simp] theorem State.quiet_bound (s : State) (pen : Nat) (t : Tensor) : s.quiet.bound pen t = s.bound pen t := rfl
@[simp] theorem State.quiet_queuesOnAxis (s : State) (axis : Nat) : s.quiet.queuesOnAxis axis = s.queuesOnAxis axis := rfl
@[simp] theorem State.quiet_linkBroken (s : State) (axis at' : Nat) : s.quiet.linkBroken axis at' = s.linkBroken axis at' := rfl
@[simp] theorem State.quiet_inProgress (s : State) (input cls : Nat) : s.quiet.inProgress input cls = s.inProgress input cls := rfl
@[simp] theorem State.quiet_heldPackets (s : State) (port : Nat) : s.quiet.heldPackets port = s.heldPackets port := rfl
@[simp] theorem State.quiet_portDisabled (s : State) (port : Nat) : s.quiet.portDisabled port = s.portDisabled port := rfl
@[simp] theorem State.quiet_peerExpected (s : State) (port : Nat) (coord extent : B16) (peer : Nat) : s.quiet.peerExpected port coord extent peer = s.peerExpected port coord extent peer := rfl
@[simp] theorem State.quiet_onward (s : State) (fromPort : Bool) (p : Packet) : s.quiet.onward fromPort p = s.onward fromPort p := rfl
@[simp] theorem State.quiet_routePacket (s : State) (fromPort : Bool) (p : Packet) : s.quiet.routePacket fromPort p = s.routePacket fromPort p := rfl
@[simp] theorem State.quiet_inputHead (s : State) (input cls : Nat) : s.quiet.inputHead input cls = s.inputHead input cls := rfl
@[simp] theorem State.quiet_newFor (s : State) (port : Nat) : s.quiet.newFor port = s.newFor port := rfl
@[simp] theorem State.quiet_readyFor (s : State) (port : Nat) : s.quiet.readyFor port = s.readyFor port := rfl
@[simp] theorem State.quiet_nextTurn (s : State) (port : Nat) : s.quiet.nextTurn port = s.nextTurn port := rfl
@[simp] theorem State.quiet_sendingFrom (s : State) (input cls : Nat) : s.quiet.sendingFrom input cls = s.sendingFrom input cls := rfl
@[simp] theorem State.quiet_encodeUnits (s : State) (o : Operand) (l : List (Nat × Val × Rounding)) : s.quiet.encodeUnits o l = s.encodeUnits o l := rfl
@[simp] theorem State.quiet_writeUnits (s : State) (d : List Byte) (prev staged : List (Nat × Nat × Val)) (last : Bool) : s.quiet.writeUnits d prev staged last = s.writeUnits d prev staged last := rfl
@[simp] theorem State.quiet_accTurn (s : State) (o : Op) : s.quiet.accTurn o = s.accTurn o := rfl
@[simp] theorem State.quiet_readersOf (s : State) (id : ChunkId) : s.quiet.readersOf id = s.readersOf id := rfl
@[simp] theorem State.quiet_workEnded (s : State) (failed : Nat) : s.quiet.workEnded failed = s.workEnded failed := rfl
@[simp] theorem State.quiet_spareOf (s : State) (die : Nat) : s.quiet.spareOf die = s.spareOf die := rfl
@[simp] theorem State.quiet_takeoverSlot (s : State) : s.quiet.takeoverSlot = s.takeoverSlot := rfl
@[simp] theorem State.quiet_bar4Bytes (s : State) (fn : Nat) : s.quiet.bar4Bytes fn = s.bar4Bytes fn := rfl
@[simp] theorem State.quiet_deviceSerial (s : State) : s.quiet.deviceSerial = s.deviceSerial := rfl
@[simp] theorem State.quiet_dropsWrite (s : State) (fn off : Nat) : s.quiet.dropsWrite fn off = s.dropsWrite fn off := rfl
@[simp] theorem State.quiet_windowPen (s : State) (fn : Nat) : s.quiet.windowPen fn = s.windowPen fn := rfl
@[simp] theorem State.quiet_windowAddr (s : State) (fn off : Nat) : s.quiet.windowAddr fn off = s.windowAddr fn off := rfl
@[simp] theorem State.quiet_windowTarget (s : State) (fn off : Nat) : s.quiet.windowTarget fn off = s.windowTarget fn off := rfl
@[simp] theorem State.quiet_i3cServes (s : State) : s.quiet.i3cServes = s.i3cServes := rfl
@[simp] theorem State.quiet_i3cByte (s : State) (o : Nat) : s.quiet.i3cByte o = s.i3cByte o := rfl
@[simp] theorem State.quiet_i3cPid (s : State) : s.quiet.i3cPid = s.i3cPid := rfl
@[simp] theorem State.quiet_liveOpt (s : State) (h : Nat) : s.quiet.live? h = s.live? h := rfl
@[simp] theorem State.quiet_badView (s : State) (d : List Byte) (n : Nat) : s.quiet.badView d n = s.badView d n := rfl
@[simp] theorem State.quiet_badTScale (s : State) (d : List Byte) (u : Used) : s.quiet.badTScale d u = s.badTScale d u := rfl
@[simp] theorem State.quiet_gemmShapeOk (s : State) (d : List Byte) (a b c : Operand) : s.quiet.gemmShapeOk d a b c = s.gemmShapeOk d a b c := rfl
@[simp] theorem State.quiet_convGeometryOk (s : State) (d : List Byte) (r0 r1 r2 : Operand) : s.quiet.convGeometryOk d r0 r1 r2 = s.convGeometryOk d r0 r1 r2 := rfl
@[simp] theorem State.quiet_normShapeOk (s : State) (d : List Byte) (x y : Operand) : s.quiet.normShapeOk d x y = s.normShapeOk d x y := rfl
@[simp] theorem State.quiet_lossShapeOk (s : State) (d : List Byte) (p t out : Operand) : s.quiet.lossShapeOk d p t out = s.lossShapeOk d p t out := rfl
@[simp] theorem State.quiet_shapeRuleOk (s : State) (d : List Byte) : s.quiet.shapeRuleOk d = s.shapeRuleOk d := rfl
@[simp] theorem State.quiet_inPlaceOk (s : State) (d : List Byte) : s.quiet.inPlaceOk d = s.inPlaceOk d := rfl
@[simp] theorem State.quiet_labelsOk (s : State) (d : List Byte) : s.quiet.labelsOk d = s.labelsOk d := rfl
@[simp] theorem State.quiet_moveOk (s : State) (d : List Byte) : s.quiet.moveOk d = s.moveOk d := rfl
@[simp] theorem State.quiet_collOk (s : State) (d : List Byte) : s.quiet.collOk d = s.collOk d := rfl
@[simp] theorem State.quiet_formatsOk (s : State) (d : List Byte) : s.quiet.formatsOk d = s.formatsOk d := rfl
@[simp] theorem State.quiet_atnShapeOk (s : State) (d : List Byte) : s.quiet.atnShapeOk d = s.atnShapeOk d := rfl
@[simp] theorem State.quiet_atnFormatOk (s : State) (d : List Byte) : s.quiet.atnFormatOk d = s.atnFormatOk d := rfl
@[simp] theorem State.quiet_pageParamOk (s : State) (d : List Byte) : s.quiet.pageParamOk d = s.pageParamOk d := rfl
@[simp] theorem State.quiet_seqTableOk (s : State) (d : List Byte) : s.quiet.seqTableOk d = s.seqTableOk d := rfl
@[simp] theorem State.quiet_commonErrors (s : State) (q : Queue) (d : List Byte) : s.quiet.commonErrors q d = s.commonErrors q d := rfl
@[simp] theorem State.quiet_matErrors (s : State) (d : List Byte) : s.quiet.matErrors d = s.matErrors d := rfl
@[simp] theorem State.quiet_opErrors (s : State) (d : List Byte) : s.quiet.opErrors d = s.opErrors d := rfl
@[simp] theorem State.quiet_issueError (s : State) (q : Queue) (d : List Byte) : s.quiet.issueError q d = s.issueError q d := rfl
@[simp] theorem State.quiet_parseItinerary (s : State) (pen : Nat) (b : List Byte) : s.quiet.parseItinerary pen b = s.parseItinerary pen b := rfl
@[simp] theorem State.quiet_bootHandler (s : State) : s.quiet.bootHandler = s.bootHandler := rfl
@[simp] theorem State.quiet_served (s : State) : s.quiet.served = s.served := rfl
@[simp] theorem State.quiet_precheck (s : State) (fn slot : Nat) (m : Mailbox) : s.quiet.precheck fn slot m = s.precheck fn slot m := rfl
@[simp] theorem State.quiet_slotDue (s : State) : s.quiet.slotDue = s.slotDue := rfl
@[simp] theorem State.quiet_goServed (s : State) : s.quiet.goServed = s.goServed := rfl
@[simp] theorem State.quiet_busySlots (s : State) (op : Nat) (p : List Byte → Bool) : s.quiet.busySlots op p = s.busySlots op p := rfl
@[simp] theorem State.quiet_jobActive (s : State) : s.quiet.jobActive = s.jobActive := rfl
@[simp] theorem State.quiet_firstFar (s : State) (hs : List Nat) : s.quiet.firstFar hs = s.firstFar hs := rfl
@[simp] theorem State.quiet_engineVal (s : State) (o : Operand) (c : List Nat) : s.quiet.engineVal o c = s.engineVal o c := rfl
@[simp] theorem State.quiet_operandScale (s : State) (o : Operand) : s.quiet.operandScale o = s.operandScale o := rfl
@[simp] theorem State.quiet_matProduct (s : State) (d : List Byte) (o0 o1 o2 : Operand) (b r c k : Nat) : s.quiet.matProduct d o0 o1 o2 b r c k = s.matProduct d o0 o1 o2 b r c k := rfl
@[simp] theorem State.quiet_epilogue (s : State) (d : List Byte) (int : Bool) (o0 o1 o2 : Operand) (bias res aux : Option Operand)   (c : List Nat) (w : Nat) : s.quiet.epilogue d int o0 o1 o2 bias res aux c w = s.epilogue d int o0 o1 o2 bias res aux c w := rfl
@[simp] theorem State.quiet_matrixEntries (s : State) (d : List Byte) (ref1Stationary : Bool) (tile : Tile) (planeIn : Option Nat) : s.quiet.matrixEntries d ref1Stationary tile planeIn = s.matrixEntries d ref1Stationary tile planeIn := rfl
@[simp] theorem State.quiet_matrixPart (s : State) (d : List Byte) (tile : Tile) (entries : List (Nat × Nat × Nat × Bool))   (planeOut : Option Nat) : s.quiet.matrixPart d tile entries planeOut = s.matrixPart d tile entries planeOut := rfl
@[simp] theorem State.quiet_npBlocked (s : State) (src : NpSource) (a : Nat) : s.quiet.npBlocked src a = s.npBlocked src a := rfl
@[simp] theorem State.quiet_npHolds (s : State) : s.quiet.npHolds = s.npHolds := rfl
@[simp] theorem State.quiet_npHeld (s : State) (src : NpSource) (a len : Nat) : s.quiet.npHeld src a len = s.npHeld src a len := rfl
@[simp] theorem State.quiet_npByte (s : State) (a : Nat) : s.quiet.npByte a = s.npByte a := rfl
@[simp] theorem State.quiet_npRead (s : State) (a len : Nat) : s.quiet.npRead a len = s.npRead a len := rfl
@[simp] theorem State.quiet_npPoisoned (s : State) (a len : Nat) : s.quiet.npPoisoned a len = s.npPoisoned a len := rfl
@[simp] theorem State.quiet_npWaits (s : State) (r : NpReq) : s.quiet.npWaits r = s.npWaits r := rfl
@[simp] theorem State.quiet_flushHeld (s : State) (src : NpSource) : s.quiet.flushHeld src = s.flushHeld src := rfl
@[simp] theorem State.quiet_penTranslate (s : State) (pen a : Nat) : s.quiet.penTranslate pen a = s.penTranslate pen a := rfl
@[simp] theorem State.quiet_penMapped (s : State) (pen a len : Nat) : s.quiet.penMapped pen a len = s.penMapped pen a len := rfl
@[simp] theorem State.quiet_penByte (s : State) (pen a : Nat) : s.quiet.penByte pen a = s.penByte pen a := rfl
@[simp] theorem State.quiet_penRead (s : State) (pen a len : Nat) : s.quiet.penRead pen a len = s.penRead pen a len := rfl
@[simp] theorem State.quiet_penPoisoned (s : State) (pen a len : Nat) : s.quiet.penPoisoned pen a len = s.penPoisoned pen a len := rfl
@[simp] theorem State.quiet_penHeld (s : State) (src : NpSource) (pen a len : Nat) : s.quiet.penHeld src pen a len = s.penHeld src pen a len := rfl
@[simp] theorem State.quiet_penPieces (s : State) (pen a len : Nat) : s.quiet.penPieces pen a len = s.penPieces pen a len := rfl
@[simp] theorem State.quiet_retrainable (s : State) : s.quiet.retrainable = s.retrainable := rfl
@[simp] theorem State.quiet_tensorOpt (s : State) (handle : Nat) : s.quiet.tensor? handle = s.tensor? handle := rfl
@[simp] theorem State.quiet_baseOpt (s : State) (handle : Nat) : s.quiet.base? handle = s.base? handle := rfl
@[simp] theorem State.quiet_nearForm (s : State) (pen : Nat) (t : Tensor) (a : Nat) : s.quiet.nearForm pen t a = s.nearForm pen t a := rfl
@[simp] theorem State.quiet_baseForm (s : State) (t : Tensor) (a : Nat) : s.quiet.baseForm t a = s.baseForm t a := rfl
@[simp] theorem State.quiet_baseCode (s : State) (t : Tensor) (lin : Nat) : s.quiet.baseCode t lin = s.baseCode t lin := rfl
@[simp] theorem State.quiet_elemCode (s : State) (pen : Nat) (t : Tensor) (lin : Nat) : s.quiet.elemCode pen t lin = s.elemCode pen t lin := rfl
@[simp] theorem State.quiet_tScale (s : State) (pen : Nat) (t : Tensor) : s.quiet.tScale pen t = s.tScale pen t := rfl
@[simp] theorem State.quiet_scaleByte (s : State) (pen : Nat) (t : Tensor) (lin : Nat) : s.quiet.scaleByte pen t lin = s.scaleByte pen t lin := rfl
@[simp] theorem State.quiet_elemValue (s : State) (pen : Nat) (t : Tensor) (lin : Nat) : s.quiet.elemValue pen t lin = s.elemValue pen t lin := rfl
@[simp] theorem State.quiet_viewOf (s : State) (d : List Byte) (pen : Nat) (t : Tensor) (view : Nat) : s.quiet.viewOf d pen t view = s.viewOf d pen t view := rfl
@[simp] theorem State.quiet_bindViews (s : State) (d : List Byte) : s.quiet.bindViews d = s.bindViews d := rfl
@[simp] theorem State.quiet_operand (s : State) (d : List Byte) (n : Nat) : s.quiet.operand d n = s.operand d n := rfl
@[simp] theorem State.quiet_atP (s : State) (o : Operand) (c : List Nat) : s.quiet.at' o c = s.at' o c := rfl
@[simp] theorem State.quiet_val (s : State) (o : Operand) (v : Nat) : s.quiet.val o v = s.val o v := rfl
@[simp] theorem State.quiet_atBroadcast (s : State) (o : Operand) (c : List Nat) : s.quiet.atBroadcast o c = s.atBroadcast o c := rfl
@[simp] theorem State.quiet_f32At (s : State) (o : Operand) (c : List Nat) : s.quiet.f32At o c = s.f32At o c := rfl
@[simp] theorem State.quiet_pen (s : State) (p : Nat) : s.quiet.pen p = s.pen p := rfl
@[simp] theorem State.quiet_port (s : State) (p : Nat) : s.quiet.port p = s.port p := rfl
@[simp] theorem State.quiet_stackAt (s : State) (k : Nat) : s.quiet.stackAt k = s.stackAt k := rfl
@[simp] theorem State.quiet_talsenAt (s : State) (k : Nat) : s.quiet.talsenAt k = s.talsenAt k := rfl
@[simp] theorem State.quiet_fnRegs (s : State) (fn : Nat) : s.quiet.fnRegs fn = s.fnRegs fn := rfl
@[simp] theorem State.quiet_slotAt (s : State) (i : Nat) : s.quiet.slotAt i = s.slotAt i := rfl
@[simp] theorem State.quiet_fold (s : State) (k : Nat) : s.quiet.fold k = s.fold k := rfl
@[simp] theorem State.quiet_keptStage (s : State) : s.quiet.keptStage = s.keptStage := rfl
@[simp] theorem State.quiet_occurrence (s : State) (code : Nat) (sev : Severity) (unit : Nat) (pen : Option Nat) (addr : Option Nat)   (info : Nat) : s.quiet.occurrence code sev unit pen addr info = s.occurrence code sev unit pen addr info := rfl
@[simp] theorem State.quiet_faultPending (s : State) : s.quiet.faultPending = s.faultPending := rfl
@[simp] theorem State.quiet_boundPen (s : State) (v : Nat) : s.quiet.boundPen v = s.boundPen v := rfl
@[simp] theorem State.quiet_penFunction (s : State) (p : Nat) : s.quiet.penFunction p = s.penFunction p := rfl
@[simp] theorem State.quiet_transitLive (s : State) : s.quiet.transitLive = s.transitLive := rfl
@[simp] theorem State.quiet_thermal (s : State) : s.quiet.thermal = s.thermal := rfl
@[simp] theorem State.quiet_ownCoord (s : State) : s.quiet.ownCoord = s.ownCoord := rfl
@[simp] theorem State.quiet_hubPresent (s : State) : s.quiet.hubPresent = s.hubPresent := rfl
@[simp] theorem State.quiet_hubAnswers (s : State) : s.quiet.hubAnswers = s.hubAnswers := rfl
@[simp] theorem State.quiet_isMaster (s : State) : s.quiet.isMaster = s.isMaster := rfl
@[simp] theorem State.quiet_arrival (s : State) (p : Packet) : s.quiet.arrival p = s.arrival p := rfl
@[simp] theorem State.quiet_departing (s : State) (p : Packet) : s.quiet.departing p = s.departing p := rfl
@[simp] theorem State.quiet_upPorts (s : State) : s.quiet.upPorts = s.upPorts := rfl
@[simp] theorem State.quiet_headPacket (s : State) (vc ptype : Nat) : s.quiet.headPacket vc ptype = s.headPacket vc ptype := rfl
@[simp] theorem State.quiet_mgmtPacket (s : State) (ptype : Nat) : s.quiet.mgmtPacket ptype = s.mgmtPacket ptype := rfl
@[simp] theorem State.quiet_half (s : State) (phys : Nat) (h : Bool) : s.quiet.half phys h = s.half phys h := rfl
@[simp] theorem State.quiet_opOpt (s : State) (id : Nat) : s.quiet.op? id = s.op? id := rfl
@[simp] theorem State.quiet_halvesOf (s : State) (id : Nat) : s.quiet.halvesOf id = s.halvesOf id := rfl
@[simp] theorem State.quiet_anyOpt (s : State) (h : Nat) : s.quiet.any? h = s.any? h := rfl
@[simp] theorem State.quiet_allTensors (s : State) : s.quiet.allTensors = s.allTensors := rfl
@[simp] theorem State.quiet_foldsIdle (s : State) : s.quiet.foldsIdle = s.foldsIdle := rfl
@[simp] theorem State.quiet_completionRecord (s : State) (d : List Byte) (status flags discards recomputes : Nat) : s.quiet.completionRecord d status flags discards recomputes = s.completionRecord d status flags discards recomputes := rfl
@[simp] theorem State.quiet_updated (s : State) (d : List Byte) : s.quiet.updated d = s.updated d := rfl
@[simp] theorem State.quiet_report (s : State) (key : B16) : s.quiet.report key = s.report key := rfl
@[simp] theorem State.quiet_generation (s : State) (key : B16) : s.quiet.generation key = s.generation key := rfl
@[simp] theorem State.quiet_planShape (s : State) (d : List Byte) : s.quiet.planShape d = s.planShape d := rfl
@[simp] theorem State.quiet_queueOpt (s : State) (q : Nat) : s.quiet.queue? q = s.queue? q := rfl
@[simp] theorem State.quiet_queueFunction (s : State) (q : Queue) : s.quiet.queueFunction q = s.queueFunction q := rfl
@[simp] theorem State.quiet_timeBytes (s : State) : s.quiet.timeBytes = s.timeBytes := rfl
@[simp] theorem State.quiet_completionWaits (s : State) (q : Queue) : s.quiet.completionWaits q = s.completionWaits q := rfl
@[simp] theorem State.quiet_takes (s : State) (q : Queue) : s.quiet.takes q = s.takes q := rfl
@[simp] theorem State.quiet_headEntry (s : State) (q : Queue) : s.quiet.headEntry q = s.headEntry q := rfl
@[simp] theorem State.quiet_doorbellQueue (s : State) (fn q : Nat) : s.quiet.doorbellQueue fn q = s.doorbellQueue fn q := rfl
@[simp] theorem State.quiet_streamRuns (s : State) (n : Nat) : s.quiet.streamRuns n = s.streamRuns n := rfl
@[simp] theorem State.quiet_queueBusy (s : State) (q : Queue) : s.quiet.queueBusy q = s.queueBusy q := rfl
@[simp] theorem State.quiet_signalCounter (s : State) (pen id : Nat) : s.quiet.signalCounter pen id = s.signalCounter pen id := rfl
@[simp] theorem State.quiet_counterHeld (s : State) (pen id : Nat) : s.quiet.counterHeld pen id = s.counterHeld pen id := rfl
@[simp] theorem State.quiet_enabledFolds (s : State) (lo n : Nat) : s.quiet.enabledFolds lo n = s.enabledFolds lo n := rfl
@[simp] theorem State.quiet_degraded (s : State) : s.quiet.degraded = s.degraded := rfl
@[simp] theorem State.quiet_stageReg (s : State) (fn : Nat) : s.quiet.stageReg fn = s.stageReg fn := rfl
@[simp] theorem State.quiet_fwVersion (s : State) : s.quiet.fwVersion = s.fwVersion := rfl
@[simp] theorem State.quiet_eszerMajor (s : State) : s.quiet.eszerMajor = s.eszerMajor := rfl
@[simp] theorem State.quiet_eszerMinor (s : State) : s.quiet.eszerMinor = s.eszerMinor := rfl
@[simp] theorem State.quiet_item (s : State) (i : Nat) : s.quiet.item i = s.item i := rfl
@[simp] theorem State.quiet_identityWord (s : State) (fn off : Nat) : s.quiet.identityWord fn off = s.identityWord fn off := rfl
@[simp] theorem State.quiet_stageWord (s : State) (fn off : Nat) : s.quiet.stageWord fn off = s.stageWord fn off := rfl
@[simp] theorem State.quiet_sdStatus (s : State) : s.quiet.sdStatus = s.sdStatus := rfl
@[simp] theorem State.quiet_resetCtrl (s : State) : s.quiet.resetCtrl = s.resetCtrl := rfl
@[simp] theorem State.quiet_resetCause (s : State) : s.quiet.resetCause = s.resetCause := rfl
@[simp] theorem State.quiet_dogWord (s : State) (off : Nat) : s.quiet.dogWord off = s.dogWord off := rfl
@[simp] theorem State.quiet_mirrorWord (s : State) (off : Nat) : s.quiet.mirrorWord off = s.mirrorWord off := rfl
@[simp] theorem State.quiet_fabTopo (s : State) : s.quiet.fabTopo = s.fabTopo := rfl
@[simp] theorem State.quiet_fabRing (s : State) : s.quiet.fabRing = s.fabRing := rfl
@[simp] theorem State.quiet_stackReg (s : State) (k : Nat) : s.quiet.stackReg k = s.stackReg k := rfl
@[simp] theorem State.quiet_rail (s : State) (r : Rail) : s.quiet.rail r = s.rail r := rfl
@[simp] theorem State.quiet_hubRails (s : State) : s.quiet.hubRails = s.hubRails := rfl
@[simp] theorem State.quiet_fieldsPowered (s : State) : s.quiet.fieldsPowered = s.fieldsPowered := rfl
@[simp] theorem State.quiet_pensIn (s : State) (x : PenState) : s.quiet.pensIn x = s.pensIn x := rfl
@[simp] theorem State.quiet_penDrained (s : State) (pen : Nat) : s.quiet.penDrained pen = s.penDrained pen := rfl
@[simp] theorem State.quiet_noComplex (s : State) : s.quiet.noComplex = s.noComplex := rfl
@[simp] theorem State.quiet_canBoot (s : State) : s.quiet.canBoot = s.canBoot := rfl
@[simp] theorem State.quiet_heldAt2 (s : State) : s.quiet.heldAt2 = s.heldAt2 := rfl
@[simp] theorem State.quiet_axesUp (s : State) : s.quiet.axesUp = s.axesUp := rfl
@[simp] theorem State.quiet_nearShared (s : State) : s.quiet.nearShared = s.nearShared := rfl
@[simp] theorem State.quiet_farShared (s : State) : s.quiet.farShared = s.farShared := rfl
@[simp] theorem State.quiet_poolFree (s : State) : s.quiet.poolFree = s.poolFree := rfl
@[simp] theorem State.quiet_quotaFits (s : State) (pen nearMin farMax : Nat) : s.quiet.quotaFits pen nearMin farMax = s.quotaFits pen nearMin farMax := rfl
@[simp] theorem State.quiet_freeNearPages (s : State) (n : Nat) : s.quiet.freeNearPages n = s.freeNearPages n := rfl
@[simp] theorem State.quiet_stripeNow (s : State) : s.quiet.stripeNow = s.stripeNow := rfl
@[simp] theorem State.quiet_farExtents (s : State) (p : Nat) : s.quiet.farExtents p = s.farExtents p := rfl
@[simp] theorem State.quiet_farUsable (s : State) (p : Nat) : s.quiet.farUsable p = s.farUsable p := rfl
@[simp] theorem State.quiet_farPlace (s : State) (p n : Nat) : s.quiet.farPlace p n = s.farPlace p n := rfl
@[simp] theorem State.quiet_reserveFar (s : State) (bytes : Nat) (stripe : List Nat) : s.quiet.reserveFar bytes stripe = s.reserveFar bytes stripe := rfl
@[simp] theorem State.quiet_fetchable (s : State) (f : FarCopy) : s.quiet.fetchable f = s.fetchable f := rfl
@[simp] theorem State.quiet_tensorAt (s : State) (pen addr : Nat) : s.quiet.tensorAt pen addr = s.tensorAt pen addr := rfl
@[simp] theorem State.quiet_used (s : State) (d : List Byte) : s.quiet.used d = s.used d := rfl
@[simp] theorem State.quiet_inputHandles (s : State) (d : List Byte) : s.quiet.inputHandles d = s.inputHandles d := rfl
@[simp] theorem State.quiet_outputHandles (s : State) (d : List Byte) : s.quiet.outputHandles d = s.outputHandles d := rfl
@[simp] theorem State.quiet_scratchHandles (s : State) (r : List (List Byte)) : s.quiet.scratchHandles r = s.scratchHandles r := rfl
@[simp] theorem State.quiet_checkpoints (s : State) (r : List (List Byte)) : s.quiet.checkpoints r = s.checkpoints r := rfl
@[simp] theorem State.quiet_supplied (s : State) (t : Tensor) : s.quiet.supplied t = s.supplied t := rfl
@[simp] theorem State.quiet_baseGood (s : State) (t : Tensor) : s.quiet.baseGood t = s.baseGood t := rfl
@[simp] theorem State.quiet_usable (s : State) (t : Tensor) : s.quiet.usable t = s.usable t := rfl
@[simp] theorem State.quiet_freshScale (s : State) (d : List Byte) (h : Nat) : s.quiet.freshScale d h = s.freshScale d h := rfl
@[simp] theorem State.quiet_destOk (s : State) (c : B16) : s.quiet.destOk c = s.destOk c := rfl
@[simp] theorem State.quiet_ropError (s : State) (q : Queue) (d : List Byte) : s.quiet.ropError q d = s.ropError q d := rfl
@[simp] theorem State.quiet_ropRecord (s : State) (d : List Byte) (pen status result : Nat) : s.quiet.ropRecord d pen status result = s.ropRecord d pen status result := rfl
@[simp] theorem State.quiet_fragment (s : State) (q : Queue) (d : List Byte) (i : Nat) : s.quiet.fragment q d i = s.fragment q d i := rfl
@[simp] theorem State.quiet_acceptOp (s : State) (p : Packet) : s.quiet.acceptOp p = s.acceptOp p := rfl
@[simp] theorem State.quiet_response (s : State) (p : Packet) (ty flags arg0 arg1 : Nat) (payload : List Byte) : s.quiet.response p ty flags arg0 arg1 payload = s.response p ty flags arg0 arg1 payload := rfl
@[simp] theorem State.quiet_requestSource (s : State) (p : Packet) : s.quiet.requestSource p = s.requestSource p := rfl
@[simp] theorem State.quiet_openFor (s : State) (p : Packet) : s.quiet.openFor p = s.openFor p := rfl
@[simp] theorem State.quiet_putWaits (s : State) (o : OpenOp) : s.quiet.putWaits o = s.putWaits o := rfl
@[simp] theorem State.quiet_ropOf (s : State) (tag : Nat) : s.quiet.ropOf tag = s.ropOf tag := rfl
@[simp] theorem State.quiet_ropEndHeld (s : State) (r : RopOp) : s.quiet.ropEndHeld r = s.ropEndHeld r := rfl
@[simp] theorem State.quiet_requestHeld (s : State) (behind : List Packet) (p : Packet) : s.quiet.requestHeld behind p = s.requestHeld behind p := rfl
@[simp] theorem State.quiet_landingSource (s : State) (r : RopOp) : s.quiet.landingSource r = s.landingSource r := rfl
@[simp] theorem State.quiet_earliest (s : State) (r : RopOp) : s.quiet.earliest r = s.earliest r := rfl
@[simp] theorem State.quiet_routeHeld (s : State) (q : Nat) : s.quiet.routeHeld q = s.routeHeld q := rfl
@[simp] theorem State.quiet_ropOpen (s : State) (q : Queue) : s.quiet.ropOpen q = s.ropOpen q := rfl
@[simp] theorem State.quiet_ropHeld (s : State) (q : Queue) (d : List Byte) : s.quiet.ropHeld q d = s.ropHeld q d := rfl
@[simp] theorem State.quiet_putHeld (s : State) (p : Packet) (acc : Bool) : s.quiet.putHeld p acc = s.putHeld p acc := rfl
@[simp] theorem State.quiet_landingHeld (s : State) (p : Packet) : s.quiet.landingHeld p = s.landingHeld p := rfl
@[simp] theorem State.quiet_mayWrite (s : State) (o : Op) : s.quiet.mayWrite o = s.mayWrite o := rfl
@[simp] theorem State.quiet_keepsEffect (s : State) (o : Op) (e : Effect) : s.quiet.keepsEffect o e = s.keepsEffect o e := rfl
@[simp] theorem State.quiet_writesWhole (s : State) (o : Op) (h : Nat) : s.quiet.writesWhole o h = s.writesWhole o h := rfl
@[simp] theorem State.quiet_dataHeld (s : State) (o : Op) : s.quiet.dataHeld o = s.dataHeld o := rfl
@[simp] theorem State.quiet_endHeld (s : State) (o : Op) : s.quiet.endHeld o = s.endHeld o := rfl
@[simp] theorem State.quiet_opFinished (s : State) (o : Op) : s.quiet.opFinished o = s.opFinished o := rfl
@[simp] theorem State.quiet_endsNow (s : State) (o : Op) : s.quiet.endsNow o = s.endsNow o := rfl
@[simp] theorem State.quiet_waitMet (s : State) (pen : Nat) (d : List Byte) : s.quiet.waitMet pen d = s.waitMet pen d := rfl
@[simp] theorem State.quiet_ringFenced (s : State) (q : Nat) : s.quiet.ringFenced q = s.ringFenced q := rfl
@[simp] theorem State.quiet_bs4Waits (s : State) (d : List Byte) : s.quiet.bs4Waits d = s.bs4Waits d := rfl
@[simp] theorem State.quiet_fenceWaits (s : State) (q : Queue) (d : List Byte) : s.quiet.fenceWaits q d = s.fenceWaits q d := rfl
@[simp] theorem State.quiet_mayRun (s : State) (o : Op) : s.quiet.mayRun o = s.mayRun o := rfl
@[simp] theorem State.quiet_chainsFree (s : State) (o : Op) (is : List Nat) : s.quiet.chainsFree o is = s.chainsFree o is := rfl
@[simp] theorem State.quiet_heldBack (s : State) (t : Task) : s.quiet.heldBack t = s.heldBack t := rfl
@[simp] theorem State.quiet_canStart (s : State) (o : Op) (i : Nat) : s.quiet.canStart o i = s.canStart o i := rfl
@[simp] theorem State.quiet_nextTask (s : State) (o : Op) : s.quiet.nextTask o = s.nextTask o := rfl
@[simp] theorem State.quiet_inPlaceHandles (s : State) (o : Op) : s.quiet.inPlaceHandles o = s.inPlaceHandles o := rfl
@[simp] theorem State.quiet_readHandles (s : State) (o : Op) : s.quiet.readHandles o = s.readHandles o := rfl
@[simp] theorem State.quiet_provisionalOk (s : State) (o : Op) (t : Task) (h : Nat) : s.quiet.provisionalOk o t h = s.provisionalOk o t h := rfl
@[simp] theorem State.quiet_inputReady (s : State) (o : Op) (t : Task) (h : Nat) : s.quiet.inputReady o t h = s.inputReady o t h := rfl
@[simp] theorem State.quiet_poisonedBase (s : State) (o : Op) : s.quiet.poisonedBase o = s.poisonedBase o := rfl
@[simp] theorem State.quiet_servesTensor (s : State) (src : NpSource) (t : Tensor) : s.quiet.servesTensor src t = s.servesTensor src t := rfl
@[simp] theorem State.quiet_inputsHere (s : State) (o : Op) : s.quiet.inputsHere o = s.inputsHere o := rfl
@[simp] theorem State.quiet_planeHeld (s : State) (t : Task) : s.quiet.planeHeld t = s.planeHeld t := rfl
@[simp] theorem State.quiet_planePoisoned (s : State) (t : Task) : s.quiet.planePoisoned t = s.planePoisoned t := rfl
@[simp] theorem State.quiet_runningReaders (s : State) (h : Nat) : s.quiet.runningReaders h = s.runningReaders h := rfl
@[simp] theorem State.quiet_basePensOf (s : State) (n : Nat) : s.quiet.basePensOf n = s.basePensOf n := rfl
@[simp] theorem State.quiet_runningOn (s : State) (n : Nat) : s.quiet.runningOn n = s.runningOn n := rfl
@[simp] theorem State.quiet_tensorPoisoned (s : State) (t : Tensor) : s.quiet.tensorPoisoned t = s.tensorPoisoned t := rfl
@[simp] theorem State.quiet_basePoisoned (s : State) (t : Tensor) : s.quiet.basePoisoned t = s.basePoisoned t := rfl
@[simp] theorem State.quiet_poisonedRead (s : State) (hs : List Nat) : s.quiet.poisonedRead hs = s.poisonedRead hs := rfl
@[simp] theorem State.quiet_atnTables (s : State) (d : List Byte) : s.quiet.atnTables d = s.atnTables d := rfl
@[simp] theorem State.quiet_slotFold (s : State) (n : Nat) : s.quiet.slotFold n = s.slotFold n := rfl
@[simp] theorem State.quiet_freeHalf (s : State) (k : Nat) : s.quiet.freeHalf k = s.freeHalf k := rfl
@[simp] theorem State.quiet_freeSlots (s : State) : s.quiet.freeSlots = s.freeSlots := rfl
@[simp] theorem State.quiet_preemptible (s : State) : s.quiet.preemptible = s.preemptible := rfl
@[simp] theorem State.quiet_slotsFor (s : State) (o : Op) (n : Nat) : s.quiet.slotsFor o n = s.slotsFor o n := rfl
@[simp] theorem State.quiet_roomWaits (s : State) (o : Op) : s.quiet.roomWaits o = s.roomWaits o := rfl
@[simp] theorem State.quiet_readyTask (s : State) (o : Op) : s.quiet.readyTask o = s.readyTask o := rfl
@[simp] theorem State.quiet_opRank (s : State) (o : Op) : s.quiet.opRank o = s.opRank o := rfl
@[simp] theorem State.quiet_grazingRank (s : State) (o : Op) : s.quiet.grazingRank o = s.grazingRank o := rfl
@[simp] theorem State.quiet_bestOp (s : State) (rank : Op → List Int) (os : List Op) : s.quiet.bestOp rank os = s.bestOp rank os := rfl
@[simp] theorem State.quiet_placeFor (s : State) (o : Op) (i : Nat) (taken : List Nat) : s.quiet.placeFor o i taken = s.placeFor o i taken := rfl
@[simp] theorem State.quiet_openChunks (s : State) (o : Op) : s.quiet.openChunks o = s.openChunks o := rfl
@[simp] theorem State.quiet_freeChain (s : State) : s.quiet.freeChain = s.freeChain := rfl
@[simp] theorem State.quiet_chainFor (s : State) (o : Op) (t : Task) : s.quiet.chainFor o t = s.chainFor o t := rfl
@[simp] theorem State.quiet_victimTask (s : State) (taken : List Nat) : s.quiet.victimTask taken = s.victimTask taken := rfl
@[simp] theorem State.quiet_opsOf (s : State) (grazing : Bool) : s.quiet.opsOf grazing = s.opsOf grazing := rfl
@[simp] theorem State.quiet_nextStart (s : State) : s.quiet.nextStart = s.nextStart := rfl
@[simp] theorem State.quiet_windowOpen (s : State) : s.quiet.windowOpen = s.windowOpen := rfl
@[simp] theorem State.quiet_windowSeconds (s : State) : s.quiet.windowSeconds = s.windowSeconds := rfl
@[simp] theorem State.quiet_tickBytes (s : State) : s.quiet.tickBytes = s.tickBytes := rfl
@[simp] theorem State.quiet_snapshotDue (s : State) : s.quiet.snapshotDue = s.snapshotDue := rfl
@[simp] theorem State.quiet_nearOwner (s : State) (line : Nat) : s.quiet.nearOwner line = s.nearOwner line := rfl
@[simp] theorem State.quiet_nearCopyAt (s : State) (line : Nat) : s.quiet.nearCopyAt line = s.nearCopyAt line := rfl
@[simp] theorem State.quiet_baseAt (s : State) (line : Nat) : s.quiet.baseAt line = s.baseAt line := rfl
@[simp] theorem State.quiet_parentPort (s : State) : s.quiet.parentPort = s.parentPort := rfl
@[simp] theorem State.quiet_childPorts (s : State) : s.quiet.childPorts = s.childPorts := rfl
@[simp] theorem State.quiet_tallyAllowed (s : State) (epoch : B16) (time : DWord) : s.quiet.tallyAllowed epoch time = s.tallyAllowed epoch time := rfl
@[simp] theorem State.quiet_run (s : State) (o : Operand) (from' n : Nat) : s.quiet.run o from' n = s.run o from' n := rfl
@[simp] theorem State.quiet_normScale (s : State) (d : List Byte) (gamma : Option Operand) (ext : List Nat) (v : Nat) : s.quiet.normScale d gamma ext v = s.normScale d gamma ext v := rfl
@[simp] theorem State.quiet_normFwdSet (s : State) (d : List Byte) (x y : Operand) (gamma beta stats : Option Operand) (set : Nat) : s.quiet.normFwdSet d x y gamma beta stats set = s.normFwdSet d x y gamma beta stats set := rfl
@[simp] theorem State.quiet_normBwdSet (s : State) (d : List Byte) (x dy stats : Operand) (gamma : Option Operand) (set : Nat) : s.quiet.normBwdSet d x dy stats gamma set = s.normBwdSet d x dy stats gamma set := rfl
@[simp] theorem State.quiet_normBwd (s : State) (d : List Byte) (x dx dy stats : Operand) (gamma grads : Option Operand) : s.quiet.normBwd d x dx dy stats gamma grads = s.normBwd d x dx dy stats gamma grads := rfl
@[simp] theorem State.quiet_softFwdRow (s : State) (d : List Byte) (x y : Operand) (row : Nat) : s.quiet.softFwdRow d x y row = s.softFwdRow d x y row := rfl
@[simp] theorem State.quiet_softBwdRow (s : State) (d : List Byte) (y dy dx : Operand) (row : Nat) : s.quiet.softBwdRow d y dy dx row = s.softBwdRow d y dy dx row := rfl
@[simp] theorem State.quiet_eltElement (s : State) (d : List Byte) (o0 o2 : Operand) (o1 o3 : Option Operand) (v : Nat) : s.quiet.eltElement d o0 o2 o1 o3 v = s.eltElement d o0 o2 o1 o3 v := rfl
@[simp] theorem State.quiet_setScale (s : State) (d : List Byte) (o0 o2 : Operand) : s.quiet.setScale d o0 o2 = s.setScale d o0 o2 := rfl
@[simp] theorem State.quiet_reduceElement (s : State) (d : List Byte) (o0 o2 : Operand) (v : Nat) : s.quiet.reduceElement d o0 o2 v = s.reduceElement d o0 o2 v := rfl
@[simp] theorem State.quiet_optElement (s : State) (d : List Byte) (o0 o1 o3 : Operand) (copy o4 : Option Operand) (v : Nat) : s.quiet.optElement d o0 o1 o3 copy o4 v = s.optElement d o0 o1 o3 copy o4 v := rfl
@[simp] theorem State.quiet_lossSample (s : State) (d : List Byte) (p t : Operand) (sample : Nat) : s.quiet.lossSample d p t sample = s.lossSample d p t sample := rfl
@[simp] theorem State.quiet_lossPart (s : State) (d : List Byte) (p t out : Operand) (omega grad : Option Operand) : s.quiet.lossPart d p t out omega grad = s.lossPart d p t out omega grad := rfl
@[simp] theorem State.quiet_castElement (s : State) (d : List Byte) (o0 o2 : Operand) (v : Nat) : s.quiet.castElement d o0 o2 v = s.castElement d o0 o2 v := rfl
@[simp] theorem State.quiet_formBytes (s : State) (pen : Nat) (t : Tensor) : s.quiet.formBytes pen t = s.formBytes pen t := rfl
@[simp] theorem State.quiet_movePart (s : State) (d : List Byte) (o0 o2 : Operand) : s.quiet.movePart d o0 o2 = s.movePart d o0 o2 := rfl
@[simp] theorem State.quiet_streamOpt (s : State) (n : Nat) : s.quiet.stream? n = s.stream? n := rfl
@[simp] theorem State.quiet_core (s : State) (c : Nat) : s.quiet.core c = s.core c := rfl
@[simp] theorem State.quiet_eventBytes (s : State) (e : List Byte) (ev status : Nat) (info detail : Nat) : s.quiet.eventBytes e ev status info detail = s.eventBytes e ev status info detail := rfl
@[simp] theorem State.quiet_videoTensor (s : State) (pen h : Nat) : s.quiet.videoTensor pen h = s.videoTensor pen h := rfl
@[simp] theorem State.quiet_videoTensorsOk (s : State) (pen : Nat) (e : List Byte) : s.quiet.videoTensorsOk pen e = s.videoTensorsOk pen e := rfl
@[simp] theorem State.quiet_videoStreamOk (s : State) (q : Queue) (e : List Byte) : s.quiet.videoStreamOk q e = s.videoStreamOk q e := rfl
@[simp] theorem State.quiet_videoParamBad (s : State) (e : List Byte) : s.quiet.videoParamBad e = s.videoParamBad e := rfl
@[simp] theorem State.quiet_videoError (s : State) (q : Queue) (e : List Byte) : s.quiet.videoError q e = s.videoError q e := rfl
@[simp] theorem State.quiet_bufferFree (s : State) (x : Stream) : s.quiet.bufferFree x = s.bufferFree x := rfl
@[simp] theorem State.quiet_outputRanges (s : State) (pen : Nat) (e : List Byte) : s.quiet.outputRanges pen e = s.outputRanges pen e := rfl
@[simp] theorem State.quiet_openEntries (s : State) (x : Stream) : s.quiet.openEntries x = s.openEntries x := rfl
@[simp] theorem State.quiet_outputStores (s : State) (x : Stream) (e : List Byte) (stores : List (Nat × List Byte)) : s.quiet.outputStores x e stores = s.outputStores x e stores := rfl
@[simp] theorem State.quiet_dataBytes (s : State) (pen : Nat) (e : List Byte) : s.quiet.dataBytes pen e = s.dataBytes pen e := rfl
@[simp] theorem State.quiet_videoHeld (s : State) (pen : Nat) (e : List Byte) : s.quiet.videoHeld pen e = s.videoHeld pen e := rfl
@[simp] theorem State.quiet_streamTakes (s : State) (e : List Byte) : s.quiet.streamTakes e = s.streamTakes e := rfl
@[simp] theorem State.quiet_readyPictures (s : State) (encode : Bool) : s.quiet.readyPictures encode = s.readyPictures encode := rfl
@[simp] theorem State.quiet_isLate (s : State) (x : Stream) (w : PicWork) : s.quiet.isLate x w = s.isLate x w := rfl
@[simp] theorem State.quiet_encodeInput (s : State) (x : Stream) (e : List Byte) : s.quiet.encodeInput x e = s.encodeInput x e := rfl
@[simp] theorem State.quiet_pictureHeld (s : State) (core : Nat) : s.quiet.pictureHeld core = s.pictureHeld core := rfl
@[simp] theorem State.quiet_MemCanonical (s : State) : s.quiet.MemCanonical = s.MemCanonical := rfl
@[simp] theorem State.quiet_reqIn (s : State) (fn : Fin 9) (slot : Fin 4) : s.quiet.reqIn fn slot = s.reqIn fn slot := rfl
@[simp] theorem State.taken_slotOperand (s : State) (fn : Fin 9) (slot : Fin 4) (d : List Byte) (k : Nat) : (s.taken fn slot).slotOperand d k = s.slotOperand d k := rfl
@[simp] theorem State.taken_atn (s : State) (fn : Fin 9) (slot : Fin 4) (d : List Byte) : (s.taken fn slot).atn d = s.atn d := rfl
@[simp] theorem State.taken_bytesField (s : State) (fn : Fin 9) (slot : Fin 4) (o : Operand) (off n : Nat) : (s.taken fn slot).bytesField o off n = s.bytesField o off n := rfl
@[simp] theorem State.taken_seqRec (s : State) (fn : Fin 9) (slot : Fin 4) (a : Atn) (n : Nat) : (s.taken fn slot).seqRec a n = s.seqRec a n := rfl
@[simp] theorem State.taken_pageEntry (s : State) (fn : Fin 9) (slot : Fin 4) (a : Atn) (i : Nat) : (s.taken fn slot).pageEntry a i = s.pageEntry a i := rfl
@[simp] theorem State.taken_newKv (s : State) (fn : Fin 9) (slot : Fin 4) (a : Atn) (r : SeqRec) (isV : Bool) (kh i ch : Nat) : (s.taken fn slot).newKv a r isV kh i ch = s.newKv a r isV kh i ch := rfl
@[simp] theorem State.taken_kvScale (s : State) (fn : Fin 9) (slot : Fin 4) (d : List Byte) (a : Atn) (r : SeqRec) (isV : Bool) (page kh c : Nat) : (s.taken fn slot).kvScale d a r isV page kh c = s.kvScale d a r isV page kh c := rfl
@[simp] theorem State.taken_pagedKv (s : State) (fn : Fin 9) (slot : Fin 4) (d : List Byte) (a : Atn) (r : SeqRec) (isV : Bool) (kh j ch : Nat) : (s.taken fn slot).pagedKv d a r isV kh j ch = s.pagedKv d a r isV kh j ch := rfl
@[simp] theorem State.taken_kvAt (s : State) (fn : Fin 9) (slot : Fin 4) (d : List Byte) (a : Atn) (r : SeqRec) (isV : Bool) (kh j ch : Nat) : (s.taken fn slot).kvAt d a r isV kh j ch = s.kvAt d a r isV kh j ch := rfl
@[simp] theorem State.taken_admits (s : State) (fn : Fin 9) (slot : Fin 4) (d : List Byte) (a : Atn) (r : SeqRec) (i j : Nat) : (s.taken fn slot).admits d a r i j = s.admits d a r i j := rfl
@[simp] theorem State.taken_score (s : State) (fn : Fin 9) (slot : Fin 4) (d : List Byte) (a : Atn) (r : SeqRec) (h i j : Nat) : (s.taken fn slot).score d a r h i j = s.score d a r h i j := rfl
@[simp] theorem State.taken_scores (s : State) (fn : Fin 9) (slot : Fin 4) (d : List Byte) (a : Atn) (r : SeqRec) (h i : Nat) : (s.taken fn slot).scores d a r h i = s.scores d a r h i := rfl
@[simp] theorem State.taken_valueGroups (s : State) (fn : Fin 9) (slot : Fin 4) (d : List Byte) (a : Atn) (r : SeqRec) (kh blk : Nat) (p : Nat → Option Val)   (acc : List Nat) : (s.taken fn slot).valueGroups d a r kh blk p acc = s.valueGroups d a r kh blk p acc := rfl
@[simp] theorem State.taken_attendBlock (s : State) (fn : Fin 9) (slot : Fin 4) (d : List Byte) (a : Atn) (r : SeqRec) (kh : Nat) (sc : List (Nat × Val)) (st : RowState)   (blk : Nat) : (s.taken fn slot).attendBlock d a r kh sc st blk = s.attendBlock d a r kh sc st blk := rfl
@[simp] theorem State.taken_rowNan (s : State) (fn : Fin 9) (slot : Fin 4) (d : List Byte) (a : Atn) (r : SeqRec) (h i : Nat) (sc : List (Nat × Val)) : (s.taken fn slot).rowNan d a r h i sc = s.rowNan d a r h i sc := rfl
@[simp] theorem State.taken_putRow (s : State) (fn : Fin 9) (slot : Fin 4) (d : List Byte) (a : Atn) (h row : Nat) (x : RowOut) : (s.taken fn slot).putRow d a h row x = s.putRow d a h row x := rfl
@[simp] theorem State.taken_fillPart (s : State) (fn : Fin 9) (slot : Fin 4) (d : List Byte) (a : Atn) : (s.taken fn slot).fillPart d a = s.fillPart d a := rfl
@[simp] theorem State.taken_bwdRow (s : State) (fn : Fin 9) (slot : Fin 4) (d : List Byte) (a : Atn) (r : SeqRec) (h i : Nat) : (s.taken fn slot).bwdRow d a r h i = s.bwdRow d a r h i := by
  have operands (n : Nat) : (s.taken fn slot).operand d n = s.operand d n := rfl
  have values (o : Operand) (c : List Nat) : (s.taken fn slot).f32At o c = s.f32At o c := rfl
  have exact' (o : Operand) (c : List Nat) : (s.taken fn slot).at' o c = s.at' o c := rfl
  simp only [State.bwdRow, State.taken_slotOperand, State.taken_scores, State.taken_kvAt, operands, values, exact']
@[simp] theorem State.taken_atnTiles (s : State) (fn : Fin 9) (slot : Fin 4) (d : List Byte) : (s.taken fn slot).atnTiles d = s.atnTiles d := rfl
@[simp] theorem State.taken_atnFill (s : State) (fn : Fin 9) (slot : Fin 4) (d : List Byte) : (s.taken fn slot).atnFill d = s.atnFill d := rfl
@[simp] theorem State.taken_atnFault (s : State) (fn : Fin 9) (slot : Fin 4) (d : List Byte) : (s.taken fn slot).atnFault d = s.atnFault d := rfl
@[simp] theorem State.taken_fill (s : State) (fn : Fin 9) (slot : Fin 4) (addrs : List Nat) : (s.taken fn slot).fill addrs = s.fill addrs := rfl
@[simp] theorem State.taken_operandAddrs (s : State) (fn : Fin 9) (slot : Fin 4) (pen : Nat) (t : Tensor) (lins : List Nat) : (s.taken fn slot).operandAddrs pen t lins = s.operandAddrs pen t lins := rfl
@[simp] theorem State.taken_baseAddrs (s : State) (fn : Fin 9) (slot : Fin 4) (t : Tensor) (lins : List Nat) : (s.taken fn slot).baseAddrs t lins = s.baseAddrs t lins := rfl
@[simp] theorem State.taken_loadTile (s : State) (fn : Fin 9) (slot : Fin 4) (o : Operand) (lins : List Nat) : (s.taken fn slot).loadTile o lins = s.loadTile o lins := rfl
@[simp] theorem State.taken_taskTiles (s : State) (fn : Fin 9) (slot : Fin 4) (o : Op) (t : Task) : (s.taken fn slot).taskTiles o t = s.taskTiles o t := rfl
@[simp] theorem State.taken_granulesRead (s : State) (fn : Fin 9) (slot : Fin 4) (o : Op) (t : Task) (x : Operand) : (s.taken fn slot).granulesRead o t x = s.granulesRead o t x := rfl
@[simp] theorem State.taken_blockDone (s : State) (fn : Fin 9) (slot : Fin 4) (id : Nat) (block : List Nat) : (s.taken fn slot).blockDone id block = s.blockDone id block := rfl
@[simp] theorem State.taken_racyBytes (s : State) (fn : Fin 9) (slot : Fin 4) (o : Op) : (s.taken fn slot).racyBytes o = s.racyBytes o := rfl
@[simp] theorem State.taken_undone (s : State) (fn : Fin 9) (slot : Fin 4) (o : Op) (half : AccHalf) : (s.taken fn slot).undone o half = s.undone o half := rfl
@[simp] theorem State.taken_gangStream (s : State) (fn : Fin 9) (slot : Fin 4) (o : Op) (t : Task) : (s.taken fn slot).gangStream o t = s.gangStream o t := rfl
@[simp] theorem State.taken_stationaryHandles (s : State) (fn : Fin 9) (slot : Fin 4) (o : Op) : (s.taken fn slot).stationaryHandles o = s.stationaryHandles o := rfl
@[simp] theorem State.taken_isBellwether (s : State) (fn : Fin 9) (slot : Fin 4) : (s.taken fn slot).isBellwether = s.isBellwether := rfl
@[simp] theorem State.taken_isDeputy (s : State) (fn : Fin 9) (slot : Fin 4) : (s.taken fn slot).isDeputy = s.isDeputy := rfl
@[simp] theorem State.taken_beaconPacket (s : State) (fn : Fin 9) (slot : Fin 4) (f : Nat → Bool) : (s.taken fn slot).beaconPacket f = s.beaconPacket f := rfl
@[simp] theorem State.taken_jobOpt (s : State) (fn : Fin 9) (slot : Fin 4) (key : B16) : (s.taken fn slot).job? key = s.job? key := rfl
@[simp] theorem State.taken_deviceServes (s : State) (fn : Fin 9) (slot : Fin 4) (c : B16) : (s.taken fn slot).deviceServes c = s.deviceServes c := rfl
@[simp] theorem State.taken_substitute (s : State) (fn : Fin 9) (slot : Fin 4) (j : Job) (spare : DWord) (c : B16) : (s.taken fn slot).substitute j spare c = s.substitute j spare c := rfl
@[simp] theorem State.taken_brokenPorts (s : State) (fn : Fin 9) (slot : Fin 4) : (s.taken fn slot).brokenPorts = s.brokenPorts := rfl
@[simp] theorem State.taken_waitingHead (s : State) (fn : Fin 9) (slot : Fin 4) (q : Queue) : (s.taken fn slot).waitingHead q = s.waitingHead q := rfl
@[simp] theorem State.taken_inUse (s : State) (fn : Fin 9) (slot : Fin 4) (h : Nat) : (s.taken fn slot).inUse h = s.inUse h := rfl
@[simp] theorem State.taken_freeRun (s : State) (fn : Fin 9) (slot : Fin 4) (n : Nat) : (s.taken fn slot).freeRun n = s.freeRun n := rfl
@[simp] theorem State.taken_plainReads (s : State) (fn : Fin 9) (slot : Fin 4) (d : List Byte) : (s.taken fn slot).plainReads d = s.plainReads d := rfl
@[simp] theorem State.taken_raceOf (s : State) (fn : Fin 9) (slot : Fin 4) (reads writes : List Byte) : (s.taken fn slot).raceOf reads writes = s.raceOf reads writes := rfl
@[simp] theorem State.taken_queuedOn (s : State) (fn : Fin 9) (slot : Fin 4) (p deadline : Nat) : (s.taken fn slot).queuedOn p deadline = s.queuedOn p deadline := rfl
@[simp] theorem State.taken_predictFetch (s : State) (fn : Fin 9) (slot : Fin 4) (t : Tensor) (deadline : Nat) : (s.taken fn slot).predictFetch t deadline = s.predictFetch t deadline := rfl
@[simp] theorem State.taken_macs (s : State) (fn : Fin 9) (slot : Fin 4) (d : List Byte) : (s.taken fn slot).macs d = s.macs d := rfl
@[simp] theorem State.taken_atnBlocks (s : State) (fn : Fin 9) (slot : Fin 4) (d : List Byte) (a : Atn) (r : SeqRec) : (s.taken fn slot).atnBlocks d a r = s.atnBlocks d a r := rfl
@[simp] theorem State.taken_work (s : State) (fn : Fin 9) (slot : Fin 4) (d : List Byte) : (s.taken fn slot).work d = s.work d := rfl
@[simp] theorem State.taken_opDeadline (s : State) (fn : Fin 9) (slot : Fin 4) (o : Op) : (s.taken fn slot).opDeadline o = s.opDeadline o := rfl
@[simp] theorem State.taken_rankDeadline (s : State) (fn : Fin 9) (slot : Fin 4) (o : Op) : (s.taken fn slot).rankDeadline o = s.rankDeadline o := rfl
@[simp] theorem State.taken_slotsFree (s : State) (fn : Fin 9) (slot : Fin 4) (deadline : Nat) : (s.taken fn slot).slotsFree deadline = s.slotsFree deadline := rfl
@[simp] theorem State.taken_predictRecipe (s : State) (fn : Fin 9) (slot : Fin 4) (t : Tensor) (deadline : Nat) : (s.taken fn slot).predictRecipe t deadline = s.predictRecipe t deadline := rfl
@[simp] theorem State.taken_needDeadline (s : State) (fn : Fin 9) (slot : Fin 4) (h : Nat) : (s.taken fn slot).needDeadline h = s.needDeadline h := rfl
@[simp] theorem State.taken_protected (s : State) (fn : Fin 9) (slot : Fin 4) (h : Nat) : (s.taken fn slot).protected h = s.protected h := rfl
@[simp] theorem State.taken_age (s : State) (fn : Fin 9) (slot : Fin 4) (t : Tensor) : (s.taken fn slot).age t = s.age t := rfl
@[simp] theorem State.taken_candidate (s : State) (fn : Fin 9) (slot : Fin 4) (r : AllocReq) (p : Nat) (t : Tensor) : (s.taken fn slot).candidate r p t = s.candidate r p t := rfl
@[simp] theorem State.taken_victimRank (s : State) (fn : Fin 9) (slot : Fin 4) (p : Nat) (t : Tensor) : (s.taken fn slot).victimRank p t = s.victimRank p t := rfl
@[simp] theorem State.taken_chooseVictim (s : State) (fn : Fin 9) (slot : Fin 4) (r : AllocReq) : (s.taken fn slot).chooseVictim r = s.chooseVictim r := rfl
@[simp] theorem State.taken_farInFlight (s : State) (fn : Fin 9) (slot : Fin 4) : (s.taken fn slot).farInFlight = s.farInFlight := rfl
@[simp] theorem State.taken_fetchOrder (s : State) (fn : Fin 9) (slot : Fin 4) : (s.taken fn slot).fetchOrder = s.fetchOrder := rfl
@[simp] theorem State.taken_demandDeadline (s : State) (fn : Fin 9) (slot : Fin 4) (o : Op) (h : Nat) : (s.taken fn slot).demandDeadline o h = s.demandDeadline o h := rfl
@[simp] theorem State.taken_nominalFetch (s : State) (fn : Fin 9) (slot : Fin 4) (pen : Nat) (t : Tensor) : (s.taken fn slot).nominalFetch pen t = s.nominalFetch pen t := rfl
@[simp] theorem State.taken_nominalCopy (s : State) (fn : Fin 9) (slot : Fin 4) (t : Tensor) : (s.taken fn slot).nominalCopy t = s.nominalCopy t := rfl
@[simp] theorem State.taken_nominalRecipe (s : State) (fn : Fin 9) (slot : Fin 4) (t : Tensor) : (s.taken fn slot).nominalRecipe t = s.nominalRecipe t := rfl
@[simp] theorem State.taken_wantsWriteBehind (s : State) (fn : Fin 9) (slot : Fin 4) (pen : Nat) (t : Tensor) : (s.taken fn slot).wantsWriteBehind pen t = s.wantsWriteBehind pen t := rfl
@[simp] theorem State.taken_sharedFits (s : State) (fn : Fin 9) (slot : Fin 4) : (s.taken fn slot).sharedFits = s.sharedFits := rfl
@[simp] theorem State.taken_stalled (s : State) (fn : Fin 9) (slot : Fin 4) (t : Tensor) : (s.taken fn slot).stalled t = s.stalled t := rfl
@[simp] theorem State.taken_sessionOpt (s : State) (fn : Fin 9) (slot : Fin 4) (n : Nat) : (s.taken fn slot).session? n = s.session? n := rfl
@[simp] theorem State.taken_healthLeft (s : State) (fn : Fin 9) (slot : Fin 4) : (s.taken fn slot).healthLeft = s.healthLeft := rfl
@[simp] theorem State.taken_presenceFails (s : State) (fn : Fin 9) (slot : Fin 4) (session : Bool) : (s.taken fn slot).presenceFails session = s.presenceFails session := rfl
@[simp] theorem State.taken_baseNamed (s : State) (fn : Fin 9) (slot : Fin 4) (n : Nat) : (s.taken fn slot).baseNamed n = s.baseNamed n := rfl
@[simp] theorem State.taken_skipped (s : State) (fn : Fin 9) (slot : Fin 4) (coord : B16) (placed leave : Bool) : (s.taken fn slot).skipped coord placed leave = s.skipped coord placed leave := rfl
@[simp] theorem State.taken_placementOk (s : State) (fn : Fin 9) (slot : Fin 4) (b : List Byte) (x : Placement) : (s.taken fn slot).placementOk b x = s.placementOk b x := rfl
@[simp] theorem State.taken_ringOk (s : State) (fn : Fin 9) (slot : Fin 4) (pen addr bytes : Nat) : (s.taken fn slot).ringOk pen addr bytes = s.ringOk pen addr bytes := rfl
@[simp] theorem State.taken_queueFieldsOk (s : State) (fn : Fin 9) (slot : Fin 4) (q : Queue) : (s.taken fn slot).queueFieldsOk q = s.queueFieldsOk q := rfl
@[simp] theorem State.taken_freeContext (s : State) (fn : Fin 9) (slot : Fin 4) (encode : Bool) : (s.taken fn slot).freeContext encode = s.freeContext encode := rfl
@[simp] theorem State.taken_unreserved (s : State) (fn : Fin 9) (slot : Fin 4) (pen : Nat) : (s.taken fn slot).unreserved pen = s.unreserved pen := rfl
@[simp] theorem State.taken_recoveryRecord (s : State) (fn : Fin 9) (slot : Fin 4) (p : Pen) : (s.taken fn slot).recoveryRecord p = s.recoveryRecord p := rfl
@[simp] theorem State.taken_baseFits (s : State) (fn : Fin 9) (slot : Fin 4) (t : Tensor) : (s.taken fn slot).baseFits t = s.baseFits t := rfl
@[simp] theorem State.taken_entryOk (s : State) (fn : Fin 9) (slot : Fin 4) (pen : Nat) (e sh : List Byte) (t : Tensor) : (s.taken fn slot).entryOk pen e sh t = s.entryOk pen e sh t := rfl
@[simp] theorem State.taken_encodeSourceOk (s : State) (fn : Fin 9) (slot : Fin 4) (pen h : Nat) (t : Tensor) : (s.taken fn slot).encodeSourceOk pen h t = s.encodeSourceOk pen h t := rfl
@[simp] theorem State.taken_plainTensor (s : State) (fn : Fin 9) (slot : Fin 4) (pen h : Nat) : (s.taken fn slot).plainTensor pen h = s.plainTensor pen h := rfl
@[simp] theorem State.taken_recipeOk (s : State) (fn : Fin 9) (slot : Fin 4) (pen h : Nat) (ds : List (List Byte)) : (s.taken fn slot).recipeOk pen h ds = s.recipeOk pen h ds := rfl
@[simp] theorem State.taken_bound (s : State) (fn : Fin 9) (slot : Fin 4) (pen : Nat) (t : Tensor) : (s.taken fn slot).bound pen t = s.bound pen t := rfl
@[simp] theorem State.taken_queuesOnAxis (s : State) (fn : Fin 9) (slot : Fin 4) (axis : Nat) : (s.taken fn slot).queuesOnAxis axis = s.queuesOnAxis axis := rfl
@[simp] theorem State.taken_linkBroken (s : State) (fn : Fin 9) (slot : Fin 4) (axis at' : Nat) : (s.taken fn slot).linkBroken axis at' = s.linkBroken axis at' := rfl
@[simp] theorem State.taken_inProgress (s : State) (fn : Fin 9) (slot : Fin 4) (input cls : Nat) : (s.taken fn slot).inProgress input cls = s.inProgress input cls := rfl
@[simp] theorem State.taken_heldPackets (s : State) (fn : Fin 9) (slot : Fin 4) (port : Nat) : (s.taken fn slot).heldPackets port = s.heldPackets port := rfl
@[simp] theorem State.taken_portDisabled (s : State) (fn : Fin 9) (slot : Fin 4) (port : Nat) : (s.taken fn slot).portDisabled port = s.portDisabled port := rfl
@[simp] theorem State.taken_peerExpected (s : State) (fn : Fin 9) (slot : Fin 4) (port : Nat) (coord extent : B16) (peer : Nat) : (s.taken fn slot).peerExpected port coord extent peer = s.peerExpected port coord extent peer := rfl
@[simp] theorem State.taken_onward (s : State) (fn : Fin 9) (slot : Fin 4) (fromPort : Bool) (p : Packet) : (s.taken fn slot).onward fromPort p = s.onward fromPort p := rfl
@[simp] theorem State.taken_routePacket (s : State) (fn : Fin 9) (slot : Fin 4) (fromPort : Bool) (p : Packet) : (s.taken fn slot).routePacket fromPort p = s.routePacket fromPort p := rfl
@[simp] theorem State.taken_inputHead (s : State) (fn : Fin 9) (slot : Fin 4) (input cls : Nat) : (s.taken fn slot).inputHead input cls = s.inputHead input cls := rfl
@[simp] theorem State.taken_newFor (s : State) (fn : Fin 9) (slot : Fin 4) (port : Nat) : (s.taken fn slot).newFor port = s.newFor port := rfl
@[simp] theorem State.taken_readyFor (s : State) (fn : Fin 9) (slot : Fin 4) (port : Nat) : (s.taken fn slot).readyFor port = s.readyFor port := rfl
@[simp] theorem State.taken_nextTurn (s : State) (fn : Fin 9) (slot : Fin 4) (port : Nat) : (s.taken fn slot).nextTurn port = s.nextTurn port := rfl
@[simp] theorem State.taken_sendingFrom (s : State) (fn : Fin 9) (slot : Fin 4) (input cls : Nat) : (s.taken fn slot).sendingFrom input cls = s.sendingFrom input cls := rfl
@[simp] theorem State.taken_encodeUnits (s : State) (fn : Fin 9) (slot : Fin 4) (o : Operand) (l : List (Nat × Val × Rounding)) : (s.taken fn slot).encodeUnits o l = s.encodeUnits o l := rfl
@[simp] theorem State.taken_writeUnits (s : State) (fn : Fin 9) (slot : Fin 4) (d : List Byte) (prev staged : List (Nat × Nat × Val)) (last : Bool) : (s.taken fn slot).writeUnits d prev staged last = s.writeUnits d prev staged last := rfl
@[simp] theorem State.taken_accTurn (s : State) (fn : Fin 9) (slot : Fin 4) (o : Op) : (s.taken fn slot).accTurn o = s.accTurn o := rfl
@[simp] theorem State.taken_readersOf (s : State) (fn : Fin 9) (slot : Fin 4) (id : ChunkId) : (s.taken fn slot).readersOf id = s.readersOf id := rfl
@[simp] theorem State.taken_workEnded (s : State) (fn : Fin 9) (slot : Fin 4) (failed : Nat) : (s.taken fn slot).workEnded failed = s.workEnded failed := rfl
@[simp] theorem State.taken_spareOf (s : State) (fn : Fin 9) (slot : Fin 4) (die : Nat) : (s.taken fn slot).spareOf die = s.spareOf die := rfl
@[simp] theorem State.taken_takeoverSlot (s : State) (fn : Fin 9) (slot : Fin 4) : (s.taken fn slot).takeoverSlot = s.takeoverSlot := rfl
@[simp] theorem State.taken_deviceSerial (s : State) (fn : Fin 9) (slot : Fin 4) : (s.taken fn slot).deviceSerial = s.deviceSerial := rfl
@[simp] theorem State.taken_i3cServes (s : State) (fn : Fin 9) (slot : Fin 4) : (s.taken fn slot).i3cServes = s.i3cServes := rfl
@[simp] theorem State.taken_i3cPid (s : State) (fn : Fin 9) (slot : Fin 4) : (s.taken fn slot).i3cPid = s.i3cPid := rfl
@[simp] theorem State.taken_liveOpt (s : State) (fn : Fin 9) (slot : Fin 4) (h : Nat) : (s.taken fn slot).live? h = s.live? h := rfl
@[simp] theorem State.taken_badView (s : State) (fn : Fin 9) (slot : Fin 4) (d : List Byte) (n : Nat) : (s.taken fn slot).badView d n = s.badView d n := rfl
@[simp] theorem State.taken_badTScale (s : State) (fn : Fin 9) (slot : Fin 4) (d : List Byte) (u : Used) : (s.taken fn slot).badTScale d u = s.badTScale d u := rfl
@[simp] theorem State.taken_gemmShapeOk (s : State) (fn : Fin 9) (slot : Fin 4) (d : List Byte) (a b c : Operand) : (s.taken fn slot).gemmShapeOk d a b c = s.gemmShapeOk d a b c := rfl
@[simp] theorem State.taken_convGeometryOk (s : State) (fn : Fin 9) (slot : Fin 4) (d : List Byte) (r0 r1 r2 : Operand) : (s.taken fn slot).convGeometryOk d r0 r1 r2 = s.convGeometryOk d r0 r1 r2 := rfl
@[simp] theorem State.taken_normShapeOk (s : State) (fn : Fin 9) (slot : Fin 4) (d : List Byte) (x y : Operand) : (s.taken fn slot).normShapeOk d x y = s.normShapeOk d x y := rfl
@[simp] theorem State.taken_lossShapeOk (s : State) (fn : Fin 9) (slot : Fin 4) (d : List Byte) (p t out : Operand) : (s.taken fn slot).lossShapeOk d p t out = s.lossShapeOk d p t out := rfl
@[simp] theorem State.taken_shapeRuleOk (s : State) (fn : Fin 9) (slot : Fin 4) (d : List Byte) : (s.taken fn slot).shapeRuleOk d = s.shapeRuleOk d := rfl
@[simp] theorem State.taken_inPlaceOk (s : State) (fn : Fin 9) (slot : Fin 4) (d : List Byte) : (s.taken fn slot).inPlaceOk d = s.inPlaceOk d := rfl
@[simp] theorem State.taken_labelsOk (s : State) (fn : Fin 9) (slot : Fin 4) (d : List Byte) : (s.taken fn slot).labelsOk d = s.labelsOk d := rfl
@[simp] theorem State.taken_moveOk (s : State) (fn : Fin 9) (slot : Fin 4) (d : List Byte) : (s.taken fn slot).moveOk d = s.moveOk d := rfl
@[simp] theorem State.taken_collOk (s : State) (fn : Fin 9) (slot : Fin 4) (d : List Byte) : (s.taken fn slot).collOk d = s.collOk d := rfl
@[simp] theorem State.taken_formatsOk (s : State) (fn : Fin 9) (slot : Fin 4) (d : List Byte) : (s.taken fn slot).formatsOk d = s.formatsOk d := rfl
@[simp] theorem State.taken_atnShapeOk (s : State) (fn : Fin 9) (slot : Fin 4) (d : List Byte) : (s.taken fn slot).atnShapeOk d = s.atnShapeOk d := rfl
@[simp] theorem State.taken_atnFormatOk (s : State) (fn : Fin 9) (slot : Fin 4) (d : List Byte) : (s.taken fn slot).atnFormatOk d = s.atnFormatOk d := rfl
@[simp] theorem State.taken_pageParamOk (s : State) (fn : Fin 9) (slot : Fin 4) (d : List Byte) : (s.taken fn slot).pageParamOk d = s.pageParamOk d := rfl
@[simp] theorem State.taken_seqTableOk (s : State) (fn : Fin 9) (slot : Fin 4) (d : List Byte) : (s.taken fn slot).seqTableOk d = s.seqTableOk d := rfl
@[simp] theorem State.taken_commonErrors (s : State) (fn : Fin 9) (slot : Fin 4) (q : Queue) (d : List Byte) : (s.taken fn slot).commonErrors q d = s.commonErrors q d := rfl
@[simp] theorem State.taken_matErrors (s : State) (fn : Fin 9) (slot : Fin 4) (d : List Byte) : (s.taken fn slot).matErrors d = s.matErrors d := rfl
@[simp] theorem State.taken_opErrors (s : State) (fn : Fin 9) (slot : Fin 4) (d : List Byte) : (s.taken fn slot).opErrors d = s.opErrors d := rfl
@[simp] theorem State.taken_issueError (s : State) (fn : Fin 9) (slot : Fin 4) (q : Queue) (d : List Byte) : (s.taken fn slot).issueError q d = s.issueError q d := rfl
@[simp] theorem State.taken_parseItinerary (s : State) (fn : Fin 9) (slot : Fin 4) (pen : Nat) (b : List Byte) : (s.taken fn slot).parseItinerary pen b = s.parseItinerary pen b := rfl
@[simp] theorem State.taken_bootHandler (s : State) (fn : Fin 9) (slot : Fin 4) : (s.taken fn slot).bootHandler = s.bootHandler := rfl
@[simp] theorem State.taken_served (s : State) (fn : Fin 9) (slot : Fin 4) : (s.taken fn slot).served = s.served := rfl
@[simp] theorem State.taken_goServed (s : State) (fn : Fin 9) (slot : Fin 4) : (s.taken fn slot).goServed = s.goServed := rfl
@[simp] theorem State.taken_jobActive (s : State) (fn : Fin 9) (slot : Fin 4) : (s.taken fn slot).jobActive = s.jobActive := rfl
@[simp] theorem State.taken_firstFar (s : State) (fn : Fin 9) (slot : Fin 4) (hs : List Nat) : (s.taken fn slot).firstFar hs = s.firstFar hs := rfl
@[simp] theorem State.taken_engineVal (s : State) (fn : Fin 9) (slot : Fin 4) (o : Operand) (c : List Nat) : (s.taken fn slot).engineVal o c = s.engineVal o c := rfl
@[simp] theorem State.taken_operandScale (s : State) (fn : Fin 9) (slot : Fin 4) (o : Operand) : (s.taken fn slot).operandScale o = s.operandScale o := rfl
@[simp] theorem State.taken_matProduct (s : State) (fn : Fin 9) (slot : Fin 4) (d : List Byte) (o0 o1 o2 : Operand) (b r c k : Nat) : (s.taken fn slot).matProduct d o0 o1 o2 b r c k = s.matProduct d o0 o1 o2 b r c k := rfl
@[simp] theorem State.taken_epilogue (s : State) (fn : Fin 9) (slot : Fin 4) (d : List Byte) (int : Bool) (o0 o1 o2 : Operand) (bias res aux : Option Operand)   (c : List Nat) (w : Nat) : (s.taken fn slot).epilogue d int o0 o1 o2 bias res aux c w = s.epilogue d int o0 o1 o2 bias res aux c w := rfl
@[simp] theorem State.taken_matrixEntries (s : State) (fn : Fin 9) (slot : Fin 4) (d : List Byte) (ref1Stationary : Bool) (tile : Tile) (planeIn : Option Nat) : (s.taken fn slot).matrixEntries d ref1Stationary tile planeIn = s.matrixEntries d ref1Stationary tile planeIn := rfl
@[simp] theorem State.taken_matrixPart (s : State) (fn : Fin 9) (slot : Fin 4) (d : List Byte) (tile : Tile) (entries : List (Nat × Nat × Nat × Bool))   (planeOut : Option Nat) : (s.taken fn slot).matrixPart d tile entries planeOut = s.matrixPart d tile entries planeOut := rfl
@[simp] theorem State.taken_npBlocked (s : State) (fn : Fin 9) (slot : Fin 4) (src : NpSource) (a : Nat) : (s.taken fn slot).npBlocked src a = s.npBlocked src a := rfl
@[simp] theorem State.taken_npHolds (s : State) (fn : Fin 9) (slot : Fin 4) : (s.taken fn slot).npHolds = s.npHolds := rfl
@[simp] theorem State.taken_npHeld (s : State) (fn : Fin 9) (slot : Fin 4) (src : NpSource) (a len : Nat) : (s.taken fn slot).npHeld src a len = s.npHeld src a len := rfl
@[simp] theorem State.taken_npByte (s : State) (fn : Fin 9) (slot : Fin 4) (a : Nat) : (s.taken fn slot).npByte a = s.npByte a := rfl
@[simp] theorem State.taken_npRead (s : State) (fn : Fin 9) (slot : Fin 4) (a len : Nat) : (s.taken fn slot).npRead a len = s.npRead a len := rfl
@[simp] theorem State.taken_npPoisoned (s : State) (fn : Fin 9) (slot : Fin 4) (a len : Nat) : (s.taken fn slot).npPoisoned a len = s.npPoisoned a len := rfl
@[simp] theorem State.taken_npWaits (s : State) (fn : Fin 9) (slot : Fin 4) (r : NpReq) : (s.taken fn slot).npWaits r = s.npWaits r := rfl
@[simp] theorem State.taken_flushHeld (s : State) (fn : Fin 9) (slot : Fin 4) (src : NpSource) : (s.taken fn slot).flushHeld src = s.flushHeld src := rfl
@[simp] theorem State.taken_penTranslate (s : State) (fn : Fin 9) (slot : Fin 4) (pen a : Nat) : (s.taken fn slot).penTranslate pen a = s.penTranslate pen a := rfl
@[simp] theorem State.taken_penMapped (s : State) (fn : Fin 9) (slot : Fin 4) (pen a len : Nat) : (s.taken fn slot).penMapped pen a len = s.penMapped pen a len := rfl
@[simp] theorem State.taken_penByte (s : State) (fn : Fin 9) (slot : Fin 4) (pen a : Nat) : (s.taken fn slot).penByte pen a = s.penByte pen a := rfl
@[simp] theorem State.taken_penRead (s : State) (fn : Fin 9) (slot : Fin 4) (pen a len : Nat) : (s.taken fn slot).penRead pen a len = s.penRead pen a len := rfl
@[simp] theorem State.taken_penPoisoned (s : State) (fn : Fin 9) (slot : Fin 4) (pen a len : Nat) : (s.taken fn slot).penPoisoned pen a len = s.penPoisoned pen a len := rfl
@[simp] theorem State.taken_penHeld (s : State) (fn : Fin 9) (slot : Fin 4) (src : NpSource) (pen a len : Nat) : (s.taken fn slot).penHeld src pen a len = s.penHeld src pen a len := rfl
@[simp] theorem State.taken_penPieces (s : State) (fn : Fin 9) (slot : Fin 4) (pen a len : Nat) : (s.taken fn slot).penPieces pen a len = s.penPieces pen a len := rfl
@[simp] theorem State.taken_retrainable (s : State) (fn : Fin 9) (slot : Fin 4) : (s.taken fn slot).retrainable = s.retrainable := rfl
@[simp] theorem State.taken_tensorOpt (s : State) (fn : Fin 9) (slot : Fin 4) (handle : Nat) : (s.taken fn slot).tensor? handle = s.tensor? handle := rfl
@[simp] theorem State.taken_baseOpt (s : State) (fn : Fin 9) (slot : Fin 4) (handle : Nat) : (s.taken fn slot).base? handle = s.base? handle := rfl
@[simp] theorem State.taken_nearForm (s : State) (fn : Fin 9) (slot : Fin 4) (pen : Nat) (t : Tensor) (a : Nat) : (s.taken fn slot).nearForm pen t a = s.nearForm pen t a := rfl
@[simp] theorem State.taken_baseForm (s : State) (fn : Fin 9) (slot : Fin 4) (t : Tensor) (a : Nat) : (s.taken fn slot).baseForm t a = s.baseForm t a := rfl
@[simp] theorem State.taken_baseCode (s : State) (fn : Fin 9) (slot : Fin 4) (t : Tensor) (lin : Nat) : (s.taken fn slot).baseCode t lin = s.baseCode t lin := rfl
@[simp] theorem State.taken_elemCode (s : State) (fn : Fin 9) (slot : Fin 4) (pen : Nat) (t : Tensor) (lin : Nat) : (s.taken fn slot).elemCode pen t lin = s.elemCode pen t lin := rfl
@[simp] theorem State.taken_tScale (s : State) (fn : Fin 9) (slot : Fin 4) (pen : Nat) (t : Tensor) : (s.taken fn slot).tScale pen t = s.tScale pen t := rfl
@[simp] theorem State.taken_scaleByte (s : State) (fn : Fin 9) (slot : Fin 4) (pen : Nat) (t : Tensor) (lin : Nat) : (s.taken fn slot).scaleByte pen t lin = s.scaleByte pen t lin := rfl
@[simp] theorem State.taken_elemValue (s : State) (fn : Fin 9) (slot : Fin 4) (pen : Nat) (t : Tensor) (lin : Nat) : (s.taken fn slot).elemValue pen t lin = s.elemValue pen t lin := rfl
@[simp] theorem State.taken_viewOf (s : State) (fn : Fin 9) (slot : Fin 4) (d : List Byte) (pen : Nat) (t : Tensor) (view : Nat) : (s.taken fn slot).viewOf d pen t view = s.viewOf d pen t view := rfl
@[simp] theorem State.taken_bindViews (s : State) (fn : Fin 9) (slot : Fin 4) (d : List Byte) : (s.taken fn slot).bindViews d = s.bindViews d := rfl
@[simp] theorem State.taken_operand (s : State) (fn : Fin 9) (slot : Fin 4) (d : List Byte) (n : Nat) : (s.taken fn slot).operand d n = s.operand d n := rfl
@[simp] theorem State.taken_atP (s : State) (fn : Fin 9) (slot : Fin 4) (o : Operand) (c : List Nat) : (s.taken fn slot).at' o c = s.at' o c := rfl
@[simp] theorem State.taken_val (s : State) (fn : Fin 9) (slot : Fin 4) (o : Operand) (v : Nat) : (s.taken fn slot).val o v = s.val o v := rfl
@[simp] theorem State.taken_atBroadcast (s : State) (fn : Fin 9) (slot : Fin 4) (o : Operand) (c : List Nat) : (s.taken fn slot).atBroadcast o c = s.atBroadcast o c := rfl
@[simp] theorem State.taken_f32At (s : State) (fn : Fin 9) (slot : Fin 4) (o : Operand) (c : List Nat) : (s.taken fn slot).f32At o c = s.f32At o c := rfl
@[simp] theorem State.taken_pen (s : State) (fn : Fin 9) (slot : Fin 4) (p : Nat) : (s.taken fn slot).pen p = s.pen p := rfl
@[simp] theorem State.taken_port (s : State) (fn : Fin 9) (slot : Fin 4) (p : Nat) : (s.taken fn slot).port p = s.port p := rfl
@[simp] theorem State.taken_stackAt (s : State) (fn : Fin 9) (slot : Fin 4) (k : Nat) : (s.taken fn slot).stackAt k = s.stackAt k := rfl
@[simp] theorem State.taken_talsenAt (s : State) (fn : Fin 9) (slot : Fin 4) (k : Nat) : (s.taken fn slot).talsenAt k = s.talsenAt k := rfl
@[simp] theorem State.taken_fold (s : State) (fn : Fin 9) (slot : Fin 4) (k : Nat) : (s.taken fn slot).fold k = s.fold k := rfl
@[simp] theorem State.taken_keptStage (s : State) (fn : Fin 9) (slot : Fin 4) : (s.taken fn slot).keptStage = s.keptStage := rfl
@[simp] theorem State.taken_occurrence (s : State) (fn : Fin 9) (slot : Fin 4) (code : Nat) (sev : Severity) (unit : Nat) (pen : Option Nat) (addr : Option Nat)   (info : Nat) : (s.taken fn slot).occurrence code sev unit pen addr info = s.occurrence code sev unit pen addr info := rfl
@[simp] theorem State.taken_faultPending (s : State) (fn : Fin 9) (slot : Fin 4) : (s.taken fn slot).faultPending = s.faultPending := rfl
@[simp] theorem State.taken_boundPen (s : State) (fn : Fin 9) (slot : Fin 4) (v : Nat) : (s.taken fn slot).boundPen v = s.boundPen v := rfl
@[simp] theorem State.taken_penFunction (s : State) (fn : Fin 9) (slot : Fin 4) (p : Nat) : (s.taken fn slot).penFunction p = s.penFunction p := rfl
@[simp] theorem State.taken_transitLive (s : State) (fn : Fin 9) (slot : Fin 4) : (s.taken fn slot).transitLive = s.transitLive := rfl
@[simp] theorem State.taken_thermal (s : State) (fn : Fin 9) (slot : Fin 4) : (s.taken fn slot).thermal = s.thermal := rfl
@[simp] theorem State.taken_ownCoord (s : State) (fn : Fin 9) (slot : Fin 4) : (s.taken fn slot).ownCoord = s.ownCoord := rfl
@[simp] theorem State.taken_hubPresent (s : State) (fn : Fin 9) (slot : Fin 4) : (s.taken fn slot).hubPresent = s.hubPresent := rfl
@[simp] theorem State.taken_hubAnswers (s : State) (fn : Fin 9) (slot : Fin 4) : (s.taken fn slot).hubAnswers = s.hubAnswers := rfl
@[simp] theorem State.taken_isMaster (s : State) (fn : Fin 9) (slot : Fin 4) : (s.taken fn slot).isMaster = s.isMaster := rfl
@[simp] theorem State.taken_arrival (s : State) (fn : Fin 9) (slot : Fin 4) (p : Packet) : (s.taken fn slot).arrival p = s.arrival p := rfl
@[simp] theorem State.taken_departing (s : State) (fn : Fin 9) (slot : Fin 4) (p : Packet) : (s.taken fn slot).departing p = s.departing p := rfl
@[simp] theorem State.taken_upPorts (s : State) (fn : Fin 9) (slot : Fin 4) : (s.taken fn slot).upPorts = s.upPorts := rfl
@[simp] theorem State.taken_headPacket (s : State) (fn : Fin 9) (slot : Fin 4) (vc ptype : Nat) : (s.taken fn slot).headPacket vc ptype = s.headPacket vc ptype := rfl
@[simp] theorem State.taken_mgmtPacket (s : State) (fn : Fin 9) (slot : Fin 4) (ptype : Nat) : (s.taken fn slot).mgmtPacket ptype = s.mgmtPacket ptype := rfl
@[simp] theorem State.taken_half (s : State) (fn : Fin 9) (slot : Fin 4) (phys : Nat) (h : Bool) : (s.taken fn slot).half phys h = s.half phys h := rfl
@[simp] theorem State.taken_opOpt (s : State) (fn : Fin 9) (slot : Fin 4) (id : Nat) : (s.taken fn slot).op? id = s.op? id := rfl
@[simp] theorem State.taken_halvesOf (s : State) (fn : Fin 9) (slot : Fin 4) (id : Nat) : (s.taken fn slot).halvesOf id = s.halvesOf id := rfl
@[simp] theorem State.taken_anyOpt (s : State) (fn : Fin 9) (slot : Fin 4) (h : Nat) : (s.taken fn slot).any? h = s.any? h := rfl
@[simp] theorem State.taken_allTensors (s : State) (fn : Fin 9) (slot : Fin 4) : (s.taken fn slot).allTensors = s.allTensors := rfl
@[simp] theorem State.taken_foldsIdle (s : State) (fn : Fin 9) (slot : Fin 4) : (s.taken fn slot).foldsIdle = s.foldsIdle := rfl
@[simp] theorem State.taken_completionRecord (s : State) (fn : Fin 9) (slot : Fin 4) (d : List Byte) (status flags discards recomputes : Nat) : (s.taken fn slot).completionRecord d status flags discards recomputes = s.completionRecord d status flags discards recomputes := rfl
@[simp] theorem State.taken_updated (s : State) (fn : Fin 9) (slot : Fin 4) (d : List Byte) : (s.taken fn slot).updated d = s.updated d := rfl
@[simp] theorem State.taken_report (s : State) (fn : Fin 9) (slot : Fin 4) (key : B16) : (s.taken fn slot).report key = s.report key := rfl
@[simp] theorem State.taken_generation (s : State) (fn : Fin 9) (slot : Fin 4) (key : B16) : (s.taken fn slot).generation key = s.generation key := rfl
@[simp] theorem State.taken_planShape (s : State) (fn : Fin 9) (slot : Fin 4) (d : List Byte) : (s.taken fn slot).planShape d = s.planShape d := rfl
@[simp] theorem State.taken_queueOpt (s : State) (fn : Fin 9) (slot : Fin 4) (q : Nat) : (s.taken fn slot).queue? q = s.queue? q := rfl
@[simp] theorem State.taken_queueFunction (s : State) (fn : Fin 9) (slot : Fin 4) (q : Queue) : (s.taken fn slot).queueFunction q = s.queueFunction q := rfl
@[simp] theorem State.taken_timeBytes (s : State) (fn : Fin 9) (slot : Fin 4) : (s.taken fn slot).timeBytes = s.timeBytes := rfl
@[simp] theorem State.taken_completionWaits (s : State) (fn : Fin 9) (slot : Fin 4) (q : Queue) : (s.taken fn slot).completionWaits q = s.completionWaits q := rfl
@[simp] theorem State.taken_takes (s : State) (fn : Fin 9) (slot : Fin 4) (q : Queue) : (s.taken fn slot).takes q = s.takes q := rfl
@[simp] theorem State.taken_headEntry (s : State) (fn : Fin 9) (slot : Fin 4) (q : Queue) : (s.taken fn slot).headEntry q = s.headEntry q := rfl
@[simp] theorem State.taken_streamRuns (s : State) (fn : Fin 9) (slot : Fin 4) (n : Nat) : (s.taken fn slot).streamRuns n = s.streamRuns n := rfl
@[simp] theorem State.taken_queueBusy (s : State) (fn : Fin 9) (slot : Fin 4) (q : Queue) : (s.taken fn slot).queueBusy q = s.queueBusy q := rfl
@[simp] theorem State.taken_signalCounter (s : State) (fn : Fin 9) (slot : Fin 4) (pen id : Nat) : (s.taken fn slot).signalCounter pen id = s.signalCounter pen id := rfl
@[simp] theorem State.taken_counterHeld (s : State) (fn : Fin 9) (slot : Fin 4) (pen id : Nat) : (s.taken fn slot).counterHeld pen id = s.counterHeld pen id := rfl
@[simp] theorem State.taken_enabledFolds (s : State) (fn : Fin 9) (slot : Fin 4) (lo n : Nat) : (s.taken fn slot).enabledFolds lo n = s.enabledFolds lo n := rfl
@[simp] theorem State.taken_degraded (s : State) (fn : Fin 9) (slot : Fin 4) : (s.taken fn slot).degraded = s.degraded := rfl
@[simp] theorem State.taken_fwVersion (s : State) (fn : Fin 9) (slot : Fin 4) : (s.taken fn slot).fwVersion = s.fwVersion := rfl
@[simp] theorem State.taken_eszerMajor (s : State) (fn : Fin 9) (slot : Fin 4) : (s.taken fn slot).eszerMajor = s.eszerMajor := rfl
@[simp] theorem State.taken_eszerMinor (s : State) (fn : Fin 9) (slot : Fin 4) : (s.taken fn slot).eszerMinor = s.eszerMinor := rfl
@[simp] theorem State.taken_sdStatus (s : State) (fn : Fin 9) (slot : Fin 4) : (s.taken fn slot).sdStatus = s.sdStatus := rfl
@[simp] theorem State.taken_resetCtrl (s : State) (fn : Fin 9) (slot : Fin 4) : (s.taken fn slot).resetCtrl = s.resetCtrl := rfl
@[simp] theorem State.taken_resetCause (s : State) (fn : Fin 9) (slot : Fin 4) : (s.taken fn slot).resetCause = s.resetCause := rfl
@[simp] theorem State.taken_dogWord (s : State) (fn : Fin 9) (slot : Fin 4) (off : Nat) : (s.taken fn slot).dogWord off = s.dogWord off := rfl
@[simp] theorem State.taken_mirrorWord (s : State) (fn : Fin 9) (slot : Fin 4) (off : Nat) : (s.taken fn slot).mirrorWord off = s.mirrorWord off := rfl
@[simp] theorem State.taken_fabTopo (s : State) (fn : Fin 9) (slot : Fin 4) : (s.taken fn slot).fabTopo = s.fabTopo := rfl
@[simp] theorem State.taken_fabRing (s : State) (fn : Fin 9) (slot : Fin 4) : (s.taken fn slot).fabRing = s.fabRing := rfl
@[simp] theorem State.taken_stackReg (s : State) (fn : Fin 9) (slot : Fin 4) (k : Nat) : (s.taken fn slot).stackReg k = s.stackReg k := rfl
@[simp] theorem State.taken_rail (s : State) (fn : Fin 9) (slot : Fin 4) (r : Rail) : (s.taken fn slot).rail r = s.rail r := rfl
@[simp] theorem State.taken_hubRails (s : State) (fn : Fin 9) (slot : Fin 4) : (s.taken fn slot).hubRails = s.hubRails := rfl
@[simp] theorem State.taken_fieldsPowered (s : State) (fn : Fin 9) (slot : Fin 4) : (s.taken fn slot).fieldsPowered = s.fieldsPowered := rfl
@[simp] theorem State.taken_pensIn (s : State) (fn : Fin 9) (slot : Fin 4) (x : PenState) : (s.taken fn slot).pensIn x = s.pensIn x := rfl
@[simp] theorem State.taken_penDrained (s : State) (fn : Fin 9) (slot : Fin 4) (pen : Nat) : (s.taken fn slot).penDrained pen = s.penDrained pen := rfl
@[simp] theorem State.taken_noComplex (s : State) (fn : Fin 9) (slot : Fin 4) : (s.taken fn slot).noComplex = s.noComplex := rfl
@[simp] theorem State.taken_canBoot (s : State) (fn : Fin 9) (slot : Fin 4) : (s.taken fn slot).canBoot = s.canBoot := rfl
@[simp] theorem State.taken_heldAt2 (s : State) (fn : Fin 9) (slot : Fin 4) : (s.taken fn slot).heldAt2 = s.heldAt2 := rfl
@[simp] theorem State.taken_axesUp (s : State) (fn : Fin 9) (slot : Fin 4) : (s.taken fn slot).axesUp = s.axesUp := rfl
@[simp] theorem State.taken_nearShared (s : State) (fn : Fin 9) (slot : Fin 4) : (s.taken fn slot).nearShared = s.nearShared := rfl
@[simp] theorem State.taken_farShared (s : State) (fn : Fin 9) (slot : Fin 4) : (s.taken fn slot).farShared = s.farShared := rfl
@[simp] theorem State.taken_poolFree (s : State) (fn : Fin 9) (slot : Fin 4) : (s.taken fn slot).poolFree = s.poolFree := rfl
@[simp] theorem State.taken_quotaFits (s : State) (fn : Fin 9) (slot : Fin 4) (pen nearMin farMax : Nat) : (s.taken fn slot).quotaFits pen nearMin farMax = s.quotaFits pen nearMin farMax := rfl
@[simp] theorem State.taken_freeNearPages (s : State) (fn : Fin 9) (slot : Fin 4) (n : Nat) : (s.taken fn slot).freeNearPages n = s.freeNearPages n := rfl
@[simp] theorem State.taken_stripeNow (s : State) (fn : Fin 9) (slot : Fin 4) : (s.taken fn slot).stripeNow = s.stripeNow := rfl
@[simp] theorem State.taken_farExtents (s : State) (fn : Fin 9) (slot : Fin 4) (p : Nat) : (s.taken fn slot).farExtents p = s.farExtents p := rfl
@[simp] theorem State.taken_farUsable (s : State) (fn : Fin 9) (slot : Fin 4) (p : Nat) : (s.taken fn slot).farUsable p = s.farUsable p := rfl
@[simp] theorem State.taken_farPlace (s : State) (fn : Fin 9) (slot : Fin 4) (p n : Nat) : (s.taken fn slot).farPlace p n = s.farPlace p n := rfl
@[simp] theorem State.taken_reserveFar (s : State) (fn : Fin 9) (slot : Fin 4) (bytes : Nat) (stripe : List Nat) : (s.taken fn slot).reserveFar bytes stripe = s.reserveFar bytes stripe := rfl
@[simp] theorem State.taken_fetchable (s : State) (fn : Fin 9) (slot : Fin 4) (f : FarCopy) : (s.taken fn slot).fetchable f = s.fetchable f := rfl
@[simp] theorem State.taken_tensorAt (s : State) (fn : Fin 9) (slot : Fin 4) (pen addr : Nat) : (s.taken fn slot).tensorAt pen addr = s.tensorAt pen addr := rfl
@[simp] theorem State.taken_used (s : State) (fn : Fin 9) (slot : Fin 4) (d : List Byte) : (s.taken fn slot).used d = s.used d := rfl
@[simp] theorem State.taken_inputHandles (s : State) (fn : Fin 9) (slot : Fin 4) (d : List Byte) : (s.taken fn slot).inputHandles d = s.inputHandles d := rfl
@[simp] theorem State.taken_outputHandles (s : State) (fn : Fin 9) (slot : Fin 4) (d : List Byte) : (s.taken fn slot).outputHandles d = s.outputHandles d := rfl
@[simp] theorem State.taken_scratchHandles (s : State) (fn : Fin 9) (slot : Fin 4) (r : List (List Byte)) : (s.taken fn slot).scratchHandles r = s.scratchHandles r := rfl
@[simp] theorem State.taken_checkpoints (s : State) (fn : Fin 9) (slot : Fin 4) (r : List (List Byte)) : (s.taken fn slot).checkpoints r = s.checkpoints r := rfl
@[simp] theorem State.taken_supplied (s : State) (fn : Fin 9) (slot : Fin 4) (t : Tensor) : (s.taken fn slot).supplied t = s.supplied t := rfl
@[simp] theorem State.taken_baseGood (s : State) (fn : Fin 9) (slot : Fin 4) (t : Tensor) : (s.taken fn slot).baseGood t = s.baseGood t := rfl
@[simp] theorem State.taken_usable (s : State) (fn : Fin 9) (slot : Fin 4) (t : Tensor) : (s.taken fn slot).usable t = s.usable t := rfl
@[simp] theorem State.taken_freshScale (s : State) (fn : Fin 9) (slot : Fin 4) (d : List Byte) (h : Nat) : (s.taken fn slot).freshScale d h = s.freshScale d h := rfl
@[simp] theorem State.taken_destOk (s : State) (fn : Fin 9) (slot : Fin 4) (c : B16) : (s.taken fn slot).destOk c = s.destOk c := rfl
@[simp] theorem State.taken_ropError (s : State) (fn : Fin 9) (slot : Fin 4) (q : Queue) (d : List Byte) : (s.taken fn slot).ropError q d = s.ropError q d := rfl
@[simp] theorem State.taken_ropRecord (s : State) (fn : Fin 9) (slot : Fin 4) (d : List Byte) (pen status result : Nat) : (s.taken fn slot).ropRecord d pen status result = s.ropRecord d pen status result := rfl
@[simp] theorem State.taken_fragment (s : State) (fn : Fin 9) (slot : Fin 4) (q : Queue) (d : List Byte) (i : Nat) : (s.taken fn slot).fragment q d i = s.fragment q d i := rfl
@[simp] theorem State.taken_acceptOp (s : State) (fn : Fin 9) (slot : Fin 4) (p : Packet) : (s.taken fn slot).acceptOp p = s.acceptOp p := rfl
@[simp] theorem State.taken_response (s : State) (fn : Fin 9) (slot : Fin 4) (p : Packet) (ty flags arg0 arg1 : Nat) (payload : List Byte) : (s.taken fn slot).response p ty flags arg0 arg1 payload = s.response p ty flags arg0 arg1 payload := rfl
@[simp] theorem State.taken_requestSource (s : State) (fn : Fin 9) (slot : Fin 4) (p : Packet) : (s.taken fn slot).requestSource p = s.requestSource p := rfl
@[simp] theorem State.taken_openFor (s : State) (fn : Fin 9) (slot : Fin 4) (p : Packet) : (s.taken fn slot).openFor p = s.openFor p := rfl
@[simp] theorem State.taken_putWaits (s : State) (fn : Fin 9) (slot : Fin 4) (o : OpenOp) : (s.taken fn slot).putWaits o = s.putWaits o := rfl
@[simp] theorem State.taken_ropOf (s : State) (fn : Fin 9) (slot : Fin 4) (tag : Nat) : (s.taken fn slot).ropOf tag = s.ropOf tag := rfl
@[simp] theorem State.taken_ropEndHeld (s : State) (fn : Fin 9) (slot : Fin 4) (r : RopOp) : (s.taken fn slot).ropEndHeld r = s.ropEndHeld r := rfl
@[simp] theorem State.taken_requestHeld (s : State) (fn : Fin 9) (slot : Fin 4) (behind : List Packet) (p : Packet) : (s.taken fn slot).requestHeld behind p = s.requestHeld behind p := rfl
@[simp] theorem State.taken_landingSource (s : State) (fn : Fin 9) (slot : Fin 4) (r : RopOp) : (s.taken fn slot).landingSource r = s.landingSource r := rfl
@[simp] theorem State.taken_earliest (s : State) (fn : Fin 9) (slot : Fin 4) (r : RopOp) : (s.taken fn slot).earliest r = s.earliest r := rfl
@[simp] theorem State.taken_routeHeld (s : State) (fn : Fin 9) (slot : Fin 4) (q : Nat) : (s.taken fn slot).routeHeld q = s.routeHeld q := rfl
@[simp] theorem State.taken_ropOpen (s : State) (fn : Fin 9) (slot : Fin 4) (q : Queue) : (s.taken fn slot).ropOpen q = s.ropOpen q := rfl
@[simp] theorem State.taken_ropHeld (s : State) (fn : Fin 9) (slot : Fin 4) (q : Queue) (d : List Byte) : (s.taken fn slot).ropHeld q d = s.ropHeld q d := rfl
@[simp] theorem State.taken_putHeld (s : State) (fn : Fin 9) (slot : Fin 4) (p : Packet) (acc : Bool) : (s.taken fn slot).putHeld p acc = s.putHeld p acc := rfl
@[simp] theorem State.taken_landingHeld (s : State) (fn : Fin 9) (slot : Fin 4) (p : Packet) : (s.taken fn slot).landingHeld p = s.landingHeld p := rfl
@[simp] theorem State.taken_mayWrite (s : State) (fn : Fin 9) (slot : Fin 4) (o : Op) : (s.taken fn slot).mayWrite o = s.mayWrite o := rfl
@[simp] theorem State.taken_keepsEffect (s : State) (fn : Fin 9) (slot : Fin 4) (o : Op) (e : Effect) : (s.taken fn slot).keepsEffect o e = s.keepsEffect o e := rfl
@[simp] theorem State.taken_writesWhole (s : State) (fn : Fin 9) (slot : Fin 4) (o : Op) (h : Nat) : (s.taken fn slot).writesWhole o h = s.writesWhole o h := rfl
@[simp] theorem State.taken_dataHeld (s : State) (fn : Fin 9) (slot : Fin 4) (o : Op) : (s.taken fn slot).dataHeld o = s.dataHeld o := rfl
@[simp] theorem State.taken_endHeld (s : State) (fn : Fin 9) (slot : Fin 4) (o : Op) : (s.taken fn slot).endHeld o = s.endHeld o := rfl
@[simp] theorem State.taken_opFinished (s : State) (fn : Fin 9) (slot : Fin 4) (o : Op) : (s.taken fn slot).opFinished o = s.opFinished o := rfl
@[simp] theorem State.taken_endsNow (s : State) (fn : Fin 9) (slot : Fin 4) (o : Op) : (s.taken fn slot).endsNow o = s.endsNow o := rfl
@[simp] theorem State.taken_waitMet (s : State) (fn : Fin 9) (slot : Fin 4) (pen : Nat) (d : List Byte) : (s.taken fn slot).waitMet pen d = s.waitMet pen d := rfl
@[simp] theorem State.taken_ringFenced (s : State) (fn : Fin 9) (slot : Fin 4) (q : Nat) : (s.taken fn slot).ringFenced q = s.ringFenced q := rfl
@[simp] theorem State.taken_bs4Waits (s : State) (fn : Fin 9) (slot : Fin 4) (d : List Byte) : (s.taken fn slot).bs4Waits d = s.bs4Waits d := rfl
@[simp] theorem State.taken_fenceWaits (s : State) (fn : Fin 9) (slot : Fin 4) (q : Queue) (d : List Byte) : (s.taken fn slot).fenceWaits q d = s.fenceWaits q d := rfl
@[simp] theorem State.taken_mayRun (s : State) (fn : Fin 9) (slot : Fin 4) (o : Op) : (s.taken fn slot).mayRun o = s.mayRun o := rfl
@[simp] theorem State.taken_chainsFree (s : State) (fn : Fin 9) (slot : Fin 4) (o : Op) (is : List Nat) : (s.taken fn slot).chainsFree o is = s.chainsFree o is := rfl
@[simp] theorem State.taken_heldBack (s : State) (fn : Fin 9) (slot : Fin 4) (t : Task) : (s.taken fn slot).heldBack t = s.heldBack t := rfl
@[simp] theorem State.taken_canStart (s : State) (fn : Fin 9) (slot : Fin 4) (o : Op) (i : Nat) : (s.taken fn slot).canStart o i = s.canStart o i := rfl
@[simp] theorem State.taken_nextTask (s : State) (fn : Fin 9) (slot : Fin 4) (o : Op) : (s.taken fn slot).nextTask o = s.nextTask o := rfl
@[simp] theorem State.taken_inPlaceHandles (s : State) (fn : Fin 9) (slot : Fin 4) (o : Op) : (s.taken fn slot).inPlaceHandles o = s.inPlaceHandles o := rfl
@[simp] theorem State.taken_readHandles (s : State) (fn : Fin 9) (slot : Fin 4) (o : Op) : (s.taken fn slot).readHandles o = s.readHandles o := rfl
@[simp] theorem State.taken_provisionalOk (s : State) (fn : Fin 9) (slot : Fin 4) (o : Op) (t : Task) (h : Nat) : (s.taken fn slot).provisionalOk o t h = s.provisionalOk o t h := rfl
@[simp] theorem State.taken_inputReady (s : State) (fn : Fin 9) (slot : Fin 4) (o : Op) (t : Task) (h : Nat) : (s.taken fn slot).inputReady o t h = s.inputReady o t h := rfl
@[simp] theorem State.taken_poisonedBase (s : State) (fn : Fin 9) (slot : Fin 4) (o : Op) : (s.taken fn slot).poisonedBase o = s.poisonedBase o := rfl
@[simp] theorem State.taken_servesTensor (s : State) (fn : Fin 9) (slot : Fin 4) (src : NpSource) (t : Tensor) : (s.taken fn slot).servesTensor src t = s.servesTensor src t := rfl
@[simp] theorem State.taken_inputsHere (s : State) (fn : Fin 9) (slot : Fin 4) (o : Op) : (s.taken fn slot).inputsHere o = s.inputsHere o := rfl
@[simp] theorem State.taken_planeHeld (s : State) (fn : Fin 9) (slot : Fin 4) (t : Task) : (s.taken fn slot).planeHeld t = s.planeHeld t := rfl
@[simp] theorem State.taken_planePoisoned (s : State) (fn : Fin 9) (slot : Fin 4) (t : Task) : (s.taken fn slot).planePoisoned t = s.planePoisoned t := rfl
@[simp] theorem State.taken_runningReaders (s : State) (fn : Fin 9) (slot : Fin 4) (h : Nat) : (s.taken fn slot).runningReaders h = s.runningReaders h := rfl
@[simp] theorem State.taken_basePensOf (s : State) (fn : Fin 9) (slot : Fin 4) (n : Nat) : (s.taken fn slot).basePensOf n = s.basePensOf n := rfl
@[simp] theorem State.taken_runningOn (s : State) (fn : Fin 9) (slot : Fin 4) (n : Nat) : (s.taken fn slot).runningOn n = s.runningOn n := rfl
@[simp] theorem State.taken_tensorPoisoned (s : State) (fn : Fin 9) (slot : Fin 4) (t : Tensor) : (s.taken fn slot).tensorPoisoned t = s.tensorPoisoned t := rfl
@[simp] theorem State.taken_basePoisoned (s : State) (fn : Fin 9) (slot : Fin 4) (t : Tensor) : (s.taken fn slot).basePoisoned t = s.basePoisoned t := rfl
@[simp] theorem State.taken_poisonedRead (s : State) (fn : Fin 9) (slot : Fin 4) (hs : List Nat) : (s.taken fn slot).poisonedRead hs = s.poisonedRead hs := rfl
@[simp] theorem State.taken_atnTables (s : State) (fn : Fin 9) (slot : Fin 4) (d : List Byte) : (s.taken fn slot).atnTables d = s.atnTables d := rfl
@[simp] theorem State.taken_slotFold (s : State) (fn : Fin 9) (slot : Fin 4) (n : Nat) : (s.taken fn slot).slotFold n = s.slotFold n := rfl
@[simp] theorem State.taken_freeHalf (s : State) (fn : Fin 9) (slot : Fin 4) (k : Nat) : (s.taken fn slot).freeHalf k = s.freeHalf k := rfl
@[simp] theorem State.taken_freeSlots (s : State) (fn : Fin 9) (slot : Fin 4) : (s.taken fn slot).freeSlots = s.freeSlots := rfl
@[simp] theorem State.taken_preemptible (s : State) (fn : Fin 9) (slot : Fin 4) : (s.taken fn slot).preemptible = s.preemptible := rfl
@[simp] theorem State.taken_slotsFor (s : State) (fn : Fin 9) (slot : Fin 4) (o : Op) (n : Nat) : (s.taken fn slot).slotsFor o n = s.slotsFor o n := rfl
@[simp] theorem State.taken_roomWaits (s : State) (fn : Fin 9) (slot : Fin 4) (o : Op) : (s.taken fn slot).roomWaits o = s.roomWaits o := rfl
@[simp] theorem State.taken_readyTask (s : State) (fn : Fin 9) (slot : Fin 4) (o : Op) : (s.taken fn slot).readyTask o = s.readyTask o := rfl
@[simp] theorem State.taken_opRank (s : State) (fn : Fin 9) (slot : Fin 4) (o : Op) : (s.taken fn slot).opRank o = s.opRank o := rfl
@[simp] theorem State.taken_grazingRank (s : State) (fn : Fin 9) (slot : Fin 4) (o : Op) : (s.taken fn slot).grazingRank o = s.grazingRank o := rfl
@[simp] theorem State.taken_bestOp (s : State) (fn : Fin 9) (slot : Fin 4) (rank : Op → List Int) (os : List Op) : (s.taken fn slot).bestOp rank os = s.bestOp rank os := rfl
@[simp] theorem State.taken_placeFor (s : State) (fn : Fin 9) (slot : Fin 4) (o : Op) (i : Nat) (taken : List Nat) : (s.taken fn slot).placeFor o i taken = s.placeFor o i taken := rfl
@[simp] theorem State.taken_openChunks (s : State) (fn : Fin 9) (slot : Fin 4) (o : Op) : (s.taken fn slot).openChunks o = s.openChunks o := rfl
@[simp] theorem State.taken_freeChain (s : State) (fn : Fin 9) (slot : Fin 4) : (s.taken fn slot).freeChain = s.freeChain := rfl
@[simp] theorem State.taken_chainFor (s : State) (fn : Fin 9) (slot : Fin 4) (o : Op) (t : Task) : (s.taken fn slot).chainFor o t = s.chainFor o t := rfl
@[simp] theorem State.taken_victimTask (s : State) (fn : Fin 9) (slot : Fin 4) (taken : List Nat) : (s.taken fn slot).victimTask taken = s.victimTask taken := rfl
@[simp] theorem State.taken_opsOf (s : State) (fn : Fin 9) (slot : Fin 4) (grazing : Bool) : (s.taken fn slot).opsOf grazing = s.opsOf grazing := rfl
@[simp] theorem State.taken_nextStart (s : State) (fn : Fin 9) (slot : Fin 4) : (s.taken fn slot).nextStart = s.nextStart := rfl
@[simp] theorem State.taken_windowOpen (s : State) (fn : Fin 9) (slot : Fin 4) : (s.taken fn slot).windowOpen = s.windowOpen := rfl
@[simp] theorem State.taken_windowSeconds (s : State) (fn : Fin 9) (slot : Fin 4) : (s.taken fn slot).windowSeconds = s.windowSeconds := rfl
@[simp] theorem State.taken_tickBytes (s : State) (fn : Fin 9) (slot : Fin 4) : (s.taken fn slot).tickBytes = s.tickBytes := rfl
@[simp] theorem State.taken_snapshotDue (s : State) (fn : Fin 9) (slot : Fin 4) : (s.taken fn slot).snapshotDue = s.snapshotDue := rfl
@[simp] theorem State.taken_nearOwner (s : State) (fn : Fin 9) (slot : Fin 4) (line : Nat) : (s.taken fn slot).nearOwner line = s.nearOwner line := rfl
@[simp] theorem State.taken_nearCopyAt (s : State) (fn : Fin 9) (slot : Fin 4) (line : Nat) : (s.taken fn slot).nearCopyAt line = s.nearCopyAt line := rfl
@[simp] theorem State.taken_baseAt (s : State) (fn : Fin 9) (slot : Fin 4) (line : Nat) : (s.taken fn slot).baseAt line = s.baseAt line := rfl
@[simp] theorem State.taken_parentPort (s : State) (fn : Fin 9) (slot : Fin 4) : (s.taken fn slot).parentPort = s.parentPort := rfl
@[simp] theorem State.taken_childPorts (s : State) (fn : Fin 9) (slot : Fin 4) : (s.taken fn slot).childPorts = s.childPorts := rfl
@[simp] theorem State.taken_tallyAllowed (s : State) (fn : Fin 9) (slot : Fin 4) (epoch : B16) (time : DWord) : (s.taken fn slot).tallyAllowed epoch time = s.tallyAllowed epoch time := rfl
@[simp] theorem State.taken_run (s : State) (fn : Fin 9) (slot : Fin 4) (o : Operand) (from' n : Nat) : (s.taken fn slot).run o from' n = s.run o from' n := rfl
@[simp] theorem State.taken_normScale (s : State) (fn : Fin 9) (slot : Fin 4) (d : List Byte) (gamma : Option Operand) (ext : List Nat) (v : Nat) : (s.taken fn slot).normScale d gamma ext v = s.normScale d gamma ext v := rfl
@[simp] theorem State.taken_normFwdSet (s : State) (fn : Fin 9) (slot : Fin 4) (d : List Byte) (x y : Operand) (gamma beta stats : Option Operand) (set : Nat) : (s.taken fn slot).normFwdSet d x y gamma beta stats set = s.normFwdSet d x y gamma beta stats set := rfl
@[simp] theorem State.taken_normBwdSet (s : State) (fn : Fin 9) (slot : Fin 4) (d : List Byte) (x dy stats : Operand) (gamma : Option Operand) (set : Nat) : (s.taken fn slot).normBwdSet d x dy stats gamma set = s.normBwdSet d x dy stats gamma set := rfl
@[simp] theorem State.taken_normBwd (s : State) (fn : Fin 9) (slot : Fin 4) (d : List Byte) (x dx dy stats : Operand) (gamma grads : Option Operand) : (s.taken fn slot).normBwd d x dx dy stats gamma grads = s.normBwd d x dx dy stats gamma grads := rfl
@[simp] theorem State.taken_softFwdRow (s : State) (fn : Fin 9) (slot : Fin 4) (d : List Byte) (x y : Operand) (row : Nat) : (s.taken fn slot).softFwdRow d x y row = s.softFwdRow d x y row := rfl
@[simp] theorem State.taken_softBwdRow (s : State) (fn : Fin 9) (slot : Fin 4) (d : List Byte) (y dy dx : Operand) (row : Nat) : (s.taken fn slot).softBwdRow d y dy dx row = s.softBwdRow d y dy dx row := rfl
@[simp] theorem State.taken_eltElement (s : State) (fn : Fin 9) (slot : Fin 4) (d : List Byte) (o0 o2 : Operand) (o1 o3 : Option Operand) (v : Nat) : (s.taken fn slot).eltElement d o0 o2 o1 o3 v = s.eltElement d o0 o2 o1 o3 v := rfl
@[simp] theorem State.taken_setScale (s : State) (fn : Fin 9) (slot : Fin 4) (d : List Byte) (o0 o2 : Operand) : (s.taken fn slot).setScale d o0 o2 = s.setScale d o0 o2 := rfl
@[simp] theorem State.taken_reduceElement (s : State) (fn : Fin 9) (slot : Fin 4) (d : List Byte) (o0 o2 : Operand) (v : Nat) : (s.taken fn slot).reduceElement d o0 o2 v = s.reduceElement d o0 o2 v := rfl
@[simp] theorem State.taken_optElement (s : State) (fn : Fin 9) (slot : Fin 4) (d : List Byte) (o0 o1 o3 : Operand) (copy o4 : Option Operand) (v : Nat) : (s.taken fn slot).optElement d o0 o1 o3 copy o4 v = s.optElement d o0 o1 o3 copy o4 v := rfl
@[simp] theorem State.taken_lossSample (s : State) (fn : Fin 9) (slot : Fin 4) (d : List Byte) (p t : Operand) (sample : Nat) : (s.taken fn slot).lossSample d p t sample = s.lossSample d p t sample := rfl
@[simp] theorem State.taken_lossPart (s : State) (fn : Fin 9) (slot : Fin 4) (d : List Byte) (p t out : Operand) (omega grad : Option Operand) : (s.taken fn slot).lossPart d p t out omega grad = s.lossPart d p t out omega grad := rfl
@[simp] theorem State.taken_castElement (s : State) (fn : Fin 9) (slot : Fin 4) (d : List Byte) (o0 o2 : Operand) (v : Nat) : (s.taken fn slot).castElement d o0 o2 v = s.castElement d o0 o2 v := rfl
@[simp] theorem State.taken_formBytes (s : State) (fn : Fin 9) (slot : Fin 4) (pen : Nat) (t : Tensor) : (s.taken fn slot).formBytes pen t = s.formBytes pen t := rfl
@[simp] theorem State.taken_movePart (s : State) (fn : Fin 9) (slot : Fin 4) (d : List Byte) (o0 o2 : Operand) : (s.taken fn slot).movePart d o0 o2 = s.movePart d o0 o2 := rfl
@[simp] theorem State.taken_streamOpt (s : State) (fn : Fin 9) (slot : Fin 4) (n : Nat) : (s.taken fn slot).stream? n = s.stream? n := rfl
@[simp] theorem State.taken_core (s : State) (fn : Fin 9) (slot : Fin 4) (c : Nat) : (s.taken fn slot).core c = s.core c := rfl
@[simp] theorem State.taken_eventBytes (s : State) (fn : Fin 9) (slot : Fin 4) (e : List Byte) (ev status : Nat) (info detail : Nat) : (s.taken fn slot).eventBytes e ev status info detail = s.eventBytes e ev status info detail := rfl
@[simp] theorem State.taken_videoTensor (s : State) (fn : Fin 9) (slot : Fin 4) (pen h : Nat) : (s.taken fn slot).videoTensor pen h = s.videoTensor pen h := rfl
@[simp] theorem State.taken_videoTensorsOk (s : State) (fn : Fin 9) (slot : Fin 4) (pen : Nat) (e : List Byte) : (s.taken fn slot).videoTensorsOk pen e = s.videoTensorsOk pen e := rfl
@[simp] theorem State.taken_videoStreamOk (s : State) (fn : Fin 9) (slot : Fin 4) (q : Queue) (e : List Byte) : (s.taken fn slot).videoStreamOk q e = s.videoStreamOk q e := rfl
@[simp] theorem State.taken_videoParamBad (s : State) (fn : Fin 9) (slot : Fin 4) (e : List Byte) : (s.taken fn slot).videoParamBad e = s.videoParamBad e := rfl
@[simp] theorem State.taken_videoError (s : State) (fn : Fin 9) (slot : Fin 4) (q : Queue) (e : List Byte) : (s.taken fn slot).videoError q e = s.videoError q e := rfl
@[simp] theorem State.taken_bufferFree (s : State) (fn : Fin 9) (slot : Fin 4) (x : Stream) : (s.taken fn slot).bufferFree x = s.bufferFree x := rfl
@[simp] theorem State.taken_outputRanges (s : State) (fn : Fin 9) (slot : Fin 4) (pen : Nat) (e : List Byte) : (s.taken fn slot).outputRanges pen e = s.outputRanges pen e := rfl
@[simp] theorem State.taken_openEntries (s : State) (fn : Fin 9) (slot : Fin 4) (x : Stream) : (s.taken fn slot).openEntries x = s.openEntries x := rfl
@[simp] theorem State.taken_outputStores (s : State) (fn : Fin 9) (slot : Fin 4) (x : Stream) (e : List Byte) (stores : List (Nat × List Byte)) : (s.taken fn slot).outputStores x e stores = s.outputStores x e stores := rfl
@[simp] theorem State.taken_dataBytes (s : State) (fn : Fin 9) (slot : Fin 4) (pen : Nat) (e : List Byte) : (s.taken fn slot).dataBytes pen e = s.dataBytes pen e := rfl
@[simp] theorem State.taken_videoHeld (s : State) (fn : Fin 9) (slot : Fin 4) (pen : Nat) (e : List Byte) : (s.taken fn slot).videoHeld pen e = s.videoHeld pen e := rfl
@[simp] theorem State.taken_streamTakes (s : State) (fn : Fin 9) (slot : Fin 4) (e : List Byte) : (s.taken fn slot).streamTakes e = s.streamTakes e := rfl
@[simp] theorem State.taken_readyPictures (s : State) (fn : Fin 9) (slot : Fin 4) (encode : Bool) : (s.taken fn slot).readyPictures encode = s.readyPictures encode := rfl
@[simp] theorem State.taken_isLate (s : State) (fn : Fin 9) (slot : Fin 4) (x : Stream) (w : PicWork) : (s.taken fn slot).isLate x w = s.isLate x w := rfl
@[simp] theorem State.taken_encodeInput (s : State) (fn : Fin 9) (slot : Fin 4) (x : Stream) (e : List Byte) : (s.taken fn slot).encodeInput x e = s.encodeInput x e := rfl
@[simp] theorem State.taken_pictureHeld (s : State) (fn : Fin 9) (slot : Fin 4) (core : Nat) : (s.taken fn slot).pictureHeld core = s.pictureHeld core := rfl
@[simp] theorem State.taken_MemCanonical (s : State) (fn : Fin 9) (slot : Fin 4) : (s.taken fn slot).MemCanonical = s.MemCanonical := rfl

end Sys2Proof.Machine
end

