-- ==== Sys2Proof/Laws/Mailbox.lean ====
section
/-! SUPPORT. What serving a slot does: the request whose turn it is and that passes is taken, and its command's body answers or
waits; and what the rest of the round leaves. -/

-- One proof at a time: the package as one text otherwise asks for more threads than its memory limit allows.
set_option Elab.async false
set_option linter.all false

namespace Sys2Proof.Machine

/-- What the end of a command's body leaves. -/
def Answer.finish (i : Nat) : Answer → State
  | .reply u st p => u.answer i st p
  | .wait u => u

/-- R399, R402: the slot whose turn it is has its GO set, is not BUSY, and is one of the twelve. -/
theorem slotDue_some {s : State} {i : Nat} (h : s.slotDue = some i) : (s.slotAt i).go = true ∧ (s.slotAt i).state ≠ 1 ∧ i < 12 := by
  unfold State.slotDue at h
  have hp := List.find?_some h
  obtain ⟨k, -, rfl⟩ := List.mem_map.1 (List.mem_of_find?_eq_some h)
  simp only [Bool.and_eq_true, bne_iff_ne] at hp
  exact ⟨hp.1, hp.2, Nat.mod_lt _ (by decide)⟩

/-- R402: no turn is due when no slot that is not BUSY has its GO set. -/
theorem slotDue_none {s : State} (h : ∀ i < 12, (s.slotAt i).go = false ∨ (s.slotAt i).state = 1) : s.slotDue = none := by
  unfold State.slotDue
  refine List.find?_eq_none.2 (fun i hi => ?_)
  obtain ⟨k, -, rfl⟩ := List.mem_map.1 hi
  rcases h ((s.host.lastSlot + 1 + k) % 12) (Nat.mod_lt _ (by decide)) with e | e <;> simp [e]

/-- R399, R400: the request whose turn it is and that passes every check is taken, the body runs on it, and the round goes on. -/
theorem serve_of_waits {s : State} {fn : Fin 9} {slot : Fin 4} {op : Nat} {body : Req → State → Answer} (h : s.Waits fn slot op) :
    s.quiet.serve fn slot op body = ((body (s.reqIn fn slot) (s.taken fn slot)).finish (slotIndex fn slot)).settleRound := by
  have hg : (s.quiet.slotAt (slotIndex fn slot)) = s.slotAt (slotIndex fn slot) := rfl
  have hd : s.quiet.slotDue = s.slotDue := rfl
  have hs : s.quiet.served = s.served := rfl
  have hp : s.quiet.precheck fn.val (slotIndex fn slot) (s.slotAt (slotIndex fn slot)) =
      s.precheck fn.val (slotIndex fn slot) (s.slotAt (slotIndex fn slot)) := rfl
  unfold State.serve
  simp only [hg, hd, hs, hp, h.due, h.served, h.opcode, h.passes, Bool.and_self, decide_true, if_true]
  rfl

/-- A slot whose turn it is not is left alone. -/
theorem serve_of_not_due {s : State} {fn : Fin 9} {slot : Fin 4} {op : Nat} {body : Req → State → Answer}
    (h : s.slotDue ≠ some (slotIndex fn slot)) : s.quiet.serve fn slot op body = s.quiet := by
  have hd : s.quiet.slotDue = s.slotDue := rfl
  unfold State.serve
  simp only [hd, h, decide_false, Bool.false_and, Bool.false_eq_true, if_false]

@[simp] theorem Answer.finish_reply (i : Nat) (u : State) (st : Nat) (p : List Byte) : (Answer.reply u st p).finish i = u.answer i st p := rfl
@[simp] theorem Answer.finish_wait (i : Nat) (u : State) : (Answer.wait u).finish i = u := rfl

/-- R410: a pen below 8 that the function reaches. -/
theorem withPen_of_reached {s : State} {fn : Fin 9} {slot : Fin 4} {p : Nat} (h : (s.reqIn fn slot).f 0 1 = p) (hp : p < 8)
    (hf : fn = 0 ∨ s.boundPen fn = some p) (k : Nat → Answer) : withPen (s.reqIn fn slot) (s.taken fn slot) k = k p := by
  have e : (s.reqIn fn slot).fn = fn.val := rfl
  unfold withPen Req.pen
  rw [h]
  rcases hf with rfl | hf
  · simp [e, Nat.not_le.2 hp]
  · simp [e, Nat.not_le.2 hp, hf]

/-! ## The rest of the round (R400, R402) -/

/-- A state in which no turn is due, or the request whose turn it is passes, is left alone. -/
theorem settleRound_of_passes {s : State} (h : ∀ i, s.slotDue = some i → s.precheck (slotFn i) i (s.slotAt i) = none) : s.settleRound = s := by
  unfold State.settleRound State.refuseDue
  split
  · rfl
  · rename_i i hi
    rw [h i hi]
    split <;> rfl

theorem settleRound_of_none {s : State} (h : s.slotDue = none) : s.settleRound = s :=
  settleRound_of_passes (fun i hi => by rw [h] at hi; cases hi)

theorem State.modSlot_slotAt_ne {s : State} {i j : Nat} {f : Mailbox → Mailbox} (h : j ≠ i) : (s.modSlot j f).slotAt i = s.slotAt i := by
  simp only [State.slotAt, State.modSlot, List.getD_eq_getElem?_getD, List.getElem?_modify, h, if_false]
  simp

theorem State.takeGo_slotAt_ne {s : State} {i j : Nat} (h : j ≠ i) : (s.takeGo j).slotAt i = s.slotAt i := State.modSlot_slotAt_ne h

theorem State.raiseVector_slotAt {s : State} {a b i : Nat} : (s.raiseVector a b).slotAt i = s.slotAt i := by
  unfold State.raiseVector
  repeat' split
  all_goals rfl

theorem State.answer_slotAt_ne {s : State} {i j st : Nat} {p : List Byte} (h : j ≠ i) : (s.answer j st p).slotAt i = s.slotAt i := by
  unfold State.answer
  dsimp only
  split
  · exact State.modSlot_slotAt_ne h
  · split
    · rw [State.raiseVector_slotAt]
      exact State.modSlot_slotAt_ne h
    · exact State.modSlot_slotAt_ne h

theorem State.refuseDue_slotAt {s : State} {n i : Nat} (h : (s.slotAt i).go = false) : (s.refuseDue n).slotAt i = s.slotAt i := by
  induction n generalizing s with
  | zero => rfl
  | succ n ih =>
    unfold State.refuseDue
    split
    · rfl
    · rename_i j hj
      have hne : j ≠ i := fun e => by
        have := (slotDue_some hj).1
        rw [e, h] at this
        cases this
      split
      · split
        · rename_i st _
          have e : (((s.takeGo j).answer j st []).slotAt i) = s.slotAt i := by
            rw [State.answer_slotAt_ne hne, State.takeGo_slotAt_ne hne]
          rw [ih (by rw [e]; exact h), e]
        · rfl
      · rfl

/-- A slot without GO is left as it is by the rest of the round. -/
theorem State.settleRound_slotAt {s : State} {i : Nat} (h : (s.slotAt i).go = false) : s.settleRound.slotAt i = s.slotAt i :=
  State.refuseDue_slotAt h

@[simp] theorem State.settleRound_dog (s : State) : s.settleRound.dog = s.dog := State.settleRound_keeps.only.same .dog (by decide)
@[simp] theorem State.settleRound_boot (s : State) : s.settleRound.boot = s.boot := State.settleRound_keeps.only.same .boot (by decide)
@[simp] theorem State.settleRound_comp (s : State) : s.settleRound.comp = s.comp := State.settleRound_keeps.only.same .comp (by decide)
@[simp] theorem State.settleRound_pens (s : State) : s.settleRound.pens = s.pens := State.settleRound_keeps.only.same .pens (by decide)
@[simp] theorem State.settleRound_drover (s : State) : s.settleRound.drover = s.drover := State.settleRound_keeps.only.same .drover (by decide)
@[simp] theorem State.settleRound_talsen (s : State) : s.settleRound.talsen = s.talsen := State.settleRound_keeps.only.same .talsen (by decide)
@[simp] theorem State.settleRound_np (s : State) : s.settleRound.np = s.np := State.settleRound_keeps.only.same .np (by decide)
@[simp] theorem State.settleRound_fab (s : State) : s.settleRound.fab = s.fab := State.settleRound_keeps.only.same .fab (by decide)
@[simp] theorem State.settleRound_qe (s : State) : s.settleRound.qe = s.qe := State.settleRound_keeps.only.same .qe (by decide)
@[simp] theorem State.settleRound_time (s : State) : s.settleRound.time = s.time := State.settleRound_keeps.only.same .time (by decide)
@[simp] theorem State.settleRound_coord (s : State) : s.settleRound.coord = s.coord := State.settleRound_keeps.only.same .coord (by decide)
@[simp] theorem State.settleRound_video (s : State) : s.settleRound.video = s.video := State.settleRound_keeps.only.same .video (by decide)
@[simp] theorem State.settleRound_free (s : State) : s.settleRound.free = s.free := State.settleRound_keeps.only.same .free (by decide)
@[simp] theorem State.settleRound_pending (s : State) : s.settleRound.pending = s.pending := State.settleRound_keeps.only.pending

end Sys2Proof.Machine
end

