-- ==== Sys2Proof/WellFormed.lean ====
section
/-! DEFINITION. The commands that the outside world can send: the ranges that the manual gives the operands this model
adds to the table's rows (log entry 1). -/

namespace Sys2Proof

/-- R299: a queue id has 20 bits. -/
def queueIdOk (q : Nat) : Bool := q < 2 ^ 20

/-- R398: a slot of a function: slots 0-3 of the owner function, slot 0 of a virtual function. -/
def slotOk (fn : Fin 9) (slot : Fin 4) : Bool := fn.val == 0 || slot.val == 0

/-- R255, R256: a near-pasture access lies within one line of the 384 GiB. -/
def lineAccessOk (addr len : Nat) : Bool :=
  0 < len && len ≤ 256 && addr / 256 == (addr + len - 1) / 256 && addr + len ≤ 412316860416

/-- R260: the elements of an accumulate-write lie within one line from an aligned address. -/
def accAccessOk (addr : Nat) (targetBf16 : Bool) (n : Nat) : Bool :=
  let w := if targetBf16 then 2 else 4
  addr % w == 0 && lineAccessOk addr (n * w)

/-- The checks per command; a command of a row whose operands have no range is well formed. -/
def Instr.wf : Instr → Bool
  | .stageReduced badFolds badCommons => badFolds.all (· < 136) && badCommons.all (· < 16)
  | .stageMemory badStacks expanders => badStacks.all (· < 8) && expanders.length == 4
  | .powerMeasurement _ temps => temps.length == 5
  | .mbCtrlGo fn slot _ => slotOk fn slot
  | .mbCtrlAbort fn slot => slotOk fn slot
  | .commandTimeout fn slot => slotOk fn slot
  | .doorbellAdd _ q _ => queueIdOk q
  | .doorbellRestart _ q _ => queueIdOk q
  | .registerWrite _ (.bar0 off) wide _ => off % (if wide then 8 else 4) == 0
  | .registerWrite _ (.config _) _ _ => true
  | .bar4Read _ off len => 0 < len && off % 4096 + len ≤ 4096
  | .bar4Write _ off bytes => 0 < bytes.length && bytes.length ≤ 512 && off % 4096 + bytes.length ≤ 4096
  | .functionLevelReset fn => fn.val != 0
  | .goldenScrub _ chunks _ => chunks.all (fun c => c.length ≤ 65536)
  | .farReadComplete _ _ bytes _ => bytes.length ≤ 65536
  | .nearPastureRead _ _ addr len => lineAccessOk addr len
  | .nearPastureWrite _ _ addr bytes => lineAccessOk addr bytes.length
  | .accumulateWrite _ _ addr t _ addends => accAccessOk addr t addends.length
  | .wcAgeFlush line => line % 256 == 0
  | .npCe addr => addr < 412316860416
  | .npUe addr => addr < 412316860416
  | .flit _ bytes => bytes.length == 256
  | .collWatchdog q => queueIdOk q
  | .ropTimeout q _ => queueIdOk q
  | .gemm q | .conv q | .cropResize q | .norm q | .softmax q | .eltwise q | .reduce q | .rngFill q | .optStep q
  | .loss q | .cast q | .move q | .fence q | .layerMark q | .collStep q | .attnFwd q | .attnBwd q | .put q | .get q
  | .putAcc q | .atomic q | .signal q | .ropFence q | .data q | .output q | .encode q | .flush q => queueIdOk q
  | .devIdentify fn slot | .devStatus fn slot | .devCaps fn slot | .penCreate fn slot | .penDestroy fn slot
  | .penSetQuota fn slot | .penSetPriority fn slot | .penBindVf fn slot | .tensorRegister fn slot | .tensorRelease fn slot
  | .itineraryLoad fn slot | .poolQuery fn slot | .baseRegister fn slot | .fabricTopologySet fn slot | .linkStatus fn slot
  | .queueCreate fn slot | .queueDestroy fn slot | .timeRoleSet fn slot | .videoStreamOpen fn slot | .videoStreamClose fn slot
  | .videoPoolSet fn slot | .fwUpdateBegin fn slot _ | .fwUpdateBlock fn slot _ | .fwUpdateCommit fn slot _
  | .fwConfirmHealth fn slot | .fwUpdateAbort fn slot | .fwSlotStatus fn slot | .lcStateGet fn slot _
  | .lcTransition fn slot _ | .ownerLock fn slot _ | .ownerUnlock fn slot _ | .faultRead fn slot | .faultClear fn slot
  | .tallySnapshot fn slot | .telemetryRead fn slot | .powerLimitSet fn slot | .jobSubmit fn slot | .jobQuiesce fn slot
  | .jobResume fn slot | .checkpointDrain fn slot | .jobAbort fn slot | .debugUnlock fn slot _ | .debugRegRead fn slot
  | .debugRegWrite fn slot => slotOk fn slot
  | .resetNLow | .resetNRelease | .perstNAssert | .perstNRelease | .vddAonLoss | .vddTransitLoss _ | .railGood _ | .railHold _
  | .railGoodTimeout _ | .thermtrip _ | .powerBrakeNAsserted | .powerBrakeNReleased | .presencePress _ | .presenceStuck
  | .presenceWindowExpiry | .sealSample _ | .stageManagement | .stageFirmware | .stageFull | .resetCtrlCc _ | .resetCtrlWarm _
  | .resetCtrlCold _ | .heartbeatReset | .ccResetEscalation | .ccDrainComplete | .shepherdRestart | .fwHealthTimeout
  | .healthWatchdog | .firmwareSelftestPass | .capIteration | .tallyTick | .tallyReq | .bar0Access _ _ _ _ _ | .timeNowRead
  | .d3hotEntry | .i3cPrivateWrite _ | .i3cPrivateRead _ | .entdaa _ | .setdasa _ _ | .rstdaa | .getpid | .getbcr | .getdcr
  | .getstatus | .getmwl | .getmrl | .taskIssue | .taskCompletion _ _ | .confirm _ _ | .reject _ _ | .foldBufferCe _ _
  | .foldBufferUe _ _ _ | .foldParity _ _ _ | .foldTaskTimeout _ _ _ _ | .spareTakeover _ | .spareSelftest _ _
  | .fetchRepredict | .needWaitTimeout _ | .farReadTimeout _ _ | .writeBehindComplete _ | .farWriteFailure _ _
  | .recipeComplete _ | .dltEncodeComplete _ | .poolExhausted _ | .lastUseSweep | .requestAging _ | .requestWaitBound _
  | .stackTemperatureRead _ _ | .slowRepeat | .patrolScrub _ _ | .retrainPeriod _ | .retrainWindowStart | .retrainWindowEnd
  | .portSignalDetect _ _ | .trainingFrame _ _ _ _ _ | .portUp _ _ _ _ | .negotiationTimeout _ | .negotiationRetry _
  | .laneNarrowing _ _ | .laneWidening _ | .validFlitTimeout _ | .lossOfSignal _ | .packet _ _ | .refusal | .ringNotice
  | .isolate | .topologyDrainComplete | .timeSync | .timeSyncPeriod | .delayReq | .delayResp | .delayReqPeriod _ | .holdover
  | .epochReq | .beacon | .beaconPeriod | .beaconTimeout | .probe | .probeTimeout | .bellwetherChange | .join | .faultNotice
  | .collectEnd _ | .haltAckTimeout _ | .recovery | .recoveryAck | .managementResend | .coordinatorLost _ | .slow
  | .slowExpiry _ | .putData | .getReq | .atomicReq | .signalReq | .putAccData | .ack | .getData | .valueResp | .picturePick _
  | .pictureEnd _ | .coreReset _ | .quiesceDrainComplete _ | .quiesceTimeout _ | .wipeComplete _ | .hubEcc _ | .droveRoadCe _
  | .droveRoadUe _ | .commonsUe _ | .cometSramUe | .talsenLinkDown _ | .talsenLinkUp _ _ | .talsenCorrectedError _
  | .holdupOkAsserted | .flashSectorErased | .farPastureOverwrite _ _ | .heartbeatIncrement | .hostLinkRetrain _ _ _
  | .videoCoreResetEnd _ => true

end Sys2Proof
end

