-- ==== Sys2Proof/Laws/PerInstr.lean ====
section
/-! SUPPORT. The family OperandsInRange: what the ranges of Sys2Proof/WellFormed.lean say of the operands of every command that
names a mailbox slot, a queue or a place in near pasture. -/

namespace Sys2Proof.Laws.OperandsInRange

/-- The function and the slot that a command names. -/
def slotOf : Instr → Option (Fin 9 × Fin 4)
  | .mbCtrlGo fn slot _ => some (fn, slot)
  | .mbCtrlAbort fn slot => some (fn, slot)
  | .commandTimeout fn slot => some (fn, slot)
  | .devIdentify fn slot => some (fn, slot)
  | .devStatus fn slot => some (fn, slot)
  | .devCaps fn slot => some (fn, slot)
  | .penCreate fn slot => some (fn, slot)
  | .penDestroy fn slot => some (fn, slot)
  | .penSetQuota fn slot => some (fn, slot)
  | .penSetPriority fn slot => some (fn, slot)
  | .penBindVf fn slot => some (fn, slot)
  | .tensorRegister fn slot => some (fn, slot)
  | .tensorRelease fn slot => some (fn, slot)
  | .itineraryLoad fn slot => some (fn, slot)
  | .poolQuery fn slot => some (fn, slot)
  | .baseRegister fn slot => some (fn, slot)
  | .fabricTopologySet fn slot => some (fn, slot)
  | .linkStatus fn slot => some (fn, slot)
  | .queueCreate fn slot => some (fn, slot)
  | .queueDestroy fn slot => some (fn, slot)
  | .timeRoleSet fn slot => some (fn, slot)
  | .videoStreamOpen fn slot => some (fn, slot)
  | .videoStreamClose fn slot => some (fn, slot)
  | .videoPoolSet fn slot => some (fn, slot)
  | .fwUpdateBegin fn slot _ => some (fn, slot)
  | .fwUpdateBlock fn slot _ => some (fn, slot)
  | .fwUpdateCommit fn slot _ => some (fn, slot)
  | .fwConfirmHealth fn slot => some (fn, slot)
  | .fwUpdateAbort fn slot => some (fn, slot)
  | .fwSlotStatus fn slot => some (fn, slot)
  | .lcStateGet fn slot _ => some (fn, slot)
  | .lcTransition fn slot _ => some (fn, slot)
  | .ownerLock fn slot _ => some (fn, slot)
  | .ownerUnlock fn slot _ => some (fn, slot)
  | .faultRead fn slot => some (fn, slot)
  | .faultClear fn slot => some (fn, slot)
  | .tallySnapshot fn slot => some (fn, slot)
  | .telemetryRead fn slot => some (fn, slot)
  | .powerLimitSet fn slot => some (fn, slot)
  | .jobSubmit fn slot => some (fn, slot)
  | .jobQuiesce fn slot => some (fn, slot)
  | .jobResume fn slot => some (fn, slot)
  | .checkpointDrain fn slot => some (fn, slot)
  | .jobAbort fn slot => some (fn, slot)
  | .debugUnlock fn slot _ => some (fn, slot)
  | .debugRegRead fn slot => some (fn, slot)
  | .debugRegWrite fn slot => some (fn, slot)
  | _ => none

/-- The queue that a command names. -/
def queueOf : Instr → Option Nat
  | .doorbellAdd _ q _ => some q
  | .doorbellRestart _ q _ => some q
  | .gemm q => some q
  | .conv q => some q
  | .cropResize q => some q
  | .norm q => some q
  | .softmax q => some q
  | .eltwise q => some q
  | .reduce q => some q
  | .rngFill q => some q
  | .optStep q => some q
  | .loss q => some q
  | .cast q => some q
  | .move q => some q
  | .fence q => some q
  | .layerMark q => some q
  | .collStep q => some q
  | .attnFwd q => some q
  | .attnBwd q => some q
  | .collWatchdog q => some q
  | .put q => some q
  | .get q => some q
  | .putAcc q => some q
  | .atomic q => some q
  | .signal q => some q
  | .ropFence q => some q
  | .ropTimeout q _ => some q
  | .data q => some q
  | .output q => some q
  | .encode q => some q
  | .flush q => some q
  | _ => none

/-- The bytes of near pasture that a command names: an address and a length. -/
def nearOf : Instr → Option (Nat × Nat)
  | .nearPastureRead _ _ addr len => some (addr, len)
  | .nearPastureWrite _ _ addr bytes => some (addr, bytes.length)
  | .accumulateWrite _ _ addr t _ addends => some (addr, addends.length * (if t then 2 else 4))
  | .npCe addr => some (addr, 1)
  | .npUe addr => some (addr, 1)
  | _ => none

/-- R255, R299, R398: a well-formed command names a slot that its function has, a queue id of 20 bits, and bytes within the 384 GiB
of near pasture; of a read, a write and an accumulate-write these lie in one line (R256). -/
def Statement (c : Instr) : Prop :=
  c.wf = true →
    (∀ x, slotOf c = some x → x.1 = 0 ∨ x.2 = 0) ∧ (∀ q, queueOf c = some q → q < 2 ^ 20) ∧
      (∀ x, nearOf c = some x → 0 < x.2 ∧ x.1 + x.2 ≤ 412316860416 ∧ x.1 / 256 = (x.1 + x.2 - 1) / 256)

theorem of_nothing {c : Instr} (h1 : slotOf c = none) (h2 : queueOf c = none) (h3 : nearOf c = none) : Statement c := by
  intro _
  simp [h1, h2, h3]

theorem of_slot {c : Instr} {fn : Fin 9} {slot : Fin 4} (h1 : slotOf c = some (fn, slot)) (h2 : queueOf c = none)
    (h3 : nearOf c = none) (hw : c.wf = slotOk fn slot) : Statement c := by
  intro h
  rw [hw] at h
  simp [slotOk] at h
  simp only [h1, h2, h3]
  refine ⟨?_, by simp, by simp⟩
  intro x hx
  cases hx
  rcases h with h | h
  · exact Or.inl h
  · exact Or.inr h

theorem of_queue {c : Instr} {q : Nat} (h1 : slotOf c = none) (h2 : queueOf c = some q) (h3 : nearOf c = none)
    (hw : c.wf = queueIdOk q) : Statement c := by
  intro h
  rw [hw] at h
  simp [queueIdOk] at h
  simp [h1, h2, h3]
  omega

theorem of_line {c : Instr} {a n : Nat} (h1 : slotOf c = none) (h2 : queueOf c = none) (h3 : nearOf c = some (a, n))
    (hw : c.wf = true → lineAccessOk a n = true) : Statement c := by
  intro h
  have := hw h
  simp [lineAccessOk] at this
  simp [h1, h2, h3]
  omega

theorem resetNLow : Statement .resetNLow := of_nothing rfl rfl rfl
theorem resetNRelease : Statement .resetNRelease := of_nothing rfl rfl rfl
theorem perstNAssert : Statement .perstNAssert := of_nothing rfl rfl rfl
theorem perstNRelease : Statement .perstNRelease := of_nothing rfl rfl rfl
theorem vddAonLoss : Statement .vddAonLoss := of_nothing rfl rfl rfl
theorem vddTransitLoss (aonUp : Bool) : Statement (.vddTransitLoss aonUp) := of_nothing rfl rfl rfl
theorem railGood (rail : Rail) : Statement (.railGood rail) := of_nothing rfl rfl rfl
theorem railHold (rail : Rail) : Statement (.railHold rail) := of_nothing rfl rfl rfl
theorem railGoodTimeout (rail : Rail) : Statement (.railGoodTimeout rail) := of_nothing rfl rfl rfl
theorem thermtrip (die : Fin 5) : Statement (.thermtrip die) := of_nothing rfl rfl rfl
theorem powerBrakeNAsserted : Statement .powerBrakeNAsserted := of_nothing rfl rfl rfl
theorem powerBrakeNReleased : Statement .powerBrakeNReleased := of_nothing rfl rfl rfl
theorem presencePress (rested : Bool) : Statement (.presencePress rested) := of_nothing rfl rfl rfl
theorem presenceStuck : Statement .presenceStuck := of_nothing rfl rfl rfl
theorem presenceWindowExpiry : Statement .presenceWindowExpiry := of_nothing rfl rfl rfl
theorem sealSample (pins : SealPins) : Statement (.sealSample pins) := of_nothing rfl rfl rfl
theorem stageManagement : Statement .stageManagement := of_nothing rfl rfl rfl
theorem stageFirmware : Statement .stageFirmware := of_nothing rfl rfl rfl
theorem stageReduced (badFolds : List Nat) (badCommons : List Nat) : Statement (.stageReduced badFolds badCommons) := of_nothing rfl rfl rfl
theorem stageMemory (badStacks : List Nat) (expanders : List (Option Expander)) : Statement (.stageMemory badStacks expanders) := of_nothing rfl rfl rfl
theorem stageFull : Statement .stageFull := of_nothing rfl rfl rfl
theorem resetCtrlCc (value : Word) : Statement (.resetCtrlCc value) := of_nothing rfl rfl rfl
theorem resetCtrlWarm (value : Word) : Statement (.resetCtrlWarm value) := of_nothing rfl rfl rfl
theorem resetCtrlCold (value : Word) : Statement (.resetCtrlCold value) := of_nothing rfl rfl rfl
theorem heartbeatReset : Statement .heartbeatReset := of_nothing rfl rfl rfl
theorem ccResetEscalation : Statement .ccResetEscalation := of_nothing rfl rfl rfl
theorem ccDrainComplete : Statement .ccDrainComplete := of_nothing rfl rfl rfl
theorem shepherdRestart : Statement .shepherdRestart := of_nothing rfl rfl rfl
theorem fwHealthTimeout : Statement .fwHealthTimeout := of_nothing rfl rfl rfl
theorem healthWatchdog : Statement .healthWatchdog := of_nothing rfl rfl rfl
theorem firmwareSelftestPass : Statement .firmwareSelftestPass := of_nothing rfl rfl rfl
theorem powerMeasurement (milliwatts : Nat) (dieTemps : List Nat) : Statement (.powerMeasurement milliwatts dieTemps) := of_nothing rfl rfl rfl
theorem capIteration : Statement .capIteration := of_nothing rfl rfl rfl
theorem tallyTick : Statement .tallyTick := of_nothing rfl rfl rfl
theorem tallyReq : Statement .tallyReq := of_nothing rfl rfl rfl
theorem mbCtrlGo (fn : Fin 9) (slot : Fin 4) (irq : Bool) : Statement (.mbCtrlGo fn slot irq) := of_slot rfl rfl rfl rfl
theorem mbCtrlAbort (fn : Fin 9) (slot : Fin 4) : Statement (.mbCtrlAbort fn slot) := of_slot rfl rfl rfl rfl
theorem commandTimeout (fn : Fin 9) (slot : Fin 4) : Statement (.commandTimeout fn slot) := of_slot rfl rfl rfl rfl
theorem registerWrite (fn : Fin 9) (place : RegPlace) (wide : Bool) (value : DWord) : Statement (.registerWrite fn place wide value) := of_nothing rfl rfl rfl
theorem bar0Access (fn : Fin 9) (bar2 : Bool) (write : Bool) (off : Nat) (size : Nat) : Statement (.bar0Access fn bar2 write off size) := of_nothing rfl rfl rfl
theorem timeNowRead : Statement .timeNowRead := of_nothing rfl rfl rfl
theorem doorbellAdd (fn : Fin 9) (q : Nat) (value : Word) : Statement (.doorbellAdd fn q value) := of_queue rfl rfl rfl rfl
theorem doorbellRestart (fn : Fin 9) (q : Nat) (value : Word) : Statement (.doorbellRestart fn q value) := of_queue rfl rfl rfl rfl
theorem bar4Read (fn : Fin 9) (off : Nat) (len : Nat) : Statement (.bar4Read fn off len) := of_nothing rfl rfl rfl
theorem bar4Write (fn : Fin 9) (off : Nat) (bytes : List Byte) : Statement (.bar4Write fn off bytes) := of_nothing rfl rfl rfl
theorem functionLevelReset (fn : Fin 9) : Statement (.functionLevelReset fn) := of_nothing rfl rfl rfl
theorem d3hotEntry : Statement .d3hotEntry := of_nothing rfl rfl rfl
theorem i3cPrivateWrite (bytes : List Byte) : Statement (.i3cPrivateWrite bytes) := of_nothing rfl rfl rfl
theorem i3cPrivateRead (len : Nat) : Statement (.i3cPrivateRead len) := of_nothing rfl rfl rfl
theorem entdaa (addr : BitVec 7) : Statement (.entdaa addr) := of_nothing rfl rfl rfl
theorem setdasa (target : BitVec 7) (addr : BitVec 7) : Statement (.setdasa target addr) := of_nothing rfl rfl rfl
theorem rstdaa : Statement .rstdaa := of_nothing rfl rfl rfl
theorem getpid : Statement .getpid := of_nothing rfl rfl rfl
theorem getbcr : Statement .getbcr := of_nothing rfl rfl rfl
theorem getdcr : Statement .getdcr := of_nothing rfl rfl rfl
theorem getstatus : Statement .getstatus := of_nothing rfl rfl rfl
theorem getmwl : Statement .getmwl := of_nothing rfl rfl rfl
theorem getmrl : Statement .getmrl := of_nothing rfl rfl rfl
theorem devIdentify (fn : Fin 9) (slot : Fin 4) : Statement (.devIdentify fn slot) := of_slot rfl rfl rfl rfl
theorem devStatus (fn : Fin 9) (slot : Fin 4) : Statement (.devStatus fn slot) := of_slot rfl rfl rfl rfl
theorem devCaps (fn : Fin 9) (slot : Fin 4) : Statement (.devCaps fn slot) := of_slot rfl rfl rfl rfl
theorem penCreate (fn : Fin 9) (slot : Fin 4) : Statement (.penCreate fn slot) := of_slot rfl rfl rfl rfl
theorem penDestroy (fn : Fin 9) (slot : Fin 4) : Statement (.penDestroy fn slot) := of_slot rfl rfl rfl rfl
theorem penSetQuota (fn : Fin 9) (slot : Fin 4) : Statement (.penSetQuota fn slot) := of_slot rfl rfl rfl rfl
theorem penSetPriority (fn : Fin 9) (slot : Fin 4) : Statement (.penSetPriority fn slot) := of_slot rfl rfl rfl rfl
theorem penBindVf (fn : Fin 9) (slot : Fin 4) : Statement (.penBindVf fn slot) := of_slot rfl rfl rfl rfl
theorem tensorRegister (fn : Fin 9) (slot : Fin 4) : Statement (.tensorRegister fn slot) := of_slot rfl rfl rfl rfl
theorem tensorRelease (fn : Fin 9) (slot : Fin 4) : Statement (.tensorRelease fn slot) := of_slot rfl rfl rfl rfl
theorem itineraryLoad (fn : Fin 9) (slot : Fin 4) : Statement (.itineraryLoad fn slot) := of_slot rfl rfl rfl rfl
theorem poolQuery (fn : Fin 9) (slot : Fin 4) : Statement (.poolQuery fn slot) := of_slot rfl rfl rfl rfl
theorem baseRegister (fn : Fin 9) (slot : Fin 4) : Statement (.baseRegister fn slot) := of_slot rfl rfl rfl rfl
theorem fabricTopologySet (fn : Fin 9) (slot : Fin 4) : Statement (.fabricTopologySet fn slot) := of_slot rfl rfl rfl rfl
theorem linkStatus (fn : Fin 9) (slot : Fin 4) : Statement (.linkStatus fn slot) := of_slot rfl rfl rfl rfl
theorem queueCreate (fn : Fin 9) (slot : Fin 4) : Statement (.queueCreate fn slot) := of_slot rfl rfl rfl rfl
theorem queueDestroy (fn : Fin 9) (slot : Fin 4) : Statement (.queueDestroy fn slot) := of_slot rfl rfl rfl rfl
theorem timeRoleSet (fn : Fin 9) (slot : Fin 4) : Statement (.timeRoleSet fn slot) := of_slot rfl rfl rfl rfl
theorem videoStreamOpen (fn : Fin 9) (slot : Fin 4) : Statement (.videoStreamOpen fn slot) := of_slot rfl rfl rfl rfl
theorem videoStreamClose (fn : Fin 9) (slot : Fin 4) : Statement (.videoStreamClose fn slot) := of_slot rfl rfl rfl rfl
theorem videoPoolSet (fn : Fin 9) (slot : Fin 4) : Statement (.videoPoolSet fn slot) := of_slot rfl rfl rfl rfl
theorem fwUpdateBegin (fn : Fin 9) (slot : Fin 4) (holdup : Bool) : Statement (.fwUpdateBegin fn slot holdup) := of_slot rfl rfl rfl rfl
theorem fwUpdateBlock (fn : Fin 9) (slot : Fin 4) (holdup : Bool) : Statement (.fwUpdateBlock fn slot holdup) := of_slot rfl rfl rfl rfl
theorem fwUpdateCommit (fn : Fin 9) (slot : Fin 4) (holdup : Bool) : Statement (.fwUpdateCommit fn slot holdup) := of_slot rfl rfl rfl rfl
theorem fwConfirmHealth (fn : Fin 9) (slot : Fin 4) : Statement (.fwConfirmHealth fn slot) := of_slot rfl rfl rfl rfl
theorem fwUpdateAbort (fn : Fin 9) (slot : Fin 4) : Statement (.fwUpdateAbort fn slot) := of_slot rfl rfl rfl rfl
theorem fwSlotStatus (fn : Fin 9) (slot : Fin 4) : Statement (.fwSlotStatus fn slot) := of_slot rfl rfl rfl rfl
theorem lcStateGet (fn : Fin 9) (slot : Fin 4) (strap : Bool) : Statement (.lcStateGet fn slot strap) := of_slot rfl rfl rfl rfl
theorem lcTransition (fn : Fin 9) (slot : Fin 4) (strap : Bool) : Statement (.lcTransition fn slot strap) := of_slot rfl rfl rfl rfl
theorem ownerLock (fn : Fin 9) (slot : Fin 4) (strap : Bool) : Statement (.ownerLock fn slot strap) := of_slot rfl rfl rfl rfl
theorem ownerUnlock (fn : Fin 9) (slot : Fin 4) (strap : Bool) : Statement (.ownerUnlock fn slot strap) := of_slot rfl rfl rfl rfl
theorem faultRead (fn : Fin 9) (slot : Fin 4) : Statement (.faultRead fn slot) := of_slot rfl rfl rfl rfl
theorem faultClear (fn : Fin 9) (slot : Fin 4) : Statement (.faultClear fn slot) := of_slot rfl rfl rfl rfl
theorem tallySnapshot (fn : Fin 9) (slot : Fin 4) : Statement (.tallySnapshot fn slot) := of_slot rfl rfl rfl rfl
theorem telemetryRead (fn : Fin 9) (slot : Fin 4) : Statement (.telemetryRead fn slot) := of_slot rfl rfl rfl rfl
theorem powerLimitSet (fn : Fin 9) (slot : Fin 4) : Statement (.powerLimitSet fn slot) := of_slot rfl rfl rfl rfl
theorem jobSubmit (fn : Fin 9) (slot : Fin 4) : Statement (.jobSubmit fn slot) := of_slot rfl rfl rfl rfl
theorem jobQuiesce (fn : Fin 9) (slot : Fin 4) : Statement (.jobQuiesce fn slot) := of_slot rfl rfl rfl rfl
theorem jobResume (fn : Fin 9) (slot : Fin 4) : Statement (.jobResume fn slot) := of_slot rfl rfl rfl rfl
theorem checkpointDrain (fn : Fin 9) (slot : Fin 4) : Statement (.checkpointDrain fn slot) := of_slot rfl rfl rfl rfl
theorem jobAbort (fn : Fin 9) (slot : Fin 4) : Statement (.jobAbort fn slot) := of_slot rfl rfl rfl rfl
theorem debugUnlock (fn : Fin 9) (slot : Fin 4) (strap : Bool) : Statement (.debugUnlock fn slot strap) := of_slot rfl rfl rfl rfl
theorem debugRegRead (fn : Fin 9) (slot : Fin 4) : Statement (.debugRegRead fn slot) := of_slot rfl rfl rfl rfl
theorem debugRegWrite (fn : Fin 9) (slot : Fin 4) : Statement (.debugRegWrite fn slot) := of_slot rfl rfl rfl rfl
theorem gemm (q : Nat) : Statement (.gemm q) := of_queue rfl rfl rfl rfl
theorem conv (q : Nat) : Statement (.conv q) := of_queue rfl rfl rfl rfl
theorem cropResize (q : Nat) : Statement (.cropResize q) := of_queue rfl rfl rfl rfl
theorem norm (q : Nat) : Statement (.norm q) := of_queue rfl rfl rfl rfl
theorem softmax (q : Nat) : Statement (.softmax q) := of_queue rfl rfl rfl rfl
theorem eltwise (q : Nat) : Statement (.eltwise q) := of_queue rfl rfl rfl rfl
theorem reduce (q : Nat) : Statement (.reduce q) := of_queue rfl rfl rfl rfl
theorem rngFill (q : Nat) : Statement (.rngFill q) := of_queue rfl rfl rfl rfl
theorem optStep (q : Nat) : Statement (.optStep q) := of_queue rfl rfl rfl rfl
theorem loss (q : Nat) : Statement (.loss q) := of_queue rfl rfl rfl rfl
theorem cast (q : Nat) : Statement (.cast q) := of_queue rfl rfl rfl rfl
theorem move (q : Nat) : Statement (.move q) := of_queue rfl rfl rfl rfl
theorem fence (q : Nat) : Statement (.fence q) := of_queue rfl rfl rfl rfl
theorem layerMark (q : Nat) : Statement (.layerMark q) := of_queue rfl rfl rfl rfl
theorem collStep (q : Nat) : Statement (.collStep q) := of_queue rfl rfl rfl rfl
theorem attnFwd (q : Nat) : Statement (.attnFwd q) := of_queue rfl rfl rfl rfl
theorem attnBwd (q : Nat) : Statement (.attnBwd q) := of_queue rfl rfl rfl rfl
theorem taskIssue : Statement .taskIssue := of_nothing rfl rfl rfl
theorem taskCompletion (phys : Fin 136) (half : Bool) : Statement (.taskCompletion phys half) := of_nothing rfl rfl rfl
theorem confirm (handle : Word) (chunk : Nat) : Statement (.confirm handle chunk) := of_nothing rfl rfl rfl
theorem reject (handle : Word) (chunk : Nat) : Statement (.reject handle chunk) := of_nothing rfl rfl rfl
theorem foldBufferCe (phys : Fin 136) (buffer : Fin 4) : Statement (.foldBufferCe phys buffer) := of_nothing rfl rfl rfl
theorem foldBufferUe (phys : Fin 136) (gone0 : Nat) (gone1 : Nat) : Statement (.foldBufferUe phys gone0 gone1) := of_nothing rfl rfl rfl
theorem foldParity (phys : Fin 136) (gone0 : Nat) (gone1 : Nat) : Statement (.foldParity phys gone0 gone1) := of_nothing rfl rfl rfl
theorem foldTaskTimeout (phys : Fin 136) (half : Bool) (gone0 : Nat) (gone1 : Nat) : Statement (.foldTaskTimeout phys half gone0 gone1) := of_nothing rfl rfl rfl
theorem spareTakeover (bad : Bool) : Statement (.spareTakeover bad) := of_nothing rfl rfl rfl
theorem spareSelftest (phys : Fin 136) (pass : Bool) : Statement (.spareSelftest phys pass) := of_nothing rfl rfl rfl
theorem fetchRepredict : Statement .fetchRepredict := of_nothing rfl rfl rfl
theorem needWaitTimeout (handle : Word) : Statement (.needWaitTimeout handle) := of_nothing rfl rfl rfl
theorem farReadComplete (handle : Word) (chunk : Nat) (bytes : List Byte) (poison : Bool) : Statement (.farReadComplete handle chunk bytes poison) := of_nothing rfl rfl rfl
theorem farReadTimeout (handle : Word) (chunk : Nat) : Statement (.farReadTimeout handle chunk) := of_nothing rfl rfl rfl
theorem writeBehindComplete (handle : Word) : Statement (.writeBehindComplete handle) := of_nothing rfl rfl rfl
theorem farWriteFailure (handle : Word) (port : Fin 4) : Statement (.farWriteFailure handle port) := of_nothing rfl rfl rfl
theorem recipeComplete (handle : Word) : Statement (.recipeComplete handle) := of_nothing rfl rfl rfl
theorem dltEncodeComplete (handle : Word) : Statement (.dltEncodeComplete handle) := of_nothing rfl rfl rfl
theorem poolExhausted (handle : Word) : Statement (.poolExhausted handle) := of_nothing rfl rfl rfl
theorem lastUseSweep : Statement .lastUseSweep := of_nothing rfl rfl rfl
theorem goldenScrub (base : Fin 64) (chunks : List (List Byte)) (poison : Bool) : Statement (.goldenScrub base chunks poison) := of_nothing rfl rfl rfl
theorem nearPastureRead (cls : NpClass) (source : NpSource) (addr : Nat) (len : Nat) : Statement (.nearPastureRead cls source addr len) := of_line rfl rfl rfl id
theorem nearPastureWrite (cls : NpClass) (source : NpSource) (addr : Nat) (bytes : List Byte) : Statement (.nearPastureWrite cls source addr bytes) := of_line rfl rfl rfl id
theorem accumulateWrite (cls : NpClass) (source : NpSource) (addr : Nat) (targetBf16 : Bool) (addendBf16 : Bool) (addends : List (Option Word)) : Statement (.accumulateWrite cls source addr targetBf16 addendBf16 addends) := of_line rfl rfl rfl (fun h => (Bool.and_eq_true _ _ ▸ h : _ ∧ _).2)
theorem wcAgeFlush (line : Nat) : Statement (.wcAgeFlush line) := of_nothing rfl rfl rfl
theorem requestAging (index : Nat) : Statement (.requestAging index) := of_nothing rfl rfl rfl
theorem requestWaitBound (index : Nat) : Statement (.requestWaitBound index) := of_nothing rfl rfl rfl
theorem stackTemperatureRead (stack : Fin 8) (celsius : Nat) : Statement (.stackTemperatureRead stack celsius) := of_nothing rfl rfl rfl
theorem slowRepeat : Statement .slowRepeat := of_nothing rfl rfl rfl
theorem npCe (addr : Nat) : Statement (.npCe addr) := by
  intro h
  simp [Instr.wf] at h
  simp [slotOf, queueOf, nearOf]
  omega
theorem npUe (addr : Nat) : Statement (.npUe addr) := by
  intro h
  simp [Instr.wf] at h
  simp [slotOf, queueOf, nearOf]
  omega
theorem patrolScrub (group : Fin 64) (corrected : List Nat) : Statement (.patrolScrub group corrected) := of_nothing rfl rfl rfl
theorem retrainPeriod (group : Fin 64) : Statement (.retrainPeriod group) := of_nothing rfl rfl rfl
theorem retrainWindowStart : Statement .retrainWindowStart := of_nothing rfl rfl rfl
theorem retrainWindowEnd : Statement .retrainWindowEnd := of_nothing rfl rfl rfl
theorem portSignalDetect (port : Fin 8) (lanes : Byte) : Statement (.portSignalDetect port lanes) := of_nothing rfl rfl rfl
theorem trainingFrame (port : Fin 8) (coord : B16) (extent : B16) (peerPort : Fin 8) (slOk : Bool) : Statement (.trainingFrame port coord extent peerPort slOk) := of_nothing rfl rfl rfl
theorem portUp (port : Fin 8) (goodFast : Byte) (goodSlow : Byte) (lightBer : Byte) : Statement (.portUp port goodFast goodSlow lightBer) := of_nothing rfl rfl rfl
theorem negotiationTimeout (port : Fin 8) : Statement (.negotiationTimeout port) := of_nothing rfl rfl rfl
theorem negotiationRetry (port : Fin 8) : Statement (.negotiationRetry port) := of_nothing rfl rfl rfl
theorem laneNarrowing (port : Fin 8) (lane : Fin 8) : Statement (.laneNarrowing port lane) := of_nothing rfl rfl rfl
theorem laneWidening (port : Fin 8) : Statement (.laneWidening port) := of_nothing rfl rfl rfl
theorem flit (port : Fin 8) (bytes : List Byte) : Statement (.flit port bytes) := of_nothing rfl rfl rfl
theorem validFlitTimeout (port : Fin 8) : Statement (.validFlitTimeout port) := of_nothing rfl rfl rfl
theorem lossOfSignal (port : Fin 8) : Statement (.lossOfSignal port) := of_nothing rfl rfl rfl
theorem packet (input : Fin 9) (cls : Fin 8) : Statement (.packet input cls) := of_nothing rfl rfl rfl
theorem refusal : Statement .refusal := of_nothing rfl rfl rfl
theorem ringNotice : Statement .ringNotice := of_nothing rfl rfl rfl
theorem isolate : Statement .isolate := of_nothing rfl rfl rfl
theorem topologyDrainComplete : Statement .topologyDrainComplete := of_nothing rfl rfl rfl
theorem timeSync : Statement .timeSync := of_nothing rfl rfl rfl
theorem timeSyncPeriod : Statement .timeSyncPeriod := of_nothing rfl rfl rfl
theorem delayReq : Statement .delayReq := of_nothing rfl rfl rfl
theorem delayResp : Statement .delayResp := of_nothing rfl rfl rfl
theorem delayReqPeriod (port : Fin 8) : Statement (.delayReqPeriod port) := of_nothing rfl rfl rfl
theorem holdover : Statement .holdover := of_nothing rfl rfl rfl
theorem epochReq : Statement .epochReq := of_nothing rfl rfl rfl
theorem beacon : Statement .beacon := of_nothing rfl rfl rfl
theorem beaconPeriod : Statement .beaconPeriod := of_nothing rfl rfl rfl
theorem beaconTimeout : Statement .beaconTimeout := of_nothing rfl rfl rfl
theorem probe : Statement .probe := of_nothing rfl rfl rfl
theorem probeTimeout : Statement .probeTimeout := of_nothing rfl rfl rfl
theorem bellwetherChange : Statement .bellwetherChange := of_nothing rfl rfl rfl
theorem join : Statement .join := of_nothing rfl rfl rfl
theorem faultNotice : Statement .faultNotice := of_nothing rfl rfl rfl
theorem collectEnd (key : B16) : Statement (.collectEnd key) := of_nothing rfl rfl rfl
theorem haltAckTimeout (key : B16) : Statement (.haltAckTimeout key) := of_nothing rfl rfl rfl
theorem recovery : Statement .recovery := of_nothing rfl rfl rfl
theorem recoveryAck : Statement .recoveryAck := of_nothing rfl rfl rfl
theorem managementResend : Statement .managementResend := of_nothing rfl rfl rfl
theorem coordinatorLost (pen : Fin 8) : Statement (.coordinatorLost pen) := of_nothing rfl rfl rfl
theorem slow : Statement .slow := of_nothing rfl rfl rfl
theorem slowExpiry (port : Fin 8) : Statement (.slowExpiry port) := of_nothing rfl rfl rfl
theorem collWatchdog (q : Nat) : Statement (.collWatchdog q) := of_queue rfl rfl rfl rfl
theorem put (q : Nat) : Statement (.put q) := of_queue rfl rfl rfl rfl
theorem get (q : Nat) : Statement (.get q) := of_queue rfl rfl rfl rfl
theorem putAcc (q : Nat) : Statement (.putAcc q) := of_queue rfl rfl rfl rfl
theorem atomic (q : Nat) : Statement (.atomic q) := of_queue rfl rfl rfl rfl
theorem signal (q : Nat) : Statement (.signal q) := of_queue rfl rfl rfl rfl
theorem ropFence (q : Nat) : Statement (.ropFence q) := of_queue rfl rfl rfl rfl
theorem putData : Statement .putData := of_nothing rfl rfl rfl
theorem getReq : Statement .getReq := of_nothing rfl rfl rfl
theorem atomicReq : Statement .atomicReq := of_nothing rfl rfl rfl
theorem signalReq : Statement .signalReq := of_nothing rfl rfl rfl
theorem putAccData : Statement .putAccData := of_nothing rfl rfl rfl
theorem ack : Statement .ack := of_nothing rfl rfl rfl
theorem getData : Statement .getData := of_nothing rfl rfl rfl
theorem valueResp : Statement .valueResp := of_nothing rfl rfl rfl
theorem ropTimeout (q : Nat) (seq : Word) : Statement (.ropTimeout q seq) := of_queue rfl rfl rfl rfl
theorem data (q : Nat) : Statement (.data q) := of_queue rfl rfl rfl rfl
theorem output (q : Nat) : Statement (.output q) := of_queue rfl rfl rfl rfl
theorem encode (q : Nat) : Statement (.encode q) := of_queue rfl rfl rfl rfl
theorem flush (q : Nat) : Statement (.flush q) := of_queue rfl rfl rfl rfl
theorem picturePick (core : Fin 6) : Statement (.picturePick core) := of_nothing rfl rfl rfl
theorem pictureEnd (core : Fin 6) : Statement (.pictureEnd core) := of_nothing rfl rfl rfl
theorem coreReset (core : Fin 6) : Statement (.coreReset core) := of_nothing rfl rfl rfl
theorem quiesceDrainComplete (pen : Fin 8) : Statement (.quiesceDrainComplete pen) := of_nothing rfl rfl rfl
theorem quiesceTimeout (pen : Fin 8) : Statement (.quiesceTimeout pen) := of_nothing rfl rfl rfl
theorem wipeComplete (pen : Fin 8) : Statement (.wipeComplete pen) := of_nothing rfl rfl rfl
theorem hubEcc (unit : Fin 7) : Statement (.hubEcc unit) := of_nothing rfl rfl rfl
theorem droveRoadCe (unit : Fin 5) : Statement (.droveRoadCe unit) := of_nothing rfl rfl rfl
theorem droveRoadUe (unit : Fin 5) : Statement (.droveRoadUe unit) := of_nothing rfl rfl rfl
theorem commonsUe (bank : Fin 16) : Statement (.commonsUe bank) := of_nothing rfl rfl rfl
theorem cometSramUe : Statement .cometSramUe := of_nothing rfl rfl rfl
theorem talsenLinkDown (port : Fin 4) : Statement (.talsenLinkDown port) := of_nothing rfl rfl rfl
theorem talsenLinkUp (port : Fin 4) (expander : Expander) : Statement (.talsenLinkUp port expander) := of_nothing rfl rfl rfl
theorem talsenCorrectedError (port : Fin 4) : Statement (.talsenCorrectedError port) := of_nothing rfl rfl rfl
theorem holdupOkAsserted : Statement .holdupOkAsserted := of_nothing rfl rfl rfl
theorem flashSectorErased : Statement .flashSectorErased := of_nothing rfl rfl rfl
theorem farPastureOverwrite (port : Fin 4) (bytes : Nat) : Statement (.farPastureOverwrite port bytes) := of_nothing rfl rfl rfl
theorem heartbeatIncrement : Statement .heartbeatIncrement := of_nothing rfl rfl rfl
theorem hostLinkRetrain (partner : List (HostRate × HostWidth)) (channel : List (HostRate × HostWidth)) (flitMode : Bool) : Statement (.hostLinkRetrain partner channel flitMode) := of_nothing rfl rfl rfl
theorem videoCoreResetEnd (core : Fin 6) : Statement (.videoCoreResetEnd core) := of_nothing rfl rfl rfl

end Sys2Proof.Laws.OperandsInRange
end

