-- ==== Sys2Proof/Laws/Shared.lean ====
section
/-! SUPPORT. What the shared operations leave in each field that they do not change. -/

-- One proof at a time: the package as one text otherwise asks for more threads than its memory limit allows.
set_option Elab.async false
set_option linter.all false

namespace Sys2Proof.Machine

/-! ### count -/

@[simp] theorem State.count_dog (s : State) (a b : Nat) : (s.count a b).dog = s.dog := State.count_keeps.only.same .dog (by decide)
@[simp] theorem State.count_boot (s : State) (a b : Nat) : (s.count a b).boot = s.boot := State.count_keeps.only.same .boot (by decide)
@[simp] theorem State.count_host (s : State) (a b : Nat) : (s.count a b).host = s.host := State.count_keeps.only.same .host (by decide)
@[simp] theorem State.count_comp (s : State) (a b : Nat) : (s.count a b).comp = s.comp := State.count_keeps.only.same .comp (by decide)
@[simp] theorem State.count_pens (s : State) (a b : Nat) : (s.count a b).pens = s.pens := State.count_keeps.only.same .pens (by decide)
@[simp] theorem State.count_drover (s : State) (a b : Nat) : (s.count a b).drover = s.drover := State.count_keeps.only.same .drover (by decide)
@[simp] theorem State.count_talsen (s : State) (a b : Nat) : (s.count a b).talsen = s.talsen := State.count_keeps.only.same .talsen (by decide)
@[simp] theorem State.count_np (s : State) (a b : Nat) : (s.count a b).np = s.np := State.count_keeps.only.same .np (by decide)
@[simp] theorem State.count_fab (s : State) (a b : Nat) : (s.count a b).fab = s.fab := State.count_keeps.only.same .fab (by decide)
@[simp] theorem State.count_qe (s : State) (a b : Nat) : (s.count a b).qe = s.qe := State.count_keeps.only.same .qe (by decide)
@[simp] theorem State.count_time (s : State) (a b : Nat) : (s.count a b).time = s.time := State.count_keeps.only.same .time (by decide)
@[simp] theorem State.count_coord (s : State) (a b : Nat) : (s.count a b).coord = s.coord := State.count_keeps.only.same .coord (by decide)
@[simp] theorem State.count_video (s : State) (a b : Nat) : (s.count a b).video = s.video := State.count_keeps.only.same .video (by decide)
@[simp] theorem State.count_out (s : State) (a b : Nat) : (s.count a b).out = s.out := State.count_keeps.only.same .out (by decide)
@[simp] theorem State.count_free (s : State) (a b : Nat) : (s.count a b).free = s.free := State.count_keeps.only.same .free (by decide)
@[simp] theorem State.count_pending (s : State) (a b : Nat) : (s.count a b).pending = s.pending := State.count_keeps.only.pending

/-! ### raiseVector -/

@[simp] theorem State.raiseVector_dog (s : State) (a b : Nat) : (s.raiseVector a b).dog = s.dog := State.raiseVector_keeps.only.same .dog (by decide)
@[simp] theorem State.raiseVector_boot (s : State) (a b : Nat) : (s.raiseVector a b).boot = s.boot := State.raiseVector_keeps.only.same .boot (by decide)
@[simp] theorem State.raiseVector_comp (s : State) (a b : Nat) : (s.raiseVector a b).comp = s.comp := State.raiseVector_keeps.only.same .comp (by decide)
@[simp] theorem State.raiseVector_pens (s : State) (a b : Nat) : (s.raiseVector a b).pens = s.pens := State.raiseVector_keeps.only.same .pens (by decide)
@[simp] theorem State.raiseVector_drover (s : State) (a b : Nat) : (s.raiseVector a b).drover = s.drover := State.raiseVector_keeps.only.same .drover (by decide)
@[simp] theorem State.raiseVector_talsen (s : State) (a b : Nat) : (s.raiseVector a b).talsen = s.talsen := State.raiseVector_keeps.only.same .talsen (by decide)
@[simp] theorem State.raiseVector_np (s : State) (a b : Nat) : (s.raiseVector a b).np = s.np := State.raiseVector_keeps.only.same .np (by decide)
@[simp] theorem State.raiseVector_fab (s : State) (a b : Nat) : (s.raiseVector a b).fab = s.fab := State.raiseVector_keeps.only.same .fab (by decide)
@[simp] theorem State.raiseVector_qe (s : State) (a b : Nat) : (s.raiseVector a b).qe = s.qe := State.raiseVector_keeps.only.same .qe (by decide)
@[simp] theorem State.raiseVector_time (s : State) (a b : Nat) : (s.raiseVector a b).time = s.time := State.raiseVector_keeps.only.same .time (by decide)
@[simp] theorem State.raiseVector_coord (s : State) (a b : Nat) : (s.raiseVector a b).coord = s.coord := State.raiseVector_keeps.only.same .coord (by decide)
@[simp] theorem State.raiseVector_video (s : State) (a b : Nat) : (s.raiseVector a b).video = s.video := State.raiseVector_keeps.only.same .video (by decide)
@[simp] theorem State.raiseVector_health (s : State) (a b : Nat) : (s.raiseVector a b).health = s.health := State.raiseVector_keeps.only.same .health (by decide)
@[simp] theorem State.raiseVector_free (s : State) (a b : Nat) : (s.raiseVector a b).free = s.free := State.raiseVector_keeps.only.same .free (by decide)
@[simp] theorem State.raiseVector_pending (s : State) (a b : Nat) : (s.raiseVector a b).pending = s.pending := State.raiseVector_keeps.only.pending

/-! ### healthEvent -/

@[simp] theorem State.healthEvent_dog (s : State) (a b : Nat) : (s.healthEvent a b).dog = s.dog := State.healthEvent_keeps.only.same .dog (by decide)
@[simp] theorem State.healthEvent_boot (s : State) (a b : Nat) : (s.healthEvent a b).boot = s.boot := State.healthEvent_keeps.only.same .boot (by decide)
@[simp] theorem State.healthEvent_comp (s : State) (a b : Nat) : (s.healthEvent a b).comp = s.comp := State.healthEvent_keeps.only.same .comp (by decide)
@[simp] theorem State.healthEvent_pens (s : State) (a b : Nat) : (s.healthEvent a b).pens = s.pens := State.healthEvent_keeps.only.same .pens (by decide)
@[simp] theorem State.healthEvent_drover (s : State) (a b : Nat) : (s.healthEvent a b).drover = s.drover := State.healthEvent_keeps.only.same .drover (by decide)
@[simp] theorem State.healthEvent_talsen (s : State) (a b : Nat) : (s.healthEvent a b).talsen = s.talsen := State.healthEvent_keeps.only.same .talsen (by decide)
@[simp] theorem State.healthEvent_np (s : State) (a b : Nat) : (s.healthEvent a b).np = s.np := State.healthEvent_keeps.only.same .np (by decide)
@[simp] theorem State.healthEvent_fab (s : State) (a b : Nat) : (s.healthEvent a b).fab = s.fab := State.healthEvent_keeps.only.same .fab (by decide)
@[simp] theorem State.healthEvent_qe (s : State) (a b : Nat) : (s.healthEvent a b).qe = s.qe := State.healthEvent_keeps.only.same .qe (by decide)
@[simp] theorem State.healthEvent_time (s : State) (a b : Nat) : (s.healthEvent a b).time = s.time := State.healthEvent_keeps.only.same .time (by decide)
@[simp] theorem State.healthEvent_coord (s : State) (a b : Nat) : (s.healthEvent a b).coord = s.coord := State.healthEvent_keeps.only.same .coord (by decide)
@[simp] theorem State.healthEvent_video (s : State) (a b : Nat) : (s.healthEvent a b).video = s.video := State.healthEvent_keeps.only.same .video (by decide)
@[simp] theorem State.healthEvent_health (s : State) (a b : Nat) : (s.healthEvent a b).health = s.health := State.healthEvent_keeps.only.same .health (by decide)
@[simp] theorem State.healthEvent_free (s : State) (a b : Nat) : (s.healthEvent a b).free = s.free := State.healthEvent_keeps.only.same .free (by decide)
@[simp] theorem State.healthEvent_pending (s : State) (a b : Nat) : (s.healthEvent a b).pending = s.pending := State.healthEvent_keeps.only.pending

/-! ### healthEventAll -/

@[simp] theorem State.healthEventAll_dog (s : State) (a : Nat) : (s.healthEventAll a).dog = s.dog := State.healthEventAll_keeps.only.same .dog (by decide)
@[simp] theorem State.healthEventAll_boot (s : State) (a : Nat) : (s.healthEventAll a).boot = s.boot := State.healthEventAll_keeps.only.same .boot (by decide)
@[simp] theorem State.healthEventAll_comp (s : State) (a : Nat) : (s.healthEventAll a).comp = s.comp := State.healthEventAll_keeps.only.same .comp (by decide)
@[simp] theorem State.healthEventAll_pens (s : State) (a : Nat) : (s.healthEventAll a).pens = s.pens := State.healthEventAll_keeps.only.same .pens (by decide)
@[simp] theorem State.healthEventAll_drover (s : State) (a : Nat) : (s.healthEventAll a).drover = s.drover := State.healthEventAll_keeps.only.same .drover (by decide)
@[simp] theorem State.healthEventAll_talsen (s : State) (a : Nat) : (s.healthEventAll a).talsen = s.talsen := State.healthEventAll_keeps.only.same .talsen (by decide)
@[simp] theorem State.healthEventAll_np (s : State) (a : Nat) : (s.healthEventAll a).np = s.np := State.healthEventAll_keeps.only.same .np (by decide)
@[simp] theorem State.healthEventAll_fab (s : State) (a : Nat) : (s.healthEventAll a).fab = s.fab := State.healthEventAll_keeps.only.same .fab (by decide)
@[simp] theorem State.healthEventAll_qe (s : State) (a : Nat) : (s.healthEventAll a).qe = s.qe := State.healthEventAll_keeps.only.same .qe (by decide)
@[simp] theorem State.healthEventAll_time (s : State) (a : Nat) : (s.healthEventAll a).time = s.time := State.healthEventAll_keeps.only.same .time (by decide)
@[simp] theorem State.healthEventAll_coord (s : State) (a : Nat) : (s.healthEventAll a).coord = s.coord := State.healthEventAll_keeps.only.same .coord (by decide)
@[simp] theorem State.healthEventAll_video (s : State) (a : Nat) : (s.healthEventAll a).video = s.video := State.healthEventAll_keeps.only.same .video (by decide)
@[simp] theorem State.healthEventAll_health (s : State) (a : Nat) : (s.healthEventAll a).health = s.health := State.healthEventAll_keeps.only.same .health (by decide)
@[simp] theorem State.healthEventAll_free (s : State) (a : Nat) : (s.healthEventAll a).free = s.free := State.healthEventAll_keeps.only.same .free (by decide)
@[simp] theorem State.healthEventAll_pending (s : State) (a : Nat) : (s.healthEventAll a).pending = s.pending := State.healthEventAll_keeps.only.pending

/-! ### logFault -/

@[simp] theorem State.logFault_dog (s : State) (a b : Nat) (c : Severity) (d : Nat) (e f : Option Nat) (g : Nat) : (s.logFault a b c d e f g).dog = s.dog := State.logFault_keeps.only.same .dog (by decide)
@[simp] theorem State.logFault_boot (s : State) (a b : Nat) (c : Severity) (d : Nat) (e f : Option Nat) (g : Nat) : (s.logFault a b c d e f g).boot = s.boot := State.logFault_keeps.only.same .boot (by decide)
@[simp] theorem State.logFault_comp (s : State) (a b : Nat) (c : Severity) (d : Nat) (e f : Option Nat) (g : Nat) : (s.logFault a b c d e f g).comp = s.comp := State.logFault_keeps.only.same .comp (by decide)
@[simp] theorem State.logFault_pens (s : State) (a b : Nat) (c : Severity) (d : Nat) (e f : Option Nat) (g : Nat) : (s.logFault a b c d e f g).pens = s.pens := State.logFault_keeps.only.same .pens (by decide)
@[simp] theorem State.logFault_drover (s : State) (a b : Nat) (c : Severity) (d : Nat) (e f : Option Nat) (g : Nat) : (s.logFault a b c d e f g).drover = s.drover := State.logFault_keeps.only.same .drover (by decide)
@[simp] theorem State.logFault_talsen (s : State) (a b : Nat) (c : Severity) (d : Nat) (e f : Option Nat) (g : Nat) : (s.logFault a b c d e f g).talsen = s.talsen := State.logFault_keeps.only.same .talsen (by decide)
@[simp] theorem State.logFault_np (s : State) (a b : Nat) (c : Severity) (d : Nat) (e f : Option Nat) (g : Nat) : (s.logFault a b c d e f g).np = s.np := State.logFault_keeps.only.same .np (by decide)
@[simp] theorem State.logFault_fab (s : State) (a b : Nat) (c : Severity) (d : Nat) (e f : Option Nat) (g : Nat) : (s.logFault a b c d e f g).fab = s.fab := State.logFault_keeps.only.same .fab (by decide)
@[simp] theorem State.logFault_qe (s : State) (a b : Nat) (c : Severity) (d : Nat) (e f : Option Nat) (g : Nat) : (s.logFault a b c d e f g).qe = s.qe := State.logFault_keeps.only.same .qe (by decide)
@[simp] theorem State.logFault_time (s : State) (a b : Nat) (c : Severity) (d : Nat) (e f : Option Nat) (g : Nat) : (s.logFault a b c d e f g).time = s.time := State.logFault_keeps.only.same .time (by decide)
@[simp] theorem State.logFault_coord (s : State) (a b : Nat) (c : Severity) (d : Nat) (e f : Option Nat) (g : Nat) : (s.logFault a b c d e f g).coord = s.coord := State.logFault_keeps.only.same .coord (by decide)
@[simp] theorem State.logFault_video (s : State) (a b : Nat) (c : Severity) (d : Nat) (e f : Option Nat) (g : Nat) : (s.logFault a b c d e f g).video = s.video := State.logFault_keeps.only.same .video (by decide)
@[simp] theorem State.logFault_free (s : State) (a b : Nat) (c : Severity) (d : Nat) (e f : Option Nat) (g : Nat) : (s.logFault a b c d e f g).free = s.free := State.logFault_keeps.only.same .free (by decide)
@[simp] theorem State.logFault_pending (s : State) (a b : Nat) (c : Severity) (d : Nat) (e f : Option Nat) (g : Nat) : (s.logFault a b c d e f g).pending = s.pending := State.logFault_keeps.only.pending

/-! ### setStage -/

@[simp] theorem State.setStage_dog (s : State) (n : Nat) : (s.setStage n).dog = s.dog := by
  unfold State.setStage
  split
  · rfl
  · simp

@[simp] theorem State.setStage_boot (s : State) (n : Nat) : (s.setStage n).boot = { s.boot with stage := n } := by
  unfold State.setStage
  split
  · next h => rw [← h]
  · simp

@[simp] theorem State.setStage_comp (s : State) (n : Nat) : (s.setStage n).comp = s.comp := by
  unfold State.setStage
  split
  · rfl
  · simp

@[simp] theorem State.setStage_pens (s : State) (n : Nat) : (s.setStage n).pens = s.pens := by
  unfold State.setStage
  split
  · rfl
  · simp

@[simp] theorem State.setStage_drover (s : State) (n : Nat) : (s.setStage n).drover = s.drover := by
  unfold State.setStage
  split
  · rfl
  · simp

@[simp] theorem State.setStage_talsen (s : State) (n : Nat) : (s.setStage n).talsen = s.talsen := by
  unfold State.setStage
  split
  · rfl
  · simp

@[simp] theorem State.setStage_np (s : State) (n : Nat) : (s.setStage n).np = s.np := by
  unfold State.setStage
  split
  · rfl
  · simp

@[simp] theorem State.setStage_fab (s : State) (n : Nat) : (s.setStage n).fab = s.fab := by
  unfold State.setStage
  split
  · rfl
  · simp

@[simp] theorem State.setStage_qe (s : State) (n : Nat) : (s.setStage n).qe = s.qe := by
  unfold State.setStage
  split
  · rfl
  · simp

@[simp] theorem State.setStage_time (s : State) (n : Nat) : (s.setStage n).time = s.time := by
  unfold State.setStage
  split
  · rfl
  · simp

@[simp] theorem State.setStage_coord (s : State) (n : Nat) : (s.setStage n).coord = s.coord := by
  unfold State.setStage
  split
  · rfl
  · simp

@[simp] theorem State.setStage_video (s : State) (n : Nat) : (s.setStage n).video = s.video := by
  unfold State.setStage
  split
  · rfl
  · simp

/-- R448: a change of STAGE moves the power loop's point and duty only. -/
theorem State.setStage_health (s : State) (n : Nat) : (s.setStage n).health =
    if s.boot.stage = n then s.health else { s.health with power := s.health.power.atStage s.boot.stage n } := by
  unfold State.setStage
  split
  · rfl
  · simp

@[simp] theorem State.setStage_banks (s : State) (n : Nat) : (s.setStage n).health.banks = s.health.banks := by
  rw [State.setStage_health]
  split <;> rfl

@[simp] theorem State.setStage_counters (s : State) (n : Nat) : (s.setStage n).health.counters = s.health.counters := by
  rw [State.setStage_health]
  split <;> rfl

@[simp] theorem State.setStage_free (s : State) (n : Nat) : (s.setStage n).free = s.free := by
  unfold State.setStage
  split
  · rfl
  · simp

@[simp] theorem State.setStage_pending (s : State) (n : Nat) : (s.setStage n).pending = s.pending := by
  unfold State.setStage
  split
  · rfl
  · simp

end Sys2Proof.Machine
end

