-- ==== Sys2Proof/Tests/Slice0.lean ====
section
/-! SUPPORT. Tests: ill-formed commands, the manual's worked examples, single steps, and for every statement with premises a
witness of each of its clauses. -/

/-! ## States of the tests: small changes to the machine after reset -/

namespace Sys2Proof.Tests

open Sys2Proof Sys2Proof.Machine

set_option Elab.async false

/-- A machine at a stage with every rail good, the host link up, the Shepherd running and the stacks trained. -/
def live (n : Nat) : State := { State.reset with
  boot := { Boot.initial with
    stage := n, resetN := true, perstN := true, fusesRead := true, transitEn := true, hubEn := true, fieldEn := true, linkUp := true
    shepherdRuns := true, railsGood := [.aon, .vddio, .transit, .hub, .hbm, .field0, .field1, .field2, .field3] }
  dog := { Sheepdog.initial with running := some 0 }
  np := { NearMem.initial with stackList := List.replicate 8 { Stack.initial with trained := true, powered := true } }
  talsen := List.replicate 4 { Talsen.initial with state := .up, usedMib := 1024, serial := some 0 } }

def bootOf (n : Nat) (f : Boot → Boot) : State := (live n).modBoot f
def dogOf (n : Nat) (f : Sheepdog → Sheepdog) : State := (live n).modDog f
def powerOf (n : Nat) (f : Power → Power) : State := (live n).modPower f

/-- A port that is up, with credits in every class. -/
def portUp : Port := { Port.initial with lstate := .up, laneGood := 0xFF, peerValid := true, credits := List.replicate 8 60 }

/-- A device of a ring of two: device 0 leads, device 1 is its deputy; both ports of the axis are up. -/
def ring2 (coord : B16) : State := (live 5).modFab (fun f => { f with
  coord := coord, extent := 0x0001, placed := true, bellwether := 0, deputy := 1, ports := [portUp, portUp] ++ List.replicate 6 .initial })

/-- Packets that have been ejected here, by port 0. -/
def got (s : State) (ps : List Packet) : State := s.modFab (fun f => { f with ejected := ps.map (fun p => (0, p)) })

/-- A management packet from device `src`. -/
def mgmt (ty : Nat) (src : B16) (op : List Byte) : Packet := mkPacket ty 3 0 src op []

/-- A slot whose request waits, or is not yet submitted. -/
def asks (go : Bool) (s : State) (i op : Nat) (pay : List Byte) : State := s.modSlot i (fun m => { m with
  go := go, reqLen := 8 + pay.length, req := trimZeros (leBytes 2 op ++ [2, 0] ++ leBytes 4 7 ++ pay) })

def ask (s : State) (op : Nat) (pay : List Byte) : State := asks true s 0 op pay

/-- A slot that is BUSY with a command. -/
def busy (s : State) (i op : Nat) (pay : List Byte) : State := s.modSlot i (fun m => { m with
  state := 1, taken := leBytes 2 op ++ [2, 0] ++ leBytes 4 7 ++ pay })

def z (n : Nat) : List Byte := List.replicate n 0

/-- Pen 0 in a state, with room, at stage 5. -/
def pen0 (st : PenState) : State := (live 5).modPen 0 (fun p => { p with state := st, nearMin := 2 ^ 30, farMax := 2 ^ 30 })

/-- The entry of an uncompressed tensor of one dimension. -/
def entryOf (handle fmt shape n : Nat) : List Byte :=
  leBytes 4 handle ++ leBytes 1 fmt ++ leBytes 1 shape ++ [0, 0] ++ leBytes 4 n ++ (List.replicate 5 [1, 0, 0, 0]).flatten ++ z 32

/-- Such a tensor of pen 0, near at 2 MiB. -/
def nearTensor (handle fmt shape n : Nat) : Tensor :=
  { parseTensor (entryOf handle fmt shape n) [] with res := .near, penAddr := 0x200000, accounted := 65536, nearTable := [some 0], room := [(1, 0)] }

/-- A BF16 tensor of four elements with index 1. -/
def tensor1 : Tensor := nearTensor 1 1 1 4

/-- Pen 0 with tensors, and its page at 2 MiB mapped to near page 0. -/
def holds (s : State) (ts : List Tensor) : State := s.modPen 0 (fun p => { p with
  tensors := ts, pages := [(1, 0)], nextAddr := 0x400000, smallPage := some (0x200000, 1) })

/-- A queue of pen 0 with one entry waiting in a ring at 0x20_1000. -/
def queueOf (ty : QType) : Queue :=
  { id := 0, type := ty, pen := 0, enabled := true, halted := false, log2 := 0, cplHost := false, cplIrq := false, routeHold := false
    ringAddr := 0x201000, head := 0, tail := 1, cplQid := 1, expectSeq := 0, irqVector := 0, timeoutUs := 1000, maxOut := 8, out := 0
    haltInfo := 0, taken := 0, dying := false, waitingCpl := [] }

def cplQueue : Queue := { queueOf .cpl with id := 1, cplHost := true, cplQid := 0xFFFFFFFF, tail := 0 }

/-- The queue and its CPL queue, with the bytes of the head entry. -/
def enqueued (s : State) (q : Queue) (e : List Byte) : State :=
  (s.modQe (fun x => { x with queues := [q, cplQueue] })).modNp (fun n => { n with mem := cellPutAll 0 n.mem 0x1000 e })

/-- Video stream 0 of pen 0, and its record: AVC decoding of 16 by 16 pictures. -/
def streamBytes : List Byte := z 8 ++ [16, 0, 16, 0, 8, 17, 0, 0, 100, 0, 0, 0] ++ z 44

def stream0 : Stream :=
  { number := 0, pen := 0, conf := parseStream streamBytes, pieces := [], offset := 0, work := [], ready := none, pictures := [], outputs := []
    flush := none, context := 0, outUpTo := 0, nextPicture := 0, qp := 0, sizes := [], sinceKey := none, band := 0, closing := false
    closeSlots := [], skipping := none, clashes := [] }

def workOf : PicWork := { data := [], offset := 0, entry := [], samples := 0, readyAt := 0, redo := false }

/-- The key of the private key 1, and a credential of it: AUTH with the signature of the nonce 1. -/
def gKey : List Byte := [4] ++ beBytes 48 p384Gx ++ beBytes 48 p384Gy

def credential (action arg : Nat) : List Byte :=
  let m := leBytes 1 action ++ leBytes 1 arg ++ [0x10, 0] ++ z 12 ++ gKey ++ z 3
  m ++ leBytes 48 p384Gx ++ leBytes 48 ((sha384 m + p384Gx) % p384N)

/-- A device with the owner key above, its window open. -/
def owned (lc : Nat) : State := dogOf 3 (fun g => { g with
  lcState := lc, window := some 1, ownerSlots := if lc = 2 then [{ hash := sha384 gKey, revoked := false }] else [] })

/-- An update of image 1 under way. -/
def session1 (accepted last : Nat) (lastData : List Byte) : Session :=
  { number := 1, imageBytes := 8192, version := 0x02000001, target := 1, accepted := accepted, lastOffset := last, lastData := lastData }

def updating (x : Session) (factory : List Nat) : State := dogOf 3 (fun g => { g with session := some x, factory := factory })

/-- An RNG_FILL of the four elements of tensor 1. -/
def rng : List Byte :=
  setBytes (setBytes (setBytes (setBytes (setBytes (z 256) 0 [0x34]) 12 (leBytes 4 0xFFFFFFFF)) 20 (leBytes 4 0xFFFFFFFF)) 80 (leBytes 4 1 ++ z 10 ++ [1]))
    192 [0, 0, 0x80, 0x3F]

/-- The machine after a command. -/
def next (c : Instr) (s : State) : State := match exec c s with
  | .next t => t
  | _ => s

/-- Pen 0 running, tensor 1 near, and an operator descriptor at the head of queue 0. -/
def headOf (q : Queue) (d : List Byte) : State := enqueued (holds (pen0 .running) [tensor1]) q d

def oprWith (d : List Byte) : State := headOf (queueOf .opr) d

/-- Fold 0 serves slot 0. -/
def fold0 (s : State) : State :=
  (s.modFold 0 (fun f => { f with state := .active })).modFoldSlot 0 (fun x => { x with phys := 0, active := true })

/-- RNG_FILL has been taken; and its task has been issued. -/
def issued : State := fold0 (next (.rngFill 0) (oprWith rng))

def op1 : Op := issued.comp.ops.head (by decide +kernel)

def placed1 : State := next .taskIssue issued

def op2 : Op := placed1.comp.ops.head (by decide +kernel)

/-- Tensor 1 in far pasture of port 0, as one chunk being fetched. -/
def farTensor : Tensor := { tensor1 with
  res := .far, room := [], nearTable := [], farTable := [some 0], far := some { stripe := [0], bytes := 16, place := [0], exact := false }
  fetch := some { chunks := [.issued], deadline := 0, switched := false, bad := false } }
/-- The same with the check value of a chunk of zeros. -/
def farZeros (t : Tensor) : Tensor := { t with farTable := [some (BitVec.ofNat 32 (crc32c (z 4096)))] }
def base63 : Tensor := { tensor1 with handle := 0x1000003F, isBase := true, res := .both, penAddr := 0 }

/-- Both halves of Fold 0 hold tasks of a grazing pen. -/
def grazed : State := (issued.modPen 1 (fun p => { p with grazing := true })).modFold 0 (fun f => { f with
  half0 := { AccHalf.idle with busy := some (9, 0), pen := 1 }, half1 := { AccHalf.idle with busy := some (9, 1), pen := 1 } })

/-- The output is a tensor of 2 MiB without any copy, in a pen whose quotas allow none. -/
def tensorNone : Tensor := { nearTensor 1 1 1 1048576 with res := .none, room := [], nearTable := [] }

def cramped : State := issued.modPen 0 (fun p => { p with tensors := [tensorNone], nearMin := 0, farMax := 0 })

/-- CAST from tensor 1, whose fetch streams in, to tensor 2. -/
def cast : List Byte :=
  setBytes (setBytes (setBytes (setBytes rng 0 [0x37]) 32 (leBytes 4 1 ++ z 10 ++ [1])) 80 (leBytes 4 2 ++ z 10 ++ [1])) 192 (z 4)

def tensor2 : Tensor := { tensor1 with handle := 2, penAddr := 0x210000 }

def streamed : State := fold0 (next (.cast 0) (enqueued (holds (pen0 .running) [farTensor, tensor2]) (queueOf .opr) cast))

def op3 : Op := streamed.comp.ops.head (by decide +kernel)

/-- CAST from tensor 1 as it stands in near pasture; its task has been issued, and its input then poisoned. -/
def spoiled : State := (next .taskIssue (fold0 (next (.cast 0) (enqueued (holds (pen0 .running) [tensor1, tensor2]) (queueOf .opr) cast)))).modNp
  (fun n => { n with poison := [0] })

def op4 : Op := spoiled.comp.ops.head (by decide +kernel)

/-- No Fold serves a slot. -/
def noFolds : State := issued.modFoldSlot 0 (fun x => { x with active := false })
/-- A PUT of four bytes to pen 7 of device 0, and its operation in flight. -/
def put : List Byte := setBytes (setBytes (setBytes (setBytes (setBytes (z 64) 0 [1]) 6 [7]) 8 (leBytes 4 0x200000)) 16 (leBytes 4 0x200000)) 24 [4]

def putOp (epoch : Nat) : RopOp :=
  { queue := 0, pen := 0, index := 0, desc := put, frags := [.inFlight], epoch := epoch, packets := [], waiting := false, poison := false
    status := 0, dropped := false, due := none }

/-- A request of another device for pen 0. -/
def request (ty vc key arg0 arg1 : Nat) : Packet := mkPacket ty vc 0 1 (ropOpBytes 0 key 0 0 0x200000 arg0 arg1) (z 16)

def served (p : Packet) : State := got (holds (pen0 .running) [tensor1]) [p]

/-- DATA of four bytes for stream 0, at the head of a VID queue that feeds it. -/
def dataEntry : List Byte := setBytes (setBytes (setBytes (z 128) 0 [1]) 8 [1]) 20 [4]

def vidWith (x : Stream) (d : List Byte) : State :=
  (enqueued (holds (pen0 .running) [{ nearTensor 1 0xC 1 80 with pinned := true }]) (queueOf .vid) d).modVideo (fun v => { v with streams := [x] })

def coreWith (c : Nat) (k : VideoCore) : State := (live 5).modVideo (fun v => { v with cores := v.cores.set c k })

/-! ## Ill-formed commands are refused -/

theorem test_wf_refuses_each_bad_operand :
    [Instr.stageReduced [136] [], .stageReduced [] [16], .stageMemory [8] [none, none, none, none], .stageMemory [] [], .powerMeasurement 0 [],
      .mbCtrlGo 1 1 false, .mbCtrlAbort 8 3, .commandTimeout 1 2, .doorbellAdd 0 1048576 0, .doorbellRestart 0 1048576 0,
      .registerWrite 0 (.bar0 4) true 0, .registerWrite 0 (.bar0 2) false 0, .bar4Read 0 0 0, .bar4Read 0 4095 2, .bar4Write 0 4095 [0, 0], .bar4Write 0 0 [],
      .functionLevelReset 0, .goldenScrub 0 [List.replicate 65537 0] false, .farReadComplete 1 0 (List.replicate 65537 0) false,
      .nearPastureRead .norm .host 255 2, .nearPastureRead .norm .host nearBytes 1, .nearPastureWrite .norm .host 0 [],
      .accumulateWrite .norm .fold 2 false false [some 0], .wcAgeFlush 1, .npCe nearBytes, .npUe nearBytes, .flit 0 [0], .collWatchdog 1048576,
      .ropTimeout 1048576 0, .gemm 1048576, .flush 1048576, .devIdentify 1 1, .debugRegWrite 8 3].all (fun c => !c.wf) = true := by
  decide +kernel

theorem test_wf_accepts :
    [Instr.stageReduced [135] [15], .registerWrite 0 (.bar0 0x1010) true 0, .registerWrite 0 (.config .powerState) false 3, .bar4Read 8 4095 1, .nearPastureRead .norm .host 0 256, .gemm 1048575,
      .devIdentify 1 0, .functionLevelReset 8, .resetNLow].all Instr.wf = true := by decide +kernel

/-- The table gives its rows no bits. -/
theorem test_no_word_decodes : decodeTableWord 32 0 = none := rfl

/-! ## The manual's worked examples -/

/-- Table 2.6: −1.75 in six formats. -/
theorem test_encodings_of_minus_1_75 :
    let v := f32 0xBFE00000
    (encodeElem 1 .rne v).1 = 0xBFE0 ∧ (encodeElem 2 .rne v).1 = 0xBF00 ∧ (encodeElem 3 .rne v).1 = 0xBE ∧ (encodeElem 4 .rne v).1 = 0xBF ∧
      (fmtE2m1.encode .rne v).1 = 0xC := by decide +kernel

/-- Table 2.6: 0.1 in BF16, RNE and SR, and 500 and infinity in the 8-bit formats. -/
theorem test_encodings_round_and_saturate :
    (encodeElem 1 .rne (f32 0x3DCCCCCD)).1 = 0x3DCD ∧ (encodeElem 1 (.sr 0x3000) (f32 0x3DCCCCCD)).1 = 0x3DCC ∧
      (encodeElem 1 (.sr 0x4000) (f32 0x3DCCCCCD)).1 = 0x3DCD ∧ encodeElem 3 .rne (Val.ofInt 500) = (0x7E, true) ∧
      (encodeElem 4 .rne (Val.ofInt 500)).1 = 0x60 ∧ (encodeElem 3 .rne (.inf false)).1 = 0x7E ∧ (encodeElem 4 .rne (.inf false)).1 = 0x7C := by
  decide +kernel

/-- The BS4 block of chapter 2: T = 0.0625, elements 2.4, −0.9, 0.3 and 0.1. -/
theorem test_bs4_block :
    let b := encodeBs4 0x3D800000 ([0x4019999A, 0xBF666666, 0x3E99999A, 0x3DCCCCCD].map (fun w => (f32 w, Rounding.rne)))
    b.scale = 0x4D ∧ b.codes = [7, 0xC, 1, 0] ∧ b.sat = false := by decide +kernel

/-- The FRL block of chapter 8, 2:1: its first six bytes; and row 0 of the 4:1 form. -/
theorem test_frl_block :
    let q (n : Int) (e : Int) : Val := .fin (n < 0) n.natAbs e
    let xs := [q 3 0, q (-3) (-1), q 3 (-2), q 2 0, q 3 (-3), q 1 (-2), q (-1) (-3), q 1 (-1), q 3 (-6), q (-1) (-5), .zero, q 1 (-4), q 9 (-3),
      q (-5) (-1), .zero, q 77 (-8)]
    (frlBlock 7 xs).1.take 6 = [0x81, 0x38, 0x30, 0x34, 0x03, 0x84] ∧ (frlBlock 3 xs).1.take 2 = [0x81, 0x38] ∧
      (frlBlock 3 xs).1.getD 2 0 &&& 0x3F = 0x33 := by decide +kernel

/-- The placing of line 0x12_3456_7800 of chapter 10: p is 0x0DC, stack 4; the next line is on stack 5. -/
theorem test_line_placing : npChannel 0x1234567800 = 0x0DC ∧ npStack 0x1234567800 = 4 ∧ npChannel 0x1234567900 = 0x0DD ∧
    npStack 0x1234567900 = 5 := by decide +kernel

/-- A device of the torus of chapter 11 (8 × 4 × 16 × 2), every port up. -/
def torus (coord : B16) : State := (live 5).modFab (fun f => { f with
  coord := coord, extent := 0x1F37, placed := true, ports := List.replicate 8 portUp })

def hopOf (coord : B16) (dest : B16) : Option (Nat × Bool) :=
  match (torus coord).routePacket false (mkPacket 0x01 0 dest 0x0316 [] []) with
  | .forward p q => some (p, pSub q = 1)
  | _ => none

/-- The route of chapter 11 from (6, 1, 3, 0) to (1, 1, 12, 1): plus on axis 0, then minus on axis 2 from SUB 0. -/
theorem test_route : hopOf 0x0316 0x1C11 = some (0, false) ∧ hopOf 0x0311 0x1C11 = some (5, false) := by decide +kernel

/-- The GEMM of chapter 6: 17,000 × 2,560 × 3,072 in BF16. -/
def gemmShape : PlanShape :=
  let o (ref x y : Nat) : Operand :=
    { ref := ref, t := { nearTensor 1 1 2 x with extents := [x, y, 1, 1, 1, 1] }, off := 0, ext := [x, y, 1, 1, 1, 1], str := [1, x, 0, 0, 0, 0] }
  { d := setBytes (z 256) 0 [0x10], o0 := o 0 2560 17000, o1 := o 1 2560 3072, o2 := o 2 3072 17000, res := none, aux := none, bias := none }

/-- Table 6.5: B stationary, 256 × 512 × 640, four segments, 52,636 cycles a tile and 21,159,672 in all. -/
theorem test_gemm_plan : gemmShape.tileCost true 256 512 640 64 4 = 52636 ∧
    gemmShape.choose.map (fun c => (c.ref1, [c.rt, c.ct, c.kt, c.nseg], c.rank.take 1)) = some (true, [256, 512, 640, 4], [21159672]) := by
  decide +kernel

/-- Table 20.7: bank 14 after its first eight occurrences. -/
theorem test_full_bank :
    let ce (u : Nat) (s : State) : State := s.logFault 14 0x0B01 .corrected u
    let s := ce 20 (ce 19 (ce 16 (ce 19 (ce 18 (ce 17 (ce 17 (live 3)))))))
    let b := s.health.banks.getD 14 { records := [], lost := 0 }
    let t := s.logFault 14 0x0B04 .uncontained 5
    let c := t.health.banks.getD 14 { records := [], lost := 0 }
    b.records.map (fun r => r.map (fun x => (x.unit, x.count.toNat, x.more))) =
      [some (17, 3, true), some (18, 1, false), some (19, 2, false), some (16, 1, false)] ∧
    c.records.map (fun r => r.map (fun x => (x.unit, x.count.toNat))) = [some (5, 1), some (18, 1), some (19, 2), some (16, 1)] ∧
      c.lost = 1 ∧ t.faultPending = true := by decide +kernel

/-- Table 5.11: counter 40 at 0x1_FFFF_FFFE and its four increments, against WAIT_VALUE 2. -/
theorem test_wrapping_wait :
    let d := setBytes (setBytes (z 256) 12 (leBytes 4 40)) 16 (leBytes 4 2)
    [0x1FFFFFFFE, 0x1FFFFFFFF, 0x200000000, 0x200000001, 0x200000002].map
      (fun n => ((pen0 .running).modPen 0 (fun p => { p with counters := [(40, BitVec.ofNat 64 n)] })).waitMet 0 d) =
        [false, false, false, false, true] := by decide +kernel

/-! ## Single steps -/

/-- R258: a byte written to near pasture is what a reader sees. -/
theorem test_near_write :
    (next (.nearPastureWrite .norm .host 0x1234567800 [0xAB, 0xCD]) (live 5)).npByte 0x1234567801 = 0xCD := by decide +kernel

/-- Table 18.6: RESET_CTRL with WARM: the device is at stage 2 and WARM_COUNT counts. -/
theorem test_warm_reset : (next (.resetCtrlWarm 0xA502) (live 5)).boot.stage = 2 ∧ (next (.resetCtrlWarm 0xA502) (live 5)).boot.warmCount = 1 := by
  decide +kernel

/-- An empty queue: the clock ticks. -/
theorem test_idle_tick : (match step State.reset with
    | .next t => t.time.clock
    | _ => 0) = 1 := by decide +kernel

/-- The SHA-384 of "abc" (FIPS 180-4) and the check value of CRC-32C. -/
theorem test_hashes : sha384 [0x61, 0x62, 0x63] =
      0xCB00753F45A35E8BB5A03D699AC65007272C32AB0EDED1631A8B605A43FF5BED8086072BA1E7CC2358BAECA134C825A7 ∧
    crc32c [0x31, 0x32, 0x33, 0x34, 0x35, 0x36, 0x37, 0x38, 0x39] = 0xE3069283 := by decide +kernel

/-! ## What the statements' premises unfold to -/

def npSoundB (n : NearMem) : Bool := decide (n.stackList.length = 8 ∧ n.groups.length = 64 ∧ cellsWf (0 : Byte) n.mem = true ∧
  (n.wc.map WcEntry.line).Nodup ∧
  ∀ e ∈ n.wc, e.line % 256 = 0 ∧ (e.bytes.map Prod.fst).Pairwise (· < ·) ∧ ∀ x ∈ e.bytes, x.1 < 256)

theorem npSound_of {n : NearMem} (h : npSoundB n = true) : n.Sound := by
  unfold npSoundB at h
  simp only [decide_eq_true_eq] at h
  exact h

theorem hostSound_of {h : HostIf} (e : (h.fns.length == 9 && h.slots.length == 12) = true) : h.Sound := by
  simpa [HostIf.Sound] using e

def soundB (s : State) : Bool := npSoundB s.np && decide ((s.dog.lcState ≤ 5 ∧ s.dog.debugLevel ≤ 2) ∧
  (s.boot.stage ≤ 5 ∧ s.boot.ccStage ≤ 5 ∧ s.boot.ccCount ≤ 255 ∧ s.boot.warmCount ≤ 255) ∧
  (s.host.fns.length = 9 ∧ s.host.slots.length = 12) ∧ (s.comp.folds.length = 136 ∧ s.comp.slots.length = 128) ∧
  (s.pens.length = 8 ∧ ∀ p ∈ s.pens, cellsWf (0 : DWord) p.counters = true) ∧ s.talsen.length = 4 ∧
  (s.fab.ports.length = 8 ∧ s.fab.rings.length = 4) ∧ s.time.role ≤ 3 ∧ s.video.cores.length = 6 ∧
  s.health.banks.map (fun b => b.records.length) = bankSizes ∧ s.health.counters.length = 58 ∧ 4 ≤ s.health.power.duty ∧
  s.health.power.duty ≤ 16)

theorem sound_of {s : State} (h : soundB s = true) : s.Sound := by
  obtain ⟨n, a, b, c, d, e, f, g, t, v, k⟩ := (Bool.and_eq_true _ _ ▸ h : _ ∧ _).imp id of_decide_eq_true
  exact ⟨a, b, c, d, e, f, npSound_of n, g, t, v, k⟩

def waitsB (s : State) (fn : Fin 9) (slot : Fin 4) (op : Nat) : Bool :=
  let m := s.slotAt (slotIndex fn slot)
  decide (s.slotDue = some (slotIndex fn slot) ∧ s.served = true ∧ leField m.request 0 2 = op ∧ s.precheck fn.val (slotIndex fn slot) m = none)

theorem waits_of {s : State} {fn : Fin 9} {slot : Fin 4} {op : Nat} (h : waitsB s fn slot op = true) : s.Waits fn slot op := by
  obtain ⟨a, b, c, d⟩ := of_decide_eq_true h
  exact ⟨a, b, c, d⟩

theorem none_imp {α : Type} {o : Option α} {P : α → Prop} (h : o.isNone = true) : ∀ p, o = some p → P p := by
  intro p e
  simp [e] at h

theorem find_imp {α β : Type} {l : List α} {o : α → Option β} {Q : β → Prop} [DecidablePred Q]
    (h : l.all (fun a => (o a).all (fun y => decide (Q y))) = true) : ∀ a ∈ l, ∀ y, o a = some y → Q y := by
  intro a m y e
  have := List.all_eq_true.mp h a m
  simpa [e] using this

theorem opt_imp {α : Type} {o : Option α} {Q : α → Prop} [DecidablePred Q] (h : o.all (fun y => decide (Q y)) = true) :
    ∀ y, o = some y → Q y := by
  intro y e
  simpa [e] using h

theorem ok_of {x : Except Nat (List Byte)} {d : List Byte} (h : (match x with
    | .ok e => decide (e = d)
    | .error _ => false) = true) : x = .ok d := by
  split at h
  · rw [of_decide_eq_true h]
  · cases h

theorem no_tensors {s : State} {P : Tensor → Prop} {p : Nat} (h : s.pens.all (fun p => p.tensors.isEmpty) = true) :
    ∀ q, q ≠ p → ∀ x ∈ (s.pen q).tensors, P x := by
  intro q _ x hx
  have e : (s.pen q).tensors = [] := by
    unfold State.pen
    rw [List.getD_eq_getElem?_getD]
    cases hq : s.pens[q]? with
    | none => rfl
    | some y => simpa using List.all_eq_true.mp h y (List.mem_of_getElem? hq)
  simp [e] at hx


/-- A chunk whose CRC is the far entry of a copy that has no near entry to agree with. -/
theorem farPasses_of {t : Tensor} {f : FarCopy} {c : Nat} {bs : List Byte} (h : t.farCheck c = some (BitVec.ofNat 32 (crc32c bs)))
    (e : f.exact = false) : t.farPasses f c bs = true := by
  simp [Tensor.farPasses, h, e]

/-! ## Witnesses of the premises -/

theorem witness_CommandsStopOnlyBeyondNearPasture : ∃ (c : Instr) (s : State) (f : Fault), exec c s = .fault f :=
  ⟨.npCe nearBytes, State.reset, _, rfl⟩

def loads (st : PenState) : State :=
  ask ((holds (pen0 st) [nearTensor 1 0xC 0x21 80]).modNp (fun n => { n with
    mem := cellPutAll 0 n.mem 0 ([1, 1, 0, 0, 1, 0, 0, 0] ++ z 8 ++ leBytes 8 64 ++ leBytes 8 80 ++ z 48) })) 0x0303 (z 4 ++ [1, 0, 0, 0])

def oneLayer : Itinerary :=
  { lookahead := 1, points := [{ layer := 0, phase := 0, microBatch := 0, needs := [], durationUs := 0 }], bytes := 80 }

/-- What an itinerary's load asks of its state in both modes. -/
abbrev Loadable (s : State) : Prop :=
  s.Waits 0 0 0x0303 ∧ ((s.reqIn 0 0).f 0 1 = 0 ∧ (s.pen 0).state.live = true ∧ (s.reqIn 0 0).zero 1 4 = true ∧
    s.tensor? ((s.reqIn 0 0).f 4 4) = some (nearTensor 1 0xC 0x21 80) ∧ (s.reqIn 0 0).f 4 4 / 2 ^ 29 = 0 ∧ (s.reqIn 0 0).f 4 4 ≠ 0xFFFFFFFF ∧
    (s.taken 0 0).parseItinerary 0 ((List.range 80).map ((s.taken 0 0).nearForm 0 (nearTensor 1 0xC 0x21 80))) = some oneLayer)

theorem witness_TensorCommands_itineraryNow : ∃ s : State, Loadable s ∧ ((s.pen 0).state = .ready ∧
    (((s.taken 0 0).modPen 0 (fun x => { x with itinerary := some oneLayer, pendingItin := none })).pen 0).fixedUse ≤ (s.pen 0).nearMin) :=
  ⟨loads .ready, ⟨waits_of (by decide +kernel), by decide +kernel⟩, by decide +kernel⟩

theorem witness_TensorCommands_itineraryLater : ∃ s : State, Loadable s ∧ ((s.pen 0).state = .running ∧
    (((s.taken 0 0).modPen 0 (fun x => { x with pendingItin := some oneLayer })).pen 0).fixedUse ≤ (s.pen 0).nearMin) :=
  ⟨loads .running, ⟨waits_of (by decide +kernel), by decide +kernel⟩, by decide +kernel⟩

theorem witness_IdleStepIsATick :
    ∃ s : State, s.pending = [] :=
  ⟨State.reset, by decide +kernel⟩

theorem witness_StepsKeepTheMachineSound :
    ∃ s t : State, s.Sound ∧ step s = .next t :=
  ⟨State.reset, _, sound_of (by decide +kernel), rfl⟩

theorem witness_CommandFrames :
    (∃ (c : Instr) (s t : State), exec c s = .next t) ∧
    (∃ c : Instr, Sys2Proof.Machine.Instr.nearEnd c ≤ nearBytes) :=
  ⟨⟨.getpid, State.reset, _, rfl⟩,
   ⟨.npCe 0, by decide +kernel⟩⟩

theorem witness_Resets :
    (∃ (v : Word) (s : State), s.boot.linkUp = true ∧ bitsOf v.toNat 15 8 = 0xA5 ∧ v.toNat.testBit 2 = true) ∧
    (∃ (v : Word) (s : State),
      (s.boot.linkUp = true ∧ bitsOf v.toNat 15 8 = 0xA5 ∧ v.toNat.testBit 2 = false ∧ v.toNat.testBit 1 = true ∧ 2 ≤ s.boot.stage ∧
        s.boot.resetting ≠ some .cold ∧ s.boot.resetting ≠ some .warm ∧ s.boot.railHold = false) ∧ s.Sound) ∧
    (∃ (v : Word) (s : State),
      s.boot.linkUp = true ∧ bitsOf v.toNat 15 8 = 0xA5 ∧ v.toNat.testBit 2 = false ∧ v.toNat.testBit 1 = false ∧ v.toNat.testBit 0 = true ∧
        2 ≤ s.boot.stage ∧ s.boot.resetting = none ∧ s.noComplex = false) ∧
    (∃ (v : Word) (s : State) (c : _),
      s.boot.linkUp = true ∧ bitsOf v.toNat 15 8 ≠ 0xA5 ∧ c ∈ [Instr.resetCtrlCc v, .resetCtrlWarm v, .resetCtrlCold v]) ∧
    (∃ s : State, (2 ≤ s.boot.stage ∧ s.boot.resetting ≠ some .cold ∧ s.boot.resetting ≠ some .warm ∧ s.boot.railHold = false) ∧ s.Sound) ∧
    (∃ s : State, (s.boot.resetting = some .controlComplex ∧ 2 ≤ s.boot.stage ∧ s.boot.railHold = false) ∧ s.Sound) ∧
    (∃ s : State, 2 ≤ s.boot.stage ∧ s.boot.resetting = none ∧ s.noComplex = false) :=
  ⟨⟨0xA504, live 5, by decide +kernel⟩,
   ⟨0xA502, live 2, by decide +kernel, sound_of (by decide +kernel)⟩,
   ⟨0xA501, live 2, by decide +kernel⟩,
   ⟨0, live 2, .resetCtrlCc 0, by decide +kernel⟩,
   ⟨live 2, by decide +kernel, sound_of (by decide +kernel)⟩,
   ⟨bootOf 2 (fun b => { b with resetting := some .controlComplex }), by decide +kernel, sound_of (by decide +kernel)⟩,
   ⟨live 2, by decide +kernel⟩⟩

theorem witness_PowerOnSequence :
    ∃ s : State, s.boot.stage = 0 ∧ s.rail .aon = true ∧ s.rail .vddio = true ∧ s.boot.resetN = true ∧ s.boot.fusesRead = true :=
  ⟨live 0, by decide +kernel⟩

theorem witness_RailHoldAndTrip :
    (∃ (r : Rail) (s : State), s.rail r = true ∧ r ≠ .aon ∧ r ≠ .transit ∧ s.boot.stage ≠ 0) ∧
    (∃ s : State, s.rail .aon = true) ∧
    (∃ s : State, s.rail .transit = true) ∧
    (∃ (r : Rail) (s : State), s.railEnabled r = true ∧ s.rail r = false) :=
  ⟨⟨.vddio, live 1, by decide +kernel⟩,
   ⟨live 0, by decide +kernel⟩,
   ⟨live 1, by decide +kernel⟩,
   ⟨.hub, bootOf 1 (fun b => { b with railsGood := [.aon, .vddio, .transit] }), by decide +kernel⟩⟩

theorem witness_Stages :
    (∃ (s : State) (i g : _),
      (s.boot.stage = 1 ∧ s.boot.railHold = false ∧ s.boot.resetting ≠ some .controlComplex ∨ s.boot.stage = 2 ∧ s.boot.resetting = some .warm) ∧
        s.boot.linkUp = true ∧ s.hubRails = true ∧ 4 ∉ s.boot.stoppedDies ∧ s.dog.lcState ≠ lcDecommissioned ∧ s.dog.identityOk = true ∧
        s.dog.flashUsable = true ∧ (s.dog.scan).choose true = (g, some i)) ∧
    (∃ (s : State) (g : _),
      (s.boot.stage = 1 ∧ s.boot.railHold = false ∧ s.boot.resetting ≠ some .controlComplex ∨ s.boot.stage = 2 ∧ s.boot.resetting = some .warm) ∧
        s.boot.linkUp = true ∧ s.hubRails = true ∧ 4 ∉ s.boot.stoppedDies ∧ s.dog.lcState ≠ lcDecommissioned ∧ s.dog.identityOk = true ∧
        s.dog.flashUsable = true ∧ (s.dog.scan).choose true = (g, none)) ∧
    (∃ s : State,
      (s.boot.stage = 1 ∧ s.boot.railHold = false ∧ s.boot.resetting ≠ some .controlComplex ∨ s.boot.stage = 2 ∧ s.boot.resetting = some .warm) ∧
        s.boot.linkUp = true ∧ s.hubRails = true ∧ 4 ∉ s.boot.stoppedDies ∧ s.dog.lcState = lcDecommissioned) ∧
    (∃ s : State,
      s.boot.stage = 2 ∧ s.boot.resetting = none ∧ s.boot.shepherdRuns = true ∧ s.dog.running ≠ some 2 ∧ s.fieldsPowered = true ∧ s.heldAt2 = false ∧
        s.dog.lcState ≠ lcDecommissioned) ∧
    (∃ s : State,
      s.boot.stage = 2 ∧ s.boot.resetting = none ∧ s.boot.shepherdRuns = true ∧ s.dog.running ≠ some 2 ∧ s.fieldsPowered = true ∧ s.heldAt2 = false ∧
        s.dog.lcState ≠ lcDecommissioned) ∧
    (∃ s : State,
      s.boot.stage = 3 ∧ s.boot.resetting = none ∧ s.boot.shepherdRuns = true ∧ s.dog.lcState ≠ lcReturn ∧ (∀ k ∈ s.np.stackList, k.tstate ≠ 4)) ∧
    (∃ s : State,
      s.boot.stage = 3 ∧ s.boot.resetting = none ∧ s.boot.shepherdRuns = true ∧ s.dog.lcState ≠ lcReturn ∧ (∀ k ∈ s.np.stackList, k.tstate ≠ 4)) ∧
    (∃ s : State,
      s.boot.stage = 4 ∧ s.boot.resetting = none ∧ s.boot.shepherdRuns = true ∧ s.fab.placed = true ∧ s.fab.transitOnly = false ∧
        s.fab.draining = none ∧ s.axesUp = true ∧ (s.time.synced = true ∨ s.isMaster = true) ∧ s.dog.lcState ≠ lcReturn) :=
  ⟨⟨live 1, 0, (live 1).dog.scan, by decide +kernel⟩,
   ⟨dogOf 1 (fun g => { g with factory := [] }), ((dogOf 1 (fun g => { g with factory := [] })).dog.scan.choose true).1, by decide +kernel⟩,
   ⟨dogOf 1 (fun g => { g with lcState := 5 }), by decide +kernel⟩,
   ⟨live 2, by decide +kernel⟩,
   ⟨live 2, by decide +kernel⟩,
   ⟨live 3, by decide +kernel⟩,
   ⟨live 3, by decide +kernel⟩,
   ⟨((ring2 0).modBoot (fun b => { b with stage := 4 })).modTime (fun t => { t with role := 2, synced := true }), by decide +kernel⟩⟩

theorem witness_ShepherdRestartAndHealth :
    (∃ s : State,
      s.boot.resetting = some .controlComplex ∧ s.boot.ccDraining = true ∧ (s.pensIn .running ++ s.pensIn .quiescing).all s.penDrained = true) ∧
    (∃ (i : Nat) (g : Sheepdog) (s : State),
      s.boot.resetting = some .controlComplex ∧ s.boot.shepherdRuns = false ∧ s.boot.ccDraining = false ∧ s.canBoot = true ∧
        s.dog.choose (s.boot.lastCause = 11) = (g, some i)) ∧
    (∃ (g : Sheepdog) (s : State),
      s.boot.resetting = some .controlComplex ∧ s.boot.shepherdRuns = false ∧ s.boot.ccDraining = false ∧ s.canBoot = true ∧
        s.dog.choose (s.boot.lastCause = 11) = (g, none)) ∧
    (∃ s : State, s.dog.fwUnconfirmed = true ∧ s.dog.healthStart.isSome = true ∧ s.dog.confirming = false) ∧
    (∃ s : State, (s.dog.fwUnconfirmed = false ∨ s.dog.healthStart = none ∨ s.dog.confirming = true)) ∧
    (∃ s : State, s.dog.healthStart.isSome = true ∧ s.dog.fwUnconfirmed = false ∧ s.boot.resetting = none ∧ 2 ≤ s.boot.stage ∧ s.noComplex = false) ∧
    (∃ s : State, s.dog.fwUnconfirmed = true ∧ s.dog.healthStart.isSome = true ∧ s.dog.inUse.confirmMode = 1) ∧
    (∃ s : State, s.boot.shepherdRuns = true) :=
  ⟨⟨bootOf 2 (fun b => { b with resetting := some .controlComplex, ccDraining := true }), by decide +kernel⟩,
   ⟨0, (live 2).dog, bootOf 2 (fun b => { b with resetting := some .controlComplex, shepherdRuns := false }), by decide +kernel⟩,
   ⟨((dogOf 2 (fun g => { g with bcb := [], factory := [] })).modBoot (fun b =>
      { b with resetting := some .controlComplex, shepherdRuns := false })).dog,
      (dogOf 2 (fun g => { g with bcb := [], factory := [] })).modBoot (fun b => { b with resetting := some .controlComplex, shepherdRuns := false }),
      by decide +kernel⟩,
   ⟨dogOf 2 (fun g => { g with fwUnconfirmed := true, healthStart := some 0 }), by decide +kernel⟩,
   ⟨live 2, by decide +kernel⟩,
   ⟨dogOf 2 (fun g => { g with healthStart := some 0 }), by decide +kernel⟩,
   ⟨dogOf 5 (fun g => { g with healthStart := some 0, fwUnconfirmed := true }), by decide +kernel⟩,
   ⟨live 2, by decide +kernel⟩⟩

theorem witness_PresenceAndSeal :
    (∃ (rested : Bool) (s : State), 1 ≤ s.boot.stage ∧ s.dog.sealIntact = true ∧ (rested = true ∨ s.dog.presenceStuck = false)) ∧
    (∃ (rested : Bool) (s : State), (s.boot.stage = 0 ∨ s.dog.sealIntact = false ∨ (rested = false ∧ s.dog.presenceStuck = true))) ∧
    (∃ s : State, s.dog.sealMiss < 2) ∧
    (∃ s : State, s.dog.sealMiss = 2) :=
  ⟨⟨true, live 1, by decide +kernel⟩,
   ⟨true, live 0, by decide +kernel⟩,
   ⟨dogOf 1 (fun g => { g with sealMiss := 1 }), by decide +kernel⟩,
   ⟨dogOf 1 (fun g => { g with sealMiss := 2 }), by decide +kernel⟩⟩

theorem witness_FlashEvents :
    ∃ (a : Nat) (rest : List Nat) (s : State), s.dog.erasing = a :: rest ∧ s.busySlots 0x0602 (fun _ => true) = [] :=
  ⟨0, [], dogOf 3 (fun g => { g with erasing := [0] }), by decide +kernel⟩

theorem witness_PowerControl :
    (∃ s : State, s.boot.railHold = false ∧ s.health.power.brake = false) ∧
    (∃ s : State, s.boot.railHold = true) ∧
    (∃ s : State, s.health.power.brake = true) ∧
    (∃ s : State,
      4 ≤ s.boot.stage ∧ s.health.power.brake = false ∧
        (s.health.power.meanAbove 10 (1000 * s.health.power.limit) = true ∨ s.health.power.hot = true)) ∧
    (∃ s : State,
      4 ≤ s.boot.stage ∧ s.health.power.brake = false ∧ s.health.power.meanAbove 10 (1000 * s.health.power.limit) = false ∧
        s.health.power.hot = false) ∧
    (∃ s : State, (s.boot.stage < 4 ∨ s.health.power.brake = true)) :=
  ⟨⟨live 5, by decide +kernel⟩,
   ⟨bootOf 1 (fun b => { b with railHold := true }), by decide +kernel⟩,
   ⟨powerOf 5 (fun p => { p with brake := true }), by decide +kernel⟩,
   ⟨powerOf 4 (fun p => { p with samples := List.replicate 10 1300000 }), by decide +kernel⟩,
   ⟨live 4, by decide +kernel⟩,
   ⟨live 3, by decide +kernel⟩⟩

theorem witness_TallyTicks :
    (∃ s : State, s.snapshotDue = false) ∧
    (∃ (e : B16) (at' : DWord) (i : Nat) (s : State), s.health.snapshot = some (e, at', some i) ∧ s.snapshotDue = true) ∧
    (∃ (inp : Nat) (p : Packet) (s : State),
      s.mgmtPacket 0x2D = some (inp, p) ∧ s.isMaster = false ∧ s.parentPort = some inp ∧
        s.tallyAllowed (BitVec.ofNat 16 (leField p 16 2)) (BitVec.ofNat 64 (leField p 8 8)) = true) ∧
    (∃ (inp : Nat) (p : Packet) (s : State),
      s.mgmtPacket 0x2D = some (inp, p) ∧ s.isMaster = false ∧ s.parentPort = some inp ∧
        s.tallyAllowed (BitVec.ofNat 16 (leField p 16 2)) (BitVec.ofNat 64 (leField p 8 8)) = false) ∧
    (∃ (inp : Nat) (p : Packet) (s : State), s.mgmtPacket 0x2D = some (inp, p) ∧ (s.isMaster = true ∨ s.parentPort ≠ some inp)) :=
  ⟨⟨live 5, by decide +kernel⟩,
   ⟨0, 0, 0, (live 5).modHealth (fun h => { h with snapshot := some (0, 0, some 0) }), by decide +kernel⟩,
   ⟨0, mgmt 0x2D 0 (leBytes 8 2000 ++ [0, 0]), got (ring2 1) [mgmt 0x2D 0 (leBytes 8 2000 ++ [0, 0])], by decide +kernel⟩,
   ⟨0, mgmt 0x2D 0 (leBytes 8 2000 ++ [1, 0]), got (ring2 1) [mgmt 0x2D 0 (leBytes 8 2000 ++ [1, 0])], by decide +kernel⟩,
   ⟨0, mgmt 0x2D 1 (leBytes 8 2000 ++ [0, 0]), got ((ring2 0).modTime (fun t => { t with role := 2 })) [mgmt 0x2D 1 (leBytes 8 2000 ++ [0, 0])],
      by decide +kernel⟩⟩

theorem witness_StackTemperatures :
    (∃ (k : Fin 8) (c : Nat) (s : State),
      (s.boot.hubEn = true ∧ s.hubRails = true ∧ c < 115 ∧ (s.stackAt k).tstate ≠ 4 ∧ s.boot.thermalWait = false) ∧ s.np.Sound) ∧
    (∃ (k : Fin 8) (c : Nat) (s : State),
      (s.boot.hubEn = true ∧ s.hubRails = true ∧ 115 ≤ c ∧ (s.stackAt k).tstate ≠ 4 ∧ 4 ≤ s.boot.stage ∧ s.boot.resetting ≠ some .controlComplex) ∧
        s.np.Sound) ∧
    (∃ (k : Fin 8) (c : Nat) (s : State),
      (s.boot.hubEn = true ∧ s.hubRails = true ∧ 115 ≤ c ∧ (s.stackAt k).tstate ≠ 4 ∧ s.boot.resetting = some .controlComplex ∧ 4 ≤ s.boot.ccStage) ∧
        s.np.Sound) ∧
    (∃ (k : Nat) (s : State), k < 8 ∧ (∀ j < 8, hotState (s.stackAt j).tstate = true ↔ j = k)) ∧
    (∃ (c : _), 85 ≤ c ∧ c < 95) ∧
    (∃ (c : _), 95 ≤ c ∧ c < 105) ∧
    (∃ (c : _), 105 ≤ c ∧ c < 115) ∧
    (∃ (c : _), 115 ≤ c) ∧
    (∃ (c : _), 82 < c ∧ c < 95) ∧
    (∃ (c : _), 92 < c ∧ c < 105) ∧
    (∃ (c : _), 82 < c ∧ c ≤ 92) ∧
    (∃ (c : _), 102 < c ∧ c < 115) :=
  ⟨⟨7, 114, live 4, by decide +kernel, npSound_of (by decide +kernel)⟩,
   ⟨0, 115, live 4, by decide +kernel, npSound_of (by decide +kernel)⟩,
   ⟨0, 115, bootOf 2 (fun b => { b with resetting := some .controlComplex, ccStage := 5 }), by decide +kernel, npSound_of (by decide +kernel)⟩,
   ⟨3, (live 4).modStack 3 (fun k => { k with tstate := 2 }), by decide +kernel⟩,
   ⟨85, by decide +kernel⟩,
   ⟨104, by decide +kernel⟩,
   ⟨105, by decide +kernel⟩,
   ⟨115, by decide +kernel⟩,
   ⟨83, by decide +kernel⟩,
   ⟨104, by decide +kernel⟩,
   ⟨92, by decide +kernel⟩,
   ⟨103, by decide +kernel⟩⟩

theorem witness_TimeSync :
    (∃ (inp : Nat) (p : Packet) (s : State), s.mgmtPacket 0x20 = some (inp, p) ∧ s.isMaster = false ∧ s.parentPort = some inp) ∧
    (∃ (inp : Nat) (p : Packet) (s : State), s.mgmtPacket 0x20 = some (inp, p) ∧ (s.isMaster = true ∨ s.parentPort ≠ some inp)) ∧
    (∃ s : State, s.transitLive = true ∧ s.isMaster = true) :=
  ⟨⟨0, mgmt 0x20 0 (z 12), got (ring2 1) [mgmt 0x20 0 (z 12)], by decide +kernel⟩,
   ⟨0, mgmt 0x20 1 (z 12), got ((ring2 0).modTime (fun t => { t with role := 2 })) [mgmt 0x20 1 (z 12)], by decide +kernel⟩,
   ⟨(ring2 0).modTime (fun t => { t with role := 2 }), by decide +kernel⟩⟩

theorem witness_LinkDelaysAndEpochs :
    (∃ (p : Fin 8) (s : State), (s.port p).lstate = .up) ∧
    (∃ (inp : Nat) (p : Packet) (s : State), s.mgmtPacket 0x21 = some (inp, p)) ∧
    (∃ (inp : Nat) (p : Packet) (s : State), s.mgmtPacket 0x22 = some (inp, p)) ∧
    (∃ s : State, s.time.role = 2) ∧
    (∃ s : State, s.time.role ≠ 2) ∧
    (∃ (x : Nat × Packet) (s : State), s.mgmtPacket 0x23 = some x ∧ s.isMaster = true) :=
  ⟨⟨7, (live 5).modPort 7 (fun _ => portUp), by decide +kernel⟩,
   ⟨0, mgmt 0x21 0 (z 4), got (ring2 1) [mgmt 0x21 0 (z 4)], by decide +kernel⟩,
   ⟨0, mgmt 0x22 0 (z 8), got (ring2 1) [mgmt 0x22 0 (z 8)], by decide +kernel⟩,
   ⟨(ring2 0).modTime (fun t => { t with role := 2 }), by decide +kernel⟩,
   ⟨ring2 1, by decide +kernel⟩,
   ⟨(0, mgmt 0x23 1 (z 4)), got ((ring2 0).modTime (fun t => { t with role := 2 })) [mgmt 0x23 1 (z 4)], by decide +kernel⟩⟩

theorem witness_MailboxControl :
    (∃ (fn : Fin 9) (slot : Fin 4) (irq : Bool) (s : State) (j : _),
      let i := slotIndex fn slot
      let u := s.quiet.modSlot i (fun m => { m with irq := irq, go := true })
      2 ≤ s.boot.stage ∧ (s.slotAt i).state ≠ 1 ∧ u.slotDue = some j ∧ u.precheck (slotFn j) j (u.slotAt j) = none) ∧
    (∃ (fn : Fin 9) (slot : Fin 4) (irq : Bool) (s : State) (st : _),
      let i := slotIndex fn slot
      let u := s.quiet.modSlot i (fun m => { m with irq := irq, go := true })
      (2 ≤ s.boot.stage ∧ (s.slotAt i).state ≠ 1 ∧ u.goServed = true ∧ u.slotDue = some i ∧ u.precheck (slotFn i) i (u.slotAt i) = some st ∧
        (s.slotAt i).discard = false) ∧ s.host.Sound) ∧
    (∃ (fn : Fin 9) (slot : Fin 4) (s : State), 2 ≤ s.boot.stage ∧ (s.slotAt (slotIndex fn slot)).state = 1) ∧
    (∃ s : State, s.boot.stage < 2) ∧
    (∃ (fn : Fin 9) (slot : Fin 4) (s : State), (s.slotAt (slotIndex fn slot)).go = true) ∧
    (∃ (fn : Fin 9) (slot : Fin 4) (s : State), (s.slotAt (slotIndex fn slot)).go = false ∧ s.host.Sound) ∧
    (∃ (fn : Fin 9) (slot : Fin 4) (s : State),
      (s.slotAt (slotIndex fn slot)).state = 1 ∧ leField (s.slotAt (slotIndex fn slot)).taken 0 2 ≠ 0x0904) ∧
    (∃ (fn : Fin 9) (slot : Fin 4) (s : State),
      (s.slotAt (slotIndex fn slot)).state = 1 ∧ leField (s.slotAt (slotIndex fn slot)).taken 0 2 = 0x0904) ∧
    (∃ (fn : Fin 9) (slot : Fin 4) (s : State), (s.slotAt (slotIndex fn slot)).state ≠ 1) :=
  ⟨⟨8, 0, true, asks true (live 2) 0 0x0101 [], 0, by decide +kernel⟩,
   ⟨8, 0, false, asks false (live 2) 11 0x0101 [], stNotPermitted, by decide +kernel, hostSound_of (by decide +kernel)⟩,
   ⟨0, 0, busy (live 2) 0 0x0904 (z 8), by decide +kernel⟩,
   ⟨live 1, by decide +kernel⟩,
   ⟨0, 0, ask (live 2) 0x0101 [], by decide +kernel⟩,
   ⟨0, 0, live 2, by decide +kernel, hostSound_of (by decide +kernel)⟩,
   ⟨0, 0, busy (live 5) 0 0x0902 (z 8), by decide +kernel⟩,
   ⟨0, 0, busy (live 5) 0 0x0904 (z 8), by decide +kernel⟩,
   ⟨0, 0, live 2, by decide +kernel⟩⟩

theorem witness_MailboxAnswer :
    ∃ (i : Nat) (s : State), (i < 12 ∧ (s.slotAt i).discard = false ∧ 8 ≤ (s.slotAt i).taken.length ∧ (s.slotAt i).irq = false) ∧ s.host.Sound :=
  ⟨11, busy (live 5) 11 0x0904 (z 8), by decide +kernel, hostSound_of (by decide +kernel)⟩

theorem witness_HostRegisters :
    (∃ (fn : Fin 9) (off : Nat) (wide : Bool) (s : State), s.boot.linkUp = true ∧ off < bar0Bytes fn ∧ off % (if wide then 8 else 4) ≠ 0) ∧
    (∃ s : State, s.boot.linkUp = true ∧ s.host.Sound) ∧
    (∃ (fn : Fin 9) (lo : Word) (s : State), (s.boot.linkUp = true ∧ (s.fnRegs fn).heldLow = [(0x1010, lo)]) ∧ s.host.Sound) ∧
    (∃ (slot : Fin 4) (k : Nat) (s : State),
      (s.boot.linkUp = true ∧ 2 ≤ s.boot.stage ∧ k % 4 = 0 ∧ k < 4032 ∧ (s.slotAt slot).state ≠ 1) ∧ s.host.Sound) ∧
    (∃ (slot : Fin 4) (k : Nat) (s : State), s.boot.linkUp = true ∧ 2 ≤ s.boot.stage ∧ k % 4 = 0 ∧ k < 4032 ∧ (s.slotAt slot).state = 1) ∧
    (∃ (slot : Fin 4) (k : Nat) (s : State), s.boot.linkUp = true ∧ 2 ≤ s.boot.stage ∧ k % 8 = 0 ∧ k < 4032 ∧ (s.slotAt slot).state = 1) ∧
    (∃ (fn : Fin 9) (off : Nat) (s : State), (s.boot.linkUp = false ∨ bar0Bytes fn ≤ off)) ∧
    (∃ (fn : Fin 9) (bar2 : Bool) (off size : Nat) (s : State), (s.boot.linkUp = false ∨ (if bar2 then bar2Bytes else bar0Bytes fn) < off + size)) ∧
    (∃ (fn : Fin 9) (off : Nat) (s : State), s.boot.linkUp = true ∧ off % 4 = 0 ∧ off + 4 ≤ bar0Bytes fn) ∧
    (∃ (fn : Fin 9) (off : Nat) (s : State), s.boot.linkUp = true ∧ off % 8 = 0 ∧ off + 8 ≤ bar0Bytes fn) ∧
    (∃ (fn : Fin 9) (off size : Nat) (s : State), s.boot.linkUp = true ∧ off + size ≤ bar0Bytes fn ∧ accessOk off size = false) ∧
    (∃ (off size : Nat) (s : State), s.boot.linkUp = true ∧ off + size ≤ bar2Bytes) ∧
    (∃ (s : State) (o : _), s.boot.stage < 2 ∧ o < 0x2000) :=
  ⟨⟨8, 0xFFFC, true, live 2, by decide +kernel⟩,
   ⟨live 2, by decide +kernel, hostSound_of (by decide +kernel)⟩,
   ⟨0, 5, (live 2).modFn 0 (fun f => { f with heldLow := [(0x1010, 5)] }), by decide +kernel, hostSound_of (by decide +kernel)⟩,
   ⟨3, 4028, live 2, by decide +kernel, hostSound_of (by decide +kernel)⟩,
   ⟨0, 0, busy (live 2) 0 0x0904 (z 8), by decide +kernel⟩,
   ⟨0, 0, busy (live 2) 0 0x0101 [], by decide +kernel⟩,
   ⟨8, 0x10000, live 2, by decide +kernel⟩,
   ⟨8, false, 0xFFFC, 8, live 2, by decide +kernel⟩,
   ⟨8, 0xFFFC, live 2, by decide +kernel⟩,
   ⟨0, 0xFFFFF8, live 2, by decide +kernel⟩,
   ⟨8, 0xFFFE, 2, live 2, by decide +kernel⟩,
   ⟨0x3FFFFFC, 4, live 2, by decide +kernel⟩,
   ⟨live 1, 0x1FFF, by decide +kernel⟩⟩

theorem witness_Bar4Accesses :
    (∃ (fn : Fin 9) (off len d : Nat) (s : State),
      s.boot.linkUp = true ∧ off + len ≤ s.bar4Bytes fn ∧ s.windowTarget fn off = some d ∧ (∀ l ∈ linesOf d len, s.npBlocked .host l = false)) ∧
    (∃ (fn : Fin 9) (off len d : Nat) (s : State),
      s.boot.linkUp = true ∧ off + len ≤ s.bar4Bytes fn ∧ s.windowTarget fn off = some d ∧ (∀ l ∈ linesOf d len, s.npBlocked .host l = true) ∧
        len ≠ 0) ∧
    (∃ (fn : Fin 9) (off : Nat) (bytes : List Byte) (d : Nat) (s : State),
      (s.boot.linkUp = true ∧ off + bytes.length ≤ s.bar4Bytes fn ∧ s.windowTarget fn off = some d) ∧ s.np.Sound) ∧
    (∃ s : State, s.boot.linkUp = false) ∧
    (∃ (fn : Fin 9) (off len : Nat) (bytes : List Byte) (s : State), s.bar4Bytes fn < off + len ∧ bytes.length = len) ∧
    (∃ (fn : Fin 9) (off len : Nat) (s : State), s.boot.linkUp = true ∧ off + len ≤ s.bar4Bytes fn ∧ s.windowTarget fn off = none) ∧
    (∃ (fn : Fin 9) (off : Nat) (bytes : List Byte) (s : State),
      s.boot.linkUp = true ∧ off + bytes.length ≤ s.bar4Bytes fn ∧ s.windowTarget fn off = none) :=
  ⟨⟨0, 0, 256, 0, ((holds (pen0 .running) [tensor1]).modFn 0 (fun f => { f with winEnable := true, winBase := 1 })), by decide +kernel⟩,
   ⟨0, 255, 2, 255, ((holds (pen0 .running) [tensor1]).modFn 0 (fun f => { f with winEnable := true, winBase := 1 })).modStack 0 (fun k =>
      { k with trained := false }) |>.modStack 1 (fun k => { k with trained := false }), by decide +kernel⟩,
   ⟨0, 0xFFF, [1], 0xFFF, ((holds (pen0 .running) [tensor1]).modFn 0 (fun f => { f with winEnable := true, winBase := 1 })), by decide +kernel,
      npSound_of (by decide +kernel)⟩,
   ⟨State.reset, by decide +kernel⟩,
   ⟨8, 0x3FFFFFFF, 2, [1, 2], live 5, by decide +kernel⟩,
   ⟨0, 0, 4, live 5, by decide +kernel⟩,
   ⟨0, 0, [1], live 5, by decide +kernel⟩⟩

theorem witness_HostFunctionEvents :
    (∃ (v : Fin 9) (s : State),
      (v.val ≠ 0 ∧ s.boot.linkUp = true) ∧ (∀ p, s.boundPen v = some p → (s.pen p).state.abortable = false) ∧ s.host.Sound) ∧
    (∃ (v : Fin 9) (s : State), (v.val = 0 ∨ s.boot.linkUp = false)) ∧
    (∃ (v : Fin 9) (p : Nat) (s : State), v.val ≠ 0 ∧ s.boot.linkUp = true ∧ s.boundPen v = some p ∧ (s.pen p).state.abortable = true) ∧
    (∃ s : State, s.boot.linkUp = true ∧ (∀ p ∈ s.pens, p.state ≠ .running)) ∧
    (∃ s : State, s.boot.linkUp = true ∧ (∃ p ∈ s.pens, p.state = .running)) ∧
    (∃ (v : DWord) (s : State), s.boot.linkUp = true ∧ v.toNat % 4 = 0) ∧
    (∃ (v : DWord) (s : State), s.boot.linkUp = true ∧ v.toNat % 4 = 3 ∧ (∀ p ∈ s.pens, p.state ≠ .running)) ∧
    (∃ (v : DWord) (s : State), s.boot.linkUp = true ∧ 8 ≤ v.toNat ∧ v.toNat ≤ 19) ∧
    (∃ (r : HostRate) (w : HostWidth) (partner channel : List (HostRate × HostWidth)) (s : State),
      s.boot.linkUp = true ∧ bestMode (commonModes partner channel) = some (r, w)) ∧
    (∃ (m : HostRate × HostWidth) (modes : List (HostRate × HostWidth)), m ∈ modes ∧ m ∈ linkOrder) :=
  ⟨⟨8, live 5, by decide +kernel, none_imp (by decide +kernel), hostSound_of (by decide +kernel)⟩,
   ⟨0, live 5, by decide +kernel⟩,
   ⟨1, 0, ((pen0 .running).modPen 0 (fun p => { p with vf := 1 })), by decide +kernel⟩,
   ⟨live 5, by decide +kernel⟩,
   ⟨pen0 .running, by decide +kernel⟩,
   ⟨0, live 5, by decide +kernel⟩,
   ⟨3, live 5, by decide +kernel⟩,
   ⟨8, live 5, by decide +kernel⟩,
   ⟨.g32, .x16, [(.g64, .x16), (.g32, .x16)], [(.g32, .x16)], live 5, by decide +kernel⟩,
   ⟨(.g64, .x16), [(.g64, .x16)], by decide +kernel⟩⟩

theorem witness_ManagementPort :
    (∃ (bytes : List Byte) (s : State),
      1 ≤ s.boot.stage ∧ 2 ≤ bytes.length ∧ (0x40 < leField bytes 0 2 ∨ leField bytes 0 2 + (bytes.length - 2) ≤ 0x40)) ∧
    (∃ s : State, 1 ≤ s.boot.stage) ∧
    (∃ s : State, 1 ≤ s.boot.stage) ∧
    (∃ s : State, 1 ≤ s.boot.stage ∧ s.host.i3cAddr = none) ∧
    (∃ s : State, 1 ≤ s.boot.stage) ∧
    (∃ (c : Instr) (s : State), 1 ≤ s.boot.stage ∧ c ∈ [.getbcr, .getdcr, .getstatus, .getmwl, .getmrl]) :=
  ⟨⟨[0x3F, 0, 1], live 1, by decide +kernel⟩,
   ⟨live 1, by decide +kernel⟩,
   ⟨live 1, by decide +kernel⟩,
   ⟨live 1, by decide +kernel⟩,
   ⟨live 1, by decide +kernel⟩,
   ⟨.getmrl, live 1, by decide +kernel⟩⟩

theorem witness_Doorbells :
    (∃ (fn : Fin 9) (q : Nat) (v : Word) (x y : Queue) (s : State),
      s.doorbellQueue fn q = some x ∧ v.toNat % 2 ^ 17 ≤ 65536 ∧ v.getLsbD 31 = false ∧ x.add (v.toNat % 2 ^ 17) = some y ∧ x.type ≠ .cpl) ∧
    (∃ (fn : Fin 9) (q : Nat) (v : Word) (x : Queue) (s : State),
      s.doorbellQueue fn q = some x ∧ v.toNat % 2 ^ 17 ≤ 65536 ∧ v.getLsbD 31 = false ∧ x.type = .cpl ∧ x.waitingCpl = [] ∧
        v.toNat % 2 ^ 17 ≤ x.fill) ∧
    (∃ (fn : Fin 9) (q : Nat) (v : Word) (x : Queue) (s : State),
      s.doorbellQueue fn q = some x ∧ v.toNat % 2 ^ 17 ≤ 65536 ∧ x.type ≠ .cpl ∧ x.size < x.fill + v.toNat % 2 ^ 17) ∧
    (∃ (fn : Fin 9) (q : Nat) (v : Word) (x y : Queue) (s : State),
      s.doorbellQueue fn q = some x ∧ v.toNat % 2 ^ 17 ≤ 65536 ∧ v.getLsbD 31 = true ∧ x.add (v.toNat % 2 ^ 17) = some y ∧ x.type ≠ .cpl ∧
        x.halted = true) ∧
    (∃ (fn : Fin 9) (q : Nat) (s : State), s.doorbellQueue fn q = none) :=
  ⟨⟨0, 0, 63, { queueOf .opr with id := 0 }, { queueOf .opr with tail := 64 },
      (pen0 .running).modQe (fun x => { x with queues := [{ queueOf .opr with id := 0 }] }), by decide +kernel⟩,
   ⟨0, 0, 1, { queueOf .opr with type := .cpl }, (pen0 .running).modQe (fun x => { x with queues := [{ queueOf .opr with type := .cpl }] }),
      by decide +kernel⟩,
   ⟨0, 0, 64, { queueOf .opr with id := 0 }, (pen0 .running).modQe (fun x => { x with queues := [{ queueOf .opr with id := 0 }] }),
      by decide +kernel⟩,
   ⟨0, 0, 0x80000000, { queueOf .opr with halted := true }, { queueOf .opr with halted := true },
      (pen0 .running).modQe (fun x => { x with queues := [{ queueOf .opr with halted := true }] }), by decide +kernel⟩,
   ⟨0, 7, live 5, by decide +kernel⟩⟩

theorem witness_ReportingCommands :
    (∃ (fn : Fin 9) (slot : Fin 4) (s : State), s.Waits fn slot 0x0101) ∧
    (∃ (fn : Fin 9) (slot : Fin 4) (p : Nat) (s : State),
      ((s.reqIn fn slot).f 0 1 = p ∧ p < 8 ∧ (fn = 0 ∨ s.boundPen fn = some p) ∧ (s.reqIn fn slot).f 1 1 ≤ 1 ∧ (s.reqIn fn slot).zero 2 8 = true) ∧
        s.Waits fn slot 0x0102) ∧
    (∃ (fn : Fin 9) (slot : Fin 4) (s : State), s.Waits fn slot 0x0103) ∧
    (∃ (fn : Fin 9) (slot : Fin 4) (p : Nat) (s : State),
      ((s.reqIn fn slot).f 0 1 = p ∧ p < 8 ∧ (fn = 0 ∨ s.boundPen fn = some p) ∧ (s.reqIn fn slot).zero 1 8 = true) ∧ s.Waits fn slot 0x0304) ∧
    (∃ (fn : Fin 9) (slot : Fin 4) (s : State), s.Waits fn slot 0x0402) :=
  ⟨⟨0, 0, ask (live 2) 0x0101 ([]), waits_of (by decide +kernel)⟩,
   ⟨0, 0, 7, ask (live 2) 0x0102 ([7, 1] ++ z 6), by decide +kernel, waits_of (by decide +kernel)⟩,
   ⟨0, 0, ask (live 2) 0x0103 ([]), waits_of (by decide +kernel)⟩,
   ⟨0, 0, 7, ask (live 4) 0x0304 ([7] ++ z 7), by decide +kernel, waits_of (by decide +kernel)⟩,
   ⟨0, 0, ask (live 3) 0x0402 ([]), waits_of (by decide +kernel)⟩⟩

theorem witness_PenNotReached :
    (∃ (c : Fin 9 → Fin 4 → Instr) (op : Nat) (fn : Fin 9) (slot : Fin 4) (s : State),
      8 ≤ (s.reqIn fn slot).f 0 1 ∧ (c, op) ∈ [(Instr.devStatus, 0x0102), (.penCreate, 0x0201), (.penDestroy, 0x0202), (.penSetQuota, 0x0203),
        (.penSetPriority, 0x0204), (.penBindVf, 0x0205), (.tensorRegister, 0x0301), (.tensorRelease, 0x0302), (.itineraryLoad, 0x0303), (.poolQuery,
        0x0304), (.baseRegister, 0x0305), (.queueCreate, 0x0403), (.queueDestroy, 0x0404), (.videoStreamOpen, 0x0501), (.videoStreamClose, 0x0502),
        (.videoPoolSet, 0x0503), (.jobQuiesce, 0x0902), (.jobResume, 0x0903), (.checkpointDrain, 0x0904), (.jobAbort, 0x0905)] ∧ s.Waits fn slot op) ∧
    (∃ (c : Fin 9 → Fin 4 → Instr) (op : Nat) (fn : Fin 9) (slot : Fin 4) (s : State),
      ((s.reqIn fn slot).f 0 1 < 8 ∧ fn ≠ 0 ∧ s.boundPen fn ≠ some ((s.reqIn fn slot).f 0 1)) ∧
        (c, op) ∈ [(Instr.devStatus, 0x0102), (.penCreate, 0x0201), (.penDestroy, 0x0202), (.penSetQuota, 0x0203), (.penSetPriority, 0x0204),
        (.penBindVf, 0x0205), (.tensorRegister, 0x0301), (.tensorRelease, 0x0302), (.itineraryLoad, 0x0303), (.poolQuery, 0x0304), (.baseRegister,
        0x0305), (.queueCreate, 0x0403), (.queueDestroy, 0x0404), (.videoStreamOpen, 0x0501), (.videoStreamClose, 0x0502), (.videoPoolSet, 0x0503),
        (.jobQuiesce, 0x0902), (.jobResume, 0x0903), (.checkpointDrain, 0x0904), (.jobAbort, 0x0905)] ∧ s.Waits fn slot op) :=
  ⟨⟨Instr.penCreate, 0x0201, 0, 0, ask (live 5) 0x0201 ([8] ++ z 7), by decide +kernel, by simp, waits_of (by decide +kernel)⟩,
   ⟨Instr.tensorRelease, 0x0302, 1, 0, asks true ((pen0 .running).modPen 0 (fun p => { p with vf := 1 })) 4 0x0302 ([7] ++ z 7), by decide +kernel,
      by simp, waits_of (by decide +kernel)⟩⟩

theorem witness_PenCommands :
    (∃ (fn : Fin 9) (slot : Fin 4) (p : Nat) (s : State),
      ((s.reqIn fn slot).f 0 1 = p ∧ p < 8 ∧ (fn = 0 ∨ s.boundPen fn = some p) ∧ (s.reqIn fn slot).zero 1 8 = true ∧ (s.pen p).state = .empty) ∧
        s.Waits fn slot 0x0201) ∧
    (∃ (fn : Fin 9) (slot : Fin 4) (p : Nat) (s : State),
      ((s.reqIn fn slot).f 0 1 = p ∧ p < 8 ∧ (fn = 0 ∨ s.boundPen fn = some p) ∧ (s.reqIn fn slot).zero 1 8 = true ∧
        ((s.pen p).state = .ready ∨ (s.pen p).state = .faulted)) ∧ s.Waits fn slot 0x0202) ∧
    (∃ (fn : Fin 9) (slot : Fin 4) (p : Nat) (s : State),
      let near := (s.reqIn fn slot).f 8 8
      let far := (s.reqIn fn slot).f 16 8
      ((s.reqIn fn slot).f 0 1 = p ∧ p < 8 ∧ (fn = 0 ∨ s.boundPen fn = some p) ∧ (s.reqIn fn slot).zero 1 8 = true ∧ (s.pen p).state.live = true ∧
        near % pageBytes = 0 ∧ far % 4096 = 0 ∧ s.quotaFits p near far = true ∧ (s.pen p).fixedUse ≤ near ∧ (s.pen p).farUse ≤ far) ∧
        s.Waits fn slot 0x0203) ∧
    (∃ (fn : Fin 9) (slot : Fin 4) (p : Nat) (s : State),
      ((s.reqIn fn slot).f 0 1 = p ∧ p < 8 ∧ (fn = 0 ∨ s.boundPen fn = some p) ∧ (s.reqIn fn slot).f 1 1 ≤ 1 ∧ (s.reqIn fn slot).zero 2 8 = true ∧
        (s.pen p).state = .ready) ∧ s.Waits fn slot 0x0204) ∧
    (∃ (fn : Fin 9) (slot : Fin 4) (p : Nat) (s : State),
      ((s.reqIn fn slot).f 0 1 = p ∧ p < 8 ∧ (fn = 0 ∨ s.boundPen fn = some p) ∧ (s.reqIn fn slot).f 1 1 ≤ 8 ∧ (s.reqIn fn slot).zero 2 8 = true ∧
        (s.pen p).state = .ready ∧ (∀ k < 8, k ≠ p → (s.pen k).vf = (s.reqIn fn slot).f 1 1 → (s.reqIn fn slot).f 1 1 = 0 ∨ (s.pen k).state =
        .empty)) ∧ s.Waits fn slot 0x0205) :=
  ⟨⟨0, 0, 7, ask (live 5) 0x0201 ([7] ++ z 7), by decide +kernel, waits_of (by decide +kernel)⟩,
   ⟨0, 0, 0, ask (pen0 .ready) 0x0202 (z 8), by decide +kernel, waits_of (by decide +kernel)⟩,
   ⟨0, 0, 0, ask (pen0 .ready) 0x0203 (z 8 ++ leBytes 8 0x200000 ++ z 8), by decide +kernel, waits_of (by decide +kernel)⟩,
   ⟨0, 0, 0, ask (pen0 .ready) 0x0204 ([0, 1] ++ z 6), by decide +kernel, waits_of (by decide +kernel)⟩,
   ⟨0, 0, 0, ask (pen0 .ready) 0x0205 ([0, 8] ++ z 6), by decide +kernel, waits_of (by decide +kernel)⟩⟩

theorem witness_TensorCommands :
    (∃ (fn : Fin 9) (slot : Fin 4) (p : Nat) (s : State),
      let flags := (s.reqIn fn slot).f 2 2
      let source := (s.reqIn fn slot).f 8 4
      let encode := flags.testBit 2
      let e := ((s.reqIn fn slot).pay.drop 16).take 64
      let sh := if flags.testBit 1 then ((s.reqIn fn slot).pay.drop 80).take 64 else []
      let t0 := parseTensor e sh
      let x := (s.pen p).place t0
      let t : Tensor :=
        { t0.freshTables with penAddr := x.1, accounted := t0.accountedSize, encodeFrom := if encode then some (BitVec.ofNat 32 source) else none, lastUse := BitVec.ofNat 32 (s.time.now.toNat / 1024) }
      let u := (s.taken fn slot).addTensor p x t
      ((s.reqIn fn slot).f 0 1 = p ∧ p < 8 ∧ (fn = 0 ∨ s.boundPen fn = some p) ∧ (s.pen p).state.live = true ∧ (s.reqIn fn slot).f 12 4 = 0 ∧
        (s.reqIn fn slot).f 1 1 = 0 ∧ (s.reqIn fn slot).f 4 4 = 0 ∧ flags < 8 ∧ t0.shard.isSome = flags.testBit 1 ∧ t0.hostLoaded = flags.testBit 0 ∧
        s.entryOk p e sh t0 = true ∧ (encode = false → source = 0) ∧ (encode = true → t0.comp = 2 ∧ t0.hostLoaded = false ∧
        s.encodeSourceOk p source t0 = true) ∧ s.tensor? t0.handle.toNat = none ∧ x.2.2 < 2 ^ 48 ∧ (u.pen p).fixedUse ≤ (s.pen p).nearMin ∧
        t0.hostLoaded = false) ∧ s.Waits fn slot 0x0301) ∧
    (∃ (fn : Fin 9) (slot : Fin 4) (p : Nat) (s : State),
      let flags := (s.reqIn fn slot).f 2 2
      let source := (s.reqIn fn slot).f 8 4
      let encode := flags.testBit 2
      let e := ((s.reqIn fn slot).pay.drop 16).take 64
      let sh := if flags.testBit 1 then ((s.reqIn fn slot).pay.drop 80).take 64 else []
      let t0 := parseTensor e sh
      let x := (s.pen p).place t0
      let t : Tensor :=
        { t0.freshTables with penAddr := x.1, accounted := t0.accountedSize, encodeFrom := if encode then some (BitVec.ofNat 32 source) else none, lastUse := BitVec.ofNat 32 (s.time.now.toNat / 1024) }
      let u := (s.taken fn slot).addTensor p x t
      ((s.reqIn fn slot).f 0 1 = p ∧ p < 8 ∧ (fn = 0 ∨ s.boundPen fn = some p) ∧ (s.pen p).state.live = true ∧ (s.reqIn fn slot).f 12 4 = 0 ∧
        (s.reqIn fn slot).f 1 1 = 0 ∧ (s.reqIn fn slot).f 4 4 = 0 ∧ flags < 8 ∧ t0.shard.isSome = flags.testBit 1 ∧ t0.hostLoaded = flags.testBit 0 ∧
        s.entryOk p e sh t0 = true ∧ (encode = false → source = 0) ∧ (encode = true → t0.comp = 2 ∧ t0.hostLoaded = false ∧
        s.encodeSourceOk p source t0 = true) ∧ s.tensor? t0.handle.toNat = none ∧ x.2.2 < 2 ^ 48 ∧ (u.pen p).fixedUse ≤ (s.pen p).nearMin ∧
        t0.hostLoaded = true ∧ (u.allocate p t false s.time.clock).2 = true) ∧ s.Waits fn slot 0x0301) ∧
    (∃ (fn : Fin 9) (slot : Fin 4) (p : Nat) (s : State),
      let flags := (s.reqIn fn slot).f 2 2
      let source := (s.reqIn fn slot).f 8 4
      let encode := flags.testBit 2
      let e := ((s.reqIn fn slot).pay.drop 16).take 64
      let sh := if flags.testBit 1 then ((s.reqIn fn slot).pay.drop 80).take 64 else []
      let t0 := parseTensor e sh
      let x := (s.pen p).place t0
      let t : Tensor :=
        { t0.freshTables with penAddr := x.1, accounted := t0.accountedSize, encodeFrom := if encode then some (BitVec.ofNat 32 source) else none, lastUse := BitVec.ofNat 32 (s.time.now.toNat / 1024) }
      let u := (s.taken fn slot).addTensor p x t
      ((s.reqIn fn slot).f 0 1 = p ∧ p < 8 ∧ (fn = 0 ∨ s.boundPen fn = some p) ∧ (s.pen p).state.live = true ∧ (s.reqIn fn slot).f 12 4 = 0 ∧
        (s.reqIn fn slot).f 1 1 = 0 ∧ (s.reqIn fn slot).f 4 4 = 0 ∧ flags < 8 ∧ t0.shard.isSome = flags.testBit 1 ∧ t0.hostLoaded = flags.testBit 0 ∧
        s.entryOk p e sh t0 = true ∧ (encode = false → source = 0) ∧ (encode = true → t0.comp = 2 ∧ t0.hostLoaded = false ∧
        s.encodeSourceOk p source t0 = true) ∧ s.tensor? t0.handle.toNat = none ∧ x.2.2 < 2 ^ 48 ∧ (u.pen p).fixedUse ≤ (s.pen p).nearMin ∧
        t0.hostLoaded = true ∧ (u.allocate p t false s.time.clock).2 = false) ∧ s.Waits fn slot 0x0301) ∧
    (∃ (fn : Fin 9) (slot : Fin 4) (p : Nat) (s : State),
      let e := ((s.reqIn fn slot).pay.drop 16).take 64
      let v : View :=
        { number := (s.reqIn fn slot).f 4 4, extents := (List.range 6).map (fun k => leField e (4 * k) 4), strides := (List.range 5).map (fun k => leField e (24 + 4 * k) 4) }
      let u := (s.taken fn slot).modPen p (fun x => { x with views := x.views.filter (fun y => y.number != v.number) ++ [v] })
      ((s.reqIn fn slot).f 0 1 = p ∧ p < 8 ∧ (fn = 0 ∨ s.boundPen fn = some p) ∧ (s.pen p).state.live = true ∧ (s.reqIn fn slot).f 12 4 = 0 ∧
        (s.reqIn fn slot).f 1 1 = 1 ∧ (s.reqIn fn slot).f 2 2 = 0 ∧ (s.reqIn fn slot).f 8 4 = 0 ∧ v.number ≠ 0 ∧ v.number ≤ 65535 ∧
        (∀ b ∈ e.drop 44, b = 0) ∧ (∀ n ∈ v.extents, n ≠ 0 ∧ n < 2 ^ 31) ∧ (u.pen p).fixedUse ≤ (s.pen p).nearMin) ∧ s.Waits fn slot 0x0301) ∧
    (∃ (fn : Fin 9) (slot : Fin 4) (p : Nat) (t : Tensor) (s : State),
      let h := (s.reqIn fn slot).f 8 4
      let n := (s.reqIn fn slot).f 4 4
      let ds := (List.range n).map (fun k => ((s.reqIn fn slot).pay.drop (16 + 256 * k)).take 256)
      let k := (s.pen p).nextRecipe
      let u := ((s.taken fn slot).modTensor h (fun x => { x with recipe := ds, recipeIndex := k })).modPen p (fun x => { x with nextRecipe := k + 1 })
      ((s.reqIn fn slot).f 0 1 = p ∧ p < 8 ∧ (fn = 0 ∨ s.boundPen fn = some p) ∧ (s.pen p).state.live = true ∧ (s.reqIn fn slot).f 12 4 = 0 ∧
        (s.reqIn fn slot).f 1 1 = 2 ∧ (s.reqIn fn slot).f 2 2 = 0 ∧ s.tensor? h = some t ∧ h / 2 ^ 29 = p ∧ t.released = false ∧ 1 ≤ n ∧ n ≤ 8 ∧
        s.recipeOk p h ds = true ∧ t.run = none ∧ (u.pen p).fixedUse ≤ (s.pen p).nearMin ∧ k < 2 ^ 24) ∧ s.Waits fn slot 0x0301) ∧
    (∃ (fn : Fin 9) (slot : Fin 4) (p : Nat) (t : Tensor) (s : State),
      ((s.reqIn fn slot).f 0 1 = p ∧ p < 8 ∧ (fn = 0 ∨ s.boundPen fn = some p) ∧ (s.pen p).state.live = true ∧ (s.reqIn fn slot).zero 1 4 = true ∧
        s.tensor? ((s.reqIn fn slot).f 4 4) = some t ∧ (s.reqIn fn slot).f 4 4 / 2 ^ 29 = p ∧ t.released = false ∧ s.bound p t = false) ∧
        s.Waits fn slot 0x0302) ∧
    (∃ (fn : Fin 9) (slot : Fin 4) (p : Nat) (s : State),
      ((s.reqIn fn slot).f 0 1 = p ∧ p < 8 ∧ (fn = 0 ∨ s.boundPen fn = some p) ∧ (s.pen p).state.live = true ∧ (s.reqIn fn slot).zero 1 4 = true ∧
        (s.reqIn fn slot).f 4 4 = 0xFFFFFFFF) ∧ s.Waits fn slot 0x0303) ∧
    (∃ (fn : Fin 9) (slot : Fin 4) (p : Nat) (t : Tensor) (it : Itinerary) (s : State),
      ((s.reqIn fn slot).f 0 1 = p ∧ p < 8 ∧ (fn = 0 ∨ s.boundPen fn = some p) ∧ (s.pen p).state.live = true ∧ (s.reqIn fn slot).zero 1 4 = true ∧
        s.tensor? ((s.reqIn fn slot).f 4 4) = some t ∧ (s.reqIn fn slot).f 4 4 / 2 ^ 29 = p ∧ t.released = false ∧ t.fmt = 0xC ∧ t.mx = false ∧
        t.comp = 0 ∧ t.hostLoaded = true ∧ t.readable = true ∧ s.servesTensor .drover t = true ∧ s.tensorPoisoned t = false ∧
        (s.taken fn slot).parseItinerary p ((List.range t.storedBytes).map ((s.taken fn slot).nearForm p t)) = some it ∧
        (s.reqIn fn slot).f 4 4 ≠ 0xFFFFFFFF) ∧ s.Waits fn slot 0x0303) ∧
    (∃ (fn : Fin 9) (slot : Fin 4) (p : Nat) (t : Tensor) (s : State),
      ((s.reqIn fn slot).f 0 1 = p ∧ p < 8 ∧ (fn = 0 ∨ s.boundPen fn = some p) ∧ (s.pen p).state.live = true ∧ (s.reqIn fn slot).zero 1 4 = true ∧
        s.tensor? ((s.reqIn fn slot).f 4 4) = some t ∧ (s.reqIn fn slot).f 4 4 / 2 ^ 29 = p ∧ t.released = false ∧ t.fmt = 0xC ∧ t.mx = false ∧
        t.comp = 0 ∧ t.hostLoaded = true ∧ t.readable = true ∧ (s.reqIn fn slot).f 4 4 ≠ 0xFFFFFFFF ∧ s.servesTensor .drover t = false) ∧
        s.Waits fn slot 0x0303) ∧
    (∃ (fn : Fin 9) (slot : Fin 4) (p : Nat) (t : Tensor) (s : State),
      ((s.reqIn fn slot).f 0 1 = p ∧ p < 8 ∧ (fn = 0 ∨ s.boundPen fn = some p) ∧ (s.pen p).state.live = true ∧ (s.reqIn fn slot).zero 1 4 = true ∧
        s.tensor? ((s.reqIn fn slot).f 4 4) = some t ∧ (s.reqIn fn slot).f 4 4 / 2 ^ 29 = p ∧ t.released = false ∧ t.fmt = 0xC ∧ t.mx = false ∧
        t.comp = 0 ∧ t.hostLoaded = true ∧ t.readable = true ∧ (s.reqIn fn slot).f 4 4 ≠ 0xFFFFFFFF ∧ s.servesTensor .drover t = true ∧
        s.tensorPoisoned t = true) ∧ s.Waits fn slot 0x0303) ∧
    (∃ (fn : Fin 9) (slot : Fin 4) (p : Nat) (t : Tensor) (s : State),
      ((s.reqIn fn slot).f 0 1 = p ∧ p < 8 ∧ (fn = 0 ∨ s.boundPen fn = some p) ∧ (s.pen p).state.live = true ∧ (s.reqIn fn slot).f 1 1 ≤ 63 ∧
        (s.reqIn fn slot).f 2 1 = 0 ∧ (s.reqIn fn slot).f 3 1 = 0 ∧ s.busySlots 0x0305 (fun _ => true) = [] ∧
        s.tensor? ((s.reqIn fn slot).f 4 4) = some t ∧ (s.reqIn fn slot).f 4 4 / 2 ^ 29 = p ∧ t.released = false ∧ baseSource t = true ∧
        s.stripeNow ≠ [] ∧ t.readable = true ∧ s.servesTensor .drover t = true ∧ s.tensorPoisoned t = false) ∧ s.Waits fn slot 0x0305 ∧
        (∀ b, s.base? (baseHandle ((s.reqIn fn slot).f 1 1)) = some b → b.lost = true)) ∧
    (∃ (fn : Fin 9) (slot : Fin 4) (p : Nat) (t : Tensor) (s : State),
      ((s.reqIn fn slot).f 0 1 = p ∧ p < 8 ∧ (fn = 0 ∨ s.boundPen fn = some p) ∧ (s.pen p).state.live = true ∧ (s.reqIn fn slot).f 1 1 ≤ 63 ∧
        (s.reqIn fn slot).f 2 1 = 0 ∧ (s.reqIn fn slot).f 3 1 = 0 ∧ s.busySlots 0x0305 (fun _ => true) = [] ∧
        s.tensor? ((s.reqIn fn slot).f 4 4) = some t ∧ (s.reqIn fn slot).f 4 4 / 2 ^ 29 = p ∧ t.released = false ∧ baseSource t = true ∧
        s.stripeNow ≠ [] ∧ t.readable = true ∧ s.servesTensor .drover t = true ∧ s.tensorPoisoned t = true) ∧ s.Waits fn slot 0x0305 ∧
        (∀ b, s.base? (baseHandle ((s.reqIn fn slot).f 1 1)) = some b → b.lost = true)) ∧
    (∃ (fn : Fin 9) (slot : Fin 4) (p : Nat) (t : Tensor) (s : State),
      ((s.reqIn fn slot).f 0 1 = p ∧ p < 8 ∧ (fn = 0 ∨ s.boundPen fn = some p) ∧ (s.pen p).state.live = true ∧ (s.reqIn fn slot).f 1 1 ≤ 63 ∧
        (s.reqIn fn slot).f 2 1 = 0 ∧ (s.reqIn fn slot).f 3 1 = 0 ∧ s.busySlots 0x0305 (fun _ => true) = [] ∧
        s.tensor? ((s.reqIn fn slot).f 4 4) = some t ∧ (s.reqIn fn slot).f 4 4 / 2 ^ 29 = p ∧ t.released = false ∧ baseSource t = true ∧
        s.stripeNow ≠ [] ∧ t.readable = true ∧ s.servesTensor .drover t = false) ∧ s.Waits fn slot 0x0305 ∧
        (∀ b, s.base? (baseHandle ((s.reqIn fn slot).f 1 1)) = some b → b.lost = true)) ∧
    (∃ (fn : Fin 9) (slot : Fin 4) (p : Nat) (t : Tensor) (s : State),
      ((s.reqIn fn slot).f 0 1 = p ∧ p < 8 ∧ (fn = 0 ∨ s.boundPen fn = some p) ∧ (s.pen p).state.live = true ∧ (s.reqIn fn slot).f 1 1 ≤ 63 ∧
        (s.reqIn fn slot).f 2 1 = 0 ∧ (s.reqIn fn slot).f 3 1 = 0 ∧ s.busySlots 0x0305 (fun _ => true) = [] ∧
        s.tensor? ((s.reqIn fn slot).f 4 4) = some t ∧ (s.reqIn fn slot).f 4 4 / 2 ^ 29 = p ∧ t.released = false ∧ baseSource t = true ∧
        s.stripeNow ≠ [] ∧ t.readable = false) ∧ s.Waits fn slot 0x0305 ∧
        (∀ b, s.base? (baseHandle ((s.reqIn fn slot).f 1 1)) = some b → b.lost = true)) ∧
    (∃ (fn : Fin 9) (slot : Fin 4) (p : Nat) (b : Tensor) (s : State),
      ((s.reqIn fn slot).f 0 1 = p ∧ p < 8 ∧ (fn = 0 ∨ s.boundPen fn = some p) ∧ (s.reqIn fn slot).f 1 1 ≤ 63 ∧ (s.reqIn fn slot).f 2 1 = 1 ∧
        (s.reqIn fn slot).f 3 1 = 0 ∧ (s.reqIn fn slot).f 4 4 = 0 ∧ s.busySlots 0x0305 (fun _ => true) = [] ∧
        s.base? (baseHandle ((s.reqIn fn slot).f 1 1)) = some b ∧ s.baseNamed ((s.reqIn fn slot).f 1 1) = false) ∧ s.Waits fn slot 0x0305) :=
  ⟨⟨0, 0, 0, ask (pen0 .ready) 0x0301 (z 16 ++ entryOf 1 1 1 4), by decide +kernel, waits_of (by decide +kernel)⟩,
   ⟨0, 0, 0, ask (pen0 .ready) 0x0301 ([0, 0, 1, 0] ++ z 12 ++ entryOf 1 1 0x21 4), by decide +kernel, waits_of (by decide +kernel)⟩,
   ⟨0, 0, 0, ask ((pen0 .ready).modPen 0 (fun p => { p with nearMin := 2621440, farMax := 0 })) 0x0301 ([0, 0, 1,
      0] ++ z 12 ++ entryOf 1 1 0x21 1048576), by decide +kernel, waits_of (by decide +kernel)⟩,
   ⟨0, 0, 0, ask (pen0 .ready) 0x0301 ([0, 1, 0, 0] ++ leBytes 4 65535 ++ z 8 ++ (List.replicate 11 [1, 0, 0, 0]).flatten ++ z 20), by decide +kernel,
      waits_of (by decide +kernel)⟩,
   ⟨0, 0, 0, tensor1, ask (holds (pen0 .ready) [tensor1]) 0x0301 ([0, 2, 0, 0, 1, 0, 0, 0, 1] ++ z 7 ++ rng), by decide +kernel,
      waits_of (by decide +kernel)⟩,
   ⟨0, 0, 0, tensor1, ask (holds (pen0 .ready) [tensor1]) 0x0302 (z 4 ++ [1, 0, 0, 0]), by decide +kernel, waits_of (by decide +kernel)⟩,
   ⟨0, 0, 0, ask (pen0 .ready) 0x0303 (z 4 ++ leBytes 4 0xFFFFFFFF), by decide +kernel, waits_of (by decide +kernel)⟩,
   ⟨0, 0, 0, nearTensor 1 0xC 0x21 80,
      { lookahead := 1, points := [{ layer := 0, phase := 0, microBatch := 0, needs := [], durationUs := 0 }], bytes := 80 },
      ask ((holds (pen0 .ready) [nearTensor 1 0xC 0x21 80]).modNp (fun n =>
      { n with mem := cellPutAll 0 n.mem 0 ([1, 1, 0, 0, 1, 0, 0, 0] ++ z 8 ++ leBytes 8 64 ++ leBytes 8 80 ++ z 48) })) 0x0303 (z 4 ++ [1, 0, 0, 0]),
      by decide +kernel, waits_of (by decide +kernel)⟩,
   ⟨0, 0, 0, nearTensor 1 0xC 0x21 80, (ask ((holds (pen0 .ready) [nearTensor 1 0xC 0x21 80]).modNp (fun n => { n with poison := [0] })) 0x0303 (z 4
      ++ [1, 0, 0, 0])).modStack 0 (fun k => { k with trained := false }), by decide +kernel, waits_of (by decide +kernel)⟩,
   ⟨0, 0, 0, nearTensor 1 0xC 0x21 80, ask ((holds (pen0 .ready) [nearTensor 1 0xC 0x21 80]).modNp (fun n => { n with poison := [0] })) 0x0303 (z 4 ++
      [1, 0, 0, 0]), by decide +kernel, waits_of (by decide +kernel)⟩,
   ⟨0, 0, 0, tensor1, ask (holds (pen0 .ready) [tensor1]) 0x0305 ([0, 63, 0, 0, 1, 0, 0, 0]), by decide +kernel, waits_of (by decide +kernel),
      none_imp (by decide +kernel)⟩,
   ⟨0, 0, 0, tensor1, (ask (holds (pen0 .ready) [tensor1]) 0x0305 ([0, 63, 0, 0, 1, 0, 0, 0])).modNp (fun n => { n with poison := [0] }),
      by decide +kernel, waits_of (by decide +kernel), none_imp (by decide +kernel)⟩,
   ⟨0, 0, 0, tensor1, (ask (holds (pen0 .ready) [tensor1]) 0x0305 ([0, 63, 0, 0, 1, 0, 0, 0])).modStack 0 (fun k => { k with tstate := 3 }),
      by decide +kernel, waits_of (by decide +kernel), none_imp (by decide +kernel)⟩,
   ⟨0, 0, 0, { tensor1 with res := .none }, ask (holds (pen0 .ready) [{ tensor1 with res := .none }]) 0x0305 ([0, 63, 0, 0, 1, 0, 0, 0]),
      by decide +kernel, waits_of (by decide +kernel), none_imp (by decide +kernel)⟩,
   ⟨0, 0, 0, { tensor1 with handle := 0x1000003F, isBase := true },
      ask ((pen0 .ready).modDrover (fun d => { d with bases := [(63, { tensor1 with handle := 0x1000003F, isBase := true })] })) 0x0305 ([0, 63,
      1] ++ z 5), by decide +kernel, waits_of (by decide +kernel)⟩⟩

theorem witness_FabricCommands :
    (∃ (fn : Fin 9) (slot : Fin 4) (s : State),
      let r := s.reqIn fn slot
      let flags := r.f 8 1
      let x : TopoChange :=
        { coord := BitVec.ofNat 16 (r.f 0 2), extent := BitVec.ofNat 16 (r.f 2 2), bellwether := BitVec.ofNat 16 (r.f 4 2), deputy := BitVec.ofNat 16 (r.f 6 2), placed := flags.testBit 0, slot := some (slotIndex fn slot) }
      (flags ≤ 3 ∧ r.zero 9 16 = true ∧ coordWithin x.extent x.coord = true ∧ coordWithin x.extent x.bellwether = true ∧
        coordWithin x.extent x.deputy = true ∧ extentProduct x.extent ≤ 8192 ∧
        x.deputy = deputyOf x.extent x.bellwether (s.skipped x.coord x.placed (flags.testBit 1)) ∧ s.fab.draining = none ∧
        (flags.testBit 1 = false ∨ s.boot.hubFaulted = false) ∧ x.coord = s.fab.coord ∧ x.extent = s.fab.extent) ∧ s.Waits fn slot 0x0401) ∧
    (∃ (fn : Fin 9) (slot : Fin 4) (s : State),
      let r := s.reqIn fn slot
      let flags := r.f 8 1
      let x : TopoChange :=
        { coord := BitVec.ofNat 16 (r.f 0 2), extent := BitVec.ofNat 16 (r.f 2 2), bellwether := BitVec.ofNat 16 (r.f 4 2), deputy := BitVec.ofNat 16 (r.f 6 2), placed := flags.testBit 0, slot := some (slotIndex fn slot) }
      (flags ≤ 3 ∧ r.zero 9 16 = true ∧ coordWithin x.extent x.coord = true ∧ coordWithin x.extent x.bellwether = true ∧
        coordWithin x.extent x.deputy = true ∧ extentProduct x.extent ≤ 8192 ∧
        x.deputy = deputyOf x.extent x.bellwether (s.skipped x.coord x.placed (flags.testBit 1)) ∧ s.fab.draining = none ∧
        (flags.testBit 1 = false ∨ s.boot.hubFaulted = false) ∧ (x.coord ≠ s.fab.coord ∨ x.extent ≠ s.fab.extent) ∧ s.jobActive = false) ∧
        s.Waits fn slot 0x0401) ∧
    (∃ (fn : Fin 9) (slot : Fin 4) (s : State),
      let r := s.reqIn fn slot
      let flags := r.f 8 1
      let x : TopoChange :=
        { coord := BitVec.ofNat 16 (r.f 0 2), extent := BitVec.ofNat 16 (r.f 2 2), bellwether := BitVec.ofNat 16 (r.f 4 2), deputy := BitVec.ofNat 16 (r.f 6 2), placed := flags.testBit 0, slot := some (slotIndex fn slot) }
      (flags ≤ 3 ∧ r.zero 9 16 = true ∧ coordWithin x.extent x.coord = true ∧ coordWithin x.extent x.bellwether = true ∧
        coordWithin x.extent x.deputy = true ∧ extentProduct x.extent ≤ 8192 ∧
        x.deputy = deputyOf x.extent x.bellwether (s.skipped x.coord x.placed (flags.testBit 1)) ∧ s.fab.draining = none ∧
        (flags.testBit 1 = false ∨ s.boot.hubFaulted = false) ∧ (x.coord ≠ s.fab.coord ∨ x.extent ≠ s.fab.extent) ∧ s.jobActive = true) ∧
        s.Waits fn slot 0x0401) ∧
    (∃ (fn : Fin 9) (slot : Fin 4) (s : State),
      let r := s.reqIn fn slot
      (r.f 0 1 ≤ 1 ∧ r.f 1 1 ≤ 1 ∧ r.zero 2 8 = true ∧ (r.f 1 1 = 1 → r.f 0 1 = 1) ∧ s.isMaster = true) ∧ s.Waits fn slot 0x0405) ∧
    (∃ (fn : Fin 9) (slot : Fin 4) (s : State),
      let r := s.reqIn fn slot
      (r.f 0 1 ≤ 1 ∧ r.f 1 1 ≤ 1 ∧ r.zero 2 8 = true ∧ (r.f 1 1 = 1 → r.f 0 1 = 1) ∧ s.isMaster = false) ∧ s.Waits fn slot 0x0405) :=
  ⟨⟨0, 0, ask (ring2 0) 0x0401 (leBytes 2 0 ++ [1, 0, 0, 0, 1, 0, 1] ++ z 7), by decide +kernel, waits_of (by decide +kernel)⟩,
   ⟨0, 0, ask (live 3) 0x0401 (leBytes 2 0 ++ [1, 0, 0, 0, 1, 0, 1] ++ z 7), by decide +kernel, waits_of (by decide +kernel)⟩,
   ⟨0, 0, ask (pen0 .running) 0x0401 (leBytes 2 0 ++ [1, 0, 0, 0, 1, 0, 1] ++ z 7), by decide +kernel, waits_of (by decide +kernel)⟩,
   ⟨0, 0, ask ((ring2 0).modTime (fun t => { t with role := 2 })) 0x0405 ([1, 1] ++ z 14), by decide +kernel, waits_of (by decide +kernel)⟩,
   ⟨0, 0, ask (live 3) 0x0405 ([0, 0] ++ z 14), by decide +kernel, waits_of (by decide +kernel)⟩⟩

theorem witness_QueueCommands :
    (∃ (fn : Fin 9) (slot : Fin 4) (p n : Nat) (ty : QType) (s : State),
      let r := s.reqIn fn slot
      let q := parseQueue r 0 p ty
      (r.f 0 1 = p ∧ p < 8 ∧ (fn = 0 ∨ s.boundPen fn = some p) ∧ (s.pen p).state.live = true ∧ qtypeOf (r.f 1 1) = some ty ∧ r.f 2 1 ≤ 15 ∧
        r.f 3 1 ≤ 3 ∧ r.zero 22 24 = true ∧ s.queueFieldsOk q = true ∧ n < 2 ^ 20 ∧ (∀ x ∈ s.qe.queues, x.id ≠ n) ∧
        (∀ k < n, ∃ x ∈ s.qe.queues, x.id = k)) ∧ s.Waits fn slot 0x0403) ∧
    (∃ (fn : Fin 9) (slot : Fin 4) (p : Nat) (q : Queue) (s : State),
      let r := s.reqIn fn slot
      (r.f 0 1 = p ∧ p < 8 ∧ (fn = 0 ∨ s.boundPen fn = some p) ∧ (s.pen p).state.live = true ∧ r.zero 1 4 = true ∧ s.queue? (r.f 4 4) = some q ∧
        q.pen = p ∧ q.dying = false ∧ (q.type = .cpl → ∀ x ∈ s.qe.queues, x.id ≠ r.f 4 4 → x.type ≠ .cpl → x.cplQid.toNat ≠ r.f 4 4)) ∧
        s.Waits fn slot 0x0404) :=
  ⟨⟨0, 0, 0, 0, .cpl, ask (pen0 .ready) 0x0403 ([0, 3, 15, 1] ++ leBytes 4 0xFFFFFFFF ++ leBytes 8 0x1000 ++ z 8), by decide +kernel,
      waits_of (by decide +kernel)⟩,
   ⟨0, 0, 0, queueOf .opr, ask (enqueued (pen0 .ready) (queueOf .opr) []) 0x0404 (z 8), by decide +kernel, waits_of (by decide +kernel)⟩⟩

theorem witness_VideoStreamCommands :
    (∃ (fn : Fin 9) (slot : Fin 4) (p n : Nat) (s : State),
      let r := s.reqIn fn slot
      let b := (r.pay.drop 8).take 64
      let c := parseStream b
      (r.f 0 1 = p ∧ p < 8 ∧ (fn = 0 ∨ s.boundPen fn = some p) ∧ (s.pen p).state.live = true ∧ r.zero 1 8 = true ∧ streamFieldsOk b c = true ∧
        s.freeContext c.encode = some n ∧ c.bufferBytes ≤ (s.pen p).pool.elim 0 Prod.snd ∧ c.reserve ≤ s.unreserved p) ∧ s.Waits fn slot 0x0501 ∧
        (∃ q, s.queue? c.queue = some q ∧ q.type = .vid ∧ q.pen = p ∧ q.dying = false)) ∧
    (∃ (fn : Fin 9) (slot : Fin 4) (p : Nat) (x : Stream) (s : State),
      let r := s.reqIn fn slot
      let t := (s.taken fn slot).closeStream (r.f 2 2) (some (slotIndex fn slot))
      (r.f 0 1 = p ∧ p < 8 ∧ (fn = 0 ∨ s.boundPen fn = some p) ∧ (s.pen p).state.live = true ∧ r.f 1 1 = 0 ∧ r.zero 4 8 = true ∧
        s.stream? (r.f 2 2) = some x ∧ x.pen = p ∧ t.stream? (r.f 2 2) = none) ∧ s.Waits fn slot 0x0502) ∧
    (∃ (fn : Fin 9) (slot : Fin 4) (p : Nat) (x : Stream) (s : State),
      let r := s.reqIn fn slot
      let t := (s.taken fn slot).closeStream (r.f 2 2) (some (slotIndex fn slot))
      (r.f 0 1 = p ∧ p < 8 ∧ (fn = 0 ∨ s.boundPen fn = some p) ∧ (s.pen p).state.live = true ∧ r.f 1 1 = 0 ∧ r.zero 4 8 = true ∧
        s.stream? (r.f 2 2) = some x ∧ x.pen = p ∧ t.stream? (r.f 2 2) ≠ none) ∧ s.Waits fn slot 0x0502) ∧
    (∃ (fn : Fin 9) (slot : Fin 4) (p : Nat) (s : State),
      let r := s.reqIn fn slot
      let u := (s.taken fn slot).modPen p (fun x => { x with pool := if r.f 4 4 = 0 then none else some (r.f 4 4, r.f 8 8) })
      (r.f 0 1 = p ∧ p < 8 ∧ (fn = 0 ∨ s.boundPen fn = some p) ∧ (s.pen p).state.live = true ∧ r.zero 1 4 = true ∧ r.f 4 4 ≤ 4096 ∧
        r.f 8 8 % pageBytes = 0 ∧ (∀ x ∈ s.video.streams, x.pen ≠ p) ∧ (u.pen p).fixedUse ≤ (s.pen p).nearMin) ∧ s.Waits fn slot 0x0503) ∧
    (∃ (fn : Fin 9) (slot : Fin 4) (p : Nat) (s : State),
      let r := s.reqIn fn slot
      let u := (s.taken fn slot).modPen p (fun x => { x with pool := if r.f 4 4 = 0 then none else some (r.f 4 4, r.f 8 8) })
      (r.f 0 1 = p ∧ p < 8 ∧ (fn = 0 ∨ s.boundPen fn = some p) ∧ (s.pen p).state.live = true ∧ r.zero 1 4 = true ∧ r.f 4 4 ≤ 4096 ∧
        r.f 8 8 % pageBytes = 0 ∧ (∀ x ∈ s.video.streams, x.pen ≠ p) ∧ (s.pen p).nearMin < (u.pen p).fixedUse) ∧ s.Waits fn slot 0x0503) :=
  ⟨⟨0, 0, 0, 0, ask (((enqueued (pen0 .ready) (queueOf .vid) []).modPen 0 (fun p => { p with pool := some (17, 0x200000) }))) 0x0501 (z 8 ++
      streamBytes), by decide +kernel, waits_of (by decide +kernel), ⟨queueOf .vid, by decide +kernel⟩⟩,
   ⟨0, 0, 0, stream0, ask (((pen0 .ready).modVideo (fun v => { v with streams := [stream0] }))) 0x0502 (z 8), by decide +kernel,
      waits_of (by decide +kernel)⟩,
   ⟨0, 0, 0, stream0, ask (((pen0 .ready).modVideo (fun v =>
      { v with streams := [stream0], cores := v.cores.set 0 { busy := some (0, workOf), inReset := false, resetQueued := false } }))) 0x0502 (z 8),
      by decide +kernel, waits_of (by decide +kernel)⟩,
   ⟨0, 0, 0, ask (pen0 .ready) 0x0503 (z 4 ++ leBytes 4 4096 ++ z 8), by decide +kernel, waits_of (by decide +kernel)⟩,
   ⟨0, 0, 0, ask (pen0 .ready) 0x0503 (z 4 ++ leBytes 4 1 ++ leBytes 8 (2 ^ 31)), by decide +kernel, waits_of (by decide +kernel)⟩⟩

theorem witness_HealthCommands :
    (∃ (fn : Fin 9) (slot : Fin 4) (b : FaultBank) (s : State),
      let r := s.reqIn fn slot
      (1 ≤ r.f 2 1 ∧ r.f 2 1 ≤ 32 ∧ r.zero 3 8 = true ∧ s.health.banks[r.f 0 1]? = some b) ∧ s.Waits fn slot 0x0801) ∧
    (∃ (fn : Fin 9) (slot : Fin 4) (b : FaultBank) (s : State),
      let r := s.reqIn fn slot
      (r.zero 3 8 = true ∧ s.health.banks[r.f 0 1]? = some b ∧ r.f 1 1 = 0 ∧ r.f 2 1 < b.records.length) ∧ s.Waits fn slot 0x0802) ∧
    (∃ (fn : Fin 9) (slot : Fin 4) (b : FaultBank) (s : State),
      let r := s.reqIn fn slot
      (r.zero 3 8 = true ∧ s.health.banks[r.f 0 1]? = some b ∧ r.f 1 1 = 1) ∧ s.Waits fn slot 0x0802) ∧
    (∃ (fn : Fin 9) (slot : Fin 4) (s : State),
      let r := s.reqIn fn slot
      (r.zero 3 8 = true ∧ r.f 1 1 = 2 ∧ r.f 2 1 ≤ 135 ∧ (s.fold (r.f 2 1)).state = .retired) ∧ s.Waits fn slot 0x0802) ∧
    (∃ (fn : Fin 9) (slot : Fin 4) (s : State),
      let r := s.reqIn fn slot
      (s.health.snapshot = none ∧ r.f 1 1 = 0 ∧ r.zero 4 8 = true ∧ r.f 0 1 = 0) ∧ s.Waits fn slot 0x0803) ∧
    (∃ (fn : Fin 9) (slot : Fin 4) (s : State),
      let r := s.reqIn fn slot
      (s.health.snapshot = none ∧ r.f 1 1 = 0 ∧ r.zero 4 8 = true ∧ r.f 0 1 = 1 ∧ r.f 2 2 = s.time.epoch.toNat ∧
        r.f 8 8 ≤ s.time.now.toNat + 1000000000 ∧ s.time.now.toNat < r.f 8 8 ∧ s.isBellwether = false) ∧ s.Waits fn slot 0x0803) ∧
    (∃ (fn : Fin 9) (slot : Fin 4) (s : State),
      let r := s.reqIn fn slot
      (1 ≤ r.f 2 2 ∧ r.f 2 2 ≤ 500 ∧ r.zero 4 8 = true ∧ r.f 0 2 < 58) ∧ s.Waits fn slot 0x0804) ∧
    (∃ (fn : Fin 9) (slot : Fin 4) (s : State),
      let r := s.reqIn fn slot
      (r.zero 4 8 = true ∧ 600 ≤ r.f 0 4 ∧ r.f 0 4 ≤ 1200) ∧ s.Waits fn slot 0x0805) ∧
    (∃ (fn : Fin 9) (slot : Fin 4) (s : State),
      let r := s.reqIn fn slot
      (r.zero 4 8 = true ∧ (r.f 0 4 < 600 ∨ 1200 < r.f 0 4)) ∧ s.Waits fn slot 0x0805) :=
  ⟨⟨0, 0, (live 3).health.banks.getD 15 { records := [], lost := 0 }, ask (live 3) 0x0801 ([15, 0, 32] ++ z 5), by decide +kernel,
      waits_of (by decide +kernel)⟩,
   ⟨0, 0, (live 3).health.banks.getD 0 { records := [], lost := 0 }, ask (live 3) 0x0802 (z 8), by decide +kernel, waits_of (by decide +kernel)⟩,
   ⟨0, 0, (live 3).health.banks.getD 0 { records := [], lost := 0 }, ask (live 3) 0x0802 ([0, 1] ++ z 6), by decide +kernel,
      waits_of (by decide +kernel)⟩,
   ⟨0, 0, ask ((live 3).modFold 135 (fun f => { f with state := .retired })) 0x0802 ([0, 2, 135] ++ z 5), by decide +kernel,
      waits_of (by decide +kernel)⟩,
   ⟨0, 0, ask (live 3) 0x0803 (z 16), by decide +kernel, waits_of (by decide +kernel)⟩,
   ⟨0, 0, ask (live 3) 0x0803 ([1] ++ z 7 ++ leBytes 8 1000000000), by decide +kernel, waits_of (by decide +kernel)⟩,
   ⟨0, 0, ask (live 3) 0x0804 (leBytes 2 57 ++ leBytes 2 500 ++ z 4), by decide +kernel, waits_of (by decide +kernel)⟩,
   ⟨0, 0, ask (live 3) 0x0805 (leBytes 4 600 ++ z 4), by decide +kernel, waits_of (by decide +kernel)⟩,
   ⟨0, 0, ask (live 3) 0x0805 (leBytes 4 1201 ++ z 4), by decide +kernel, waits_of (by decide +kernel)⟩⟩

theorem witness_JobCommands :
    (∃ (fn : Fin 9) (slot : Fin 4) (p : Nat) (s : State),
      let r := s.reqIn fn slot
      let b := (r.pay.drop 8).take 64
      let x := parsePlacement b
      (s.dog.session = none ∧ r.f 0 1 = p ∧ p < 8 ∧ (fn = 0 ∨ s.boundPen fn = some p) ∧ (s.pen p).state = .ready ∧ r.zero 1 8 = true ∧
        s.placementOk b x = true ∧ x.generation = s.generation x.jobKey ∧ x.lextent = 0) ∧ s.Waits fn slot 0x0901) ∧
    (∃ (fn : Fin 9) (slot : Fin 4) (p : Nat) (s : State),
      let r := s.reqIn fn slot
      let b := (r.pay.drop 8).take 64
      let x := parsePlacement b
      (s.dog.session = none ∧ r.f 0 1 = p ∧ p < 8 ∧ (fn = 0 ∨ s.boundPen fn = some p) ∧ (s.pen p).state = .ready ∧ r.zero 1 8 = true ∧
        s.placementOk b x = true ∧ x.generation = s.generation x.jobKey ∧ x.lextent ≠ 0 ∧ (s.pen p).grazing = false ∧ s.boot.stage ≠ 4) ∧
        s.Waits fn slot 0x0901) ∧
    (∃ (fn : Fin 9) (slot : Fin 4) (p : Nat) (s : State),
      let r := s.reqIn fn slot
      (r.f 0 1 = p ∧ p < 8 ∧ (fn = 0 ∨ s.boundPen fn = some p) ∧ r.zero 1 8 = true ∧ (s.pen p).state = .running) ∧ s.Waits fn slot 0x0902) ∧
    (∃ (fn : Fin 9) (slot : Fin 4) (p : Nat) (s : State),
      let r := s.reqIn fn slot
      (r.f 0 1 = p ∧ p < 8 ∧ (fn = 0 ∨ s.boundPen fn = some p) ∧ r.zero 1 8 = true ∧ (s.pen p).state = .quiesced) ∧ s.Waits fn slot 0x0903) ∧
    (∃ (fn : Fin 9) (slot : Fin 4) (p : Nat) (s : State),
      let r := s.reqIn fn slot
      (r.f 0 1 = p ∧ p < 8 ∧ (fn = 0 ∨ s.boundPen fn = some p) ∧ r.zero 1 8 = true ∧ (s.pen p).state.abortable = true) ∧ s.Waits fn slot 0x0905) ∧
    (∃ (fn : Fin 9) (slot : Fin 4) (p : Nat) (s : State) (i : _),
      let r := s.reqIn fn slot
      let hs := drainHandles r.pay
      let s1 := (s.taken fn slot).modPen p (fun x => { x with tensors := x.tensors.map (fun y => { y with held := false }) })
      let t := (s1.forAll hs (fun u h => u.bringNear p h)).flushPen p
      let stuck (h : Nat) : Bool := (t.tensor? h).any Tensor.allocWait
      (r.f 0 1 = p ∧ p < 8 ∧ (fn = 0 ∨ s.boundPen fn = some p) ∧ r.f 1 1 = 0 ∧ 1 ≤ r.f 2 2 ∧ r.f 2 2 ≤ 1000 ∧ r.zero 4 8 = true ∧
        (s.pen p).state = .quiesced ∧ (∀ h ∈ hs, h / 2 ^ 29 = p ∧ s.live? h = true) ∧ hs.findIdx? stuck = some i) ∧ s.Waits fn slot 0x0904) ∧
    (∃ (fn : Fin 9) (slot : Fin 4) (p : Nat) (s : State),
      let r := s.reqIn fn slot
      let hs := drainHandles r.pay
      let s1 := (s.taken fn slot).modPen p (fun x => { x with tensors := x.tensors.map (fun y => { y with held := false }) })
      let t := (s1.forAll hs (fun u h => u.bringNear p h)).flushPen p
      let stuck (h : Nat) : Bool := (t.tensor? h).any Tensor.allocWait
      (r.f 0 1 = p ∧ p < 8 ∧ (fn = 0 ∨ s.boundPen fn = some p) ∧ r.f 1 1 = 0 ∧ 1 ≤ r.f 2 2 ∧ r.f 2 2 ≤ 1000 ∧ r.zero 4 8 = true ∧
        (s.pen p).state = .quiesced ∧ (∀ h ∈ hs, h / 2 ^ 29 = p ∧ s.live? h = true) ∧ (∀ h ∈ hs, stuck h = false) ∧ (t.firstFar hs).isNone = true) ∧
        s.Waits fn slot 0x0904) ∧
    (∃ (fn : Fin 9) (slot : Fin 4) (p : Nat) (s : State),
      let r := s.reqIn fn slot
      let hs := drainHandles r.pay
      let s1 := (s.taken fn slot).modPen p (fun x => { x with tensors := x.tensors.map (fun y => { y with held := false }) })
      let t := (s1.forAll hs (fun u h => u.bringNear p h)).flushPen p
      let stuck (h : Nat) : Bool := (t.tensor? h).any Tensor.allocWait
      (r.f 0 1 = p ∧ p < 8 ∧ (fn = 0 ∨ s.boundPen fn = some p) ∧ r.f 1 1 = 0 ∧ 1 ≤ r.f 2 2 ∧ r.f 2 2 ≤ 1000 ∧ r.zero 4 8 = true ∧
        (s.pen p).state = .quiesced ∧ (∀ h ∈ hs, h / 2 ^ 29 = p ∧ s.live? h = true) ∧ (∀ h ∈ hs, stuck h = false) ∧ (t.firstFar hs).isSome = true) ∧
        s.Waits fn slot 0x0904) :=
  ⟨⟨0, 0, 0, ask (pen0 .ready) 0x0901 (z 8 ++ [1, 0, 0x24, 0x09] ++ z 60), by decide +kernel, waits_of (by decide +kernel)⟩,
   ⟨0, 0, 0, ask ((ring2 0).modPen 0 (fun p => { p with state := .ready })) 0x0901 (z 8 ++ [1, 0, 0x20, 0x09, 1] ++ z 59), by decide +kernel,
      waits_of (by decide +kernel)⟩,
   ⟨0, 0, 0, ask (pen0 .running) 0x0902 (z 8), by decide +kernel, waits_of (by decide +kernel)⟩,
   ⟨0, 0, 0, ask (pen0 .quiesced) 0x0903 (z 8), by decide +kernel, waits_of (by decide +kernel)⟩,
   ⟨0, 0, 0, ask (pen0 .faulted) 0x0905 (z 8), by decide +kernel, waits_of (by decide +kernel)⟩,
   ⟨0, 0, 0, ask ((holds (pen0 .quiesced)
      [{ tensorNone with res := .far, far := some { stripe := [0], bytes := 16, place := [0], exact := false } }]).modPen 0 (fun p =>
      { p with nearMin := 0, farMax := 0 })) 0x0904 ([0, 0, 1, 0] ++ z 4 ++ [1, 0, 0, 0]), 0, by decide +kernel, waits_of (by decide +kernel)⟩,
   ⟨0, 0, 0, ask (holds (pen0 .quiesced) [tensor1]) 0x0904 ([0, 0, 1, 0] ++ z 4 ++ [1, 0, 0, 0]), by decide +kernel, waits_of (by decide +kernel)⟩,
   ⟨0, 0, 0, ask (holds (pen0 .quiesced) [{ farTensor with fetch := none }]) 0x0904 ([0, 0, 1, 0] ++ z 4 ++ [1, 0, 0, 0]), by decide +kernel,
      waits_of (by decide +kernel)⟩⟩

theorem witness_FirmwareUpdate :
    (∃ (fn : Fin 9) (slot : Fin 4) (s : State),
      let r := s.reqIn fn slot
      let t := (s.taken fn slot).sampleHoldup true
      let b := (t.dog.settled.bcbNow).getD .none'
      (t.dog.session = none ∧ b.states.contains .unconfirmed = false ∧ ((t.dog.settled.identNow).getD .none').ownerLock = false ∧
        s.jobActive = false ∧ r.f 0 4 ≠ 0 ∧ r.f 0 4 ≤ (if t.dog.dualSlot then 48 * mib else 24 * mib) ∧ r.f 8 1 ≤ 1 ∧ r.zero 9 16 = true ∧
        t.dog.floor ≤ r.f 4 4 / 2 ^ 24 ∧ (r.f 4 4 < t.fwVersion → r.f 8 1 = 1 ∧ t.windowOpen = true)) ∧ s.Waits fn slot 0x0601) ∧
    (∃ (fn : Fin 9) (slot : Fin 4) (x : Session) (s : State),
      let r := s.reqIn fn slot
      let t := (s.taken fn slot).sampleHoldup true
      let data := r.pay.drop 16
      (t.dog.session = some x ∧ x.number.toNat = r.f 0 4 ∧ r.zero 10 16 = true ∧ r.f 4 4 = x.accepted ∧ data ≠ [] ∧
        data.length = min 2048 (x.imageBytes - x.accepted) ∧ (∀ a ∈ t.dog.blockSectors x, a ∉ t.dog.erasing)) ∧ s.Waits fn slot 0x0602) ∧
    (∃ (fn : Fin 9) (slot : Fin 4) (x : Session) (s : State),
      let r := s.reqIn fn slot
      let t := (s.taken fn slot).sampleHoldup true
      let data := r.pay.drop 16
      (t.dog.session = some x ∧ x.number.toNat = r.f 0 4 ∧ r.zero 10 16 = true ∧ r.f 4 4 = x.accepted ∧ data ≠ [] ∧
        data.length = min 2048 (x.imageBytes - x.accepted) ∧ (∃ a ∈ t.dog.blockSectors x, a ∈ t.dog.erasing)) ∧ s.Waits fn slot 0x0602) ∧
    (∃ (fn : Fin 9) (slot : Fin 4) (x : Session) (s : State),
      let r := s.reqIn fn slot
      let t := (s.taken fn slot).sampleHoldup true
      let data := r.pay.drop 16
      (t.dog.session = some x ∧ x.number.toNat = r.f 0 4 ∧ r.zero 10 16 = true ∧ r.f 4 4 ≠ x.accepted ∧ r.f 4 4 = x.lastOffset ∧ x.lastData ≠ [] ∧
        data = x.lastData) ∧ s.Waits fn slot 0x0602) ∧
    (∃ (fn : Fin 9) (slot : Fin 4) (x : Session) (s : State),
      let r := s.reqIn fn slot
      let t := (s.taken fn slot).sampleHoldup true
      let data := r.pay.drop 16
      (t.dog.session = some x ∧ x.number.toNat = r.f 0 4 ∧ r.zero 10 16 = true ∧ r.f 4 4 ≠ x.accepted ∧
        (r.f 4 4 ≠ x.lastOffset ∨ data ≠ x.lastData)) ∧ s.Waits fn slot 0x0602) ∧
    (∃ (fn : Fin 9) (slot : Fin 4) (x : Session) (s : State),
      let r := s.reqIn fn slot
      let t := (s.taken fn slot).sampleHoldup true
      (r.zero 5 8 = true ∧ t.dog.session = some x ∧ x.number.toNat = r.f 0 4 ∧ x.imageBytes ≤ x.accepted ∧ s.jobActive = false ∧
        t.dog.verified x.target = true ∧ t.dog.imageVersion x.target = x.version ∧ r.f 4 1 = 0) ∧ s.Waits fn slot 0x0603) ∧
    (∃ (fn : Fin 9) (slot : Fin 4) (x : Session) (s : State),
      let r := s.reqIn fn slot
      let t := (s.taken fn slot).sampleHoldup true
      (r.zero 5 8 = true ∧ t.dog.session = some x ∧ x.number.toNat = r.f 0 4 ∧ x.imageBytes ≤ x.accepted ∧ s.jobActive = false ∧
        t.dog.verified x.target = true ∧ t.dog.imageVersion x.target = x.version ∧ r.f 4 1 = 1) ∧ s.Waits fn slot 0x0603) ∧
    (∃ (fn : Fin 9) (slot : Fin 4) (x : Session) (s : State),
      let r := s.reqIn fn slot
      let t := (s.taken fn slot).sampleHoldup true
      (r.zero 5 8 = true ∧ t.dog.session = some x ∧ x.number.toNat = r.f 0 4 ∧ x.imageBytes ≤ x.accepted ∧ s.jobActive = false ∧
        (t.dog.verified x.target = false ∨ t.dog.imageVersion x.target ≠ x.version) ∧ r.f 4 1 ≤ 1) ∧ s.Waits fn slot 0x0603) ∧
    (∃ (fn : Fin 9) (slot : Fin 4) (s : State), s.dog.fwUnconfirmed = true ∧ s.Waits fn slot 0x0604) ∧
    (∃ (fn : Fin 9) (slot : Fin 4) (s : State), s.dog.fwUnconfirmed = false ∧ s.Waits fn slot 0x0604) ∧
    (∃ (fn : Fin 9) (slot : Fin 4) (x : Session) (s : State),
      ((s.reqIn fn slot).zero 4 8 = true ∧ s.dog.session = some x ∧ x.number.toNat = (s.reqIn fn slot).f 0 4) ∧ s.Waits fn slot 0x0605) ∧
    (∃ (fn : Fin 9) (slot : Fin 4) (s : State), s.Waits fn slot 0x0606) :=
  ⟨⟨0, 0, ask (live 3) 0x0601 (leBytes 4 8192 ++ leBytes 4 0x02000001 ++ z 8), by decide +kernel, waits_of (by decide +kernel)⟩,
   ⟨0, 0, session1 8191 0 [], ask (updating (session1 8191 0 []) [0, 2]) 0x0602 (leBytes 4 1 ++ leBytes 4 8191 ++ [1, 0] ++ z 6 ++ [9]),
      by decide +kernel, waits_of (by decide +kernel)⟩,
   ⟨0, 0, session1 8191 0 [], (ask (updating (session1 8191 0 []) [0, 2]) 0x0602 (leBytes 4 1 ++ leBytes 4 8191 ++ [1,
      0] ++ z 6 ++ [9])).modDog (fun g => { g with erasing := g.blockSectors (session1 8191 0 []) }), by decide +kernel,
      waits_of (by decide +kernel)⟩,
   ⟨0, 0, session1 1 0 [5], ask (updating (session1 1 0 [5]) [0, 2]) 0x0602 (leBytes 4 1 ++ leBytes 4 0 ++ [1, 0] ++ z 6 ++ [5]), by decide +kernel,
      waits_of (by decide +kernel)⟩,
   ⟨0, 0, session1 1 0 [5], ask (updating (session1 1 0 [5]) [0, 2]) 0x0602 (leBytes 4 1 ++ leBytes 4 0 ++ [1, 0] ++ z 6 ++ [6]), by decide +kernel,
      waits_of (by decide +kernel)⟩,
   ⟨0, 0, session1 8192 0 [], ask (updating (session1 8192 0 []) [0, 1, 2]) 0x0603 ([1, 0, 0, 0, 0, 0, 0, 0]), by decide +kernel,
      waits_of (by decide +kernel)⟩,
   ⟨0, 0, session1 8192 0 [], ask (updating (session1 8192 0 []) [0, 1, 2]) 0x0603 ([1, 0, 0, 0, 1, 0, 0, 0]), by decide +kernel,
      waits_of (by decide +kernel)⟩,
   ⟨0, 0, session1 8192 0 [], ask (updating (session1 8192 0 []) [0, 2]) 0x0603 ([1, 0, 0, 0, 1, 0, 0, 0]), by decide +kernel,
      waits_of (by decide +kernel)⟩,
   ⟨0, 0, ask (dogOf 4 (fun g => { g with fwUnconfirmed := true })) 0x0604 ([]), by decide +kernel, waits_of (by decide +kernel)⟩,
   ⟨0, 0, ask (live 4) 0x0604 ([]), by decide +kernel, waits_of (by decide +kernel)⟩,
   ⟨0, 0, session1 8191 0 [], ask (updating (session1 8191 0 []) [0, 2]) 0x0605 ([1] ++ z 7), by decide +kernel, waits_of (by decide +kernel)⟩,
   ⟨0, 0, ask (live 3) 0x0606 ([]), waits_of (by decide +kernel)⟩⟩

theorem witness_LifeCycle :
    (∃ (fn : Fin 9) (slot : Fin 4) (s : State), s.Waits fn slot 0x0701) ∧
    (∃ (fn : Fin 9) (slot : Fin 4) (who : Authority) (st strap : Bool) (s : State),
      let r := s.reqIn fn slot
      let t := (s.taken fn slot).sampleStrap strap
      let auth := r.pay.drop 8
      (s.windowOpen = true ∧ s.dog.session = none ∧ s.dog.sealIntact = true ∧ lcRule s.dog.lcState (r.f 0 1) = some (who, st) ∧
        (st = true → strap = true) ∧ s.jobActive = false ∧ r.f 1 1 = 0 ∧ r.zero 4 8 = true ∧ authShape 1 (r.f 0 1) auth = true ∧
        t.dog.authOk who auth = true ∧ (who = .newOwner → s.dog.ownerSlots.length < 8)) ∧ s.Waits fn slot 0x0702) ∧
    (∃ (fn : Fin 9) (slot : Fin 4) (lock strap : Bool) (s : State),
      let r := s.reqIn fn slot
      let t := (s.taken fn slot).sampleStrap strap
      let auth := r.pay.drop 8
      (s.windowOpen = true ∧ s.dog.session = none ∧ s.dog.sealIntact = true ∧ (lock = true ∨ strap = true) ∧
        (s.dog.lcState = lcOwned ∨ s.dog.lcState = lcLocked) ∧ r.zero 0 2 = true ∧ r.zero 4 8 = true ∧
        authShape (if lock then 2 else 3) 0 auth = true ∧ t.dog.authOk .owner auth = true) ∧ s.Waits fn slot (if lock then 0x0703 else 0x0704)) ∧
    (∃ (fn : Fin 9) (slot : Fin 4) (s : State),
      let r := s.reqIn fn slot
      (r.f 0 1 = 0 ∧ r.f 1 1 = 0 ∧ r.zero 4 8 = true) ∧ s.Waits fn slot 0x0A01) ∧
    (∃ (fn : Fin 9) (slot : Fin 4) (s : State),
      let r := s.reqIn fn slot
      (r.f 0 1 = 0 ∧ (r.f 1 1 ≠ 0 ∨ r.zero 4 8 = false)) ∧ s.Waits fn slot 0x0A01) ∧
    (∃ (fn : Fin 9) (slot : Fin 4) (strap : Bool) (who : Authority) (s : State),
      let r := s.reqIn fn slot
      let t := (s.taken fn slot).sampleStrap strap
      let auth := r.pay.drop 8
      (1 ≤ r.f 0 1 ∧ r.f 0 1 ≤ 2 ∧ s.windowOpen = true ∧ s.dog.sealIntact = true ∧ (r.f 0 1 = 2 → strap = true) ∧
        debugAuthority s.dog.lcState = some who ∧ r.f 1 1 = 0 ∧ r.zero 4 8 = true ∧ (who = .none ∨ (authShape 4 (r.f 0 1) auth = true ∧
        t.dog.authOk who auth = true))) ∧ s.Waits fn slot 0x0A01) ∧
    (∃ (fn : Fin 9) (slot : Fin 4) (s : State), ((s.windowOpen = false ∨ s.dog.sealIntact = false) ∧ s.dog.session = none) ∧ s.Waits fn slot 0x0702) ∧
    (∃ (fn : Fin 9) (slot : Fin 4) (s : State), ((s.windowOpen = false ∨ s.dog.sealIntact = false) ∧ s.dog.session = none) ∧ s.Waits fn slot 0x0703) ∧
    (∃ (fn : Fin 9) (slot : Fin 4) (s : State), ((s.windowOpen = false ∨ s.dog.sealIntact = false) ∧ s.dog.session = none) ∧ s.Waits fn slot 0x0704) ∧
    (∃ (fn : Fin 9) (slot : Fin 4) (s : State),
      ((s.windowOpen = false ∨ s.dog.sealIntact = false) ∧ (s.reqIn fn slot).f 0 1 ≠ 0) ∧ s.Waits fn slot 0x0A01) :=
  ⟨⟨0, 0, ask (live 2) 0x0701 ([]), waits_of (by decide +kernel)⟩,
   ⟨0, 0, .newOwner, false, false, ask (owned 1) 0x0702 ([2, 0] ++ leBytes 2 212 ++ z 4 ++ credential 1 2), by decide +kernel,
      waits_of (by decide +kernel)⟩,
   ⟨0, 0, true, false, ask (owned 2) 0x0703 ([0, 0] ++ leBytes 2 212 ++ z 4 ++ credential 2 0), by decide +kernel, waits_of (by decide +kernel)⟩,
   ⟨0, 0, ask (live 3) 0x0A01 (z 8), by decide +kernel, waits_of (by decide +kernel)⟩,
   ⟨0, 0, ask (live 3) 0x0A01 ([0, 1] ++ z 6), by decide +kernel, waits_of (by decide +kernel)⟩,
   ⟨0, 0, true, .owner, ask (owned 2) 0x0A01 ([2, 0] ++ leBytes 2 212 ++ z 4 ++ credential 4 2), by decide +kernel, waits_of (by decide +kernel)⟩,
   ⟨0, 0, ask (live 3) 0x0702 (z 8), by decide +kernel, waits_of (by decide +kernel)⟩,
   ⟨0, 0, ask (live 3) 0x0703 (z 8), by decide +kernel, waits_of (by decide +kernel)⟩,
   ⟨0, 0, ask (live 3) 0x0704 (z 8), by decide +kernel, waits_of (by decide +kernel)⟩,
   ⟨0, 0, ask (live 3) 0x0A01 ([1] ++ z 7), by decide +kernel, waits_of (by decide +kernel)⟩⟩

theorem witness_DebugRegisters :
    (∃ (fn : Fin 9) (slot : Fin 4) (s : State),
      let r := s.reqIn fn slot
      (r.f 0 8 % 4 = 0 ∧ 1 ≤ r.f 8 2 ∧ r.f 8 2 ≤ 1000 ∧ r.zero 10 16 = true ∧
        (s.dog.debugLevel ≠ 0 ∨ (∀ k < r.f 8 2, (published (r.f 0 8 + 4 * k)).isSome = true))) ∧ s.Waits fn slot 0x0A02) ∧
    (∃ (fn : Fin 9) (slot : Fin 4) (s : State),
      let r := s.reqIn fn slot
      (r.f 0 8 % 4 = 0 ∧ 1 ≤ r.f 8 2 ∧ r.f 8 2 ≤ 1000 ∧ r.zero 10 16 = true ∧ s.dog.debugLevel = 0 ∧
        (∃ k < r.f 8 2, published (r.f 0 8 + 4 * k) = none)) ∧ s.Waits fn slot 0x0A02) ∧
    (∃ (fn : Fin 9) (slot : Fin 4) (s : State) (k : _),
      let r := s.reqIn fn slot
      (r.f 0 8 % 4 = 0 ∧ r.zero 12 16 = true ∧ published (r.f 0 8) = some (.foldStatus k)) ∧ s.Waits fn slot 0x0A03) ∧
    (∃ (fn : Fin 9) (slot : Fin 4) (s : State),
      let r := s.reqIn fn slot
      (r.f 0 8 % 4 = 0 ∧ r.zero 12 16 = true ∧ published (r.f 0 8) = some .aging) ∧ s.Waits fn slot 0x0A03) ∧
    (∃ (fn : Fin 9) (slot : Fin 4) (s : State) (k : _),
      let r := s.reqIn fn slot
      (r.f 0 8 % 4 = 0 ∧ r.zero 12 16 = true ∧ published (r.f 0 8) = some (.topo k)) ∧ s.Waits fn slot 0x0A03) ∧
    (∃ (fn : Fin 9) (slot : Fin 4) (s : State),
      let r := s.reqIn fn slot
      (r.f 0 8 % 4 = 0 ∧ r.zero 12 16 = true ∧ published (r.f 0 8) = none ∧ s.dog.debugLevel < 2) ∧ s.Waits fn slot 0x0A03) ∧
    (∃ (fn : Fin 9) (slot : Fin 4) (s : State),
      let r := s.reqIn fn slot
      (r.f 0 8 % 4 = 0 ∧ r.zero 12 16 = true ∧ published (r.f 0 8) = none ∧ 2 ≤ s.dog.debugLevel) ∧ s.Waits fn slot 0x0A03) :=
  ⟨⟨0, 0, ask (dogOf 3 (fun g => { g with debugLevel := 1 })) 0x0A02 (leBytes 8 0 ++ leBytes 2 1000 ++ z 6), by decide +kernel,
      waits_of (by decide +kernel)⟩,
   ⟨0, 0, ask (live 3) 0x0A02 (leBytes 8 0 ++ leBytes 2 1 ++ z 6), by decide +kernel, waits_of (by decide +kernel)⟩,
   ⟨0, 0, ask (live 3) 0x0A03 (leBytes 8 0xF000000010121C ++ z 8), 135, by decide +kernel, waits_of (by decide +kernel)⟩,
   ⟨0, 0, ask (live 3) 0x0A03 (leBytes 8 0xF0000000200000 ++ z 8), by decide +kernel, waits_of (by decide +kernel)⟩,
   ⟨0, 0, ask (live 3) 0x0A03 (leBytes 8 0xF0000000300804 ++ z 8), true, by decide +kernel, waits_of (by decide +kernel)⟩,
   ⟨0, 0, ask (dogOf 3 (fun g => { g with debugLevel := 1 })) 0x0A03 (leBytes 8 0 ++ z 8), by decide +kernel, waits_of (by decide +kernel)⟩,
   ⟨0, 0, ask (dogOf 3 (fun g => { g with debugLevel := 2 })) 0x0A03 (leBytes 8 0 ++ z 8), by decide +kernel, waits_of (by decide +kernel)⟩⟩

theorem witness_OperatorIssue :
    (∃ (c : Nat → Instr) (op q : Nat) (x : Queue) (d : List Byte) (s : State),
      let held (t : Tensor) : Bool := s.penHeld .fold x.pen (t.penAddr + t.scaleBase) 4
      (s.queue? q = some x ∧ x.type = .opr ∧ s.takes x = true ∧ dOpcode d = op ∧
        (s.ringFenced q = true ∨ s.waitMet x.pen d = false ∨ (s.bs4Scales d).any held = true)) ∧
        (c, op) ∈ [(Instr.gemm, 0x10), (.conv, 0x11), (.cropResize, 0x12), (.attnFwd, 0x20), (.attnBwd, 0x21), (.norm, 0x30), (.softmax, 0x31),
        (.eltwise, 0x32), (.reduce, 0x33), (.rngFill, 0x34), (.optStep, 0x35), (.loss, 0x36), (.cast, 0x37), (.move, 0x40), (.fence, 0x41),
        (.layerMark, 0x42), (.collStep, 0x43)] ∧ s.headEntry x = .ok d) ∧
    (∃ (c : Nat → Instr) (op q : Nat) (x : Queue) (d : List Byte) (s : State) (t : _),
      let held (t : Tensor) : Bool := s.penHeld .fold x.pen (t.penAddr + t.scaleBase) 4
      let bad (t : Tensor) : Bool := s.penPoisoned x.pen (t.penAddr + t.scaleBase) 4
      (s.queue? q = some x ∧ x.type = .opr ∧ s.takes x = true ∧ dOpcode d = op ∧ s.ringFenced q = false ∧ s.waitMet x.pen d = true ∧
        (s.bs4Scales d).any held = false ∧ (s.bs4Scales d).find? bad = some t) ∧
        (c, op) ∈ [(Instr.gemm, 0x10), (.conv, 0x11), (.cropResize, 0x12), (.attnFwd, 0x20), (.attnBwd, 0x21), (.norm, 0x30), (.softmax, 0x31),
        (.eltwise, 0x32), (.reduce, 0x33), (.rngFill, 0x34), (.optStep, 0x35), (.loss, 0x36), (.cast, 0x37), (.move, 0x40), (.fence, 0x41),
        (.layerMark, 0x42), (.collStep, 0x43)] ∧ s.headEntry x = .ok d) ∧
    (∃ (c : Nat → Instr) (op q : Nat) (x : Queue) (d : List Byte) (s : State),
      let held (t : Tensor) : Bool := s.penHeld .fold x.pen (t.penAddr + t.scaleBase) 4
      let bad (t : Tensor) : Bool := s.penPoisoned x.pen (t.penAddr + t.scaleBase) 4
      (s.queue? q = some x ∧ x.type = .opr ∧ s.takes x = true ∧ dOpcode d = op ∧ (∀ t ∈ s.bs4Scales d, held t = false ∧ bad t = false) ∧
        s.ringFenced q = false ∧ s.waitMet x.pen d = true ∧ s.bs4Waits d = [] ∧ s.issueError x d = none ∧ op ∉ [0x20, 0x21, 0x41, 0x42, 0x43]) ∧
        (c, op) ∈ [(Instr.gemm, 0x10), (.conv, 0x11), (.cropResize, 0x12), (.attnFwd, 0x20), (.attnBwd, 0x21), (.norm, 0x30), (.softmax, 0x31),
        (.eltwise, 0x32), (.reduce, 0x33), (.rngFill, 0x34), (.optStep, 0x35), (.loss, 0x36), (.cast, 0x37), (.move, 0x40), (.fence, 0x41),
        (.layerMark, 0x42), (.collStep, 0x43)] ∧ s.headEntry x = .ok d) ∧
    (∃ (c : Nat → Instr) (op q : Nat) (x : Queue) (d : List Byte) (s : State) (code : _),
      let held (t : Tensor) : Bool := s.penHeld .fold x.pen (t.penAddr + t.scaleBase) 4
      let bad (t : Tensor) : Bool := s.penPoisoned x.pen (t.penAddr + t.scaleBase) 4
      (s.queue? q = some x ∧ x.type = .opr ∧ s.takes x = true ∧ dOpcode d = op ∧ (∀ t ∈ s.bs4Scales d, held t = false ∧ bad t = false) ∧
        s.ringFenced q = false ∧ s.waitMet x.pen d = true ∧ s.bs4Waits d = [] ∧ s.issueError x d = some code) ∧
        (c, op) ∈ [(Instr.gemm, 0x10), (.conv, 0x11), (.cropResize, 0x12), (.attnFwd, 0x20), (.attnBwd, 0x21), (.norm, 0x30), (.softmax, 0x31),
        (.eltwise, 0x32), (.reduce, 0x33), (.rngFill, 0x34), (.optStep, 0x35), (.loss, 0x36), (.cast, 0x37), (.move, 0x40), (.fence, 0x41),
        (.layerMark, 0x42), (.collStep, 0x43)] ∧ s.headEntry x = .ok d) :=
  ⟨⟨Instr.rngFill, 0x34, 0, queueOf .opr, setBytes rng 12 [0, 0, 0, 0, 1], oprWith (setBytes rng 12 [0, 0, 0, 0, 1]), by decide +kernel, by simp,
      ok_of (by decide +kernel)⟩,
   ⟨Instr.rngFill, 0x34, 0, queueOf .opr, rng, (enqueued (holds (pen0 .running) [(nearTensor 1 9 1 32)]) (queueOf .opr) rng).modNp (fun n =>
      { n with poison := [256] }), (nearTensor 1 9 1 32), by decide +kernel, by simp, ok_of (by decide +kernel)⟩,
   ⟨Instr.rngFill, 0x34, 0, queueOf .opr, rng, oprWith (rng), by decide +kernel, by simp, ok_of (by decide +kernel)⟩,
   ⟨Instr.rngFill, 0x34, 0, queueOf .opr, setBytes rng 192 [0, 0, 0, 0], oprWith (setBytes rng 192 [0, 0, 0, 0]), 0x23, by decide +kernel, by simp,
      ok_of (by decide +kernel)⟩⟩

theorem witness_TaskPlacement :
    (∃ (o : Op) (i : Nat) (s : State),
      let t := s.quiet.serveNeeds
      let room := if t.openChunks o = [] then t.giveOutputs o else (t, true)
      let u := room.1
      (t.bestOp t.opRank (t.opsOf false) = some (o, i) ∨ (t.bestOp t.opRank (t.opsOf false) = none ∧
        t.bestOp t.grazingRank (t.opsOf true) = some (o, i))) ∧ room.2 = false ∧ u.nextStart = none) ∧
    (∃ (o : Op) (i : Nat) (s : State) (k h : _),
      let t := s.quiet.serveNeeds
      let room := if t.openChunks o = [] then t.giveOutputs o else (t, true)
      let u := room.1
      let o1 := (u.op? o.id).getD o
      (t.bestOp t.opRank (t.opsOf false) = some (o, i) ∨ (t.bestOp t.opRank (t.opsOf false) = none ∧
        t.bestOp t.grazingRank (t.opsOf true) = some (o, i))) ∧ room.2 = true ∧ o.gangOf i = [i] ∧ u.placeFor o1 i [] = some (k, h) ∧
        o1.tasks[i]? ≠ none ∧ u.openChunks o1 ≠ []) ∧
    (∃ (o : Op) (i : Nat) (s : State) (k h : _),
      let t := s.quiet.serveNeeds
      let room := if t.openChunks o = [] then t.giveOutputs o else (t, true)
      let u := room.1
      let o1 := (u.op? o.id).getD o
      (t.bestOp t.opRank (t.opsOf false) = some (o, i) ∨ (t.bestOp t.opRank (t.opsOf false) = none ∧
        t.bestOp t.grazingRank (t.opsOf true) = some (o, i))) ∧ room.2 = true ∧ o.gangOf i = [i] ∧ u.placeFor o1 i [] = none ∧
        (u.pen o1.pen).grazing = false ∧ u.victimTask [] = some (k, h)) ∧
    (∃ (o : Op) (i : Nat) (s : State),
      let t := s.quiet.serveNeeds
      let room := if t.openChunks o = [] then t.giveOutputs o else (t, true)
      let u := room.1
      let o1 := (u.op? o.id).getD o
      (t.bestOp t.opRank (t.opsOf false) = some (o, i) ∨ (t.bestOp t.opRank (t.opsOf false) = none ∧
        t.bestOp t.grazingRank (t.opsOf true) = some (o, i))) ∧ room.2 = true ∧ o.gangOf i = [i] ∧ u.placeFor o1 i [] = none ∧
        ((u.pen o1.pen).grazing = true ∨ u.victimTask [] = none)) :=
  ⟨⟨op1, 0, cramped, by decide +kernel⟩,
   ⟨op3, 0, streamed, 0, false, by decide +kernel⟩,
   ⟨op1, 0, grazed, 0, false, by decide +kernel⟩,
   ⟨op1, 0, noFolds, by decide +kernel⟩⟩

theorem witness_TaskEffects :
    (∃ (k : Fin 136) (h : Bool) (id i : Nat) (o : Op) (t : Task) (s : State),
      let u0 := s.quiet.takeInputs k h o t
      let view := u0.taskView o (u0.half k h)
      (s.half k h).busy = some (id, i) ∧ s.op? id = some o ∧ o.tasks[i]? = some t ∧ t.phase = .running ∧ s.inputsHere o = true ∧
        s.planeHeld t = false ∧ s.planePoisoned t = false ∧ s.poisonedRead (s.readHandles o) = none ∧ view.taskFault o t = none) ∧
    (∃ (k : Fin 136) (h : Bool) (id i : Nat) (o : Op) (t : Task) (x : Tensor) (s : State),
      (s.half k h).busy = some (id, i) ∧ s.op? id = some o ∧ o.tasks[i]? = some t ∧ t.phase = .running ∧ s.inputsHere o = true ∧
        s.planeHeld t = false ∧ s.planePoisoned t = false ∧ (s.half k h).stationary = none ∧ s.poisonedRead (s.readHandles o) = some x ∧
        ((s.quiet.meetPoison x).half k h).busy = none) ∧
    (∃ (k : Fin 136) (h : Bool) (id i : Nat) (o : Op) (t : Task) (s : State),
      (s.half k h).busy = some (id, i) ∧ s.op? id = some o ∧ o.tasks[i]? = some t ∧ t.phase = .running ∧ s.inputsHere o = true ∧
        s.planeHeld t = false ∧ s.planePoisoned t = true) ∧
    (∃ (handle : Word) (chunk : Nat) (s : State), ({ handle := handle, chunk := chunk }, true) ∈ s.drover.verdicts) ∧
    (∃ (handle : Word) (chunk : Nat) (s : State), ({ handle := handle, chunk := chunk }, false) ∈ s.drover.verdicts) :=
  ⟨⟨0, false, 0, 0, op2, op2.tasks.head (by decide +kernel), placed1, by decide +kernel⟩,
   ⟨0, false, 0, 0, op4, op4.tasks.head (by decide +kernel), tensor1, spoiled, by decide +kernel⟩,
   ⟨0, false, op2.id, 0, { op2 with tasks := [{ op2.tasks.head (by decide +kernel) with tile := .matrix 0 0 1 0 64 0 0 1 false, chain := some 0 }] },
      { op2.tasks.head (by decide +kernel) with tile := .matrix 0 0 1 0 64 0 0 1 false, chain := some 0 },
      (placed1.modOp op2.id (fun _ =>
      { op2 with tasks := [{ op2.tasks.head (by decide +kernel) with tile := .matrix 0 0 1 0 64 0 0 1 false, chain := some 0 }] })).modNp (fun n =>
      { n with poison := [planeAddr 0 0] }), by decide +kernel⟩,
   ⟨1, 0, (live 5).modDrover (fun d => { d with verdicts := [({ handle := 1, chunk := 0 }, true)] }), by decide +kernel⟩,
   ⟨1, 0, (live 5).modDrover (fun d => { d with verdicts := [({ handle := 1, chunk := 0 }, false)] }), by decide +kernel⟩⟩

theorem witness_HardwareErrors :
    (∃ (k : Fin 136) (s : State), ((s.fold k).state = .active ∨ (s.fold k).state = .spare ∨ (s.fold k).state = .failed)) ∧
    (∃ (c : Instr) (k : Fin 136) (s : State),
      (s.fold k).state = .active ∧ ((∃ g0 g1, c = .foldBufferUe k g0 g1) ∨ (∃ g0 g1, c = .foldParity k g0 g1) ∨ ∃ h g0 g1,
        c = .foldTaskTimeout k h g0 g1 ∧ (s.half k h).busy ≠ none)) ∧
    (∃ (c : Instr) (k : Fin 136) (s : State),
      (s.fold k).state = .spare ∧ ((∃ g0 g1, c = .foldBufferUe k g0 g1) ∨ (∃ g0 g1, c = .foldParity k g0 g1) ∨ ∃ h g0 g1,
        c = .foldTaskTimeout k h g0 g1 ∧ (s.half k h).busy ≠ none)) ∧
    (∃ (n : Nat) (s : State), s.takeoverSlot = some n ∧ s.spareOf (n / 32) = none) ∧
    (∃ (n : Nat) (s : State) (k : _), s.takeoverSlot = some n ∧ s.spareOf (n / 32) = some k) ∧
    (∃ (k : Fin 136) (s : State), (s.fold k).state = .spare) ∧
    (∃ (c : Instr) (bank code unit : Nat),
      ((∃ u : Fin 7, c = .hubEcc u ∧ bank = 6 ∧ code = 0x0A01 ∧ unit = u) ∨ (∃ u : Fin 5, c = .droveRoadUe u ∧ bank = 14 ∧ code = 0x0B02 ∧
        unit = 16 + u) ∨ (∃ u : Fin 16, c = .commonsUe u ∧ bank = 14 ∧ code = 0x0B04 ∧ unit = u) ∨ (c = .cometSramUe ∧ bank = 4 ∧ code = 0x0C01 ∧
        unit = 0))) :=
  ⟨⟨135, (live 5).modFold 135 (fun f => { f with state := .failed }), by decide +kernel⟩,
   ⟨.foldBufferUe 135 0 0, 135, (live 5).modFold 135 (fun f => { f with state := .active }), by decide +kernel, .inl ⟨_, _, rfl⟩⟩,
   ⟨.foldParity 0 0 0, 0, (live 5).modFold 0 (fun f => { f with state := .spare }), by decide +kernel, .inr (.inl ⟨_, _, rfl⟩)⟩,
   ⟨0, (fold0 (live 5)).modFold 0 (fun f => { f with state := .failed, dueTakeover := true }), by decide +kernel⟩,
   ⟨0, ((fold0 (live 5)).modFold 0 (fun f => { f with state := .failed, dueTakeover := true })).modFold 33 (fun f => { f with state := .spare }), 33,
      by decide +kernel⟩,
   ⟨135, (live 5).modFold 135 (fun f => { f with state := .spare }), by decide +kernel⟩,
   ⟨.hubEcc 6, 6, 0x0A01, 6, .inl ⟨6, rfl, rfl, rfl, rfl⟩⟩⟩

theorem witness_NearPastureReads :
    (∃ (src : NpSource) (addr len : Nat) (s : State), addr + len ≤ nearBytes ∧ (∃ l ∈ linesOf addr len, s.npBlocked src l = true)) ∧
    (∃ (src : NpSource) (addr len : Nat) (s : State), addr + len ≤ nearBytes ∧ (∀ l ∈ linesOf addr len, s.npBlocked src l = false)) :=
  ⟨⟨.host, nearBytes - 256, 256, State.reset, by decide +kernel⟩,
   ⟨.host, nearBytes - 256, 256, live 5, by decide +kernel⟩⟩

theorem witness_NearPastureWrites :
    (∃ (addr : Nat) (bytes : List Byte) (s : State), addr + bytes.length ≤ nearBytes ∧ s.np.Sound) ∧
    (∃ (src : NpSource) (addr : Nat) (bytes : List Byte) (s : State),
      addr + bytes.length ≤ nearBytes ∧ s.npBlocked src addr = true ∧ addr % 256 = 0 ∧ bytes.length = 256) ∧
    (∃ (src : NpSource) (addr : Nat) (bytes : List Byte) (s : State),
      addr + bytes.length ≤ nearBytes ∧ s.npBlocked src addr = true ∧ narrowWriter src = true ∧ bytes ≠ [] ∧ addr % 32 + bytes.length ≤ 32 ∧
        s.np.sectorOpen addr = false) :=
  ⟨⟨nearBytes - 1, [1], State.reset, by decide +kernel, npSound_of (by decide +kernel)⟩,
   ⟨.host, nearBytes - 256, z 256, State.reset, by decide +kernel⟩,
   ⟨.host, nearBytes - 32, z 32, State.reset, by decide +kernel⟩⟩

theorem witness_AccumulateWrites :
    (∃ (src : NpSource) (addr : Nat) (tb : Bool) (ys : List (Option Word)) (s : State),
      let w := if tb then 2 else 4
      addr + ys.length * w ≤ nearBytes ∧ s.npBlocked src (lineOf addr) = true ∧ ys ≠ [] ∧ addr % w = 0 ∧ addr % 256 + ys.length * w ≤ 256) ∧
    (∃ (src : NpSource) (addr : Nat) (tb : Bool) (ys : List (Option Word)) (s : State),
      let w := if tb then 2 else 4
      (addr + ys.length * w ≤ nearBytes ∧ (∀ l ∈ linesOf addr (ys.length * w), s.npBlocked src l = false) ∧ addr % w = 0) ∧ s.np.Sound) :=
  ⟨⟨.fold, nearBytes - 4, false, [some 0], State.reset, by decide +kernel⟩,
   ⟨.fold, nearBytes - 2, true, [none], live 5, by decide +kernel, npSound_of (by decide +kernel)⟩⟩

theorem witness_NearPastureWaits :
    (∃ (line : Nat) (e : WcEntry) (s : State), (s.np.wc.find? (fun x => x.line = line) = some e ∧ s.npBlocked e.source line = false) ∧ s.np.Sound) ∧
    (∃ (line : Nat) (e : WcEntry) (s : State), s.np.wc.find? (fun x => x.line = line) = some e ∧ s.npBlocked e.source line = true) ∧
    (∃ (i : Nat) (r : NpReq) (s : State), s.np.waiting[i]? = some r ∧ s.npWaits r = false) ∧
    (∃ (i : Nat) (r : NpReq) (s : State), s.np.waiting[i]? = some r ∧ s.npWaits r = true) :=
  ⟨⟨256, { line := 256, bytes := [(255, 1)], source := .host, cls := .norm, writers := [.host], due := none },
      (live 5).modNp (fun n =>
      { n with wc := [{ line := 256, bytes := [(255, 1)], source := .host, cls := .norm, writers := [.host], due := none }] }), by decide +kernel,
      npSound_of (by decide +kernel)⟩,
   ⟨256, { line := 256, bytes := [(255, 1)], source := .host, cls := .norm, writers := [.host], due := none },
      State.reset.modNp (fun n =>
      { n with wc := [{ line := 256, bytes := [(255, 1)], source := .host, cls := .norm, writers := [.host], due := none }] }), by decide +kernel⟩,
   ⟨0, { kind := .read 0 1, source := .host, cls := .norm, urgent := false },
      (live 5).modNp (fun n => { n with waiting := [{ kind := .read 0 1, source := .host, cls := .norm, urgent := false }] }), by decide +kernel⟩,
   ⟨0, { kind := .read 0 1, source := .host, cls := .norm, urgent := false },
      State.reset.modNp (fun n => { n with waiting := [{ kind := .read 0 1, source := .host, cls := .norm, urgent := false }] }), by decide +kernel⟩⟩

theorem witness_NearPastureErrors :
    (∃ (addr : Nat) (s : State),
      let t := ((s.quiet.npPoison (lineOf addr)).count 19 1).logFault 8 0x0202 .deferred (npStack (lineOf addr)) none (some (lineOf addr))
      addr < nearBytes ∧ t.nearCopyAt (lineOf addr) = none ∧ t.baseAt (lineOf addr) = none) ∧
    (∃ (addr : Nat) (s : State) (p x : _),
      let t := ((s.quiet.npPoison (lineOf addr)).count 19 1).logFault 8 0x0202 .deferred (npStack (lineOf addr)) none (some (lineOf addr))
      addr < nearBytes ∧ t.nearCopyAt (lineOf addr) = some (p, x)) ∧
    (∃ (addr : Nat) (s : State) (n : _),
      let t := ((s.quiet.npPoison (lineOf addr)).count 19 1).logFault 8 0x0202 .deferred (npStack (lineOf addr)) none (some (lineOf addr))
      addr < nearBytes ∧ t.nearCopyAt (lineOf addr) = none ∧ t.baseAt (lineOf addr) = some n) :=
  ⟨⟨nearBytes - 1, live 5, by decide +kernel⟩,
   ⟨15, holds (pen0 .running) [tensor1], 0, tensor1, by decide +kernel⟩,
   ⟨0, (live 5).modDrover (fun d => { d with bases := [(63, base63)] }), 63, by decide +kernel⟩⟩

theorem witness_LiveRetraining :
    (∃ s : State, s.np.Sound) ∧
    (∃ s : State,
      (s.np.retraining = none ∧ (∃ g < 64, (s.np.groups.getD g ⟨0, false, []⟩).due = true ∧ (s.stackAt (g / 8)).trained = true ∧
        (s.stackAt (g / 8)).tstate ≤ 1)) ∧ (∀ w, s.np.lastWindow = some w → w + 10000000 ≤ s.time.clock) ∧ s.Sound) ∧
    (∃ (s : State) (g : Nat), s.np.retraining = some g) :=
  ⟨⟨live 5, npSound_of (by decide +kernel)⟩,
   ⟨(live 5).modNp (fun n => { n with groups := n.groups.set 63 { trainedTemp := 0, due := true, corrected := [] } }), by decide +kernel,
      none_imp (by decide +kernel), sound_of (by decide +kernel)⟩,
   ⟨(live 5).modNp (fun n => { n with retraining := some 63 }), 63, by decide +kernel⟩⟩

theorem witness_FarReads :
    (∃ (handle : Word) (chunk : Nat) (bytes : List Byte) (poison : Bool) (t : Tensor) (f : Fetch) (copy : FarCopy) (s : State),
      let h := handle.toNat
      let g := { f with chunks := f.chunks.set chunk (.confirmed bytes) }
      let u := (s.quiet.count 20 bytes.length).modAny h (fun x => { x with fetch := some g })
      let v := if t.farCoded then u.sendVerdicts h t g chunk else u.sendVerdict { handle := handle, chunk := chunk } true
      let whole := (∀ c ∈ g.chunks, ∃ b, c = .confirmed b) ∧ ((v.any? h).bind Tensor.fetch).isSome = true ∧ t.run = none ∧
        (t.res = .far ∨ isBaseHandle h = true)
      (t.fetch = some f ∧ t.far = some copy ∧ f.chunks[chunk]? = some .issued ∧ poison = false ∧ bytes.length = 4096) ∧ s.any? h = some t ∧
        t.farPasses copy chunk bytes = true ∧ whole) ∧
    (∃ (handle : Word) (chunk : Nat) (bytes : List Byte) (poison : Bool) (t : Tensor) (f : Fetch) (copy : FarCopy) (s : State),
      let h := handle.toNat
      let g := { f with chunks := f.chunks.set chunk (.confirmed bytes) }
      let u := (s.quiet.count 20 bytes.length).modAny h (fun x => { x with fetch := some g })
      let v := if t.farCoded then u.sendVerdicts h t g chunk else u.sendVerdict { handle := handle, chunk := chunk } true
      let whole := (∀ c ∈ g.chunks, ∃ b, c = .confirmed b) ∧ ((v.any? h).bind Tensor.fetch).isSome = true ∧ t.run = none ∧
        (t.res = .far ∨ isBaseHandle h = true)
      (t.fetch = some f ∧ t.far = some copy ∧ f.chunks[chunk]? = some .issued ∧ poison = false ∧ bytes.length = 4096) ∧ s.any? h = some t ∧
        t.farPasses copy chunk bytes = true ∧ ¬ whole) ∧
    (∃ (handle : Word) (chunk : Nat) (bytes : List Byte) (poison : Bool) (t : Tensor) (f : Fetch) (copy : FarCopy) (s : State),
      let h := handle.toNat
      s.any? h = some t ∧ t.fetch = some f ∧ t.far = some copy ∧ f.chunks[chunk]? = some .issued ∧
        (poison = true ∨ bytes.length ≠ 4096 ∨ t.farPasses copy chunk bytes = false)) ∧
    (∃ (handle : Word) (chunk : Nat) (bytes : List Byte) (t : Tensor) (f : Fetch) (copy : FarCopy) (s : State),
      let h := handle.toNat
      (t.fetch = some f ∧ t.far = some copy ∧ f.chunks[chunk]? = some .issued) ∧ s.any? h = some t ∧ t.farPasses copy chunk bytes = true) ∧
    (∃ (h r : Nat) (t : Tensor) (f : Fetch) (s : State),
      (s.tensor? h = some t ∧ t.fetch = some f ∧ f.switched = false ∧ t.run = none ∧ (s.pen (h / 2 ^ 29)).drained = false ∧
        s.predictRecipe t f.deadline = some r) ∧ (∀ x, s.predictFetch t f.deadline = some x → f.deadline < x ∧ r < x)) ∧
    (∃ (handle : Word) (t : Tensor) (s : State), s.tensor? handle.toNat = some t ∧ t.waitUntil ≠ none ∧ (t.needsPath = true ∨ s.stalled t = true)) :=
  ⟨⟨1, 0, z 4096, false, farZeros farTensor, { chunks := [.issued], deadline := 0, switched := false, bad := false },
      { stripe := [0], bytes := 16, place := [0], exact := false }, holds (pen0 .running) [farZeros farTensor], by decide +kernel, rfl,
      farPasses_of rfl rfl, ⟨fun _ h => ⟨_, List.mem_singleton.mp h⟩, by decide +kernel, rfl, by decide +kernel⟩⟩,
   ⟨1, 0, z 4096, false, farZeros { farTensor with run := some 0 }, { chunks := [.issued], deadline := 0, switched := false, bad := false },
      { stripe := [0], bytes := 16, place := [0], exact := false }, holds (pen0 .running) [farZeros { farTensor with run := some 0 }],
      by decide +kernel, rfl, farPasses_of rfl rfl, fun h => absurd h.2.2.1 (by decide +kernel)⟩,
   ⟨1, 0, [], true, farTensor, { chunks := [.issued], deadline := 0, switched := false, bad := false },
      { stripe := [0], bytes := 16, place := [0], exact := false }, holds (pen0 .running) [farTensor], by decide +kernel⟩,
   ⟨1, 0, z 4096, farZeros farTensor, { chunks := [.issued], deadline := 0, switched := false, bad := false },
      { stripe := [0], bytes := 16, place := [0], exact := false }, holds (pen0 .running) [farZeros farTensor], by decide +kernel, rfl,
      farPasses_of rfl rfl⟩,
   ⟨1, 0, { farTensor with recipe := [rng] }, { chunks := [.issued], deadline := 0, switched := false, bad := false },
      holds (pen0 .running) [{ farTensor with recipe := [rng] }], by decide +kernel, opt_imp (by decide +kernel)⟩,
   ⟨1, { farTensor with fetch := none, waitUntil := some 0 }, holds (pen0 .running) [{ farTensor with fetch := none, waitUntil := some 0 }],
      by decide +kernel⟩⟩

theorem witness_DroverMoves :
    (∃ (handle : Word) (t : Tensor) (w : WriteBehind) (s : State), s.tensor? handle.toNat = some t ∧ t.wb = some w) ∧
    (∃ (handle : Word) (port : Fin 4) (t : Tensor) (w : WriteBehind) (s : State),
      s.tensor? handle.toNat = some t ∧ t.wb = some w ∧ ↑port ∈ w.stripe) ∧
    (∃ (handle : Word) (t : Tensor) (s : State), s.tensor? handle.toNat = some t ∧ t.recipe ≠ [] ∧ t.run = some t.recipe.length) ∧
    (∃ (handle hs : Word) (t src b : Tensor) (s : State),
      s.tensor? handle.toNat = some t ∧ t.encodeFrom = some hs ∧ s.tensor? hs.toNat = some src ∧ s.base? t.base.toNat = some b ∧ b.res ≠ .poisoned ∧
        src.readable = false) ∧
    (∃ (handle hs : Word) (t src b : Tensor) (s : State),
      s.tensor? handle.toNat = some t ∧ t.encodeFrom = some hs ∧ s.tensor? hs.toNat = some src ∧ s.base? t.base.toNat = some b ∧ b.res ≠ .poisoned ∧
        src.readable = true ∧ (s.servesTensor .shears t = false ∨ s.servesTensor .shears src = false)) ∧
    (∃ (handle hs : Word) (t src b : Tensor) (s : State),
      s.tensor? handle.toNat = some t ∧ t.encodeFrom = some hs ∧ s.tensor? hs.toNat = some src ∧ s.base? t.base.toNat = some b ∧ b.res ≠ .poisoned ∧
        src.readable = true ∧ s.servesTensor .shears t = true ∧ s.servesTensor .shears src = true ∧
        (s.tensorPoisoned src = true ∨ s.basePoisoned t = true)) ∧
    (∃ (handle hs : Word) (t src b : Tensor) (s : State),
      let h := handle.toNat
      let pen := h / 2 ^ 29
      let r := s.quiet.allocate pen t false s.time.clock
      s.tensor? handle.toNat = some t ∧ t.encodeFrom = some hs ∧ s.tensor? hs.toNat = some src ∧ s.base? t.base.toNat = some b ∧ b.res ≠ .poisoned ∧
        src.readable = true ∧ s.servesTensor .shears t = true ∧ s.servesTensor .shears src = true ∧ s.tensorPoisoned src = false ∧
        s.basePoisoned t = false ∧ r.2 = true) ∧
    (∃ (handle hs : Word) (t src b : Tensor) (s : State),
      let h := handle.toNat
      let pen := h / 2 ^ 29
      let r := s.quiet.allocate pen t false s.time.clock
      s.tensor? handle.toNat = some t ∧ t.encodeFrom = some hs ∧ s.tensor? hs.toNat = some src ∧ s.base? t.base.toNat = some b ∧ b.res ≠ .poisoned ∧
        src.readable = true ∧ s.servesTensor .shears t = true ∧ s.servesTensor .shears src = true ∧ s.tensorPoisoned src = false ∧
        s.basePoisoned t = false ∧ r.2 = false) ∧
    (∃ (handle : Word) (t : Tensor) (s : State),
      s.tensor? handle.toNat = some t ∧ t.allocWait = true ∧
        (s.pen (handle.toNat / 2 ^ 29)).nearMin < (s.pen (handle.toNat / 2 ^ 29)).nearUse + t.chargedBytes ∧
        (s.allocate (handle.toNat / 2 ^ 29) t false s.time.clock).2 = false ∧
        s.chooseVictim { pen := handle.toNat / 2 ^ 29, size := t.chargedBytes, prefetch := false, deadline := s.time.clock } = none) ∧
    (∃ (base : Fin 64) (t : Tensor) (f : FarCopy) (s : State),
      let held := s.npHeld .scrub t.penAddr t.storedBytes
      s.base? (baseHandle base) = some t ∧ t.far = some f ∧ t.res = .both ∧ s.fetchable f = true ∧ held = true) ∧
    (∃ (base : Fin 64) (chunks : List (List Byte)) (poison : Bool) (t : Tensor) (f : FarCopy) (s : State),
      let good := poison = false ∧ chunks.length = ceilDiv f.bytes 4096 ∧ ∀ k < chunks.length, (chunks.getD k []).length = 4096 ∧
        t.farCheck k = some (BitVec.ofNat 32 (crc32c (chunks.getD k [])))
      let held := s.npHeld .scrub t.penAddr t.storedBytes
      (t.far = some f ∧ t.res = .both ∧ s.fetchable f = true ∧ held = false) ∧ s.base? (baseHandle base) = some t ∧
        (good ∨ s.npPoisoned t.penAddr t.storedBytes = true)) ∧
    (∃ (base : Fin 64) (chunks : List (List Byte)) (poison : Bool) (t : Tensor) (f : FarCopy) (s : State),
      let good := poison = false ∧ chunks.length = ceilDiv f.bytes 4096 ∧ ∀ k < chunks.length, (chunks.getD k []).length = 4096 ∧
        t.farCheck k = some (BitVec.ofNat 32 (crc32c (chunks.getD k [])))
      let held := s.npHeld .scrub t.penAddr t.storedBytes
      (s.base? (baseHandle base) = some t ∧ t.far = some f ∧ t.res = .both ∧ s.fetchable f = true ∧ held = false ∧
        s.npPoisoned t.penAddr t.storedBytes = false) ∧ ¬ good) :=
  ⟨⟨1, { tensor1 with wb := some { form := [1], stripe := [3], place := [0], exact := false, retry := false } },
      { form := [1], stripe := [3], place := [0], exact := false, retry := false },
      holds (pen0 .running) [{ tensor1 with wb := some { form := [1], stripe := [3], place := [0], exact := false, retry := false } }],
      by decide +kernel⟩,
   ⟨1, 3, { tensor1 with wb := some { form := [1], stripe := [3], place := [0], exact := false, retry := false } },
      { form := [1], stripe := [3], place := [0], exact := false, retry := false },
      holds (pen0 .running) [{ tensor1 with wb := some { form := [1], stripe := [3], place := [0], exact := false, retry := false } }],
      by decide +kernel⟩,
   ⟨1, { tensor1 with recipe := [rng], run := some 1 }, holds (pen0 .running) [{ tensor1 with recipe := [rng], run := some 1 }], by decide +kernel⟩,
   ⟨1, 2, { tensor1 with comp := 2, base := 0x10000000, encodeFrom := some 2, res := .none }, { tensor1 with handle := 2, res := .none },
      { tensor1 with handle := 0x10000000, isBase := true, res := .both },
      (holds (pen0 .running) [{ tensor1 with comp := 2, base := 0x10000000, encodeFrom := some 2, res := .none },
      { tensor1 with handle := 2, res := .none }]).modDrover (fun d =>
      { d with bases := [(0, { tensor1 with handle := 0x10000000, isBase := true, res := .both })] }), by decide +kernel⟩,
   ⟨1, 2, { tensor1 with comp := 2, base := 0x10000000, encodeFrom := some 2, res := .none }, { tensor1 with handle := 2 },
      { tensor1 with handle := 0x10000000, isBase := true, res := .both },
      ((holds (pen0 .running) [{ tensor1 with comp := 2, base := 0x10000000, encodeFrom := some 2, res := .none },
      { tensor1 with handle := 2 }]).modDrover (fun d =>
      { d with bases := [(0, { tensor1 with handle := 0x10000000, isBase := true, res := .both })] })).modNp (fun n =>
      { n with stackList := NearMem.initial.stackList }), by decide +kernel⟩,
   ⟨1, 2, { tensor1 with comp := 2, base := 0x10000000, encodeFrom := some 2, res := .none }, { tensor1 with handle := 2 },
      { tensor1 with handle := 0x10000000, isBase := true, res := .both },
      ((holds (pen0 .running) [{ tensor1 with comp := 2, base := 0x10000000, encodeFrom := some 2, res := .none },
      { tensor1 with handle := 2 }]).modDrover (fun d =>
      { d with bases := [(0, { tensor1 with handle := 0x10000000, isBase := true, res := .both })] })).modNp (fun n => { n with poison := [0] }),
      by decide +kernel⟩,
   ⟨1, 2, { tensor1 with comp := 2, base := 0x10000000, encodeFrom := some 2, res := .none }, { tensor1 with handle := 2 },
      { tensor1 with handle := 0x10000000, isBase := true, res := .both },
      (holds (pen0 .running) [{ tensor1 with comp := 2, base := 0x10000000, encodeFrom := some 2, res := .none },
      { tensor1 with handle := 2 }]).modDrover (fun d =>
      { d with bases := [(0, { tensor1 with handle := 0x10000000, isBase := true, res := .both })] }), by decide +kernel⟩,
   ⟨1, 2, { tensorNone with comp := 2, base := 0x10000000, encodeFrom := some 2 }, { tensor1 with handle := 2 },
      { tensor1 with handle := 0x10000000, isBase := true, res := .both },
      ((holds (pen0 .running) [{ tensorNone with comp := 2, base := 0x10000000, encodeFrom := some 2 },
      { tensor1 with handle := 2 }]).modDrover (fun d =>
      { d with bases := [(0, { tensor1 with handle := 0x10000000, isBase := true, res := .both })] })).modPen 0 (fun p =>
      { p with nearMin := 0, farMax := 0 }), by decide +kernel⟩,
   ⟨1, { tensorNone with allocWait := true }, (holds (pen0 .running) [{ tensorNone with allocWait := true }]).modPen 0 (fun p =>
      { p with nearMin := 0, farMax := 0 }), by decide +kernel⟩,
   ⟨0, { tensor1 with handle := 0x10000000, isBase := true, res := .both, far := some { stripe := [0], bytes := 16, place := [0], exact := false }, farTable := [some 0] },
      { stripe := [0], bytes := 16, place := [0], exact := false },
      ((live 5).modDrover (fun d =>
      { d with bases := [(0, { tensor1 with handle := 0x10000000, isBase := true, res := .both, far := some { stripe := [0], bytes := 16, place := [0], exact := false }, farTable := [some 0] })] })).modNp
      (fun n => { n with stackList := NearMem.initial.stackList }), by decide +kernel⟩,
   ⟨0, [z 4096], false, farZeros
      { tensor1 with handle := 0x10000000, isBase := true, res := .both, far := some { stripe := [0], bytes := 16, place := [0], exact := false }, farTable := [some 0] },
      { stripe := [0], bytes := 16, place := [0], exact := false },
      (live 5).modDrover (fun d =>
      { d with bases := [(0, farZeros { tensor1 with handle := 0x10000000, isBase := true, res := .both, far := some { stripe := [0], bytes := 16, place := [0], exact := false }, farTable := [some 0] })] }),
      by decide +kernel, rfl, .inl ⟨rfl, rfl, fun k h => by cases Nat.lt_one_iff.mp h; exact ⟨by decide +kernel, rfl⟩⟩⟩,
   ⟨0, [], false,
      { tensor1 with handle := 0x10000000, isBase := true, res := .both, far := some { stripe := [0], bytes := 16, place := [0], exact := false }, farTable := [some 0] },
      { stripe := [0], bytes := 16, place := [0], exact := false },
      (live 5).modDrover (fun d =>
      { d with bases := [(0, { tensor1 with handle := 0x10000000, isBase := true, res := .both, far := some { stripe := [0], bytes := 16, place := [0], exact := false }, farTable := [some 0] })] }),
      by decide +kernel, fun h => absurd h.2.1 (by decide +kernel)⟩⟩

theorem witness_TalsenPorts :
    (∃ (port : Fin 4) (s : State), 4 ≤ s.keptStage ∧ (s.talsenAt port).state = .up ∧ (s.talsenAt port).relinking = false ∧ s.talsen.length = 4) ∧
    (∃ (port : Fin 4) (x : Expander) (s : State),
      4 ≤ s.keptStage ∧ ((s.talsenAt port).state ≠ .up ∨ (s.talsenAt port).relinking = true) ∧ (s.talsenAt port).takesBack x = true) ∧
    (∃ (port : Fin 4) (x : Expander) (s : State),
      4 ≤ s.keptStage ∧ ((s.talsenAt port).state ≠ .up ∨ (s.talsenAt port).relinking = true) ∧ (s.talsenAt port).takesBack x = false ∧
        Expander.failedRow x ≠ 0) ∧
    (∃ (port : Fin 4) (x : Expander) (s : State),
      4 ≤ s.keptStage ∧ ((s.talsenAt port).state ≠ .up ∨ (s.talsenAt port).relinking = true) ∧ (s.talsenAt port).takesBack x = false ∧
        Expander.failedRow x = 0) ∧
    (∃ (port : Fin 4) (s : State),
      let recent := (s.talsenAt port).corrected.filter (fun c => s.time.clock ≤ c + 60000000000)
      s.talsen.length = 4 ∧ recent.length < 1000) ∧
    (∃ (port : Fin 4) (s : State),
      let recent := (s.talsenAt port).corrected.filter (fun c => s.time.clock ≤ c + 60000000000)
      s.talsen.length = 4 ∧ 1000 ≤ recent.length ∧ (s.talsenAt port).state = .up) ∧
    (∃ (port : Fin 4) (bytes : Nat) (s : State), (s.talsenAt port).state = .up ∧ 0 < min bytes (s.boot.farUnwiped.getD port 0)) :=
  ⟨⟨3, live 5, by decide +kernel⟩,
   ⟨3, { serial := 0, mib := 65536, rate32 := false, width8 := false, deviceOk := true, decoderOk := true, poisonOk := true, latencyOk := true },
      (live 5).modTalsen 3 (fun t => { t with state := .down }), by decide +kernel⟩,
   ⟨3, { serial := 0, mib := 65536, rate32 := false, width8 := false, deviceOk := false, decoderOk := true, poisonOk := true, latencyOk := true },
      (live 5).modTalsen 3 (fun t => { t with state := .down }), by decide +kernel⟩,
   ⟨3, { serial := 1, mib := 65536, rate32 := false, width8 := false, deviceOk := true, decoderOk := true, poisonOk := true, latencyOk := true },
      (live 5).modTalsen 3 (fun t => { t with state := .down }), by decide +kernel⟩,
   ⟨3, (live 5).modTalsen 3 (fun t => { t with corrected := List.replicate 999 0 }), by decide +kernel⟩,
   ⟨3, (live 5).modTalsen 3 (fun t => { t with corrected := List.replicate 1000 0 }), by decide +kernel⟩,
   ⟨3, 1, bootOf 5 (fun b => { b with farUnwiped := [0, 0, 0, 1] }), by decide +kernel⟩⟩

theorem witness_PortStates :
    (∃ (p : Fin 8) (lanes : Byte) (s : State), s.transitLive = true ∧ (s.port p).lstate = .down ∧ 2 ≤ laneCount lanes ∧ (s.port p).failures < 3) ∧
    (∃ (p q : Fin 8) (coord extent : B16) (s : State),
      (s.port p).lstate = .training ∧ (s.fab.placed = false ∨ s.peerExpected p coord extent q = true)) ∧
    (∃ (p q : Fin 8) (coord extent : B16) (s : State),
      (s.port p).lstate = .training ∧ s.fab.placed = true ∧ s.peerExpected p coord extent q = false) ∧
    (∃ (p : Fin 8) (fast slow : Byte) (w lo m : Nat) (s : State),
      s.fab.ports.length = 8 ∧ (s.port p).lstate = .training ∧ (s.port p).peerValid = true ∧
        (bestLanes fast = some (w, lo, m) ∨ (bestLanes fast = none ∧ adjacentLanes fast = false ∧ bestLanes slow = some (w, lo, m)))) ∧
    (∃ (p : Fin 8) (fast slow : Byte) (s : State),
      (s.port p).lstate = .training ∧ bestLanes fast = none ∧ (adjacentLanes fast = true ∨ bestLanes slow = none)) ∧
    (∃ (p : Fin 8) (s : State), (s.port p).lstate = .up) ∧
    (∃ (p : Fin 8) (s : State), (s.port p).lstate = .training) ∧
    (∃ (p : Fin 8) (s : State), (s.port p).lstate = .down ∧ 3 ≤ (s.port p).failures) ∧
    (∃ (p l : Fin 8) (s : State) (w lo m : _),
      let good := (s.port p).laneGood &&& ~~~(1#8 <<< l.val)
      (s.port p).lstate = .up ∧ (s.port p).laneGood.getLsbD l = true ∧ bestLanes good = some (w, lo, m)) ∧
    (∃ (p l : Fin 8) (s : State),
      let good := (s.port p).laneGood &&& ~~~(1#8 <<< l.val)
      (s.port p).lstate = .up ∧ (s.port p).laneGood.getLsbD l = true ∧ bestLanes good = none) ∧
    (∃ (p : Fin 8) (s : State), (s.port p).lstate = .up) :=
  ⟨⟨7, 3, live 2, by decide +kernel⟩,
   ⟨0, 1, 1, 1, (ring2 0).modPort 0 (fun p => { p with lstate := .training }), by decide +kernel⟩,
   ⟨0, 0, 1, 1, (ring2 0).modPort 0 (fun p => { p with lstate := .training }), by decide +kernel⟩,
   ⟨7, 0, 3, 2, 0, 3, (live 5).modPort 7 (fun p => { p with lstate := .training, peerValid := true }), by decide +kernel⟩,
   ⟨7, 0, 0, (live 5).modPort 7 (fun p => { p with lstate := .training }), by decide +kernel⟩,
   ⟨0, ring2 0, by decide +kernel⟩,
   ⟨7, (live 5).modPort 7 (fun p => { p with lstate := .training }), by decide +kernel⟩,
   ⟨7, (live 5).modPort 7 (fun p => { p with failures := 3 }), by decide +kernel⟩,
   ⟨0, 7, ring2 0, 1, 0, 15, by decide +kernel⟩,
   ⟨0, 1, (ring2 0).modPort 0 (fun p => { p with laneGood := 3 }), by decide +kernel⟩,
   ⟨1, ring2 0, by decide +kernel⟩⟩

theorem witness_Flits :
    (∃ (p : Fin 8) (bytes : List Byte) (s : State) (n : _),
      (s.port p).lstate = .up ∧ (bytes.length ≠ 256 ∨ leField bytes 12 4 ≠ flitCrc bytes) ∧ (s.port p).nakSent = some n ∧ s.time.clock < n + 500) ∧
    (∃ (p : Fin 8) (bytes : List Byte) (s : State),
      let u := s.quiet.modPort p (fun x => x.heard bytes)
      let v := if (leField bytes 2 2).testBit 13 then u.replayAll p else u
      (s.port p).lstate = .up ∧ bytes.length = 256 ∧ leField bytes 12 4 = flitCrc bytes ∧ bitsOf (leField bytes 0 2) 13 12 ≠ 0 ∧
        (v.port p).lstate ≠ .up) ∧
    (∃ (p : Fin 8) (bytes : List Byte) (s : State),
      let u := s.quiet.modPort p (fun x => x.heard bytes)
      let v := if (leField bytes 2 2).testBit 13 then u.replayAll p else u
      let seq := leField bytes 0 2 % 4096
      (s.port p).lstate = .up ∧ bytes.length = 256 ∧ leField bytes 12 4 = flitCrc bytes ∧ bitsOf (leField bytes 0 2) 13 12 ≠ 0 ∧
        (v.port p).lstate = .up ∧ seq = (v.port p).rxSeq) ∧
    (∃ (p : Fin 8) (bytes : List Byte) (s : State),
      let u := s.quiet.modPort p (fun x => x.heard bytes)
      let v := if (leField bytes 2 2).testBit 13 then u.replayAll p else u
      let seq := leField bytes 0 2 % 4096
      (s.port p).lstate = .up ∧ bytes.length = 256 ∧ leField bytes 12 4 = flitCrc bytes ∧ bitsOf (leField bytes 0 2) 13 12 ≠ 0 ∧
        (v.port p).lstate = .up ∧ seq ≠ (v.port p).rxSeq) ∧
    (∃ (p : Fin 8) (bytes : List Byte) (s : State),
      let u := s.quiet.modPort p (fun x => x.heard bytes)
      let v := if (leField bytes 2 2).testBit 13 then u.replayAll p else u
      let seq := leField bytes 0 2 % 4096
      (s.port p).lstate = .up ∧ bytes.length = 256 ∧ leField bytes 12 4 = flitCrc bytes ∧ bitsOf (leField bytes 0 2) 13 12 = 0 ∧
        seq = (s.port p).rxSeq ∧ (v.port p).lstate = .up) ∧
    (∃ (p : Fin 8) (bytes : List Byte) (s : State),
      let u := s.quiet.modPort p (fun x => x.heard bytes)
      let v := if (leField bytes 2 2).testBit 13 then u.replayAll p else u
      let seq := leField bytes 0 2 % 4096
      (s.port p).lstate = .up ∧ bytes.length = 256 ∧ leField bytes 12 4 = flitCrc bytes ∧ bitsOf (leField bytes 0 2) 13 12 = 0 ∧
        seq = (s.port p).rxSeq ∧ (v.port p).lstate ≠ .up) ∧
    (∃ (p : Fin 8) (bytes : List Byte) (s : State),
      let seq := leField bytes 0 2 % 4096
      (s.port p).lstate = .up ∧ bytes.length = 256 ∧ leField bytes 12 4 = flitCrc bytes ∧ bitsOf (leField bytes 0 2) 13 12 = 0 ∧
        seq ≠ (s.port p).rxSeq ∧ ((s.port p).rxSeq + 4096 - seq) % 4096 ≤ 512) ∧
    (∃ (p : Fin 8) (bytes : List Byte) (s : State),
      let seq := leField bytes 0 2 % 4096
      (s.port p).lstate = .up ∧ bytes.length = 256 ∧ leField bytes 12 4 = flitCrc bytes ∧ bitsOf (leField bytes 0 2) 13 12 = 0 ∧
        seq ≠ (s.port p).rxSeq ∧ 512 < ((s.port p).rxSeq + 4096 - seq) % 4096) :=
  ⟨⟨0, [], (ring2 0).modPort 0 (fun p => { p with nakSent := some 0 }), 0, by decide +kernel⟩,
   ⟨0, (buildFlit { portUp with txSeq := 0 } 1 0 true []).1,
      (ring2 0).modPort 0 (fun p => { p with replay := [{ fseq := 0, bytes := [], start := true }], replays := 7 }), by decide +kernel⟩,
   ⟨0, (buildFlit { portUp with txSeq := 0 } 1 0 true []).1, ring2 0, by decide +kernel⟩,
   ⟨0, (buildFlit { portUp with txSeq := 5 } 1 0 false []).1, ring2 0, by decide +kernel⟩,
   ⟨0, (buildFlit { portUp with txSeq := 0 } 0 0 false []).1, ring2 0, by decide +kernel⟩,
   ⟨0, (buildFlit { portUp with txSeq := 0 } 0 0 true []).1,
      (ring2 0).modPort 0 (fun p => { p with replay := [{ fseq := 0, bytes := [], start := true }], replays := 7 }), by decide +kernel⟩,
   ⟨0, (buildFlit { portUp with txSeq := 0 } 0 0 false []).1, (ring2 0).modPort 0 (fun p => { p with rxSeq := 512 }), by decide +kernel⟩,
   ⟨0, (buildFlit { portUp with txSeq := 0 } 0 0 false []).1, (ring2 0).modPort 0 (fun p => { p with rxSeq := 513 }), by decide +kernel⟩⟩

theorem witness_PacketRouting :
    (∃ (i : Fin 9) (k : Fin 8) (p : Packet) (s : State),
      s.sendingFrom i k = none ∧ s.quiet.inputHead i k = some p ∧ s.quiet.routePacket (i.val < 8) p = .eject) ∧
    (∃ (i : Fin 9) (k : Fin 8) (p : Packet) (s : State),
      s.sendingFrom i k = none ∧ s.quiet.inputHead i k = some p ∧ s.quiet.routePacket (i.val < 8) p = .drop) ∧
    (∃ (i : Fin 9) (k : Fin 8) (p : Packet) (s : State) (st : _),
      s.sendingFrom i k = none ∧ s.quiet.inputHead i k = some p ∧ s.quiet.routePacket (i.val < 8) p = .refuse st) ∧
    (∃ (i : Fin 9) (k : Fin 8) (p : Packet) (s : State) (port q : _),
      s.sendingFrom i k = none ∧ s.quiet.inputHead i k = some p ∧ s.quiet.routePacket (i.val < 8) p = .forward port q ∧
        (s.port port).canSend (pClass q) = true ∧ s.nextTurn port = some (pVc q, i.val)) ∧
    (∃ (i : Fin 9) (k : Fin 8) (p : Packet) (s : State) (port q : _),
      s.sendingFrom i k = none ∧ s.quiet.inputHead i k = some p ∧ s.quiet.routePacket (i.val < 8) p = .forward port q ∧
        (s.port port).canSend (pClass q) = false ∨ s.nextTurn port ≠ some (pVc q, i.val)) ∧
    (∃ (i : Fin 9) (k : Fin 8) (p : Packet) (s : State) (port q : _),
      s.sendingFrom i k = none ∧ s.quiet.inputHead i k = some p ∧ s.quiet.routePacket (i.val < 8) p = .forward port q ∧ (i.val < 8 ∨ pHops p = 0)) ∧
    (∃ (i : Fin 9) (k : Fin 8) (port : Nat) (x : Sending) (s : State),
      s.sendingFrom i k = some (port, x) ∧ (s.port port).canSend (pClass x.out) = true ∧ s.nextTurn port = some (pVc x.out, i.val)) ∧
    (∃ (i : Fin 9) (k : Fin 8) (port : Nat) (x : Sending) (s : State),
      s.sendingFrom i k = some (port, x) ∧ (s.port port).canSend (pClass x.out) = false ∨ s.nextTurn port ≠ some (pVc x.out, i.val)) ∧
    (∃ (port v i : Nat) (s : State), s.nextTurn port = some (v, i) ∧ v = 3) ∧
    (∃ (port v i : Nat) (s : State), s.nextTurn port = some (v, i) ∧ (s.port port).vc3Wait = 0 ∧ (∃ x ∈ s.readyFor port, x.2 = 3)) ∧
    (∃ (port v i : Nat) (s : State), s.nextTurn port = some (v, i) ∧ v < 3) ∧
    (∃ (i : Nat) (p : Packet) (s : State),
      let axis := leField p 8 1 % 4
      let link := leField p 9 1
      let broken := decide (leField p 10 1 = 1)
      s.quiet.mgmtPacket 0x2C = some (i, p) ∧ ((s.fab.rings.getD axis { breaks := [] }).breaks.contains link) = broken) ∧
    (∃ (i : Nat) (p : Packet) (s : State),
      let axis := leField p 8 1 % 4
      let link := leField p 9 1
      let broken := decide (leField p 10 1 = 1)
      s.quiet.mgmtPacket 0x2C = some (i, p) ∧ ((s.fab.rings.getD axis { breaks := [] }).breaks.contains link) ≠ broken) ∧
    (∃ (i : Nat) (p : Packet) (s : State),
      s.quiet.mgmtPacket 0x28 = some (i, p) ∧ s.fab.placed = true ∧ (pSrc p = s.fab.bellwether ∨ pSrc p = s.fab.deputy)) ∧
    (∃ (i : Nat) (p : Packet) (s : State),
      s.quiet.mgmtPacket 0x28 = some (i, p) ∧ (s.fab.placed = false ∨ (pSrc p ≠ s.fab.bellwether ∧ pSrc p ≠ s.fab.deputy))) ∧
    (∃ (x : TopoChange) (s : State), s.fab.draining = some x) :=
  ⟨⟨8, 6, mgmt 0x20 0 [], (ring2 0).modFab (fun f => { f with inject := [mgmt 0x20 0 []] }), by decide +kernel⟩,
   ⟨8, 6, mgmt 0x20 0 [], (live 5).modFab (fun f => { f with inject := [mgmt 0x20 0 []] }), by decide +kernel⟩,
   ⟨8, 0, mkPacket 0x01 0 2 0 [] [], (ring2 0).modFab (fun f => { f with inject := [mkPacket 0x01 0 2 0 [] []] }), 3, by decide +kernel⟩,
   ⟨8, 6, mkPacket 0x20 3 1 0 [] [], (ring2 0).modFab (fun f => { f with inject := [mkPacket 0x20 3 1 0 [] []] }), 0,
      withRoute (mkPacket 0x20 3 1 0 [] []) 0 false 0 1, by decide +kernel⟩,
   ⟨8, 6, mkPacket 0x20 3 1 0 [] [], ((ring2 0).modPort 0 (fun p => { p with credits := List.replicate 8 0 })).modFab (fun f =>
      { f with inject := [mkPacket 0x20 3 1 0 [] []] }), 0, withRoute (mkPacket 0x20 3 1 0 [] []) 0 false 0 1, by decide +kernel⟩,
   ⟨8, 6, mkPacket 0x20 3 1 0 [] [], (ring2 0).modFab (fun f => { f with inject := [mkPacket 0x20 3 1 0 [] []] }), 0,
      withRoute (mkPacket 0x20 3 1 0 [] []) 0 false 0 1, by decide +kernel⟩,
   ⟨8, 6, 0,
      { input := 8, cls := 6, packet := mkPacket 0x20 3 1 0 [] [], out := withRoute (mkPacket 0x20 3 1 0 [] []) 0 false 0 1, left := withRoute (mkPacket 0x20 3 1 0 [] []) 0 false 0 1, first := 0, alive := true },
      ((ring2 0).modFab (fun f => { f with inject := [mkPacket 0x20 3 1 0 [] []] })).modPort 0 (fun y => y.begin
      { input := 8, cls := 6, packet := mkPacket 0x20 3 1 0 [] [], out := withRoute (mkPacket 0x20 3 1 0 [] []) 0 false 0 1, left := withRoute (mkPacket 0x20 3 1 0 [] []) 0 false 0 1, first := 0, alive := true }),
      by decide +kernel⟩,
   ⟨8, 6, 0,
      { input := 8, cls := 6, packet := mkPacket 0x20 3 1 0 [] [], out := withRoute (mkPacket 0x20 3 1 0 [] []) 0 false 0 1, left := withRoute (mkPacket 0x20 3 1 0 [] []) 0 false 0 1, first := 0, alive := true },
      (((ring2 0).modPort 0 (fun p => { p with credits := List.replicate 8 0 })).modFab (fun f =>
      { f with inject := [mkPacket 0x20 3 1 0 [] []] })).modPort 0 (fun y => y.begin
      { input := 8, cls := 6, packet := mkPacket 0x20 3 1 0 [] [], out := withRoute (mkPacket 0x20 3 1 0 [] []) 0 false 0 1, left := withRoute (mkPacket 0x20 3 1 0 [] []) 0 false 0 1, first := 0, alive := true }),
      by decide +kernel⟩,
   ⟨0, 3, 8, (ring2 0).modFab (fun f => { f with inject := [mkPacket 0x20 3 1 0 [] []] }), by decide +kernel⟩,
   ⟨0, 3, 8, (ring2 0).modFab (fun f => { f with inject := [mkPacket 0x20 3 1 0 [] []] }), by decide +kernel⟩,
   ⟨0, 0, 8, (ring2 0).modFab (fun f => { f with inject := [mkPacket 0x01 0 1 0 [] []] }), by decide +kernel⟩,
   ⟨0, mgmt 0x2C 1 [0, 1, 0], got (ring2 0) [mgmt 0x2C 1 [0, 1, 0]], by decide +kernel⟩,
   ⟨0, mgmt 0x2C 1 [0, 1, 1], got (ring2 0) [mgmt 0x2C 1 [0, 1, 1]], by decide +kernel⟩,
   ⟨0, mgmt 0x28 0 [], got (ring2 1) [mgmt 0x28 0 []], by decide +kernel⟩,
   ⟨0, mgmt 0x28 5 [], got (ring2 1) [mgmt 0x28 5 []], by decide +kernel⟩,
   ⟨{ coord := 0, extent := 0, bellwether := 0, deputy := 0, placed := false, slot := none },
      (live 5).modFab (fun f => { f with draining := some { coord := 0, extent := 0, bellwether := 0, deputy := 0, placed := false, slot := none } }),
      by decide +kernel⟩⟩

theorem witness_Leaders :
    (∃ s : State, s.isBellwether = true ∧ s.fab.deputy ≠ s.fab.bellwether) ∧
    (∃ (x : Nat × Packet) (s : State), s.quiet.beaconPacket (· = 0) = some x ∧ s.isDeputy = true ∧ pSrc x.2 = s.fab.bellwether) ∧
    (∃ s : State, s.isDeputy = true) ∧
    (∃ (x : Nat × Packet) (s : State), s.quiet.beaconPacket (· != 0) = some x ∧ leField x.2 8 1 = 1 ∧ s.isBellwether = true) ∧
    (∃ (x : Nat × Packet) (s : State), s.quiet.beaconPacket (· != 0) = some x ∧ leField x.2 8 1 = 2) ∧
    (∃ s : State, s.coord.probing = true ∧ s.isDeputy = true) ∧
    (∃ (i : Nat) (p : Packet) (s : State),
      let bw := BitVec.ofNat 16 (leField p 8 2)
      let dep := BitVec.ofNat 16 (leField p 10 2)
      s.quiet.mgmtPacket 0x25 = some (i, p) ∧ bw = s.fab.bellwether ∧ dep = s.fab.deputy) ∧
    (∃ (i : Nat) (p : Packet) (s : State),
      let bw := BitVec.ofNat 16 (leField p 8 2)
      let dep := BitVec.ofNat 16 (leField p 10 2)
      s.quiet.mgmtPacket 0x25 = some (i, p) ∧ (bw ≠ s.fab.bellwether ∨ dep ≠ s.fab.deputy)) ∧
    (∃ (p : Fin 8) (s : State), (s.pen p).notices ≠ []) ∧
    (∃ s : State, s.isBellwether = false) ∧
    (∃ (i : Nat) (p : Packet) (s : State), s.quiet.mgmtPacket 0x2B = some (i, p)) ∧
    (∃ (q id : Nat) (x : Queue) (s : State), s.queue? q = some x ∧ s.waitingHead x = some id ∧ (s.pen x.pen).member = true) :=
  ⟨⟨(ring2 0).modTime (fun t => { t with role := 2 }), by decide +kernel⟩,
   ⟨(0, mgmt 0x24 0 [0]), got (ring2 1) [mgmt 0x24 0 [0]], by decide +kernel⟩,
   ⟨ring2 1, by decide +kernel⟩,
   ⟨(0, mgmt 0x24 1 [1]), got ((ring2 0).modTime (fun t => { t with role := 2 })) [mgmt 0x24 1 [1]], by decide +kernel⟩,
   ⟨(0, mgmt 0x24 1 [2]), got (ring2 1) [mgmt 0x24 1 [2]], by decide +kernel⟩,
   ⟨(ring2 1).modCoord (fun c => { c with probing := true }), by decide +kernel⟩,
   ⟨0, mgmt 0x25 1 [0, 0, 1, 0], got (ring2 1) [mgmt 0x25 1 [0, 0, 1, 0]], by decide +kernel⟩,
   ⟨0, mgmt 0x25 1 [1, 0, 1, 0], got (ring2 1) [mgmt 0x25 1 [1, 0, 1, 0]], by decide +kernel⟩,
   ⟨0, (ring2 1).modPen 0 (fun p => { p with notices := [{ key := 1, generation := 0, cause := 0, suspect := 1 }] }), by decide +kernel⟩,
   ⟨ring2 1, by decide +kernel⟩,
   ⟨0, mgmt 0x2B 0 [1, 0, 0, 0], got (ring2 1) [mgmt 0x2B 0 [1, 0, 0, 0]], by decide +kernel⟩,
   ⟨0, 0, queueOf .opr, ((oprWith (setBytes rng 12 [0, 0, 0, 0,
      1])).modPen 0 (fun p => { p with placement := some { parsePlacement (z 64) with lextent := 1 } })), by decide +kernel⟩⟩

theorem witness_Recovery :
    (∃ (x : Nat × Packet) (s : State), s.quiet.mgmtPacket 0x26 = some x ∧ (s.isBellwether = true ∨ s.isDeputy = true)) ∧
    (∃ (x : Nat × Packet) (s : State), s.quiet.mgmtPacket 0x26 = some x ∧ s.isBellwether = false ∧ s.isDeputy = false) ∧
    (∃ (x : Nat × Packet) (s : State), s.quiet.mgmtPacket 0x27 = some x ∧ (s.isBellwether = true ∨ s.isDeputy = true)) ∧
    (∃ (x : Nat × Packet) (s : State), s.quiet.mgmtPacket 0x27 = some x ∧ s.isBellwether = false ∧ s.isDeputy = false) ∧
    (∃ (key : B16) (j : Job) (s : State), s.job? key = some j ∧ j.phase = .collect ∧ s.isBellwether = true) ∧
    (∃ (key : B16) (j : Job) (s : State), s.job? key = some j ∧ j.phase = .collect ∧ s.isDeputy = true) ∧
    (∃ (key : B16) (j : Job) (s : State), s.job? key = some j ∧ j.phase = .plan ∧ s.isBellwether = true ∧ j.waiting ≠ []) ∧
    (∃ (key : B16) (j : Job) (s : State), s.job? key = some j ∧ j.phase = .halt ∧ s.isBellwether = true) ∧
    (∃ (x : Nat × Packet) (s : State), s.quiet.mgmtPacket 0x2A = some x ∧ s.isBellwether = false) ∧
    (∃ (x : Nat × Packet) (s : State) (j : _),
      let key := BitVec.ofNat 16 (leField x.2 8 2)
      s.quiet.mgmtPacket 0x2A = some x ∧ s.isBellwether = true ∧ s.coord.jobs = [j] ∧ j.key = key ∧ leField x.2 12 4 = j.generation.toNat ∧
        leField x.2 10 1 = j.phase.code ∧ j.phase.announced = true) ∧
    (∃ (x : Nat × Packet) (s : State),
      let key := BitVec.ofNat 16 (leField x.2 8 2)
      let r : RecoveryReport :=
        { phase := leField x.2 10 1, status := leField x.2 11 1, generation := BitVec.ofNat 32 (leField x.2 12 4), subs := parseSubs x.2 }
      s.quiet.mgmtPacket 0x29 = some x ∧ s.hubPresent = true ∧ r.generation.toNat < (s.generation key).toNat) ∧
    (∃ (x : Nat × Packet) (s : State),
      let key := BitVec.ofNat 16 (leField x.2 8 2)
      let r : RecoveryReport :=
        { phase := leField x.2 10 1, status := leField x.2 11 1, generation := BitVec.ofNat 32 (leField x.2 12 4), subs := parseSubs x.2 }
      s.quiet.mgmtPacket 0x29 = some x ∧ s.hubPresent = true ∧ (s.generation key).toNat ≤ r.generation.toNat) :=
  ⟨⟨(0, mgmt 0x26 1 (z 12)), got ((ring2 0).modTime (fun t => { t with role := 2 })) [mgmt 0x26 1 (z 12)], by decide +kernel⟩,
   ⟨(0, mgmt 0x26 1 (z 12)), got ((ring2 1).modFab (fun f => { f with deputy := 0 })) [mgmt 0x26 1 (z 12)], by decide +kernel⟩,
   ⟨(0, mgmt 0x27 1 (z 12)), got ((ring2 0).modTime (fun t => { t with role := 2 })) [mgmt 0x27 1 (z 12)], by decide +kernel⟩,
   ⟨(0, mgmt 0x27 1 (z 12)), got ((ring2 1).modFab (fun f => { f with deputy := 0 })) [mgmt 0x27 1 (z 12)], by decide +kernel⟩,
   ⟨1, { key := 1, lextent := 1, members := [], phase := .collect, generation := 0, notices := [], subs := [] },
      ((ring2 0).modTime (fun t => { t with role := 2 })).modCoord (fun c =>
      { c with jobs := [{ key := 1, lextent := 1, members := [], phase := .collect, generation := 0, notices := [], subs := [] }] }),
      by decide +kernel⟩,
   ⟨1, { key := 1, lextent := 1, members := [], phase := .collect, generation := 0, notices := [], subs := [] },
      (ring2 1).modCoord (fun c =>
      { c with jobs := [{ key := 1, lextent := 1, members := [], phase := .collect, generation := 0, notices := [], subs := [] }] }),
      by decide +kernel⟩,
   ⟨1, { key := 1, lextent := 1, members := [{ coord := 1, lcoord := 0, joined := false, acked := false, failed := false }], phase := .plan, generation := 0, notices := [], subs := [] },
      (ring2 0).modCoord (fun c =>
      { c with jobs := [{ key := 1, lextent := 1, members := [{ coord := 1, lcoord := 0, joined := false, acked := false, failed := false }], phase := .plan, generation := 0, notices := [], subs := [] }] }),
      by decide +kernel⟩,
   ⟨1, { key := 1, lextent := 1, members := [], phase := .halt, generation := 0, notices := [], subs := [] },
      ((ring2 0).modTime (fun t => { t with role := 2 })).modCoord (fun c =>
      { c with jobs := [{ key := 1, lextent := 1, members := [], phase := .halt, generation := 0, notices := [], subs := [] }] }), by decide +kernel⟩,
   ⟨(0, mgmt 0x2A 1 (z 8)), got (ring2 1) [mgmt 0x2A 1 (z 8)], by decide +kernel⟩,
   ⟨(0, mgmt 0x2A 1 [1, 0, 2, 0, 0, 0, 0, 0]), got (((ring2 0).modTime (fun t => { t with role := 2 })).modCoord (fun c =>
      { c with jobs := [{ key := 1, lextent := 1, members := [], phase := .halt, generation := 0, notices := [], subs := [] }] })) [mgmt 0x2A 1 [1, 0,
      2, 0, 0, 0, 0, 0]], { key := 1, lextent := 1, members := [], phase := .halt, generation := 0, notices := [], subs := [] }, by decide +kernel⟩,
   ⟨(0, mgmt 0x29 0 [1, 0, 4, 0, 0, 0, 0, 0]), got ((ring2 1).modCoord (fun c =>
      { c with reports := [(1, { phase := 0, status := 0, generation := 1, subs := [] })] })) [mgmt 0x29 0 [1, 0, 4, 0, 0, 0, 0, 0]],
      by decide +kernel⟩,
   ⟨(0, mgmt 0x29 0 [1, 0, 4, 0, 0, 0, 0, 0]), got (ring2 1) [mgmt 0x29 0 [1, 0, 4, 0, 0, 0, 0, 0]], by decide +kernel⟩⟩

theorem witness_RemoteOperations :
    (∃ (c : Nat → Instr) (op q : Nat) (x : Queue) (d : List Byte) (s : State),
      (s.queue? q = some x ∧ x.type = .rop ∧ s.takes x = true ∧ rOp d = op ∧ s.ropOpen x = false) ∧
        (c, op) ∈ [(Instr.put, 1), (.get, 2), (.putAcc, 3), (.atomic, 4), (.signal, 5), (.ropFence, 6)] ∧ s.headEntry x = .ok d) ∧
    (∃ (c : Nat → Instr) (op q : Nat) (x : Queue) (d : List Byte) (s : State),
      (s.queue? q = some x ∧ x.type = .rop ∧ s.takes x = true ∧ rOp d = op ∧ s.ropOpen x = true ∧ s.ropError x d = none ∧ s.ropHeld x d = false) ∧
        (c, op) ∈ [(Instr.put, 1), (.get, 2), (.putAcc, 3), (.atomic, 4), (.signal, 5), (.ropFence, 6)] ∧ s.headEntry x = .ok d) ∧
    (∃ (c : Nat → Instr) (op q : Nat) (x : Queue) (d : List Byte) (s : State),
      (s.queue? q = some x ∧ x.type = .rop ∧ s.takes x = true ∧ rOp d = op ∧ s.ropOpen x = true ∧ s.ropError x d = none ∧ s.ropHeld x d = true) ∧
        (c, op) ∈ [(Instr.put, 1), (.get, 2), (.putAcc, 3), (.atomic, 4), (.signal, 5), (.ropFence, 6)] ∧ s.headEntry x = .ok d) ∧
    (∃ (c : Nat → Instr) (op q : Nat) (x : Queue) (d : List Byte) (s : State) (code : _),
      (s.queue? q = some x ∧ x.type = .rop ∧ s.takes x = true ∧ rOp d = op ∧ s.ropOpen x = true ∧ s.ropError x d = some code) ∧
        (c, op) ∈ [(Instr.put, 1), (.get, 2), (.putAcc, 3), (.atomic, 4), (.signal, 5), (.ropFence, 6)] ∧ s.headEntry x = .ok d) ∧
    (∃ (q : Nat) (seq : Word) (r : RopOp) (s : State),
      s.qe.rops.find? (fun r => r.queue = q && rSeq r.desc = seq.toNat && !r.waiting && r.due.isNone && rOp r.desc != 6) = some r) :=
  ⟨⟨Instr.put, 1, 0, { queueOf .rop with out := 8 }, put, headOf { queueOf .rop with out := 8 } put, by decide +kernel, by simp,
      ok_of (by decide +kernel)⟩,
   ⟨Instr.put, 1, 0, queueOf .rop, put, headOf (queueOf .rop) put, by decide +kernel, by simp, ok_of (by decide +kernel)⟩,
   ⟨Instr.put, 1, 0, queueOf .rop, setBytes (setBytes put 8 (leBytes 4 0x200100)) 16 (leBytes 4 0x200100),
      (headOf (queueOf .rop) (setBytes (setBytes put 8 (leBytes 4 0x200100)) 16 (leBytes 4 0x200100))).modStack 1 (fun k =>
      { k with trained := false }), by decide +kernel, by simp, ok_of (by decide +kernel)⟩,
   ⟨Instr.put, 1, 0, queueOf .rop, setBytes put 24 [0], headOf (queueOf .rop) (setBytes put 24 [0]), 4, by decide +kernel, by simp,
      ok_of (by decide +kernel)⟩,
   ⟨0, 0, putOp 0, (live 5).modQe (fun x => { x with rops := [putOp 0] }), by decide +kernel⟩⟩

theorem witness_RemotePackets :
    (∃ (x : Nat × Packet) (s : State), s.quiet.headPacket 0 0x01 = some x ∧ s.putHeld x.2 false = false ∧ s.acceptOp x.2 ≠ 0) ∧
    (∃ (x : Nat × Packet) (s : State), s.quiet.headPacket 0 0x01 = some x ∧ s.putHeld x.2 false = true) ∧
    (∃ (x : Nat × Packet) (s : State), s.quiet.headPacket 2 0x05 = some x ∧ s.putHeld x.2 true = false ∧ s.acceptOp x.2 ≠ 0) ∧
    (∃ (x : Nat × Packet) (s : State), s.quiet.headPacket 2 0x05 = some x ∧ s.putHeld x.2 true = true) ∧
    (∃ (x : Nat × Packet) (s : State), s.quiet.headPacket 0 0x02 = some x ∧ s.requestHeld s.qe.held x.2 = true) ∧
    (∃ (x : Nat × Packet) (s : State), s.quiet.headPacket 0 0x02 = some x ∧ s.requestHeld s.qe.held x.2 = false ∧ s.acceptOp x.2 ≠ 0) ∧
    (∃ (x : Nat × Packet) (s : State),
      s.quiet.headPacket 0 0x02 = some x ∧ s.requestHeld s.qe.held x.2 = false ∧ s.acceptOp x.2 = 0 ∧
        s.penMapped (pPen x.2) (pAddr x.2) (pArg0 x.2) = false) ∧
    (∃ (x : Nat × Packet) (s : State),
      s.quiet.headPacket 0 0x02 = some x ∧ s.requestHeld s.qe.held x.2 = false ∧ s.acceptOp x.2 = 0 ∧
        s.penMapped (pPen x.2) (pAddr x.2) (pArg0 x.2) = true) ∧
    (∃ (c : Instr) (ty : Nat) (x : Nat × Packet) (s : State),
      (s.quiet.headPacket 0 ty = some x ∧ s.requestHeld s.qe.held x.2 = true) ∧ (c, ty) ∈ [(Instr.atomicReq, 0x03), (.signalReq, 0x04)]) ∧
    (∃ (x : Nat × Packet) (s : State), s.quiet.headPacket 0 0x03 = some x ∧ s.requestHeld s.qe.held x.2 = false ∧ s.acceptOp x.2 ≠ 0) ∧
    (∃ (x : Nat × Packet) (s : State),
      s.quiet.headPacket 0 0x03 = some x ∧ s.requestHeld s.qe.held x.2 = false ∧ s.acceptOp x.2 = 0 ∧ s.penMapped (pPen x.2) (pAddr x.2) 8 = false) ∧
    (∃ (x : Nat × Packet) (s : State),
      s.quiet.headPacket 0 0x03 = some x ∧ s.requestHeld s.qe.held x.2 = false ∧ s.acceptOp x.2 = 0 ∧ s.penMapped (pPen x.2) (pAddr x.2) 8 = true) ∧
    (∃ (x : Nat × Packet) (s : State), s.quiet.headPacket 0 0x04 = some x ∧ s.requestHeld s.qe.held x.2 = false ∧ s.acceptOp x.2 ≠ 0) ∧
    (∃ (x : Nat × Packet) (s : State),
      s.quiet.headPacket 0 0x04 = some x ∧ s.requestHeld s.qe.held x.2 = false ∧ s.acceptOp x.2 = 0 ∧ (pArg1 x.2).testBit 16 = false) ∧
    (∃ (x : Nat × Packet) (s : State),
      s.quiet.headPacket 0 0x04 = some x ∧ s.requestHeld s.qe.held x.2 = false ∧ s.acceptOp x.2 = 0 ∧ (pArg1 x.2).testBit 16 = true) ∧
    (∃ (c : Instr) (ty : Nat) (x : Nat × Packet) (s : State),
      (s.quiet.headPacket 1 ty = some x ∧ s.landingHeld x.2 = true) ∧ (c, ty) ∈ [(Instr.ack, 0x10), (.getData, 0x12), (.valueResp, 0x13)]) ∧
    (∃ (c : Instr) (ty : Nat) (x : Nat × Packet) (s : State),
      (s.quiet.headPacket 1 ty = some x ∧ s.landingHeld x.2 = false) ∧ (c, ty) ∈ [(Instr.ack, 0x10), (.getData, 0x12), (.valueResp, 0x13)]) ∧
    (∃ (c : Instr) (ty : Nat) (x : Nat × Packet) (s : State),
      (c, ty) ∈ [(Instr.ack, 0x10), (.getData, 0x12), (.valueResp, 0x13)] ∧ s.quiet.headPacket 1 ty = some x ∧ s.ropOf (pTag x.2) = none) ∧
    (∃ (c : Instr) (ty : Nat) (x : Nat × Packet) (s : State) (r : _),
      (c, ty) ∈ [(Instr.ack, 0x10), (.getData, 0x12), (.valueResp, 0x13)] ∧ s.quiet.headPacket 1 ty = some x ∧ s.ropOf (pTag x.2) = some r ∧
        ty = 0x10 ∧ pArg1 x.2 % 256 = 0) ∧
    (∃ (x : Nat × Packet) (r : RopOp) (s : State),
      let status := leField x.2 31 1
      let i := refusedIndex r x.2
      s.quiet.headPacket 1 0x11 = some x ∧ s.ropOf (pTag x.2) = some r ∧ status = 2 ∧ r.epoch ≠ s.fab.routeEpoch ∧ r.frags[i]? = some .inFlight) ∧
    (∃ (x : Nat × Packet) (r : RopOp) (s : State),
      let status := leField x.2 31 1
      let i := refusedIndex r x.2
      s.quiet.headPacket 1 0x11 = some x ∧ s.ropOf (pTag x.2) = some r ∧
        (r.epoch = s.fab.routeEpoch ∨ r.frags[i]? ≠ some .inFlight ∨ status = 1 ∨ status = 3 ∨ status = 4 ∨ status = 5)) ∧
    (∃ (x : Nat × Packet) (s : State),
      s.quiet.headPacket 1 0x11 = some x ∧ s.ropOf (pTag x.2) = none ∧ leField x.2 8 1 = 1 ∧ leField x.2 31 1 = 1 ∧ pSrc x.2 = s.fab.bellwether ∧
        s.coord.probing = true ∧ s.isDeputy = true) :=
  ⟨⟨(0, request 0x01 0 5 0 0), served (request 0x01 0 5 0 0), by decide +kernel⟩,
   ⟨(0, request 0x01 0 0 0 0), (served (request 0x01 0 0 0 0)).modNp (fun n => { n with stackList := NearMem.initial.stackList }), by decide +kernel⟩,
   ⟨(0, request 0x05 2 5 0 0), served (request 0x05 2 5 0 0), by decide +kernel⟩,
   ⟨(0, request 0x05 2 0 0 0), (served (request 0x05 2 0 0 0)).modNp (fun n => { n with stackList := NearMem.initial.stackList }), by decide +kernel⟩,
   ⟨(0, request 0x02 0 0 4 0), (served (request 0x02 0 0 4 0)).modNp (fun n => { n with stackList := NearMem.initial.stackList }), by decide +kernel⟩,
   ⟨(0, request 0x02 0 5 4 0), served (request 0x02 0 5 4 0), by decide +kernel⟩,
   ⟨(0, request 0x02 0 0 4 0), (served (request 0x02 0 0 4 0)).modPen 0 (fun p => { p with pages := [] }), by decide +kernel⟩,
   ⟨(0, request 0x02 0 0 4 0), served (request 0x02 0 0 4 0), by decide +kernel⟩,
   ⟨Instr.atomicReq, 0x03, (0, request 0x03 0 0 0 0),
      (served (request 0x03 0 0 0 0)).modNp (fun n => { n with stackList := NearMem.initial.stackList }), by decide +kernel, by simp⟩,
   ⟨(0, request 0x03 0 5 0 0), served (request 0x03 0 5 0 0), by decide +kernel⟩,
   ⟨(0, request 0x03 0 0 0 0), (served (request 0x03 0 0 0 0)).modPen 0 (fun p => { p with pages := [] }), by decide +kernel⟩,
   ⟨(0, request 0x03 0 0 0 0), served (request 0x03 0 0 0 0), by decide +kernel⟩,
   ⟨(0, request 0x04 0 5 1 0), served (request 0x04 0 5 1 0), by decide +kernel⟩,
   ⟨(0, request 0x04 0 0 1 65535), served (request 0x04 0 0 1 65535), by decide +kernel⟩,
   ⟨(0, request 0x04 0 0 1 131071), served (request 0x04 0 0 1 131071), by decide +kernel⟩,
   ⟨Instr.getData, 0x12, (0, request 0x12 1 0 0 0),
      ((served (request 0x12 1 0 0 0)).modQe (fun x => { x with rops := [putOp 0] })).modNp (fun n =>
      { n with stackList := NearMem.initial.stackList }), by decide +kernel, by simp⟩,
   ⟨Instr.ack, 0x10, (0, request 0x10 1 0 0 0), (served (request 0x10 1 0 0 0)).modQe (fun x => { x with rops := [putOp 0] }), by decide +kernel,
      by simp⟩,
   ⟨Instr.valueResp, 0x13, (0, request 0x13 1 0 0 0), served (request 0x13 1 0 0 0), by decide +kernel⟩,
   ⟨Instr.ack, 0x10, (0, request 0x10 1 0 0 0), (served (request 0x10 1 0 0 0)).modQe (fun x => { x with rops := [putOp 0] }), putOp 0,
      by decide +kernel⟩,
   ⟨(0, request 0x11 1 0 0 0x02000000), putOp 1, (served (request 0x11 1 0 0 0x02000000)).modQe (fun x => { x with rops := [putOp 1] }),
      by decide +kernel⟩,
   ⟨(0, request 0x11 1 0 0 0x01000000), putOp 0, (served (request 0x11 1 0 0 0x01000000)).modQe (fun x => { x with rops := [putOp 0] }),
      by decide +kernel⟩,
   ⟨(0, mkPacket 0x11 1 1 0 ([1] ++ z 22 ++ [1]) []),
      got ((ring2 1).modCoord (fun c => { c with probing := true })) [mkPacket 0x11 1 1 0 ([1] ++ z 22 ++ [1]) []], by decide +kernel⟩⟩

theorem witness_VideoWork :
    (∃ (c : Nat → Instr) (op q : Nat) (x : Queue) (e : List Byte) (s : State),
      (s.queue? q = some x ∧ x.type = .vid ∧ s.takes x = true ∧ vOp e = op ∧ s.streamTakes e = false) ∧
        (c, op) ∈ [(Instr.data, 1), (.output, 2), (.encode, 3), (.flush, 4)] ∧ s.headEntry x = .ok e) ∧
    (∃ (c : Nat → Instr) (op q : Nat) (x : Queue) (e : List Byte) (s : State),
      (s.queue? q = some x ∧ x.type = .vid ∧ s.takes x = true ∧ vOp e = op ∧ s.streamTakes e = true ∧ s.videoError x e = none ∧
        (op = 1 → s.videoHeld x.pen e = false)) ∧ (c, op) ∈ [(Instr.data, 1), (.output, 2), (.encode, 3), (.flush, 4)] ∧ s.headEntry x = .ok e) ∧
    (∃ (c : Nat → Instr) (op q : Nat) (x : Queue) (e : List Byte) (s : State),
      (s.queue? q = some x ∧ x.type = .vid ∧ s.takes x = true ∧ vOp e = op ∧ s.streamTakes e = true ∧ s.videoError x e = none ∧ op = 1 ∧
        s.videoHeld x.pen e = true) ∧ (c, op) ∈ [(Instr.data, 1), (.output, 2), (.encode, 3), (.flush, 4)] ∧ s.headEntry x = .ok e) ∧
    (∃ (c : Nat → Instr) (op q : Nat) (x : Queue) (e : List Byte) (s : State) (code : _),
      (s.queue? q = some x ∧ x.type = .vid ∧ s.takes x = true ∧ vOp e = op ∧ s.streamTakes e = true ∧ s.videoError x e = some code) ∧
        (c, op) ∈ [(Instr.data, 1), (.output, 2), (.encode, 3), (.flush, 4)] ∧ s.headEntry x = .ok e) ∧
    (∃ (core : Fin 6) (s : State) (x w : _),
      (s.core core).busy = none ∧ (s.core core).inReset = false ∧ s.boot.shepherdRuns = true ∧
        pickPicture s.time.clock (s.readyPictures (decide (4 ≤ core.val))) = some (x, w)) ∧
    (∃ (core : Fin 6) (s : State),
      (s.core core).busy = none ∧ (s.core core).inReset = false ∧ s.boot.shepherdRuns = true ∧
        pickPicture s.time.clock (s.readyPictures (decide (4 ≤ core.val))) = none) ∧
    (∃ (core : Fin 6) (s : State), (s.core core).resetQueued = false ∧ s.pictureHeld core = false) ∧
    (∃ (core : Fin 6) (s : State), (s.core core).resetQueued = false ∧ s.pictureHeld core = true) ∧
    (∃ (core : Fin 6) (s : State), (s.core core).resetQueued = true) ∧
    (∃ (core : Fin 6) (s : State),
      (s.core core).busy ≠ none ∧ (s.core core).inReset = false ∧ s.boot.shepherdRuns = true ∧ (∃ k ∈ s.video.cores, k.inReset = true)) ∧
    (∃ (core : Fin 6) (s : State),
      (s.core core).busy ≠ none ∧ (s.core core).inReset = false ∧ s.boot.shepherdRuns = true ∧ (∀ k ∈ s.video.cores, k.inReset = false ∧
        k.resetQueued = false)) ∧
    (∃ (core : Fin 6) (s : State), (s.core core).inReset = true) :=
  ⟨⟨Instr.data, 1, 0, queueOf .vid, dataEntry, vidWith { stream0 with flush := some [] } dataEntry, by decide +kernel, by simp,
      ok_of (by decide +kernel)⟩,
   ⟨Instr.data, 1, 0, queueOf .vid, dataEntry, vidWith stream0 dataEntry, by decide +kernel, by simp, ok_of (by decide +kernel)⟩,
   ⟨Instr.data, 1, 0, queueOf .vid, (setBytes dataEntry 12 (leBytes 8 256)),
      ((enqueued (holds (pen0 .running) [{ nearTensor 1 0xC 1 1024 with pinned := true }]) (queueOf .vid) (setBytes dataEntry 12 (leBytes 8
      256))).modVideo (fun v => { v with streams := [stream0] })).modStack 1 (fun k => { k with trained := false }), by decide +kernel, by simp,
      ok_of (by decide +kernel)⟩,
   ⟨Instr.data, 1, 0, queueOf .vid, setBytes dataEntry 20 [0], vidWith stream0 (setBytes dataEntry 20 [0]), 0x31, by decide +kernel, by simp,
      ok_of (by decide +kernel)⟩,
   ⟨0, vidWith { stream0 with ready := some workOf } dataEntry, { stream0 with ready := some workOf }, workOf, by decide +kernel⟩,
   ⟨5, live 5, by decide +kernel⟩,
   ⟨5, live 5, by decide +kernel⟩,
   ⟨5, ((holds (pen0 .running) [{ tensor1 with pinned := true }]).modVideo (fun v =>
      { v with streams := [{ stream0 with conf := { stream0.conf with encode := true } }], cores := v.cores.set 5 { busy := some (0, { workOf with entry := setBytes (z 128) 8 [1] }), inReset := false, resetQueued := false } })).modNp
      (fun n => { n with stackList := NearMem.initial.stackList }), by decide +kernel⟩,
   ⟨5, coreWith 5 { busy := none, inReset := false, resetQueued := true }, by decide +kernel⟩,
   ⟨5, (coreWith 5 { busy := some (0, workOf), inReset := false, resetQueued := false }).modVideo (fun v =>
      { v with cores := v.cores.set 0 { busy := none, inReset := true, resetQueued := false } }), by decide +kernel⟩,
   ⟨5, coreWith 5 { busy := some (0, workOf), inReset := false, resetQueued := false }, by decide +kernel⟩,
   ⟨0, coreWith 0 { busy := none, inReset := true, resetQueued := false }, by decide +kernel⟩⟩

theorem witness_PenEnds :
    (∃ (p : Fin 8) (s : State), (s.pen p).state = .quiescing ∧ s.penDrained p = true ∧ s.boot.shepherdRuns = true) ∧
    (∃ (p : Fin 8) (s : State),
      ((s.pen p).state = .wiping ∧ (∀ r ∈ s.qe.rops, r.pen ≠ p) ∧ (∀ x ∈ s.video.streams, x.pen ≠ p) ∧
        (∀ n ∈ (s.pen p).nearPages, s.npHeld .wipe (n * pageBytes) pageBytes = false)) ∧
        (∀ q, q ≠ p.val → ∀ x ∈ (s.pen q).tensors, x.allocWait = false)) ∧
    (∃ (p : Fin 8) (s : State),
      (s.pen p).state = .wiping ∧ (∀ r ∈ s.qe.rops, r.pen ≠ p) ∧ (∀ x ∈ s.video.streams, x.pen ≠ p) ∧
        (∃ n ∈ (s.pen p).nearPages, s.npHeld .wipe (n * pageBytes) pageBytes = true)) :=
  ⟨⟨0, pen0 .quiescing, by decide +kernel⟩,
   ⟨0, pen0 .wiping, by decide +kernel, no_tensors (by decide +kernel)⟩,
   ⟨0, (holds (pen0 .wiping) [tensor1]).modNp (fun n => { n with stackList := NearMem.initial.stackList }), by decide +kernel⟩⟩

end Sys2Proof.Tests
end

/-! SUPPORT. The registers of a host function (R8 to R11, R303, R399): little-endian fields of a byte list, what an access of BAR0
or BAR2 does by its form, and the words of the stage page and of a slot. -/

namespace Sys2Proof

/-! ### Little-endian fields -/

@[simp] theorem length_leBytes (n v : Nat) : (leBytes n v).length = n := by
  induction n generalizing v with
  | zero => rfl
  | succ n ih => simp [leBytes, ih]

/-- R3: the bytes of a number spell it, as far as they go. -/
theorem leNat_leBytes (n v : Nat) : leNat (leBytes n v) = v % 256 ^ n := by
  induction n generalizing v with
  | zero => simp [leBytes, leNat, Nat.mod_one]
  | succ n ih =>
    rw [leBytes, leNat, ih, BitVec.toNat_ofNat, show 2 ^ 8 = 256 from rfl, ← Nat.mod_mul, ← Nat.pow_succ']

theorem leNat_zeros (n : Nat) : leNat (List.replicate n 0) = 0 := by
  induction n with
  | zero => rfl
  | succ n ih =>
    rw [List.replicate_succ, leNat, ih]
    rfl

theorem leNat_append_zeros (bs : List Byte) (n : Nat) : leNat (bs ++ List.replicate n 0) = leNat bs := by
  induction bs with
  | nil => exact leNat_zeros n
  | cons b bs ih => rw [List.cons_append, leNat, leNat, ih]

/-- Bytes beyond the end of a list read as zero, so zeros at its end make no difference. -/
theorem leField_append_zeros (bs : List Byte) (n off size : Nat) :
    leField (bs ++ List.replicate n 0) off size = leField bs off size := by
  simp only [leField, List.drop_append, List.take_append, List.drop_replicate, List.take_replicate, leNat_append_zeros]

/-- What `leField` reads between `off` and the end of `new` after `new` has been put there. -/
theorem leField_setBytes {bs new : List Byte} {off : Nat} (h : off + new.length ≤ bs.length) :
    leField (setBytes bs off new) off new.length = leNat new := by
  have ho : (bs.take off).length = off := List.length_take_of_le (by omega)
  have hfits : (bs.take off ++ new ++ bs.drop (off + new.length)).length = bs.length := by
    simp only [List.length_append, List.length_drop, ho]
    omega
  rw [leField, setBytes, List.take_of_length_le (Nat.le_of_eq hfits), List.append_assoc]
  congr 1
  rw [List.drop_append_of_le_length (Nat.le_of_eq ho.symm), List.drop_of_length_le (Nat.le_of_eq ho), List.nil_append, List.take_left]

namespace Machine

theorem trimZeros_append_zeros (bs : List Byte) : ∃ n, trimZeros bs ++ List.replicate n 0 = bs := by
  have hz : (bs.reverse.takeWhile (· == 0)).reverse = List.replicate (bs.reverse.takeWhile (· == 0)).reverse.length 0 :=
    List.eq_replicate_iff.2 ⟨rfl, fun b hb => beq_iff_eq.1 (List.all_eq_true.1 List.all_takeWhile b (List.mem_reverse.1 hb))⟩
  refine ⟨(bs.reverse.takeWhile (· == 0)).reverse.length, ?_⟩
  rw [← hz, trimZeros, ← List.reverse_append, List.takeWhile_append_dropWhile, List.reverse_reverse]

@[simp] theorem leField_trimZeros (bs : List Byte) (off size : Nat) : leField (trimZeros bs) off size = leField bs off size := by
  obtain ⟨n, hn⟩ := trimZeros_append_zeros bs
  calc leField (trimZeros bs) off size
      = leField (trimZeros bs ++ List.replicate n 0) off size := (leField_append_zeros ..).symm
    _ = leField bs off size := by rw [hn]

theorem length_padTo (n : Nat) (bs : List Byte) : (padTo n bs).length = n := by
  simp only [padTo, List.length_append, List.length_take, List.length_replicate]
  omega

/-- Table 16.6: a word written into the request area reads back. -/
theorem Mailbox.leField_putRequest (m : Mailbox) {off : Nat} (w : Word) (h : off + 4 ≤ 4032) :
    leField (m.putRequest off w).req off 4 = w.toNat := by
  have hfits : off + (leBytes 4 w.toNat).length ≤ (padTo 4032 m.req).length := by rw [length_leBytes, length_padTo]; exact h
  have hread := leField_setBytes hfits
  rw [length_leBytes, leNat_leBytes, show 256 ^ 4 = 2 ^ 32 from rfl, Nat.mod_eq_of_lt w.isLt] at hread
  simpa [Mailbox.putRequest] using hread

/-! ### One function, one slot -/

theorem State.modFn_fnRegs {s : State} {fn : Nat} (f : FnRegs → FnRegs) (h : fn < s.host.fns.length) :
    (s.modFn fn f).fnRegs fn = f (s.fnRegs fn) := by
  simp [State.fnRegs, h]

theorem State.modSlot_slotAt {s : State} {i : Nat} (f : Mailbox → Mailbox) (h : i < s.host.slots.length) :
    (s.modSlot i f).slotAt i = f (s.slotAt i) := by
  simp [State.slotAt, h]

theorem HostIf.Sound.fn_lt {h : HostIf} (hs : h.Sound) (fn : Fin 9) : fn.val < h.fns.length := by rw [hs.1]; exact fn.isLt

theorem HostIf.Sound.ownerSlot_lt {h : HostIf} (hs : h.Sound) (slot : Fin 4) : slot.val < h.slots.length := by rw [hs.2]; omega

@[simp] theorem State.quiet_bar0Word (s : State) (fn off : Nat) : s.quiet.bar0Word fn off = s.bar0Word fn off := rfl

/-! ### Where an offset of BAR0 lies (Table 16.3) -/

theorem bar0Place_stage (fn : Nat) {o : Nat} (h : o < 0x1000) : bar0Place fn (0x1000 + o) = .stage o := by
  have hid : ¬ 0x1000 + o < 0x1000 := by omega
  have hst : 0x1000 + o < 0x2000 := by omega
  rw [bar0Place, if_neg hid, if_pos hst, Nat.add_sub_cancel_left]

theorem bar0Place_ownerSlot (slot : Fin 4) {o : Nat} (h : o < 0x2000) :
    bar0Place 0 (0x100000 + 0x2000 * slot + o) = .slot slot o := by
  have hplace : 0x100000 + 0x2000 * slot.val + o < 0x108000 := by omega
  have hi : (0x100000 + 0x2000 * slot.val + o - 0x100000) / 0x2000 = slot := by omega
  have ho : (0x100000 + 0x2000 * slot.val + o - 0x100000) % 0x2000 = o := by omega
  have h1 : ¬ 0x100000 + 0x2000 * slot.val + o < 0x1000 := by omega
  have h2 : ¬ 0x100000 + 0x2000 * slot.val + o < 0x2000 := by omega
  have h3 : 0x100000 ≤ 0x100000 + 0x2000 * slot.val + o := by omega
  simp only [bar0Place, h1, h2, h3, hplace, hi, ho, if_false, if_true, decide_true, Bool.and_self]

theorem le_bar0Bytes (fn : Nat) : 0x10000 ≤ bar0Bytes fn := by
  unfold bar0Bytes
  split <;> decide

theorem ownerSlot_lt_bar0Bytes (slot : Fin 4) {o : Nat} (h : o < 0x2000) : 0x100000 + 0x2000 * slot + o < bar0Bytes 0 := by
  simp only [bar0Bytes, if_true]
  omega

/-! ### Register writes, by their form (R8, R10, R11, R399) -/

theorem exec_registerWrite (fn : Fin 9) (place : RegPlace) (wide : Bool) (v : DWord) (s : State) :
    exec (.registerWrite fn place wide v) s = execRegisterWrite fn place wide v s := rfl

section RegisterWrite

variable {fn : Fin 9} {off : Nat} {wide : Bool} {v : DWord} {s : State}

theorem registerWrite_unreached (h : s.boot.linkUp = false ∨ bar0Bytes fn ≤ off) :
    exec (.registerWrite fn (.bar0 off) wide v) s = .next s.quiet := by
  rw [exec_registerWrite, execRegisterWrite]
  rcases h with h | h
  · simp [h, done]
  · cases hl : s.boot.linkUp <;> simp [hl, h, done]

theorem registerWrite_misaligned (hl : s.boot.linkUp = true) (hb : off < bar0Bytes fn) (ha : off % (if wide then 8 else 4) ≠ 0) :
    exec (.registerWrite fn (.bar0 off) wide v) s = .next (s.quiet.logAccess fn off) := by
  have ha' : (off % (if wide then 8 else 4) != 0) = true := by simpa using ha
  simp only [exec_registerWrite, execRegisterWrite, State.quiet_boot, hl, Nat.not_le.2 hb, ha', done, Bool.not_true, Bool.false_eq_true,
    if_false, if_true]

theorem registerWrite_narrow (hl : s.boot.linkUp = true) (hb : off < bar0Bytes fn) (ha : off % 4 = 0) :
    exec (.registerWrite fn (.bar0 off) false v) s = .next (s.quiet.writeWord fn off (v.setWidth 32)) := by
  simp [exec_registerWrite, execRegisterWrite, hl, Nat.not_le.2 hb, ha, done]

/-- R9: a 64-bit write writes its two words, the lower first. -/
theorem registerWrite_wide (hl : s.boot.linkUp = true) (hb : off < bar0Bytes fn) (ha : off % 8 = 0)
    (hd : s.dropsWrite fn off = false) :
    exec (.registerWrite fn (.bar0 off) true v) s =
      .next ((s.quiet.writeWord fn off (v.setWidth 32)).writeWord fn (off + 4) ((v >>> 32).setWidth 32)) := by
  simp [exec_registerWrite, execRegisterWrite, hl, Nat.not_le.2 hb, ha, hd, done]

/-- R399: a 64-bit write whose words are both dropped is one dropped write. -/
theorem registerWrite_wide_dropped (hl : s.boot.linkUp = true) (hb : off < bar0Bytes fn) (ha : off % 8 = 0)
    (hd : s.dropsWrite fn off = true) (hd' : s.dropsWrite fn (off + 4) = true) :
    exec (.registerWrite fn (.bar0 off) true v) s = .next (s.quiet.writeWord fn off (v.setWidth 32)) := by
  simp [exec_registerWrite, execRegisterWrite, hl, Nat.not_le.2 hb, ha, hd, hd', done]

end RegisterWrite

/-! ### The stage page (Table 16.5) -/

theorem State.writeWord_stage (s : State) (fn : Nat) {o : Nat} (w : Word) (h : o < 0x1000) :
    s.writeWord fn (0x1000 + o) w = s.writeStage fn o w := by
  simp [State.writeWord, bar0Place_stage fn h, State.bar0Served]

theorem State.dropsWrite_stage (s : State) (fn : Nat) {o : Nat} (h : o < 0x1000) : s.dropsWrite fn (0x1000 + o) = false := by
  simp [State.dropsWrite, bar0Place_stage fn h]

theorem State.bar0Word_stage (s : State) (fn : Nat) {o : Nat} (h : o < 0x1000) : s.bar0Word fn (0x1000 + o) = s.stageWord fn o := by
  simp [State.bar0Word, bar0Place_stage fn h, State.bar0Served]

theorem stage_lt_bar0Bytes (fn : Nat) {o : Nat} (h : o < 0x1000) : 0x1000 + o < bar0Bytes fn := by
  have := le_bar0Bytes fn
  omega

theorem registerWrite_stage {fn : Fin 9} (o : Nat) {v : DWord} {s : State} (hl : s.boot.linkUp = true) (h : o < 0x1000)
    (ha : o % 4 = 0) :
    exec (.registerWrite fn (.bar0 (0x1000 + o)) false v) s = .next (s.quiet.writeStage fn o (v.setWidth 32)) := by
  rw [registerWrite_narrow hl (stage_lt_bar0Bytes fn h) (by omega), State.writeWord_stage _ _ _ h]

theorem registerWrite_stage_wide {fn : Fin 9} (o : Nat) {v : DWord} {s : State} (hl : s.boot.linkUp = true) (h : o + 4 < 0x1000)
    (ha : o % 8 = 0) :
    exec (.registerWrite fn (.bar0 (0x1000 + o)) true v) s =
      .next ((s.quiet.writeStage fn o (v.setWidth 32)).writeStage fn (o + 4) ((v >>> 32).setWidth 32)) := by
  have ho : o < 0x1000 := by omega
  rw [registerWrite_wide hl (stage_lt_bar0Bytes fn ho) (by omega) (State.dropsWrite_stage _ _ ho), Nat.add_assoc,
    State.writeWord_stage _ _ _ ho, State.writeWord_stage _ _ _ h]

/-- R10: the lower word of BAR4_WINDOW is held. -/
theorem State.writeStage_windowLow {s : State} {fn : Nat} (w : Word) (h : fn < s.host.fns.length) :
    (s.writeStage fn 0x10 w).fnRegs fn = { s.fnRegs fn with heldLow := [(0x1010, w)] } := State.modFn_fnRegs _ h

/-- R10: the upper word of BAR4_WINDOW takes effect with the lower word that is held. -/
theorem State.writeStage_windowHigh {s : State} {fn : Nat} {lo : Word} (w : Word) (h : fn < s.host.fns.length)
    (hh : (s.fnRegs fn).heldLow = [(0x1010, lo)]) :
    (s.writeStage fn 0x14 w).fnRegs fn = (s.fnRegs fn).setWindow lo.toNat w.toNat := by
  refine (State.modFn_fnRegs _ h).trans ?_
  rw [hh]

theorem State.writeStage_fns_length (s : State) (fn o : Nat) (w : Word) :
    (s.writeStage fn o w).host.fns.length = s.host.fns.length := by
  unfold State.writeStage
  split <;> simp

/-- What a write of the stage page may change. -/
theorem State.quiet_writeStage_only (s : State) (fn o : Nat) (w : Word) : Only [.host, .out] s (s.quiet.writeStage fn o w) :=
  ((State.quiet_keeps.mono (by decide)).step State.writeStage_keeps (by decide)).only

theorem State.quiet_writeStage_writeStage_only (s : State) (fn o o' : Nat) (w w' : Word) :
    Only [.host, .out] s ((s.quiet.writeStage fn o w).writeStage fn o' w') :=
  (((State.quiet_keeps.mono (by decide)).step State.writeStage_keeps (by decide)).step State.writeStage_keeps (by decide)).only

/-! ### The owner function's slots (Table 16.6) -/

section OwnerSlot

variable {slot : Fin 4} {k : Nat} {v : DWord} {s : State}

theorem State.writeSlot_request {fn i : Nat} (w : Word) (hk : k < 4032) :
    s.writeSlot fn i (0x40 + k) w = s.writeRequest fn i (fun m => m.putRequest k w) := by
  have hreq : (decide (0x40 ≤ 0x40 + k) && decide (0x40 + k < 0x1000)) = true := by
    simp only [Bool.and_eq_true, decide_eq_true_eq]
    omega
  unfold State.writeSlot
  split
  · omega
  · omega
  · omega
  · rw [if_pos hreq, Nat.add_sub_cancel_left]

theorem State.writeWord_ownerRequest (w : Word) (h2 : 2 ≤ s.boot.stage) (hk : k < 4032) :
    s.writeWord 0 (0x100000 + 0x2000 * slot + (0x40 + k)) w = s.writeRequest 0 slot (fun m => m.putRequest k w) := by
  rw [State.writeWord, bar0Place_ownerSlot slot (by omega)]
  simp [State.bar0Served, h2, State.writeSlot_request w hk]

theorem State.dropsWrite_ownerRequest (h2 : 2 ≤ s.boot.stage) (hk : k < 4032) (hb : (s.slotAt slot).state = 1) :
    s.dropsWrite 0 (0x100000 + 0x2000 * slot + (0x40 + k)) = true := by
  have ho : 0x40 + k < 0x1000 := by omega
  rw [State.dropsWrite, bar0Place_ownerSlot slot (by omega)]
  simp [State.bar0Served, h2, hb, ho]

theorem State.writeRequest_busy {fn i : Nat} {f : Mailbox → Mailbox} (h : (s.slotAt i).state = 1) :
    s.writeRequest fn i f = s.logFault 9 0x0503 .corrected fn := if_pos h

theorem State.writeRequest_free {fn i : Nat} {f : Mailbox → Mailbox} (h : (s.slotAt i).state ≠ 1) :
    s.writeRequest fn i f = s.modSlot i f := if_neg h

theorem registerWrite_ownerRequest (hl : s.boot.linkUp = true) (h2 : 2 ≤ s.boot.stage) (ha : k % 4 = 0) (hk : k < 4032) :
    exec (.registerWrite 0 (.bar0 (0x100000 + 0x2000 * slot + 0x40 + k)) false v) s =
      .next (s.quiet.writeRequest 0 slot (fun m => m.putRequest k (v.setWidth 32))) := by
  rw [Nat.add_assoc, registerWrite_narrow hl (ownerSlot_lt_bar0Bytes slot (by omega)) (by omega)]
  exact congrArg _ (State.writeWord_ownerRequest _ h2 hk)

/-- R399: a 64-bit write of a BUSY slot's request area is one write. -/
theorem registerWrite_ownerRequest_wide_busy (hl : s.boot.linkUp = true) (h2 : 2 ≤ s.boot.stage) (ha : k % 8 = 0) (hk : k < 4032)
    (hb : (s.slotAt slot).state = 1) :
    exec (.registerWrite 0 (.bar0 (0x100000 + 0x2000 * slot + 0x40 + k)) true v) s =
      .next (s.quiet.writeRequest 0 slot (fun m => m.putRequest k (v.setWidth 32))) := by
  have hupper : s.dropsWrite 0 (0x100000 + 0x2000 * slot + (0x40 + k) + 4) = true :=
    State.dropsWrite_ownerRequest (k := k + 4) h2 (by omega) hb
  rw [Nat.add_assoc, registerWrite_wide_dropped hl (ownerSlot_lt_bar0Bytes slot (by omega)) (by omega)
    (State.dropsWrite_ownerRequest h2 hk hb) hupper]
  exact congrArg _ (State.writeWord_ownerRequest _ h2 hk)

/-- R441: until stage 2 a slot reads zero. -/
theorem State.bar0Word_ownerSlot_unserved {o : Nat} (h2 : s.boot.stage < 2) (ho : o < 0x2000) :
    s.bar0Word 0 (0x100000 + 0x2000 * slot + o) = 0 := by
  rw [State.bar0Word, bar0Place_ownerSlot slot ho]
  simp [State.bar0Served, Nat.not_le.2 h2]

end OwnerSlot

/-! ### Reads, and accesses of the wrong form (R11, R303) -/

theorem exec_bar0Access (fn : Fin 9) (bar2 write : Bool) (off size : Nat) (s : State) :
    exec (.bar0Access fn bar2 write off size) s = execBar0Access fn bar2 write off size s := rfl

section Bar0Access

variable {fn : Fin 9} {off size : Nat} {s : State}

theorem bar0Access_unreached {bar2 write : Bool}
    (h : s.boot.linkUp = false ∨ (if bar2 then bar2Bytes else bar0Bytes fn) < off + size) :
    exec (.bar0Access fn bar2 write off size) s = .next s.quiet := by
  rw [exec_bar0Access, execBar0Access]
  rcases h with h | h <;> simp [h, done]

/-- R303: an aligned read answers its words in order. -/
theorem bar0Read_aligned (hl : s.boot.linkUp = true) (hb : off + size ≤ bar0Bytes fn) (ha : accessOk off size = true) :
    exec (.bar0Access fn false false off size) s = .next (s.quiet.emit
      (.readData ((List.range (size / 4)).flatMap (fun i => leBytes 4 (s.bar0Word fn (off + 4 * i)))) false)) := by
  simp [exec_bar0Access, execBar0Access, hl, Nat.not_lt.2 hb, ha, done]

theorem bar0Read_malformed (hl : s.boot.linkUp = true) (hb : off + size ≤ bar0Bytes fn) (ha : accessOk off size = false) :
    exec (.bar0Access fn false false off size) s =
      .next ((s.quiet.logAccess fn off).emit (.readData (List.replicate size 0xFF) false)) := by
  simp [exec_bar0Access, execBar0Access, hl, Nat.not_lt.2 hb, ha, done]

theorem bar0Write_malformed (hl : s.boot.linkUp = true) (hb : off + size ≤ bar0Bytes fn) (ha : accessOk off size = false) :
    exec (.bar0Access fn false true off size) s = .next (s.quiet.logAccess fn off) := by
  simp [exec_bar0Access, execBar0Access, hl, Nat.not_lt.2 hb, ha, done]

theorem bar2Read_zeros (hl : s.boot.linkUp = true) (hb : off + size ≤ bar2Bytes) :
    exec (.bar0Access fn true false off size) s =
      .next ((s.quiet.logAccess fn off).emit (.readData (List.replicate size 0) false)) := by
  simp [exec_bar0Access, execBar0Access, hl, Nat.not_lt.2 hb, done]

end Bar0Access

/-! ### The statement -/

/-- R10: a 64-bit write of BAR4_WINDOW takes effect at once. -/
theorem window_of_wide_write {fn : Fin 9} {v : DWord} {s : State} (hl : s.boot.linkUp = true) (hs : s.host.Sound) :
    ∃ t, exec (.registerWrite fn (.bar0 0x1010) true v) s = .next t ∧ (t.fnRegs fn).winPen = v.toNat % 8 ∧
      (t.fnRegs fn).winEnable = v.toNat.testBit 3 ∧ (t.fnRegs fn).winBase = v.toNat / 2 ^ 21 % 2 ^ 27 ∧ Only [.host, .out] s t := by
  have hlow := State.writeStage_windowLow (s := s.quiet) (v.setWidth 32) (hs.fn_lt fn)
  have hfn : fn.val < (s.quiet.writeStage fn 0x10 (v.setWidth 32)).host.fns.length := by
    rw [State.writeStage_fns_length]; exact hs.fn_lt fn
  have hhigh := State.writeStage_windowHigh ((v >>> 32).setWidth 32) hfn (by rw [hlow])
  refine ⟨_, registerWrite_stage_wide 0x10 hl (by decide) (by decide), ?_, ?_, ?_, State.quiet_writeStage_writeStage_only ..⟩
  · rw [hhigh]
    simp only [FnRegs.setWindow, BitVec.toNat_setWidth]
    omega
  · rw [hhigh]
    simp only [FnRegs.setWindow, BitVec.toNat_setWidth, Nat.testBit_mod_two_pow, Nat.reduceLT, decide_true, Bool.true_and]
  · rw [hhigh]
    simp only [FnRegs.setWindow, BitVec.toNat_setWidth, BitVec.toNat_ushiftRight, Nat.shiftRight_eq_div_pow]
    omega

/-- R10: a 32-bit write of the lower word of BAR4_WINDOW has no effect of its own. -/
theorem window_of_low_write {fn : Fin 9} {v : DWord} {s : State} (hl : s.boot.linkUp = true) (hs : s.host.Sound) :
    ∃ t, exec (.registerWrite fn (.bar0 0x1010) false v) s = .next t ∧ (t.fnRegs fn).winPen = (s.fnRegs fn).winPen ∧
      (t.fnRegs fn).winEnable = (s.fnRegs fn).winEnable ∧ (t.fnRegs fn).winBase = (s.fnRegs fn).winBase ∧
      (t.fnRegs fn).heldLow = [(0x1010, v.setWidth 32)] ∧ Only [.host, .out] s t := by
  have hlow := State.writeStage_windowLow (s := s.quiet) (v.setWidth 32) (hs.fn_lt fn)
  refine ⟨_, registerWrite_stage 0x10 hl (by decide) (by decide), ?_, ?_, ?_, ?_, State.quiet_writeStage_only ..⟩ <;> simp [hlow]

/-- R10: a 32-bit write of the upper word brings both words of BAR4_WINDOW into effect. -/
theorem window_of_high_write {fn : Fin 9} {lo : Word} {v : DWord} {s : State} (hl : s.boot.linkUp = true) (hs : s.host.Sound)
    (hh : (s.fnRegs fn).heldLow = [(0x1010, lo)]) :
    ∃ t, exec (.registerWrite fn (.bar0 0x1014) false v) s = .next t ∧ (t.fnRegs fn).winPen = lo.toNat % 8 ∧
      (t.fnRegs fn).winEnable = lo.toNat.testBit 3 ∧
      (t.fnRegs fn).winBase = lo.toNat / 2 ^ 21 + v.toNat % 2 ^ 16 * 2 ^ 11 ∧ Only [.host, .out] s t := by
  have hhigh := State.writeStage_windowHigh (s := s.quiet) (v.setWidth 32) (hs.fn_lt fn) hh
  refine ⟨_, registerWrite_stage 0x14 hl (by decide) (by decide), ?_, ?_, ?_, State.quiet_writeStage_only ..⟩
  · simp [hhigh, FnRegs.setWindow]
  · simp [hhigh, FnRegs.setWindow]
  · rw [hhigh]
    simp only [FnRegs.setWindow, BitVec.toNat_setWidth]
    omega

/-- R399: a word written into the request area of a slot that is not BUSY reads back. -/
theorem ownerRequest_of_write {slot : Fin 4} {k : Nat} {v : DWord} {s : State} (hl : s.boot.linkUp = true) (h2 : 2 ≤ s.boot.stage)
    (ha : k % 4 = 0) (hk : k < 4032) (hb : (s.slotAt slot).state ≠ 1) (hs : s.host.Sound) :
    ∃ t, exec (.registerWrite 0 (.bar0 (0x100000 + 0x2000 * slot + 0x40 + k)) false v) s = .next t ∧
      leField (t.slotAt slot).req k 4 = v.toNat % 2 ^ 32 ∧ Only [.host, .out] s t := by
  refine ⟨_, (registerWrite_ownerRequest hl h2 ha hk).trans (congrArg _ (State.writeRequest_free hb)), ?_,
    ((State.quiet_keeps.mono (by decide)).step State.modSlot_keeps (by decide)).only⟩
  rw [State.modSlot_slotAt (s := s.quiet) _ (hs.ownerSlot_lt slot), Mailbox.leField_putRequest _ _ (by omega), BitVec.toNat_setWidth]

/-- Settles O22: each clause is the lemma for its form of access. -/
theorem hostRegisters : Obligations.HostRegisters := by
  unfold Obligations.HostRegisters
  refine ⟨fun fn off wide v s hl hb ha => registerWrite_misaligned hl hb ha, fun fn v s hl => ?healthEvt, fun fn v s hl => ?healthMask,
    fun fn v s => window_of_wide_write, fun fn v s => window_of_low_write, fun fn lo v s => window_of_high_write,
    fun slot k v s => ownerRequest_of_write, fun slot k v s hl h2 ha hk hb => ?busy, fun slot k v s hl h2 ha hk hb => ?busyWide,
    fun fn off wide v s => registerWrite_unreached, fun fn bar2 write off size s => bar0Access_unreached,
    fun fn off s hl ha hb => ?read32, fun fn off s hl ha hb => ?read64,
    fun fn off size s hl hb ha => ⟨bar0Read_malformed hl hb ha, bar0Write_malformed hl hb ha⟩,
    fun fn off size s => bar2Read_zeros,
    fun s => ⟨s.bar0Word_stage 0 (o := 0) (by decide), rfl, s.bar0Word_stage 0 (o := 4) (by decide),
      fun h2 slot o ho => State.bar0Word_ownerSlot_unserved h2 ho⟩⟩
  case healthEvt =>
    refine (registerWrite_stage 4 hl (by decide) (by decide)).trans ?_
    simp [State.writeStage]
  case healthMask =>
    refine (registerWrite_stage 8 hl (by decide) (by decide)).trans ?_
    simp [State.writeStage]
  case busy => exact (registerWrite_ownerRequest hl h2 ha hk).trans (congrArg _ (State.writeRequest_busy hb))
  case busyWide => exact (registerWrite_ownerRequest_wide_busy hl h2 ha hk hb).trans (congrArg _ (State.writeRequest_busy hb))
  case read32 => exact bar0Read_aligned hl hb (by simp [accessOk, ha])
  case read64 =>
    refine (bar0Read_aligned hl hb (by simp [accessOk, ha])).trans ?_
    simp [List.range_succ]

end Machine

end Sys2Proof

/-! SUPPORT. The queues of the state (R300, R305), and what the head descriptor of an operator ring does when its ring offers it
for issue (R84, R85, R107). -/

namespace Sys2Proof.Machine

/-! ### One queue of the state -/

theorem State.queue?_id {s : State} {q : Nat} {x : Queue} (h : s.queue? q = some x) : x.id = q := by
  simpa using List.find?_some h

theorem State.queue?_of_qe {s t : State} (h : t.qe = s.qe) (q : Nat) : t.queue? q = s.queue? q := by
  rw [State.queue?, State.queue?, h]

/-- An update that keeps ids reaches the queue of its id and no other. -/
theorem State.queue?_modQueue {s : State} {q r : Nat} {f : Queue → Queue} (hf : ∀ x, (f x).id = x.id) :
    (s.modQueue r f).queue? q = (s.queue? q).map (fun x => if x.id = r then f x else x) := by
  have hid : ((fun x : Queue => decide (x.id = q)) ∘ fun x => if x.id = r then f x else x) = fun x => decide (x.id = q) := by
    funext x
    by_cases hx : x.id = r <;> simp [hx, hf]
  simp only [State.queue?, State.modQueue, State.modQe_qe, List.find?_map, hid]

theorem State.queue?_modQueue_same {s : State} {q : Nat} {x : Queue} {f : Queue → Queue} (h : s.queue? q = some x)
    (hf : ∀ x, (f x).id = x.id := by intro; rfl) : (s.modQueue q f).queue? q = some (f x) := by
  rw [State.queue?_modQueue hf, h, Option.map_some, if_pos (State.queue?_id h)]

theorem State.queue?_modQueue_ne {s : State} {q r : Nat} {x : Queue} {f : Queue → Queue} (h : s.queue? q = some x) (hne : q ≠ r)
    (hf : ∀ x, (f x).id = x.id := by intro; rfl) : (s.modQueue r f).queue? q = some x := by
  rw [State.queue?_modQueue hf, h, Option.map_some, if_neg (State.queue?_id h ▸ hne)]

/-! ### Completion entries leave the other queues (R305) -/

section Completion

variable {s : State} {q : Nat} {x : Queue} (h : s.queue? q = some x)
include h

theorem State.putCpl_queue? {c : Queue} {e : Nat × Nat × List Byte} (hne : q ≠ c.id) : (s.putCpl c e).queue? q = some x := by
  have hlog (t : State) : (t.logQueueEvent c 0x21).queue? q = t.queue? q :=
    State.queue?_of_qe (State.logQueueEvent_keeps.only.same .qe (by decide)) q
  have hirq (t : State) (fn vec : Nat) : (t.raiseVector fn vec).queue? q = t.queue? q := State.queue?_of_qe (by simp) q
  have hwrite (t : State) (a : Nat) (bs : List Byte) : (t.penWrite .norm .queueData c.pen a bs).queue? q = t.queue? q :=
    State.queue?_of_qe (State.penWrite_keeps.only.same .qe (by decide)) q
  have hput (o : Output) (a : Nat) (bs : List Byte) :
      (if c.cplHost then s.emit o else s.penWrite .norm .queueData c.pen a bs).queue? q = some x := by
    split
    · exact h
    · exact (hwrite ..).trans h
  unfold State.putCpl
  dsimp only
  split
  · exact (hlog _).trans (State.queue?_modQueue_ne h hne)
  · split
    · exact (hirq ..).trans (State.queue?_modQueue_ne (hput ..) hne)
    · exact State.queue?_modQueue_ne (hput ..) hne

/-- An entry for a CPL queue changes no queue of another type. -/
theorem State.cpl_queue? {cq kind src : Nat} {payload : List Byte} (ht : x.type ≠ .cpl) :
    (s.cpl cq kind src payload).queue? q = some x := by
  unfold State.cpl
  split
  · exact h
  next c hc =>
    split
    · exact h
    next hcpl =>
      have hne : q ≠ cq := by
        rintro rfl
        obtain rfl : x = c := Option.some.inj (h.symm.trans hc)
        simp [ht] at hcpl
      split
      · exact State.queue?_modQueue_ne h hne
      · exact State.putCpl_queue? h (State.queue?_id hc ▸ hne)

theorem State.completeOn_queue? {r : Nat} {rec : List Byte} (ht : x.type ≠ .cpl) : (s.completeOn r rec).queue? q = some x := by
  unfold State.completeOn
  split
  · exact State.cpl_queue? h ht
  · exact h

/-! ### The ring after a failed check and after an issue (R85, R107, R304) -/

/-- R107: the ring halts with its HEAD at the descriptor. -/
theorem State.issueFails_queue? {d : List Byte} {code : Nat} (ht : x.type ≠ .cpl) :
    (s.issueFails x d code).queue? q = some { x.halt code with
      expectSeq := if dSeq d = x.expectSeq.toNat then x.expectSeq + 1 else x.expectSeq } := by
  obtain rfl := State.queue?_id h
  exact State.completeOn_queue? (State.queue?_modQueue_same h) ht

theorem State.takeEntry_queue? {f : Queue → Queue} (hf : ∀ y, (f y).id = y.id) :
    (s.takeEntry x f).queue? q = some (f x.advance) := by
  obtain rfl := State.queue?_id h
  exact (State.queue?_of_qe (State.count_qe ..) _).trans (State.queue?_modQueue_same h (fun y => hf y.advance))

end Completion

theorem State.takeEntry_comp (s : State) (q : Queue) (f : Queue → Queue) : (s.takeEntry q f).comp = s.comp :=
  State.takeEntry_keeps.only.same .comp (by decide)

theorem State.takeEntry_bindViews (s : State) (q : Queue) (f : Queue → Queue) (d : List Byte) :
    (s.takeEntry q f).bindViews d = s.bindViews d := by
  have hp : (s.takeEntry q f).pens = s.pens := State.takeEntry_keeps.only.same .pens (by decide)
  simp only [State.bindViews, State.pen, hp]

/-! ### An operator enters the device (R85, R419) -/

theorem State.planFor_nextOp {s t : State} {d : List Byte} {p : Plan} (h : s.planFor d = some (p, t)) :
    t.comp.nextOp = s.comp.nextOp := by
  simp only [State.planFor] at h
  repeat' split at h
  all_goals simp only [Option.some.injEq, Prod.mk.injEq, reduceCtorEq] at h
  all_goals obtain ⟨-, rfl⟩ := h
  all_goals rfl

theorem State.tasksFor_nextOp (s : State) (d : List Byte) : (s.tasksFor d).2.2.comp.nextOp = s.comp.nextOp := by
  unfold State.tasksFor
  split
  case h_1 | h_2 =>
    split
    next hp _ _ _ => exact State.planFor_nextOp hp
    next => rfl
  all_goals rfl

theorem State.newOp_op (s : State) (pen queue : Nat) (index : Word) (d : List Byte) (waits : List Nat) (recipe : Option Word) :
    ∃ o ∈ (s.newOp pen queue index d waits recipe).comp.ops,
      o.id = s.comp.nextOp ∧ o.desc = s.bindViews d ∧ o.queue = queue ∧ o.pen = pen ∧ o.index = index :=
  ⟨_, List.mem_append_right _ (List.mem_singleton_self _), s.tasksFor_nextOp d, rfl, rfl, rfl, rfl⟩

/-- Nothing follows an issue at once but for the attention, fence, mark and collective operators. -/
theorem State.afterIssue_plain {s : State} {id : Nat} {d : List Byte} (h : dOpcode d ∉ [0x20, 0x21, 0x41, 0x42, 0x43]) :
    s.afterIssue id d = s := by
  unfold State.afterIssue
  split
  case h_6 => rfl
  all_goals next he => simp [he] at h

section Issue

variable {s : State} {q : Nat} {x : Queue} {d : List Byte}

/-- R84, R304: HEAD, TAKEN and EXPECT_SEQ advance. -/
theorem State.issue_queue? (hp : dOpcode d ∉ [0x20, 0x21, 0x41, 0x42, 0x43]) (h : s.queue? q = some x) :
    (s.issue x d).queue? q = some { x.advance with expectSeq := x.expectSeq + 1 } := by
  rw [State.issue, State.afterIssue_plain hp, State.queue?_of_qe (State.newOp_keeps.only.same .qe (by decide))]
  exact State.takeEntry_queue? h (fun _ => rfl)

/-- R85, R419: the operator carries the descriptor with its views, its ring, its pen and its index. -/
theorem State.issue_op (hp : dOpcode d ∉ [0x20, 0x21, 0x41, 0x42, 0x43]) (s : State) (x : Queue) :
    ∃ o ∈ (s.issue x d).comp.ops, o.id = s.comp.nextOp ∧ o.desc = s.bindViews d ∧ o.queue = x.id ∧ o.pen = x.pen ∧
      o.index = x.head := by
  rw [State.issue, State.afterIssue_plain hp, ← State.takeEntry_comp s x (fun y => { y with expectSeq := y.expectSeq + 1 }),
    ← State.takeEntry_bindViews s x (fun y => { y with expectSeq := y.expectSeq + 1 })]
  exact State.newOp_op ..

theorem State.halted_of_takes (h : s.takes x = true) : x.halted = false :=
  Bool.eq_false_iff.2 (fun hh => by simp [State.takes, hh] at h)

end Issue

/-! ### The head descriptor that a ring offers (R34, R84, R107, R271, R275) -/

/-- R34, R275: near pasture holds the read of a tensor scale. -/
def State.scaleHeld (s : State) (pen : Nat) (t : Tensor) : Bool := s.penHeld .fold pen (t.penAddr + t.scaleBase) 4

/-- R34, R271: the read of a tensor scale meets poison. -/
def State.scalePoisoned (s : State) (pen : Nat) (t : Tensor) : Bool := s.penPoisoned pen (t.penAddr + t.scaleBase) 4

/-- The ring takes its head entry now, and this is its descriptor. -/
structure State.Offers (s : State) (q : Nat) (x : Queue) (d : List Byte) : Prop where
  queue : s.queue? q = some x
  type : x.type = .opr
  takes : s.takes x = true
  entry : s.headEntry x = .ok d

/-- The descriptor of the head entry reaches its checks: the ring is not fenced, the wait is met, and the tensor scales that the
checks read are there. -/
structure State.Checks (s : State) (q : Nat) (x : Queue) (d : List Byte) : Prop extends s.Offers q x d where
  free : s.ringFenced q = false
  met : s.waitMet x.pen d = true
  near : s.bs4Waits d = []
  scales : ∀ t ∈ s.bs4Scales d, s.scaleHeld x.pen t = false ∧ s.scalePoisoned x.pen t = false

section IssueHead

variable {s : State} {q : Nat} {x : Queue} {d : List Byte}

theorem State.Offers.issueHead_waits (h : s.Offers q x d)
    (hw : s.ringFenced q = true ∨ s.waitMet x.pen d = false ∨ (s.bs4Scales d).any (s.scaleHeld x.pen) = true) :
    s.issueHead q (dOpcode d) = s := by
  rcases hw with hf | hm | hw
  · simp [State.issueHead, h.queue, h.type, h.takes, h.entry, hf]
  · simp [State.issueHead, h.queue, h.type, h.takes, h.entry, hm]
  · replace hw : (s.bs4Scales d).any (fun t => s.penHeld .fold x.pen (t.penAddr + t.scaleBase) 4) = true := hw
    simp [-List.any_eq_true, State.issueHead, h.queue, h.type, h.takes, h.entry, hw]

theorem State.Offers.issueHead_poisoned {t : Tensor} (h : s.Offers q x d) (hf : s.ringFenced q = false) (hw : s.waitMet x.pen d = true)
    (hh : (s.bs4Scales d).any (s.scaleHeld x.pen) = false) (hp : (s.bs4Scales d).find? (s.scalePoisoned x.pen) = some t) :
    s.issueHead q (dOpcode d) = s.meetPoison t := by
  replace hh : (s.bs4Scales d).any (fun t => s.penHeld .fold x.pen (t.penAddr + t.scaleBase) 4) = false := hh
  replace hp : (s.bs4Scales d).find? (fun t => s.penPoisoned x.pen (t.penAddr + t.scaleBase) 4) = some t := hp
  simp [-List.any_eq_true, -List.any_eq_false, State.issueHead, h.queue, h.type, h.takes, h.entry, hf, hw, hh, hp]

/-- R107: the checks decide between the halt and the issue. -/
theorem State.Checks.issueHead (h : s.Checks q x d) :
    s.issueHead q (dOpcode d) = (s.issueError x d).elim (s.issue x d) (s.issueFails x d) := by
  have hh : (s.bs4Scales d).any (fun t => s.penHeld .fold x.pen (t.penAddr + t.scaleBase) 4) = false :=
    List.any_eq_false.2 (fun t ht => Bool.eq_false_iff.1 (h.scales t ht).1)
  have hp : (s.bs4Scales d).find? (fun t => s.penPoisoned x.pen (t.penAddr + t.scaleBase) 4) = none :=
    List.find?_eq_none.2 (fun t ht => Bool.eq_false_iff.1 (h.scales t ht).2)
  cases he : s.issueError x d <;>
    simp [-List.any_eq_true, -List.any_eq_false, State.issueHead, h.queue, h.type, h.takes, h.entry, h.free, h.met, h.near, hh, hp, he]

end IssueHead

@[simp] theorem State.quiet_bs4Scales (s : State) (d : List Byte) : s.quiet.bs4Scales d = s.bs4Scales d := rfl

/-- Emptying the outputs changes nothing of an offer. -/
theorem State.Offers.quiet {s : State} {q : Nat} {x : Queue} {d : List Byte} (h : s.Offers q x d) : s.quiet.Offers q x d :=
  ⟨h.queue, h.type, h.takes, h.entry⟩

/-! ### The statement -/

/-- R83: the operator commands with their opcodes. -/
def operatorCommands : List ((Nat → Instr) × Nat) :=
  [(.gemm, 0x10), (.conv, 0x11), (.cropResize, 0x12), (.attnFwd, 0x20), (.attnBwd, 0x21), (.norm, 0x30), (.softmax, 0x31),
    (.eltwise, 0x32), (.reduce, 0x33), (.rngFill, 0x34), (.optStep, 0x35), (.loss, 0x36), (.cast, 0x37), (.move, 0x40), (.fence, 0x41),
    (.layerMark, 0x42), (.collStep, 0x43)]

/-- Each operator command offers the ring's head descriptor of its own opcode. -/
theorem exec_operatorCommand (q : Nat) (s : State) :
    ∀ r ∈ operatorCommands, exec (r.1 q) s = .next (s.quiet.issueHead q r.2) := by
  simp only [operatorCommands, List.forall_mem_cons]
  exact ⟨rfl, rfl, rfl, rfl, rfl, rfl, rfl, rfl, rfl, rfl, rfl, rfl, rfl, rfl, rfl, rfl, rfl, nofun⟩

/-- Settles O39: the command offers the head descriptor, which waits, meets poison, halts its ring or issues. -/
theorem operatorIssue : Obligations.OperatorIssue := by
  unfold Obligations.OperatorIssue
  rintro c _ hc q x d s hq ht htk hd rfl
  have hexec := exec_operatorCommand q s _ hc
  have ho : s.quiet.Offers q x d := ⟨hq, ht, htk, hd⟩
  have hcpl : x.type ≠ .cpl := by simp [ht]
  refine ⟨fun hw => ?waits, fun t hf hw hh hp => ?poisoned, fun hs hf hw hn he => ⟨?issues, fun hop => ?operator⟩,
    fun code hs hf hw hn he => ⟨?fails, ?halt⟩⟩
  case waits => exact hexec.trans (congrArg _ (ho.issueHead_waits hw))
  case poisoned => exact hexec.trans (congrArg _ (ho.issueHead_poisoned hf hw hh hp))
  case issues =>
    have hchecks : s.quiet.Checks q x d := ⟨ho, hf, hw, hn, hs⟩
    rw [hexec, hchecks.issueHead, State.quiet_issueError, he, Option.elim_none]
  case operator =>
    obtain ⟨o, hmem, hid, hdesc, hring, hpen, hindex⟩ := State.issue_op hop s.quiet x
    have hrun : x.halted = false := State.halted_of_takes htk
    exact ⟨_, State.issue_queue? hop ho.queue, rfl, rfl, rfl, hrun,
      o, hmem, hid, hdesc, hring.trans (State.queue?_id hq), hpen, hindex⟩
  case fails =>
    have hchecks : s.quiet.Checks q x d := ⟨ho, hf, hw, hn, hs⟩
    rw [hexec, hchecks.issueHead, State.quiet_issueError, he, Option.elim_some]
  case halt => exact ⟨_, State.issueFails_queue? ho.queue hcpl, rfl, rfl, rfl⟩

end Sys2Proof.Machine

/-! SUPPORT. The moves of the Drover that end or fail (R198, R227, R229, R230, R232, R248): write-behinds, recipe runs, DLT
encodes, exhaustion, use times and golden scrubs. -/

namespace Sys2Proof.Machine

/-! ### Write-behinds that fail (R230) -/

/-- R230: a failed port ends the write-behind; its retry goes over the other ports, and is the last. -/
theorem State.wbFails_of_port {s : State} {h port : Nat} {t : Tensor} {w : WriteBehind} (ht : s.tensor? h = some t)
    (hw : t.wb = some w) (hp : port ∈ w.stripe) :
    s.wbFails h port =
      let u := s.modTensor h (fun x => { x with wb := none })
      if w.retry then u else u.beginWriteBehind (h / 2 ^ 29) h (s.stripeNow.filter (· != port)) true := by
  have hport : w.stripe.contains port = true := List.contains_iff_mem.2 hp
  simp only [State.wbFails, ht, hw, hport, if_true]

/-! ### DLT encodes (R198) -/

/-- R198: the encode of `t` from `src` has ended, and its base stands. -/
structure State.Encodes (s : State) (handle : Word) (t src : Tensor) : Prop where
  tensor : s.tensor? handle.toNat = some t
  source : t.encodeFrom.bind (fun x => s.tensor? x.toNat) = some src
  base : ∃ b, s.base? t.base.toNat = some b ∧ b.res ≠ .poisoned

/-- R198: the container goes into the room that `u` holds for it, and the tensor is near. -/
def State.encodeInto (s u : State) (h : Nat) (t src : Tensor) : State :=
  let pen := h / 2 ^ 29
  let form := piecesBytes (t.compShape.encode true (s.elemCode pen src) (s.baseCode t))
  let v := ((((u.count 16 src.storedBytes).becomeNear pen h .near).useTensor src.handle.toNat).penWrite .norm .shears pen t.penAddr
    form).npFlushSource .shears
  let w := v.modTensor h (fun x => { (x.freshTables) with encodeFrom := none, nearTable := x.tableOf form })
  (((w.useTensor h).settleWaits).idleTensor h).idleTensor src.handle.toNat

/-- R198: the source must be near, near pasture must serve both, neither source nor base may be poisoned, and there must be room. -/
theorem State.Encodes.exec_dltEncodeComplete {s : State} {handle : Word} {t src : Tensor} (h : s.Encodes handle t src) :
    exec (.dltEncodeComplete handle) s = .next (
      let pen := handle.toNat / 2 ^ 29
      let r := s.quiet.allocate pen t false s.time.clock
      if src.readable = false then s.quiet.takePath pen src.handle.toNat s.time.clock false
      else if s.servesTensor .shears t = false ∨ s.servesTensor .shears src = false then s.quiet
      else if s.tensorPoisoned src = true ∨ s.basePoisoned t = true then s.quiet.meetEncodePoison t src
      else if r.2 then s.encodeInto r.1 handle.toNat t src else r.1.setAllocWait handle.toNat true) := by
  obtain ⟨ht, hsrc, b, hb, hgood⟩ := h
  change execDltEncodeComplete handle s = _
  simp only [execDltEncodeComplete, ht, hsrc, hb, hgood, decide_false, Bool.false_eq_true, if_false, Bool.or_eq_true, Bool.not_eq_true']
  repeat' split
  all_goals rfl

/-! ### Use times (R227) -/

/-- R227: a tensor's entry as the sweep leaves it. -/
def Tensor.swept (now : Word) (t : Tensor) : Tensor :=
  if 2 ^ 31 < (now - t.lastUse).toNat then { t with lastUse := now - 0x80000000 } else t

theorem Tensor.swept_of_lt {now : Word} {t : Tensor} (h : 2 ^ 31 < (now - t.lastUse).toNat) :
    t.swept now = { t with lastUse := now - 0x80000000 } :=
  if_pos h

theorem Tensor.swept_of_le {now : Word} {t : Tensor} (h : (now - t.lastUse).toNat ≤ 2 ^ 31) : t.swept now = t :=
  if_neg (Nat.not_lt.2 h)

theorem Tensor.age_swept_le (now : Word) (t : Tensor) : (now - (t.swept now).lastUse).toNat ≤ 2 ^ 31 := by
  rcases Nat.lt_or_ge (2 ^ 31) (now - t.lastUse).toNat with h | h
  · have hage : now - (now - 0x80000000) = 0x80000000 := by bv_omega
    rw [Tensor.swept_of_lt h, hage]
    decide
  · rwa [Tensor.swept_of_le h]

theorem Tensor.swept_eq (now : Word) (t : Tensor) : t.swept now = { t with lastUse := (t.swept now).lastUse } := by
  unfold Tensor.swept
  split <;> rfl

/-- R227: the machine after the sweep. -/
def State.swept (s : State) : State :=
  { s.quiet with pens := s.pens.map (fun p =>
      { p with tensors := p.tensors.map (Tensor.swept (BitVec.ofNat 32 (s.time.now.toNat / 1024))) }) }

theorem exec_lastUseSweep (s : State) : exec .lastUseSweep s = .next s.swept := rfl

theorem State.swept_pen_tensors (s : State) (p : Nat) :
    (s.swept.pen p).tensors = (s.pen p).tensors.map (Tensor.swept (BitVec.ofNat 32 (s.time.now.toNat / 1024))) := by
  simp only [State.pen, State.swept, List.getD_eq_getElem?_getD, List.getElem?_map]
  cases s.pens[p]? <;> rfl

/-! ### Golden copies (R248) -/

/-- R208, R248: the ports returned the whole copy without poison, and each chunk agrees with its far entry. -/
def Tensor.scrubPasses (t : Tensor) (f : FarCopy) (chunks : List (List Byte)) (poison : Bool) : Bool :=
  !poison && chunks.length = ceilDiv f.bytes 4096 && chunks.zipIdx.all (fun x =>
    x.1.length = 4096 && some (BitVec.ofNat 32 (crc32c x.1)) == t.farCheck x.2)

theorem Tensor.scrubPasses_iff {t : Tensor} {f : FarCopy} {chunks : List (List Byte)} {poison : Bool} :
    t.scrubPasses f chunks poison = true ↔ poison = false ∧ chunks.length = ceilDiv f.bytes 4096 ∧ ∀ k < chunks.length,
      (chunks.getD k []).length = 4096 ∧ t.farCheck k = some (BitVec.ofNat 32 (crc32c (chunks.getD k []))) := by
  have hchunk (k : Nat) (hk : k < chunks.length) :
      (chunks[k].length = 4096 && some (BitVec.ofNat 32 (crc32c chunks[k])) == t.farCheck k) = true ↔
        (chunks.getD k []).length = 4096 ∧ t.farCheck k = some (BitVec.ofNat 32 (crc32c (chunks.getD k []))) := by
    rw [List.getD_eq_getElem?_getD, List.getElem?_eq_getElem hk, Option.getD_some, Bool.and_eq_true, decide_eq_true_eq, beq_iff_eq,
      eq_comm (b := t.farCheck k)]
  rw [Tensor.scrubPasses, Bool.and_eq_true, Bool.and_eq_true, Bool.not_eq_true', decide_eq_true_eq, and_assoc, List.all_eq_true]
  refine and_congr_right' (and_congr_right' ⟨fun hall k hk => ?byNumber, fun hall x hx => ?inOrder⟩)
  case byNumber => exact (hchunk k hk).1 (hall (chunks[k], k) (List.mk_mem_zipIdx_iff_getElem?.2 (List.getElem?_eq_getElem hk)))
  case inOrder =>
    obtain ⟨hk, hget⟩ := List.mem_zipIdx' (x := x.1) (i := x.2) hx
    rw [hget]
    exact (hchunk x.2 hk).2 (hall x.2 hk)

/-- R248: the golden copy `f` is written again from the near copy. -/
def State.rewriteGolden (s : State) (base : Nat) (t : Tensor) (f : FarCopy) : State :=
  let form := t.farForm (s.baseForm t)
  let u := (s.quiet.count 20 (4096 * ceilDiv f.bytes 4096)).count 16 t.storedBytes
  ((u.writeFar f form).modBase base (fun x => { x with farTable := if x.farDiffers then chunkTable form else x.farTable })).logFault
    7 0x0304 .corrected base

/-- R248, R271, R275: a scrub that near pasture holds waits; else the copy is written again if it fails and the near copy is whole. -/
theorem exec_goldenScrub {base : Fin 64} {t : Tensor} {f : FarCopy} {s : State} (chunks : List (List Byte)) (poison : Bool)
    (ht : s.base? (baseHandle base) = some t) (hf : t.far = some f) (hres : t.res = .both) (hfetch : s.fetchable f = true) :
    exec (.goldenScrub base chunks poison) s = .next (
      if s.npHeld .scrub t.penAddr t.storedBytes = true then s.quiet
      else if t.scrubPasses f chunks poison = true ∨ s.npPoisoned t.penAddr t.storedBytes = true then
        s.quiet.count 20 (4096 * ceilDiv f.bytes 4096)
      else s.rewriteGolden base t f) := by
  change execGoldenScrub base chunks poison s = _
  simp only [execGoldenScrub, ht, hf, hres, hfetch, bne_self_eq_false, Bool.not_true, Bool.false_or, Bool.or_eq_true]
  split
  · rfl
  · split
    next hkeep => exact congrArg Host.Outcome.next (if_pos hkeep).symm
    next hbad => exact congrArg Host.Outcome.next (if_neg hbad).symm

/-! ### The statement -/

/-- Settles O50: each clause is the branch of its command that the premises choose. -/
theorem droverMoves : Obligations.DroverMoves := by
  unfold Obligations.DroverMoves
  refine ⟨fun handle t w s ht hw => ?writeBehindEnds, fun handle port t w s ht hw hp => ?portFails,
    fun handle t s ht hr hrun => ?recipeEnds, fun handle hs t src b s ht he hsrc hb hgood => ?encodes,
    fun handle t s ht hwait hmin ha hv => ?exhausted, fun s => ?sweeps,
    fun base chunks poison t f s ht hf hres hfetch => ?scrubs⟩
  case writeBehindEnds =>
    change execWriteBehindComplete handle s = _
    simp only [execWriteBehindComplete, ht, hw]
    rfl
  case portFails => exact congrArg Host.Outcome.next (State.wbFails_of_port (s := s.quiet) ht hw hp)
  case recipeEnds =>
    have hended : (t.run = some t.recipe.length && t.recipe != []) = true := by
      rw [hrun, decide_eq_true rfl, Bool.true_and, bne_iff_ne]
      exact hr
    change execRecipeComplete handle s = _
    simp only [execRecipeComplete, ht, hended, if_true]
    rfl
  case encodes =>
    have hsource : t.encodeFrom.bind (fun x => s.tensor? x.toNat) = some src := by rw [he, Option.bind_some, hsrc]
    have hexec := State.Encodes.exec_dltEncodeComplete ⟨ht, hsource, b, hb, hgood⟩
    refine ⟨fun hr => ?away, fun hr => ?near⟩
    case away => rw [hexec, if_pos hr]
    case near =>
      rw [if_neg (ne_false_of_eq_true hr)] at hexec
      refine ⟨fun hheld => ?held, fun hT hS => ?served⟩
      case held => rw [hexec, if_pos hheld]
      case served =>
        rw [if_neg (not_or.2 ⟨ne_false_of_eq_true hT, ne_false_of_eq_true hS⟩)] at hexec
        refine ⟨fun hp => ?poisoned, fun hps hpb => ?whole⟩
        case poisoned => rw [hexec, if_pos hp]
        case whole =>
          rw [if_neg (not_or.2 ⟨ne_true_of_eq_false hps, ne_true_of_eq_false hpb⟩)] at hexec
          exact ⟨fun hroom => by rw [hexec, if_pos hroom]; rfl, fun hnone => by rw [hexec, if_neg (ne_true_of_eq_false hnone)]⟩
  case exhausted =>
    change execPoolExhausted handle s = _
    simp only [execPoolExhausted, ht, hwait, hmin, ha, hv, Option.isNone_none, decide_true, Bool.not_false, Bool.and_true, if_true]
    rfl
  case sweeps =>
    refine ⟨s.swept, exec_lastUseSweep s, (execLastUseSweep_keeps _ rfl).only, fun p x hx => ?_⟩
    rw [State.swept_pen_tensors] at hx
    obtain ⟨y, hy, rfl⟩ := List.mem_map.1 hx
    exact ⟨y.age_swept_le _, y, hy, y.swept_eq _, Tensor.swept_of_le⟩
  case scrubs =>
    have hexec := exec_goldenScrub chunks poison ht hf hres hfetch
    refine ⟨fun hheld => ?held, fun hserved => ?keeps, fun hserved => ?repairs⟩
    case held => rw [hexec, if_pos hheld]
    case keeps =>
      rw [hexec, if_neg (ne_true_of_eq_false hserved), ← Tensor.scrubPasses_iff]
      exact fun hgood => by rw [if_pos hgood]
    case repairs =>
      rw [hexec, if_neg (ne_true_of_eq_false hserved), ← Tensor.scrubPasses_iff]
      exact fun hbad hwhole => by rw [if_neg (not_or.2 ⟨hbad, ne_true_of_eq_false hwhole⟩)]; rfl

end Sys2Proof.Machine

/-! SUPPORT. Eszer commands on tensors, itineraries and bases (R217 to R221, R233, R234, R247, R251, R419 to R421): a request that reaches
its pen runs the command's body there, and what each body answers once its checks hold. -/

namespace Sys2Proof

/-! ### Fields of concatenations -/

theorem leField_append_of_length {a : List Byte} {n : Nat} (h : a.length = n) (b : List Byte) (size : Nat) :
    leField (a ++ b) n size = leField b 0 size := by
  rw [leField, leField, List.drop_left' h, List.drop_zero]

theorem leField_leBytes_append (n v : Nat) (b : List Byte) : leField (leBytes n v ++ b) 0 n = v % 256 ^ n := by
  rw [leField, List.drop_zero, List.take_left' (length_leBytes n v), leNat_leBytes]

namespace Machine

/-! ### A request that reaches its pen (R400, R410) -/

/-- The request whose turn it is passes every check of R400 and names a pen that its function reaches. -/
structure State.Reaches (s : State) (fn : Fin 9) (slot : Fin 4) (op p : Nat) : Prop extends s.Waits fn slot op where
  pen : (s.reqIn fn slot).f 0 1 = p
  lt : p < 8
  function : fn = 0 ∨ s.boundPen fn = some p

section Reaches

variable {s : State} {fn : Fin 9} {slot : Fin 4} {op p : Nat} {body : Req → State → Answer} {k : Req → State → Nat → Answer}

theorem State.Reaches.serve (h : s.Reaches fn slot op p) (hb : ∀ r u, body r u = withPen r u (k r u)) :
    s.quiet.serve fn slot op body = ((k (s.reqIn fn slot) (s.taken fn slot) p).finish (slotIndex fn slot)).settleRound := by
  rw [serve_of_waits h.toWaits, hb, withPen_of_reached h.pen h.lt h.function]

theorem State.Reaches.serve_live (h : s.Reaches fn slot op p) (hl : (s.pen p).state.live = true)
    (hb : ∀ r u, body r u = withLivePen r u (k r u)) :
    s.quiet.serve fn slot op body = ((k (s.reqIn fn slot) (s.taken fn slot) p).finish (slotIndex fn slot)).settleRound := by
  rw [h.serve hb, State.taken_pen, if_pos hl]

end Reaches

/-- R216, R410: the check that answers NOT_FOUND passes for a live tensor of the pen. -/
theorem foreign_eq_false {h p : Nat} {t : Tensor} (hown : h / 2 ^ 29 = p) (hr : t.released = false) :
    (h / 2 ^ 29 != p || t.released) = false := by
  rw [hown, hr, bne_self_eq_false, Bool.false_or]

/-! ### TENSOR_REGISTER (R419) -/

/-- R419: OPTION selects what a registration enters. -/
def State.register (s : State) (r : Req) (p : Nat) : Nat → Answer
  | 0 => s.registerTensor r p
  | 1 => s.registerView r p
  | 2 => s.registerRecipe r p
  | _ => refuse s stBadParam

theorem State.Reaches.exec_tensorRegister {s : State} {fn : Fin 9} {slot : Fin 4} {p option : Nat} (h : s.Reaches fn slot 0x0301 p)
    (hl : (s.pen p).state.live = true) (hz : (s.reqIn fn slot).f 12 4 = 0) (hk : (s.reqIn fn slot).f 1 1 = option) :
    exec (.tensorRegister fn slot) s =
      .next ((((s.taken fn slot).register (s.reqIn fn slot) p option).finish (slotIndex fn slot)).settleRound) := by
  obtain rfl := hk
  refine congrArg Host.Outcome.next ((h.serve_live hl (fun _ _ => rfl)).trans ?_)
  simp only [hz, bne_self_eq_false, Bool.false_eq_true, if_false]
  rfl

/-! ### Tensors (R198, R217, R220, R221) -/

/-- Table 9.3: the entry of a registration. -/
def Req.entry (r : Req) : List Byte := (r.pay.drop 16).take 64

/-- R218: the shard record of a registration. -/
def Req.shardRecord (r : Req) : List Byte := if (r.f 2 2).testBit 1 then (r.pay.drop 80).take 64 else []

/-- The tensor that a registration describes, at no address yet. -/
def Req.tensor (r : Req) : Tensor := parseTensor r.entry r.shardRecord

/-- The place that the tensor of a registration takes in its pen. -/
def State.placeOf (s : State) (r : Req) (p : Nat) : Nat × Option (Nat × Nat) × Nat := (s.pen p).place r.tensor

/-- The tensor of a registration as it enters its pen. -/
def State.entering (s : State) (r : Req) (p : Nat) : Tensor :=
  { r.tensor.freshTables with
    penAddr := (s.placeOf r p).1, accounted := r.tensor.accountedSize
    encodeFrom := if (r.f 2 2).testBit 2 then some (BitVec.ofNat 32 (r.f 8 4)) else none
    lastUse := BitVec.ofNat 32 (s.time.now.toNat / 1024) }

/-- The machine once the tensor of a registration is in its pen. -/
def State.entered (s : State) (r : Req) (p : Nat) : State := s.addTensor p (s.placeOf r p) (s.entering r p)

/-- What a tensor's registration answers. -/
def State.placeAnswer (s : State) (r : Req) (p : Nat) : List Byte := leBytes 8 (s.placeOf r p).1 ++ leBytes 8 r.tensor.accountedSize

/-- The checks of a tensor's registration hold: those of its request, of the handle and of the room in its pen. -/
structure State.Admits (s : State) (r : Req) (p : Nat) : Prop where
  number : r.f 4 4 = 0
  flags : r.f 2 2 < 8
  shard : r.tensor.shard.isSome = (r.f 2 2).testBit 1
  hostLoaded : r.tensor.hostLoaded = (r.f 2 2).testBit 0
  entry : s.entryOk p r.entry r.shardRecord r.tensor = true
  noSource : (r.f 2 2).testBit 2 = false → r.f 8 4 = 0
  source : (r.f 2 2).testBit 2 = true → r.tensor.comp = 2 ∧ r.tensor.hostLoaded = false ∧ s.encodeSourceOk p (r.f 8 4) r.tensor = true
  fresh : s.tensor? r.tensor.handle.toNat = none
  addresses : (s.placeOf r p).2.2 < 2 ^ 48
  room : ((s.entered r p).pen p).fixedUse ≤ (s.pen p).nearMin

/-- R419: a tensor that the host loads takes its room at once. -/
theorem State.Admits.registerTensor {s : State} {r : Req} {p : Nat} (h : s.Admits r p) :
    s.registerTensor r p =
      if r.tensor.hostLoaded then
        let v := (s.entered r p).allocate p (s.entering r p) false s.time.clock
        if v.2 then .reply (v.1.becomeNear p r.tensor.handle.toNat .near) stOk (s.placeAnswer r p) else refuse s stNoResource
      else .reply (s.entered r p) stOk (s.placeAnswer r p) := by
  have hencode : ((r.f 2 2).testBit 2 && (r.tensor.comp != 2 || r.tensor.hostLoaded || !(s.encodeSourceOk p (r.f 8 4) r.tensor))) = false := by
    cases he : (r.f 2 2).testBit 2
    case false => rfl
    case true =>
      obtain ⟨hcomp, hhost, hsource⟩ := h.source he
      simp [hcomp, hhost, hsource]
  have hsource : (!(r.f 2 2).testBit 2 && r.f 8 4 != 0) = false := by
    cases he : (r.f 2 2).testBit 2
    case false => simp [h.noSource he]
    case true => rfl
  have hchecks : ¬ ((8 ≤ r.f 2 2 || r.f 4 4 != 0 || (!(r.f 2 2).testBit 2 && r.f 8 4 != 0) ||
      r.tensor.shard.isSome != (r.f 2 2).testBit 1 || r.tensor.hostLoaded != (r.f 2 2).testBit 0 ||
      !(s.entryOk p r.entry r.shardRecord r.tensor) ||
      ((r.f 2 2).testBit 2 && (r.tensor.comp != 2 || r.tensor.hostLoaded || !(s.encodeSourceOk p (r.f 8 4) r.tensor)))) = true) := by
    rw [hencode, hsource]
    simp [Nat.not_le.2 h.flags, h.number, h.shard, h.hostLoaded, h.entry]
  have hfresh : ¬ ((s.tensor? r.tensor.handle.toNat).isSome = true) := by simp [h.fresh]
  have hroom : ¬ (((s.pen p).nearMin < ((s.entered r p).pen p).fixedUse || 2 ^ 48 ≤ (s.placeOf r p).2.2) = true) := by
    simpa [h.room] using h.addresses
  exact (if_neg hchecks).trans ((if_neg hfresh).trans (if_neg hroom))

section Admits

variable {s : State} {r : Req} {p : Nat} (h : s.Admits r p)
include h

theorem State.Admits.registerTensor_away (hw : r.tensor.hostLoaded = false) :
    s.registerTensor r p = .reply (s.entered r p) stOk (s.placeAnswer r p) := by
  rw [h.registerTensor, if_neg (ne_true_of_eq_false hw)]

theorem State.Admits.registerTensor_near (hw : r.tensor.hostLoaded = true)
    (hroom : ((s.entered r p).allocate p (s.entering r p) false s.time.clock).2 = true) :
    s.registerTensor r p = .reply (((s.entered r p).allocate p (s.entering r p) false s.time.clock).1.becomeNear p r.tensor.handle.toNat .near)
      stOk (s.placeAnswer r p) := by
  rw [h.registerTensor, if_pos hw]
  exact if_pos hroom

theorem State.Admits.registerTensor_full (hw : r.tensor.hostLoaded = true)
    (hroom : ((s.entered r p).allocate p (s.entering r p) false s.time.clock).2 = false) :
    s.registerTensor r p = refuse s stNoResource := by
  rw [h.registerTensor, if_pos hw]
  exact if_neg (ne_true_of_eq_false hroom)

end Admits

/-! ### Views and recipes (R143, R219, R231) -/

/-- R219: the view of a registration. -/
def Req.view (r : Req) : View :=
  { number := r.f 4 4, extents := (List.range 6).map (fun k => leField r.entry (4 * k) 4)
    strides := (List.range 5).map (fun k => leField r.entry (24 + 4 * k) 4) }

/-- R219: a view replaces the one of its number. -/
def State.withView (s : State) (p : Nat) (v : View) : State :=
  s.modPen p (fun x => { x with views := x.views.filter (fun y => y.number != v.number) ++ [v] })

/-- The checks of a view's registration hold: R219's, and the room for it in the pen. -/
structure State.AdmitsView (s : State) (r : Req) (p : Nat) : Prop where
  flags : r.f 2 2 = 0
  source : r.f 8 4 = 0
  number : r.view.number ≠ 0 ∧ r.view.number ≤ 65535
  reserved : ∀ b ∈ r.entry.drop 44, b = 0
  extents : ∀ n ∈ r.view.extents, n ≠ 0 ∧ n < 2 ^ 31
  room : ((s.withView p r.view).pen p).fixedUse ≤ (s.pen p).nearMin

theorem State.AdmitsView.registerView {s : State} {r : Req} {p : Nat} (h : s.AdmitsView r p) :
    s.registerView r p = .reply (s.withView p r.view) stOk [] := by
  have hreserved : (r.entry.drop 44).any (· != 0) = false :=
    List.any_eq_false.2 (fun b hb => by simp [h.reserved b hb])
  have hextents : r.view.extents.any (fun n => n = 0 || 2 ^ 31 ≤ n) = false :=
    List.any_eq_false.2 (fun n hn => by
      obtain ⟨hpos, hlt⟩ := h.extents n hn
      simpa [hpos] using hlt)
  have hchecks : ¬ ((r.f 2 2 != 0 || r.f 8 4 != 0 || r.view.number = 0 || 65535 < r.view.number || (r.entry.drop 44).any (· != 0) ||
      r.view.extents.any (fun n => n = 0 || 2 ^ 31 ≤ n)) = true) := by
    rw [hreserved, hextents]
    simp [h.flags, h.source, h.number]
  exact (if_neg hchecks).trans (if_neg (Nat.not_lt.2 h.room))

/-- R231: the descriptors of a recipe's registration. -/
def Req.descriptors (r : Req) : List (List Byte) := (List.range (r.f 4 4)).map (fun k => (r.pay.drop (16 + 256 * k)).take 256)

/-- R231: the machine once a tensor has its recipe, under the next index of its pen. -/
def State.withRecipe (s : State) (p h : Nat) (ds : List (List Byte)) : State :=
  (s.modTensor h (fun x => { x with recipe := ds, recipeIndex := (s.pen p).nextRecipe })).modPen p (fun x => { x with
    nextRecipe := (s.pen p).nextRecipe + 1 })

/-- The checks of a recipe's registration hold: the tensor is live and is not being rebuilt, R231's, and the room in the pen. -/
structure State.AdmitsRecipe (s : State) (r : Req) (p : Nat) (t : Tensor) : Prop where
  flags : r.f 2 2 = 0
  tensor : s.tensor? (r.f 8 4) = some t
  own : r.f 8 4 / 2 ^ 29 = p
  live : t.released = false
  number : 1 ≤ r.f 4 4 ∧ r.f 4 4 ≤ 8
  recipe : s.recipeOk p (r.f 8 4) r.descriptors = true
  idle : t.run = none
  room : ((s.withRecipe p (r.f 8 4) r.descriptors).pen p).fixedUse ≤ (s.pen p).nearMin
  index : (s.pen p).nextRecipe < 2 ^ 24

theorem State.AdmitsRecipe.registerRecipe {s : State} {r : Req} {p : Nat} {t : Tensor} (h : s.AdmitsRecipe r p t) :
    s.registerRecipe r p =
      .reply (s.withRecipe p (r.f 8 4) r.descriptors) stOk (leBytes 4 (s.pen p).nextRecipe ++ leBytes 4 0) := by
  have hchecks : ¬ ((r.f 2 2 != 0 || r.f 4 4 = 0 || 8 < r.f 4 4 || !(s.recipeOk p (r.f 8 4) r.descriptors)) = true) := by
    simp [h.flags, h.recipe, Nat.ne_of_gt h.number.1, h.number.2]
  have hidle : ¬ (t.run.isSome = true) := by simp [h.idle]
  have hroom : ¬ (((s.pen p).nearMin < ((s.withRecipe p (r.f 8 4) r.descriptors).pen p).fixedUse ||
      2 ^ 24 ≤ (s.pen p).nextRecipe) = true) := by
    simpa [h.room] using h.index
  unfold State.registerRecipe
  simp only [h.tensor]
  exact (if_neg (ne_true_of_eq_false (foreign_eq_false h.own h.live))).trans ((if_neg hchecks).trans ((if_neg hidle).trans (if_neg hroom)))

/-! ### TENSOR_RELEASE (R251, R420) -/

theorem State.Reaches.exec_tensorRelease {s : State} {fn : Fin 9} {slot : Fin 4} {p : Nat} {t : Tensor} (h : s.Reaches fn slot 0x0302 p)
    (hl : (s.pen p).state.live = true) (hz : (s.reqIn fn slot).zero 1 4 = true) (ht : s.tensor? ((s.reqIn fn slot).f 4 4) = some t)
    (hown : (s.reqIn fn slot).f 4 4 / 2 ^ 29 = p) (hr : t.released = false) (hb : s.bound p t = false) :
    exec (.tensorRelease fn slot) s = .next ((((((s.taken fn slot).cancelMoves p ((s.reqIn fn slot).f 4 4)).sweepReleased).retryAllocs).answer
      (slotIndex fn slot) stOk []).settleRound) := by
  refine congrArg Host.Outcome.next ((h.serve_live hl (fun _ _ => rfl)).trans ?_)
  simp only [hz, State.taken_tensorOpt, ht, foreign_eq_false hown hr, State.taken_bound, hb, Bool.not_true, Bool.false_eq_true,
    if_false, Answer.finish_reply]

/-! ### ITINERARY_LOAD (R233, R234, R275, R420) -/

/-- R420: the answer of a load: the points, the needs, and whether the itinerary waits for a mark. -/
def itineraryAnswer (points needs : Nat) (later : Bool) : List Byte :=
  leBytes 4 points ++ leBytes 4 needs ++ [BitVec.ofNat 8 (natOfBool later)] ++ List.replicate 7 0

theorem length_itineraryAnswer (points needs : Nat) (later : Bool) : (itineraryAnswer points needs later).length = 16 := by
  simp [itineraryAnswer]

theorem itineraryAnswer_points (points needs : Nat) (later : Bool) :
    leField (itineraryAnswer points needs later) 0 4 = points % 2 ^ 32 := by
  rw [itineraryAnswer, List.append_assoc, List.append_assoc, leField_leBytes_append, show 256 ^ 4 = 2 ^ 32 from rfl]

theorem itineraryAnswer_later (points needs : Nat) (later : Bool) :
    leField (itineraryAnswer points needs later) 8 1 = natOfBool later := by
  have hlen : (leBytes 4 points ++ leBytes 4 needs).length = 8 := by simp
  rw [itineraryAnswer, List.append_assoc, leField_append_of_length hlen]
  cases later <;> rfl

/-- R234: the pen has a job that is active: it runs, quiesces or is quiesced. -/
def PenState.hasJob (x : PenState) : Bool := x = .running || x = .quiescing || x = .quiesced

theorem PenState.hasJob_iff {x : PenState} : x.hasJob = true ↔ x = .running ∨ x = .quiescing ∨ x = .quiesced := by
  simp [PenState.hasJob, or_assoc]

/-- R234: the machine with an itinerary adopted, before the Drover prepares its needs. -/
def State.itineraryNow (s : State) (p : Nat) (it : Itinerary) : State :=
  s.modPen p (fun x => { x with itinerary := some it, pendingItin := none })

/-- R234: the machine with an itinerary that waits for the pen's next mark of point 0. -/
def State.itineraryLater (s : State) (p : Nat) (it : Itinerary) : State := s.modPen p (fun x => { x with pendingItin := some it })

/-- The needs that the header of a tensor's itinerary counts. -/
def State.needsOf (s : State) (p : Nat) (t : Tensor) : Nat := leField ((List.range 12).map (s.nearForm p t)) 8 4

/-- R233: the tensor's bytes can be read, and hold an itinerary. -/
structure State.Holds (s : State) (p : Nat) (t : Tensor) (it : Itinerary) : Prop where
  served : s.servesTensor .drover t = true
  whole : s.tensorPoisoned t = false
  parses : s.parseItinerary p ((List.range t.storedBytes).map (s.nearForm p t)) = some it

section LoadFrom

variable {s : State} {p : Nat} {t : Tensor} {it : Itinerary}

theorem State.loadFrom_held (h : s.servesTensor .drover t = false) : s.loadFrom p t = .wait s := by
  simp only [State.loadFrom, h, Bool.not_false, if_true]

theorem State.loadFrom_poisoned (h : s.servesTensor .drover t = true) (hp : s.tensorPoisoned t = true) :
    s.loadFrom p t = refuse (s.meetPoison t) stBadParam := by
  simp only [State.loadFrom, h, hp, Bool.not_true, Bool.false_eq_true, if_false, if_true]

theorem State.Holds.loadFrom_idle (h : s.Holds p t it) (hj : (s.pen p).state.hasJob = false)
    (hroom : ((s.itineraryNow p it).pen p).fixedUse ≤ (s.pen p).nearMin) :
    s.loadFrom p t = .reply ((s.adoptNow p it).useTensor t.handle.toNat) stOk (itineraryAnswer it.points.length (s.needsOf p t) false) := by
  rw [PenState.hasJob] at hj
  simp only [State.loadFrom, h.served, h.whole, h.parses, hj, Bool.not_true, Bool.false_eq_true, if_false]
  exact if_neg (Nat.not_lt.2 hroom)

theorem State.Holds.loadFrom_job (h : s.Holds p t it) (hj : (s.pen p).state.hasJob = true)
    (hroom : ((s.itineraryLater p it).pen p).fixedUse ≤ (s.pen p).nearMin) :
    s.loadFrom p t = .reply ((s.itineraryLater p it).useTensor t.handle.toNat) stOk (itineraryAnswer it.points.length (s.needsOf p t) true) := by
  rw [PenState.hasJob] at hj
  simp only [State.loadFrom, h.served, h.whole, h.parses, hj, Bool.not_true, Bool.false_eq_true, if_false, if_true]
  exact if_neg (Nat.not_lt.2 hroom)

end LoadFrom

/-- R234: 0xFFFFFFFF selects demand loading. -/
theorem State.Reaches.exec_itineraryLoad_demand {s : State} {fn : Fin 9} {slot : Fin 4} {p : Nat} (h : s.Reaches fn slot 0x0303 p)
    (hl : (s.pen p).state.live = true) (hz : (s.reqIn fn slot).zero 1 4 = true) (hh : (s.reqIn fn slot).f 4 4 = 0xFFFFFFFF) :
    exec (.itineraryLoad fn slot) s = .next ((((s.taken fn slot).modPen p (fun x => { x with
      itinerary := none, pendingItin := none, demand := true, measured := [] })).answer
        (slotIndex fn slot) stOk (List.replicate 16 0)).settleRound) := by
  refine congrArg Host.Outcome.next ((h.serve_live hl (fun _ _ => rfl)).trans ?_)
  simp only [hz, hh, Bool.not_true, Bool.false_eq_true, if_false, if_true, Answer.finish_reply]

/-- The tensor that a load names can hold an itinerary, and is near. -/
structure State.Loads (s : State) (fn : Fin 9) (slot : Fin 4) (p : Nat) (t : Tensor) : Prop extends s.Reaches fn slot 0x0303 p where
  penLive : (s.pen p).state.live = true
  reserved : (s.reqIn fn slot).zero 1 4 = true
  tensor : s.tensor? ((s.reqIn fn slot).f 4 4) = some t
  own : (s.reqIn fn slot).f 4 4 / 2 ^ 29 = p
  live : t.released = false
  plain : t.fmt = 0xC ∧ t.mx = false ∧ t.comp = 0
  hostLoaded : t.hostLoaded = true
  near : t.readable = true
  named : (s.reqIn fn slot).f 4 4 ≠ 0xFFFFFFFF

theorem State.Loads.exec_itineraryLoad {s : State} {fn : Fin 9} {slot : Fin 4} {p : Nat} {t : Tensor} (h : s.Loads fn slot p t) :
    exec (.itineraryLoad fn slot) s = .next ((((s.taken fn slot).loadFrom p t).finish (slotIndex fn slot)).settleRound) := by
  obtain ⟨hfmt, hmx, hcomp⟩ := h.plain
  have hform : (t.fmt != 0xC || t.mx || t.comp != 0 || !t.hostLoaded || !t.readable) = false := by
    simp [hfmt, hmx, hcomp, h.hostLoaded, h.near]
  refine congrArg Host.Outcome.next ((h.serve_live h.penLive (fun _ _ => rfl)).trans ?_)
  simp only [h.reserved, h.named, State.taken_tensorOpt, h.tensor, foreign_eq_false h.own h.live, hform,
    Bool.not_true, Bool.false_eq_true, if_false]

/-! ### BASE_REGISTER (R247, R271, R275, R421) -/

/-- R414: the command's own slot is the only one that is BUSY with its opcode, when none was before. -/
theorem State.taken_busySlots_others {s : State} {fn : Fin 9} {slot : Fin 4} {op : Nat} {f : List Byte → Bool} (h : s.busySlots op f = []) :
    ((s.taken fn slot).busySlots op f).any (· != slotIndex fn slot) = false := by
  refine List.any_eq_false.2 (fun i hi => ?_)
  by_cases hslot : i = slotIndex fn slot
  case pos => simp [hslot]
  case neg =>
    have hsame : (s.taken fn slot).slotAt i = s.slotAt i := State.takeGo_slotAt_ne (s := s.quiet) (Ne.symm hslot)
    have hbusy : i ∈ s.busySlots op f := by simpa only [State.busySlots, List.mem_filter, hsame] using hi
    rw [h] at hbusy
    cases hbusy

@[simp] theorem State.reqIn_slot (s : State) (fn : Fin 9) (slot : Fin 4) : (s.reqIn fn slot).slot = slotIndex fn slot := rfl

section TryBase

variable {s : State} {i p n : Nat} {t : Tensor}

theorem State.tryBase_held (h : s.servesTensor .drover t = false) : s.tryBase i p n t = s := by
  simp only [State.tryBase, h, Bool.not_false, if_true]

theorem State.tryBase_poisoned (h : s.servesTensor .drover t = true) (hp : s.tensorPoisoned t = true) :
    s.tryBase i p n t = s.meetPoison t := by
  simp only [State.tryBase, h, hp, Bool.not_true, Bool.false_eq_true, if_false, if_true]

theorem State.tryBase_whole (h : s.servesTensor .drover t = true) (hp : s.tensorPoisoned t = false) :
    s.tryBase i p n t = s.beginBase i p n t := by
  simp only [State.tryBase, h, hp, Bool.not_true, Bool.false_eq_true, if_false]

end TryBase

/-- R421: the fields of a request for a base are in their ranges. -/
theorem baseFields_eq_false {number flags reserved : Nat} (hn : number ≤ 63) (hf : flags ≤ 1) (hz : reserved = 0) :
    (63 < number || 1 < flags || reserved != 0) = false := by
  simp [hn, hf, hz]

section BaseRegister

variable {s : State} {fn : Fin 9} {slot : Fin 4} {p : Nat}

/-- A registration passes its own checks: its source `t` is a live tensor of a base's format, and its base is not in use. -/
structure State.RegistersBase (s : State) (fn : Fin 9) (slot : Fin 4) (p : Nat) (t : Tensor) : Prop extends s.Reaches fn slot 0x0305 p where
  penLive : (s.pen p).state.live = true
  number : (s.reqIn fn slot).f 1 1 ≤ 63
  flags : (s.reqIn fn slot).f 2 1 = 0
  reserved : (s.reqIn fn slot).f 3 1 = 0
  alone : s.busySlots 0x0305 (fun _ => true) = []
  tensor : s.tensor? ((s.reqIn fn slot).f 4 4) = some t
  own : (s.reqIn fn slot).f 4 4 / 2 ^ 29 = p
  live : t.released = false
  source : baseSource t = true
  unused : ∀ b, s.base? (baseHandle ((s.reqIn fn slot).f 1 1)) = some b → b.lost = true
  ports : s.stripeNow ≠ []

theorem State.RegistersBase.exec_baseRegister {t : Tensor} (h : s.RegistersBase fn slot p t) :
    exec (.baseRegister fn slot) s = .next
      (if t.readable then (s.taken fn slot).tryBase (slotIndex fn slot) p ((s.reqIn fn slot).f 1 1) t
        else (s.taken fn slot).takePath p ((s.reqIn fn slot).f 4 4) s.time.clock false).settleRound := by
  have hbusy := State.taken_busySlots_others (fn := fn) (slot := slot) h.alone
  refine congrArg Host.Outcome.next ((h.serve (fun _ _ => rfl)).trans ?_)
  simp only [State.reqIn_slot, hbusy, h.flags, baseFields_eq_false h.number (Nat.zero_le 1) h.reserved, State.taken_pen, h.penLive,
    State.taken_tensorOpt, h.tensor, foreign_eq_false h.own h.live, h.source, State.taken_baseOpt, State.taken_stripeNow, h.ports,
    State.taken_time, Bool.not_true, Bool.false_eq_true, if_false, Nat.zero_ne_one]
  cases hb : s.base? (baseHandle ((s.reqIn fn slot).f 1 1))
  case none => simp only [Bool.false_eq_true, if_false, Answer.finish_wait]
  case some b => simp only [h.unused b hb, Bool.not_true, Bool.false_eq_true, if_false, Answer.finish_wait]

/-- R421: a base that no DLT tensor names is released. -/
theorem State.Reaches.exec_baseRegister_release {b : Tensor} (h : s.Reaches fn slot 0x0305 p) (hn : (s.reqIn fn slot).f 1 1 ≤ 63)
    (hflags : (s.reqIn fn slot).f 2 1 = 1) (hz : (s.reqIn fn slot).f 3 1 = 0) (hsource : (s.reqIn fn slot).f 4 4 = 0)
    (halone : s.busySlots 0x0305 (fun _ => true) = []) (hb : s.base? (baseHandle ((s.reqIn fn slot).f 1 1)) = some b)
    (hfree : s.baseNamed ((s.reqIn fn slot).f 1 1) = false) :
    exec (.baseRegister fn slot) s = .next (((((((s.taken fn slot).freeBasePages b).modDrover (fun d => { d with
      bases := d.bases.filter (fun x => x.1 != (s.reqIn fn slot).f 1 1)
      basePens := d.basePens.filter (fun x => x.1 != (s.reqIn fn slot).f 1 1) })).retryAllocs)).answer
        (slotIndex fn slot) stOk []).settleRound) := by
  have hbusy := State.taken_busySlots_others (fn := fn) (slot := slot) halone
  refine congrArg Host.Outcome.next ((h.serve (fun _ _ => rfl)).trans ?_)
  simp only [State.reqIn_slot, hbusy, hflags, baseFields_eq_false hn (Nat.le_refl 1) hz, baseRelease, hsource, bne_self_eq_false,
    State.taken_baseOpt, hb, State.taken_baseNamed, hfree, Bool.false_eq_true, if_false, if_true, Answer.finish_reply]

end BaseRegister

/-! ### The statement -/

/-- Settles O30: each clause is what its command's body answers on the request taken. -/
theorem tensorCommands : Obligations.TensorCommands := by
  unfold Obligations.TensorCommands
  refine ⟨fun fn slot p s hw hp hlt hf hl hz hk => ?tensor, fun fn slot p s hw hp hlt hf hl hz hk hflags hsrc => ?view,
    fun fn slot p t s hw hp hlt hf hl hz hk hflags => ?recipe, fun fn slot p t s hw hp hlt hf hl hz ht hown hr hb => ?release,
    fun fn slot p s hw hp hlt hf hl hz hh => ?demand,
    fun fn slot p t it s hw hp hlt hf hl hz ht hown hr hfmt hmx hcomp hhost hnear hserved hwhole hparse hh => ?load,
    fun fn slot p t s hw hp hlt hf hl hz ht hown hr hfmt hmx hcomp hhost hnear hh => ?loadFails,
    fun fn slot p t s hw hp hlt hf hl hn hflags hz halone ht hown hr hsrc hunused hports => ?base,
    fun fn slot p b s hw hp hlt hf hn hflags hz hsrc halone hb hfree => ?baseRelease⟩
  all_goals have h : s.Reaches fn slot _ p := ⟨hw, hp, hlt, hf⟩
  case tensor =>
    intro hnum flags source encode e sh t0 x t u pay hflags hshard hhost hentry hno hsrc hfresh haddr hroom
    have hadm : (s.taken fn slot).Admits (s.reqIn fn slot) p := ⟨hnum, hflags, hshard, hhost, hentry, hno, hsrc, hfresh, haddr, hroom⟩
    rw [h.exec_tensorRegister hl hz hk, State.register]
    refine ⟨fun haway => ?away, fun hnear hfits => ?near, fun hnear hfull => ?full⟩
    case away =>
      rw [hadm.registerTensor_away haway]
      rfl
    case near =>
      rw [hadm.registerTensor_near hnear hfits]
      rfl
    case full =>
      rw [hadm.registerTensor_full hnear hfull]
      rfl
  case view =>
    intro e v u hzero hmax hres hext hroom
    have hadm : (s.taken fn slot).AdmitsView (s.reqIn fn slot) p := ⟨hflags, hsrc, ⟨hzero, hmax⟩, hres, hext, hroom⟩
    rw [h.exec_tensorRegister hl hz hk, State.register, hadm.registerView]
    rfl
  case recipe =>
    intro hd n ds k u ht hown hr hone hmax hrec hrun hroom hindex
    have hadm : (s.taken fn slot).AdmitsRecipe (s.reqIn fn slot) p t := ⟨hflags, ht, hown, hr, ⟨hone, hmax⟩, hrec, hrun, hroom, hindex⟩
    rw [h.exec_tensorRegister hl hz hk, State.register, hadm.registerRecipe]
    rfl
  case release => exact h.exec_tensorRelease hl hz ht hown hr hb
  case demand => exact h.exec_itineraryLoad_demand hl hz hh
  case load =>
    intro running now later
    have hexec := State.Loads.exec_itineraryLoad ⟨h, hl, hz, ht, hown, hr, ⟨hfmt, hmx, hcomp⟩, hhost, hnear, hh⟩
    have hholds : (s.taken fn slot).Holds p t it := ⟨hserved, hwhole, hparse⟩
    refine ⟨itineraryAnswer it.points.length ((s.taken fn slot).needsOf p t) (s.pen p).state.hasJob, length_itineraryAnswer ..,
      itineraryAnswer_points .., fun hidle hroom => ?now, fun hjob hroom => ?later⟩
    case now =>
      have hj : (s.pen p).state.hasJob = false := Bool.eq_false_iff.2 (mt PenState.hasJob_iff.1 hidle)
      rw [itineraryAnswer_later, hexec, hholds.loadFrom_idle hj hroom, hj]
      exact ⟨rfl, rfl⟩
    case later =>
      have hj : (s.pen p).state.hasJob = true := PenState.hasJob_iff.2 hjob
      rw [itineraryAnswer_later, hexec, hholds.loadFrom_job hj hroom, hj]
      exact ⟨rfl, rfl⟩
  case loadFails =>
    have hexec := State.Loads.exec_itineraryLoad ⟨h, hl, hz, ht, hown, hr, ⟨hfmt, hmx, hcomp⟩, hhost, hnear, hh⟩
    refine ⟨fun hheld => ?held, fun hserved hpoison => ?poisoned⟩
    case held => rw [hexec, State.loadFrom_held (s := s.taken fn slot) hheld, Answer.finish_wait]
    case poisoned =>
      rw [hexec, State.loadFrom_poisoned (s := s.taken fn slot) hserved hpoison]
      rfl
  case base =>
    intro u
    have hexec := State.RegistersBase.exec_baseRegister ⟨h, hl, hn, hflags, hz, halone, ht, hown, hr, hsrc, hunused, hports⟩
    refine ⟨fun hnear hserved hwhole => ?whole, fun hnear hserved hpoison => ?poisoned, fun hnear hheld => ?held, fun haway => ?away⟩
    case whole => rw [hexec, if_pos hnear, State.tryBase_whole (s := s.taken fn slot) hserved hwhole]
    case poisoned => rw [hexec, if_pos hnear, State.tryBase_poisoned (s := s.taken fn slot) hserved hpoison]
    case held => rw [hexec, if_pos hnear, State.tryBase_held (s := s.taken fn slot) hheld]
    case away => rw [hexec, if_neg (ne_true_of_eq_false haway)]
  case baseRelease => exact h.exec_baseRegister_release hn hflags hz hsrc halone hb hfree

end Machine
end Sys2Proof

/-! SUPPORT. The Talsen ports (R243, R244, R404 to R406, R445): one port of the state, the relink that comes next, and what each
event of a port does. -/

namespace Sys2Proof.Machine

/-! ### One Talsen port of the state -/

section OnePort

variable {s t : State} {k p : Nat} {f g : Talsen → Talsen}

theorem State.talsenAt_of_talsen (h : t.talsen = s.talsen) (k : Nat) : t.talsenAt k = s.talsenAt k := by
  rw [State.talsenAt, State.talsenAt, h]

@[simp] theorem State.count_talsenAt (s : State) (item n k : Nat) : (s.count item n).talsenAt k = s.talsenAt k :=
  State.talsenAt_of_talsen (State.count_talsen ..) k

theorem State.talsenAt_modTalsen_same (f : Talsen → Talsen) (h : k < s.talsen.length) :
    (s.modTalsen k f).talsenAt k = f (s.talsenAt k) := by
  simp only [State.talsenAt, State.modTalsen_talsen, List.getD_eq_getElem?_getD, List.getElem?_modify_eq, List.getElem?_eq_getElem h,
    Option.map_eq_map, Option.map_some, Option.getD_some]

theorem State.talsenAt_modTalsen_ne (f : Talsen → Talsen) (h : p ≠ k) : (s.modTalsen k f).talsenAt p = s.talsenAt p := by
  simp only [State.talsenAt, State.modTalsen_talsen, List.getD_eq_getElem?_getD, List.getElem?_modify_ne _ _ (Ne.symm h)]

/-- An update is what it does to its own port. -/
theorem State.modTalsen_congr (h : f (s.talsenAt k) = g (s.talsenAt k)) : s.modTalsen k f = s.modTalsen k g := by
  have hmodify : s.talsen.modify k f = s.talsen.modify k g := by
    refine List.ext_getElem? (fun i => ?_)
    by_cases hik : k = i
    case pos =>
      subst hik
      rw [List.getElem?_modify_eq, List.getElem?_modify_eq]
      cases hx : s.talsen[k]? with
      | none => rfl
      | some x =>
        have hat : s.talsenAt k = x := by rw [State.talsenAt, List.getD_eq_getElem?_getD, hx, Option.getD_some]
        exact congrArg some (hat ▸ h)
    case neg => rw [List.getElem?_modify_ne _ _ hik, List.getElem?_modify_ne _ _ hik]
  rw [State.modTalsen, State.modTalsen, hmodify]

end OnePort

/-- Updates that leave `p` as it is do not change whether any element has it. -/
theorem any_modify_of_keeps {α : Type} {p : α → Bool} {f : α → α} (h : ∀ x, p (f x) = p x) (l : List α) (k : Nat) :
    (l.modify k f).any p = l.any p := by
  induction l generalizing k with
  | nil => cases k <;> rfl
  | cons x l ih =>
    cases k with
    | zero => rw [List.modify_zero_cons, List.any_cons, List.any_cons, h]
    | succ k => rw [List.modify_succ_cons, List.any_cons, List.any_cons, ih]

/-! ### The relink that comes next (R244, R406) -/

/-- R406: the port begins its relink, and its corrected errors count anew. -/
def Talsen.relink (x : Talsen) : Talsen := { x with state := .training, relinking := true, relinkDue := false, corrected := [] }

/-- R406: the port waits for its relink, with these corrected errors. -/
def Talsen.dueWith (x : Talsen) (errors : List Nat) : Talsen := { x with relinkDue := true, corrected := errors }

theorem State.startRelink_of_relinking {s : State} (h : s.talsen.any Talsen.relinking = true) : s.startRelink = s := by
  rw [State.startRelink, h, Bool.true_or, if_pos rfl]

/-- R406: with no relink in progress the lowest port that waits begins its own. -/
theorem State.startRelink_talsen {s : State} {p : Nat} (hidle : s.talsen.any Talsen.relinking = false) (hruns : s.boot.shepherdRuns = true)
    (hp : p < 4) (hdue : (s.talsenAt p).relinkDue = true) (hup : (s.talsenAt p).state = .up)
    (hlow : ∀ q < p, (s.talsenAt q).relinkDue = false ∨ (s.talsenAt q).state ≠ .up) :
    s.startRelink.talsen = s.talsen.modify p Talsen.relink := by
  have hfirst : (List.range 4).find? (fun q => (s.talsenAt q).relinkDue && (s.talsenAt q).state == .up) = some p := by
    refine List.find?_range_eq_some.2 ⟨by rw [hdue, hup]; rfl, List.mem_range.2 hp, fun q hq => ?_⟩
    rcases hlow q hq with h | h
    · rw [h, Bool.false_and, Bool.not_false]
    · rw [beq_false_of_ne h, Bool.and_false, Bool.not_false]
  have hstall (u : State) : Keeps [.comp, .pens, .health] u (u.forAll u.fetchOrder State.stallFetch) :=
    State.forAll_keeps Keeps.rfl (fun _ _ => State.stallFetch_keeps)
  simp only [State.startRelink, hidle, hruns, hfirst, Bool.not_true, Bool.or_self, Bool.false_eq_true, if_false]
  exact ((hstall _).only.same .talsen (by decide)).trans (State.healthEventAll_talsen ..)

/-! ### A port goes down (R243) -/

/-- R243: the port is down, and no longer waits for a relink. -/
def Talsen.goDown (x : Talsen) : Talsen := { x with state := .down, relinkDue := false }

/-- R243: what the Drover does about a port that has gone: the reads issued to it fail, its write-behinds end, needs are decided
again. -/
def State.portGone (s : State) (port : Nat) : State :=
  let v := s.forAll s.allTensors (fun w x => match (w.any? x.1).bind (fun y => y.issuedTo port) with
    | some c => w.farCopyBad x.1 c 5
    | none => w)
  let z := v.forAll v.allTensors (fun w x => match (w.tensor? x.1).bind Tensor.wb with
    | some b => if b.stripe.contains port then w.wbFails x.1 port else w
    | none => w)
  (z.forAll z.fetchOrder State.stallFetch).pumpReads

/-- R243: none of the Drover's work changes a port. -/
theorem State.portGone_talsen (s : State) (port : Nat) : (s.portGone port).talsen = s.talsen := by
  have hreads (u : State) (x : Nat × Tensor) : Keeps [.host, .comp, .pens, .drover, .np, .fab, .qe, .health, .out, .free] u
      (match (u.any? x.1).bind (fun y => y.issuedTo port) with
        | some c => u.farCopyBad x.1 c 5
        | none => u) := by
    split
    · exact State.farCopyBad_keeps
    · exact Keeps.rfl
  have hwrites (u : State) (x : Nat × Tensor) : Keeps [.pens, .health, .out] u
      (match (u.tensor? x.1).bind Tensor.wb with
        | some b => if b.stripe.contains port then u.wbFails x.1 port else u
        | none => u) := by
    split
    · split
      · exact State.wbFails_keeps
      · exact Keeps.rfl
    · exact Keeps.rfl
  have hall : Keeps [.host, .comp, .pens, .drover, .np, .fab, .qe, .health, .out, .free] s (s.portGone port) :=
    (((State.forAll_keeps Keeps.rfl hreads).step (State.forAll_keeps Keeps.rfl hwrites) (by decide)).step
      (State.forAll_keeps Keeps.rfl (fun _ _ => State.stallFetch_keeps)) (by decide)).step State.pumpReads_keeps (by decide)
  exact hall.only.same .talsen (by decide)

section Events

variable {port : Fin 4} {s : State}

theorem exec_talsenLinkDown (hup : (s.talsenAt port).state = .up) (hrelink : (s.talsenAt port).relinking = false) :
    exec (.talsenLinkDown port) s = .next
      ((((s.quiet.modTalsen port Talsen.goDown).logFault 10 0x0602 .corrected port).healthEventAll 4).portGone port) := by
  have hserves : ((s.quiet.talsenAt port).state == .up && !(s.quiet.talsenAt port).relinking) = true := by
    simp only [State.quiet_talsenAt, hup, hrelink, beq_self_eq_true, Bool.not_false, Bool.and_self]
  exact if_pos hserves

/-- R243: only the port itself changes among the ports. -/
theorem talsenLinkDown_talsen (hup : (s.talsenAt port).state = .up) (hrelink : (s.talsenAt port).relinking = false) :
    ∃ t, exec (.talsenLinkDown port) s = .next t ∧ t.talsen = (s.modTalsen port Talsen.goDown).talsen :=
  ⟨_, exec_talsenLinkDown hup hrelink, by rw [State.portGone_talsen, State.healthEventAll_talsen, State.logFault_talsen]; rfl⟩

/-! ### An expander comes back (R405, R406) -/

/-- R405, R406: at stage 4 and above the link up of a port that does not serve is settled by the expander that it shows. -/
theorem exec_talsenLinkUp {x : Expander} (hstage : 4 ≤ s.keptStage)
    (hdown : (s.talsenAt port).state ≠ .up ∨ (s.talsenAt port).relinking = true) :
    exec (.talsenLinkUp port x) s = .next (
      if (s.talsenAt port).takesBack x = true then
        (((s.quiet.modTalsen port (fun y => { y with
          state := .up, relinking := false, failed := 0, rate32 := x.rate32, width8 := x.width8 })).healthEventAll 4).portBack).startRelink
      else if (Expander.failedRow x != 0) = true then
        ((s.quiet.modTalsen port (fun y => { y with
          state := .down, relinking := false, failed := Expander.failedRow x })).logFault 10 0x0601 .corrected port none none
            (Expander.failedRow x)).startRelink
      else (s.quiet.modTalsen port (fun y => { y with state := .unused, relinking := false })).startRelink) := by
  have hserves :
      (decide (s.quiet.keptStage < 4) || ((s.quiet.talsenAt port).state == .up && !(s.quiet.talsenAt port).relinking)) = false := by
    simp only [State.quiet_keptStage, State.quiet_talsenAt, Nat.not_lt.2 hstage, decide_false, Bool.false_or]
    rcases hdown with h | h
    · rw [beq_false_of_ne h, Bool.false_and]
    · rw [h, Bool.not_true, Bool.and_false]
  refine (if_neg (Bool.eq_false_iff.1 hserves)).trans ?_
  rw [apply_ite Host.Outcome.next, apply_ite Host.Outcome.next]
  rfl

/-! ### Corrected errors (R406) -/

/-- R406: the corrected errors that the port has had in the last 60 s. -/
def State.recentErrors (s : State) (port : Nat) : List Nat :=
  (s.talsenAt port).corrected.filter (fun c => s.time.clock ≤ c + 60000000000)

/-- R406: one more corrected error of the port is counted. -/
def State.countCorrected (s : State) (port : Nat) : State :=
  (s.quiet.count 39 1).modTalsen port (fun x => { x with corrected := s.recentErrors port ++ [s.time.clock] })

/-- R406: that error is counted, and the port waits for its relink. -/
def State.countCorrectedDue (s : State) (port : Nat) : State :=
  (s.countCorrected port).modTalsen port (fun x => { x with relinkDue := true })

/-- R406: past 1,000 errors in 60 s a port that is up waits for its relink. -/
theorem exec_talsenCorrectedError (h : port.val < s.talsen.length) :
    exec (.talsenCorrectedError port) s = .next (
      if 1000 ≤ (s.recentErrors port).length ∧ (s.talsenAt port).state = .up then (s.countCorrectedDue port).startRelink
      else s.countCorrected port) := by
  have hcounted : (s.quiet.count 39 1).modTalsen port (fun x => { x with
      corrected := x.corrected.filter (fun c => (s.quiet.count 39 1).time.clock ≤ c + 60000000000) ++
        [(s.quiet.count 39 1).time.clock] }) = s.countCorrected port :=
    State.modTalsen_congr (by
      simp only [State.count_talsenAt, State.count_time, State.quiet_talsenAt, State.quiet_time, State.recentErrors])
  have hport : port.val < (s.quiet.count 39 1).talsen.length := by rwa [State.count_talsen]
  have hat : (s.countCorrected port).talsenAt port =
      { s.talsenAt port with corrected := s.recentErrors port ++ [s.time.clock] } :=
    (State.talsenAt_modTalsen_same _ hport).trans (by rw [State.count_talsenAt, State.quiet_talsenAt])
  have hmany : (decide (1000 < ((s.countCorrected port).talsenAt port).corrected.length) &&
      ((s.countCorrected port).talsenAt port).state == .up) = true ↔
        1000 ≤ (s.recentErrors port).length ∧ (s.talsenAt port).state = .up := by
    simp only [hat, Bool.and_eq_true, decide_eq_true_eq, beq_iff_eq, List.length_append, List.length_singleton, Nat.lt_succ_iff]
  change execTalsenCorrectedError port s = _
  simp only [execTalsenCorrectedError, hcounted, hmany]
  rfl

theorem State.countCorrectedDue_talsen (s : State) (port : Nat) :
    (s.countCorrectedDue port).talsen = (s.modTalsen port (fun x => x.dueWith (s.recentErrors port ++ [s.time.clock]))).talsen := by
  simp only [State.countCorrectedDue, State.countCorrected, State.modTalsen_talsen, State.count_talsen, State.quiet_talsen,
    List.modify_modify_eq]
  rfl

theorem State.countCorrectedDue_talsenAt_same (h : port.val < s.talsen.length) :
    (s.countCorrectedDue port).talsenAt port = (s.talsenAt port).dueWith (s.recentErrors port ++ [s.time.clock]) :=
  (State.talsenAt_of_talsen (s.countCorrectedDue_talsen port) port).trans (State.talsenAt_modTalsen_same _ h)

theorem State.countCorrectedDue_talsenAt_ne {q : Nat} (h : q ≠ port) : (s.countCorrectedDue port).talsenAt q = s.talsenAt q :=
  (State.talsenAt_of_talsen (s.countCorrectedDue_talsen port) q).trans (State.talsenAt_modTalsen_ne _ h)

/-- A port that waits does not relink yet. -/
theorem State.countCorrectedDue_relinking (s : State) (port : Nat) :
    (s.countCorrectedDue port).talsen.any Talsen.relinking = s.talsen.any Talsen.relinking := by
  rw [State.countCorrectedDue_talsen]
  exact any_modify_of_keeps (p := Talsen.relinking)
    (f := fun x => x.dueWith (s.recentErrors port ++ [s.time.clock])) (fun _ => rfl) s.talsen port

/-- R406: the relink begins at once when no other is in progress and no lower port waits for one. -/
theorem State.countCorrectedDue_startRelink_talsen (h : port.val < s.talsen.length) (hup : (s.talsenAt port).state = .up)
    (hidle : s.talsen.any Talsen.relinking = false) (hruns : s.boot.shepherdRuns = true)
    (hlow : ∀ q < port.val, (s.talsenAt q).relinkDue = false ∨ (s.talsenAt q).state ≠ .up) :
    (s.countCorrectedDue port).startRelink.talsen = (s.modTalsen port Talsen.relink).talsen := by
  have hwaits := State.countCorrectedDue_talsenAt_same h
  have hruns' : (s.countCorrectedDue port).boot.shepherdRuns = true := by
    rw [State.countCorrectedDue, State.countCorrected, State.modTalsen_boot, State.modTalsen_boot, State.count_boot,
      State.quiet_boot, hruns]
  rw [State.startRelink_talsen ((s.countCorrectedDue_relinking port).trans hidle) hruns' port.isLt
      (by rw [hwaits]; rfl) (by rw [hwaits]; exact hup)
      (fun q hq => by rw [State.countCorrectedDue_talsenAt_ne (Nat.ne_of_lt hq)]; exact hlow q hq),
    State.countCorrectedDue_talsen, State.modTalsen_talsen, List.modify_modify_eq]
  rfl

/-! ### Far pasture after a cold start (R445) -/

theorem exec_farPastureOverwrite {bytes : Nat} (hup : (s.talsenAt port).state = .up)
    (hleft : 0 < min bytes (s.boot.farUnwiped.getD port 0)) :
    exec (.farPastureOverwrite port bytes) s = .next ((s.quiet.modBoot (fun b => { b with
      farUnwiped := b.farUnwiped.modify port (fun x => x - min bytes (s.boot.farUnwiped.getD port 0)) })).emit
        (.farZero port (s.farUsable port) (min bytes (s.boot.farUnwiped.getD port 0)))) := by
  have hgoes : (decide (min bytes (s.quiet.boot.farUnwiped.getD port 0) = 0) || (s.quiet.talsenAt port).state != .up) = false := by
    simp only [State.quiet_boot, State.quiet_talsenAt, hup, Nat.pos_iff_ne_zero.1 hleft, decide_false, bne_self_eq_false, Bool.or_self]
  exact if_neg (Bool.eq_false_iff.1 hgoes)

end Events

/-! ### The statement -/

/-- Settles O51: each clause is what its event does to the port, and the Drover's work after it leaves the ports. -/
theorem talsenPorts : Obligations.TalsenPorts := by
  unfold Obligations.TalsenPorts
  refine ⟨fun port s _ hup hrelink hlen => ?down, fun port x s hstage hdown => ⟨fun hback => ?back, fun hback hrow => ?fails,
    fun hback hrow => ?unused⟩, fun port s => ?corrected, fun port bytes s hup hleft => exec_farPastureOverwrite hup hleft⟩
  case down =>
    have hport : port.val < s.talsen.length := lt_of_lt_of_eq port.isLt hlen.symm
    obtain ⟨t, hexec, htalsen⟩ := talsenLinkDown_talsen hup hrelink
    refine ⟨t, hexec, ?_, fun p _ hne => ?_⟩
    · rw [State.talsenAt_of_talsen htalsen, State.talsenAt_modTalsen_same _ hport]
      rfl
    · -- The statement's bound `p < 4` is one of `Fin 4`, where 4 is 0; every other port is left alone without it.
      rw [State.talsenAt_of_talsen htalsen, State.talsenAt_modTalsen_ne _ (Fin.val_ne_of_ne hne)]
  case back => rw [exec_talsenLinkUp hstage hdown, if_pos hback]
  case fails => rw [exec_talsenLinkUp hstage hdown, if_neg (Bool.eq_false_iff.1 hback), if_pos (bne_iff_ne.2 hrow)]
  case unused => rw [exec_talsenLinkUp hstage hdown, if_neg (Bool.eq_false_iff.1 hback), if_neg (fun h => bne_iff_ne.1 h hrow)]
  case corrected =>
    intro recent hlen
    have hport : port.val < s.talsen.length := lt_of_lt_of_eq port.isLt hlen.symm
    refine ⟨fun hfew => ?few, fun hmany hup => ⟨_, (exec_talsenCorrectedError hport).trans (congrArg _ (if_pos ⟨hmany, hup⟩)),
      fun hidle hruns hlow => ?relinks, fun hbusy => ?waits⟩⟩
    case few => exact (exec_talsenCorrectedError hport).trans (congrArg _ (if_neg (fun h => Nat.not_le.2 hfew h.1)))
    case relinks =>
      rw [State.talsenAt_of_talsen (State.countCorrectedDue_startRelink_talsen hport hup hidle hruns hlow),
        State.talsenAt_modTalsen_same _ hport]
      rfl
    case waits =>
      rw [State.startRelink_of_relinking ((s.countCorrectedDue_relinking port).trans hbusy)]
      exact State.countCorrectedDue_talsenAt_same hport

end Sys2Proof.Machine

/-! SUPPORT. The fabric ports (R278, R281 to R283, R287): one port of the state, and what each event does to it. -/

namespace Sys2Proof.Machine

/-! ### One fabric port of the state -/

section OnePort

variable {s t : State} {k p : Nat}

theorem State.port_of_ports (h : t.fab.ports = s.fab.ports) (k : Nat) : t.port k = s.port k := by
  rw [State.port, State.port, h]

theorem State.port_modPort_same (f : Port → Port) (h : k < s.fab.ports.length) : (s.modPort k f).port k = f (s.port k) := by
  simp only [State.port, State.modPort_fab, List.getD_eq_getElem?_getD, List.getElem?_modify_eq, List.getElem?_eq_getElem h,
    Option.map_eq_map, Option.map_some, Option.getD_some]

/-- A port that is not there reads DOWN. -/
theorem State.lt_of_up (h : (s.port k).lstate = .up) : k < s.fab.ports.length := by
  rcases Nat.lt_or_ge k s.fab.ports.length with hk | hk
  · exact hk
  · rw [State.port, List.getD_eq_getElem?_getD, List.getElem?_eq_none hk] at h
    cases h

end OnePort

/-! ### Negotiation (R278, R281, R282) -/

section Negotiation

variable {p : Fin 8} {s : State}

theorem exec_portSignalDetect {lanes : Byte} (hlive : s.transitLive = true) (hdown : (s.port p).lstate = .down)
    (hlanes : 2 ≤ laneCount lanes) (hfailed : (s.port p).failures < 3) :
    exec (.portSignalDetect p lanes) s = .next (s.quiet.modPort p (fun x =>
      if s.fab.placed = true ∧ extentOf s.fab.extent (p.val / 2) = 1 then { x with lstate := .disabled, peerValid := false }
      else x.negotiate)) := by
  have hstarts : (s.quiet.transitLive && (s.quiet.port p).lstate == .down && decide (2 ≤ laneCount lanes) &&
      decide ((s.quiet.port p).failures < 3)) = true := by
    simp only [State.quiet_transitLive, State.quiet_port, hlive, hdown, hlanes, hfailed, beq_self_eq_true, decide_true, Bool.and_self]
  have hoff : s.quiet.portDisabled p = true ↔ s.fab.placed = true ∧ extentOf s.fab.extent (p.val / 2) = 1 := by
    rw [State.portDisabled, Bool.and_eq_true, decide_eq_true_iff, State.quiet_fab]
  refine (congrArg Host.Outcome.next (if_pos hstarts)).trans ?_
  simp only [hoff]

theorem exec_trainingFrame {q : Fin 8} {coord extent : B16} {sl : Bool} (htraining : (s.port p).lstate = .training) :
    exec (.trainingFrame p coord extent q sl) s = .next (
      let u := s.quiet.modPort p (fun x => { x with peerValid := true, peerCoord := coord, peerPort := q, slPermitted := sl })
      if (s.fab.placed && !s.peerExpected p coord extent q) = true then
        (u.modPort p (fun x => { x with lstate := .disabled })).logFault 11 0x0701 .uncontained p none none (coord.toNat + q.val <<< 16)
      else u) :=
  if_pos (beq_iff_eq.2 htraining)

theorem linkMode_of_fast {fast slow : Byte} {l : Nat × Nat × Nat} (h : bestLanes fast = some l) :
    linkMode fast slow = some (false, fast, l) := by
  rw [linkMode, h]

theorem linkMode_of_slow {fast slow : Byte} {l : Nat × Nat × Nat} (hfast : bestLanes fast = none) (hadj : adjacentLanes fast = false)
    (hslow : bestLanes slow = some l) : linkMode fast slow = some (true, slow, l) := by
  simp only [linkMode, hfast, hadj, hslow, Bool.false_eq_true, if_false, Option.map_some]

theorem linkMode_none {fast slow : Byte} (hfast : bestLanes fast = none) (hno : adjacentLanes fast = true ∨ bestLanes slow = none) :
    linkMode fast slow = none := by
  rcases hno with h | h
  · simp only [linkMode, hfast, h, if_true]
  · simp only [linkMode, hfast, h, Option.map_none, ite_self]

/-- R281 T6: a port that trains and knows its peer comes UP in the mode of its lanes. -/
theorem exec_portUp_rises {fast slow light good : Byte} {rate : Bool} {l : Nat × Nat × Nat} (htraining : (s.port p).lstate = .training)
    (hpeer : (s.port p).peerValid = true) (hmode : linkMode fast slow = some (rate, good, l)) :
    exec (.portUp p fast slow light) s =
      .next (((s.quiet.modPort p (fun x => x.rise rate good l light)).sendControl p 0).portChange p false) := by
  change execPortUp p fast slow light s = _
  simp only [execPortUp, State.quiet_port, htraining, hpeer, hmode, beq_self_eq_true, Bool.and_self, if_true]
  rfl

theorem exec_portUp_modeless {fast slow light : Byte} (htraining : (s.port p).lstate = .training) (hmode : linkMode fast slow = none) :
    exec (.portUp p fast slow light) s = .next s.quiet := by
  change execPortUp p fast slow light s = _
  have hup : ((s.quiet.port p).lstate == .up) = false := by rw [State.quiet_port, htraining]; rfl
  simp only [execPortUp, hup, hmode, Bool.false_eq_true, if_false]
  rfl

theorem exec_negotiationTimeout (htraining : (s.port p).lstate = .training) :
    exec (.negotiationTimeout p) s = .next (s.quiet.modPort p (fun x =>
      if x.failures < 2 then { x.negotiate with failures := x.failures + 1 }
      else { x with failures := x.failures + 1, lstate := .down, peerValid := false })) := by
  have hends : ((s.quiet.port p).lstate == .training) = true := beq_iff_eq.2 htraining
  refine (congrArg Host.Outcome.next (if_pos hends)).trans ?_
  simp only [Nat.add_lt_iff_lt_sub_right]

theorem exec_negotiationRetry (hdown : (s.port p).lstate = .down) (hfailed : 3 ≤ (s.port p).failures) :
    exec (.negotiationRetry p) s = .next (s.quiet.modPort p Port.negotiate) := by
  have hretries : ((s.quiet.port p).lstate == .down && decide (3 ≤ (s.quiet.port p).failures)) = true := by
    rw [State.quiet_port, hdown, decide_eq_true hfailed]
    rfl
  exact congrArg Host.Outcome.next (if_pos hretries)

end Negotiation

/-! ### Lanes (R283) -/

section Lanes

variable {p : Fin 8} {s : State}

/-- R283: the CONTROL flit is sent when the port's lanes have changed from what they were. -/
theorem State.controlWidth_modPort {k : Nat} (f : Port → Port) (old : Port) (h : k < s.fab.ports.length) :
    (s.modPort k f).controlWidth k old =
      if (f (s.port k)).width = old.width ∧ (f (s.port k)).laneLo = old.laneLo then s.modPort k f
      else (s.modPort k f).sendControl k 1 := by
  simp only [State.controlWidth, State.port_modPort_same f h, Bool.and_eq_true, decide_eq_true_eq]

/-- R283: the good lanes of a port once one of them has gone bad. -/
def Port.lanesWithout (x : Port) (lane : Nat) : Byte := x.laneGood &&& ~~~(1#8 <<< lane)

/-- R283: a port that is UP, narrowed to the widest good set of its lanes. -/
theorem exec_laneNarrowing {l : Fin 8} {x : Nat × Nat × Nat} (hup : (s.port p).lstate = .up) (hlane : (s.port p).laneGood.getLsbD l = true)
    (hbest : bestLanes ((s.port p).lanesWithout l) = some x) :
    exec (.laneNarrowing p l) s = .next ((s.quiet.modPort p (fun y => { y with
      laneGood := (s.port p).lanesWithout l, width := x.1, laneLo := x.2.1 })).controlWidth p (s.port p)) := by
  change execLaneNarrowing p l s = _
  rw [Port.lanesWithout] at hbest
  simp only [execLaneNarrowing, State.quiet_port, hup, hlane, hbest, beq_self_eq_true, Bool.and_self, if_true]
  rfl

/-- R287: a port that is UP goes DOWN with the last good set of its lanes (log entry 18). -/
theorem exec_laneNarrowing_none {l : Fin 8} (hup : (s.port p).lstate = .up) (hlane : (s.port p).laneGood.getLsbD l = true)
    (hbest : bestLanes ((s.port p).lanesWithout l) = none) :
    exec (.laneNarrowing p l) s = .next ((s.quiet.modPort p (fun y => { y with laneGood := (s.port p).lanesWithout l })).portDown p) := by
  change execLaneNarrowing p l s = _
  rw [Port.lanesWithout] at hbest
  simp only [execLaneNarrowing, State.quiet_port, hup, hlane, hbest, beq_self_eq_true, Bool.and_self, if_true]
  rfl

theorem exec_laneWidening (hup : (s.port p).lstate = .up) :
    exec (.laneWidening p) s = .next ((s.quiet.modPort p (fun x => { x with laneGood := 0xFF, width := 0, laneLo := 0 })).controlWidth p
      (s.port p)) :=
  congrArg Host.Outcome.next (if_pos (beq_iff_eq.2 hup))

theorem exec_validFlitTimeout (hup : (s.port p).lstate = .up) : exec (.validFlitTimeout p) s = .next (s.quiet.portDown p) :=
  congrArg Host.Outcome.next (if_pos (beq_iff_eq.2 hup))

theorem exec_lossOfSignal_up (hup : (s.port p).lstate = .up) : exec (.lossOfSignal p) s = .next (s.quiet.portDown p) := by
  change execLossOfSignal p s = _
  simp only [execLossOfSignal, State.quiet_port, hup]
  rfl

theorem exec_lossOfSignal_training (htraining : (s.port p).lstate = .training) :
    exec (.lossOfSignal p) s = .next (s.quiet.modPort p (fun x => { x with lstate := .down, peerValid := false })) := by
  change execLossOfSignal p s = _
  simp only [execLossOfSignal, State.quiet_port, htraining]
  rfl

end Lanes

/-! ### A change of a port leaves the ports (R292) -/

section Change

variable {s : State} {α β : Type}

/-- What no step of a fold changes, the fold does not change. -/
theorem State.forAll_same {g : State → β} {f : State → α → State} (h : ∀ u x, g (f u x) = g u) (s : State) (l : List α) :
    g (s.forAll l f) = g s := by
  induction l generalizing s with
  | nil => rfl
  | cons x l ih => exact (ih (f s x)).trans (h s x)

theorem State.sendHop_ports (s : State) (port ptype : Nat) (op : List Byte) : (s.sendHop port ptype op).fab.ports = s.fab.ports := by
  unfold State.sendHop
  dsimp only
  split
  · rfl
  · rw [State.count_fab]

theorem State.portChange_ports (s : State) (port : Nat) (broken : Bool) : (s.portChange port broken).fab.ports = s.fab.ports := by
  unfold State.portChange
  dsimp only
  split
  · refine (State.forAll_same (g := fun u => u.fab.ports) (fun u x => u.sendHop_ports _ _ _) _ _).trans ?_
    split <;> rfl
  · rfl

/-- R284: a CONTROL flit reports the buffers that its port has freed, and changes nothing else of the port. -/
theorem State.sendControl_port_same {k : Nat} (purpose : Nat) (h : k < s.fab.ports.length) :
    (s.sendControl k purpose).port k = { s.port k with freed := (creditReport (s.port k).freed).2 } :=
  (State.port_of_ports (by rfl) k).trans (State.port_modPort_same _ h)

end Change

/-! ### The statement -/

/-- R281 T6: what a port that has come UP shows. -/
theorem State.rises_port {s : State} {k : Nat} (rate : Bool) (good : Byte) (l : Nat × Nat × Nat) (light : Byte)
    (h : k < s.fab.ports.length) :
    let x := (((s.modPort k (fun x => x.rise rate good l light)).sendControl k 0).portChange k false).port k
    x.lstate = .up ∧ x.width = l.1 ∧ x.laneLo = l.2.1 ∧ x.slowRate = rate ∧ x.failures = 0 := by
  have hlen : k < (s.modPort k (fun x => x.rise rate good l light)).fab.ports.length := by
    rwa [State.modPort_fab, List.length_modify]
  dsimp only
  rw [State.port_of_ports (State.portChange_ports ..), State.sendControl_port_same _ hlen, State.port_modPort_same _ h]
  exact ⟨rfl, rfl, rfl, rfl, rfl⟩

/-- Settles O52: each clause is what its event does to the port. -/
theorem portStates : Obligations.PortStates := by
  unfold Obligations.PortStates
  refine ⟨fun p lanes s hlive hdown hlanes hfailed => exec_portSignalDetect hlive hdown hlanes hfailed,
    fun p q coord extent sl s htraining => ?frame, fun p fast slow light w lo m s hlen htraining hpeer hmode => ?rises,
    fun p fast slow light s htraining hfast hno => exec_portUp_modeless htraining (linkMode_none hfast hno),
    fun p fast slow light s hup => if_pos (beq_iff_eq.2 hup), fun p s htraining => exec_negotiationTimeout htraining,
    fun p s hdown hfailed => exec_negotiationRetry hdown hfailed, fun p l s hup hlane => ?narrows, fun p s hup => ?widens,
    fun p s hup => ⟨exec_lossOfSignal_up hup, exec_validFlitTimeout hup⟩, fun p s htraining => exec_lossOfSignal_training htraining⟩
  case frame =>
    refine ⟨fun hpeer => (exec_trainingFrame htraining).trans (congrArg _ (if_neg ?_)),
      fun hplaced hpeer => (exec_trainingFrame htraining).trans (congrArg _ (if_pos ?_))⟩
    · rcases hpeer with h | h <;> simp only [h, Bool.false_and, Bool.not_true, Bool.and_false, Bool.false_eq_true, not_false_iff]
    · rw [hplaced, hpeer]
      rfl
  case rises =>
    have hp : p.val < s.quiet.fab.ports.length := lt_of_lt_of_eq p.isLt hlen.symm
    rcases hmode with hfast | ⟨hfast, hadj, hslow⟩
    · obtain ⟨hup, hwidth, hlo, hrate, hfailures⟩ := State.rises_port false fast (w, lo, m) light hp
      exact ⟨_, exec_portUp_rises htraining hpeer (linkMode_of_fast hfast), hup, hwidth, hlo, by rw [hrate, hfast]; rfl, hfailures⟩
    · obtain ⟨hup, hwidth, hlo, hrate, hfailures⟩ := State.rises_port true slow (w, lo, m) light hp
      exact ⟨_, exec_portUp_rises htraining hpeer (linkMode_of_slow hfast hadj hslow), hup, hwidth, hlo, by rw [hrate, hfast]; rfl,
        hfailures⟩
  case narrows =>
    have hp : p.val < s.quiet.fab.ports.length := State.lt_of_up hup
    refine ⟨fun w lo m hbest => ?_, fun hbest => exec_laneNarrowing_none hup hlane hbest⟩
    rw [exec_laneNarrowing hup hlane hbest, State.controlWidth_modPort _ _ hp]
    rfl
  case widens =>
    have hp : p.val < s.quiet.fab.ports.length := State.lt_of_up hup
    rw [exec_laneWidening hup, State.controlWidth_modPort _ _ hp]
    simp only [eq_comm (a := 0)]

end Sys2Proof.Machine

/-! SUPPORT. Flits received (R284, R285): what a flit does by its CRC, its type and its number. -/

namespace Sys2Proof.Machine

section FlitKinds

variable {p : Fin 8} {bytes : List Byte} {s : State}

theorem exec_flit_bad (hup : (s.port p).lstate = .up) (hbad : bytes.length ≠ 256 ∨ leField bytes 12 4 ≠ flitCrc bytes) :
    exec (.flit p bytes) s = .next (s.quiet.sendNak p) := by
  have hserves : ¬ ((s.quiet.port p).lstate != .up) = true := by rw [State.quiet_port, hup]; decide
  have hrejects : (bytes.length != 256 || leField bytes 12 4 != flitCrc bytes) = true := by
    simpa only [Bool.or_eq_true, bne_iff_ne] using hbad
  exact congrArg Host.Outcome.next ((if_neg hserves).trans (if_pos hrejects))

/-- R284: a flit of the right length and CRC goes by its type. -/
theorem exec_flit_good (hup : (s.port p).lstate = .up) (hlen : bytes.length = 256) (hcrc : leField bytes 12 4 = flitCrc bytes) :
    exec (.flit p bytes) s = .next (
      if bitsOf (leField bytes 0 2) 13 12 = 0 then s.quiet.dataFlit p bytes else s.quiet.idleFlit p bytes) := by
  have hserves : ¬ ((s.quiet.port p).lstate != .up) = true := by rw [State.quiet_port, hup]; decide
  have haccepts : ¬ (bytes.length != 256 || leField bytes 12 4 != flitCrc bytes) = true := by
    simp only [hlen, hcrc, bne_self_eq_false, Bool.or_self, Bool.false_eq_true, not_false_iff]
  exact congrArg Host.Outcome.next ((if_neg hserves).trans (if_neg haccepts))

end FlitKinds

section InSequence

variable {s : State} {p : Nat} {f : List Byte}

/-- R285: the next DATA flit in order is taken, unless its NAK has brought the port DOWN. -/
theorem State.dataFlit_next (hseq : leField f 0 2 % 4096 = (s.port p).rxSeq) :
    s.dataFlit p f = if ((s.hear p f).port p).lstate = .up then
      ((s.hear p f).modPort p (fun x => x.accept (flitClass f) (f.drop 16) (s.hear p f).time.now)).sendIdle p false
      else s.hear p f := by
  simp only [State.dataFlit, hseq, if_true, beq_iff_eq]

/-- R285: a DATA flit received before is acknowledged again. -/
theorem State.dataFlit_again (hseq : leField f 0 2 % 4096 ≠ (s.port p).rxSeq)
    (hback : ((s.port p).rxSeq + 4096 - leField f 0 2 % 4096) % 4096 ≤ 512) : s.dataFlit p f = s.sendIdle p false :=
  (if_neg hseq).trans (if_pos hback)

/-- R285: a DATA flit that follows a lost one asks for replay. -/
theorem State.dataFlit_ahead (hseq : leField f 0 2 % 4096 ≠ (s.port p).rxSeq)
    (hahead : 512 < ((s.port p).rxSeq + 4096 - leField f 0 2 % 4096) % 4096) : s.dataFlit p f = s.sendNak p :=
  (if_neg hseq).trans (if_neg (Nat.not_le.2 hahead))

/-- R285: a flit without data has the effects of its header, and shows by its number whether a DATA flit is missing. -/
theorem State.idleFlit_eq (s : State) (p : Nat) (f : List Byte) :
    s.idleFlit p f = if ((s.hear p f).port p).lstate ≠ .up then s.hear p f
      else if leField f 0 2 % 4096 = ((s.hear p f).port p).rxSeq then (s.hear p f).modPort p (fun x => { x with nakSent := none })
      else (s.hear p f).sendNak p := by
  simp only [State.idleFlit, bne_iff_ne]

/-- R285, log entry 184: no second NAK while the replay can still be on its way. -/
theorem State.sendNak_waiting {n : Nat} (hsent : (s.port p).nakSent = some n) (hsoon : s.time.clock < n + 500) : s.sendNak p = s :=
  if_pos (by rw [hsent]; exact decide_eq_true hsoon)

end InSequence

/-- Settles O53: each clause is one kind of flit. -/
theorem flits : Obligations.Flits := by
  unfold Obligations.Flits
  intro p bytes s hup u v seq cls
  have hheard : v = s.quiet.hear p bytes := rfl
  clear_value v
  subst hheard
  refine ⟨fun hbad => ⟨exec_flit_bad hup hbad, fun n hsent hsoon => State.sendNak_waiting hsent hsoon⟩, fun hlen hcrc => ?good⟩
  case good =>
    have hdata (h0 : bitsOf (leField bytes 0 2) 13 12 = 0) : exec (.flit p bytes) s = .next (s.quiet.dataFlit p bytes) :=
      (exec_flit_good hup hlen hcrc).trans (congrArg Host.Outcome.next (if_pos h0))
    have hidle (h0 : bitsOf (leField bytes 0 2) 13 12 ≠ 0) : exec (.flit p bytes) s = .next (s.quiet.idleFlit p bytes) :=
      (exec_flit_good hup hlen hcrc).trans (congrArg Host.Outcome.next (if_neg h0))
    refine ⟨fun h0 => ?control, fun h0 hseq hv => ?taken, fun h0 hseq hv => ?fell,
      fun h0 hseq hback => (hdata h0).trans (congrArg Host.Outcome.next (State.dataFlit_again (s := s.quiet) hseq hback)),
      fun h0 hseq hahead => (hdata h0).trans (congrArg Host.Outcome.next (State.dataFlit_ahead (s := s.quiet) hseq hahead))⟩
    case control =>
      rw [hidle h0, State.idleFlit_eq]
      refine ⟨fun hv => congrArg Host.Outcome.next (if_pos hv), fun hv hseq => congrArg Host.Outcome.next ?_,
        fun hv hseq => congrArg Host.Outcome.next ?_⟩
      · exact (if_neg (fun hdown => hdown hv)).trans (if_pos hseq)
      · exact (if_neg (fun hdown => hdown hv)).trans (if_neg hseq)
    case taken => exact (hdata h0).trans (congrArg Host.Outcome.next ((State.dataFlit_next (s := s.quiet) hseq).trans (if_pos hv)))
    case fell => exact (hdata h0).trans (congrArg Host.Outcome.next ((State.dataFlit_next (s := s.quiet) hseq).trans (if_neg hv)))

end Sys2Proof.Machine

/-! SUPPORT. The wiring of the transit plane (R278, R287, R297): the states of its ports and its topology, which packets, notices and
buffers leave alone, and what takes a port DOWN, wires it anew or writes the topology makes of it. -/

namespace Sys2Proof.Machine

/-- R278, R297: the link states of the ports, and the topology in force and to come. -/
structure Wiring where
  links : List LinkState
  coord : B16
  extent : B16
  placed : Bool
  bellwether : B16
  deputy : B16
  transitOnly : Bool
  draining : Option TopoChange

def State.wiring (s : State) : Wiring :=
  { links := s.fab.ports.map Port.lstate, coord := s.fab.coord, extent := s.fab.extent, placed := s.fab.placed
    bellwether := s.fab.bellwether, deputy := s.fab.deputy, transitOnly := s.fab.transitOnly, draining := s.fab.draining }

/-- One link of a wiring changes. -/
def Wiring.modLink (w : Wiring) (k : Nat) (g : LinkState → LinkState) : Wiring := { w with links := w.links.modify k g }

theorem State.wiring_of_fab {s t : State} (h : t.fab = s.fab) : t.wiring = s.wiring := by rw [State.wiring, State.wiring, h]

theorem State.wiring_coord (s : State) : s.wiring.coord = s.fab.coord := rfl
theorem State.wiring_extent (s : State) : s.wiring.extent = s.fab.extent := rfl
theorem State.wiring_placed (s : State) : s.wiring.placed = s.fab.placed := rfl
theorem State.wiring_transitOnly (s : State) : s.wiring.transitOnly = s.fab.transitOnly := rfl

@[simp] theorem State.length_links (s : State) : s.wiring.links.length = s.fab.ports.length := List.length_map _

theorem State.lstate_of_links {s : State} {k : Nat} {l : LinkState} (h : s.wiring.links[k]? = some l) : (s.port k).lstate = l := by
  rw [State.wiring, List.getElem?_map, Option.map_eq_some_iff] at h
  obtain ⟨x, hx, rfl⟩ := h
  rw [State.port, List.getD_eq_getElem?_getD, hx, Option.getD_some]

theorem State.portDisabled_eq (s : State) (k : Nat) :
    s.portDisabled k = (s.wiring.placed && decide (extentOf s.wiring.extent (k / 2) = 1)) := rfl

/-! ### What leaves the wiring alone -/

section Alone

variable {s : State}

@[simp] theorem State.modPen_wiring (s : State) (k : Nat) (f : Pen → Pen) : (s.modPen k f).wiring = s.wiring := rfl
@[simp] theorem State.count_wiring (s : State) (item n : Nat) : (s.count item n).wiring = s.wiring :=
  State.wiring_of_fab (State.count_fab ..)

/-- An update of a port changes the wiring by what it makes of the port's link. -/
theorem State.modPort_wiring {k : Nat} {f : Port → Port} {g : LinkState → LinkState}
    (h : (f (s.port k)).lstate = g (s.port k).lstate) : (s.modPort k f).wiring = s.wiring.modLink k g := by
  have hlinks : (s.fab.ports.modify k f).map Port.lstate = (s.fab.ports.map Port.lstate).modify k g := by
    refine List.ext_getElem? (fun j => ?_)
    rw [List.getElem?_map, List.getElem?_modify, List.getElem?_modify, List.getElem?_map]
    cases hx : s.fab.ports[j]? with
    | none => split <;> rfl
    | some x =>
      split
      case isTrue hkj =>
        have hat : s.port k = x := by rw [hkj, State.port, List.getD_eq_getElem?_getD, hx, Option.getD_some]
        exact congrArg some (hat ▸ h)
      case isFalse => rfl
  rw [State.wiring, State.modPort, hlinks]
  rfl

theorem Wiring.modLink_id (w : Wiring) (k : Nat) : w.modLink k id = w := by
  rw [Wiring.modLink, List.modify_id]

/-- An update of a port that keeps its link state keeps the wiring. -/
theorem State.modPort_wiring_same {k : Nat} {f : Port → Port} (h : (f (s.port k)).lstate = (s.port k).lstate) :
    (s.modPort k f).wiring = s.wiring :=
  (State.modPort_wiring (g := id) h).trans (Wiring.modLink_id _ k)

@[simp] theorem State.sendIdle_wiring (s : State) (port : Nat) (nak : Bool) : (s.sendIdle port nak).wiring = s.wiring :=
  State.modPort_wiring_same rfl

@[simp] theorem State.reportFreed_wiring (s : State) (port : Nat) : (s.reportFreed port).wiring = s.wiring := by
  unfold State.reportFreed
  split
  · exact State.sendIdle_wiring ..
  · rfl

@[simp] theorem State.freePacket_wiring (s : State) (input : Nat) (p : Packet) : (s.freePacket input p).wiring = s.wiring := by
  unfold State.freePacket
  split
  · exact (State.reportFreed_wiring ..).trans (State.modPort_wiring_same rfl)
  · rfl

@[simp] theorem State.enqueue_wiring (s : State) (p : Packet) : (s.enqueue p).wiring = s.wiring := by
  unfold State.enqueue
  split <;> rfl

@[simp] theorem State.cannotDeliver_wiring (s : State) (p : Packet) (status : Nat) : (s.cannotDeliver p status).wiring = s.wiring := by
  unfold State.cannotDeliver
  split
  · exact State.enqueue_wiring ..
  · exact State.count_wiring ..

@[simp] theorem State.inject_wiring (s : State) (p : Packet) : (s.inject p).wiring = s.wiring := by
  unfold State.inject
  split
  · exact State.cannotDeliver_wiring ..
  · exact State.enqueue_wiring ..

@[simp] theorem State.sendMgmt_wiring (s : State) (ptype : Nat) (dest : B16) (op payload : List Byte) :
    (s.sendMgmt ptype dest op payload).wiring = s.wiring := State.inject_wiring ..

@[simp] theorem State.sendHop_wiring (s : State) (port ptype : Nat) (op : List Byte) : (s.sendHop port ptype op).wiring = s.wiring := by
  unfold State.sendHop
  dsimp only
  split
  · rfl
  · exact State.count_wiring ..

@[simp] theorem State.ringChange_wiring (s : State) (axis at' : Nat) (broken : Bool) : (s.ringChange axis at' broken).wiring = s.wiring := rfl

@[simp] theorem State.portChange_wiring (s : State) (port : Nat) (broken : Bool) : (s.portChange port broken).wiring = s.wiring := by
  unfold State.portChange
  dsimp only
  split
  · refine (State.forAll_same (fun u x => u.sendHop_wiring ..) _ _).trans ?_
    split
    · rfl
    · exact State.ringChange_wiring ..
  · rfl

@[simp] theorem State.lostPart_wiring (s : State) (bs : List Byte) : (s.lostPart bs).wiring = s.wiring := by
  unfold State.lostPart
  split
  · rfl
  · split
    · exact State.count_wiring ..
    · exact State.cannotDeliver_wiring ..

@[simp] theorem State.breakOff_wiring (s : State) (old : Port) (x : Sending) : (s.breakOff old x).wiring = s.wiring := by
  unfold State.breakOff
  split <;> split
  · rfl
  · exact State.cannotDeliver_wiring ..
  · exact State.freePacket_wiring ..
  · rfl

@[simp] theorem State.logFault_wiring (s : State) (bank code : Nat) (sev : Severity) (unit : Nat) (pen addr : Option Nat) (info : Nat) :
    (s.logFault bank code sev unit pen addr info).wiring = s.wiring := State.wiring_of_fab (State.logFault_fab ..)

end Alone

/-! ### What changes it -/

section Changes

variable {s : State}

/-- R287: a port going DOWN changes nothing else of the wiring. -/
theorem State.portDown_wiring (s : State) (port : Nat) : (s.portDown port).wiring = s.wiring.modLink port (fun _ => .down) := by
  have horphan (u : State) (o : Nat) : (u.modPort o (fun p => p.orphan port)).wiring = u.wiring := State.modPort_wiring_same rfl
  unfold State.portDown
  dsimp only
  rw [State.portChange_wiring, State.logFault_wiring, State.forAll_same (fun u x => u.cannotDeliver_wiring x 2),
    State.forAll_same (fun u x => u.breakOff_wiring _ x), State.forAll_same State.lostPart_wiring, State.forAll_same horphan]
  exact State.modPort_wiring rfl

/-- R331, R332: the leaders' names are all of the wiring that naming them changes. -/
theorem State.nameLeaders_wiring (s : State) (bw dep : B16) :
    (s.nameLeaders bw dep).wiring = { s.wiring with bellwether := bw, deputy := dep } :=
  State.wiring_of_fab (State.retime_keeps.only.same .fab (by decide))

/-- R278: a port under a topology whose PLACED has changed. -/
theorem State.rewire_wiring (s : State) (k : Nat) : (s.rewire k).wiring = s.wiring.modLink k (fun l =>
    if s.portDisabled k then .disabled else if l = .disabled then .training else l) := by
  unfold State.rewire
  split
  case isTrue hoff =>
    have hset (u : State) : (u.modPort k (linkReset true)).wiring = u.wiring.modLink k (fun _ => .disabled) :=
      State.modPort_wiring rfl
    rw [hset]
    split
    · rw [State.portDown_wiring, Wiring.modLink, Wiring.modLink, Wiring.modLink, List.modify_modify_eq]
      rfl
    · rfl
  case isFalse hon =>
    split
    case isTrue hdis => exact State.modPort_wiring (by rw [if_pos (beq_iff_eq.1 hdis)]; rfl)
    case isFalse hlive =>
      have hkept : s.modPort k id = s := by rw [State.modPort, List.modify_id]
      exact (congrArg State.wiring hkept).symm.trans
        (State.modPort_wiring (by rw [if_neg (fun h => hlive (beq_iff_eq.2 h))]; rfl))

/-- The ports in order, each updated by whether the topology disables it. -/
theorem State.forAll_range_wiring {f : State → Nat → State} {g : Bool → LinkState → LinkState}
    (h : ∀ u k, (f u k).wiring = u.wiring.modLink k (g (u.portDisabled k))) (s : State) (n : Nat) :
    (s.forAll (List.range n) f).wiring =
      { s.wiring with links := s.wiring.links.mapIdx (fun k l => if k < n then g (s.portDisabled k) l else l) } := by
  induction n with
  | zero =>
    have hnone : s.wiring.links.mapIdx (fun k l => if k < 0 then g (s.portDisabled k) l else l) = s.wiring.links := by
      refine List.ext_getElem? (fun k => ?_)
      simp only [List.getElem?_mapIdx, Nat.not_lt_zero, if_false, Option.map_id']
    rw [hnone]
    rfl
  | succ n ih =>
    have hoff : (s.forAll (List.range n) f).portDisabled n = s.portDisabled n := by
      rw [State.portDisabled_eq, State.portDisabled_eq, ih]
    have hstep : s.forAll (List.range (n + 1)) f = f (s.forAll (List.range n) f) n := by
      rw [State.forAll, List.range_succ, List.foldl_append]
      rfl
    rw [hstep, h, hoff, ih, Wiring.modLink]
    congr 1
    refine List.ext_getElem? (fun k => ?_)
    simp only [List.getElem?_modify, List.getElem?_mapIdx]
    rcases Nat.lt_trichotomy k n with hk | rfl | hk
    · simp only [Nat.ne_of_gt hk, hk, Nat.lt_succ_of_lt hk, if_true, if_false, Option.map_eq_map, Option.map_id_fun', id]
    · simp only [Nat.lt_irrefl, Nat.lt_succ_self, if_true, if_false, Option.map_eq_map, Option.map_map]
      rfl
    · simp only [Nat.ne_of_lt hk, Nat.not_lt_of_gt hk, Nat.not_lt_of_ge hk, if_false, Option.map_eq_map, Option.map_id_fun', id]

end Changes

end Sys2Proof.Machine

/-! SUPPORT. Packets at the head of an input and the turns of an output port (R288, R289, R291, R293), ring notices (R292) and the end
of a topology change (R297). -/

namespace Sys2Proof.Machine

/-! ### The packet at the head of an input (R288, R293) -/

section Head

variable {i : Fin 9} {k : Fin 8} {p : Packet} {s : State}

/-- R289: a packet of an input as its output port begins to send it. -/
def State.beginning (s : State) (i : Fin 9) (k : Fin 8) (p q : Packet) : Sending :=
  let out := if i.val = 8 then s.departing q else q
  { input := i, cls := k, packet := p, out := out, left := out.take (16 * pSlots out), first := 0, alive := true }

/-- R289: an input has credits and the turn at an output port. -/
def State.mayGo (s : State) (i : Fin 9) (port : Nat) (q : Packet) : Bool :=
  (s.port port).canSend (pClass q) && decide (s.nextTurn port = some (pVc q, i.val))

theorem State.mayGo_of_turn {port : Nat} {q : Packet} (hcredit : (s.port port).canSend (pClass q) = true)
    (hturn : s.nextTurn port = some (pVc q, i.val)) : s.mayGo i port q = true := by
  rw [State.mayGo, hcredit, decide_eq_true hturn]
  rfl

theorem State.mayGo_eq_false {port : Nat} {q : Packet}
    (h : (s.port port).canSend (pClass q) = false ∨ s.nextTurn port ≠ some (pVc q, i.val)) : s.mayGo i port q = false := by
  rcases h with h | h
  · rw [State.mayGo, h, Bool.false_and]
  · rw [State.mayGo, decide_eq_false h, Bool.and_false]

/-- R288, R293: what becomes of the packet at the head of an input by its fate. -/
def State.takeHead (s : State) (i : Fin 9) (k : Fin 8) (p : Packet) : Routed → State
  | .eject => ((s.freePacket i p).modFab (fun f => { f with ejected := f.ejected ++ [(i.val, p)] })).count 26 (16 * pSlots p)
  | .drop => (s.freePacket i p).count 29 1
  | .refuse st => (s.freePacket i p).cannotDeliver p st
  | .forward port q =>
    if s.mayGo i port q then (s.modPort port (fun y => y.begin (s.beginning i k p q))).sendFlit port (s.beginning i k p q) true else s

theorem exec_packet_head (hidle : s.sendingFrom i k = none) (hhead : s.inputHead i k = some p) :
    exec (.packet i k) s = .next (s.quiet.takeHead i k p (s.routePacket (i.val < 8) p)) := by
  change execPacket i k s = _
  simp only [execPacket, State.quiet_sendingFrom, State.quiet_inputHead, State.quiet_routePacket, hidle, hhead]
  cases s.routePacket (i.val < 8) p <;> rfl

/-- R289: a packet already begun goes on by a flit when its turn has come. -/
theorem exec_packet_sending {port : Nat} {x : Sending} (hsending : s.sendingFrom i k = some (port, x)) :
    exec (.packet i k) s = .next (if s.mayGo i port x.out then s.quiet.sendFlit port x false else s.quiet) := by
  change execPacket i k s = _
  simp only [execPacket, State.quiet_sendingFrom, hsending]
  rfl

/-- R291: a packet is forwarded to a port that is UP, with at most 60 hops unless its hops were set by this device. -/
theorem State.routePacket_forward {fromPort : Bool} {port : Nat} {q : Packet} (h : s.routePacket fromPort p = .forward port q) :
    (fromPort = true ∨ pHops p = 0 → pHops p + 1 ≤ 60) ∧ (s.port port).lstate = .up := by
  unfold State.routePacket at h
  split at h
  case isTrue hown =>
    dsimp only at h
    split at h
    case isTrue hup =>
      cases h
      refine ⟨fun hhops => ?_, beq_iff_eq.1 hup⟩
      rcases hhops with hport | hzero
      · rw [hport] at hown
        cases hown
      · rw [hzero, bne_self_eq_false, Bool.and_false] at hown
        cases hown
    case isFalse => cases h
  case isFalse =>
    repeat' split at h
    all_goals try cases h
    dsimp only at h
    split at h
    case isTrue => cases h
    case isFalse hhops =>
      split at h
      case isTrue => cases h
      case isFalse hup =>
        cases h
        exact ⟨fun _ => Nat.not_lt.1 hhops, by simpa only [bne_iff_ne, ne_eq, Decidable.not_not] using hup⟩

end Head

/-! ### Turns (R289) -/

section Turns

variable {n last v i port : Nat} {ready : Nat → Bool} {s : State}

theorem turnAfter_some (h : turnAfter n last ready = some v) (hn : 0 < n) : ready v = true ∧ v < n := by
  refine ⟨List.find?_some h, ?_⟩
  obtain ⟨k, -, rfl⟩ := List.mem_map.1 (List.mem_of_find?_eq_some h)
  exact Nat.mod_lt _ hn

/-- The one right after the last has the turn when it is ready. -/
theorem turnAfter_next (hn : 0 < n) (h : ready ((last + 1) % n) = true) : turnAfter n last ready = some ((last + 1) % n) := by
  obtain ⟨m, rfl⟩ : ∃ m, n = m + 1 := ⟨n - 1, by omega⟩
  rw [turnAfter, List.range_succ_eq_map, List.map_cons, List.find?_cons_of_pos h]

/-- Whether an output port has something to send on a virtual channel. -/
def State.readyOn (s : State) (port v : Nat) : Bool := (s.readyFor port).any (fun r => r.2 = v)

theorem State.readyOn_iff : s.readyOn port v = true ↔ ∃ x ∈ s.readyFor port, x.2 = v := by
  simp only [State.readyOn, List.any_eq_true, decide_eq_true_eq]

theorem State.readyOn_eq_false : s.readyOn port v = false ↔ ∀ x ∈ s.readyFor port, x.2 ≠ v := by
  simp only [State.readyOn, List.any_eq_false, decide_eq_true_eq]

/-- R289: VC3's turn: 64 flits have passed since its last, or nothing else is ready. -/
def State.vc3Turn (s : State) (port : Nat) : Bool :=
  s.readyOn port 3 && (decide ((s.port port).vc3Wait = 0) || !(s.readyOn port 0 || s.readyOn port 1 || s.readyOn port 2))

theorem State.vc3Turn_iff : s.vc3Turn port = true ↔
    (∃ x ∈ s.readyFor port, x.2 = 3) ∧ ((s.port port).vc3Wait = 0 ∨ ∀ x ∈ s.readyFor port, x.2 ≠ 0 ∧ x.2 ≠ 1 ∧ x.2 ≠ 2) := by
  have hlow : ((∀ x ∈ s.readyFor port, x.2 ≠ 0) ∧ (∀ x ∈ s.readyFor port, x.2 ≠ 1) ∧ ∀ x ∈ s.readyFor port, x.2 ≠ 2) ↔
      ∀ x ∈ s.readyFor port, x.2 ≠ 0 ∧ x.2 ≠ 1 ∧ x.2 ≠ 2 :=
    ⟨fun ⟨h0, h1, h2⟩ x hx => ⟨h0 x hx, h1 x hx, h2 x hx⟩,
      fun h => ⟨fun x hx => (h x hx).1, fun x hx => (h x hx).2.1, fun x hx => (h x hx).2.2⟩⟩
  simp only [State.vc3Turn, Bool.and_eq_true, Bool.or_eq_true, Bool.not_eq_true', Bool.or_eq_false_iff, decide_eq_true_eq, State.readyOn_iff,
    State.readyOn_eq_false, and_assoc, hlow]

/-- R289: the virtual channel whose turn it is. -/
def State.turnVc (s : State) (port : Nat) : Option Nat :=
  if s.vc3Turn port then some 3 else turnAfter 3 (s.port port).lastVc (s.readyOn port)

theorem State.nextTurn_some (h : s.nextTurn port = some (v, i)) :
    s.turnVc port = some v ∧ turnAfter 9 ((s.port port).lastInput.getD v 8) (fun i => (s.readyFor port).contains (i, v)) = some i := by
  unfold State.nextTurn at h
  dsimp only at h
  split at h
  case h_1 => cases h
  case h_2 w hvc =>
    obtain ⟨j, hj, e⟩ := Option.map_eq_some_iff.1 h
    cases e
    exact ⟨hvc, hj⟩

theorem State.mem_readyFor_of_nextTurn (h : s.nextTurn port = some (v, i)) : (i, v) ∈ s.readyFor port :=
  List.contains_iff_mem.1 (turnAfter_some (State.nextTurn_some h).2 (by decide)).1

theorem State.turnVc_three (h : s.turnVc port = some 3) : s.vc3Turn port = true := by
  cases hno : s.vc3Turn port with
  | true => rfl
  | false =>
    rw [State.turnVc, if_neg (Bool.eq_false_iff.1 hno)] at h
    exact absurd (turnAfter_some h (by decide)).2 (Nat.lt_irrefl 3)

/-- R289: VC0 to VC2 come in turn. -/
theorem State.turnVc_low (h : s.turnVc port = some v) (hv : v < 3) :
    v = ((s.port port).lastVc + 1) % 3 ∨ ∀ x ∈ s.readyFor port, x.2 ≠ ((s.port port).lastVc + 1) % 3 := by
  have hno : ¬ s.vc3Turn port = true := fun h3 => by
    rw [State.turnVc, if_pos h3, Option.some_inj] at h
    exact Nat.lt_irrefl 3 (h ▸ hv)
  rw [State.turnVc, if_neg hno] at h
  by_cases hready : s.readyOn port (((s.port port).lastVc + 1) % 3) = true
  · rw [turnAfter_next (by decide) hready, Option.some_inj] at h
    exact .inl h.symm
  · exact .inr (State.readyOn_eq_false.1 (Bool.eq_false_iff.2 hready))

end Turns

/-! ### Ring notices (R292) -/

theorem exec_ringNotice {i : Nat} {p : Packet} {s : State} (hhead : s.mgmtPacket 0x2C = some (i, p)) :
    exec .ringNotice s = .next (
      let axis := leField p 8 1 % 4
      let link := leField p 9 1
      let broken := decide (leField p 10 1 = 1)
      let u := s.quiet.takePacket (i, p)
      let v := u.ringChange axis link broken
      if s.linkBroken axis link = broken then u
      else v.forAll (v.upPorts.filter (fun q => q / 2 = axis && q != i)) (fun w q => w.sendHop q 0x2C (ringNoticeOp axis link broken))) := by
  change execRingNotice s = _
  have hknown : ((s.quiet.linkBroken (leField p 8 1 % 4) (leField p 9 1) = true) = (leField p 10 1 = 1)) ↔
      s.linkBroken (leField p 8 1 % 4) (leField p 9 1) = decide (leField p 10 1 = 1) := by
    rw [eq_iff_iff, State.quiet_linkBroken, Bool.eq_iff_iff (b := decide _), decide_eq_true_iff]
  simp only [execRingNotice, State.quiet_mgmtPacket, hhead]
  rw [apply_ite Host.Outcome.next]
  exact ite_congr (propext hknown) (fun _ => rfl) (fun _ => rfl)

/-! ### The end of a topology change (R297) -/

section Topology

/-- R297: the ports that are UP go DOWN, and what waits at injection is refused or dropped. -/
def State.emptied (s : State) : State :=
  let down := s.forAll s.upPorts State.portDown
  (down.modFab (fun f => { f with draining := none, inject := [] })).forAll down.fab.inject (fun u p => u.cannotDeliver p 2)

/-- R297: the machine under the new topology, its drain at an end. -/
def State.drainEnds (s : State) (x : TopoChange) : State := (s.emptied.setTopology x).breakLinks s.emptied.brokenPorts

theorem exec_topologyDrainComplete {x : TopoChange} {s : State} (hdrain : s.fab.draining = some x) :
    (x.slot = none → exec .topologyDrainComplete s = .next (s.quiet.drainEnds x)) ∧
      (∀ i, x.slot = some i → exec .topologyDrainComplete s = .next ((s.quiet.drainEnds x).answer i stOk [])) := by
  have hexec : exec .topologyDrainComplete s = execTopologyDrainComplete s := rfl
  refine ⟨fun hslot => ?_, fun i hslot => ?_⟩ <;>
  · rw [hexec]
    simp only [execTopologyDrainComplete, State.quiet_fab, hdrain, hslot]
    rfl

theorem State.emptied_draining (s : State) : s.emptied.wiring.draining = none :=
  congrArg Wiring.draining (State.forAll_same (fun u p => u.cannotDeliver_wiring p 2) _ _)

theorem State.emptied_ports_length (s : State) : s.emptied.fab.ports.length = s.fab.ports.length := by
  rw [← State.length_links, ← State.length_links, State.emptied, State.forAll_same (fun u p => u.cannotDeliver_wiring p 2)]
  refine State.forAll_same (g := fun u => u.wiring.links.length) (fun u p => ?_) _ _
  rw [State.portDown_wiring, Wiring.modLink, List.length_modify]

theorem linkReset_lstate (off : Bool) (p : Port) : (linkReset off p).lstate = if off then .disabled else .training := by
  cases off <;> rfl

/-- R297: all eight ports are link-reset under the new topology. -/
theorem State.setTopology_wiring (s : State) (x : TopoChange) :
    (s.setTopology x).wiring = { s.wiring with
      links := s.wiring.links.mapIdx (fun k l => if k < 8 then
        (if x.placed && decide (extentOf x.extent (k / 2) = 1) then .disabled else .training) else l)
      coord := x.coord, extent := x.extent, placed := x.placed, bellwether := x.bellwether, deputy := x.deputy } := by
  have hreset (u : State) (k : Nat) : (u.modPort k (linkReset (u.portDisabled k))).wiring =
      u.wiring.modLink k ((fun off _ => if off then .disabled else .training) (u.portDisabled k)) :=
    State.modPort_wiring (linkReset_lstate ..)
  unfold State.setTopology
  dsimp only
  rw [State.nameLeaders_wiring, State.forAll_range_wiring (g := fun off _ => if off then .disabled else .training) hreset]
  rfl

@[simp] theorem State.breakLinks_wiring (s : State) (ports : List Nat) : (s.breakLinks ports).wiring = s.wiring := by
  unfold State.breakLinks
  split <;> rfl

theorem State.drainEnds_wiring (s : State) (x : TopoChange) :
    (s.drainEnds x).wiring = (s.emptied.setTopology x).wiring := State.breakLinks_wiring ..

theorem State.drainEnds_lstate (x : TopoChange) {s : State} {k : Nat} (hlen : s.fab.ports.length = 8) (hk : k < 8) :
    ((s.drainEnds x).port k).lstate = if x.placed = true ∧ extentOf x.extent (k / 2) = 1 then .disabled else .training := by
  have hlink : k < s.emptied.wiring.links.length := by rwa [State.length_links, State.emptied_ports_length, hlen]
  refine State.lstate_of_links ?_
  rw [State.drainEnds_wiring, State.setTopology_wiring]
  simp only [List.getElem?_mapIdx, List.getElem?_eq_getElem hlink, hk, if_true, Option.map_some, Bool.and_eq_true, decide_eq_true_eq]

end Topology

end Sys2Proof.Machine

/-! SUPPORT. The states of the pens (R346): of what a pen fault does (R359) only the fault itself changes them, and only the notice of
it reaches the transit plane; transit-only mode leaves no pen with a job (R296). -/

namespace Sys2Proof.Machine

/-- R346: the states of the pens. -/
def State.penStates (s : State) : List PenState := s.pens.map Pen.state

theorem State.pen_state_eq (s : State) (k : Nat) : (s.pen k).state = s.penStates.getD k .empty := by
  rw [State.pen, State.penStates, List.getD_eq_getElem?_getD, List.getD_eq_getElem?_getD, List.getElem?_map]
  cases s.pens[k]? <;> rfl

theorem Keeps.penStates {cs : List Area} {s t : State} (h : Keeps cs s t) (hp : Area.pens ∉ cs) : t.penStates = s.penStates :=
  congrArg (List.map Pen.state) (h.only.same .pens hp)

theorem Keeps.wiring {cs : List Area} {s t : State} (h : Keeps cs s t) (hf : Area.fab ∉ cs) : t.wiring = s.wiring :=
  State.wiring_of_fab (h.only.same .fab hf)

/-! ### What leaves the states of the pens alone -/

section Alone

/-- An update of a pen changes the states by what it makes of the pen's. -/
theorem State.modPen_penStates {s : State} {k : Nat} {f : Pen → Pen} {g : PenState → PenState} (h : ∀ x, (f x).state = g x.state) :
    (s.modPen k f).penStates = s.penStates.modify k g := by
  refine List.ext_getElem? (fun j => ?_)
  rw [State.penStates, State.penStates, State.modPen_pens, List.getElem?_map, List.getElem?_modify, List.getElem?_modify, List.getElem?_map]
  cases s.pens[j]? with
  | none => split <;> rfl
  | some x =>
    split
    · exact congrArg some (h x)
    · rfl

/-- An update of a pen that keeps its state keeps the states. -/
theorem State.modPen_penStates_same {s : State} {k : Nat} {f : Pen → Pen} (h : ∀ x, (f x).state = x.state) :
    (s.modPen k f).penStates = s.penStates :=
  (State.modPen_penStates (g := id) h).trans (by rw [List.modify_id])

@[simp] theorem State.modTensor_penStates (s : State) (h : Nat) (f : Tensor → Tensor) : (s.modTensor h f).penStates = s.penStates :=
  State.modPen_penStates_same (fun _ => rfl)

@[simp] theorem State.modDrover_penStates (s : State) (f : Drover → Drover) : (s.modDrover f).penStates = s.penStates := rfl

@[simp] theorem State.modAny_penStates (s : State) (h : Nat) (f : Tensor → Tensor) : (s.modAny h f).penStates = s.penStates := by
  unfold State.modAny
  split
  · rfl
  · exact State.modTensor_penStates ..

@[simp] theorem State.freeRoom_penStates (s : State) (pen : Nat) (t : Tensor) : (s.freeRoom pen t).penStates = s.penStates := by
  unfold State.freeRoom
  split
  · rfl
  · dsimp only
    rw [State.modTensor_penStates, State.modDrover_penStates]
    exact State.modPen_penStates_same (fun _ => rfl)

@[simp] theorem State.freeIdleRoom_penStates (s : State) (pen h : Nat) : (s.freeIdleRoom pen h).penStates = s.penStates := by
  unfold State.freeIdleRoom
  split
  · split
    · rfl
    · exact State.freeRoom_penStates ..
  · rfl

@[simp] theorem State.freeCopies_penStates (s : State) (pen : Nat) (t : Tensor) : (s.freeCopies pen t).penStates = s.penStates := by
  unfold State.freeCopies
  rw [State.modTensor_penStates, State.unstage_keeps.penStates (by decide), State.freeRoom_penStates]

@[simp] theorem State.freeScratch_penStates (s : State) (pen : Nat) (r : List (List Byte)) : (s.freeScratch pen r).penStates = s.penStates := by
  refine State.forAll_same (fun u h => ?_) _ _
  split
  · exact State.freeCopies_penStates ..
  · rfl

@[simp] theorem State.endSwitched_penStates (s : State) (h : Nat) : (s.endSwitched h).penStates = s.penStates := by
  unfold State.endSwitched
  split
  · rfl
  · split
    · rfl
    · split
      · rw [State.freeIdleRoom_penStates, State.modAny_penStates, State.rejectOpen_keeps.penStates (by decide)]
      · rfl

@[simp] theorem State.abandonRun_penStates (s : State) (h : Nat) : (s.abandonRun h).penStates = s.penStates := by
  have hended (u : State) (ops : List Op) (pen : Nat) (r : List (List Byte)) (f : Tensor → Tensor) :
      (((u.forAll ops State.removeOp).freeScratch pen r).modTensor h f).penStates = u.penStates := by
    rw [State.modTensor_penStates, State.freeScratch_penStates, State.forAll_same (fun v _ => (State.removeOp_keeps (t := v)).penStates (by decide))]
  unfold State.abandonRun
  split
  · rfl
  · split
    · dsimp only
      split
      · rw [State.endSwitched_penStates, hended]
      · rw [State.freeIdleRoom_penStates, hended]
    · rfl

@[simp] theorem State.droverQuiesce_penStates (s : State) (pen : Nat) : (s.droverQuiesce pen).penStates = s.penStates := by
  unfold State.droverQuiesce
  refine (State.modPen_penStates_same ?_).trans (State.forAll_same State.abandonRun_penStates _ _)
  exact fun _ => rfl

@[simp] theorem State.droverAbort_penStates (s : State) (pen : Nat) : (s.droverAbort pen).penStates = s.penStates := by
  refine (State.forAll_same (fun u t => ?_) _ _).trans (State.droverQuiesce_penStates ..)
  rw [State.freeIdleRoom_penStates, State.modTensor_penStates]

@[simp] theorem State.abandonEncodes_penStates (s : State) (pen : Nat) : (s.abandonEncodes pen).penStates = s.penStates :=
  State.modPen_penStates_same (fun _ => rfl)

@[simp] theorem State.spoil_penStates (s : State) (o : Op) : (s.spoil o).penStates = s.penStates := by
  refine State.forAll_same (fun u h => ?_) _ _
  split
  · split
    · rw [State.modTensor_penStates, State.penLoosen_keeps.penStates (by decide)]
    · rfl
  · rfl

@[simp] theorem State.drainFails_penStates (s : State) (i status : Nat) : (s.drainFails i status).penStates = s.penStates :=
  (State.answer_keeps.penStates (by decide)).trans (State.forAll_same (fun u h => u.modTensor_penStates h _) _ _)

@[simp] theorem State.endWaits_penStates (s : State) (pen status : Nat) (index : Bool) : (s.endWaits pen status index).penStates = s.penStates := by
  refine (State.forAll_same (fun u i => ?_) _ _).trans (State.answerPen_keeps.penStates (by decide))
  split
  · exact State.drainFails_penStates ..
  · exact State.answer_keeps.penStates (by decide)

@[simp] theorem State.faultNotice_penStates (s : State) (pen cause : Nat) (suspect : B16) :
    (s.faultNotice pen cause suspect).penStates = s.penStates := by
  unfold State.faultNotice
  split
  · rfl
  · split
    · rfl
    · exact (State.sendNotice_keeps.penStates (by decide)).trans (State.modPen_penStates_same (fun _ => by split <;> rfl))

end Alone

/-! ### A pen fault (R359) -/

section Fault

theorem State.sendLeaders_wiring (s : State) (ptype : Nat) (op : List Byte) : (s.sendLeaders ptype op).wiring = s.wiring := by
  unfold State.sendLeaders
  dsimp only
  split
  · exact State.sendMgmt_wiring ..
  · exact (State.sendMgmt_wiring ..).trans (State.sendMgmt_wiring ..)

theorem State.faultNotice_wiring (s : State) (pen cause : Nat) (suspect : B16) : (s.faultNotice pen cause suspect).wiring = s.wiring := by
  unfold State.faultNotice
  split
  · rfl
  · split
    · rfl
    · exact (State.sendLeaders_wiring ..).trans (State.modPen_wiring ..)

/-- R359: the end of an operator of the pen, spoilt first where it has released some of its effects. -/
theorem State.spoil_endFaulted_penStates (s : State) (code : Nat) (o : Op) :
    ((if o.partial' then s.spoil o else s).endFaulted o code 0).penStates = s.penStates := by
  rw [State.endFaulted_keeps.penStates (by decide), apply_ite State.penStates, State.spoil_penStates, ite_self]

theorem State.spoil_endFaulted_wiring (s : State) (code : Nat) (o : Op) :
    ((if o.partial' then s.spoil o else s).endFaulted o code 0).wiring = s.wiring := by
  rw [State.endFaulted_keeps.wiring (by decide), apply_ite State.wiring, State.spoil_keeps.wiring (by decide), ite_self]

/-- R359: a pen fault changes the state of its pen alone. -/
theorem State.penFault_penStates (s : State) (pen code info : Nat) :
    (s.penFault pen code info).penStates = if (s.pen pen).state.faultable then s.penStates.modify pen (fun _ => .faulted) else s.penStates := by
  unfold State.penFault
  split
  · dsimp only
    rw [State.faultNotice_penStates, State.endWaits_penStates, State.dropRops_keeps.penStates (by decide), State.abandonEncodes_penStates,
      State.droverAbort_penStates, State.forAll_same (fun u o => u.spoil_endFaulted_penStates (code % 256) o), apply_ite State.penStates,
      State.healthEvent_keeps.penStates (by decide), ite_self, State.logFault_keeps.penStates (by decide)]
    exact State.modPen_penStates (fun _ => rfl)
  · rfl

theorem State.penFault_wiring (s : State) (pen code info : Nat) : (s.penFault pen code info).wiring = s.wiring := by
  unfold State.penFault
  split
  · dsimp only
    rw [State.faultNotice_wiring, State.endWaits_keeps.wiring (by decide), State.dropRops_keeps.wiring (by decide),
      State.abandonEncodes_keeps.wiring (by decide), State.droverAbort_keeps.wiring (by decide),
      State.forAll_same (fun u o => u.spoil_endFaulted_wiring (code % 256) o), apply_ite State.wiring, State.healthEvent_keeps.wiring (by decide),
      ite_self, State.logFault_wiring]
    rfl
  · rfl

/-- A pen that can fault is one of the machine's. -/
theorem State.lt_of_faultable {s : State} {k : Nat} (h : (s.pen k).state.faultable = true) : k < s.penStates.length := by
  rcases Nat.lt_or_ge k s.penStates.length with hk | hk
  · exact hk
  · rw [State.pen_state_eq, List.getD_eq_getElem?_getD, List.getElem?_eq_none hk] at h
    cases h

/-- R359: a pen with a job can fault. -/
theorem PenState.hasJob_of_not_faultable {x : PenState} (h : ¬ x.faultable = true) : x.hasJob = false := by
  refine Bool.eq_false_iff.2 (fun hjob => ?_)
  rcases PenState.hasJob_iff.1 hjob with rfl | rfl | rfl <;> exact h rfl

theorem State.penFault_state_same (s : State) (p code info : Nat) : ((s.penFault p code info).pen p).state.hasJob = false := by
  rw [State.pen_state_eq, State.penFault_penStates]
  split
  case isTrue hfault =>
    rw [List.getD_eq_getElem?_getD, List.getElem?_modify_eq, List.getElem?_eq_getElem (State.lt_of_faultable hfault)]
    rfl
  case isFalse hsafe =>
    rw [← State.pen_state_eq]
    exact PenState.hasJob_of_not_faultable hsafe

theorem State.penFault_state_ne {k p : Nat} (s : State) (code info : Nat) (h : p ≠ k) :
    ((s.penFault p code info).pen k).state = (s.pen k).state := by
  rw [State.pen_state_eq, State.pen_state_eq, State.penFault_penStates]
  split
  · rw [List.getD_eq_getElem?_getD, List.getElem?_modify_ne _ _ h, List.getD_eq_getElem?_getD]
  · rfl

end Fault

/-! ### Transit-only mode (R296) -/

section TransitOnly

/-- R296: what entering transit-only mode does to a pen. -/
def State.leaveJob (s : State) (ready : Bool) (p : Nat) : State :=
  if (s.pen p).state = .ready && !ready then s else s.penFault p 0x87 0

theorem State.leaveJob_wiring (s : State) (ready : Bool) (p : Nat) : (s.leaveJob ready p).wiring = s.wiring := by
  rw [State.leaveJob, apply_ite State.wiring, State.penFault_wiring, ite_self]

theorem State.leaveJob_same (s : State) (ready : Bool) (p : Nat) : ((s.leaveJob ready p).pen p).state.hasJob = false := by
  unfold State.leaveJob
  split
  case isTrue hready =>
    rw [Bool.and_eq_true, decide_eq_true_eq] at hready
    rw [hready.1]
    rfl
  case isFalse => exact State.penFault_state_same ..

theorem State.leaveJob_ne {k p : Nat} (s : State) (ready : Bool) (h : p ≠ k) : ((s.leaveJob ready p).pen k).state = (s.pen k).state := by
  unfold State.leaveJob
  split
  · rfl
  · exact State.penFault_state_ne s _ _ h

/-- Once each of the first pens has left its job, none of them has one. -/
theorem State.forAll_leaveJob (s : State) (ready : Bool) (n : Nat) :
    ∀ k < n, ((s.forAll (List.range n) (fun t p => t.leaveJob ready p)).pen k).state.hasJob = false := by
  induction n with
  | zero => exact fun k hk => absurd hk (Nat.not_lt_zero k)
  | succ n ih =>
    intro k hk
    rw [State.forAll, List.range_succ, List.foldl_append]
    rcases Nat.lt_succ_iff_lt_or_eq.1 hk with hlt | rfl
    · exact (congrArg PenState.hasJob (State.leaveJob_ne _ ready (Nat.ne_of_gt hlt))).trans (ih k hlt)
    · exact State.leaveJob_same ..

theorem State.enterTransitOnly_hasJob (s : State) (ready : Bool) : ∀ k < 8, ((s.enterTransitOnly ready).pen k).state.hasJob = false :=
  State.forAll_leaveJob _ ready 8

theorem State.enterTransitOnly_wiring (s : State) (ready : Bool) :
    (s.enterTransitOnly ready).wiring = { s.wiring with transitOnly := true } :=
  (State.forAll_same (fun t p => t.leaveJob_wiring ready p) _ _).trans (State.leaveFull_keeps.wiring (by decide))

end TransitOnly

/-! ### The statement -/

/-- R296: only a leader of a placed device isolates it. -/
theorem exec_isolate {x : Nat × Packet} {s : State} (hhead : s.mgmtPacket 0x28 = some x) :
    exec .isolate s = .next (if (s.fab.placed && (pSrc x.2 == s.fab.bellwether || pSrc x.2 == s.fab.deputy)) = true then
      (s.quiet.takePacket x).enterTransitOnly false else (s.quiet.takePacket x).count 29 1) := by
  change execIsolate s = _
  simp only [execIsolate, State.quiet_mgmtPacket, hhead]
  rfl

/-- Settles O54: each clause by what becomes of its packet, and the drain's end by what it leaves of the wiring. -/
theorem packetRouting : Obligations.PacketRouting := by
  unfold Obligations.PacketRouting
  refine ⟨fun i k p s hidle hhead => ?head, fun i k port x s hsending => ?sending, fun port v i s hturn => ?turn,
    fun i p s hhead => ?ring, fun i p s hhead => ?isolate, fun x s hdrain => ?topology⟩
  case head =>
    intro u
    have hexec {r : Routed} (hroute : s.quiet.routePacket (i.val < 8) p = r) : exec (.packet i k) s = .next (s.quiet.takeHead i k p r) :=
      hroute ▸ exec_packet_head hidle hhead
    refine ⟨hexec, hexec, fun st => hexec, fun port q hroute => ⟨fun hcredit hturn => ?_, fun hwait => ?_, ?_⟩⟩
    · exact (hexec hroute).trans (congrArg Host.Outcome.next (if_pos (State.mayGo_of_turn hcredit hturn)))
    · exact (hexec hroute).trans (congrArg Host.Outcome.next (if_neg (Bool.eq_false_iff.1 (State.mayGo_eq_false hwait))))
    · simpa only [decide_eq_true_eq, State.quiet_port] using State.routePacket_forward hroute
  case sending =>
    refine ⟨fun hcredit hturn => ?_, fun hwait => ?_⟩
    · exact (exec_packet_sending hsending).trans (congrArg Host.Outcome.next (if_pos (State.mayGo_of_turn hcredit hturn)))
    · exact (exec_packet_sending hsending).trans
        (congrArg Host.Outcome.next (if_neg (Bool.eq_false_iff.1 (State.mayGo_eq_false hwait))))
  case turn =>
    have hvc := (State.nextTurn_some hturn).1
    refine ⟨State.mem_readyFor_of_nextTurn hturn, fun hthree => ?_, fun hwait hready => ?_, State.turnVc_low hvc⟩
    · exact State.vc3Turn_iff.1 (State.turnVc_three (hthree ▸ hvc)) |>.2
    · rw [State.turnVc, if_pos (State.vc3Turn_iff.2 ⟨hready, .inl hwait⟩), Option.some_inj] at hvc
      exact hvc.symm
  case ring =>
    exact ⟨fun hknown => (exec_ringNotice hhead).trans (congrArg Host.Outcome.next (if_pos hknown)),
      fun hnew => (exec_ringNotice hhead).trans (congrArg Host.Outcome.next (if_neg hnew))⟩
  case isolate =>
    refine ⟨fun hplaced hleader => ⟨_, (exec_isolate (s := s) hhead).trans (congrArg Host.Outcome.next (if_pos ?_)), rfl, ?_, fun k hk => ?_⟩,
      fun hstays => (exec_isolate (s := s) hhead).trans (congrArg Host.Outcome.next (if_neg ?_))⟩
    · simpa only [hplaced, Bool.true_and, Bool.or_eq_true, beq_iff_eq] using hleader
    · rw [← State.wiring_transitOnly, State.enterTransitOnly_wiring]
    · have hout := State.enterTransitOnly_hasJob (s.quiet.takePacket (i, p)) false k hk
      rw [← Bool.not_eq_true, PenState.hasJob_iff] at hout
      simpa only [not_or] using hout
    · rcases hstays with h | ⟨hbellwether, hdeputy⟩
      · rw [h, Bool.false_and]
        exact Bool.false_ne_true
      · simp only [beq_false_of_ne hbellwether, beq_false_of_ne hdeputy, Bool.or_self, Bool.and_false, Bool.false_eq_true, not_false_iff]
  case topology =>
    have hwiring : (s.quiet.drainEnds x).wiring = (s.quiet.emptied.setTopology x).wiring := State.drainEnds_wiring ..
    rw [State.setTopology_wiring, Wiring.mk.injEq] at hwiring
    obtain ⟨-, hcoord, hextent, hplaced, hbellwether, hdeputy, -, hdraining⟩ := hwiring
    obtain ⟨hnone, hsome⟩ := exec_topologyDrainComplete hdrain
    have hlinks (hlen : s.fab.ports.length = 8) (k : Nat) (hk : k < 8) := State.drainEnds_lstate x (s := s.quiet) hlen hk
    have hempty := hdraining.trans s.quiet.emptied_draining
    cases hslot : x.slot with
    | none => exact ⟨_, _, hnone hslot, fun _ => rfl, nofun, hcoord, hextent, hplaced, hbellwether, hdeputy, hempty, hlinks⟩
    | some i =>
      exact ⟨_, _, hsome i hslot, nofun, fun j hj => by rw [Option.some_inj.1 hj], hcoord, hextent, hplaced, hbellwether, hdeputy, hempty,
        hlinks⟩

end Sys2Proof.Machine

/-! SUPPORT. FABRIC_TOPOLOGY_SET (R278, R296, R297, R422) and TIME_ROLE_SET (R338, R425). -/

namespace Sys2Proof.Machine

/-! ### A request that names a topology (R422) -/

/-- R422: the topology that a request names. -/
def Req.topology (r : Req) : TopoChange :=
  { coord := BitVec.ofNat 16 (r.f 0 2), extent := BitVec.ofNat 16 (r.f 2 2), bellwether := BitVec.ofNat 16 (r.f 4 2)
    deputy := BitVec.ofNat 16 (r.f 6 2), placed := (r.f 8 1).testBit 0, slot := some r.slot }

/-- R296, R422: the request asks to leave transit-only mode. -/
def Req.leavesTransit (r : Req) : Bool := (r.f 8 1).testBit 1

/-- R422: the topology of a request is kept in the settings. -/
def State.keepTopology (s : State) (r : Req) : State :=
  (s.modFab (fun f => { f with transitOnly := f.transitOnly && !r.leavesTransit })).ownWrite (.settings { s.dog.inUse with
    coord := r.topology.coord, extent := r.topology.extent, bellwether := r.topology.bellwether, deputy := r.topology.deputy
    placed := r.topology.placed })

/-- R297: the request changes the coordinate or the extents. -/
def State.movedBy (s : State) (r : Req) : Bool := r.topology.coord != s.fab.coord || r.topology.extent != s.fab.extent

/-- R297: the topology of a request that moves nothing, in force. -/
def State.applyTopology (s : State) (r : Req) : State :=
  ((s.keepTopology r).setPlaced r.topology.placed).nameLeaders r.topology.bellwether r.topology.deputy

/-- R296, R331, R422: the checks of FABRIC_TOPOLOGY_SET on the request alone, and that the device can take it. -/
structure State.AdmitsTopology (s : State) (r : Req) : Prop where
  flags : r.f 8 1 ≤ 3
  zeros : r.zero 9 16 = true
  coord : coordWithin r.topology.extent r.topology.coord = true
  bellwether : coordWithin r.topology.extent r.topology.bellwether = true
  deputy : coordWithin r.topology.extent r.topology.deputy = true
  size : extentProduct r.topology.extent ≤ 8192
  deputyNext : r.topology.deputy = deputyOf r.topology.extent r.topology.bellwether
    (s.skipped r.topology.coord r.topology.placed r.leavesTransit)
  settled : s.fab.draining = none
  hub : r.leavesTransit = false ∨ s.boot.hubFaulted = false

section Admitted

variable {s : State} {r : Req}

theorem State.AdmitsTopology.fabricTopologySet (h : s.AdmitsTopology r) :
    fabricTopologySet r s = if (s.movedBy r && s.jobActive) = true then refuse s stJobActive
      else if s.movedBy r = true then .wait (((s.keepTopology r).modFab (fun f => { f with draining := some r.topology })).leaveFull)
      else .reply (if r.topology.placed = true then s.applyTopology r else (s.applyTopology r).leaveFull) stOk [] := by
  have hchecks : (decide (3 < r.f 8 1) || !(r.zero 9 16) || !(coordWithin r.topology.extent r.topology.coord) ||
      !(coordWithin r.topology.extent r.topology.bellwether) || !(coordWithin r.topology.extent r.topology.deputy) ||
      decide (8192 < extentProduct r.topology.extent) || r.topology.deputy != deputyOf r.topology.extent r.topology.bellwether
        (s.skipped r.topology.coord r.topology.placed r.leavesTransit)) = false := by
    rw [decide_eq_false (Nat.not_lt.2 h.flags), h.zeros, h.coord, h.bellwether, h.deputy, decide_eq_false (Nat.not_lt.2 h.size),
      ← h.deputyNext, bne_self_eq_false]
    rfl
  have hsettled : s.fab.draining.isSome = false := by rw [h.settled]; rfl
  have hhub : (r.leavesTransit && s.boot.hubFaulted) = false := Bool.and_eq_false_iff.2 h.hub
  refine (if_neg (Bool.eq_false_iff.1 hchecks)).trans (ite_congr rfl (fun _ => rfl) (fun _ => ?_))
  exact (if_neg (Bool.eq_false_iff.1 hsettled)).trans (if_neg (Bool.eq_false_iff.1 hhub))

theorem State.movedBy_eq_false (hcoord : r.topology.coord = s.fab.coord) (hextent : r.topology.extent = s.fab.extent) :
    s.movedBy r = false := by
  rw [State.movedBy, hcoord, hextent, bne_self_eq_false, bne_self_eq_false, Bool.or_self]

theorem State.movedBy_eq_true (h : r.topology.coord ≠ s.fab.coord ∨ r.topology.extent ≠ s.fab.extent) : s.movedBy r = true := by
  simpa only [State.movedBy, Bool.or_eq_true, bne_iff_ne] using h

end Admitted

/-! ### PLACED alone changes (R278) -/

section Placed

variable {s : State}

/-- R278: the wiring under another PLACED. -/
theorem State.setPlaced_wiring {b : Bool} (h : s.fab.placed ≠ b) : (s.setPlaced b).wiring = { s.wiring with
    placed := b
    links := s.wiring.links.mapIdx (fun k l => if k < 8 then
      (if b && decide (extentOf s.fab.extent (k / 2) = 1) then .disabled else if l = .disabled then .training else l) else l) } := by
  unfold State.setPlaced
  rw [if_neg h, State.forAll_range_wiring (g := fun off l => if off then .disabled else if l = .disabled then .training else l)
    State.rewire_wiring]
  rfl

theorem State.setPlaced_topology (s : State) (b : Bool) :
    (s.setPlaced b).fab.placed = b ∧ (s.setPlaced b).fab.coord = s.fab.coord ∧ (s.setPlaced b).fab.extent = s.fab.extent := by
  by_cases h : s.fab.placed = b
  · rw [State.setPlaced, if_pos h]
    exact ⟨h, rfl, rfl⟩
  · rw [← State.wiring_placed, ← State.wiring_coord, ← State.wiring_extent, State.setPlaced_wiring h]
    exact ⟨rfl, rfl, rfl⟩

theorem State.setPlaced_links_off {k : Nat} (hlen : s.fab.ports.length = 8) (hk : k < 8) (hnew : s.fab.placed = false)
    (hone : extentOf s.fab.extent (k / 2) = 1) : (s.setPlaced true).wiring.links[k]? = some .disabled := by
  have hlink : k < s.wiring.links.length := by rwa [State.length_links, hlen]
  rw [State.setPlaced_wiring (by rw [hnew]; decide)]
  simp only [List.getElem?_mapIdx, List.getElem?_eq_getElem hlink, hk, hone, decide_true, Bool.and_self, if_true, Option.map_some]

theorem State.applyTopology_topology (s : State) (r : Req) : (s.applyTopology r).fab.placed = r.topology.placed ∧
    (s.applyTopology r).fab.coord = s.fab.coord ∧ (s.applyTopology r).fab.extent = s.fab.extent := by
  have hplaced := State.setPlaced_topology (s.keepTopology r) r.topology.placed
  simp only [← State.wiring_placed, ← State.wiring_coord, ← State.wiring_extent] at hplaced ⊢
  rw [State.applyTopology, State.nameLeaders_wiring]
  exact hplaced

theorem State.applyTopology_lstate_off {r : Req} {k : Nat} (hlen : s.fab.ports.length = 8) (hk : k < 8) (hnew : s.fab.placed = false)
    (hplaced : r.topology.placed = true) (hone : extentOf s.fab.extent (k / 2) = 1) : ((s.applyTopology r).port k).lstate = .disabled := by
  refine State.lstate_of_links ?_
  rw [State.applyTopology, State.nameLeaders_wiring, hplaced]
  exact State.setPlaced_links_off (s := s.keepTopology r) hlen hk hnew hone

end Placed

/-! ### TIME_ROLE_SET (R338, R425) -/

theorem timeRoleSet_eq {s : State} {r : Req} (hsource : r.f 0 1 ≤ 1) (href : r.f 1 1 ≤ 1) (hzeros : r.zero 2 8 = true)
    (hneeds : r.f 1 1 = 1 → r.f 0 1 = 1) :
    timeRoleSet r s = if s.isMaster = true then .reply (s.modTime (fun x =>
        if r.f 0 1 = 1 then { (if r.f 1 1 = 1 then x.refer (r.f 8 8) else x) with hostSource := true }
        else { x with hostSource := false, ratePpb := 0, slewLeft := none })) stOk
          (leBytes 8 s.time.now.toNat ++ leBytes 2 s.time.epoch.toNat)
      else refuse s stRefused := by
  have hchecks : (decide (1 < r.f 0 1) || decide (1 < r.f 1 1) || !(r.zero 2 8) || (decide (r.f 1 1 = 1) && !decide (r.f 0 1 = 1))) = false := by
    rw [decide_eq_false (Nat.not_lt.2 hsource), decide_eq_false (Nat.not_lt.2 href), hzeros]
    by_cases h : r.f 1 1 = 1
    · rw [decide_eq_true h, decide_eq_true (hneeds h)]
      rfl
    · rw [decide_eq_false h]
      rfl
  unfold timeRoleSet
  dsimp only
  rw [if_neg (Bool.eq_false_iff.1 hchecks)]
  cases s.isMaster <;> rfl

/-! ### The statement -/

/-- Settles O31: a request that passes its checks moves the device, waits for its jobs, or is in force at once. -/
theorem fabricCommands : Obligations.FabricCommands := by
  unfold Obligations.FabricCommands
  refine ⟨fun fn slot s hwaits => ?topology, fun fn slot s hwaits => ?role⟩
  case topology =>
    intro r flags x set hflags hzeros hcoord hbellwether hdeputy hsize hnext hsettled hhub
    have hadmits : (s.taken fn slot).AdmitsTopology r := ⟨hflags, hzeros, hcoord, hbellwether, hdeputy, hsize, hnext, hsettled, hhub⟩
    have hexec : exec (.fabricTopologySet fn slot) s =
        .next ((Machine.fabricTopologySet r (s.taken fn slot)).finish (slotIndex fn slot)).settleRound :=
      congrArg Host.Outcome.next (serve_of_waits hwaits)
    refine ⟨fun hsame hextent => ?same, fun hmoves hidle => ?moves, fun hmoves hjob => ?job⟩
    case same =>
      have hdone {v : State} (hv : (if x.placed = true then (s.taken fn slot).applyTopology r
          else ((s.taken fn slot).applyTopology r).leaveFull) = v) :
          exec (.fabricTopologySet fn slot) s = .next ((v.answer (slotIndex fn slot) stOk []).settleRound) := by
        rw [hexec, hadmits.fabricTopologySet, State.movedBy_eq_false (s := s.taken fn slot) hsame hextent, ← hv]
        rfl
      have hin : (s.taken fn slot).applyTopology r = (if x.placed = s.fab.placed then set else
          (set.modFab (fun f => { f with placed := x.placed })).forAll (List.range 8) State.rewire).nameLeaders x.bellwether x.deputy :=
        congrArg (State.nameLeaders · x.bellwether x.deputy) (ite_congr (propext eq_comm) (fun _ => rfl) (fun _ => rfl))
      obtain ⟨hplacedNow, hcoordNow, hextentNow⟩ := (s.taken fn slot).applyTopology_topology r
      exact ⟨_, hin, fun h => hdone (if_pos h), fun h => hdone (if_neg (Bool.eq_false_iff.1 h)), hplacedNow, hcoordNow, hextentNow,
        fun hlen hnew hp k hk hone => State.applyTopology_lstate_off hlen hk hnew hp hone⟩
    case moves =>
      rw [hexec, hadmits.fabricTopologySet, State.movedBy_eq_true (s := s.taken fn slot) hmoves, State.taken_jobActive, hidle]
      rfl
    case job =>
      rw [hexec, hadmits.fabricTopologySet, State.movedBy_eq_true (s := s.taken fn slot) hmoves, State.taken_jobActive, hjob]
      rfl
  case role =>
    intro r hsource href hzeros hneeds
    have hexec : exec (.timeRoleSet fn slot) s =
        .next ((timeRoleSet r (s.taken fn slot)).finish (slotIndex fn slot)).settleRound :=
      congrArg Host.Outcome.next (serve_of_waits hwaits)
    rw [hexec, timeRoleSet_eq hsource href hzeros hneeds, State.taken_isMaster]
    exact ⟨fun hmaster => by rw [if_pos hmaster]; rfl, fun hmaster => by rw [if_neg (Bool.eq_false_iff.1 hmaster)]; rfl⟩

end Sys2Proof.Machine

/-! SUPPORT. The job table of a leader and the reports of a member (R296, R322, R341 to R344, Table 13.7). -/

namespace Sys2Proof.Machine

/-! ### Leaders -/

section Leaders

variable {s : State} {x : Nat × Packet}

/-- R331: a deputy is not the Bellwether. -/
theorem State.isBellwether_of_isDeputy (h : s.isDeputy = true) : s.isBellwether = false := by
  simp only [State.isDeputy, Bool.and_eq_true, beq_iff_eq, bne_iff_ne] at h
  obtain ⟨⟨-, hdeputy⟩, hother⟩ := h
  rw [State.isBellwether, State.isMaster, hdeputy, beq_false_of_ne hother, Bool.and_false, Bool.false_and]

theorem exec_join (hhead : s.mgmtPacket 0x26 = some x) :
    exec .join s = .next (if (s.isBellwether || s.isDeputy) = true then
      (s.quiet.takePacket x).takeJoin (pSrc x.2) (BitVec.ofNat 16 (leField x.2 8 2)) (BitVec.ofNat 16 (leField x.2 10 2))
        (BitVec.ofNat 16 (leField x.2 12 2)) (BitVec.ofNat 32 (leField x.2 16 4))
      else (s.quiet.takePacket x).count 29 1) := by
  change execJoin s = _
  simp only [execJoin, State.quiet_mgmtPacket, hhead]
  rfl

end Leaders

/-! ### FAULT_NOTICE (R342, R344) -/

section Notice

variable {s : State} {x : Nat × Packet}

/-- R342: the job that a notice names takes it. -/
def State.noticed (s : State) (x : Nat × Packet) : State :=
  (s.takePacket x).modJob (BitVec.ofNat 16 (leField x.2 8 2)) (fun j => j.noticed (pSrc x.2) (leField x.2 10 1))

theorem exec_faultNotice (hhead : s.mgmtPacket 0x27 = some x) :
    exec .faultNotice s = .next (if (s.isBellwether || s.isDeputy) = true then
      (if leField x.2 10 1 = 0xFF then (s.quiet.noticed x).markUnusable (pSrc x.2) else s.quiet.noticed x)
      else (s.quiet.takePacket x).count 29 1) := by
  change execFaultNotice s = _
  simp only [execFaultNotice, State.quiet_mgmtPacket, hhead]
  rfl

theorem Job.noticed_key (j : Job) (c : B16) (cause : Nat) : (j.noticed c cause).key = j.key := by
  unfold Job.noticed
  repeat' split
  all_goals rfl

/-- R342 to R344: after a notice the job is stopped, or collects and holds the notice. -/
theorem Job.noticed_collects (j : Job) (c : B16) (cause : Nat) :
    (j.noticed c cause).phase = .stopped ∨ ((j.noticed c cause).phase = .collect ∧ (c, cause) ∈ (j.noticed c cause).notices) := by
  unfold Job.noticed
  split
  case isTrue hstopped => exact .inl hstopped
  case isFalse =>
    right
    split
    case isTrue hcollect =>
      split
      case isTrue hheld => exact ⟨hcollect, List.contains_iff_mem.1 hheld⟩
      case isFalse => exact ⟨hcollect, List.mem_append_right _ (List.mem_singleton.2 rfl)⟩
    case isFalse => exact ⟨rfl, List.mem_singleton.2 rfl⟩

theorem State.noticed_jobs (s : State) (x : Nat × Packet) : (s.noticed x).coord.jobs = s.coord.jobs.map (fun j =>
    if j.key = BitVec.ofNat 16 (leField x.2 8 2) then j.noticed (pSrc x.2) (leField x.2 10 1) else j) := rfl

theorem State.noticed_keys (s : State) (x : Nat × Packet) : (s.noticed x).coord.jobs.map Job.key = s.coord.jobs.map Job.key := by
  rw [State.noticed_jobs, List.map_map]
  refine List.map_congr_left (fun j _ => ?_)
  rw [Function.comp_apply, apply_ite Job.key, Job.noticed_key, ite_self]

theorem State.noticed_collects {j : Job} (hj : j ∈ (s.noticed x).coord.jobs) (hkey : j.key = BitVec.ofNat 16 (leField x.2 8 2)) :
    j.phase = .stopped ∨ (j.phase = .collect ∧ (pSrc x.2, leField x.2 10 1) ∈ j.notices) := by
  rw [State.noticed_jobs, List.mem_map] at hj
  obtain ⟨i, -, rfl⟩ := hj
  split at hkey
  case isTrue hi => rw [if_pos hi]; exact i.noticed_collects ..
  case isFalse hi => exact absurd hkey hi

theorem State.noticed_only (s : State) (x : Nat × Packet) : Only [.fab, .coord, .out] s (s.quiet.noticed x) :=
  (((State.quiet_keeps.mono (by decide)).step State.takePacket_keeps (by decide)).step State.modJob_keeps (by decide)).only

/-- R331: what is marked as out of use stays in the list, and the job table is left alone. -/
theorem State.markUnusable_coord (s : State) (c : B16) :
    (s.markUnusable c).coord.jobs = s.coord.jobs ∧ c ∈ (s.markUnusable c).coord.unusable := by
  have hmarked : (s.markUnusable c).coord =
      if s.coord.unusable.contains c then s.coord else { s.coord with unusable := s.coord.unusable ++ [c] } := by
    unfold State.markUnusable
    dsimp only
    split
    · rw [State.nameDeputy_keeps.only.same .coord (by decide)]
      rfl
    · rfl
  rw [hmarked]
  split
  case isTrue hthere => exact ⟨rfl, List.contains_iff_mem.1 hthere⟩
  case isFalse => exact ⟨rfl, List.mem_append_right _ (List.mem_singleton.2 rfl)⟩

end Notice

/-! ### Collection, and what stays silent (Table 13.7) -/

section Phases

variable {s : State} {key : B16} {j : Job}

theorem exec_collectEnd_bellwether (hjob : s.job? key = some j) (hphase : j.phase = .collect) (hlead : s.isBellwether = true) :
    exec (.collectEnd key) s = .next ((((s.quiet.modJob key Job.halted).forAll
      (j.members.filter (fun m => j.notices.contains (m.coord, 0xFF))) (fun v m => v.isolateMember key m)).announce key .halt).advanceJob key) := by
  change execCollectEnd key s = _
  simp only [execCollectEnd, State.quiet_jobOpt, State.quiet_isBellwether, hjob, hphase, hlead, decide_true, Bool.and_self, if_true]
  rfl

theorem exec_collectEnd_deputy (hjob : s.job? key = some j) (hphase : j.phase = .collect) (hlead : s.isDeputy = true) :
    exec (.collectEnd key) s = .next (s.quiet.modJob key (fun x => { x.halted with phase := .halt })) := by
  change execCollectEnd key s = _
  simp only [execCollectEnd, State.quiet_jobOpt, State.quiet_isBellwether, State.quiet_isDeputy, hjob, hphase,
    State.isBellwether_of_isDeputy hlead, hlead, decide_true, Bool.and_self, Bool.and_false, Bool.false_eq_true, if_false, if_true]
  rfl

theorem exec_haltAckTimeout_halt (hjob : s.job? key = some j) (hphase : j.phase = .halt) (hlead : s.isBellwether = true) :
    exec (.haltAckTimeout key) s = .next ((s.quiet.forAll j.waiting (fun u m => u.isolateMember key m)).advanceJob key) := by
  change execHaltAckTimeout key s = _
  simp only [execHaltAckTimeout, State.quiet_jobOpt, State.quiet_isBellwether, hjob, hphase, hlead, decide_true, Bool.and_self, if_true]
  rfl

/-- R343, log entry 186: members that stay silent about the plan are failed, and the recovery restarts. -/
theorem exec_haltAckTimeout_plan (hjob : s.job? key = some j) (hphase : j.phase = .plan) (hlead : s.isBellwether = true)
    (hsilent : j.waiting ≠ []) :
    exec (.haltAckTimeout key) s = .next ((s.quiet.forAll j.waiting (fun u m => u.isolateMember key m)).modJob key Job.restarted) := by
  change execHaltAckTimeout key s = _
  simp only [execHaltAckTimeout, State.quiet_jobOpt, State.quiet_isBellwether, hjob, hphase, hlead, bne_iff_ne.2 hsilent, reduceCtorEq,
    decide_true, decide_false, Bool.false_and, Bool.and_self, Bool.false_eq_true, if_false, if_true]
  rfl

end Phases

/-! ### Acknowledgements (Table 13.7) -/

section Acknowledged

variable {s : State} {x : Nat × Packet}

/-- A member has acknowledged. -/
def Job.ackedBy (j : Job) (c : B16) : Job :=
  { j with members := j.members.map (fun m => if m.coord = c then { m with acked := true } else m) }

/-- Table 13.7: an acknowledgement counts in the generation and the phase that it names, where the phase asks for one. -/
def Job.heardAck (j : Job) (x : Nat × Packet) : Job :=
  if leField x.2 12 4 = j.generation.toNat && leField x.2 10 1 = j.phase.code && j.phase.announced then j.ackedBy (pSrc x.2) else j

theorem exec_recoveryAck (hhead : s.mgmtPacket 0x2A = some x) :
    exec .recoveryAck s = .next (if s.isBellwether = true then
      ((s.quiet.takePacket x).modJob (BitVec.ofNat 16 (leField x.2 8 2)) (fun j => j.heardAck x)).advanceJob (BitVec.ofNat 16 (leField x.2 8 2))
      else (s.quiet.takePacket x).count 29 1) := by
  change execRecoveryAck s = _
  simp only [execRecoveryAck, State.quiet_mgmtPacket, hhead]
  rfl

theorem Job.heardAck_of_current {j : Job} (hgen : leField x.2 12 4 = j.generation.toNat) (hcode : leField x.2 10 1 = j.phase.code)
    (hasks : j.phase.announced = true) : j.heardAck x = j.ackedBy (pSrc x.2) :=
  if_pos (by rw [hgen, hcode, hasks, decide_eq_true rfl, decide_eq_true rfl]; rfl)

/-- The only job of the table is updated. -/
theorem State.modJob_only {j : Job} {key : B16} (f : Job → Job) (hjobs : s.coord.jobs = [j]) (hkey : j.key = key) :
    s.modJob key f = s.modCoord (fun c => { c with jobs := [f j] }) := by
  rw [State.modJob, State.modCoord, State.modCoord, hjobs, List.map_singleton, if_pos hkey]

end Acknowledged

/-! ### RECOVERY at a member (R343, R344) -/

/-- R343: the report that a RECOVERY packet brings. -/
def recoveryReport (p : Packet) : RecoveryReport :=
  { phase := leField p 10 1, status := leField p 11 1, generation := BitVec.ofNat 32 (leField p 12 4), subs := parseSubs p }

theorem exec_recovery {s : State} {x : Nat × Packet} (hhead : s.mgmtPacket 0x29 = some x) (hhub : s.hubPresent = true) :
    exec .recovery s = .next (
      let key := BitVec.ofNat 16 (leField x.2 8 2)
      let r := recoveryReport x.2
      let u := s.quiet.takePacket x
      if r.generation.toNat < (s.generation key).toNat then u
      else ((u.keepReport key r).actOn key r).sendMgmt 0x2A (pSrc x.2)
        (leBytes 2 key.toNat ++ [BitVec.ofNat 8 r.phase, 0] ++ leBytes 4 r.generation.toNat) []) := by
  have hserves : (!(s.quiet.takePacket x).hubPresent) = false := congrArg (!·) hhub
  change execRecovery s = _
  simp only [execRecovery, State.quiet_mgmtPacket, hhead, hserves, Bool.false_eq_true, if_false]
  rw [apply_ite Host.Outcome.next]
  rfl

/-! ### The statement -/

/-- Settles O56: each clause is what its packet or its event does to the job table or to the member. -/
theorem recovery : Obligations.Recovery := by
  unfold Obligations.Recovery
  refine ⟨fun x s hhead => ?join, fun x s hhead => ?notice, fun key j s hjob hphase hlead => exec_collectEnd_bellwether hjob hphase hlead,
    fun key j s hjob hphase hlead => exec_collectEnd_deputy hjob hphase hlead,
    fun key j s hjob hphase hlead hsilent => exec_haltAckTimeout_plan hjob hphase hlead hsilent,
    fun key j s hjob hphase hlead => exec_haltAckTimeout_halt hjob hphase hlead, fun x s hhead => ?ack, fun x s hhead => ?member⟩
  case join =>
    rw [exec_join (s := s) hhead]
    refine ⟨fun hlead => congrArg Host.Outcome.next (if_pos ((Bool.or_eq_true ..).mpr hlead)),
      fun hbellwether hdeputy => congrArg Host.Outcome.next (if_neg ?_)⟩
    rw [hbellwether, hdeputy]
    exact Bool.false_ne_true
  case notice =>
    rw [exec_faultNotice (s := s) hhead]
    refine ⟨fun hlead => ⟨_, congrArg Host.Outcome.next (if_pos ((Bool.or_eq_true ..).mpr hlead)), ?_⟩,
      fun hbellwether hdeputy => congrArg Host.Outcome.next (if_neg ?_)⟩
    · by_cases hhub : leField x.2 10 1 = 0xFF
      · obtain ⟨hjobs, hunusable⟩ := State.markUnusable_coord (s.quiet.noticed x) (pSrc x.2)
        rw [if_pos hhub, hjobs]
        exact ⟨fun h => absurd hhub h, fun _ => hunusable, s.quiet.noticed_keys x, fun j hj hkey => State.noticed_collects hj hkey⟩
      · rw [if_neg hhub]
        exact ⟨fun _ => s.noticed_only x, fun h => absurd h hhub, s.quiet.noticed_keys x, fun j hj hkey => State.noticed_collects hj hkey⟩
    · rw [hbellwether, hdeputy]
      exact Bool.false_ne_true
  case ack =>
    intro key
    rw [exec_recoveryAck (s := s) hhead]
    refine ⟨fun hlead => congrArg Host.Outcome.next (if_neg (Bool.eq_false_iff.1 hlead)),
      fun j hlead hjobs hkey hgen hcode hasks => ?_⟩
    rw [if_pos hlead, State.modJob_only (s := s.quiet.takePacket x) _ hjobs hkey, Job.heardAck_of_current hgen hcode hasks]
    rfl
  case member =>
    exact ⟨fun hhub hearlier => (exec_recovery (s := s) hhead hhub).trans (congrArg Host.Outcome.next (if_pos hearlier)),
      fun hhub hcurrent => (exec_recovery (s := s) hhead hhub).trans (congrArg Host.Outcome.next (if_neg (Nat.not_lt.2 hcurrent)))⟩

end Sys2Proof.Machine

/-! SUPPORT. Doorbells (R303, R304, Table 12.4): what a word makes of its queue, and what the machine is then. -/

namespace Sys2Proof.Machine

/-! ### What a word makes of a queue (R303, R304) -/

section Word

variable {x y : Queue} {n : Nat}

theorem Queue.add_entries (ht : x.type ≠ .cpl) (h : x.add n = some y) : y = { x with tail := x.tail + BitVec.ofNat 32 n } := by
  rw [Queue.add, if_neg ht, Option.ite_none_left_eq_some] at h
  exact (Option.some.inj h.2).symm

theorem Queue.add_consumed (ht : x.type = .cpl) (hfill : n ≤ x.fill) :
    x.add n = some { x with head := x.head + BitVec.ofNat 32 n, taken := x.taken + BitVec.ofNat 64 n } := by
  rw [Queue.add, if_pos ht, if_neg (Nat.not_lt.2 hfill)]

theorem Queue.add_overflow (ht : x.type ≠ .cpl) (hfull : x.size < x.fill + n) : x.add n = none := by
  rw [Queue.add, if_neg ht, if_pos hfull]

theorem Queue.add_keeps (h : x.add n = some y) : y.type = x.type ∧ y.waitingCpl = x.waitingCpl ∧ y.halted = x.halted := by
  unfold Queue.add at h
  split at h
  all_goals
    obtain ⟨-, h⟩ := Option.ite_none_left_eq_some.1 h
    obtain rfl := Option.some.inj h
    exact ⟨rfl, rfl, rfl⟩

theorem Queue.restart_halted (skip : Bool) (h : x.halted = true) : x.restart skip = { x with
    halted := false, haltInfo := 0, head := if skip && x.head != x.tail then x.head + 1 else x.head } := by
  rw [Queue.restart, if_pos h]

theorem Queue.restart_keeps (x : Queue) (skip : Bool) : (x.restart skip).type = x.type ∧ (x.restart skip).waitingCpl = x.waitingCpl := by
  unfold Queue.restart
  split <;> exact ⟨rfl, rfl⟩

/-- R304, Table 12.4: what RESTART and SKIP of a word make of the queue that its ADD leaves. -/
def Queue.resumed (y : Queue) (w : Word) : Queue := if w.getLsbD 31 then y.restart (w.getLsbD 30) else y

theorem Queue.resumed_keeps (y : Queue) (w : Word) : (y.resumed w).type = y.type ∧ (y.resumed w).waitingCpl = y.waitingCpl := by
  unfold Queue.resumed
  split
  · exact y.restart_keeps _
  · exact ⟨rfl, rfl⟩

theorem Queue.resumed_plain {w : Word} (h : w.getLsbD 31 = false) (y : Queue) : y.resumed w = y :=
  if_neg (Bool.eq_false_iff.1 h)

theorem Queue.resumed_restart {w : Word} (h : w.getLsbD 31 = true) (y : Queue) : y.resumed w = y.restart (w.getLsbD 30) := if_pos h

end Word

/-! ### The machine after a word -/

section Reached

variable {s : State} {fn q : Nat} {w : Word} {x y : Queue}

theorem State.doorbell_unreached (h : s.doorbellQueue fn q = none) :
    s.doorbell fn q w = s.logFault 9 0x0502 .corrected fn none none (q % 2 ^ 20) := by
  simp only [State.doorbell, h]

/-- R303: a word whose ADD the queue does not take halts the queue, and its RESTART is not obeyed. -/
theorem State.doorbell_refused (hq : s.doorbellQueue fn q = some x) (hw : w.toNat % 2 ^ 17 ≤ 65536)
    (hadd : x.add (w.toNat % 2 ^ 17) = none) : s.doorbell fn q w = s.haltEvent x 0x20 := by
  simp only [State.doorbell, hq, hadd, if_neg (Nat.not_lt.2 hw)]

/-- R303, R304: a word that the queue takes changes the queue alone, unless completion entries wait for the room that it makes. -/
theorem State.doorbell_taken (hq : s.doorbellQueue fn q = some x) (hw : w.toNat % 2 ^ 17 ≤ 65536)
    (hadd : x.add (w.toNat % 2 ^ 17) = some y) (hnone : x.type ≠ .cpl ∨ x.waitingCpl = []) :
    s.doorbell fn q w = s.modQueue q (fun _ => y.resumed w) := by
  obtain ⟨htype, hwaiting, -⟩ := Queue.add_keeps hadd
  obtain ⟨htype', hwaiting'⟩ := y.resumed_keeps w
  have hword : s.doorbell fn q w = if (y.resumed w).type = .cpl then
      (s.modQueue q (fun _ => y.resumed w)).drainCpl q (y.resumed w).waitingCpl.length else s.modQueue q (fun _ => y.resumed w) := by
    simp only [State.doorbell, hq, hadd, if_neg (Nat.not_lt.2 hw)]
    rfl
  rw [hword, htype', hwaiting', htype, hwaiting]
  rcases hnone with hother | hempty
  · exact if_neg hother
  · rw [hempty]
    exact ite_self _

end Reached

/-! ### The statement -/

/-- Settles O26: the word reaches no queue, is refused, or changes its queue as ADD, RESTART and SKIP say. -/
theorem doorbells : Obligations.Doorbells := by
  unfold Obligations.Doorbells
  refine ⟨fun fn q v x y s hq hv hplain hadd ht => congrArg Host.Outcome.next ?add,
    fun fn q v x s hq hv hplain ht hempty hfill => congrArg Host.Outcome.next ?consume,
    fun fn q v x s hq hv ht hfull => congrArg Host.Outcome.next (State.doorbell_refused (s := s.quiet) hq hv (Queue.add_overflow ht hfull)),
    fun fn q v x y s hq hv hrestart hadd ht hhalted => congrArg Host.Outcome.next ?restart,
    fun fn q v s hq => ?unreached⟩
  case add =>
    rw [State.doorbell_taken (s := s.quiet) hq hv hadd (Or.inl ht), Queue.resumed_plain hplain, Queue.add_entries ht hadd]
  case consume =>
    rw [State.doorbell_taken (s := s.quiet) hq hv (Queue.add_consumed ht hfill) (Or.inr hempty), Queue.resumed_plain hplain]
  case restart =>
    obtain ⟨-, -, hstill⟩ := Queue.add_keeps hadd
    rw [State.doorbell_taken (s := s.quiet) hq hv hadd (Or.inl ht), Queue.resumed_restart hrestart,
      Queue.restart_halted _ (hstill.trans hhalted)]
  case unreached =>
    have hlogged := State.doorbell_unreached (s := s.quiet) (w := v) hq
    exact ⟨congrArg Host.Outcome.next hlogged, congrArg Host.Outcome.next hlogged⟩

end Sys2Proof.Machine

/-! SUPPORT. QUEUE_CREATE and QUEUE_DESTROY (R299, R302, R424). -/

namespace Sys2Proof.Machine

/-! ### The lowest free id (R299) -/

/-- The search from `k` on finds the first id that no queue has. -/
theorem freeQueueId_eq {used : List Nat} {fuel k n : Nat} (hfree : n ∉ used) (hbelow : ∀ j, k ≤ j → j < n → j ∈ used) (hk : k ≤ n)
    (hfuel : n < k + fuel) (hn : n < 2 ^ 20) : freeQueueId used fuel k = some n := by
  induction fuel generalizing k with
  | zero => omega
  | succ fuel ih =>
    rcases Nat.eq_or_lt_of_le hk with rfl | hlt
    · simp only [freeQueueId, List.contains_iff_mem, hfree, hn, if_false, if_true]
    · simp only [freeQueueId, List.contains_iff_mem, hbelow k (Nat.le_refl k) hlt, if_true]
      exact ih (fun j hj => hbelow j (Nat.le_of_succ_le hj)) hlt (by omega)

/-- As many ids are searched as there are queues, and one more, so the lowest free one is among them. -/
theorem freeQueueId_lowest {used : List Nat} {n : Nat} (hfree : n ∉ used) (hbelow : ∀ j < n, j ∈ used) (hn : n < 2 ^ 20) :
    freeQueueId used (used.length + 1) 0 = some n := by
  have hlen : (List.range n).length ≤ used.length :=
    List.nodup_range.length_le_of_subset (fun j hj => hbelow j (List.mem_range.1 hj))
  rw [List.length_range] at hlen
  exact freeQueueId_eq hfree (fun j _ => hbelow j) (Nat.zero_le n) (by omega) hn

/-! ### Requests whose checks hold (R302, R424) -/

/-- R424: the context that a creation enters, under an id: a ROP queue without a time-out of its own has 1,000 µs. -/
def Queue.entered (q : Queue) (n : Nat) (ty : QType) : Queue :=
  { q with id := n, timeoutUs := if ty = .rop && q.timeoutUs = 0 then 1000 else q.timeoutUs }

/-- R302, R424: the checks of QUEUE_CREATE on its fields. -/
structure State.AdmitsQueue (s : State) (r : Req) (p : Nat) (ty : QType) : Prop where
  type : qtypeOf (r.f 1 1) = some ty
  log2 : r.f 2 1 ≤ 15
  flags : r.f 3 1 ≤ 3
  zeros : r.zero 22 24 = true
  fields : s.queueFieldsOk (parseQueue r 0 p ty) = true

section Queues

variable {s : State} {fn : Fin 9} {slot : Fin 4} {p n : Nat} {ty : QType} {q : Queue}

theorem State.Reaches.exec_queueCreate (h : s.Reaches fn slot 0x0403 p) (hl : (s.pen p).state.live = true)
    (hc : s.AdmitsQueue (s.reqIn fn slot) p ty) (hid : freeQueueId (s.qe.queues.map Queue.id) (s.qe.queues.length + 1) 0 = some n) :
    exec (.queueCreate fn slot) s = .next ((((s.taken fn slot).modQe (fun e => { e with
      queues := e.queues ++ [(parseQueue (s.reqIn fn slot) 0 p ty).entered n ty] })).answer (slotIndex fn slot) stOk (leBytes 4 n)).settleRound) := by
  refine congrArg Host.Outcome.next ((h.serve_live hl (fun _ _ => rfl)).trans ?_)
  simp only [hc.type, Nat.not_lt.2 hc.log2, Nat.not_lt.2 hc.flags, hc.zeros, State.taken_queueFieldsOk, hc.fields, State.taken_qe, hid,
    decide_false, Bool.not_true, Bool.or_self, Bool.false_eq_true, if_false, Answer.finish_reply]
  rfl

/-- R424: no ring of another type names the CPL queue. -/
theorem State.cplNamed_eq_false (h : q.type = .cpl → ∀ x ∈ s.qe.queues, x.id ≠ n → x.type ≠ .cpl → x.cplQid.toNat ≠ n) :
    (decide (q.type = .cpl) && s.qe.queues.any (fun x => x.id != n && x.type != .cpl && decide (x.cplQid.toNat = n))) = false := by
  simpa only [Bool.and_eq_false_imp, decide_eq_true_eq, List.any_eq_false, Bool.and_eq_true, bne_iff_ne, not_and, and_imp] using h

theorem State.Reaches.exec_queueDestroy (h : s.Reaches fn slot 0x0404 p) (hl : (s.pen p).state.live = true)
    (hz : (s.reqIn fn slot).zero 1 4 = true) (hq : s.queue? ((s.reqIn fn slot).f 4 4) = some q) (hown : q.pen = p) (halive : q.dying = false)
    (hunnamed : q.type = .cpl → ∀ x ∈ s.qe.queues, x.id ≠ (s.reqIn fn slot).f 4 4 → x.type ≠ .cpl →
      x.cplQid.toNat ≠ (s.reqIn fn slot).f 4 4) :
    exec (.queueDestroy fn slot) s = .next ((((((s.taken fn slot).modQueue ((s.reqIn fn slot).f 4 4) (fun x => { x with
      dying := true })).closeStreamsOf (· == (s.reqIn fn slot).f 4 4)).sweepQueues.makeAllReady).answer (slotIndex fn slot) stOk []).settleRound) := by
  have hforeign : (q.pen != p || q.dying) = false := by rw [hown, halive, bne_self_eq_false, Bool.or_self]
  refine congrArg Host.Outcome.next ((h.serve_live hl (fun _ _ => rfl)).trans ?_)
  simp only [hz, State.taken_queueOpt, hq, hforeign, State.taken_qe, State.cplNamed_eq_false hunnamed,
    Bool.not_true, Bool.false_eq_true, if_false, Answer.finish_reply]

end Queues

/-! ### The statement -/

/-- Settles O32: a creation whose fields pass takes the lowest free id, and a destruction of a queue that nothing names sweeps it. -/
theorem queueCommands : Obligations.QueueCommands := by
  unfold Obligations.QueueCommands
  refine ⟨fun fn slot p n ty s hwaits => ?create, fun fn slot p q s hwaits => ?destroy⟩
  case create =>
    intro r q hpen hp hf hlive htype hlog2 hflags hzeros hfields hn hfree hbelow
    have hid : freeQueueId (s.qe.queues.map Queue.id) (s.qe.queues.length + 1) 0 = some n := by
      rw [← List.length_map (f := Queue.id)]
      exact freeQueueId_lowest (by simpa using hfree) (by simpa using hbelow) hn
    have hreaches : s.Reaches fn slot 0x0403 p := ⟨hwaits, hpen, hp, hf⟩
    exact ⟨hreaches.exec_queueCreate hlive ⟨htype, hlog2, hflags, hzeros, hfields⟩ hid, rfl, rfl, rfl, rfl, rfl⟩
  case destroy =>
    intro r hpen hp hf hlive hzeros hqueue hown halive hunnamed
    have hreaches : s.Reaches fn slot 0x0404 p := ⟨hwaits, hpen, hp, hf⟩
    exact hreaches.exec_queueDestroy hlive hzeros hqueue hown halive hunnamed

end Sys2Proof.Machine

/-! SUPPORT. How a pen's drain and its wipe end (R355, R357, R360): what the wipe leaves of its near pages and of its queues. -/

namespace Sys2Proof.Machine

/-! ### Near pages that have been zeroed (R6, R360) -/

/-- A line lies in one near page. -/
theorem lineOf_div_pageBytes (a : Nat) : lineOf a / pageBytes = a / pageBytes := by
  unfold lineOf pageBytes
  omega

/-- A key that a filter keeps no cell of holds the default. -/
theorem cellGet_filter {α : Type} {d : α} {f : Nat × α → Bool} {a : Nat} (h : ∀ v, f (a, v) = false) (m : List (Nat × α)) :
    cellGet d (m.filter f) a = d := by
  induction m with
  | nil => rfl
  | cons c m ih =>
    obtain ⟨k, v⟩ := c
    by_cases hf : f (k, v) = true
    · have hk : k ≠ a := fun e => Bool.false_ne_true ((h v).symm.trans (e ▸ hf))
      rw [List.filter_cons_of_pos hf, cellGet, if_neg hk, ih]
    · rw [List.filter_cons_of_neg hf, ih]

/-- R6: an address lies in an indeterminate range. -/
def LooseAt (l : List Loose) (a : Nat) : Prop := ∃ x ∈ l, x.lo ≤ a ∧ a < x.hi

/-- Cutting a range leaves no address of it indeterminate, and makes no other so. -/
theorem looseAt_cutLoose {l : List Loose} {lo n a : Nat} (h : LooseAt (cutLoose l lo n) a) :
    LooseAt l a ∧ ¬ (lo ≤ a ∧ a < lo + n) := by
  obtain ⟨y, hy, hlo, hhi⟩ := h
  obtain ⟨x, hx, hy⟩ := List.mem_flatMap.1 hy
  have hpiece : (x.lo ≤ a ∧ a < x.hi) ∧ ¬ (lo ≤ a ∧ a < lo + n) := by
    split at hy
    next hapart =>
      obtain rfl := List.mem_singleton.1 hy
      rw [Bool.or_eq_true, decide_eq_true_eq, decide_eq_true_eq] at hapart
      omega
    next hmeets =>
      rw [Bool.or_eq_true, decide_eq_true_eq, decide_eq_true_eq] at hmeets
      rcases List.mem_append.1 hy with hy | hy
      all_goals
        obtain ⟨-, hy⟩ := List.mem_ite_nil_right.1 hy
        obtain rfl := List.mem_singleton.1 hy
        dsimp only at hlo hhi
        omega
  exact ⟨⟨x, hx, hpiece.1⟩, hpiece.2⟩

/-- R360: no address of a page that is cut stays indeterminate. -/
theorem looseAt_cutPages {pages : List Nat} {a : Nat} {l : List Loose}
    (h : LooseAt (pages.foldl (fun l p => cutLoose l (p * pageBytes) pageBytes) l) a) : LooseAt l a ∧ a / pageBytes ∉ pages := by
  induction pages generalizing l with
  | nil => exact ⟨h, List.not_mem_nil⟩
  | cons p pages ih =>
    obtain ⟨hcut, hrest⟩ := ih h
    obtain ⟨hl, hp⟩ := looseAt_cutLoose hcut
    refine ⟨hl, fun hmem => ?_⟩
    rcases List.mem_cons.1 hmem with rfl | hmem
    · exact hp (by unfold pageBytes; omega)
    · exact hrest hmem

/-! What zeroing leaves of each field of near pasture. -/

theorem State.zeroPages_mem (s : State) (pages : List Nat) :
    (s.zeroPages pages).np.mem = s.np.mem.filter (fun c => !(pages.contains (c.1 / pageBytes))) := rfl

theorem State.zeroPages_poison (s : State) (pages : List Nat) :
    (s.zeroPages pages).np.poison = s.np.poison.filter (fun l => !(pages.contains (l / pageBytes))) := rfl

theorem State.zeroPages_loose (s : State) (pages : List Nat) :
    (s.zeroPages pages).np.loose = pages.foldl (fun l p => cutLoose l (p * pageBytes) pageBytes) s.np.loose := rfl

theorem State.zeroPages_wc (s : State) (pages : List Nat) :
    (s.zeroPages pages).np.wc = s.np.wc.filter (fun e => !(pages.contains (e.line / pageBytes))) := rfl

theorem State.zeroPages_waiting (s : State) (pages : List Nat) :
    (s.zeroPages pages).np.waiting = s.np.waiting.filter (fun r => !(pages.contains (r.kind.addr / pageBytes))) := rfl

section Zeroed

variable {s : State} {pages : List Nat} {a : Nat}

/-- R360: no line of the pages holds poison. -/
theorem State.zeroPages_unpoisoned (ha : a / pageBytes ∈ pages) : lineOf a ∉ (s.zeroPages pages).np.poison := by
  simp [State.zeroPages_poison, lineOf_div_pageBytes, ha]

/-- R360: no entry of the write-combining buffer is open on the pages. -/
theorem State.zeroPages_openByte (ha : a / pageBytes ∈ pages) : (s.zeroPages pages).np.openByte a = none := by
  have hclosed : (s.zeroPages pages).np.wc.find? (fun e => e.line = lineOf a) = none := by
    refine List.find?_eq_none.2 (fun e he hline => ?_)
    rw [State.zeroPages_wc, List.mem_filter, of_decide_eq_true hline, lineOf_div_pageBytes, List.contains_iff_mem.2 ha] at he
    exact Bool.false_ne_true he.2
  rw [NearMem.openByte, hclosed, Option.bind_none]

/-- A byte for which no request that waits holds a value. -/
theorem NearMem.pendingByte_eq_none {n : NearMem} (h : ∀ r ∈ n.waiting, r.kind.byteAt a = none) : n.pendingByte a = none := by
  refine List.foldlRecOn n.waiting _ (motive := (· = none)) rfl (fun b hb r hr => ?_)
  rw [hb, h r hr, Option.or_none]

/-- The writes that wait on the pages are gone, and those of other pages do not reach into them. -/
theorem State.zeroPages_pendingByte (hw : ∀ r ∈ s.np.waiting, r.kind.addr / pageBytes ∈ pages ∨ r.kind.byteAt a = none) :
    (s.zeroPages pages).np.pendingByte a = none := by
  refine NearMem.pendingByte_eq_none (fun r hr => ?_)
  rw [State.zeroPages_waiting, List.mem_filter, Bool.not_eq_true', ← Bool.not_eq_true, List.contains_iff_mem] at hr
  exact (hw r hr.1).resolve_left hr.2

/-- R360: memory holds zero on the pages, and nothing indeterminate. -/
theorem State.zeroPages_memByte (ha : a / pageBytes ∈ pages) : (s.zeroPages pages).np.memByte a = 0 := by
  have hfixed : (s.zeroPages pages).np.loose.find? (fun x => x.lo ≤ a && a < x.hi) = none := by
    refine List.find?_eq_none.2 (fun x hx hin => ?_)
    obtain ⟨hlo, hhi⟩ := Bool.and_eq_true_iff.1 hin
    have hloose : LooseAt (s.zeroPages pages).np.loose a := ⟨x, hx, of_decide_eq_true hlo, of_decide_eq_true hhi⟩
    exact (looseAt_cutPages hloose).2 ha
  rw [NearMem.memByte, hfixed]
  change cellGet 0 (s.zeroPages pages).np.mem a = 0
  rw [State.zeroPages_mem]
  exact cellGet_filter (fun v => by simpa using ha) s.np.mem

/-- R360: the pages read zero. -/
theorem State.zeroPages_npByte (ha : a / pageBytes ∈ pages)
    (hw : ∀ r ∈ s.np.waiting, r.kind.addr / pageBytes ∈ pages ∨ r.kind.byteAt a = none) : (s.zeroPages pages).npByte a = 0 := by
  rw [State.npByte, State.zeroPages_openByte ha, State.zeroPages_pendingByte hw, State.zeroPages_memByte ha]

end Zeroed

/-! ### The wipe (R360) -/

/-- R229: nothing is tried again when no allocation waits. -/
theorem State.retryAllocs_idle {s : State} (h : ∀ x ∈ s.pens.flatMap Pen.tensors, x.allocWait = false) : s.retryAllocs = s := by
  have hnone : (s.pens.flatMap Pen.tensors).filter Tensor.allocWait = [] :=
    List.filter_eq_nil_iff.2 (fun x hx => Bool.eq_false_iff.1 (h x hx))
  rw [State.retryAllocs, hnone]
  rfl

/-- R229: no tensor of another pen waits for room. -/
def State.OthersRoomed (s : State) (pen : Nat) : Prop := ∀ q, q ≠ pen → ∀ x ∈ (s.pen q).tensors, x.allocWait = false

/-- R229: with the pen's own tensors gone, no allocation waits. -/
theorem State.OthersRoomed.emptied {s : State} {pen : Nat} (h : s.OthersRoomed pen) :
    ∀ x ∈ (s.pens.modify pen (fun _ => .vacant)).flatMap Pen.tensors, x.allocWait = false := by
  intro x hx
  obtain ⟨y, hy, hx⟩ := List.mem_flatMap.1 hx
  obtain ⟨q, hq, rfl⟩ := List.mem_iff_getElem.1 hy
  rw [List.getElem_modify] at hx
  split at hx
  next => exact absurd hx List.not_mem_nil
  next hne =>
    refine h q (Ne.symm hne) x ?_
    rwa [State.pen, List.getD_eq_getElem?_getD, List.getElem?_eq_getElem (List.length_modify .. ▸ hq), Option.getD_some]

/-- R360: what the wipe leaves of near pasture, of the pens and of the queues before allocations are tried again. -/
theorem State.wipePen_eq_retryAllocs (s : State) (pen : Nat) : ∃ u : State, s.wipePen pen = u.retryAllocs ∧
    u.np = (s.zeroPages (s.pen pen).nearPages).np ∧ u.pens = s.pens.modify pen (fun _ => .vacant) ∧
    u.qe.queues = s.qe.queues.filter (fun q => q.pen != pen) := by
  let zeroed := s.zeroPages (s.pen pen).nearPages
  have hfar : Keeps [.health, .out] zeroed (zeroed.forAll ((s.pen pen).tensors.flatMap Tensor.farCopies) State.zeroFar) :=
    State.forAll_keeps Keeps.rfl (fun _ _ => State.zeroFar_keeps)
  have hnp := hfar.only.same .np (by decide)
  have hpens := hfar.only.same .pens (by decide)
  have hqe := hfar.only.same .qe (by decide)
  refine ⟨_, rfl, ?_, ?_, ?_⟩
  · simp only [State.modPen_np, State.modQe_np, State.modComp_np, State.modDrover_np]
    exact hnp
  · simp only [State.modPen_pens, State.modQe_pens, State.modComp_pens, State.modDrover_pens]
    exact congrArg (List.modify · pen _) hpens
  · simp only [State.modPen_qe, State.modQe_qe, State.modComp_qe, State.modDrover_qe]
    exact congrArg (fun e : QueueEngine => e.queues.filter (fun q : Queue => q.pen != pen)) hqe

/-- The same of the whole wipe, when no other pen waits for room. -/
theorem State.OthersRoomed.wipePen {s : State} {pen : Nat} (h : s.OthersRoomed pen) :
    (s.wipePen pen).np = (s.zeroPages (s.pen pen).nearPages).np ∧ (s.wipePen pen).pens = s.pens.modify pen (fun _ => .vacant) ∧
    (s.wipePen pen).qe.queues = s.qe.queues.filter (fun q => q.pen != pen) := by
  obtain ⟨u, hwipe, hnp, hpens, hqueues⟩ := s.wipePen_eq_retryAllocs pen
  rw [hwipe, State.retryAllocs_idle (hpens ▸ h.emptied)]
  exact ⟨hnp, hpens, hqueues⟩

/-- R360: the pen is as at reset. -/
theorem State.OthersRoomed.wipePen_pen {s : State} {pen : Nat} (h : s.OthersRoomed pen) : (s.wipePen pen).pen pen = .vacant := by
  obtain ⟨-, hpens, -⟩ := h.wipePen
  rw [State.pen, hpens, List.getD_eq_getElem?_getD, List.getElem?_modify_eq]
  cases s.pens[pen]? <;> rfl

/-- R321, R360, R368: nothing of the pen is in flight any more. -/
structure State.WipeEnds (s : State) (p : Fin 8) : Prop where
  state : (s.pen p).state = .wiping
  rops : ∀ r ∈ s.qe.rops, r.pen ≠ p
  streams : ∀ x ∈ s.video.streams, x.pen ≠ p

/-- R266, R275, R360: the wipe is done once near pasture holds none of its writes. -/
theorem State.WipeEnds.exec_wipeComplete {s : State} {p : Fin 8} (h : s.WipeEnds p) : exec (.wipeComplete p) s = .next
    (if (s.pen p).nearPages.all (fun n => !(s.npHeld .wipe (n * pageBytes) pageBytes)) = true then s.quiet.wipePen p else s.quiet) := by
  have hrops : s.qe.rops.all (fun r => r.pen != p) = true := by simpa using h.rops
  have hstreams : s.video.streams.all (fun x => x.pen != p) = true := by simpa using h.streams
  change execWipeComplete p s = _
  simp only [execWipeComplete, State.quiet_pen, State.quiet_qe, State.quiet_video, State.quiet_npHeld, h.state, hrops, hstreams,
    decide_true, Bool.true_and, done]
  exact (apply_ite Host.Outcome.next ..).symm

/-! ### The drain (R355, R357) -/

theorem exec_quiesceDrainComplete {s : State} {p : Fin 8} (hstate : (s.pen p).state = .quiescing) (hdrained : s.penDrained p = true)
    (hruns : s.boot.shepherdRuns = true) : exec (.quiesceDrainComplete p) s =
      .next (((s.quiet.modPen p (fun x => { x with state := .quiesced })).droverQuiesce p).answerPen 0x0902 p stOk) := by
  change execQuiesceDrainComplete p s = _
  simp only [execQuiesceDrainComplete, State.quiet_pen, State.quiet_penDrained, State.quiet_boot, hstate, hdrained, hruns,
    decide_true, Bool.and_self, if_true, done]

theorem exec_quiesceTimeout {s : State} {p : Fin 8} (hstate : (s.pen p).state = .quiescing) :
    exec (.quiesceTimeout p) s = .next ((s.quiet.answerPen 0x0902 p stTimeout).penFault p 0x85 0).retryAllocs := by
  change execQuiesceTimeout p s = _
  simp only [execQuiesceTimeout, State.quiet_pen, hstate, done]

/-! ### The statement -/

/-- Settles O60: a drain ends or times out, and a wipe that nothing holds leaves nothing of its pen. -/
theorem penEnds : Obligations.PenEnds := by
  unfold Obligations.PenEnds
  refine ⟨fun p s hstate hdrained hruns => exec_quiesceDrainComplete hstate hdrained hruns,
    fun p s hstate => exec_quiesceTimeout hstate,
    fun p s hstate hrops hstreams => ?wipe⟩
  have hends : s.WipeEnds p := ⟨hstate, hrops, hstreams⟩
  refine ⟨fun hfree hothers => ?wiped, fun ⟨n, hn, hheld⟩ => ?held⟩
  case wiped =>
    have hroomed : s.quiet.OthersRoomed p := hothers
    have hpen := hroomed.wipePen_pen
    obtain ⟨hnp, -, hqueues⟩ := hroomed.wipePen
    refine ⟨s.quiet.wipePen p, ?done, congrArg Pen.state hpen, congrArg Pen.pages hpen, congrArg Pen.tensors hpen, fun q hq => ?queue,
      fun a ha hwaiting => ⟨?zero, ?clean⟩⟩
    case done => rw [hends.exec_wipeComplete, if_pos (by simpa using hfree)]
    case queue =>
      rw [hqueues, List.mem_filter, bne_iff_ne] at hq
      exact hq.2
    case zero =>
      have hbyte : (s.quiet.wipePen p).npByte a = (s.quiet.zeroPages (s.pen p).nearPages).npByte a := by
        rw [State.npByte, State.npByte, hnp, State.quiet_pen]
      exact hbyte.trans (State.zeroPages_npByte ha hwaiting)
    case clean =>
      rw [hnp]
      exact State.zeroPages_unpoisoned ha
  case held =>
    have hall : ¬ (s.pen p).nearPages.all (fun n => !(s.npHeld .wipe (n * pageBytes) pageBytes)) = true := fun hfree => by
      have hn := List.all_eq_true.1 hfree n hn
      rw [hheld] at hn
      exact Bool.false_ne_true hn
    rw [hends.exec_wipeComplete, if_neg hall]

end Sys2Proof.Machine

/-! SUPPORT. Time across devices (R335 to R339): one tick of the device time, what a TIME_SYNC does to a follower, and what the packets
of the time tree leave of the time unit. -/

namespace Sys2Proof.Machine

/-! ### One tick (R335, R337) -/

theorem idleTick_live {s : State} (h : s.transitLive = true) : idleTick s = s.quiet.modTime TimeUnit.step := if_pos h

theorem idleTick_stopped {s : State} (h : s.transitLive = false) :
    idleTick s = s.quiet.modTime (fun t => { t with clock := t.clock + 1 }) := if_neg (ne_true_of_eq_false h)

/-- R337: without a correction and without a carried fraction a tick is one whole nanosecond. -/
theorem TimeUnit.step_steady {t : TimeUnit} (hrate : t.ratePpb = 0) (hfrac : t.frac = 0) : t.step.now = t.now + 1 ∧ t.step.frac = 0 := by
  have htotal : t.frac + 1000000000 + (if t.slewLeft = some 0 then 0 else t.ratePpb) = 1000000000 := by
    rw [hrate, hfrac, ite_self, Int.zero_add, Int.add_zero]
  unfold TimeUnit.step
  dsimp only
  rw [htotal]
  exact ⟨rfl, rfl⟩

/-! ### What packets leave of the time unit -/

@[simp] theorem State.sendDown_time (s : State) (ptype : Nat) (op : List Byte) : (s.sendDown ptype op).time = s.time :=
  State.sendDown_keeps.only.same .time (by decide)

@[simp] theorem State.sendEpochReq_time (s : State) : s.sendEpochReq.time = s.time := State.sendEpochReq_keeps.only.same .time (by decide)

/-! ### A TIME_SYNC at a follower (R337 to R339, Table 13.5) -/

/-- R339: the sixteenth offset in a row below 1 µs synchronises. -/
theorem TimeUnit.judge_synced (t : TimeUnit) (off : Int) : (t.judge off).synced = true ↔ off.natAbs < 1000 ∧ 15 ≤ t.goodSyncs := by
  unfold TimeUnit.judge
  dsimp only
  rw [decide_eq_true_eq]
  split <;> omega

section Follow

variable {t : TimeUnit} {port master epoch path arrived : Nat}

/-- R336: the offset of a TIME_SYNC: the master's time at its arrival, less the device time then. -/
def syncOffset (master path arrived : Nat) : Int := (master + path : Nat) - (arrived : Int)

/-- Table 13.5: what a follower takes of every TIME_SYNC of its parent. -/
def TimeUnit.heard (t : TimeUnit) (port : Nat) (off : Int) : TimeUnit :=
  { t with role := 2, parentPort := port, offset := clampInt 8388607 off, measured := off, slewLeft := none }

theorem TimeUnit.follow_epoch (h : epoch = t.epoch.toNat) : t.follow port master epoch path arrived =
    { (t.heard port (syncOffset master path arrived)).slew (syncOffset master path arrived) with
      epochReq := t.epochReq || 10000000 < (syncOffset master path arrived).natAbs } := if_pos h

theorem TimeUnit.follow_step (hne : epoch ≠ t.epoch.toNat)
    (hstep : t.epoch = 0 ∨ t.epochReq = true ∨ 10000000 < (syncOffset master path arrived).natAbs) :
    t.follow port master epoch path arrived =
      { t.heard port (syncOffset master path arrived) with
        now := BitVec.ofNat 64 (master + path + (t.now.toNat - arrived)), epoch := BitVec.ofNat 16 epoch, ratePpb := 0, frac := 0
        goodSyncs := 0, synced := false, epochReq := false } := by
  have hchecks : (t.epoch = 0 || t.epochReq || 10000000 < (syncOffset master path arrived).natAbs) = true := by
    simpa [or_assoc] using hstep
  exact (if_neg hne).trans (if_pos hchecks)

theorem TimeUnit.follow_adopt (hne : epoch ≠ t.epoch.toNat) (hepoch : t.epoch ≠ 0) (hreq : t.epochReq = false)
    (hoff : (syncOffset master path arrived).natAbs ≤ 10000000) : t.follow port master epoch path arrived =
      { t.heard port (syncOffset master path arrived) with epoch := BitVec.ofNat 16 epoch, goodSyncs := 0 }.slew
        (syncOffset master path arrived) := by
  have hchecks : ¬ (t.epoch = 0 || t.epochReq || 10000000 < (syncOffset master path arrived).natAbs) = true := by
    simpa [hreq] using And.intro hepoch hoff
  exact (if_neg hne).trans (if_neg hchecks)

/-- R337: every TIME_SYNC of the parent makes its port the parent's and records the offset. -/
theorem TimeUnit.follow_heard (t : TimeUnit) (port master epoch path arrived : Nat) :
    (t.follow port master epoch path arrived).parentPort = port ∧ (t.follow port master epoch path arrived).role = 2 ∧
      (t.follow port master epoch path arrived).offset = clampInt 8388607 (syncOffset master path arrived) := by
  unfold TimeUnit.follow
  dsimp only
  split
  · exact ⟨rfl, rfl, rfl⟩
  · split <;> exact ⟨rfl, rfl, rfl⟩

end Follow

/-! ### The packets of the tree (R336 to R338) -/

section Tree

variable {s : State} {inp : Nat} {p : Packet}

theorem exec_timeSync_parent (hhead : s.mgmtPacket 0x20 = some (inp, p)) (hmaster : s.isMaster = false)
    (hparent : s.parentPort = some inp) : ∃ t, exec .timeSync s = .next t ∧
      t.time = s.time.follow inp (leField p 8 8) (leField p 16 2) (leField p 20 8 + (s.port inp).delay) (s.arrival p) := by
  have hcheck : ((s.quiet.takePacket (inp, p)).isMaster || (s.quiet.takePacket (inp, p)).parentPort != some inp) = false := by
    change (s.isMaster || s.parentPort != some inp) = false
    rw [hmaster, hparent, bne_self_eq_false, Bool.or_self]
  change ∃ t, execTimeSync s = .next t ∧ _
  simp only [execTimeSync, State.quiet_mgmtPacket, hhead, hcheck, Bool.false_eq_true, if_false]
  refine ⟨_, rfl, ?_⟩
  rw [State.sendDown_time]
  split
  · exact State.sendEpochReq_time _
  · rfl

/-- R336: a TIME_SYNC at the master, or from another port than the parent's, is dropped. -/
theorem exec_timeSync_drop (hhead : s.mgmtPacket 0x20 = some (inp, p)) (hdrop : s.isMaster = true ∨ s.parentPort ≠ some inp) :
    exec .timeSync s = .next (s.quiet.takePacket (inp, p)) := by
  have hcheck : ((s.quiet.takePacket (inp, p)).isMaster || (s.quiet.takePacket (inp, p)).parentPort != some inp) = true := by
    change (s.isMaster || s.parentPort != some inp) = true
    simpa using hdrop
  change execTimeSync s = _
  simp only [execTimeSync, State.quiet_mgmtPacket, hhead, hcheck, if_true, done]

theorem exec_timeSyncPeriod (hlive : s.transitLive = true) (hmaster : s.isMaster = true) : exec .timeSyncPeriod s =
    .next ((s.quiet.sendDown 0x20 (syncOp s.time.now.toNat s.time.epoch.toNat s.time.syncNumber.toNat 0)).modTime
      (fun x => { x with syncNumber := x.syncNumber + 1 })) := by
  change execTimeSyncPeriod s = _
  simp only [execTimeSyncPeriod, State.quiet_transitLive, State.quiet_isMaster, State.quiet_time, hlive, hmaster, Bool.and_self, if_true, done]

theorem State.sendDown_alone (h : s.childPorts = []) (ptype : Nat) (op : List Byte) : s.sendDown ptype op = s.spend 8 := by
  rw [State.sendDown, State.sendOn, h]
  rfl

theorem exec_delayReqPeriod {port : Fin 8} (h : (s.port port).lstate = .up) :
    exec (.delayReqPeriod port) s = .next (s.quiet.sendHop port 0x21 (leBytes 8 s.time.now.toNat)) :=
  congrArg Host.Outcome.next (if_pos (beq_iff_eq.2 h))

theorem exec_delayReq (hhead : s.mgmtPacket 0x21 = some (inp, p)) : exec .delayReq s =
    .next ((s.quiet.takePacket (inp, p)).sendHop inp 0x22
      (leBytes 8 (leField p 8 8) ++ leBytes 8 (s.arrival p) ++ leBytes 8 s.time.now.toNat)) := by
  change execDelayReq s = _
  simp only [execDelayReq, State.quiet_mgmtPacket, hhead, State.quiet_arrival, State.quiet_time, done]

theorem exec_delayResp (hhead : s.mgmtPacket 0x22 = some (inp, p)) : exec .delayResp s =
    .next ((s.quiet.takePacket (inp, p)).modPort inp (fun x => { x with
      delay := (s.arrival p - leField p 8 8 - (leField p 24 8 - leField p 16 8)) / 2 })) := by
  change execDelayResp s = _
  simp only [execDelayResp, State.quiet_mgmtPacket, hhead, State.quiet_arrival, done]

theorem exec_holdover (s : State) :
    exec .holdover s = .next (s.quiet.modTime (fun t => if t.role = 2 then { t with role := 3 } else t)) := rfl

theorem exec_epochReq {x : Nat × Packet} (hhead : s.mgmtPacket 0x23 = some x) : exec .epochReq s =
    .next (if s.isMaster then (s.quiet.takePacket x).modTime TimeUnit.newEpoch else s.quiet.takePacket x) := by
  change execEpochReq s = _
  simp only [execEpochReq, State.quiet_mgmtPacket, hhead]
  rfl

theorem exec_timeNowRead (s : State) :
    exec .timeNowRead s = .next (s.quiet.latchTime.emit (.readData (leBytes 4 s.time.now.toNat) false)) := rfl

end Tree

/-! ### The statements -/

/-- Settles O2: TIME runs with the transit plane, and without a correction a tick adds one. -/
theorem idleStepIsATick : Obligations.IdleStepIsATick := by
  unfold Obligations.IdleStepIsATick
  intro s hidle
  have hstep : step s = .next (idleTick s) := by rw [step, hidle]
  have hruns : (idleTick s).time.clock = s.time.clock + 1 ∧ (idleTick s).out = [] := by
    cases hlive : s.transitLive with
    | true =>
      rw [idleTick_live hlive]
      exact ⟨rfl, rfl⟩
    | false =>
      rw [idleTick_stopped hlive]
      exact ⟨rfl, rfl⟩
  obtain ⟨hclock, hout⟩ := hruns
  refine ⟨idleTick s, hstep, hclock, hout, idleTick_keeps.only, fun hlive hrate hfrac => ?live, fun hstopped => ?stopped⟩
  case live =>
    rw [idleTick_live hlive]
    exact TimeUnit.step_steady hrate hfrac
  case stopped =>
    rw [idleTick_stopped hstopped]
    rfl

/-- Settles O18: what the three cases of a follower's TIME_SYNC make of the time unit, and the master's own period. -/
theorem timeSync : Obligations.TimeSync := by
  unfold Obligations.TimeSync
  refine ⟨fun inp p s hhead hmaster hparent => ?parent, fun inp p s hhead hdrop => exec_timeSync_drop hhead hdrop,
    fun s hlive hmaster => ?period⟩
  case parent =>
    obtain ⟨t, hexec, htime⟩ := exec_timeSync_parent hhead hmaster hparent
    refine ⟨t, hexec, ?_⟩
    intro master off
    obtain ⟨hport, hrole, hoffset⟩ := TimeUnit.follow_heard s.time inp (leField p 8 8) (leField p 16 2)
      (leField p 20 8 + (s.port inp).delay) (s.arrival p)
    refine ⟨htime, htime ▸ hport, htime ▸ hrole, htime ▸ hoffset, fun hsame => ?same, fun hnew hstep => ?step,
      fun hnew hepoch hreq hoff => ?adopt⟩
    case same =>
      rw [TimeUnit.follow_epoch hsame] at htime
      have hsynced : t.time.synced = true ↔ off.natAbs < 1000 ∧ 15 ≤ s.time.goodSyncs := htime ▸ TimeUnit.judge_synced _ off
      refine ⟨htime ▸ rfl, htime ▸ rfl, htime ▸ rfl, fun hfar => ?request, fun hbad => ?bad, fun hgood hrow => hsynced.2 ⟨hgood, hrow⟩⟩
      case request =>
        have hreq : t.time.epochReq = (s.time.epochReq || decide (10000000 < off.natAbs)) := htime ▸ rfl
        rw [hreq, decide_eq_true hfar, Bool.or_true]
      case bad => exact Bool.eq_false_iff.2 (fun h => Nat.not_lt.2 hbad (hsynced.1 h).1)
    case step =>
      rw [TimeUnit.follow_step hnew hstep] at htime
      exact ⟨htime ▸ rfl, htime ▸ rfl, htime ▸ rfl, htime ▸ rfl⟩
    case adopt =>
      rw [TimeUnit.follow_adopt hnew hepoch hreq hoff] at htime
      have hsynced : t.time.synced = true ↔ off.natAbs < 1000 ∧ 15 ≤ 0 := htime ▸ TimeUnit.judge_synced _ off
      exact ⟨htime ▸ rfl, htime ▸ rfl, Bool.eq_false_iff.2 (fun h => absurd (hsynced.1 h).2 (by decide))⟩
  case period =>
    refine ⟨_, exec_timeSyncPeriod hlive hmaster, ?time, fun hnone => ?alone⟩
    case time => rw [State.modTime_time, State.sendDown_time, State.quiet_time]
    case alone => rw [State.sendDown_alone (s := s.quiet) hnone]

/-- Settles O19: each clause is what its packet, its timer or its read does. -/
theorem linkDelaysAndEpochs : Obligations.LinkDelaysAndEpochs := by
  unfold Obligations.LinkDelaysAndEpochs
  refine ⟨fun p s hup => exec_delayReqPeriod hup, fun inp p s hhead => exec_delayReq hhead, fun inp p s hhead => exec_delayResp hhead,
    fun s hrole => ?late, fun s hrole => ?other, fun x s hhead hmaster => ?epoch, fun s => ?read⟩
  case late => rw [exec_holdover, State.modTime, State.quiet_time, if_pos hrole]; rfl
  case other => rw [exec_holdover, State.modTime, State.quiet_time, if_neg hrole]; rfl
  case epoch => exact ⟨_, (exec_epochReq hhead).trans (congrArg Host.Outcome.next (if_pos hmaster)), rfl, rfl⟩
  case read => exact ⟨_, exec_timeNowRead s, rfl, rfl, rfl, (execTimeNowRead_keeps _ rfl).only⟩

end Sys2Proof.Machine

/-! SUPPORT. JOB_SUBMIT, JOB_QUIESCE, JOB_RESUME, JOB_ABORT and CHECKPOINT_DRAIN (R322, R355, R356, R358, R434, R435). -/

namespace Sys2Proof.Machine

section Jobs

variable {s : State} {fn : Fin 9} {slot : Fin 4} {p : Nat}

/-! ### One pen, and the slot of a request -/

theorem State.modPen_pen_same {k : Nat} (f : Pen → Pen) (h : k < s.pens.length) : (s.modPen k f).pen k = f (s.pen k) := by
  simp [State.pen, h]

theorem HostIf.Sound.slotIndex_lt {h : HostIf} (hs : h.Sound) (fn : Fin 9) (slot : Fin 4) : slotIndex fn slot < h.slots.length := by
  obtain ⟨-, hslots⟩ := hs
  rw [hslots, slotIndex]
  split <;> omega

/-- R399: the slot of a request that has been taken is BUSY. -/
theorem State.taken_busy (hs : s.host.Sound) (fn : Fin 9) (slot : Fin 4) :
    ((s.taken fn slot).slotAt (slotIndex fn slot)).state = 1 :=
  congrArg Mailbox.state (State.modSlot_slotAt (s := s.quiet)
    (fun m => { m with go := false, state := 1, taken := m.request }) (hs.slotIndex_lt fn slot))

/-! ### JOB_SUBMIT (R322, R434) -/

/-- Table 13.1: the placement record of a submission. -/
def Req.placementBytes (r : Req) : List Byte := (r.pay.drop 8).take 64

/-- Table 13.1: the placement that a submission carries. -/
def Req.placement (r : Req) : Placement := parsePlacement r.placementBytes

/-- R434: the pen runs the job of a submission. -/
def State.submitted (s : State) (p : Nat) (x : Placement) : State :=
  s.modPen p (fun y => { y with state := .running, jobKey := x.jobKey, placement := some x, jobStatus := 0, drained := false })

/-- R322, R434: the checks of a submission to a pen hold; a job that spans devices has more of them. -/
structure State.AdmitsJob (s : State) (r : Req) (p : Nat) : Prop where
  pen : r.f 0 1 = p
  lt : p < 8
  function : r.fn = 0 ∨ s.boundPen r.fn = some p
  noSession : s.dog.session = none
  ready : (s.pen p).state = .ready
  reserved : r.zero 1 8 = true
  placementOk : s.placementOk r.placementBytes r.placement = true
  generation : r.placement.generation = s.generation r.placement.jobKey
  spans : r.placement.lextent ≠ 0 → (s.pen p).grazing = false ∧ s.boot.stage ≠ 4

/-- R434: a job of this device alone starts; one that spans devices also joins. -/
theorem State.AdmitsJob.jobSubmit {s : State} {r : Req} {p : Nat} (h : s.AdmitsJob r p) : jobSubmit r s =
    .reply (if r.placement.lextent = 0 then s.submitted p r.placement else (s.submitted p r.placement).join p) stOk [] := by
  have hpen : r.f 0 1 % 8 = p := by rw [h.pen, Nat.mod_eq_of_lt h.lt]
  have hsession : ¬ s.dog.session.isSome = true := by simp [h.noSession]
  have hfunction : ¬ (r.fn != 0 && s.boundPen r.fn != some p) = true := by
    rcases h.function with hfn | hbound
    · simp [hfn]
    · simp [hbound]
  have hready : ¬ ((s.pen p).state != .ready) = true := by simp [h.ready]
  have hfields : ¬ (8 ≤ r.f 0 1 || !(r.zero 1 8) || !(s.placementOk r.placementBytes r.placement)) = true := by
    simpa [h.pen, h.reserved, h.placementOk] using h.lt
  have hgrazing : ¬ ((s.pen p).grazing && r.placement.lextent != 0) = true := fun hg => by
    rw [Bool.and_eq_true, bne_iff_ne] at hg
    exact Bool.false_ne_true ((h.spans hg.2).1.symm.trans hg.1)
  have hstage : ¬ (s.boot.stage = 4 && r.placement.lextent != 0) = true := fun hg => by
    rw [Bool.and_eq_true, decide_eq_true_eq, bne_iff_ne] at hg
    exact (h.spans hg.2).2 hg.1
  have hgeneration : ¬ (r.placement.generation != s.generation r.placement.jobKey) = true := by simp [h.generation]
  unfold Machine.jobSubmit
  rw [hpen]
  exact (if_neg hsession).trans ((if_neg hfunction).trans ((if_neg hready).trans ((if_neg hfields).trans ((if_neg hgrazing).trans
    ((if_neg hstage).trans (if_neg hgeneration))))))

theorem exec_jobSubmit (hwaits : s.Waits fn slot 0x0901) (h : (s.taken fn slot).AdmitsJob (s.reqIn fn slot) p) :
    exec (.jobSubmit fn slot) s = .next (((if (s.reqIn fn slot).placement.lextent = 0
        then (s.taken fn slot).submitted p (s.reqIn fn slot).placement
        else ((s.taken fn slot).submitted p (s.reqIn fn slot).placement).join p).answer (slotIndex fn slot) stOk []).settleRound) := by
  refine congrArg Host.Outcome.next ((serve_of_waits hwaits).trans ?_)
  rw [h.jobSubmit, Answer.finish_reply]

/-! ### JOB_QUIESCE, JOB_RESUME and JOB_ABORT (R355, R356, R358) -/

theorem State.Reaches.exec_jobQuiesce (h : s.Reaches fn slot 0x0902 p) (hz : (s.reqIn fn slot).zero 1 8 = true)
    (hstate : (s.pen p).state = .running) : exec (.jobQuiesce fn slot) s =
      .next (((s.taken fn slot).modPen p (fun x => { x with state := .quiescing })).drainPen p).settleRound := by
  refine congrArg Host.Outcome.next ((h.serve (fun _ _ => rfl)).trans ?_)
  simp only [hz, State.taken_pen, hstate, bne_self_eq_false, Bool.not_true, Bool.false_eq_true, if_false, Answer.finish_wait]

theorem State.Reaches.exec_jobResume (h : s.Reaches fn slot 0x0903 p) (hz : (s.reqIn fn slot).zero 1 8 = true)
    (hstate : (s.pen p).state = .quiesced) : exec (.jobResume fn slot) s =
      .next (((((s.taken fn slot).modPen p (fun x => { x with
        state := .running, drained := false, tensors := x.tensors.map (fun y => { y with held := false }) })).prepare p).answer
          (slotIndex fn slot) stOk []).settleRound) := by
  refine congrArg Host.Outcome.next ((h.serve (fun _ _ => rfl)).trans ?_)
  simp only [hz, State.taken_pen, hstate, bne_self_eq_false, Bool.not_true, Bool.false_eq_true, if_false, Answer.finish_reply]

theorem State.Reaches.exec_jobAbort (h : s.Reaches fn slot 0x0905 p) (hz : (s.reqIn fn slot).zero 1 8 = true)
    (hstate : (s.pen p).state.abortable = true) : exec (.jobAbort fn slot) s =
      .next (((((s.taken fn slot).hostAbort p).retryAllocs).answer (slotIndex fn slot) stOk []).settleRound) := by
  refine congrArg Host.Outcome.next ((h.serve (fun _ _ => rfl)).trans ?_)
  simp only [hz, State.taken_pen, hstate, Bool.not_true, Bool.false_eq_true, if_false, Answer.finish_reply]

/-- R355: while its drain runs the pen is QUIESCING and the request keeps its slot. -/
theorem State.drainPen_waits (hs : s.Sound) (hp : p < 8) (fn : Fin 9) (slot : Fin 4) :
    let t := ((s.taken fn slot).modPen p (fun x => { x with state := .quiescing })).drainPen p
    (t.pen p).state = .quiescing ∧ (t.slotAt (slotIndex fn slot)).state = 1 := by
  intro t
  have hkeeps : Keeps [.comp, .health] ((s.taken fn slot).modPen p (fun x => { x with state := .quiescing })) t := State.drainPen_keeps
  have hpens : t.pens = s.pens.modify p (fun x => { x with state := .quiescing }) := hkeeps.only.same .pens (by decide)
  have hhost : t.host = (s.taken fn slot).host := hkeeps.only.same .host (by decide)
  obtain ⟨hlen, -⟩ := hs.pens
  constructor
  · have hpen : t.pen p = { s.pen p with state := .quiescing } :=
      (congrArg (fun l => l.getD p Pen.vacant) hpens).trans (State.modPen_pen_same _ (hlen ▸ hp))
    rw [hpen]
  · rw [State.slotAt, hhost]
    exact State.taken_busy hs.host fn slot

/-! ### CHECKPOINT_DRAIN (R435) -/

/-- R435: what earlier drains held is free. -/
def State.unheld (s : State) (p : Nat) : State :=
  s.modPen p (fun x => { x with tensors := x.tensors.map (fun y => { y with held := false }) })

/-- R435 steps 1 and 2: the tensors are brought near and the pen's entries of the write-combining buffer are flushed. -/
def State.broughtNear (s : State) (p : Nat) (hs : List Nat) : State :=
  ((s.unheld p).forAll hs (fun u h => u.bringNear p h)).flushPen p

/-- R229: the tensor waits for room. -/
def State.stuck (s : State) (h : Nat) : Bool :=
  match s.tensor? h with
  | some y => y.allocWait
  | none => false

theorem State.stuck_eq (s : State) (h : Nat) : s.stuck h = (s.tensor? h).any Tensor.allocWait := by
  unfold State.stuck
  cases s.tensor? h <;> rfl

/-- R435: what a drain whose tensors are all known answers once they are on their way. -/
def State.drainAnswer (t : State) (hs : List Nat) (n : Nat) : Answer :=
  match hs.findIdx? t.stuck with
  | some i => .reply ((t.forAll (hs.filter t.stuck) (fun u h => u.setAllocWait h false)).holdNear hs) stNoResource (leBytes 2 i)
  | none => if (t.firstFar hs).isNone then .reply t stOk (leBytes 2 n) else .wait t

theorem State.drainAnswer_stuck {t : State} {hs : List Nat} {i : Nat} (h : hs.findIdx? t.stuck = some i) (n : Nat) :
    t.drainAnswer hs n =
      .reply ((t.forAll (hs.filter t.stuck) (fun u h => u.setAllocWait h false)).holdNear hs) stNoResource (leBytes 2 i) := by
  rw [State.drainAnswer, h]

theorem State.drainAnswer_roomed {t : State} {hs : List Nat} (h : ∀ x ∈ hs, t.stuck x = false) (n : Nat) :
    t.drainAnswer hs n = if (t.firstFar hs).isNone then .reply t stOk (leBytes 2 n) else .wait t := by
  rw [State.drainAnswer, List.findIdx?_eq_none_iff.2 h]

/-- R435: the checks of a drain hold: its count, its reserved bytes, the pen's state and the tensors that it lists. -/
structure State.Drains (s : State) (fn : Fin 9) (slot : Fin 4) (p : Nat) : Prop extends s.Reaches fn slot 0x0904 p where
  reservedByte : (s.reqIn fn slot).f 1 1 = 0
  positive : 1 ≤ (s.reqIn fn slot).f 2 2
  most : (s.reqIn fn slot).f 2 2 ≤ 1000
  reserved : (s.reqIn fn slot).zero 4 8 = true
  quiesced : (s.pen p).state = .quiesced
  known : ∀ h ∈ drainHandles (s.reqIn fn slot).pay, h / 2 ^ 29 = p ∧ s.live? h = true

theorem State.Drains.exec_checkpointDrain (h : s.Drains fn slot p) : exec (.checkpointDrain fn slot) s =
    .next (((((s.taken fn slot).broughtNear p (drainHandles (s.reqIn fn slot).pay)).drainAnswer (drainHandles (s.reqIn fn slot).pay)
      ((s.reqIn fn slot).f 2 2)).finish (slotIndex fn slot)).settleRound) := by
  have hfields : ((s.reqIn fn slot).f 2 2 = 0 || 1000 < (s.reqIn fn slot).f 2 2 || (s.reqIn fn slot).f 1 1 != 0 ||
      !((s.reqIn fn slot).zero 4 8)) = false := by
    simp [Nat.ne_of_gt h.positive, Nat.not_lt.2 h.most, h.reservedByte, h.reserved]
  have hknown : (drainHandles (s.reqIn fn slot).pay).findIdx? (fun x => !(decide (x / 2 ^ 29 = p) && s.live? x)) = none := by
    refine List.findIdx?_eq_none_iff.2 (fun x hx => ?_)
    obtain ⟨hown, hlive⟩ := h.known x hx
    rw [decide_eq_true hown, hlive]
    rfl
  refine congrArg Host.Outcome.next ((h.serve (fun _ _ => rfl)).trans ?_)
  simp only [hfields, State.taken_pen, h.quiesced, bne_self_eq_false, State.taken_liveOpt, hknown, Bool.false_eq_true, if_false]
  generalize drainHandles (s.reqIn fn slot).pay = hs
  rfl

end Jobs

/-! ### The statement -/

/-- Settles O35: each clause is what its command does once the checks of its request hold. -/
theorem jobCommands : Obligations.JobCommands := by
  unfold Obligations.JobCommands
  refine ⟨fun fn slot p s hwaits => ?submit, fun fn slot p s hwaits => ?quiesce, fun fn slot p s hwaits => ?resume,
    fun fn slot p s hwaits => ?abort, fun fn slot p s hwaits => ?drain⟩
  case submit =>
    intro r b x t hsession hpen hp hf hready hzeros hplaced hgeneration
    have hfunction : r.fn = 0 ∨ (s.taken fn slot).boundPen r.fn = some p := hf.imp_left (congrArg Fin.val)
    have hsubmits (hspans : x.lextent ≠ 0 → (s.pen p).grazing = false ∧ s.boot.stage ≠ 4) :
        exec (.jobSubmit fn slot) s =
          .next (((if x.lextent = 0 then t else t.join p).answer (slotIndex fn slot) stOk []).settleRound) :=
      exec_jobSubmit hwaits ⟨hpen, hp, hfunction, hsession, hready, hzeros, hplaced, hgeneration, hspans⟩
    refine ⟨fun halone => ?alone, fun hspans hgrazing hstage => ?spans⟩
    case alone => rw [hsubmits (absurd halone), if_pos halone]
    case spans => rw [hsubmits (fun _ => ⟨hgrazing, hstage⟩), if_neg hspans]
  case quiesce =>
    intro r hpen hp hf hzeros hstate
    have hreaches : s.Reaches fn slot 0x0902 p := ⟨hwaits, hpen, hp, hf⟩
    exact ⟨_, hreaches.exec_jobQuiesce hzeros hstate, rfl, fun hs => State.drainPen_waits hs hp fn slot⟩
  case resume =>
    intro r hpen hp hf hzeros hstate
    have hreaches : s.Reaches fn slot 0x0903 p := ⟨hwaits, hpen, hp, hf⟩
    exact hreaches.exec_jobResume hzeros hstate
  case abort =>
    intro r hpen hp hf hzeros hstate
    have hreaches : s.Reaches fn slot 0x0905 p := ⟨hwaits, hpen, hp, hf⟩
    exact hreaches.exec_jobAbort hzeros hstate
  case drain =>
    intro r hs s1 t hpen hp hf hbyte hpositive hmost hzeros hstate hknown stuck
    have hdrains : s.Drains fn slot p := ⟨⟨hwaits, hpen, hp, hf⟩, hbyte, hpositive, hmost, hzeros, hstate, hknown⟩
    have hstuck : stuck = t.stuck := funext (fun h => (t.stuck_eq h).symm)
    have hexec : exec (.checkpointDrain fn slot) s =
        .next ((t.drainAnswer hs (r.f 2 2)).finish (slotIndex fn slot)).settleRound := hdrains.exec_checkpointDrain
    rw [hexec, hstuck]
    refine ⟨fun i hi => ?full, fun hroomed => ⟨fun hnear => ?near, fun hfar => ?far⟩⟩
    case full => rw [State.drainAnswer_stuck hi, Answer.finish_reply]
    case near => rw [State.drainAnswer_roomed hroomed, if_pos hnear, Answer.finish_reply]
    case far =>
      have hsome : ¬ (t.firstFar hs).isNone = true := by simpa using Option.isSome_iff_ne_none.1 hfar
      rw [State.drainAnswer_roomed hroomed, if_neg hsome, Answer.finish_wait]

end Sys2Proof.Machine

/-! SUPPORT. Work of the hub (R256 to R261): what a write, a flush or a fetch at its pseudo-channel leaves alone, which is the host
interface, the stacks and the group being retrained, and so which requests are held. -/

namespace Sys2Proof.Machine

/-! ### Near pasture alone -/

/-- R266, R275: the stacks and the group being retrained, on which it depends what is held, are as they were. -/
def NearMem.SameStacks (n m : NearMem) : Prop := m.stackList = n.stackList ∧ m.retraining = n.retraining

theorem NearMem.SameStacks.refl (n : NearMem) : n.SameStacks n := ⟨rfl, rfl⟩

theorem NearMem.SameStacks.trans {n m k : NearMem} (h : n.SameStacks m) (h' : m.SameStacks k) : n.SameStacks k :=
  ⟨h'.1.trans h.1, h'.2.trans h.2⟩

theorem NearMem.SameStacks.foldl {α : Type} {f : NearMem → α → NearMem} (h : ∀ (m : NearMem) (x : α), m.SameStacks (f m x)) (n : NearMem) (l : List α) :
    n.SameStacks (l.foldl f n) := by
  induction l generalizing n with
  | nil => exact .refl n
  | cons x l ih => exact (h n x).trans (ih (f n x))

theorem NearMem.put_sameStacks (n : NearMem) (a : Nat) (bs : List Byte) : n.SameStacks (n.put a bs) := ⟨rfl, rfl⟩

theorem NearMem.accPut_sameStacks (t d : Bool) (a : Nat) (n : NearMem) (y : Option Word × Nat) :
    n.SameStacks (n.accPut t d a y) := by
  unfold NearMem.accPut
  split
  · exact .refl n
  · exact n.put_sameStacks ..

/-! ### The host interface and the stacks -/

/-- From `s` to `t` the host interface, the stacks and the group being retrained are as they were. -/
structure HubWork (s t : State) : Prop where
  host : t.host = s.host
  near : s.np.SameStacks t.np

theorem HubWork.refl (s : State) : HubWork s s := ⟨rfl, .refl _⟩

theorem HubWork.trans {s t u : State} (h : HubWork s t) (k : HubWork t u) : HubWork s u :=
  ⟨k.host.trans h.host, h.near.trans k.near⟩

theorem HubWork.forAll {α : Type} {f : State → α → State} (h : ∀ u x, HubWork u (f u x)) (s : State) (l : List α) :
    HubWork s (s.forAll l f) := by
  induction l generalizing s with
  | nil => exact .refl s
  | cons x l ih => exact (h s x).trans (ih (f s x))

theorem HubWork.modNp {s : State} {f : NearMem → NearMem} (h : s.np.SameStacks (f s.np)) : HubWork s (s.modNp f) := ⟨rfl, h⟩

theorem HubWork.count {s t : State} (h : HubWork s t) (item n : Nat) : HubWork s (t.count item n) :=
  h.trans ⟨State.count_host .., State.count_np t item n ▸ .refl _⟩

/-- R266, R268, R275: the work leaves it as it is which requests are held. -/
theorem HubWork.npBlocked {s t : State} (h : HubWork s t) (src : NpSource) (a : Nat) : t.npBlocked src a = s.npBlocked src a := by
  unfold State.npBlocked State.stackAt
  rw [h.near.1, h.near.2]

/-- R486: a fault that is not UNCONTAINED raises no health event. -/
theorem State.logFault_host {sev : Severity} (hsev : sev ≠ .uncontained) (s : State) (bank code : Nat) (unit : Nat)
    (pen addr : Option Nat) (info : Nat) : (s.logFault bank code sev unit pen addr info).host = s.host := by
  unfold State.logFault
  dsimp only
  rw [if_neg hsev, State.count_host, State.modHealth_host]

theorem State.npPoisonWrite_hubWork (s : State) (line : Nat) (cls : NpClass) : HubWork s (s.npPoisonWrite line cls) :=
  ⟨State.logFault_host (by decide) .., by rw [State.npPoisonWrite_wc]; exact .refl _⟩

theorem State.npStore_hubWork (s : State) (cls : NpClass) (a : Nat) (bs : List Byte) : HubWork s (s.npStore cls a bs) := by
  unfold State.npStore
  dsimp only
  split
  · exact (HubWork.modNp ⟨rfl, rfl⟩).count ..
  · split
    · exact s.npPoisonWrite_hubWork ..
    · exact (HubWork.modNp ⟨rfl, rfl⟩).count ..

theorem State.npStoreMasked_hubWork (s : State) (e : WcEntry) (cls : NpClass) : HubWork s (s.npStoreMasked e cls) := by
  unfold State.npStoreMasked
  split
  · exact s.npStore_hubWork ..
  · split
    · exact s.npPoisonWrite_hubWork ..
    · exact (HubWork.modNp (NearMem.SameStacks.foldl (fun m (x : Nat × Byte) => m.put_sameStacks (e.line + x.1) [x.2]) _ _)).count ..

theorem State.npAdd_hubWork (s : State) (cls : NpClass) (t d : Bool) (a : Nat) (ys : List (Option Word)) :
    HubWork s (s.npAdd cls t d a ys) := by
  unfold State.npAdd
  dsimp only
  split
  · exact s.npPoisonWrite_hubWork ..
  · exact ((HubWork.modNp (NearMem.SameStacks.foldl (NearMem.accPut_sameStacks t d a) _ _)).count ..).count ..

theorem State.npApply_hubWork (s : State) (r : NpReq) : HubWork s (s.npApply r) := by
  unfold State.npApply
  split
  · exact .refl s
  · exact .refl s
  · exact s.npStore_hubWork ..
  · exact s.npAdd_hubWork ..
  · exact s.npStoreMasked_hubWork ..

theorem State.npSettle_hubWork (s : State) (line : Nat) (all : Bool) (n : Nat) : HubWork s (s.npSettle line all n) := by
  unfold State.npSettle
  dsimp only
  split
  · exact .refl s
  · exact (HubWork.modNp ⟨rfl, rfl⟩).trans (HubWork.forAll State.npApply_hubWork _ _)

theorem State.npDrop_hubWork (s : State) (line : Nat) : HubWork s (s.npDrop line) := .modNp ⟨rfl, rfl⟩

theorem State.npHold_hubWork (s : State) (kind : NpKind) (src : NpSource) (cls : NpClass) : HubWork s (s.npHold kind src cls) :=
  .modNp ⟨rfl, rfl⟩

theorem State.npFlushNow_hubWork (s : State) (line : Nat) (cls : Option NpClass) : HubWork s (s.npFlushNow line cls) := by
  unfold State.npFlushNow
  split
  · exact .refl s
  · exact ((s.npDrop_hubWork line).trans (State.npSettle_hubWork ..)).trans (State.npStoreMasked_hubWork ..)

theorem State.npFlush_hubWork (s : State) (line : Nat) (cls : Option NpClass) : HubWork s (s.npFlush line cls) := by
  unfold State.npFlush
  split
  · exact .refl s
  · split
    · exact .modNp ⟨rfl, rfl⟩
    · exact s.npFlushNow_hubWork ..

theorem State.npFlushSource_hubWork (s : State) (src : NpSource) : HubWork s (s.npFlushSource src) :=
  HubWork.forAll (fun u _ => u.npFlush_hubWork ..) _ _

theorem State.npOpen_hubWork (s : State) (cls : NpClass) (src : NpSource) (a : Nat) (bs : List Byte) : HubWork s (s.npOpen cls src a bs) :=
  .modNp ⟨rfl, rfl⟩

theorem State.npCombine_hubWork (s : State) (cls : NpClass) (src : NpSource) (a : Nat) (bs : List Byte) :
    HubWork s (s.npCombine cls src a bs) := by
  unfold State.npCombine
  dsimp only
  split
  · split
    · exact HubWork.trans (.modNp ⟨rfl, rfl⟩) (State.npFlush_hubWork ..)
    · exact .modNp ⟨rfl, rfl⟩
  · split
    · exact s.npOpen_hubWork ..
    · split
      · exact (s.npFlush_hubWork ..).trans (State.npOpen_hubWork ..)
      · exact s.npHold_hubWork ..

theorem State.npDirect_hubWork (s : State) (cls : NpClass) (src : NpSource) (a : Nat) (bs : List Byte) :
    HubWork s (s.npDirect cls src a bs) := by
  unfold State.npDirect
  split
  · exact s.npHold_hubWork ..
  · exact (s.npSettle_hubWork ..).trans (State.npStore_hubWork ..)

theorem State.npWriteLine_hubWork (s : State) (cls : NpClass) (src : NpSource) (a : Nat) (bs : List Byte) :
    HubWork s (s.npWriteLine cls src a bs) := by
  unfold State.npWriteLine
  split
  · exact (s.npDrop_hubWork _).trans (State.npDirect_hubWork ..)
  · split
    · exact s.npDirect_hubWork ..
    · exact s.npCombine_hubWork ..

theorem State.penWrite_hubWork (s : State) (cls : NpClass) (src : NpSource) (pen a : Nat) (bs : List Byte) :
    HubWork s (s.penWrite cls src pen a bs) := by
  refine HubWork.forAll (fun u x => ?_) _ _
  split
  · exact u.npWriteLine_hubWork ..
  · exact .refl u

/-- R266: a fetch is held at its pseudo-channel, or has been served. -/
theorem State.npRequest_fetch_hubWork (s : State) (a len : Nat) (src : NpSource) (cls : NpClass) (urgent : Bool) :
    HubWork s (s.npRequest { kind := .fetch a len, source := src, cls := cls, urgent := urgent }) := by
  unfold State.npRequest
  dsimp only
  split
  · exact s.npHold_hubWork ..
  · exact .refl s

theorem State.penFetch_hubWork (s : State) (src : NpSource) (cls : NpClass) (pen a len : Nat) (wait : Bool) :
    HubWork s (s.penFetch src cls pen a len wait) := by
  refine HubWork.forAll (fun u x => ?_) _ _
  dsimp only
  split
  · exact .modNp ⟨rfl, rfl⟩
  · split
    · exact .refl u
    · exact u.npRequest_fetch_hubWork ..

end Sys2Proof.Machine

/-! SUPPORT. The write-combining buffer at the end of a drain (R257, R276, R357): what is left in it is what its stack holds. -/

namespace Sys2Proof.Machine

/-- R257: a flush that is served takes the line's entry out of the buffer. -/
theorem State.npFlushNow_wc (s : State) (line : Nat) (cls : Option NpClass) :
    (s.npFlushNow line cls).np.wc = s.np.wc.filter (fun x => x.line != line) := by
  unfold State.npFlushNow
  split
  next hnone => exact (List.filter_eq_self.2 (fun x hx => by simpa using List.find?_eq_none.1 hnone x hx)).symm
  next => rw [State.npStoreMasked_wc, State.npSettle_wc, State.npDrop, State.modNp_np]

/-- R256: a sound buffer has at most one entry of a line. -/
theorem WcSound.eq_of_line {l : List WcEntry} (h : WcSound l) {e e' : WcEntry} (he : e ∈ l) (he' : e' ∈ l) (hline : e.line = e'.line) :
    e = e' := by
  have hapart : l.Pairwise (fun x y => x.line ≠ y.line) := List.pairwise_map.1 h.1
  obtain ⟨i, hi, rfl⟩ := List.getElem_of_mem he
  obtain ⟨j, hj, rfl⟩ := List.getElem_of_mem he'
  rcases Nat.lt_trichotomy i j with hlt | rfl | hlt
  · exact absurd hline (List.pairwise_iff_getElem.1 hapart i j hi hj hlt)
  · rfl
  · exact absurd hline.symm (List.pairwise_iff_getElem.1 hapart j i hj hi hlt)

/-- R257, R276: after a flush every entry was there before, and that of the line is there only while its stack holds it. -/
theorem State.mem_npFlush_wc {s : State} {line : Nat} {cls : Option NpClass} (hs : WcSound s.np.wc) {e : WcEntry}
    (he : e ∈ (s.npFlush line cls).np.wc) :
    (∃ x ∈ s.np.wc, x.line = e.line ∧ x.source = e.source) ∧ (e.line = line → s.npBlocked e.source line = true) := by
  unfold State.npFlush at he
  split at he
  next hnone => exact ⟨⟨e, he, rfl, rfl⟩, fun hline => absurd (decide_eq_true hline) (List.find?_eq_none.1 hnone e he)⟩
  next o ho =>
    have hmem : o ∈ s.np.wc := List.mem_of_find?_eq_some ho
    have hline : o.line = line := by simpa using List.find?_some ho
    split at he
    next hblocked =>
      obtain ⟨x, hx, rfl⟩ := List.mem_map.1 he
      refine ⟨⟨x, hx, by split <;> rfl, by split <;> rfl⟩, fun hx' => ?_⟩
      have hsame : x = o := hs.eq_of_line hx hmem (Eq.trans (by split at hx' <;> exact hx') hline.symm)
      rw [hsame, if_pos hline]
      exact hblocked
    next =>
      rw [State.npFlushNow_wc] at he
      obtain ⟨he, hne⟩ := List.mem_filter.1 he
      exact ⟨⟨e, he, rfl, rfl⟩, fun hline => absurd hline (by simpa using hne)⟩

/-- R276: flushes of lines that cover the buffer leave the entries that their stacks hold. -/
theorem State.npFlushAll_held {s : State} (hs : s.Sound) {lines : List Nat}
    (hcover : ∀ e ∈ s.np.wc, e.line ∈ lines ∨ s.npBlocked e.source e.line = true) :
    ∀ e ∈ (s.forAll lines (fun u l => u.npFlush l none)).np.wc,
      (s.forAll lines (fun u l => u.npFlush l none)).npBlocked e.source e.line = true := by
  induction lines generalizing s with
  | nil => exact fun e he => (hcover e he).resolve_left List.not_mem_nil
  | cons l lines ih =>
    refine ih (State.npFlush_keeps.sound hs) (fun e he => ?_)
    obtain ⟨⟨x, hx, hline, hsource⟩, hheld⟩ := State.mem_npFlush_wc hs.np.2.2.2 he
    rw [(s.npFlush_hubWork l none).npBlocked]
    rcases hcover x hx with hmem | hblocked
    · rcases List.mem_cons.1 hmem with heq | hmem
      · have hl : e.line = l := hline.symm.trans heq
        exact .inr (hl ▸ hheld hl)
      · exact .inl (hline ▸ hmem)
    · exact .inr (hline ▸ hsource ▸ hblocked)

/-- R276, R357: write combining has completed, but for the entries that their stacks hold. -/
theorem State.closeWrites_held {s : State} (hs : s.Sound) :
    ∀ e ∈ s.closeWrites.np.wc, s.closeWrites.npBlocked e.source e.line = true := by
  have hsound : (s.forAll (List.range 8) State.abandonEncodes).Sound :=
    (State.forAll_keeps Keeps.rfl (fun _ _ => State.abandonEncodes_keeps)).sound hs
  exact State.npFlushAll_held hsound (fun e he => .inl (List.mem_map_of_mem he))

end Sys2Proof.Machine

/-! SUPPORT. The mailbox slots while the Shepherd starts again (R391, R399, R407): the video engine's writes, events and increments
leave every slot as it is, an answer ends the slot's wait, and no slot becomes BUSY. -/

namespace Sys2Proof.Machine

/-! ### What leaves the slots alone -/

section Untouched

theorem HubWork.slots {s t : State} (h : HubWork s t) : t.host.slots = s.host.slots := congrArg HostIf.slots h.host

theorem Keeps.slots {cs : List Area} {s t : State} (h : Keeps cs s t) (hhost : Area.host ∉ cs) : t.host.slots = s.host.slots :=
  congrArg HostIf.slots (h.only.same .host hhost)

theorem State.raiseVector_slots (s : State) (fn vec : Nat) : (s.raiseVector fn vec).host.slots = s.host.slots := by
  unfold State.raiseVector
  split
  · split <;> rfl
  · rfl

theorem State.healthEvent_slots (s : State) (fn bit : Nat) : (s.healthEvent fn bit).host.slots = s.host.slots := by
  unfold State.healthEvent
  dsimp only
  split
  · exact State.raiseVector_slots ..
  · rfl

theorem State.healthEventAll_slots (s : State) (bit : Nat) : (s.healthEventAll bit).host.slots = s.host.slots :=
  State.forAll_same (g := fun u => u.host.slots) (fun u fn => u.healthEvent_slots fn bit) s _

theorem State.putCpl_slots (s : State) (q : Queue) (e : Nat × Nat × List Byte) : (s.putCpl q e).host.slots = s.host.slots := by
  unfold State.putCpl
  dsimp only
  split
  · exact congrArg HostIf.slots (State.logFault_host (by decide) ..)
  · split
    · rw [State.raiseVector_slots]
      split
      · rfl
      · exact (State.penWrite_hubWork ..).slots
    · split
      · rfl
      · exact (State.penWrite_hubWork ..).slots

theorem State.cpl_slots (s : State) (cq kind src : Nat) (payload : List Byte) : (s.cpl cq kind src payload).host.slots = s.host.slots := by
  unfold State.cpl
  split
  · rfl
  · split
    · rfl
    · split
      · rfl
      · exact s.putCpl_slots ..

theorem State.videoAct_slots (s : State) (a : VideoAct) : (s.videoAct a).host.slots = s.host.slots := by
  cases a with
  | signal pen counter => exact State.addCounter_keeps.slots (by decide)
  | event cpl queue payload => exact s.cpl_slots ..

theorem State.videoDo_slots (s : State) (a : VideoAct) : (s.videoDo a).host.slots = s.host.slots := by
  unfold State.videoDo
  split
  · rfl
  · exact s.videoAct_slots a

theorem State.releaseActs_slots (s : State) (l : List VideoAct) : (s.releaseActs l).host.slots = s.host.slots := by
  induction l generalizing s with
  | nil => rfl
  | cons a l ih =>
    unfold State.releaseActs
    split
    · rfl
    · rw [ih, State.videoAct_slots]

theorem State.videoSignal_slots (s : State) (pen : Nat) (e : List Byte) : (s.videoSignal pen e).host.slots = s.host.slots := by
  unfold State.videoSignal
  split
  · rfl
  · exact s.videoDo_slots _

theorem State.videoEvent_slots (s : State) (queue : Nat) (payload : List Byte) : (s.videoEvent queue payload).host.slots = s.host.slots := by
  unfold State.videoEvent
  split
  · rfl
  · exact s.videoDo_slots _

theorem State.streamErrors_slots (s : State) (queue base : Nat) (e : List Byte) (rs : List Recovery) :
    (s.streamErrors queue base e rs).host.slots = s.host.slots :=
  State.forAll_same (g := fun u => u.host.slots) (fun u _ => u.videoEvent_slots ..) s rs

theorem State.modStream_slots (s : State) (n : Nat) (f : Stream → Stream) : (s.modStream n f).host.slots = s.host.slots := rfl

theorem State.modCore_slots (s : State) (n : Nat) (f : VideoCore → VideoCore) : (s.modCore n f).host.slots = s.host.slots := rfl

theorem State.count_slots (s : State) (item n : Nat) : (s.count item n).host.slots = s.host.slots := rfl

theorem State.useTensor_slots (s : State) (h : Nat) : (s.useTensor h).host.slots = s.host.slots := State.useTensor_keeps.slots (by decide)

theorem State.makeAllReady_slots (s : State) : s.makeAllReady.host.slots = s.host.slots := State.makeAllReady_keeps.slots (by decide)

theorem State.endSkip_slots (s : State) (n : Nat) : (s.endSkip n).host.slots = s.host.slots := by
  unfold State.endSkip
  split
  · rfl
  · split
    · rw [State.streamErrors_slots, State.modStream_slots]
    · rfl

theorem State.finishFlush_slots (s : State) (n : Nat) : (s.finishFlush n).host.slots = s.host.slots := by
  unfold State.finishFlush
  split
  · rfl
  · split
    · rfl
    · split
      · rfl
      · dsimp only
        split
        · rw [State.videoEvent_slots, State.videoSignal_slots, State.modStream_slots, State.endSkip_slots]
        · rw [State.videoSignal_slots, State.modStream_slots, State.endSkip_slots]

theorem State.videoFetch_slots (s : State) (pen : Nat) (e : List Byte) (wait : Bool) :
    (s.videoFetch pen e wait).host.slots = s.host.slots := by
  unfold State.videoFetch
  split
  · exact (s.penFetch_hubWork ..).slots
  · rfl

theorem State.videoWrite_slots (s : State) (cls : NpClass) (pen : Nat) (stores : List (Nat × List Byte)) :
    (s.videoWrite cls pen stores).host.slots = s.host.slots := by
  have hstored : HubWork s ((s.forAll stores (fun t x => t.penWrite cls .video pen x.1 x.2)).npFlushSource .video) :=
    (HubWork.forAll (fun u _ => u.penWrite_hubWork ..) s stores).trans (State.npFlushSource_hubWork ..)
  exact (State.touchStores_keeps.slots (by decide)).trans hstored.slots

theorem State.storeOutput_slots (s : State) (x : Stream) (e : List Byte) (stores : List (Nat × List Byte)) :
    (s.storeOutput x e stores).host.slots = s.host.slots := by
  unfold State.storeOutput
  rw [State.useTensor_slots, State.useTensor_slots, State.spend_keeps.slots (by decide), State.noteClashes_keeps.slots (by decide),
    State.videoWrite_slots]

theorem State.writeFrame_slots (s : State) (x : Stream) (p : Picture) (e : List Byte) : (s.writeFrame x p e).1.host.slots = s.host.slots := by
  unfold State.writeFrame
  dsimp only
  split
  · exact s.storeOutput_slots ..
  · rfl

theorem State.completeOutput_slots (s : State) (x : Stream) (e : List Byte) (p : Picture) :
    (s.completeOutput x e p).host.slots = s.host.slots := by
  unfold State.completeOutput
  dsimp only
  split
  · rw [State.videoEvent_slots, State.videoSignal_slots, State.modStream_slots, State.count_slots, State.writeFrame_slots]
  · rw [State.videoSignal_slots, State.modStream_slots, State.count_slots, State.writeFrame_slots]

theorem State.serveOutputs_slots (s : State) (n fuel : Nat) : (s.serveOutputs n fuel).host.slots = s.host.slots := by
  induction fuel generalizing s with
  | zero => rfl
  | succ fuel ih =>
    unfold State.serveOutputs
    split
    · rfl
    · split
      · rw [ih, State.completeOutput_slots]
      · rfl

theorem State.streamMoves_slots (s : State) (n : Nat) : (s.streamMoves n).host.slots = s.host.slots := by
  unfold State.streamMoves
  dsimp only
  rw [State.makeAllReady_slots, State.finishFlush_slots, State.serveOutputs_slots, State.makeAllReady_slots]

theorem State.endDecode_slots (s : State) (x : Stream) (w : PicWork) (hung : Bool) : (s.endDecode x w hung).host.slots = s.host.slots := by
  unfold State.endDecode
  dsimp only
  split
  · rfl
  · rfl
  · rw [State.streamErrors_slots, State.modStream_slots, State.count_slots, State.endSkip_slots, State.count_slots]

theorem State.endEncode_slots (s : State) (x : Stream) (w : PicWork) : (s.endEncode x w).host.slots = s.host.slots := by
  have hread (poisoned : Bool) (u : State) (payload : List Byte) (hu : u.host.slots = s.host.slots) :
      (if poisoned then u.videoEvent x.conf.queue payload else u).host.slots = s.host.slots := by
    split
    · rw [State.videoEvent_slots, hu]
    · exact hu
  unfold State.endEncode
  dsimp only
  split
  · split
    · rw [State.videoEvent_slots, State.videoSignal_slots, State.modStream_slots, State.count_slots, State.storeOutput_slots]
      refine hread _ _ _ ?_
      rw [State.count_slots, State.count_slots, State.useTensor_slots, State.videoFetch_slots]
    · rw [State.videoSignal_slots, State.modStream_slots, State.count_slots, State.storeOutput_slots]
      refine hread _ _ _ ?_
      rw [State.count_slots, State.count_slots, State.useTensor_slots, State.videoFetch_slots]
  · rw [State.videoEvent_slots, State.videoSignal_slots, State.modStream_slots]
    refine hread _ _ _ ?_
    rw [State.count_slots, State.count_slots, State.useTensor_slots, State.videoFetch_slots]

end Untouched

/-! ### No slot becomes BUSY -/

/-- R399: every slot that is BUSY in `t` was BUSY in `s`. -/
def NoneTaken (s t : State) : Prop := ∀ i, (t.slotAt i).state = 1 → (s.slotAt i).state = 1

theorem NoneTaken.trans {s t u : State} (h : NoneTaken s t) (k : NoneTaken t u) : NoneTaken s u := fun i hi => h i (k i hi)

theorem NoneTaken.of_slots {s t : State} (h : t.host.slots = s.host.slots) : NoneTaken s t := by
  intro i hi
  rwa [State.slotAt, h] at hi

theorem NoneTaken.refl (s : State) : NoneTaken s s := .of_slots rfl

theorem NoneTaken.forAll {α : Type} {f : State → α → State} (h : ∀ u x, NoneTaken u (f u x)) (s : State) (l : List α) :
    NoneTaken s (s.forAll l f) := by
  induction l generalizing s with
  | nil => exact .refl s
  | cons x l ih => exact (h s x).trans (ih (f s x))

/-- A slot beyond the twelve reads as an IDLE one. -/
theorem State.modSlot_state {s : State} {i : Nat} {f : Mailbox → Mailbox} (h : ∀ m, (f m).state ≠ 1) :
    ((s.modSlot i f).slotAt i).state ≠ 1 := by
  by_cases hi : i < s.host.slots.length
  · rw [State.modSlot_slotAt f hi]
    exact h _
  · have hlength : (s.host.slots.modify i f).length ≤ i := by
      rw [List.length_modify]
      exact Nat.not_lt.1 hi
    have hout : (s.modSlot i f).slotAt i = .idle := by
      rw [State.slotAt, State.modSlot_host, List.getD_eq_getElem?_getD, List.getElem?_eq_none hlength, Option.getD_none]
    rw [hout]
    decide

/-- R399, R407: an answered slot is DONE, or IDLE when its response is discarded. -/
theorem State.answer_state (s : State) (i st : Nat) (p : List Byte) : ((s.answer i st p).slotAt i).state ≠ 1 := by
  have hdone : (2 : Nat) ≠ 1 := by decide
  unfold State.answer
  dsimp only
  split
  · exact State.modSlot_state (fun _ => by decide)
  · split
    · rw [State.raiseVector_slotAt]
      exact State.modSlot_state (fun _ => hdone)
    · exact State.modSlot_state (fun _ => hdone)

theorem State.answer_noneTaken (s : State) (i st : Nat) (p : List Byte) : NoneTaken s (s.answer i st p) := by
  intro j hj
  by_cases hij : i = j
  · exact absurd (hij ▸ hj) (s.answer_state i st p)
  · rwa [State.answer_slotAt_ne hij] at hj

/-- R400: a request that fails a check is taken and answered at once. -/
theorem State.refuseDue_noneTaken (s : State) (n : Nat) : NoneTaken s (s.refuseDue n) := by
  induction n generalizing s with
  | zero => exact .refl s
  | succ n ih =>
    unfold State.refuseDue
    split
    next => exact .refl s
    next i _ =>
      split
      · split
        next st _ =>
          refine NoneTaken.trans (fun j hj => ?_) (ih _)
          by_cases hij : i = j
          · exact absurd (hij ▸ hj) ((s.takeGo i).answer_state i st [])
          · rwa [State.answer_slotAt_ne hij, State.takeGo_slotAt_ne hij] at hj
        next => exact .refl s
      · exact .refl s

/-- R402: the slots that are answered in turn wait no longer. -/
theorem State.forAll_answer_state {l : List Nat} {st : Nat} {i : Nat} (hi : i ∈ l) (s : State) :
    ((s.forAll l (fun t k => t.answer k st [])).slotAt i).state ≠ 1 := by
  induction l generalizing s with
  | nil => exact absurd hi List.not_mem_nil
  | cons k l ih =>
    rcases List.mem_cons.1 hi with rfl | hi
    · exact fun hbusy => s.answer_state i st [] (NoneTaken.forAll (fun u j => u.answer_noneTaken j st []) _ l i hbusy)
    · exact ih hi (s.answer k st [])

theorem State.answerBusy_state {i : Nat} (hi : i < 12) (s : State) : (s.answerBusy.slotAt i).state ≠ 1 := by
  intro hbusy
  have hwas : (s.slotAt i).state = 1 := NoneTaken.forAll (fun u j => u.answer_noneTaken j stNotReady []) s _ i hbusy
  exact State.forAll_answer_state (List.mem_filter.2 ⟨List.mem_range.2 hi, decide_eq_true hwas⟩) s hbusy

/-- R407: no slot is BUSY when the waits have ended. -/
theorem State.endBusy_state {i : Nat} (hi : i < 12) (s : State) : (s.endBusy.slotAt i).state ≠ 1 :=
  fun hbusy => State.answerBusy_state hi _ (State.refuseDue_noneTaken _ 12 i hbusy)

/-! ### The video engine and the Talsen ports go on -/

theorem State.endClosing_noneTaken (s : State) (n : Nat) : NoneTaken s (s.endClosing n) := by
  unfold State.endClosing
  split
  · exact .refl s
  · split
    · refine NoneTaken.trans (.of_slots ?_) (NoneTaken.forAll (fun u i => u.answer_noneTaken i stOk []) _ _)
      rw [State.makeAllReady_slots, State.sweepQueues_keeps.slots (by decide), State.modVideo_host]
    · exact .refl s

theorem State.endPicture_noneTaken (s : State) (core : Nat) (hung : Bool) : NoneTaken s (s.endPicture core hung) := by
  unfold State.endPicture
  split
  · exact .refl s
  · dsimp only
    split
    · exact .of_slots rfl
    · refine NoneTaken.trans (.of_slots ?_) (State.endClosing_noneTaken _ _)
      rw [State.streamMoves_slots]
      split
      · rw [State.endEncode_slots, State.modStream_slots, State.modCore_slots]
      · rw [State.endDecode_slots, State.modStream_slots, State.modCore_slots]

theorem State.beginCoreReset_noneTaken (s : State) (core : Nat) : NoneTaken s (s.beginCoreReset core) := by
  have hreported (u : State) (queue n : Nat) (payload : List Byte) :
      NoneTaken u ((u.videoEvent queue payload).logFault 12 0x0801 .corrected core none none n) :=
    .of_slots ((congrArg HostIf.slots (State.logFault_host (by decide) ..)).trans (u.videoEvent_slots ..))
  unfold State.beginCoreReset
  split
  · exact .of_slots rfl
  · refine NoneTaken.trans ?_ (hreported _ _ _ _)
    split
    · exact .of_slots rfl
    · exact NoneTaken.trans (.of_slots rfl) (State.endPicture_noneTaken _ core true)

theorem State.nextCoreReset_noneTaken (s : State) : NoneTaken s s.nextCoreReset := by
  unfold State.nextCoreReset
  split
  · exact .refl s
  · split
    · exact s.beginCoreReset_noneTaken _
    · exact .refl s

theorem State.resumeVideo_noneTaken (s : State) : NoneTaken s s.resumeVideo :=
  NoneTaken.trans (.of_slots (s.releaseActs_slots s.video.deferred)) s.releaseVideo.nextCoreReset_noneTaken

theorem State.startRelink_slots (s : State) : s.startRelink.host.slots = s.host.slots := by
  unfold State.startRelink
  split
  · rfl
  · split
    · rfl
    · dsimp only
      rw [State.forAll_same (g := fun u => u.host.slots) (fun u h => (State.stallFetch_keeps (t := u) (a1 := h)).slots (by decide)),
        State.healthEventAll_slots]
      rfl

end Sys2Proof.Machine

/-! SUPPORT. The health of a new image (R473, R476): what a confirmation leaves, with HOLDUP_OK there and without. -/

namespace Sys2Proof.Machine

/-- The Sheepdog but for its journal is as it was. -/
def Sheepdog.Journaled (g h : Sheepdog) : Prop := ∃ j n, h = { g with journal := j, journalSeq := n }

namespace Sheepdog.Journaled

theorem refl (g : Sheepdog) : g.Journaled g := ⟨g.journal, g.journalSeq, rfl⟩

theorem trans {g h k : Sheepdog} : g.Journaled h → h.Journaled k → g.Journaled k
  | ⟨_, _, hh⟩, ⟨j, n, hk⟩ => ⟨j, n, by rw [hk, hh]⟩

theorem foldl {α : Type} {f : Sheepdog → α → Sheepdog} (hf : ∀ (g : Sheepdog) (x : α), g.Journaled (f g x)) (g : Sheepdog) (l : List α) :
    g.Journaled (l.foldl f g) := by
  induction l generalizing g with
  | nil => exact refl g
  | cons x l ih => exact (hf g x).trans (ih (f g x))

theorem record (g : Sheepdog) (ty : JournalType) (a : Nat) : g.Journaled (g.record ty a) := ⟨_, _, rfl⟩

theorem recycle (g : Sheepdog) : g.Journaled g.recycle := by
  have herased (h : Sheepdog) (ty : JournalType) (a n : Nat) : h.Journaled ({ h with journal := h.journal.drop n }.record ty a) :=
    ⟨_, _, rfl⟩
  unfold Sheepdog.recycle
  split
  · exact (record g ..).trans (herased ..)
  · exact refl g

theorem append (g : Sheepdog) (ty : JournalType) (a : Nat) : g.Journaled (g.append ty a) := (record g ty a).trans (recycle _)

theorem programmed (g : Sheepdog) (a : Nat) : g.Journaled (g.programmed a) := (append g ..).trans (append _ ..)

theorem rewritten (g : Sheepdog) (a : Nat) : g.Journaled (g.rewritten a) :=
  ((append g ..).trans (append _ ..)).trans (foldl (fun h _ => programmed h _) _ _)

end Sheepdog.Journaled

/-- R469: a write of the boot control block leaves HOLDUP_OK and the writes that wait for it. -/
theorem Sheepdog.writeBcb_waits (g : Sheepdog) (f : Bcb → Bcb) :
    (g.writeBcb f).holdup = g.holdup ∧ (g.writeBcb f).ownWrites = g.ownWrites := by
  unfold Sheepdog.writeBcb
  dsimp only
  generalize hk : g.rewritten _ = k
  obtain ⟨j, n, hj⟩ := hk ▸ Sheepdog.Journaled.rewritten g _
  rw [hj]
  exact ⟨rfl, rfl⟩

/-- R473: with HOLDUP_OK there and nothing before it a write is done at once. -/
theorem Sheepdog.ownWrite_now {g : Sheepdog} (hup : g.holdup = true) (hnone : g.ownWrites = []) (w : OwnWrite) : g.ownWrite w = g.applyOwn w := by
  rw [Sheepdog.ownWrite, hup, hnone]
  rfl

/-- R473: without HOLDUP_OK a write waits. -/
theorem Sheepdog.ownWrite_later {g : Sheepdog} (hdown : g.holdup = false) (w : OwnWrite) :
    g.ownWrite w = { g with ownWrites := g.ownWrites ++ [w] } := by
  rw [Sheepdog.ownWrite, hdown]
  rfl

/-- R476: with HOLDUP_OK there the image is confirmed at once. -/
theorem Sheepdog.confirmHealth_now {g : Sheepdog} (hup : g.holdup = true) (hnone : g.ownWrites = []) :
    g.confirmHealth.fwUnconfirmed = false ∧ g.confirmHealth.healthStart = none := by
  have hconfirming : g.confirming = false := by
    rw [Sheepdog.confirming, hnone]
    rfl
  obtain ⟨hup', hnone'⟩ := g.writeBcb_waits Bcb.confirm
  have hbcb : g.ownWrite .bcbConfirm = g.writeBcb Bcb.confirm := Sheepdog.ownWrite_now hup hnone .bcbConfirm
  unfold Sheepdog.confirmHealth
  dsimp only
  rw [hconfirming, if_neg Bool.false_ne_true, hbcb]
  generalize g.writeBcb Bcb.confirm = k at hup' hnone'
  have hfree : k.holdup = true ∧ k.ownWrites = [] := ⟨hup'.trans hup, hnone'.trans hnone⟩
  rw [Sheepdog.ownWrite_now hfree.1 hfree.2, Sheepdog.ownWrite_now (w := .confirmed) (by exact hfree.1) (by exact hfree.2)]
  exact ⟨rfl, rfl⟩

/-- R476: without HOLDUP_OK the image stays unconfirmed, and its confirmation waits. -/
theorem Sheepdog.confirmHealth_later {g : Sheepdog} (hdown : g.holdup = false) :
    g.confirmHealth.fwUnconfirmed = g.fwUnconfirmed ∧ g.confirmHealth.confirming = true := by
  unfold Sheepdog.confirmHealth
  dsimp only
  split
  next hconfirming => exact ⟨rfl, hconfirming⟩
  next =>
    rw [Sheepdog.ownWrite_later hdown, Sheepdog.ownWrite_later (w := .floor _) (by exact hdown),
      Sheepdog.ownWrite_later (w := .confirmed) (by exact hdown)]
    exact ⟨rfl, List.contains_iff_mem.2 (List.mem_append_right _ (List.mem_singleton_self _))⟩

end Sys2Proof.Machine

/-! SUPPORT. A control-complex reset (R357, R443, R475): its trigger, the end of its drain, and the start of the Shepherd. -/

namespace Sys2Proof.Machine

/-! ### The trigger (R443, R444) -/

/-- R443: what a trigger records. -/
def State.ccBegin (s : State) (cause : Nat) : State := s.modBoot (fun b => { b with
  resetting := some .controlComplex, ccDraining := true, ccStage := b.stage, lastCause := cause, ccCount := satInc b.ccCount 255 })

section Trigger

variable {s : State} {cause : Nat} (hcause : cause ≠ 11) (hresetting : s.boot.resetting = none) (hstage : 2 ≤ s.boot.stage)
  (hcomplex : s.noComplex = false)

include hcause hresetting hstage hcomplex

/-- R443: a trigger of another cause than the heartbeat at a device that runs. -/
theorem State.ccReset_drains : s.ccReset cause = ((s.ccBegin cause).setStage 2).forAll (s.pensIn .running) State.drainPen := by
  have hidle : ¬ (s.boot.resetting.isSome || s.boot.stage = 0) = true := by
    rw [hresetting, Option.isSome_none, Bool.false_or, decide_eq_true_eq]
    omega
  have hruns : ¬ (s.noComplex || s.boot.stage < 2) = true := by
    rw [hcomplex, Bool.false_or, decide_eq_true_eq]
    omega
  unfold State.ccReset
  rw [if_neg hidle]
  dsimp only
  rw [if_neg hruns, if_neg hcause, hcomplex]
  simp [State.ccBegin, State.modBoot, hstage]

/-- R443, R444: STAGE reads 2 and the pens drain; nothing else is lost. -/
theorem State.ccReset_after : AfterCcTrigger s (s.ccReset cause) cause := by
  have hdrain : Keeps [.comp, .health] ((s.ccBegin cause).setStage 2) (s.ccReset cause) := by
    rw [State.ccReset_drains hcause hresetting hstage hcomplex]
    exact State.forAll_keeps Keeps.rfl (fun _ _ => State.drainPen_keeps)
  have hboot : (s.ccReset cause).boot = { (s.ccBegin cause).boot with stage := 2 } :=
    (hdrain.only.same .boot (by decide)).trans (State.setStage_boot ..)
  have hpens : (s.ccReset cause).pens = s.pens := (hdrain.only.same .pens (by decide)).trans (State.setStage_pens ..)
  have hqe : (s.ccReset cause).qe = s.qe := (hdrain.only.same .qe (by decide)).trans (State.setStage_qe ..)
  have hnp : (s.ccReset cause).np = s.np := (hdrain.only.same .np (by decide)).trans (State.setStage_np ..)
  have hfab : (s.ccReset cause).fab = s.fab := (hdrain.only.same .fab (by decide)).trans (State.setStage_fab ..)
  have htime : (s.ccReset cause).time = s.time := (hdrain.only.same .time (by decide)).trans (State.setStage_time ..)
  constructor
  case stage => rw [hboot]
  case state =>
    rw [hboot]
    exact ⟨rfl, rfl, rfl⟩
  case record =>
    rw [hboot]
    exact ⟨rfl, rfl⟩
  case kept => exact ⟨hpens, hqe, hnp, hfab, htime⟩

end Trigger

theorem AfterCcTrigger.of_quiet {s t : State} {cause : Nat} (h : AfterCcTrigger s.quiet t cause) : AfterCcTrigger s t cause :=
  ⟨h.stage, h.state, h.record, h.kept⟩

/-! ### The end of the drain (R357) -/

section Drained

variable {s : State} (hresetting : s.boot.resetting = some .controlComplex) (hdraining : s.boot.ccDraining = true)
  (hdrained : (s.pensIn .running ++ s.pensIn .quiescing).all s.penDrained = true)

/-- R357, R444: the Shepherd of a device that has drained stands still. -/
def State.stopShepherd (s : State) : State := s.quiet.modBoot (fun b => { b with ccDraining := false, shepherdRuns := false })

/-- R357: what is left to do at the end of the drain, but for the closing of the writes. -/
def State.quiescePens (s : State) : State := s.forAll (s.pensIn .running) State.droverQuiesce

include hresetting hdraining hdrained

theorem exec_ccDrainComplete : exec .ccDrainComplete s = .next s.stopShepherd.quiescePens.closeWrites.loseRequests := by
  have hends : (s.quiet.boot.resetting = some .controlComplex && s.quiet.boot.ccDraining &&
      (s.quiet.pensIn .running ++ s.quiet.pensIn .quiescing).all s.quiet.penDrained) = true := by
    have hquiet : (s.quiet.pensIn .running ++ s.quiet.pensIn .quiescing).all s.quiet.penDrained = true := hdrained
    rw [hquiet, State.quiet_boot, hresetting, hdraining]
    rfl
  change execCcDrainComplete s = _
  unfold execCcDrainComplete
  dsimp only
  rw [if_pos hends]
  rfl

end Drained

theorem State.stopShepherd_keeps (s : State) : Keeps [.boot, .out] s s.stopShepherd :=
  Keeps.step (State.quiet_keeps.mono (by decide)) (State.modBoot_keeps (fun h => h.boot)) (by decide)

theorem State.quiescePens_keeps (s : State) : Keeps [.comp, .pens, .drover] s s.quiescePens :=
  State.forAll_keeps Keeps.rfl (fun _ _ => State.droverQuiesce_keeps)

theorem State.loseRequests_np (s : State) : s.loseRequests.np = s.np := rfl

theorem State.loseRequests_hubWork (s : State) : HubWork s s.loseRequests := ⟨rfl, .refl _⟩

/-- R276, R357: the buffer holds nothing that its stack would take. -/
theorem State.drained_held {s : State} (hs : s.Sound) : ∀ e ∈ s.stopShepherd.quiescePens.closeWrites.loseRequests.np.wc,
    s.stopShepherd.quiescePens.closeWrites.loseRequests.npBlocked e.source e.line = true := by
  have hsound : s.stopShepherd.quiescePens.Sound := (State.quiescePens_keeps _).sound (s.stopShepherd_keeps.sound hs)
  intro e he
  rw [State.loseRequests_np] at he
  rw [(State.loseRequests_hubWork _).npBlocked]
  exact State.closeWrites_held hsound e he

/-- R357: the end of the drain stops the Shepherd and leaves STAGE. -/
theorem State.drained_boot (s : State) : s.stopShepherd.quiescePens.closeWrites.loseRequests.boot =
    { s.boot with ccDraining := false, shepherdRuns := false } :=
  calc s.stopShepherd.quiescePens.closeWrites.loseRequests.boot
    _ = s.stopShepherd.quiescePens.closeWrites.boot := rfl
    _ = s.stopShepherd.quiescePens.boot := State.closeWrites_keeps.only.same .boot (by decide)
    _ = s.stopShepherd.boot := s.stopShepherd.quiescePens_keeps.only.same .boot (by decide)
    _ = { s.boot with ccDraining := false, shepherdRuns := false } := rfl

/-! ### The start of the Shepherd (R357, R407, R475) -/

theorem State.bootImage_some {s : State} {ended : Bool} {g : Sheepdog} {i : Nat} (h : s.dog.choose ended = (g, some i)) :
    s.bootImage ended = ((s.modDog (fun _ => g)).modDog (fun g => (g.migrate i).started i), some i) := by
  unfold State.bootImage
  rw [h]

theorem State.bootImage_none {s : State} {ended : Bool} {g : Sheepdog} (h : s.dog.choose ended = (g, none)) :
    s.bootImage ended = (((s.modDog (fun _ => g)).setStage 1).logFault 13 0x0901 .uncontained, none) := by
  unfold State.bootImage
  rw [h]

/-- R357, R407, R391, R406: what goes on once the Shepherd runs again and the operators have been issued again. -/
def State.goesOn (w : State) : State := w.endBusy.resumeVideo.startRelink.startHealth

theorem State.done_goesOn (w : State) : done w.endBusy.resumeVideo.startRelink.startHealth = .next w.goesOn := rfl

theorem State.goesOn_boot (w : State) : w.goesOn.boot = w.boot :=
  calc w.goesOn.boot
    _ = w.endBusy.resumeVideo.startRelink.boot := State.startHealth_keeps.only.same .boot (by decide)
    _ = w.endBusy.resumeVideo.boot := State.startRelink_keeps.only.same .boot (by decide)
    _ = w.endBusy.boot := State.resumeVideo_keeps.only.same .boot (by decide)
    _ = w.boot := State.endBusy_keeps.only.same .boot (by decide)

/-- R407: no slot becomes BUSY again after the waits have ended. -/
theorem State.goesOn_noneTaken (w : State) : NoneTaken w.endBusy w.goesOn := by
  have hvideo : NoneTaken w.endBusy w.endBusy.resumeVideo := State.resumeVideo_noneTaken _
  have hlink : NoneTaken w.endBusy.resumeVideo w.endBusy.resumeVideo.startRelink := .of_slots (State.startRelink_slots _)
  unfold State.goesOn
  exact (hvideo.trans hlink).trans (.of_slots (State.startHealth_keeps.slots (by decide)))

/-- R407: no slot is BUSY once the Shepherd runs again. -/
theorem State.goesOn_state {k : Nat} (hk : k < 12) (w : State) : (w.goesOn.slotAt k).state ≠ 1 :=
  fun hbusy => w.endBusy_state hk (w.goesOn_noneTaken k hbusy)

theorem State.reissueAll_boot (s : State) (ids : List Nat) : (s.forAll ids State.reissue).boot = s.boot :=
  State.forAll_same (g := State.boot) (fun _ _ => State.reissue_keeps.only.same .boot (by decide)) s ids

theorem State.modPens_boot (s : State) (pens : List Nat) (f : Pen → Pen) : (s.forAll pens (fun u p => u.modPen p f)).boot = s.boot :=
  State.forAll_same (g := State.boot) (fun u p => u.modPen_boot p f) s pens

section Restart

variable {s : State} {g : Sheepdog} (hresetting : s.boot.resetting = some .controlComplex) (hruns : s.boot.shepherdRuns = false)
  (hdraining : s.boot.ccDraining = false) (hboot : s.canBoot = true)

include hresetting hruns hdraining hboot

/-- R437, R443: the condition of a restart. -/
theorem State.restarts : (s.quiet.boot.resetting = some .controlComplex && !s.quiet.boot.shepherdRuns && !s.quiet.boot.ccDraining &&
    s.quiet.canBoot) = true := by
  have hquiet : s.quiet.canBoot = true := hboot
  rw [hquiet, State.quiet_boot, hresetting, hruns, hdraining]
  rfl

/-- R357, R475: the Shepherd starts from an image, and the device is at its stage again. -/
theorem exec_shepherdRestart_image {i : Nat} (hchoice : s.dog.choose (s.boot.lastCause = 11) = (g, some i)) :
    ∃ w : State, exec .shepherdRestart s = .next w.goesOn ∧ w.boot = { s.boot with
      shepherdRuns := true, resetting := none, fieldEn := true, stage := if i < 2 then s.boot.ccStage else 2 } := by
  have hchosen : s.quiet.bootImage (s.quiet.boot.lastCause = 11) = _ := State.bootImage_some (s := s.quiet) hchoice
  change ∃ w : State, execShepherdRestart s = _ ∧ _
  unfold execShepherdRestart
  dsimp only
  rw [if_pos (State.restarts hresetting hruns hdraining hboot), hchosen]
  refine ⟨_, State.done_goesOn _, ?_⟩
  rw [State.reissueAll_boot, State.modPens_boot, State.modComp_boot, State.modDog_boot, State.setStage_boot]
  rfl

/-- R438, R475: with no image that verifies the device stays at stage 1. -/
theorem exec_shepherdRestart_none (hchoice : s.dog.choose (s.boot.lastCause = 11) = (g, none)) :
    exec .shepherdRestart s = .next (((s.quiet.modDog (fun _ => g)).setStage 1).logFault 13 0x0901 .uncontained) := by
  have hchosen : s.quiet.bootImage (s.quiet.boot.lastCause = 11) = _ := State.bootImage_none (s := s.quiet) hchoice
  change execShepherdRestart s = _
  unfold execShepherdRestart
  dsimp only
  rw [if_pos (State.restarts hresetting hruns hdraining hboot), hchosen]
  rfl

end Restart

/-! ### The statement -/

/-- Settles O12: each clause is what its event does under the clause's conditions. -/
theorem shepherdRestartAndHealth : Obligations.ShepherdRestartAndHealth := by
  unfold Obligations.ShepherdRestartAndHealth
  refine ⟨?drained, ?image, ?none, ?fallback, ?noFallback, ?watchdog, ?selftest, ?heartbeat⟩
  case drained =>
    intro s hresetting hdraining hdrained
    refine ⟨_, exec_ccDrainComplete hresetting hdraining hdrained, ?_, ?_, ?_, ?_, State.drained_held⟩
    all_goals rw [State.drained_boot]
    exact hresetting
  case image =>
    intro i g s hresetting hruns hdraining hboot hchoice
    obtain ⟨w, hexec, hw⟩ := exec_shepherdRestart_image hresetting hruns hdraining hboot hchoice
    refine ⟨_, hexec, ?_, ?_, ?_, fun _ k hk => w.goesOn_state hk⟩
    all_goals rw [State.goesOn_boot, hw]
  case none =>
    intro g s hresetting hruns hdraining hboot hchoice
    refine ⟨_, exec_shepherdRestart_none hresetting hruns hdraining hboot hchoice, ?_, ?_, ?_⟩
    all_goals rw [State.logFault_boot, State.setStage_boot]
    · exact hruns
    · exact hresetting
  case fallback =>
    intro s hunconfirmed hstarted hconfirming
    have hends : (s.quiet.dog.fwUnconfirmed && s.quiet.dog.healthStart.isSome && !s.quiet.dog.confirming) = true := by
      rw [State.quiet_dog, hunconfirmed, hstarted, hconfirming]
      rfl
    change execFwHealthTimeout s = _
    unfold execFwHealthTimeout
    dsimp only
    rw [if_pos hends]
    rfl
  case noFallback =>
    intro s hnone
    have hends : ¬ (s.quiet.dog.fwUnconfirmed && s.quiet.dog.healthStart.isSome && !s.quiet.dog.confirming) = true := by
      rw [State.quiet_dog]
      rcases hnone with h | h | h <;> simp [h]
    change execFwHealthTimeout s = _
    unfold execFwHealthTimeout
    dsimp only
    rw [if_neg hends]
    rfl
  case watchdog =>
    intro s hstarted hconfirmed hresetting hstage hcomplex
    have hends : (s.quiet.dog.healthStart.isSome && !s.quiet.dog.fwUnconfirmed) = true := by
      rw [State.quiet_dog, hstarted, hconfirmed]
      rfl
    have hexec : exec .healthWatchdog s = .next (s.quiet.ccReset 12) := by
      change execHealthWatchdog s = _
      unfold execHealthWatchdog
      dsimp only
      rw [if_pos hends]
      rfl
    exact ⟨_, hexec, .of_quiet (State.ccReset_after (s := s.quiet) (by decide) hresetting hstage hcomplex)⟩
  case selftest =>
    intro s hunconfirmed hstarted hmode
    have hpasses : (s.quiet.dog.fwUnconfirmed && s.quiet.dog.healthStart.isSome && s.quiet.dog.inUse.confirmMode = 1) = true := by
      rw [State.quiet_dog, hunconfirmed, hstarted, hmode]
      rfl
    have hexec : exec .firmwareSelftestPass s = .next (s.quiet.modDog Sheepdog.confirmHealth) := by
      change execFirmwareSelftestPass s = _
      unfold execFirmwareSelftestPass
      dsimp only
      rw [if_pos hpasses]
      rfl
    refine ⟨_, hexec, rfl, (execFirmwareSelftestPass_keeps _ hexec).only, Sheepdog.confirmHealth_now, fun hdown => ?_⟩
    obtain ⟨hsame, hconfirming⟩ := Sheepdog.confirmHealth_later hdown
    exact ⟨hsame.trans hunconfirmed, hconfirming⟩
  case heartbeat =>
    intro s hruns
    change execHeartbeatIncrement s = _
    unfold execHeartbeatIncrement
    dsimp only
    rw [State.quiet_boot, if_pos hruns]
    rfl

end Sys2Proof.Machine

/-! SUPPORT. The whole machine: the step, and the frame, the soundness and the completion of every command. -/

namespace Sys2Proof.Machine

/-! ### Every command keeps to its areas and keeps a sound machine sound -/

/-- The frame lemma of each row, for the row's own areas. -/
theorem exec_keeps : ∀ (c : Instr) (s : State), Result.Keeps (commandAreas c) s (exec c s)
  | .resetNLow, _ => execResetNLow_keeps
  | .resetNRelease, _ => execResetNRelease_keeps
  | .perstNAssert, _ => execPerstNAssert_keeps
  | .perstNRelease, _ => execPerstNRelease_keeps
  | .vddAonLoss, _ => execVddAonLoss_keeps
  | .vddTransitLoss _, _ => execVddTransitLoss_keeps
  | .railGood _, _ => execRailGood_keeps
  | .railHold _, _ => execRailHold_keeps
  | .railGoodTimeout _, _ => execRailGoodTimeout_keeps
  | .thermtrip _, _ => execThermtrip_keeps
  | .powerBrakeNAsserted, _ => execPowerBrakeNAsserted_keeps
  | .powerBrakeNReleased, _ => execPowerBrakeNReleased_keeps
  | .presencePress _, _ => execPresencePress_keeps
  | .presenceStuck, _ => execPresenceStuck_keeps
  | .presenceWindowExpiry, _ => execPresenceWindowExpiry_keeps
  | .sealSample _, _ => execSealSample_keeps
  | .stageManagement, _ => execStageManagement_keeps
  | .stageFirmware, _ => execStageFirmware_keeps
  | .stageReduced _ _, _ => execStageReduced_keeps
  | .stageMemory _ _, _ => execStageMemory_keeps
  | .stageFull, _ => execStageFull_keeps
  | .resetCtrlCc _, _ => execResetCtrlCc_keeps
  | .resetCtrlWarm _, _ => execResetCtrlWarm_keeps
  | .resetCtrlCold _, _ => execResetCtrlCold_keeps
  | .heartbeatReset, _ => execHeartbeatReset_keeps
  | .ccResetEscalation, _ => execCcResetEscalation_keeps
  | .ccDrainComplete, _ => execCcDrainComplete_keeps
  | .shepherdRestart, _ => execShepherdRestart_keeps
  | .fwHealthTimeout, _ => execFwHealthTimeout_keeps
  | .healthWatchdog, _ => execHealthWatchdog_keeps
  | .firmwareSelftestPass, _ => execFirmwareSelftestPass_keeps
  | .powerMeasurement _ _, _ => execPowerMeasurement_keeps
  | .capIteration, _ => execCapIteration_keeps
  | .tallyTick, _ => execTallyTick_keeps
  | .tallyReq, _ => execTallyReq_keeps
  | .mbCtrlGo _ _ _, _ => execMbCtrlGo_keeps
  | .mbCtrlAbort _ _, _ => execMbCtrlAbort_keeps
  | .commandTimeout _ _, _ => execCommandTimeout_keeps
  | .registerWrite _ _ _ _, _ => execRegisterWrite_keeps
  | .bar0Access _ _ _ _ _, _ => execBar0Access_keeps
  | .timeNowRead, _ => execTimeNowRead_keeps
  | .doorbellAdd _ _ _, _ => execDoorbellAdd_keeps
  | .doorbellRestart _ _ _, _ => execDoorbellRestart_keeps
  | .bar4Read _ _ _, _ => execBar4Read_keeps
  | .bar4Write _ _ _, _ => execBar4Write_keeps
  | .functionLevelReset _, _ => execFunctionLevelReset_keeps
  | .d3hotEntry, _ => execD3hotEntry_keeps
  | .i3cPrivateWrite _, _ => execI3cPrivateWrite_keeps
  | .i3cPrivateRead _, _ => execI3cPrivateRead_keeps
  | .entdaa _, _ => execEntdaa_keeps
  | .setdasa _ _, _ => execSetdasa_keeps
  | .rstdaa, _ => execRstdaa_keeps
  | .getpid, _ => execGetpid_keeps
  | .getbcr, _ => execGetbcr_keeps
  | .getdcr, _ => execGetdcr_keeps
  | .getstatus, _ => execGetstatus_keeps
  | .getmwl, _ => execGetmwl_keeps
  | .getmrl, _ => execGetmrl_keeps
  | .devIdentify _ _, _ => execDevIdentify_keeps
  | .devStatus _ _, _ => execDevStatus_keeps
  | .devCaps _ _, _ => execDevCaps_keeps
  | .penCreate _ _, _ => execPenCreate_keeps
  | .penDestroy _ _, _ => execPenDestroy_keeps
  | .penSetQuota _ _, _ => execPenSetQuota_keeps
  | .penSetPriority _ _, _ => execPenSetPriority_keeps
  | .penBindVf _ _, _ => execPenBindVf_keeps
  | .tensorRegister _ _, _ => execTensorRegister_keeps
  | .tensorRelease _ _, _ => execTensorRelease_keeps
  | .itineraryLoad _ _, _ => execItineraryLoad_keeps
  | .poolQuery _ _, _ => execPoolQuery_keeps
  | .baseRegister _ _, _ => execBaseRegister_keeps
  | .fabricTopologySet _ _, _ => execFabricTopologySet_keeps
  | .linkStatus _ _, _ => execLinkStatus_keeps
  | .queueCreate _ _, _ => execQueueCreate_keeps
  | .queueDestroy _ _, _ => execQueueDestroy_keeps
  | .timeRoleSet _ _, _ => execTimeRoleSet_keeps
  | .videoStreamOpen _ _, _ => execVideoStreamOpen_keeps
  | .videoStreamClose _ _, _ => execVideoStreamClose_keeps
  | .videoPoolSet _ _, _ => execVideoPoolSet_keeps
  | .fwUpdateBegin _ _ _, _ => execFwUpdateBegin_keeps
  | .fwUpdateBlock _ _ _, _ => execFwUpdateBlock_keeps
  | .fwUpdateCommit _ _ _, _ => execFwUpdateCommit_keeps
  | .fwConfirmHealth _ _, _ => execFwConfirmHealth_keeps
  | .fwUpdateAbort _ _, _ => execFwUpdateAbort_keeps
  | .fwSlotStatus _ _, _ => execFwSlotStatus_keeps
  | .lcStateGet _ _ _, _ => execLcStateGet_keeps
  | .lcTransition _ _ _, _ => execLcTransition_keeps
  | .ownerLock _ _ _, _ => execOwnerLock_keeps
  | .ownerUnlock _ _ _, _ => execOwnerUnlock_keeps
  | .faultRead _ _, _ => execFaultRead_keeps
  | .faultClear _ _, _ => execFaultClear_keeps
  | .tallySnapshot _ _, _ => execTallySnapshot_keeps
  | .telemetryRead _ _, _ => execTelemetryRead_keeps
  | .powerLimitSet _ _, _ => execPowerLimitSet_keeps
  | .jobSubmit _ _, _ => execJobSubmit_keeps
  | .jobQuiesce _ _, _ => execJobQuiesce_keeps
  | .jobResume _ _, _ => execJobResume_keeps
  | .checkpointDrain _ _, _ => execCheckpointDrain_keeps
  | .jobAbort _ _, _ => execJobAbort_keeps
  | .debugUnlock _ _ _, _ => execDebugUnlock_keeps
  | .debugRegRead _ _, _ => execDebugRegRead_keeps
  | .debugRegWrite _ _, _ => execDebugRegWrite_keeps
  | .gemm _, _ => execGemm_keeps
  | .conv _, _ => execConv_keeps
  | .cropResize _, _ => execCropResize_keeps
  | .norm _, _ => execNorm_keeps
  | .softmax _, _ => execSoftmax_keeps
  | .eltwise _, _ => execEltwise_keeps
  | .reduce _, _ => execReduce_keeps
  | .rngFill _, _ => execRngFill_keeps
  | .optStep _, _ => execOptStep_keeps
  | .loss _, _ => execLoss_keeps
  | .cast _, _ => execCast_keeps
  | .move _, _ => execMove_keeps
  | .fence _, _ => execFence_keeps
  | .layerMark _, _ => execLayerMark_keeps
  | .collStep _, _ => execCollStep_keeps
  | .attnFwd _, _ => execAttnFwd_keeps
  | .attnBwd _, _ => execAttnBwd_keeps
  | .taskIssue, _ => execTaskIssue_keeps
  | .taskCompletion _ _, _ => execTaskCompletion_keeps
  | .confirm _ _, _ => execConfirm_keeps
  | .reject _ _, _ => execReject_keeps
  | .foldBufferCe _ _, _ => execFoldBufferCe_keeps
  | .foldBufferUe _ _ _, _ => execFoldBufferUe_keeps
  | .foldParity _ _ _, _ => execFoldParity_keeps
  | .foldTaskTimeout _ _ _ _, _ => execFoldTaskTimeout_keeps
  | .spareTakeover _, _ => execSpareTakeover_keeps
  | .spareSelftest _ _, _ => execSpareSelftest_keeps
  | .fetchRepredict, _ => execFetchRepredict_keeps
  | .needWaitTimeout _, _ => execNeedWaitTimeout_keeps
  | .farReadComplete _ _ _ _, _ => execFarReadComplete_keeps
  | .farReadTimeout _ _, _ => execFarReadTimeout_keeps
  | .writeBehindComplete _, _ => execWriteBehindComplete_keeps
  | .farWriteFailure _ _, _ => execFarWriteFailure_keeps
  | .recipeComplete _, _ => execRecipeComplete_keeps
  | .dltEncodeComplete _, _ => execDltEncodeComplete_keeps
  | .poolExhausted _, _ => execPoolExhausted_keeps
  | .lastUseSweep, _ => execLastUseSweep_keeps
  | .goldenScrub _ _ _, _ => execGoldenScrub_keeps
  | .nearPastureRead _ _ _ _, _ => execNearPastureRead_keeps
  | .nearPastureWrite _ _ _ _, _ => execNearPastureWrite_keeps
  | .accumulateWrite _ _ _ _ _ _, _ => execAccumulateWrite_keeps
  | .wcAgeFlush _, _ => execWcAgeFlush_keeps
  | .requestAging _, _ => execRequestAging_keeps
  | .requestWaitBound _, _ => execRequestWaitBound_keeps
  | .stackTemperatureRead _ _, _ => execStackTemperatureRead_keeps
  | .slowRepeat, _ => execSlowRepeat_keeps
  | .npCe _, _ => execNpCe_keeps
  | .npUe _, _ => execNpUe_keeps
  | .patrolScrub _ _, _ => execPatrolScrub_keeps
  | .retrainPeriod _, _ => execRetrainPeriod_keeps
  | .retrainWindowStart, _ => execRetrainWindowStart_keeps
  | .retrainWindowEnd, _ => execRetrainWindowEnd_keeps
  | .portSignalDetect _ _, _ => execPortSignalDetect_keeps
  | .trainingFrame _ _ _ _ _, _ => execTrainingFrame_keeps
  | .portUp _ _ _ _, _ => execPortUp_keeps
  | .negotiationTimeout _, _ => execNegotiationTimeout_keeps
  | .negotiationRetry _, _ => execNegotiationRetry_keeps
  | .laneNarrowing _ _, _ => execLaneNarrowing_keeps
  | .laneWidening _, _ => execLaneWidening_keeps
  | .flit _ _, _ => execFlit_keeps
  | .validFlitTimeout _, _ => execValidFlitTimeout_keeps
  | .lossOfSignal _, _ => execLossOfSignal_keeps
  | .packet _ _, _ => execPacket_keeps
  | .refusal, _ => execRefusal_keeps
  | .ringNotice, _ => execRingNotice_keeps
  | .isolate, _ => execIsolate_keeps
  | .topologyDrainComplete, _ => execTopologyDrainComplete_keeps
  | .timeSync, _ => execTimeSync_keeps
  | .timeSyncPeriod, _ => execTimeSyncPeriod_keeps
  | .delayReq, _ => execDelayReq_keeps
  | .delayResp, _ => execDelayResp_keeps
  | .delayReqPeriod _, _ => execDelayReqPeriod_keeps
  | .holdover, _ => execHoldover_keeps
  | .epochReq, _ => execEpochReq_keeps
  | .beacon, _ => execBeacon_keeps
  | .beaconPeriod, _ => execBeaconPeriod_keeps
  | .beaconTimeout, _ => execBeaconTimeout_keeps
  | .probe, _ => execProbe_keeps
  | .probeTimeout, _ => execProbeTimeout_keeps
  | .bellwetherChange, _ => execBellwetherChange_keeps
  | .join, _ => execJoin_keeps
  | .faultNotice, _ => execFaultNotice_keeps
  | .collectEnd _, _ => execCollectEnd_keeps
  | .haltAckTimeout _, _ => execHaltAckTimeout_keeps
  | .recovery, _ => execRecovery_keeps
  | .recoveryAck, _ => execRecoveryAck_keeps
  | .managementResend, _ => execManagementResend_keeps
  | .coordinatorLost _, _ => execCoordinatorLost_keeps
  | .slow, _ => execSlow_keeps
  | .slowExpiry _, _ => execSlowExpiry_keeps
  | .collWatchdog _, _ => execCollWatchdog_keeps
  | .put _, _ => execPut_keeps
  | .get _, _ => execGet_keeps
  | .putAcc _, _ => execPutAcc_keeps
  | .atomic _, _ => execAtomic_keeps
  | .signal _, _ => execSignal_keeps
  | .ropFence _, _ => execRopFence_keeps
  | .putData, _ => execPutData_keeps
  | .getReq, _ => execGetReq_keeps
  | .atomicReq, _ => execAtomicReq_keeps
  | .signalReq, _ => execSignalReq_keeps
  | .putAccData, _ => execPutAccData_keeps
  | .ack, _ => execAck_keeps
  | .getData, _ => execGetData_keeps
  | .valueResp, _ => execValueResp_keeps
  | .ropTimeout _ _, _ => execRopTimeout_keeps
  | .data _, _ => execData_keeps
  | .output _, _ => execOutput_keeps
  | .encode _, _ => execEncode_keeps
  | .flush _, _ => execFlush_keeps
  | .picturePick _, _ => execPicturePick_keeps
  | .pictureEnd _, _ => execPictureEnd_keeps
  | .coreReset _, _ => execCoreReset_keeps
  | .quiesceDrainComplete _, _ => execQuiesceDrainComplete_keeps
  | .quiesceTimeout _, _ => execQuiesceTimeout_keeps
  | .wipeComplete _, _ => execWipeComplete_keeps
  | .hubEcc _, _ => execHubEcc_keeps
  | .droveRoadCe _, _ => execDroveRoadCe_keeps
  | .droveRoadUe _, _ => execDroveRoadUe_keeps
  | .commonsUe _, _ => execCommonsUe_keeps
  | .cometSramUe, _ => execCometSramUe_keeps
  | .talsenLinkDown _, _ => execTalsenLinkDown_keeps
  | .talsenLinkUp _ _, _ => execTalsenLinkUp_keeps
  | .talsenCorrectedError _, _ => execTalsenCorrectedError_keeps
  | .holdupOkAsserted, _ => execHoldupOkAsserted_keeps
  | .flashSectorErased, _ => execFlashSectorErased_keeps
  | .farPastureOverwrite _ _, _ => execFarPastureOverwrite_keeps
  | .heartbeatIncrement, _ => execHeartbeatIncrement_keeps
  | .hostLinkRetrain _ _ _, _ => execHostLinkRetrain_keeps
  | .videoCoreResetEnd _, _ => execVideoCoreResetEnd_keeps

theorem State.Sound.dequeue {s : State} (h : s.Sound) (rest : List Instr) : State.Sound { s with pending := rest } := { h with }

theorem step_keeps_sound {s t : State} (hs : s.Sound) (h : step s = .next t) : t.Sound := by
  unfold step at h
  split at h
  · cases h
    exact idleTick_keeps.sound hs
  · exact (exec_keeps _ _ t h).sound (hs.dequeue _)

/-! ### Every command completes within near pasture (R255) -/

/-- The result is a next state. -/
def Result.Completes (r : Result) : Prop := ∃ t, r = .next t

theorem Result.completes_done (s : State) : Result.Completes (done s) := ⟨s, rfl⟩

theorem npCommand_completes {s : State} {r : NpReq} {len : Nat} (h : r.kind.addr + len ≤ nearBytes) : (npCommand s r len).Completes := by
  rw [npCommand, if_neg (Nat.not_lt.2 h)]
  exact Result.completes_done _

theorem execNpCe_completes {a : Nat} (h : a < nearBytes) (s : State) : (execNpCe a s).Completes := by
  rw [execNpCe, if_neg (Nat.not_le.2 h)]
  exact Result.completes_done _

theorem execNpUe_completes {a : Nat} (h : a < nearBytes) (s : State) : (execNpUe a s).Completes := by
  rw [execNpUe, if_neg (Nat.not_le.2 h)]
  exact Result.completes_done _

theorem i3cFree_completes (n : Nat) (s : State) : (i3cFree n s).Completes := by
  unfold i3cFree
  dsimp only
  split <;> exact Result.completes_done _

/-- Only the five commands that name a near address look at it; every branch of every other command ends in a next state. -/
theorem exec_completes {c : Instr} {s : State} (h : Instr.nearEnd c ≤ nearBytes) : Result.Completes (exec c s) := by
  cases c
  case nearPastureRead => exact npCommand_completes h
  case nearPastureWrite => exact npCommand_completes h
  case accumulateWrite => exact npCommand_completes h
  case npCe => exact execNpCe_completes h s
  case npUe => exact execNpUe_completes h s
  case getbcr | getdcr => exact i3cFree_completes 1 s
  case getstatus | getmwl | getmrl => exact i3cFree_completes 2 s
  all_goals first
    | exact Result.completes_done _
    | clear h
      unfold exec
      dsimp only
      dsimp only [execSealSample, execStageManagement, execStageFirmware, execStageReduced, execStageMemory, execCcDrainComplete,
        execShepherdRestart, execTallyTick, execTallyReq, execCommandTimeout, execRegisterWrite, execBar0Access, execBar4Read,
        execBar4Write, execFunctionLevelReset, execI3cPrivateWrite, execI3cPrivateRead, execEntdaa, execConfirm, execReject,
        execFoldBufferCe, execFoldTaskTimeout, execSpareTakeover, execSpareSelftest, execNeedWaitTimeout, execFarReadComplete,
        execFarReadTimeout, execWriteBehindComplete, execRecipeComplete, execDltEncodeComplete, execPoolExhausted,
        execGoldenScrub, execRequestWaitBound, execStackTemperatureRead, execRetrainWindowStart, execRetrainWindowEnd,
        execTrainingFrame, execPortUp, execLaneNarrowing, execLossOfSignal, execPacket, execRefusal, execRingNotice, execIsolate,
        execTopologyDrainComplete, execTimeSync, execTimeSyncPeriod, execDelayReq, execDelayResp, execEpochReq, execBeacon,
        execProbe, execBellwetherChange, execJoin, execFaultNotice, execCollectEnd, execHaltAckTimeout, execRecovery,
        execRecoveryAck, execSlow, execCollWatchdog, execRopTimeout, execPicturePick, execPictureEnd, execCoreReset,
        execQuiesceDrainComplete, execQuiesceTimeout, execWipeComplete, execTalsenLinkDown, execTalsenLinkUp,
        execFarPastureOverwrite, execVideoCoreResetEnd]
      repeat' first | exact Result.completes_done _ | split

/-! ### The statements -/

theorem State.reset_sound : State.reset.Sound where
  dog := by unfold Sheepdog.Sound; decide
  boot := by unfold Boot.Sound; decide
  host := ⟨rfl, rfl⟩
  comp := ⟨rfl, rfl⟩
  pens := ⟨rfl, fun p hp => by rw [List.eq_of_mem_replicate hp]; rfl⟩
  talsen := rfl
  np := ⟨rfl, rfl, rfl, List.nodup_nil, nofun⟩
  fab := ⟨rfl, rfl⟩
  time := by unfold TimeUnit.Sound; decide
  video := rfl
  health := ⟨rfl, rfl, by decide, by decide⟩

/-- Settles O1: `step` looks at the queue alone. -/
theorem stepRunsFrontCommand : Obligations.StepRunsFrontCommand := by
  unfold Obligations.StepRunsFrontCommand
  intro c rest s
  rfl

/-- Settles O4: part by part. -/
theorem resetIsSound : Obligations.ResetIsSound := State.reset_sound

/-- Settles O5: an idle tick and every command keep a sound machine sound. -/
theorem stepsKeepTheMachineSound : Obligations.StepsKeepTheMachineSound := fun _ _ => step_keeps_sound

/-- Settles O6: the frame lemma of the command's row, and that the command completes. -/
theorem commandFrames : Obligations.CommandFrames := by
  unfold Obligations.CommandFrames
  refine ⟨fun c s t h => (exec_keeps c s t h).only, fun c s h => ?_⟩
  obtain ⟨t, ht⟩ := exec_completes (s := s) h
  exact ⟨t, ht, (exec_keeps c s t ht).only⟩

end Sys2Proof.Machine

/-! SUPPORT. A slot's answer (R399, R407), and the time limit of a block of an image (R403, R428). -/

namespace Sys2Proof.Machine

/-! ### The answer of a slot (R399, R407) -/

/-- R399: the response to the request that a slot holds: the echoed header around the status, and the payload. -/
def Mailbox.response (m : Mailbox) (st : Nat) (payload : List Byte) : List Byte :=
  m.taken.take 2 ++ [BitVec.ofNat 8 st, 0] ++ (m.taken.drop 4).take 4 ++ payload

theorem Mailbox.response_length {m : Mailbox} (h : 8 ≤ m.taken.length) (st : Nat) (payload : List Byte) :
    (m.response st payload).length = 8 + payload.length := by
  simp only [Mailbox.response, List.length_append, List.length_take, List.length_drop, List.length_cons, List.length_nil]
  omega

/-- The slot once it is answered. -/
def Mailbox.answered (m : Mailbox) (st : Nat) (payload : List Byte) : Mailbox :=
  { m with state := 2, last := BitVec.ofNat 8 st, rsp := trimZeros (m.response st payload), rspLen := (m.response st payload).length,
           evt := true, taken := [] }

section Answer

variable {s : State} {i : Nat} (st : Nat) (payload : List Byte) (hd : (s.slotAt i).discard = false)
include hd

theorem State.answer_slotAt (hi : i < s.host.slots.length) :
    (s.answer i st payload).slotAt i = (s.slotAt i).answered st payload := by
  unfold State.answer
  dsimp only
  rw [if_neg (by simp [hd])]
  split
  · rw [State.raiseVector_slotAt]
    exact State.modSlot_slotAt _ hi
  · exact State.modSlot_slotAt _ hi

theorem State.answer_quietly (hirq : (s.slotAt i).irq = false) : s.answer i st payload = s.modSlot i (fun x => { x with
    state := 2, last := BitVec.ofNat 8 st, rsp := trimZeros ((s.slotAt i).response st payload)
    rspLen := ((s.slotAt i).response st payload).length, evt := true, taken := [] }) := by
  unfold State.answer
  dsimp only
  rw [if_neg (by simp [hd]), if_neg (by simp [hirq])]
  rfl

end Answer

/-- Settles O21: the slot is the answered one, and without DONE_IRQ nothing else changes. -/
theorem mailboxAnswer : Obligations.MailboxAnswer := by
  unfold Obligations.MailboxAnswer
  intro i st payload s hi hs hd ht
  have hslot := State.answer_slotAt st payload hd (hs.2 ▸ hi)
  dsimp only
  rw [hslot]
  exact ⟨rfl, rfl, Mailbox.response_length ht st payload, rfl, rfl, State.answer_quietly st payload hd⟩

/-! ### A block of an image at its time limit (R428, R473) -/

namespace BlockTimeout

/-- A machine whose slot 0 is BUSY with an FW_UPDATE_BLOCK. -/
def waiting : State := State.reset.modSlot 0 (fun m => { m with state := 1, taken := leBytes 2 0x0602 })

/-- The status that a result leaves in slot 0. -/
def status : Result → Option Byte
  | .next t => some (t.slotAt 0).last
  | .fault _ | .refused _ => none

theorem status_commandTimeout : status (exec (.commandTimeout 0 0) waiting) = some (BitVec.ofNat 8 stBusy) := rfl

theorem status_timeout : status (.next ((waiting.quiet.cancelWait 0).answer 0 stTimeout [])) = some (BitVec.ofNat 8 stTimeout) := rfl

end BlockTimeout

/-- Refutes O20: a block that waits for its sectors' erase ends its 40 ms with BUSY and its NEXT_OFFSET (R428), not with TIMEOUT. -/
theorem not_mailboxControl : ¬ Obligations.MailboxControl := by
  unfold Obligations.MailboxControl
  rintro ⟨-, -, -, -, -, htimeout, -⟩
  have h := (htimeout 0 0 BlockTimeout.waiting rfl).1 (by decide)
  have hstatus := congrArg BlockTimeout.status h
  rw [BlockTimeout.status_commandTimeout] at hstatus
  exact absurd (hstatus.trans BlockTimeout.status_timeout) (by decide)

end Sys2Proof.Machine

/-! SUPPORT. The management port (R463), and what a function-level reset leaves of the other slots (R394, R402). -/

namespace Sys2Proof.Machine

/-! ### The I3C management port (R463) -/

theorem State.drawBytes_length (s : State) (n : Nat) : (s.drawBytes n).1.length = n := by
  induction n generalizing s with
  | zero => rfl
  | succ n ih => exact congrArg (· + 1) (ih _)

theorem State.drawBytes_only (s : State) (n : Nat) : Only [.free] s (s.drawBytes n).2 := State.drawBytes_keeps.only

section Served

variable {s : State} (h : 1 ≤ s.boot.stage)
include h

theorem State.i3cServes_quiet_eq_true : s.quiet.i3cServes = true := decide_eq_true h

/-- R463: a write of the controller sets the offset, and writes RESET_CTRL when it spans 0x40. -/
theorem exec_i3cPrivateWrite {bytes : List Byte} (hlen : 2 ≤ bytes.length) :
    exec (.i3cPrivateWrite bytes) s = .next (
      let u := s.quiet.modHost (fun h => { h with i3cOffset := leField bytes 0 2 })
      if leField bytes 0 2 ≤ 0x40 ∧ 0x40 < leField bytes 0 2 + (bytes.length - 2)
      then u.writeResetCtrl (leField (bytes.drop 2) (0x40 - leField bytes 0 2) 4) else u) := by
  change execI3cPrivateWrite bytes s = _
  unfold execI3cPrivateWrite
  simp only [State.i3cServes_quiet_eq_true h, hlen, List.length_drop, decide_true, Bool.and_self, if_true, Bool.and_eq_true, decide_eq_true_eq]
  rfl

theorem i3cFree_served (n : Nat) :
    i3cFree n s = .next ((s.quiet.drawBytes n).2.emit (.i3c (s.quiet.drawBytes n).1)) := by
  unfold i3cFree
  dsimp only
  rw [if_pos (State.i3cServes_quiet_eq_true h)]
  rfl

/-- A CCC whose answer the manual does not state answers free bytes, and changes nothing else. -/
theorem i3cFree_answers (n : Nat) : ∃ t bs, i3cFree n s = .next t ∧ t.out = [.i3c bs] ∧ bs.length = n ∧ Only [.out, .free] s t := by
  have hout : (s.quiet.drawBytes n).2.out = [] := (State.drawBytes_only s.quiet n).same .out (by decide)
  refine ⟨_, (s.quiet.drawBytes n).1, i3cFree_served h n, ?_, State.drawBytes_length _ n, (i3cFree_keeps _ (i3cFree_served h n)).only⟩
  rw [State.emit_out, hout, List.nil_append]

theorem exec_entdaa (a : BitVec 7) (hfree : s.host.i3cAddr = none) : exec (.entdaa a) s = .next
    (((s.quiet.drawBytes 2).2.modHost (fun h => { h with i3cAddr := some a })).emit (.i3c (leBytes 6 s.i3cPid ++ (s.quiet.drawBytes 2).1))) := by
  change execEntdaa a s = _
  unfold execEntdaa
  simp only [State.i3cServes_quiet_eq_true h, State.quiet_host, hfree, Option.isNone_none, Bool.and_self, if_true]
  rfl

end Served

/-- Settles O25: each clause is what its command does where the port serves. -/
theorem managementPort : Obligations.ManagementPort := by
  unfold Obligations.ManagementPort
  refine ⟨?write, ?resetCtrl, ?read, ?entdaa, ?setdasa, ?rstdaa, ?getpid, ?unstated⟩
  case write =>
    intro bytes s h hlen houtside
    rw [exec_i3cPrivateWrite h hlen]
    exact congrArg _ (if_neg (by omega))
  case resetCtrl =>
    intro v s h
    have hoff : leField (leBytes 2 0x40 ++ leBytes 4 v.toNat) 0 2 = 0x40 := leField_leBytes_append 2 0x40 _
    have hdata : leField (leBytes 4 v.toNat) 0 4 = v.toNat := by
      rw [leField, List.drop_zero, List.take_of_length_le (Nat.le_of_eq (length_leBytes _ _)), leNat_leBytes]
      exact Nat.mod_eq_of_lt v.isLt
    rw [exec_i3cPrivateWrite h (by simp)]
    simp only [hoff, List.length_append, length_leBytes]
    rw [if_pos (by omega), Nat.sub_self, List.drop_left' (length_leBytes _ _), hdata]
  case read =>
    intro len s h
    exact (if_pos (State.i3cServes_quiet_eq_true h))
  case entdaa =>
    intro a s h hfree
    have hout : (s.quiet.drawBytes 2).2.out = [] := (State.drawBytes_only s.quiet 2).same .out (by decide)
    have hexec := exec_entdaa h a hfree
    refine ⟨_, (s.quiet.drawBytes 2).1, hexec, rfl, State.drawBytes_length _ 2, ?_, (exec_keeps _ s _ hexec).only⟩
    rw [State.emit_out, State.modHost_out, hout, List.nil_append]
    rfl
  case setdasa =>
    intro a s h hfree
    change execSetdasa 0x2C a s = _
    unfold execSetdasa
    simp only [State.i3cServes_quiet_eq_true h, State.quiet_host, hfree, Option.isNone_none, decide_true, Bool.and_self, if_true]
    rfl
  case rstdaa =>
    intro s h
    exact congrArg Host.Outcome.next (if_pos (State.i3cServes_quiet_eq_true h))
  case getpid =>
    intro s h
    exact congrArg Host.Outcome.next (if_pos (State.i3cServes_quiet_eq_true h))
  case unstated =>
    intro c s h hc
    simp only [List.mem_cons, List.not_mem_nil, or_false] at hc
    rcases hc with rfl | rfl | rfl | rfl | rfl
    · exact i3cFree_answers h 1
    · exact i3cFree_answers h 1
    · exact i3cFree_answers h 2
    · exact i3cFree_answers h 2
    · exact i3cFree_answers h 2

/-! ### A function-level reset while another slot's request fails its checks (R394, R400, R402) -/

namespace RefusedNext

/-- A machine at stage 2 whose host link is up, with an empty request in slot 0. -/
def waiting : State :=
  (State.reset.modBoot (fun b => { b with stage := 2, linkUp := true, shepherdRuns := true })).modSlot 0 (fun m => { m with go := true })

theorem sound : waiting.host.Sound := ⟨rfl, rfl⟩

theorem unbound : waiting.boundPen 1 = none := rfl

/-- The requests that a result has counted (item 38 of Table 20.6). -/
def requests : Result → Option DWord
  | .next t => t.health.counters[38]?
  | .fault _ | .refused _ => none

theorem requests_functionLevelReset : requests (exec (.functionLevelReset 1) waiting) = some 1 := rfl

end RefusedNext

/-- Refutes O24: the round that goes on after the reset of a slot takes and counts the request of another slot that fails its checks, so
the counters change too. -/
theorem not_hostFunctionEvents : ¬ Obligations.HostFunctionEvents := by
  unfold Obligations.HostFunctionEvents
  rintro ⟨hreset, -⟩
  obtain ⟨t, ht, -, -, -, honly⟩ := hreset 1 RefusedNext.waiting (by decide) rfl
    (fun p hp => by rw [show ((1 : Fin 9) : Nat) = 1 from rfl, RefusedNext.unbound] at hp; cases hp) RefusedNext.sound
  have hhealth : t.health = RefusedNext.waiting.health := honly.same .health (by decide)
  have hcount := RefusedNext.requests_functionLevelReset
  rw [ht, RefusedNext.requests, hhealth] at hcount
  exact absurd hcount (by decide)

end Sys2Proof.Machine

/-! SUPPORT. The Sheepdog's inputs (R459, R461, R473): what its own writes may change, the presence window and the seal loop; and the end
of a sector's erase (R472). -/

namespace Sys2Proof.Machine

/-! ### What the Sheepdog's own writes may change (R469, R473, R478) -/

/-- What the Sheepdog's own writes leave: everything but the structures in flash, the journal, the fused floor and the state of the
confirmation. -/
def Sheepdog.unwritten (g : Sheepdog) : Sheepdog := { g with
  journal := [], journalSeq := 0, bcb := [], identity := [], settings := [], floor := 0, fwUnconfirmed := false, healthStart := none }

/-- Nothing but what the Sheepdog's own writes write differs. -/
abbrev Sheepdog.Written (g h : Sheepdog) : Prop := h.unwritten = g.unwritten

namespace Sheepdog.Written

theorem refl (g : Sheepdog) : g.Written g := rfl

theorem trans {g h k : Sheepdog} (hgh : g.Written h) (hhk : h.Written k) : g.Written k := Eq.trans hhk hgh

theorem foldl {α : Type} {f : Sheepdog → α → Sheepdog} (hf : ∀ (g : Sheepdog) (x : α), g.Written (f g x)) (g : Sheepdog) (l : List α) :
    g.Written (l.foldl f g) := by
  induction l generalizing g with
  | nil => exact refl g
  | cons x l ih => exact (hf g x).trans (ih (f g x))

theorem of_journaled {g h : Sheepdog} : g.Journaled h → g.Written h
  | ⟨_, _, hh⟩ => by rw [hh]; rfl

theorem rewritten (g : Sheepdog) (a : Nat) : g.Written (g.rewritten a) := of_journaled (.rewritten g a)

theorem bcb (g : Sheepdog) (l : List Bcb) : g.Written { g with bcb := l } := rfl

theorem identity (g : Sheepdog) (l : List Identity) : g.Written { g with identity := l } := rfl

theorem settings (g : Sheepdog) (l : List Settings) : g.Written { g with settings := l } := rfl

theorem writeBcb (g : Sheepdog) (f : Bcb → Bcb) : g.Written (g.writeBcb f) := (rewritten g _).trans (bcb _ _)

theorem writeIdentity (g : Sheepdog) (f : Identity → Identity) : g.Written (g.writeIdentity f) := (rewritten g _).trans (identity _ _)

theorem writeSettings (g : Sheepdog) (k : Nat) (x : Settings) : g.Written (g.writeSettings k x) := (rewritten g _).trans (settings _ _)

theorem changeSettings (g : Sheepdog) (x : Settings) : g.Written (g.changeSettings x) := by
  unfold Sheepdog.changeSettings
  dsimp only
  split
  · exact writeSettings g _ x
  · exact (writeSettings g _ x).trans (writeBcb _ _)

theorem applyOwn (g : Sheepdog) (w : OwnWrite) : g.Written (g.applyOwn w) := by
  cases w with
  | retire k => exact writeIdentity g (fun x => { x with retired := insertNat k x.retired })
  | unretire k => exact writeIdentity g (fun x => { x with retired := x.retired.filter (· != k) })
  | sealCount => exact writeIdentity g (fun x => { x with sealCount := x.sealCount + 1 })
  | identity => exact writeIdentity g id
  | bcbFallback => exact writeBcb g Bcb.fallback
  | bcbConfirm => exact writeBcb g Bcb.confirm
  | bcbSelect b => exact writeBcb g (fun y => { b with seq := y.seq })
  | settings x => exact changeSettings g x
  | settingsCopy k x => exact writeSettings g k x
  | floor => rfl
  | confirmed => rfl

/-- The waiting writes are done, and none waits. -/
theorem flushOwn (g : Sheepdog) : Sheepdog.Written { g with ownWrites := [] } g.flushOwn := foldl applyOwn _ _

/-- A write of the Sheepdog's own is done, or waits too. -/
theorem ownWrite (g : Sheepdog) (w : OwnWrite) : ∃ l, Sheepdog.Written { g with ownWrites := l } (g.ownWrite w) := by
  unfold Sheepdog.ownWrite
  split
  · exact ⟨_, applyOwn g w⟩
  · exact ⟨_, refl _⟩

section Fields

variable {g h : Sheepdog} (hw : g.Written h)
include hw

theorem ownerSlots : h.ownerSlots = g.ownerSlots := (congrArg Sheepdog.ownerSlots hw :)
theorem lcState : h.lcState = g.lcState := (congrArg Sheepdog.lcState hw :)
theorem flashMib : h.flashMib = g.flashMib := (congrArg Sheepdog.flashMib hw :)
theorem session : h.session = g.session := (congrArg Sheepdog.session hw :)
theorem ownWrites : h.ownWrites = g.ownWrites := (congrArg Sheepdog.ownWrites hw :)
theorem window : h.window = g.window := (congrArg Sheepdog.window hw :)
theorem sealA : h.sealA = g.sealA := (congrArg Sheepdog.sealA hw :)
theorem sealMiss : h.sealMiss = g.sealMiss := (congrArg Sheepdog.sealMiss hw :)
theorem sealBroken : h.sealBroken = g.sealBroken := (congrArg Sheepdog.sealBroken hw :)
theorem strap : h.strap = g.strap := (congrArg Sheepdog.strap hw :)
theorem holdup : h.holdup = g.holdup := (congrArg Sheepdog.holdup hw :)
theorem debugLevel : h.debugLevel = g.debugLevel := (congrArg Sheepdog.debugLevel hw :)

end Fields

end Sheepdog.Written

/-! ### The seal loop (R461) -/

/-- R461, R473: the millisecond's sample of LOCK_STRAP_N and HOLDUP_OK; HOLDUP_OK lets the waiting writes go. -/
def Sheepdog.sampled (g : Sheepdog) (strap holdup : Bool) : Sheepdog :=
  { (if holdup then { g with strap := strap }.flushOwn else { g with strap := strap }) with holdup := holdup }

theorem Sheepdog.sampled_written (g : Sheepdog) (strap holdup : Bool) : Sheepdog.Written
    { g with strap := strap, holdup := holdup, ownWrites := if holdup then [] else g.ownWrites } (g.sampled strap holdup) := by
  cases holdup
  · rfl
  · exact congrArg (fun k : Sheepdog => { k with holdup := true }) (Sheepdog.Written.flushOwn { g with strap := strap })

/-- R461: the state after a sample: the inputs, and the level that SEAL_SENSE_A takes next. -/
def State.sealSampled (s : State) (strap holdup : Bool) (miss : Nat) : State :=
  ((s.quiet.modDog (fun g => g.sampled strap holdup)).spend 1).modDog (fun g => { g with
    sealA := (Config.freeBits s.free).getLsbD 0, sealMiss := miss })

section SealSample

variable {s : State} (strap holdup : Bool)

theorem State.sealSampled_dog (miss : Nat) : Sheepdog.Written { s.dog with
    strap := strap, holdup := holdup, ownWrites := if holdup then [] else s.dog.ownWrites
    sealA := (Config.freeBits s.free).getLsbD 0, sealMiss := miss } (s.sealSampled strap holdup miss).dog :=
  congrArg (fun k : Sheepdog => { k with sealA := (Config.freeBits s.free).getLsbD 0, sealMiss := miss }) (s.dog.sampled_written strap holdup)

/-- R461: the mismatches in a row after a sample of SEAL_SENSE_B. -/
def Sheepdog.missed (g : Sheepdog) (senseB : Bool) : Nat := if senseB = g.sealA then 0 else min 3 (g.sealMiss + 1)

theorem Sheepdog.missed_same (g : Sheepdog) : g.missed g.sealA = 0 := if_pos rfl

theorem Sheepdog.missed_other (g : Sheepdog) : g.missed (!g.sealA) = min 3 (g.sealMiss + 1) := if_neg (Bool.not_ne_self _)

theorem Sheepdog.missed_sampled (g : Sheepdog) (senseB : Bool) : (g.sampled strap holdup).missed senseB = g.missed senseB := by
  rw [Sheepdog.missed, (g.sampled_written strap holdup).sealA, (g.sampled_written strap holdup).sealMiss]
  rfl

/-- R461: the third mismatch in a row breaks the seal. -/
def State.breakSeal (s : State) : State :=
  ((s.modDog (fun g => { g with window := none, debugLevel := 0, sealBroken := true })).ownWrite .sealCount).logFault 13 0x0904 .corrected

theorem exec_sealSample (senseB : Bool) : exec (.sealSample ⟨senseB, strap, holdup⟩) s =
    if s.dog.missed senseB = 3 && s.dog.sealMiss < 3 then .next (s.sealSampled strap holdup (s.dog.missed senseB)).breakSeal
    else .next (s.sealSampled strap holdup (s.dog.missed senseB)) := by
  rw [← s.dog.missed_sampled strap holdup, ← (s.dog.sampled_written strap holdup).sealMiss]
  rfl

end SealSample

/-- Settles O13: each clause is what its event does to the Sheepdog. -/
theorem presenceAndSeal : Obligations.PresenceAndSeal := by
  unfold Obligations.PresenceAndSeal
  refine ⟨fun rested s hstage hseal hrest => ?press, fun rested s hnot => ?ignored, fun s => ?stuck, fun s => rfl,
    fun strap holdup s => ?same, fun strap holdup s hmiss => ?miss, fun strap holdup s hmiss => ?broken⟩
  case press =>
    have hexec : exec (.presencePress rested) s = .next (s.quiet.modDog (fun g => { g with
        window := some (s.time.clock + 30000000000), sealBroken := false, presenceStuck := false })) := by
      refine congrArg Host.Outcome.next (if_pos ?_)
      simpa [hseal, hstage] using hrest
    refine ⟨_, hexec, ?_, ?_, rfl, rfl, (exec_keeps _ s _ hexec).only⟩
    · exact decide_eq_true (by dsimp; omega)
    · dsimp [State.windowSeconds, secondsLeft]
      omega
  case ignored =>
    refine congrArg Host.Outcome.next (if_neg ?_)
    rcases hnot with h | h | ⟨h, h'⟩ <;> simp [h]
    exact fun _ _ => h'
  case stuck =>
    have hdog : ((s.quiet.modDog (fun g => { g with window := none, presenceStuck := true })).logFault 13 0x0903 .corrected).dog =
        { s.dog with window := none, presenceStuck := true } := State.logFault_dog ..
    refine ⟨_, rfl, ?_, congrArg Sheepdog.presenceStuck hdog, (exec_keeps .presenceStuck s _ rfl).only⟩
    rw [State.windowOpen, hdog]
  case same =>
    have hexec : exec (.sealSample ⟨s.dog.sealA, strap, holdup⟩) s = .next (s.sealSampled strap holdup 0) := by
      rw [exec_sealSample, Sheepdog.missed_same]
      rfl
    have hdog := State.sealSampled_dog (s := s) strap holdup 0
    exact ⟨_, hexec, hdog.sealMiss, hdog.sealA, hdog.window, hdog.debugLevel, rfl, hdog.strap, hdog.holdup,
      fun h => hdog.ownWrites.trans (if_pos h), fun h => hdog.ownWrites.trans (if_neg (Bool.eq_false_iff.1 h))⟩
  case miss =>
    have hexec : exec (.sealSample ⟨!s.dog.sealA, strap, holdup⟩) s = .next (s.sealSampled strap holdup (s.dog.sealMiss + 1)) := by
      rw [exec_sealSample, Sheepdog.missed_other, Nat.min_eq_right (by omega)]
      exact if_neg (by simp; omega)
    have hdog := State.sealSampled_dog (s := s) strap holdup (s.dog.sealMiss + 1)
    exact ⟨_, hexec, hdog.sealMiss, hdog.window, hdog.sealBroken, hdog.strap, hdog.holdup⟩
  case broken =>
    have hexec : exec (.sealSample ⟨!s.dog.sealA, strap, holdup⟩) s = .next (s.sealSampled strap holdup 3).breakSeal := by
      rw [exec_sealSample, Sheepdog.missed_other, hmiss]
      rfl
    have hdog := State.sealSampled_dog (s := s) strap holdup 3
    obtain ⟨waits, hown⟩ := Sheepdog.Written.ownWrite { (s.sealSampled strap holdup 3).dog with
      window := none, debugLevel := 0, sealBroken := true } .sealCount
    refine ⟨_, hexec, ?_⟩
    rw [State.breakSeal, State.logFault_dog]
    exact ⟨hown.sealMiss.trans hdog.sealMiss, hown.window, hown.debugLevel, hown.sealBroken, hown.strap.trans hdog.strap,
      hown.holdup.trans hdog.holdup⟩

/-! ### The end of a sector's erase while a slot's request fails its checks (R400, R472) -/

namespace RefusedAtErase

/-- A machine whose update target is being erased, with an empty request in slot 0. -/
def waiting : State := RefusedNext.waiting.modDog (fun g => { g with erasing := [0xC00000] })

theorem requests_flashSectorErased : RefusedNext.requests (exec .flashSectorErased waiting) = some 1 := rfl

end RefusedAtErase

/-- Refutes O14: the round goes on after the erase too, and takes and counts a request that fails its checks, so the counters change
though no block waits. -/
theorem not_flashEvents : ¬ Obligations.FlashEvents := by
  unfold Obligations.FlashEvents
  rintro ⟨-, -, halone⟩
  obtain ⟨t, ht, -, honly, -⟩ := halone 0xC00000 [] RefusedAtErase.waiting rfl rfl
  have hhealth : t.health = RefusedAtErase.waiting.health := honly.same .health (by decide)
  have hcount := RefusedAtErase.requests_flashSectorErased
  rw [ht, RefusedNext.requests, hhealth] at hcount
  exact absurd hcount (by decide)

end Sys2Proof.Machine

/-! SUPPORT. Power control (R498 to R501), and the ticks and requests of the Tally (R493 to R496). -/

namespace Sys2Proof.Machine

/-! ### The capping loop (R500) -/

/-- R486: a record that is not uncontained enters its bank and is counted: power control stays as it was. -/
theorem State.logFault_power {sev : Severity} (hsev : sev ≠ .uncontained) (s : State) (bank code unit : Nat) (pen addr : Option Nat)
    (info : Nat) : (s.logFault bank code sev unit pen addr info).health.power = s.health.power := by
  unfold State.logFault
  rw [if_neg hsev]
  rfl

theorem State.count_power (s : State) (item n : Nat) : (s.count item n).health.power = s.health.power := rfl

theorem State.modPower_power (s : State) (f : Power → Power) : (s.modPower f).health.power = f s.health.power := rfl

theorem exec_capIteration {s : State} (h : 4 ≤ s.boot.stage) : exec .capIteration s = .next s.quiet.capIteration :=
  congrArg Host.Outcome.next (if_pos h)

section CapIteration

variable {s : State} (hbrake : s.health.power.brake = false)
include hbrake

/-- R500: an iteration over the limit steps down; only the note of a limit that is not met may change beside it. -/
theorem State.capIteration_over (hover : s.health.power.meanAbove 10 (1000 * s.health.power.limit) = true ∨ s.health.power.hot = true) :
    ∃ before after, s.capIteration.health.power =
      { ({ s.health.power with unmetLogged := before }.stepDown s.time.clock) with unmetLogged := after } := by
  have hsteps : (!(!(s.health.power.meanAbove 10 (1000 * s.health.power.limit))) || s.health.power.hot) = true := by
    simpa using hover
  unfold State.capIteration
  dsimp only
  rw [if_neg (Bool.eq_false_iff.1 hbrake), if_pos hsteps]
  generalize hlog : (if (!(s.health.power.meanAbove 10 (1000 * s.health.power.limit))) = true
    then s.modPower (fun q => { q with unmetLogged := false }) else s) = u
  have hpower : ∃ before, u.health.power = { s.health.power with unmetLogged := before } := by
    rw [← hlog]
    split
    · exact ⟨false, rfl⟩
    · exact ⟨s.health.power.unmetLogged, rfl⟩
  obtain ⟨before, hbefore⟩ := hpower
  refine ⟨before, ?_⟩
  split
  · refine ⟨true, ?_⟩
    rw [State.logFault_power (by decide), State.modPower_power, State.count_power, State.modPower_power, hbefore]
  · refine ⟨({ s.health.power with unmetLogged := before }.stepDown s.time.clock).unmetLogged, ?_⟩
    rw [State.count_power, State.modPower_power, hbefore]

/-- R500: an iteration within the limit may step up. -/
theorem State.capIteration_within (hmean : s.health.power.meanAbove 10 (1000 * s.health.power.limit) = false)
    (hhot : s.health.power.hot = false) : s.capIteration.health.power =
      { s.health.power with unmetLogged := false, unmetMs := 0 }.stepUp s.time.clock := by
  unfold State.capIteration
  dsimp only
  rw [if_neg (Bool.eq_false_iff.1 hbrake), hmean, hhot]
  rfl

end CapIteration

theorem Power.stepDown_lastOver (p : Power) (now : Nat) : (p.stepDown now).lastOver = now := by
  unfold Power.stepDown
  dsimp only
  split
  · rfl
  · split <;> rfl

theorem Power.stepDown_lowers {p : Power} (h : 8 < p.duty) (now : Nat) :
    p.stepDown now = { p with lastOver := now, duty := p.duty - 1 } := if_pos h

theorem Power.stepDown_point {p : Power} (h : p.duty ≤ 8) (hp : p.point ≠ .reduced) (now : Nat) :
    p.stepDown now = { p with lastOver := now, point := p.point.lower, duty := 16 } :=
  (if_neg (Nat.not_lt.2 h)).trans (if_pos (bne_iff_ne.2 hp))

/-- R500: a step up never lowers the duty, and raises it by one only below 16. -/
theorem Power.stepUp_bounds (p : Power) (now : Nat) :
    (p.stepUp now).unmetMs = p.unmetMs ∧ p.duty ≤ (p.stepUp now).duty ∧ (p.stepUp now).duty ≤ max 16 p.duty := by
  have hsame : p.unmetMs = p.unmetMs ∧ p.duty ≤ p.duty ∧ p.duty ≤ max 16 p.duty := ⟨rfl, Nat.le_refl _, Nat.le_max_right ..⟩
  unfold Power.stepUp
  split
  · split
    next hraise =>
      have hlow : p.duty < 16 := by
        rw [Bool.and_eq_true, decide_eq_true_eq] at hraise
        exact hraise.1
      exact ⟨rfl, Nat.le_succ _, by dsimp only; omega⟩
    · split
      · split
        · exact hsame
        · exact hsame
        · split <;> exact hsame
        · exact hsame
      · exact hsame
  · exact hsame

/-- Settles O15: the brake and its release, a measurement, and one iteration of the loop over the limit and within it. -/
theorem powerControl : Obligations.PowerControl := by
  unfold Obligations.PowerControl
  refine ⟨fun s hhold hbrake => ?brake, fun s hhold => ?held, fun s hbrake => ?release, fun mw temps s => rfl,
    fun s hstage hbrake hover => ?above, fun s hstage hbrake hmean hhot => ?within, fun s hidle => ?idle⟩
  case brake => exact congrArg Host.Outcome.next (if_neg (by simp [hhold, hbrake]))
  case held => exact congrArg Host.Outcome.next (if_pos (by simp [hhold]))
  case release => exact congrArg Host.Outcome.next (if_pos hbrake)
  case above =>
    obtain ⟨before, after, hpower⟩ := State.capIteration_over (s := s.quiet) hbrake hover
    refine ⟨_, exec_capIteration hstage, ?_, fun hduty => ?_, fun hduty hpoint => ?_⟩
    · rw [hpower]
      exact Power.stepDown_lastOver ..
    · rw [hpower, Power.stepDown_lowers (by exact hduty)]
      exact ⟨rfl, rfl⟩
    · rw [hpower, Power.stepDown_point (by exact hduty) (by exact hpoint)]
      exact ⟨rfl, rfl⟩
  case within =>
    refine ⟨_, exec_capIteration hstage, ?_⟩
    rw [State.capIteration_within (s := s.quiet) hbrake hmean hhot]
    exact Power.stepUp_bounds ..
  case idle =>
    refine congrArg Host.Outcome.next ?_
    split
    next hstage =>
      have hbrake : s.health.power.brake = true := hidle.resolve_left (Nat.not_lt.2 hstage)
      exact if_pos hbrake
    next => rfl

/-! ### Ticks and requests of the Tally (R493 to R496) -/

theorem State.sendHop_snapshot (s : State) (port ptype : Nat) (op : List Byte) :
    (s.sendHop port ptype op).health.snapshot = s.health.snapshot := by
  unfold State.sendHop
  dsimp only
  split <;> rfl

/-- R494: what goes down the tree leaves the snapshot that is scheduled. -/
theorem State.sendDown_snapshot (s : State) (ptype : Nat) (op : List Byte) :
    (s.sendDown ptype op).health.snapshot = s.health.snapshot := by
  change (s.forAll (s.childPorts.filter (· != 8)) (fun t p => t.sendHop p ptype op)).health.snapshot = _
  generalize s.childPorts.filter (· != 8) = l
  induction l generalizing s with
  | nil => rfl
  | cons p l ih => exact (ih _).trans (s.sendHop_snapshot p ptype op)

section TallyReq

variable {s : State} {inp : Nat} {p : Packet} (hhead : s.mgmtPacket 0x2D = some (inp, p))
include hhead

/-- R495: a request of the parent's port is scheduled when it can be, and goes on down the tree. -/
theorem exec_tallyReq_parent (hmaster : s.isMaster = false) (hparent : s.parentPort = some inp) :
    ∃ t, exec .tallyReq s = .next t ∧ t.health.snapshot =
      if s.tallyAllowed (BitVec.ofNat 16 (leField p 16 2)) (BitVec.ofNat 64 (leField p 8 8))
      then some (BitVec.ofNat 16 (leField p 16 2), BitVec.ofNat 64 (leField p 8 8), none) else s.health.snapshot := by
  have hcheck : ((s.quiet.takePacket (inp, p)).isMaster || (s.quiet.takePacket (inp, p)).parentPort != some inp) = false := by
    change (s.isMaster || s.parentPort != some inp) = false
    rw [hmaster, hparent, bne_self_eq_false, Bool.or_self]
  change ∃ t, execTallyReq s = .next t ∧ _
  simp only [execTallyReq, State.quiet_mgmtPacket, hhead, hcheck, Bool.false_eq_true, if_false]
  refine ⟨_, rfl, ?_⟩
  rw [State.sendDown_snapshot]
  exact apply_ite (fun u : State => u.health.snapshot) _ _ _

/-- R495: a request at the master, or from another port than the parent's, is dropped. -/
theorem exec_tallyReq_drop (hdrop : s.isMaster = true ∨ s.parentPort ≠ some inp) :
    exec .tallyReq s = .next (s.quiet.takePacket (inp, p)) := by
  have hcheck : ((s.quiet.takePacket (inp, p)).isMaster || (s.quiet.takePacket (inp, p)).parentPort != some inp) = true := by
    change (s.isMaster || s.parentPort != some inp) = true
    simpa using hdrop
  change execTallyReq s = _
  simp only [execTallyReq, State.quiet_mgmtPacket, hhead, hcheck, if_true, done]

end TallyReq

/-- R494: the tick takes the snapshot that is due off its schedule. -/
theorem State.tick_served_keeps (s : State) : Keeps [.health, .out] s (s.quiet.tick.modHealth (fun h => { h with snapshot := none })) :=
  (State.quiet_keeps.mono (by decide)).trans ((State.tick_keeps.mono (by decide)).trans
    ((State.modHealth_keeps (fun h => h.health)).mono (by decide)))

/-- Settles O16: a tick fills the shadow and answers the snapshot that is due, and a request of the parent schedules one. -/
theorem tallyTicks : Obligations.TallyTicks := by
  unfold Obligations.TallyTicks
  refine ⟨fun s hdue => ?tick, fun e at' i s hsnap hdue => ?served, fun inp p s hhead hmaster hparent => ?parent,
    fun inp p s hhead hdrop => exec_tallyReq_drop hhead hdrop⟩
  case tick =>
    have hexec : exec .tallyTick s = .next s.quiet.tick := if_neg (Bool.eq_false_iff.1 hdue)
    have honly : Only [.health, .out] s s.quiet.tick := ((State.quiet_keeps.mono (by decide)).trans (State.tick_keeps.mono (by decide))).only
    exact ⟨_, hexec, rfl, rfl, rfl, rfl, by simp [State.tick], rfl, honly⟩
  case served =>
    refine ⟨s.quiet.tick.modHealth (fun h => { h with snapshot := none }), ?_, rfl, rfl, s.tick_served_keeps.only⟩
    change execTallyTick s = _
    unfold execTallyTick
    simp only [hsnap]
    exact if_pos hdue
  case parent =>
    obtain ⟨t, ht, hsnap⟩ := exec_tallyReq_parent hhead hmaster hparent
    exact ⟨fun h => ⟨t, ht, hsnap.trans (if_pos h)⟩, fun h => ⟨t, ht, hsnap.trans (if_neg (Bool.eq_false_iff.1 h))⟩⟩

end Sys2Proof.Machine

/-! SUPPORT. The cold and warm resets of the whole device, the control-complex reset of the heartbeat, rail hold and the thermal trip
(R443 to R446, R477, R505, R512, Table 18.6). -/

namespace Sys2Proof.Machine

/-! ### The cold reset (R443, R444) -/

theorem Sheepdog.writeBcb_floor (g : Sheepdog) (f : Bcb → Bcb) : (g.writeBcb f).floor = g.floor := by
  unfold Sheepdog.writeBcb
  dsimp only
  generalize hk : g.rewritten _ = k
  obtain ⟨j, n, hj⟩ := hk ▸ Sheepdog.Journaled.rewritten g _
  rw [hj]

/-- R477: the end of an unconfirmed image leaves the fuses and the life-cycle state. -/
theorem Sheepdog.endImage_fuses (g : Sheepdog) :
    g.endImage.floor = g.floor ∧ g.endImage.ownerSlots = g.ownerSlots ∧ g.endImage.lcState = g.lcState := by
  unfold Sheepdog.endImage
  dsimp only
  split
  · obtain ⟨waits, hown⟩ := Sheepdog.Written.ownWrite g .bcbFallback
    refine ⟨?_, hown.ownerSlots, hown.lcState⟩
    change (g.ownWrite .bcbFallback).floor = g.floor
    unfold Sheepdog.ownWrite
    split
    · exact Sheepdog.writeBcb_floor g Bcb.fallback
    · rfl
  · exact ⟨rfl, rfl, rfl⟩

theorem State.coldReset_lastCause (s : State) (cause : Nat) (aonUp : Bool) (h : s.boot.resetting ≠ some .cold) :
    (s.coldReset cause aonUp).boot.lastCause = cause := by
  simp [State.coldReset, h]

theorem State.coldReset_after (s : State) (cause : Nat) (aonUp : Bool) : AfterColdReset s (s.coldReset cause aonUp) cause := by
  obtain ⟨hfloor, howners, -⟩ := s.dog.endImage_fuses
  exact {
    stage := rfl
    enables := ⟨rfl, rfl, rfl⟩
    stopped := ⟨rfl, rfl, rfl⟩
    lastCause := fun h => s.coldReset_lastCause cause aonUp h
    counts := ⟨rfl, rfl⟩
    parts := ⟨rfl, rfl, rfl, rfl, rfl, rfl, rfl, rfl, rfl, rfl⟩
    time := ⟨rfl, rfl⟩
    counters := rfl
    sheepdog := ⟨rfl, rfl, rfl, howners, hfloor⟩ }

/-- Of the state before it a cold reset's description names the Sheepdog and the reset in progress. -/
theorem AfterColdReset.of_same {s u t : State} {cause : Nat} (h : AfterColdReset u t cause)
    (hresetting : u.boot.resetting = s.boot.resetting) (hdog : u.dog = s.dog) : AfterColdReset s t cause :=
  { h with
    lastCause := fun hr => h.lastCause (hresetting ▸ hr)
    sheepdog := hdog ▸ h.sheepdog }

/-! ### The warm reset (R443 to R446) -/

/-- Table 18.6: the state of a warm reset before its STAGE reads 2. -/
def State.warmBegun (s : State) (cause : Nat) : State := s.warmParts.modBoot (fun b => { b with
  shepherdRuns := false, ccDraining := false, thermalWait := false, hubFaulted := false, coordinatorLost := false, heartbeat := 0
  farUnwiped := List.replicate 4 0, fieldEn := b.fieldEn && s.dog.lcState != lcDecommissioned, lastCause := cause, lastDeep := cause
  warmCount := satInc b.warmCount 255, resetting := if 2 ≤ b.stage then some .warm else none })

theorem State.warmParts_talsen {s : State} (h : s.dog.lcState ≠ lcDecommissioned) : ∀ x ∈ s.warmParts.talsen, x.state = .training := by
  have hlc : s.dog.warmed.lcState = s.dog.lcState := s.dog.endImage_fuses.2.2
  have htrain : s.warmParts.talsen = State.reset.talsen.map (fun t => if t.state = .down then { t with state := .training } else t) :=
    if_neg (fun hd : s.dog.warmed.lcState = lcDecommissioned => h (hlc.symm.trans hd))
  intro x hx
  rw [htrain] at hx
  obtain ⟨y, hy, rfl⟩ := List.mem_map.1 hx
  rw [List.eq_of_mem_replicate hy]
  rfl

theorem State.setStage_slots (s : State) (n : Nat) : (s.setStage n).host.slots = s.host.slots := by
  unfold State.setStage
  split
  · rfl
  · exact State.healthEventAll_slots ..

section Warm

variable {s : State} {cause : Nat} (hstage : 2 ≤ s.boot.stage) (hcold : s.boot.resetting ≠ some .cold)
  (hwarm : s.boot.resetting ≠ some .warm) (hhold : s.boot.railHold = false)
include hstage hcold hwarm hhold

theorem State.warmReset_eq : s.warmReset cause = ((s.warmBegun cause).setStage 2).tick := by
  have hfree : ¬ ((decide (s.boot.resetting = some .cold) || decide (s.boot.resetting = some .warm)) || decide (s.boot.stage = 0) ||
      s.boot.railHold) = true := by
    simp [hcold, hwarm, hhold]
    omega
  unfold State.warmReset
  dsimp only
  rw [if_neg hfree, if_pos hstage]
  rfl

/-- Table 18.6: what a warm reset at stage 2 or above changes after its parts are reset: STAGE, and the shadow of the Tally tick. -/
theorem State.warmReset_boot : (s.warmReset cause).boot = { (s.warmBegun cause).boot with stage := 2 } := by
  rw [State.warmReset_eq hstage hcold hwarm hhold]
  exact (State.tick_keeps.only.same .boot (by decide)).trans (State.setStage_boot ..)

theorem State.warmReset_slots : (s.warmReset cause).host.slots = s.host.slots.map Mailbox.returned := by
  rw [State.warmReset_eq hstage hcold hwarm hhold, State.tick_keeps.slots (by decide), State.setStage_slots]
  rfl

/-- Table 18.6: a warm reset at stage 2 or above. -/
theorem State.warmReset_after : AfterWarmReset s (s.warmReset cause) cause := by
  have hboot := State.warmReset_boot (cause := cause) hstage hcold hwarm hhold
  have hslots := State.warmReset_slots (cause := cause) hstage hcold hwarm hhold
  have heq := State.warmReset_eq (cause := cause) hstage hcold hwarm hhold
  have hdog : (s.warmReset cause).dog = s.dog.warmed := by rw [heq]; exact State.setStage_dog ..
  have hnp : (s.warmReset cause).np = s.np.warmed := by rw [heq]; exact State.setStage_np ..
  have hfab : (s.warmReset cause).fab = s.warmParts.fab := by rw [heq]; exact State.setStage_fab ..
  have hcomp : (s.warmReset cause).comp = s.warmParts.comp := by rw [heq]; exact State.setStage_comp ..
  exact {
    stage := by rw [hboot]
    state := by
      rw [hboot]
      exact ⟨rfl, if_pos hstage, rfl, rfl⟩
    parts := by
      rw [hcomp, hdog, heq]
      exact ⟨State.setStage_pens .., State.setStage_drover .., State.setStage_qe .., State.setStage_coord .., State.setStage_video .., rfl⟩
    memory := by
      rw [hnp]
      exact ⟨rfl, rfl, rfl, rfl, rfl⟩
    fabric := by
      rw [hfab]
      exact ⟨rfl, rfl, rfl, rfl⟩
    time := by
      rw [heq]
      exact State.setStage_time ..
    banks := by
      rw [heq]
      exact State.setStage_banks ..
    slots := fun i _ => by
      unfold State.slotAt
      rw [hslots]
      exact List.getD_map s.host.slots Mailbox.idle Mailbox.returned
    ports := fun hlc x hx => by
      rw [heq] at hx
      exact State.warmParts_talsen hlc x (State.setStage_talsen (s.warmBegun cause) 2 ▸ hx)
    sheepdog := by
      rw [hdog]
      exact ⟨rfl, rfl, rfl, s.dog.endImage_fuses.2.2⟩ }

end Warm

/-- Of the state before it a warm reset's description names nothing of the pins. -/
theorem AfterWarmReset.of_boot {s t : State} {cause : Nat} {f : Boot → Boot} (h : AfterWarmReset (s.quiet.modBoot f) t cause)
    (hcount : (f s.boot).warmCount = s.boot.warmCount) : AfterWarmReset s t cause :=
  ⟨h.stage, hcount ▸ h.state, h.parts, h.memory, h.fabric, h.time, h.banks, h.slots, h.ports, h.sheepdog⟩

/-! ### The control-complex reset (R443, R477) -/

theorem State.ccReset_boot {s : State} {cause : Nat} (hcause : cause ≠ 11) (hresetting : s.boot.resetting = none)
    (hstage : 2 ≤ s.boot.stage) (hcomplex : s.noComplex = false) :
    (s.ccReset cause).boot = { (s.ccBegin cause).boot with stage := 2 } := by
  rw [State.ccReset_drains hcause hresetting hstage hcomplex]
  have hdrain : Keeps [.comp, .health] ((s.ccBegin cause).setStage 2)
      (((s.ccBegin cause).setStage 2).forAll (s.pensIn .running) State.drainPen) :=
    State.forAll_keeps Keeps.rfl (fun _ _ => State.drainPen_keeps)
  exact (hdrain.only.same .boot (by decide)).trans (State.setStage_boot ..)

theorem State.ccBegin_after (s : State) (cause : Nat) : AfterCcTrigger s ((s.ccBegin cause).setStage 2) cause := by
  constructor <;> simp [State.ccBegin, State.modBoot]

theorem AfterCcTrigger.of_keeps {s t u : State} {cause : Nat} (h : AfterCcTrigger s t cause)
    (k : Keeps [.dog, .host, .comp, .health, .out] t u) : AfterCcTrigger s u cause := by
  have hboot : u.boot = t.boot := k.only.same .boot (by decide)
  have hpens : u.pens = t.pens := k.only.same .pens (by decide)
  have hqe : u.qe = t.qe := k.only.same .qe (by decide)
  have hnp : u.np = t.np := k.only.same .np (by decide)
  have hfab : u.fab = t.fab := k.only.same .fab (by decide)
  have htime : u.time = t.time := k.only.same .time (by decide)
  obtain ⟨hstage, hstate, hrecord, hkept⟩ := h
  constructor <;> simp only [hboot, hpens, hqe, hnp, hfab, htime] <;> assumption

/-- R477: what a heartbeat reset does to an image under its health check. -/
def Sheepdog.heartbeatEnds (g : Sheepdog) : Sheepdog := { (if g.fwUnconfirmed then g.fallBack else g) with healthStart := none }

section Heartbeat

variable {s : State} (hresetting : s.boot.resetting = none) (hstage : 2 ≤ s.boot.stage) (hcomplex : s.noComplex = false)
include hresetting hstage hcomplex

theorem State.ccReset_heartbeat : s.ccReset 11 =
    ((((s.ccBegin 11).setStage 2).forAll (s.pensIn .running) State.drainPen).modDog Sheepdog.heartbeatEnds).logFault 6 0x0A02 .corrected := by
  have hidle : ¬ (s.boot.resetting.isSome || s.boot.stage = 0) = true := by
    rw [hresetting, Option.isSome_none, Bool.false_or, decide_eq_true_eq]
    omega
  have hruns : ¬ (s.noComplex || s.boot.stage < 2) = true := by
    rw [hcomplex, Bool.false_or, decide_eq_true_eq]
    omega
  unfold State.ccReset
  rw [if_neg hidle]
  dsimp only
  rw [if_neg hruns, if_pos rfl, hcomplex]
  have hmax : max 2 s.boot.stage = s.boot.stage := by omega
  simp only [State.ccBegin, State.modBoot, hstage, hmax, Bool.false_eq_true, if_false, decide_true, Bool.not_false, Bool.and_self]
  rfl

/-- R443, R477: the heartbeat's reset drains the pens as another does, and ends an unconfirmed image. -/
theorem State.ccReset_heartbeat_after : AfterCcTrigger s (s.ccReset 11) 11 ∧ (s.ccReset 11).dog = s.dog.heartbeatEnds := by
  have hdrain : Keeps [.comp, .health] ((s.ccBegin 11).setStage 2)
      (((s.ccBegin 11).setStage 2).forAll (s.pensIn .running) State.drainPen) :=
    State.forAll_keeps Keeps.rfl (fun _ _ => State.drainPen_keeps)
  have hdog := (hdrain.only.same .dog (by decide)).trans (State.setStage_dog ..)
  rw [State.ccReset_heartbeat hresetting hstage hcomplex]
  constructor
  · obtain ⟨hafterStage, hstate, hrecord, hkept⟩ := (State.ccBegin_after s 11).of_keeps (hdrain.mono (by decide))
    exact AfterCcTrigger.of_keeps (t := State.modDog _ Sheepdog.heartbeatEnds) ⟨hafterStage, hstate, hrecord, hkept⟩
      (State.logFault_keeps.mono (by decide))
  · rw [State.logFault_dog]
    exact congrArg Sheepdog.heartbeatEnds hdog

end Heartbeat

/-! ### RESET_CTRL (R446, Table 18.7) -/

/-- Table 18.7: HOLD_AT_2 is written with every write of RESET_CTRL. -/
def State.holdWritten (s : State) (v : Word) : State := s.quiet.modBoot (fun b => { b with holdAt2 := v.toNat.testBit 3 })

section ResetCtrl

variable {v : Word} {s : State} (hlink : s.boot.linkUp = true)
include hlink

theorem State.hostResetCtrl_bad_key (hkey : bitsOf v.toNat 15 8 ≠ 0xA5) : s.quiet.hostResetCtrl v = s.holdWritten v :=
  (if_pos hlink).trans (if_neg hkey)

variable (hkey : bitsOf v.toNat 15 8 = 0xA5)
include hkey

theorem State.hostResetCtrl_cold (hcold : v.toNat.testBit 2 = true) : s.quiet.hostResetCtrl v = (s.holdWritten v).coldReset 2 true :=
  (if_pos hlink).trans ((if_pos hkey).trans (if_pos hcold))

variable (hcold : v.toNat.testBit 2 = false)
include hcold

theorem State.hostResetCtrl_warm (hwarm : v.toNat.testBit 1 = true) : s.quiet.hostResetCtrl v = (s.holdWritten v).warmReset 4 :=
  (if_pos hlink).trans ((if_pos hkey).trans ((if_neg (ne_true_of_eq_false hcold)).trans (if_pos hwarm)))

theorem State.hostResetCtrl_cc (hwarm : v.toNat.testBit 1 = false) (hcc : v.toNat.testBit 0 = true) :
    s.quiet.hostResetCtrl v = (s.holdWritten v).ccReset 9 :=
  (if_pos hlink).trans ((if_pos hkey).trans ((if_neg (ne_true_of_eq_false hcold)).trans
    ((if_neg (ne_true_of_eq_false hwarm)).trans (if_pos hcc))))

end ResetCtrl

/-! ### The resets by their triggers -/

theorem exec_resetCtrlCold {v : Word} {s : State} (hlink : s.boot.linkUp = true) (hkey : bitsOf v.toNat 15 8 = 0xA5)
    (hcold : v.toNat.testBit 2 = true) :
    ∃ t, exec (.resetCtrlCold v) s = .next t ∧ AfterColdReset s t 2 ∧ t.boot.holdAt2 = v.toNat.testBit 3 ∧
      t.health.banks = s.health.banks := by
  refine ⟨_, congrArg Host.Outcome.next (State.hostResetCtrl_cold hlink hkey hcold), (State.coldReset_after _ 2 true).of_same rfl rfl, ?_, rfl⟩
  simp [State.coldReset, State.holdWritten, State.modBoot]

theorem exec_resetCtrlWarm {v : Word} {s : State} (hlink : s.boot.linkUp = true) (hkey : bitsOf v.toNat 15 8 = 0xA5)
    (hcold : v.toNat.testBit 2 = false) (hwarm : v.toNat.testBit 1 = true) (hstage : 2 ≤ s.boot.stage)
    (hnotCold : s.boot.resetting ≠ some .cold) (hnotWarm : s.boot.resetting ≠ some .warm) (hhold : s.boot.railHold = false) :
    ∃ t, exec (.resetCtrlWarm v) s = .next t ∧ AfterWarmReset s t 4 ∧ t.boot.holdAt2 = v.toNat.testBit 3 :=
  ⟨_, congrArg Host.Outcome.next (State.hostResetCtrl_warm hlink hkey hcold hwarm),
    AfterWarmReset.of_boot (State.warmReset_after (s := s.holdWritten v) hstage hnotCold hnotWarm hhold) rfl,
    congrArg Boot.holdAt2 (State.warmReset_boot (s := s.holdWritten v) hstage hnotCold hnotWarm hhold)⟩

theorem exec_resetCtrlCc {v : Word} {s : State} (hlink : s.boot.linkUp = true) (hkey : bitsOf v.toNat 15 8 = 0xA5)
    (hcold : v.toNat.testBit 2 = false) (hwarm : v.toNat.testBit 1 = false) (hcc : v.toNat.testBit 0 = true)
    (hstage : 2 ≤ s.boot.stage) (hresetting : s.boot.resetting = none) (hcomplex : s.noComplex = false) :
    ∃ t, exec (.resetCtrlCc v) s = .next t ∧ AfterCcTrigger s t 9 ∧ t.boot.holdAt2 = v.toNat.testBit 3 := by
  obtain ⟨hafterStage, hstate, hrecord, hkept⟩ :=
    State.ccReset_after (s := s.holdWritten v) (cause := 9) (by decide) hresetting hstage hcomplex
  exact ⟨_, congrArg Host.Outcome.next (State.hostResetCtrl_cc hlink hkey hcold hwarm hcc), ⟨hafterStage, hstate, hrecord, hkept⟩,
    congrArg Boot.holdAt2 (State.ccReset_boot (s := s.holdWritten v) (cause := 9) (by decide) hresetting hstage hcomplex)⟩

theorem exec_perstNAssert {s : State} (hstage : 2 ≤ s.boot.stage) (hnotCold : s.boot.resetting ≠ some .cold)
    (hnotWarm : s.boot.resetting ≠ some .warm) (hhold : s.boot.railHold = false) :
    ∃ t, exec .perstNAssert s = .next t ∧ AfterWarmReset s t 5 ∧ t.boot.perstN = false ∧ t.boot.linkUp = false ∧
      t.host.fns = List.replicate 9 .initial := by
  have hboot := State.warmReset_boot (s := s.quiet.modBoot (fun b => { b with perstN := false })) (cause := 5) hstage hnotCold hnotWarm hhold
  have hafter : AfterWarmReset s ((s.quiet.modBoot (fun b => { b with perstN := false })).warmReset 5) 5 :=
    AfterWarmReset.of_boot (State.warmReset_after hstage hnotCold hnotWarm hhold) rfl
  exact ⟨_, rfl, ⟨hafter.stage, hafter.state, hafter.parts, hafter.memory, hafter.fabric, hafter.time, hafter.banks, hafter.slots,
    hafter.ports, hafter.sheepdog⟩, congrArg Boot.perstN hboot, rfl, rfl⟩

theorem exec_ccResetEscalation {s : State} (hresetting : s.boot.resetting = some .controlComplex) (hstage : 2 ≤ s.boot.stage)
    (hhold : s.boot.railHold = false) : ∃ t, exec .ccResetEscalation s = .next t ∧ AfterWarmReset s t 8 := by
  have heq : (if s.quiet.boot.resetting = some .controlComplex then s.quiet.warmReset 8 else s.quiet) = s.quiet.warmReset 8 :=
    if_pos hresetting
  exact ⟨_, congrArg Host.Outcome.next heq, AfterWarmReset.of_boot (f := id)
    (State.warmReset_after (s := s.quiet) hstage (by simp [hresetting]) (by simp [hresetting]) hhold) rfl⟩

theorem exec_heartbeatReset {s : State} (hstage : 2 ≤ s.boot.stage) (hresetting : s.boot.resetting = none)
    (hcomplex : s.noComplex = false) :
    ∃ t, exec .heartbeatReset s = .next t ∧ AfterCcTrigger s t 11 ∧ t.dog.healthStart = none ∧
      (s.dog.fwUnconfirmed = true → t.dog.fwUnconfirmed = false) := by
  have heq : (if 2 ≤ s.quiet.boot.stage && !s.quiet.noComplex then s.quiet.ccReset 11 else s.quiet) = s.quiet.ccReset 11 :=
    if_pos (by rw [Bool.and_eq_true, decide_eq_true_eq, Bool.not_eq_true']; exact ⟨hstage, hcomplex⟩)
  obtain ⟨hafter, hdog⟩ := State.ccReset_heartbeat_after (s := s.quiet) hresetting hstage hcomplex
  refine ⟨_, congrArg Host.Outcome.next heq, hafter.of_quiet, congrArg Sheepdog.healthStart hdog, fun hunconfirmed => ?_⟩
  rw [hdog]
  exact congrArg Sheepdog.fwUnconfirmed (if_pos hunconfirmed)

/-- Settles O8: a cold, a warm and a control-complex reset each leave what Table 18.6 says, whichever trigger takes them. -/
theorem resets : Obligations.Resets := by
  unfold Obligations.Resets
  refine ⟨?_, ?_, ?_, ?_, ?_, ?_, ?_, ?_, ?_, ?_, ?_⟩
  · exact fun s => ⟨_, rfl, (State.coldReset_after _ 1 true).of_same rfl rfl, rfl, rfl⟩
  · exact fun s => ⟨_, rfl, (State.coldReset_after _ 0 false).of_same rfl rfl, rfl⟩
  · exact fun s => ⟨_, rfl, (State.coldReset_after _ 3 true).of_same rfl rfl, rfl⟩
  · exact fun s => ⟨_, rfl, (State.coldReset_after _ 0 false).of_same rfl rfl, rfl⟩
  · exact fun v s => exec_resetCtrlCold
  · exact fun v s hlink hkey hcold hwarm hstage hnotCold hnotWarm hhold _ =>
      exec_resetCtrlWarm hlink hkey hcold hwarm hstage hnotCold hnotWarm hhold
  · exact fun v s => exec_resetCtrlCc
  · intro v s hlink hkey c hc
    have hexec : done (s.quiet.hostResetCtrl v) = .next (s.holdWritten v) := congrArg Host.Outcome.next (State.hostResetCtrl_bad_key hlink hkey)
    simp only [List.mem_cons, List.not_mem_nil, or_false] at hc
    rcases hc with rfl | rfl | rfl <;> exact hexec
  · exact fun s hstage hnotCold hnotWarm hhold _ => exec_perstNAssert hstage hnotCold hnotWarm hhold
  · exact fun s hresetting hstage hhold _ => exec_ccResetEscalation hresetting hstage hhold
  · exact fun s => exec_heartbeatReset

/-! ### Rail hold and the thermal trip (R505, R512) -/

/-- R505: what rail hold leaves of the pins and of the boot state. -/
def Boot.railsHeld (b : Boot) : Boot := { b with
  fieldEn := false, hubEn := false, railHold := true, shepherdRuns := false, linkUp := false, ccDraining := false, resetting := none
  railsGood := b.railsGood.filter (fun r => r = .aon || r = .vddio || r = .transit), stage := 1 }

theorem Boot.railsHeld_transitEn (b : Boot) : b.railsHeld.transitEn = b.transitEn := rfl

theorem State.holdRails_boot (s : State) : s.holdRails.boot = s.boot.railsHeld := State.setStage_boot ..

theorem State.holdRails_comp (s : State) : s.holdRails.comp =
    { s.comp with folds := s.comp.folds.map (fun f => if f.state = .retired then f else Fold.off) } := State.setStage_comp ..

theorem State.holdRails_fab (s : State) : s.holdRails.fab = { s.fab with ejected := s.fab.ejected.filter (fun x => pVc x.2 = 3) } := by
  change (fun f : Fabric => { f with ejected := f.ejected.filter (fun x => pVc x.2 = 3) }) (State.setStage _ 1).fab = _
  rw [State.setStage_fab]
  rfl

/-- R505: the Folds lose power; a retired one stays retired. -/
theorem State.holdRails_folds {s : State} {f : Fold} (h : f ∈ s.holdRails.comp.folds) : f.state = .off ∨ f.state = .retired := by
  rw [State.holdRails_comp] at h
  obtain ⟨g, -, rfl⟩ := List.mem_map.1 h
  split
  · next hretired => exact .inr hretired
  · exact .inl rfl

/-- A rail that has failed is not among the good ones, whatever filter is put on them after that. -/
theorem Boot.railsHeld_fails (b : Boot) (r : Rail) :
    ({ b with railsGood := b.railsGood.filter (· != r) } : Boot).railsHeld.railsGood.contains r = false := by
  simp [Boot.railsHeld]

theorem State.railFails_held {s : State} {r : Rail} (haon : r ≠ .aon) (htransit : r ≠ .transit) (hstage : s.boot.stage ≠ 0) :
    s.railFails r = (s.modBoot (fun b => { b with railsGood := b.railsGood.filter (· != r) })).holdRails := by
  cases r with
  | aon => exact absurd rfl haon
  | transit => exact absurd rfl htransit
  | vddio | hub | hbm | field0 | field1 | field2 | field3 => exact if_neg hstage

theorem exec_railHold {r : Rail} {s : State} (hgood : s.rail r = true) : exec (.railHold r) s = .next (s.quiet.railFails r) :=
  congrArg Host.Outcome.next (if_pos hgood)

theorem exec_railGoodTimeout {r : Rail} {s : State} (henabled : s.railEnabled r = true) (hlow : s.rail r = false) :
    exec (.railGoodTimeout r) s = .next (if r = .transit then s.quiet.holdRails.modBoot (fun b => { b with transitEn := false })
      else s.quiet.holdRails) := by
  have hcond : (s.quiet.railEnabled r && !(s.quiet.rail r)) = true := by
    change (s.railEnabled r && !(s.rail r)) = true
    rw [henabled, hlow]
    rfl
  exact congrArg Host.Outcome.next (if_pos hcond)

theorem Boot.mem_stopped (b : Boot) (d : Fin 5) :
    d.val ∈ if b.stoppedDies.contains d.val then b.stoppedDies else b.stoppedDies ++ [d.val] := by
  split
  · next hstopped => exact List.contains_iff_mem.1 hstopped
  · exact List.mem_append_right _ (List.mem_singleton_self _)

/-- Settles O10: every case but the two rails of a cold reset is rail hold, and rail hold is one change of the boot state. -/
theorem railHoldAndTrip : Obligations.RailHoldAndTrip := by
  unfold Obligations.RailHoldAndTrip
  refine ⟨fun r s hgood haon htransit hstage => ?_, fun s hgood => ?_, fun s hgood => ?_, fun r s henabled hlow => ?_, fun d s => ?_⟩
  · refine ⟨_, exec_railHold hgood, ?_⟩
    rw [State.railFails_held (s := s.quiet) haon htransit hstage]
    have hboot := (s.quiet.modBoot (fun b => { b with railsGood := b.railsGood.filter (· != r) })).holdRails_boot
    refine ⟨congrArg Boot.railHold hboot, congrArg Boot.stage hboot, congrArg Boot.fieldEn hboot, congrArg Boot.hubEn hboot,
      congrArg Boot.shepherdRuns hboot, (congrArg Boot.transitEn hboot).trans (Boot.railsHeld_transitEn _), ?_,
      State.holdRails_fab _, fun f => State.holdRails_folds⟩
    unfold State.rail
    rw [hboot]
    exact Boot.railsHeld_fails s.boot r
  · exact ⟨_, exec_railHold hgood, (State.coldReset_after _ 0 false).of_same rfl rfl⟩
  · exact ⟨_, exec_railHold hgood, (State.coldReset_after _ 3 true).of_same rfl rfl⟩
  · have hboot := s.quiet.holdRails_boot
    refine ⟨_, exec_railGoodTimeout henabled hlow, ?_⟩
    by_cases htransit : r = .transit
    · rw [if_pos htransit, htransit]
      exact ⟨congrArg Boot.railHold hboot, congrArg Boot.stage hboot, congrArg Boot.fieldEn hboot, congrArg Boot.hubEn hboot,
        (Bool.and_false _).symm⟩
    · rw [if_neg htransit]
      have hkept : s.quiet.holdRails.boot.transitEn = s.boot.transitEn := (congrArg Boot.transitEn hboot).trans (Boot.railsHeld_transitEn _)
      exact ⟨congrArg Boot.railHold hboot, congrArg Boot.stage hboot, congrArg Boot.fieldEn hboot, congrArg Boot.hubEn hboot,
        by rw [hkept, bne_iff_ne.2 htransit, Bool.and_true]⟩
  · refine ⟨_, rfl, rfl, ?_, rfl, fun hd => ?_, commandFrames.1 (.thermtrip d) s _ rfl⟩
    · exact s.boot.mem_stopped d
    · change (s.boot.shepherdRuns && d.val != 4) = false
      rw [hd]
      exact Bool.and_false _

end Sys2Proof.Machine

/-! SUPPORT. The power-on sequence: the pins, the rails, the enables and stage 1 (R440, R454, R508). -/

namespace Sys2Proof.Machine

/-! ### The sequence goes on (R440) -/

/-- What the steps of the power-on sequence leave of the boot state: everything but HUB_EN, the host link's mode and what a new
Bellwether ends. -/
def Boot.unsequenced (b : Boot) : Boot := { b with
  hubEn := false, coordinatorLost := false, linkUp := false, linkRate := .g64, linkWidth := .x16, linkFlit := true }

theorem Boot.train_unsequenced (b : Boot) : b.train.unsequenced = b.unsequenced := by
  unfold Boot.train
  split <;> rfl

theorem Boot.train_hubEn (b : Boot) : b.train.hubEn = b.hubEn := by
  unfold Boot.train
  split <;> rfl

theorem Boot.train_linkUp {b : Boot} (h : bestMode b.linkModes ≠ none) : b.train.linkUp = true := by
  obtain ⟨m, hm⟩ := Option.ne_none_iff_exists'.1 h
  unfold Boot.train
  rw [hm]

theorem State.retime_boot (s : State) : s.retime.boot = s.boot := by
  unfold State.retime
  split
  · rfl
  · split <;> rfl

/-- R297, R332: of the boot state a topology changes nothing but what is known of the coordinators. -/
theorem State.setTopology_boot (s : State) (x : TopoChange) : (s.setTopology x).boot = { s.boot with coordinatorLost := false } := by
  have hports (u : State) (p : Nat) : (u.modPort p (linkReset (u.portDisabled p))).boot = u.boot := rfl
  unfold State.setTopology State.nameLeaders
  dsimp only
  rw [State.retime_boot, State.modBoot_boot, State.modFab_boot, State.forAll_same hports]
  rfl

theorem State.loadTopology_boot (s : State) : s.loadTopology.boot = { s.boot with coordinatorLost := false } := State.setTopology_boot ..

/-- R440: the transit plane leaves reset, and HUB_EN is asserted with it. -/
def State.hubReady (s : State) : State :=
  if s.transitLive && !s.boot.hubEn && !s.boot.railHold then s.loadTopology.modBoot (fun b => { b with hubEn := true }) else s

theorem State.hubReady_boot (s : State) : s.hubReady.boot =
    if s.transitLive && !s.boot.hubEn && !s.boot.railHold then { s.boot with coordinatorLost := false, hubEn := true } else s.boot := by
  unfold State.hubReady
  split
  · rw [State.modBoot_boot, State.loadTopology_boot]
  · rfl

theorem State.progress_boot (s : State) : s.progress.boot =
    if s.hubReady.boot.perstN && s.hubReady.boot.hubEn && s.hubReady.rail .hub && !s.hubReady.boot.linkUp then s.hubReady.boot.train
    else s.hubReady.boot :=
  apply_ite State.boot (s.hubReady.boot.perstN && s.hubReady.boot.hubEn && s.hubReady.rail .hub && !s.hubReady.boot.linkUp)
    (s.hubReady.modBoot Boot.train) s.hubReady

theorem State.progress_unsequenced (s : State) : s.progress.boot.unsequenced = s.boot.unsequenced := by
  have hhub : s.hubReady.boot.unsequenced = s.boot.unsequenced := by
    rw [State.hubReady_boot]
    split <;> rfl
  rw [State.progress_boot]
  split
  · rw [Boot.train_unsequenced, hhub]
  · exact hhub

/-- R440, R508: with the transit plane live HUB_EN is asserted. -/
theorem State.progress_hubEn {s : State} (hlive : s.transitLive = true) (hhold : s.boot.railHold = false) : s.progress.boot.hubEn = true := by
  have hhub : s.hubReady.boot.hubEn = true := by
    rw [State.hubReady_boot, hlive, hhold]
    cases hen : s.boot.hubEn
    · rfl
    · exact hen
  rw [State.progress_boot]
  split
  · rw [Boot.train_hubEn, hhub]
  · exact hhub

/-- R440: with HUB_EN, VDD_HUB and PERST_N the host link trains where a mode is allowed. -/
theorem State.progress_linkUp {s : State} (hperst : s.boot.perstN = true) (hhub : s.boot.hubEn = true) (hrail : s.rail .hub = true)
    (hmode : bestMode s.boot.linkModes ≠ none) : s.progress.boot.linkUp = true := by
  have hready : s.hubReady = s := if_neg (by simp [hhub])
  rw [State.progress_boot, hready, hperst, hhub, hrail]
  cases hlink : s.boot.linkUp
  · exact Boot.train_linkUp hmode
  · exact hlink

/-! ### The pins, the rails and stage 1 (R440, R508, R454) -/

/-- R508: a rail becomes good, and the good ones stay so. -/
def Boot.withRail (b : Boot) (r : Rail) : Boot := { b with
  railsGood := if b.railsGood.contains r then b.railsGood else b.railsGood ++ [r] }

theorem Boot.withRail_contains (b : Boot) (r x : Rail) :
    (b.withRail r).railsGood.contains x = (b.railsGood.contains x || x == r) := by
  unfold Boot.withRail
  dsimp only
  split
  · next hr =>
    by_cases hx : x = r
    · rw [hx, hr, Bool.true_or]
    · rw [beq_false_of_ne hx, Bool.or_false]
  · rw [List.contains_append, List.contains_cons, List.contains_nil, Bool.or_false]

theorem exec_railGood (r : Rail) (s : State) : exec (.railGood r) s = .next (s.quiet.modBoot (fun b => b.withRail r)).progress := rfl

section StageManagement

variable {s : State} (hstage : s.boot.stage = 0) (haon : s.rail .aon = true) (hvddio : s.rail .vddio = true)
  (hpin : s.boot.resetN = true) (hfuses : s.boot.fusesRead = true)

/-- R440 step 3, R454: the life-cycle state is derived, TRANSIT_EN is asserted and the reset ends. -/
def State.managed (s : State) : State :=
  (((s.quiet.modDog (fun g => { g with lcState := g.deriveLc })).modBoot
    (fun b => { b with transitEn := true, resetting := none })).setStage 1).progress

include hstage haon hvddio hpin hfuses

theorem exec_stageManagement : exec .stageManagement s = .next
    (if s.managed.dog.lcState != lcDecommissioned && !s.managed.dog.identityOk then s.managed.logFault 13 0x0902 .uncontained
      else s.managed) := by
  have hready : (s.quiet.boot.stage = 0 && s.quiet.rail .aon && s.quiet.rail .vddio && s.quiet.boot.resetN && s.quiet.boot.fusesRead) =
      true := by
    change (decide (s.boot.stage = 0) && s.rail .aon && s.rail .vddio && s.boot.resetN && s.boot.fusesRead) = true
    rw [hstage, haon, hvddio, hpin, hfuses]
    rfl
  exact if_pos hready

omit hstage haon hvddio hpin hfuses in
theorem State.managed_boot (s : State) : s.managed.boot.unsequenced =
    ({ s.boot with transitEn := true, resetting := none, stage := 1 } : Boot).unsequenced := by
  unfold State.managed
  rw [State.progress_unsequenced, State.setStage_boot]
  rfl

omit hstage haon hvddio hpin hfuses in
theorem State.managed_dog (s : State) : s.managed.dog = { s.dog with lcState := s.dog.deriveLc } := by
  unfold State.managed
  exact (State.progress_keeps.only.same .dog (by decide)).trans (State.setStage_dog ..)

end StageManagement

/-- Settles O9: a pin or a rail that is released lets the sequence go on, and the sequence changes nothing but HUB_EN and the link. -/
theorem powerOnSequence : Obligations.PowerOnSequence := by
  unfold Obligations.PowerOnSequence
  refine ⟨fun s => rfl, fun s => ?_, fun r s => ?_, fun s hstage haon hvddio hpin hfuses => ?_⟩
  · have hkept := (s.quiet.modBoot (fun b => { b with perstN := true })).progress_unsequenced
    exact ⟨_, rfl, (congrArg Boot.perstN hkept :), (congrArg Boot.stage hkept :),
      fun hhub hrail hmode => State.progress_linkUp (s := s.quiet.modBoot (fun b => { b with perstN := true })) rfl hhub hrail hmode⟩
  · have hkept := (s.quiet.modBoot (fun b => b.withRail r)).progress_unsequenced
    have hrail (x : Rail) : State.rail (s.quiet.modBoot (fun b => b.withRail r)).progress x = (s.rail x || x == r) := by
      have hgood : (s.quiet.modBoot (fun b => b.withRail r)).progress.boot.railsGood = (s.boot.withRail r).railsGood :=
        (congrArg Boot.railsGood hkept :)
      unfold State.rail
      rw [hgood, Boot.withRail_contains]
    refine ⟨_, exec_railGood r s, ?_, fun x hx => ?_, (congrArg Boot.stage hkept :), fun hen htransit hhold => ?_⟩
    · rw [hrail, beq_self_eq_true, Bool.or_true]
    · rw [hrail, hx, Bool.true_or]
    · refine State.progress_hubEn ?_ hhold
      rw [hrail] at htransit
      change (s.boot.transitEn && (s.boot.withRail r).railsGood.contains .transit) = true
      rw [Boot.withRail_contains, hen, Bool.true_and]
      exact htransit
  · have hboot := s.managed_boot
    have hdog := s.managed_dog
    refine ⟨_, exec_stageManagement hstage haon hvddio hpin hfuses, ?_⟩
    split
    · rw [State.logFault_boot, State.logFault_dog]
      exact ⟨(congrArg Boot.stage hboot :), (congrArg Boot.transitEn hboot :), (congrArg Boot.resetting hboot :), congrArg Sheepdog.lcState hdog⟩
    · exact ⟨(congrArg Boot.stage hboot :), (congrArg Boot.transitEn hboot :), (congrArg Boot.resetting hboot :), congrArg Sheepdog.lcState hdog⟩

end Sys2Proof.Machine

/-! SUPPORT. The stages 2 to 5 (R437, R438, R440, R467, R475). -/

namespace Sys2Proof.Machine

/-! ### Stage 2 (R437, R453, R467, R475) -/

/-- R404: the Talsen ports of a device that is not decommissioned train, and none of them is down. -/
theorem State.trainTalsen_state {s : State} (h : s.dog.lcState ≠ lcDecommissioned) {x : Talsen} (hx : x ∈ s.trainTalsen.talsen) :
    x.state ≠ .down := by
  have htrain : s.trainTalsen.talsen = s.talsen.map (fun t => if t.state = .down then { t with state := .training } else t) := if_neg h
  rw [htrain] at hx
  obtain ⟨y, -, rfl⟩ := List.mem_map.1 hx
  split
  · exact TalsenState.noConfusion
  · next hup => exact hup

/-- R437: stage 2 is entered from stage 1, or during a warm reset. -/
def State.AwaitsFirmware (s : State) : Prop :=
  s.boot.stage = 1 ∧ s.boot.railHold = false ∧ s.boot.resetting ≠ some .controlComplex ∨ s.boot.stage = 2 ∧ s.boot.resetting = some .warm

section StageFirmware

variable {s : State} (hwaits : s.AwaitsFirmware) (hlink : s.boot.linkUp = true) (hrails : s.hubRails = true)
  (hdie : 4 ∉ s.boot.stoppedDies)
include hwaits hlink hrails hdie

theorem State.entersFirmware : (((s.quiet.boot.stage = 1 && !s.quiet.boot.railHold && s.quiet.boot.resetting != some .controlComplex) ||
    (s.quiet.boot.stage = 2 && s.quiet.boot.resetting = some .warm)) && s.quiet.boot.linkUp && s.quiet.hubRails &&
      !(s.quiet.boot.stoppedDies.contains 4)) = true := by
  have hquiet : s.quiet.hubRails = true := hrails
  rw [hquiet, State.quiet_boot, hlink]
  rcases hwaits with ⟨hstage, hhold, hresetting⟩ | ⟨hstage, hresetting⟩ <;> simp [*]

theorem exec_stageFirmware_decommissioned (hlc : s.dog.lcState = lcDecommissioned) :
    exec .stageFirmware s = .next s.quiet.enterDecommissioned :=
  (if_pos (State.entersFirmware hwaits hlink hrails hdie)).trans (if_pos hlc)

variable (hlc : s.dog.lcState ≠ lcDecommissioned) (hidentity : s.dog.identityOk = true)
include hlc hidentity

theorem exec_stageFirmware_starts : exec .stageFirmware s = .next s.quiet.startShepherd :=
  (if_pos (State.entersFirmware hwaits hlink hrails hdie)).trans ((if_neg hlc).trans (if_pos hidentity))

end StageFirmware

section StartShepherd

variable {s : State} {g : Sheepdog} (hflash : s.dog.flashUsable = true)
include hflash

/-- R475: the Shepherd starts from the image `i`. -/
theorem State.startShepherd_image {i : Nat} (hchoice : s.dog.scan.choose true = (g, some i)) : s.startShepherd =
    (((((s.modDog (fun _ => (g.migrate i).started i)).modBoot
      (fun b => { b with shepherdRuns := true, resetting := none, fieldEn := true })).takeBank).trainTalsen).setStage 2) := by
  have hboot := State.bootImage_some (s := s.modDog Sheepdog.scan) hchoice
  unfold State.startShepherd
  rw [if_pos hflash]
  dsimp only
  rw [hboot]
  rfl

/-- R438, R475: with no image that verifies the device stays at stage 1. -/
theorem State.startShepherd_none (hchoice : s.dog.scan.choose true = (g, none)) : s.startShepherd.boot.stage = 1 := by
  have hboot := State.bootImage_none (s := s.modDog Sheepdog.scan) hchoice
  unfold State.startShepherd
  rw [if_pos hflash]
  dsimp only
  rw [hboot]
  dsimp only
  rw [State.modBoot_boot, State.logFault_boot, State.setStage_boot]

end StartShepherd

/-- R453, R475: the choice of an image and its start leave the life-cycle state. -/
theorem Sheepdog.started_lcState {g h : Sheepdog} {i : Nat} (hchoice : g.scan.choose true = (h, some i)) :
    ((h.migrate i).started i).lcState = g.lcState := by
  have hchosen : g.scan.SameModes h := by
    have := g.scan.choose_same true
    rwa [hchoice] at this
  exact ((g.scan_same.trans hchosen).trans (h.migrate_same i)).1

theorem exec_stageFirmware_image {s : State} (hwaits : s.AwaitsFirmware) (hlink : s.boot.linkUp = true) (hrails : s.hubRails = true)
    (hdie : 4 ∉ s.boot.stoppedDies) (hlc : s.dog.lcState ≠ lcDecommissioned) (hidentity : s.dog.identityOk = true)
    (hflash : s.dog.flashUsable = true) {i : Nat} {g : Sheepdog} (hchoice : s.dog.scan.choose true = (g, some i)) :
    ∃ t, exec .stageFirmware s = .next t ∧ t.boot.stage = 2 ∧ t.boot.shepherdRuns = true ∧ t.boot.fieldEn = true ∧
      t.boot.resetting = none ∧ t.dog.running = some i ∧ ∀ x ∈ t.talsen, x.state ≠ .down := by
  have hexec := exec_stageFirmware_starts hwaits hlink hrails hdie hlc hidentity
  rw [State.startShepherd_image (s := s.quiet) hflash hchoice] at hexec
  refine ⟨_, hexec, ?_, ?_, ?_, ?_, ?_, fun x hx => ?_⟩
  · rw [State.setStage_boot]
  · rw [State.setStage_boot]
    rfl
  · rw [State.setStage_boot]
    rfl
  · rw [State.setStage_boot]
    rfl
  · rw [State.setStage_dog]
    rfl
  · rw [State.setStage_talsen] at hx
    refine State.trainTalsen_state ?_ hx
    change ((g.migrate i).started i).lcState ≠ lcDecommissioned
    rwa [Sheepdog.started_lcState hchoice]

/-! ### Stage 3 (R52, R79, R80, R82) -/

/-- R80, R82: the state of a Fold after the map is rebuilt. -/
theorem rebuildFolds_getD {retired : List Nat} {slots : List FoldSlot} {on : Nat → Bool} {k : Nat} (hk : k < 136) :
    (rebuildFolds retired slots on).getD k .off = if retired.contains k then { Fold.off with state := .retired }
      else if !(on k) then Fold.off
      else if (servedFolds slots).contains k then { Fold.off with state := .active }
      else { Fold.off with state := .spare } := by
  simp [rebuildFolds, hk]

theorem rebuildFolds_retired {retired : List Nat} {slots : List FoldSlot} {on : Nat → Bool} {k : Nat} (hk : k < 136)
    (hretired : k ∈ retired) : ((rebuildFolds retired slots on).getD k .off).state = .retired := by
  rw [rebuildFolds_getD hk, if_pos (List.contains_iff_mem.2 hretired)]

theorem rebuildFolds_active {retired : List Nat} {slots : List FoldSlot} {on : Nat → Bool} {k : Nat} (hk : k < 136)
    (hactive : ((rebuildFolds retired slots on).getD k .off).state = .active) : on k = true ∧ k ∉ retired := by
  rw [rebuildFolds_getD hk] at hactive
  split at hactive
  · exact FoldState.noConfusion hactive
  · next hretired =>
    split at hactive
    · exact FoldState.noConfusion hactive
    · next hon => exact ⟨by simpa using hon, fun hmem => hretired (List.contains_iff_mem.2 hmem)⟩

/-- R79, R80: the self-test of stage 3, before the map is rebuilt. -/
def State.selftested (s : State) (bad : List Nat) : State := (s.passRetest bad).forAll bad State.failSelftest

theorem State.selftested_keeps (s : State) (bad : List Nat) : Keeps [.dog, .host, .health, .out] s (s.selftested bad) :=
  (State.passRetest_keeps.mono (by decide)).trans (State.forAll_keeps Keeps.rfl (fun _ _ => State.failSelftest_keeps))

/-- R82: the Folds of stage 3: those of the die of stage 3 that serve a slot. -/
def servesReduced (slots : List FoldSlot) (k : Nat) : Bool := k / 34 = reducedDie slots && (servedFolds slots).contains k

/-- R80, R82: the map of slots without the retired Folds, and the Folds of one die with power. -/
def State.remapped (s : State) : State := s.modComp (fun c => { c with
  slots := rebuildSlots s.dog.retiredNow s.comp.slots
  folds := rebuildFolds s.dog.retiredNow (rebuildSlots s.dog.retiredNow s.comp.slots)
    (servesReduced (rebuildSlots s.dog.retiredNow s.comp.slots)) })

theorem State.remapped_folds (s : State) :
    s.remapped.comp.folds = rebuildFolds s.remapped.dog.retiredNow s.remapped.comp.slots (servesReduced s.remapped.comp.slots) := by
  unfold State.remapped State.modComp
  rfl

theorem State.remapped_retired {s : State} {k : Nat} (hk : k < 136) (hretired : k ∈ s.remapped.dog.retiredNow) :
    (s.remapped.comp.folds.getD k .off).state = .retired := by
  rw [State.remapped_folds]
  exact rebuildFolds_retired hk hretired

theorem State.remapped_active {s : State} {k : Nat} (hk : k < 136) (hactive : (s.remapped.comp.folds.getD k .off).state = .active) :
    k / 34 = reducedDie s.remapped.comp.slots ∧ k ∉ s.remapped.dog.retiredNow := by
  rw [State.remapped_folds] at hactive
  obtain ⟨hon, hnot⟩ := rebuildFolds_active hk hactive
  obtain ⟨hdie, -⟩ := Bool.and_eq_true_iff.1 hon
  exact ⟨of_decide_eq_true hdie, hnot⟩

/-- R82: a bank of the commons that fails leaves every Fold without power. -/
def State.unserved (s : State) : State := s.modComp (fun c => { c with
  folds := rebuildFolds s.dog.retiredNow s.comp.slots (fun _ => false) })

section StageReduced

variable {s : State} (bad : List Nat) (hstage : s.boot.stage = 2) (hresetting : s.boot.resetting = none)
  (hruns : s.boot.shepherdRuns = true) (himage : s.dog.running ≠ some 2) (hpower : s.fieldsPowered = true)
  (hheld : s.heldAt2 = false) (hlc : s.dog.lcState ≠ lcDecommissioned)
include hstage hresetting hruns himage hpower hheld hlc

theorem State.entersReduced : (s.quiet.boot.stage = 2 && s.quiet.boot.resetting.isNone && s.quiet.boot.shepherdRuns &&
    s.quiet.dog.running != some 2 && s.quiet.fieldsPowered && !s.quiet.heldAt2 && s.quiet.dog.lcState != lcDecommissioned) = true := by
  have hquietPower : s.quiet.fieldsPowered = true := hpower
  have hquietHeld : s.quiet.heldAt2 = false := hheld
  rw [hquietPower, hquietHeld, State.quiet_boot, State.quiet_dog, hstage, hresetting, hruns, bne_iff_ne.2 himage, bne_iff_ne.2 hlc]
  rfl

theorem exec_stageReduced_passes : exec (.stageReduced bad []) s = .next ((s.quiet.selftested bad).remapped.setStage 3) :=
  if_pos (State.entersReduced hstage hresetting hruns himage hpower hheld hlc)

theorem exec_stageReduced_fails (b : Nat) (cs : List Nat) : exec (.stageReduced bad (b :: cs)) s =
    .next ((s.quiet.selftested bad).remapped.unserved.forAll (b :: cs) (fun w b => w.logFault 14 0x0B03 .uncontained b)) :=
  if_pos (State.entersReduced hstage hresetting hruns himage hpower hheld hlc)

theorem exec_stageReduced_commons (b : Nat) (cs : List Nat) :
    ∃ t, exec (.stageReduced bad (b :: cs)) s = .next t ∧ t.boot.stage = 2 := by
  refine ⟨_, exec_stageReduced_fails bad hstage hresetting hruns himage hpower hheld hlc b cs, ?_⟩
  have hlog (u : State) (k : Nat) : (u.logFault 14 0x0B03 .uncontained k).boot = u.boot := State.logFault_boot ..
  have htest : (s.quiet.selftested bad).boot = s.boot := (s.quiet.selftested_keeps bad).only.same .boot (by decide)
  rw [State.forAll_same hlog]
  exact (congrArg Boot.stage htest :).trans hstage

end StageReduced

/-! ### Stage 4 (R264, R273, R274, R404 to R406, R445, R499) -/

/-- Near pasture just trained: no byte of it is written, and none waits to be. -/
theorem State.npByte_trained {s : State} {n : NearMem} {thresh : Byte} (h : s.np = n.trained thresh) (a : Nat) : s.npByte a = 0 := by
  unfold State.npByte
  rw [h]
  rfl

section StageMemory

variable {s : State} (hstage : s.boot.stage = 3) (hresetting : s.boot.resetting = none)
  (hruns : s.boot.shepherdRuns = true) (hlc : s.dog.lcState ≠ lcReturn) (hcool : ∀ k ∈ s.np.stackList, k.tstate ≠ 4)

/-- R404, R405: the ports enumerated over near pasture just trained. -/
def State.enumerated (s : State) (xs : List (Option Expander)) : State :=
  (s.modNp (fun n => n.trained s.dog.inUse.thresh)).forAll ((List.range 4).zip xs) (fun w x => w.enumerate x.1 x.2)

/-- R406: the far capacity is fixed, and a port that is up is announced. -/
def State.announced (s : State) (xs : List (Option Expander)) : State :=
  if (s.enumerated xs).fixFar.talsen.any (fun x => x.state == .up) then (s.enumerated xs).fixFar.healthEventAll 4 else (s.enumerated xs).fixFar

/-- R82: every Fold of the map has power, but for those that have failed. -/
def State.powered (s : State) : State := s.modComp (fun c => { c with
  folds := keepFailed c.folds (rebuildFolds s.dog.retiredNow c.slots (fun _ => true)) })

theorem State.enumerated_keeps (s : State) (xs : List (Option Expander)) :
    Keeps [.host, .talsen, .health, .out] (s.modNp (fun n => n.trained s.dog.inUse.thresh)) (s.enumerated xs) :=
  State.forAll_keeps Keeps.rfl (fun _ _ => State.enumerate_keeps)

theorem State.announced_np (s : State) (xs : List (Option Expander)) : (s.announced xs).np = s.np.trained s.dog.inUse.thresh := by
  have hnp : (s.enumerated xs).np = s.np.trained s.dog.inUse.thresh := (s.enumerated_keeps xs).only.same .np (by decide)
  unfold State.announced
  split
  · rw [State.healthEventAll_np]
    exact hnp
  · exact hnp

theorem State.announced_far (s : State) (xs : List (Option Expander)) :
    (s.announced xs).drover.farCapacity = ((s.announced xs).talsen.map Talsen.usedMib).sum * 2 ^ 20 := by
  unfold State.announced
  split
  · rw [State.healthEventAll_drover, State.healthEventAll_talsen]
    rfl
  · rfl

theorem State.enumerate_power (s : State) (port : Nat) (x : Option Expander) : (s.enumerate port x).health.power = s.health.power := by
  unfold State.enumerate
  split
  · rfl
  · split
    · rfl
    · exact State.logFault_power (by decide) ..

theorem State.announced_power (s : State) (xs : List (Option Expander)) : (s.announced xs).health.power = s.health.power := by
  have hport (u : State) (x : Nat × Option Expander) : (u.enumerate x.1 x.2).health.power = u.health.power := u.enumerate_power x.1 x.2
  have hpower : (s.enumerated xs).health.power = s.health.power := State.forAll_same (g := fun u => u.health.power) hport _ _
  unfold State.announced
  split
  · rw [State.healthEventAll_health]
    exact hpower
  · exact hpower

theorem State.announced_stage (s : State) (xs : List (Option Expander)) : (s.announced xs).boot.stage = s.boot.stage := by
  have hboot : (s.enumerated xs).boot = s.boot := (s.enumerated_keeps xs).only.same .boot (by decide)
  unfold State.announced
  split
  · rw [State.healthEventAll_boot]
    exact (congrArg Boot.stage hboot :)
  · exact (congrArg Boot.stage hboot :)

include hstage hresetting hruns hlc hcool

theorem State.entersMemory : (s.quiet.boot.stage = 3 && s.quiet.boot.resetting.isNone && s.quiet.boot.shepherdRuns &&
    s.quiet.dog.lcState != lcReturn && !(s.quiet.np.stackList.any (fun k => k.tstate = 4))) = true := by
  have hnone : s.quiet.np.stackList.any (fun k => k.tstate = 4) = false := by
    rw [State.quiet_np, List.any_eq_false]
    exact fun k hk hhot => hcool k hk (of_decide_eq_true hhot)
  rw [hnone, State.quiet_boot, State.quiet_dog, hstage, hresetting, hruns, bne_iff_ne.2 hlc]
  rfl

theorem exec_stageMemory_passes (xs : List (Option Expander)) :
    exec (.stageMemory [] xs) s = .next (((s.quiet.announced xs).powered.setStage 4).startHealth) :=
  if_pos (State.entersMemory hstage hresetting hruns hlc hcool)

theorem exec_stageMemory_fails (b : Nat) (bs : List Nat) (xs : List (Option Expander)) :
    ∃ t, exec (.stageMemory (b :: bs) xs) s = .next t ∧ t.boot.stage = 3 := by
  refine ⟨_, if_pos (State.entersMemory hstage hresetting hruns hlc hcool), ?_⟩
  have hlog (u : State) (k : Nat) : (u.logFault 8 0x0204 .uncontained k).boot = u.boot := State.logFault_boot ..
  exact (congrArg Boot.stage (State.forAll_same hlog _ _)).trans hstage

/-- R437, R438: what stage 4 leaves. -/
theorem exec_stageMemory_leaves (xs : List (Option Expander)) : ∃ t, exec (.stageMemory [] xs) s = .next t ∧ t.boot.stage = 4 ∧
    (∀ a, t.npByte a = 0) ∧ t.np.poison = [] ∧ (∀ k ∈ t.np.stackList, k.trained = true) ∧
    t.drover.farCapacity = (t.talsen.map Talsen.usedMib).sum * 2 ^ 20 ∧
    (s.health.power.brake = false → t.health.power.point = .nominal ∧ t.health.power.duty = 16) := by
  refine ⟨_, exec_stageMemory_passes hstage hresetting hruns hlc hcool xs, ?_⟩
  generalize ht : (((s.quiet.announced xs).powered.setStage 4).startHealth) = t
  have hkeeps : Keeps [.dog] ((s.quiet.announced xs).powered.setStage 4) t := ht ▸ State.startHealth_keeps
  have hnp : t.np = s.np.trained s.dog.inUse.thresh :=
    (hkeeps.only.same .np (by decide)).trans ((State.setStage_np ..).trans (s.quiet.announced_np xs))
  have hboot : t.boot.stage = 4 := by
    have hsame : t.boot = _ := (hkeeps.only.same .boot (by decide)).trans (State.setStage_boot ..)
    rw [hsame]
  have hdrover : t.drover = (s.quiet.announced xs).drover := (hkeeps.only.same .drover (by decide)).trans (State.setStage_drover ..)
  have htalsen : t.talsen = (s.quiet.announced xs).talsen := (hkeeps.only.same .talsen (by decide)).trans (State.setStage_talsen ..)
  have hhealth : t.health = _ := (hkeeps.only.same .health (by decide)).trans (State.setStage_health ..)
  have hbefore : (s.quiet.announced xs).powered.boot.stage = 3 := (s.quiet.announced_stage xs).trans hstage
  have hpower : (s.quiet.announced xs).powered.health.power = s.health.power := s.quiet.announced_power xs
  refine ⟨hboot, State.npByte_trained hnp, ?_, fun k hk => ?_, ?_, fun hbrake => ?_⟩
  · rw [hnp]
    rfl
  · rw [hnp] at hk
    obtain ⟨j, -, rfl⟩ := List.mem_map.1 hk
    rfl
  · rw [hdrover, htalsen]
    exact s.quiet.announced_far xs
  · have hnominal : t.health.power = { s.health.power with point := .nominal, duty := 16 } := by
      rw [hhealth, hbefore]
      change (s.quiet.announced xs).powered.health.power.atStage 3 4 = _
      rw [hpower]
      exact if_neg (Bool.eq_false_iff.1 hbrake)
    rw [hnominal]
    exact ⟨rfl, rfl⟩

end StageMemory

/-! ### Stage 5 (R437) -/

theorem exec_stageFull {s : State} (hstage : s.boot.stage = 4) (hresetting : s.boot.resetting = none)
    (hruns : s.boot.shepherdRuns = true) (hplaced : s.fab.placed = true) (htransit : s.fab.transitOnly = false)
    (hdrained : s.fab.draining = none) (haxes : s.axesUp = true) (htime : s.time.synced = true ∨ s.isMaster = true)
    (hlc : s.dog.lcState ≠ lcReturn) : exec .stageFull s = .next ((s.quiet.setStage 5).startHealth) := by
  have haxesQuiet : s.quiet.axesUp = true := haxes
  have hsync : (s.quiet.time.synced || s.quiet.isMaster) = true := by
    rw [Bool.or_eq_true]
    exact htime
  have henters : (s.quiet.boot.stage = 4 && s.quiet.boot.resetting.isNone && s.quiet.boot.shepherdRuns && s.quiet.fab.placed &&
      !s.quiet.fab.transitOnly && s.quiet.fab.draining.isNone && s.quiet.axesUp && (s.quiet.time.synced || s.quiet.isMaster) &&
      s.quiet.dog.lcState != lcReturn) = true := by
    rw [hsync, haxesQuiet, State.quiet_boot, State.quiet_dog, State.quiet_fab, hstage, hresetting, hruns, hplaced, htransit, hdrained,
      bne_iff_ne.2 hlc]
    rfl
  exact congrArg Host.Outcome.next (if_pos henters)

theorem Only.of_health {cs : List Area} {s t : State} (h : Only (.health :: cs) s t) (hkept : t.health = s.health) : Only cs s t := by
  refine ⟨fun a ha => ?_, h.pending⟩
  by_cases hhealth : a = .health
  · rw [hhealth]
    exact hkept
  · exact h.same a (List.not_mem_cons_of_ne_of_not_mem hhealth ha)

/-- R448, R499: power control does not change between the stages 4 and 5. -/
theorem State.setStage_five {s : State} (hstage : s.boot.stage = 4) : (s.setStage 5).health = s.health := by
  have hkept : s.health.power.atStage 4 5 = s.health.power := by
    unfold Power.atStage
    split <;> rfl
  rw [State.setStage_health, hstage, hkept]
  rfl

/-- Settles O11: a stage is entered under its conditions, each checked before anything changes, and leaves what it has built. -/
theorem stages : Obligations.Stages := by
  unfold Obligations.Stages
  refine ⟨fun s hwaits hlink hrails hdie hlc hidentity hflash => ⟨fun i g hchoice => ?_, fun g hchoice => ?_⟩,
    fun s hwaits hlink hrails hdie hlc => ?_,
    fun bad s hstage hresetting hruns himage hpower hheld hlc => ?_,
    fun b bad cs s hstage hresetting hruns himage hpower hheld hlc => ?_,
    fun xs s hstage hresetting hruns hlc hcool => exec_stageMemory_leaves hstage hresetting hruns hlc hcool xs,
    fun b bs xs s hstage hresetting hruns hlc hcool => exec_stageMemory_fails hstage hresetting hruns hlc hcool b bs xs,
    fun s hstage hresetting hruns hplaced htransit hdrained haxes htime hlc => ?_⟩
  · exact exec_stageFirmware_image hwaits hlink hrails hdie hlc hidentity hflash hchoice
  · exact ⟨_, exec_stageFirmware_starts hwaits hlink hrails hdie hlc hidentity, State.startShepherd_none (s := s.quiet) hflash hchoice⟩
  · refine ⟨_, exec_stageFirmware_decommissioned hwaits hlink hrails hdie hlc, ?_⟩
    unfold State.enterDecommissioned
    rw [State.setStage_boot]
    exact ⟨rfl, rfl, rfl⟩
  · refine ⟨_, exec_stageReduced_passes bad hstage hresetting hruns himage hpower hheld hlc, ?_⟩
    unfold State.fold
    rw [State.setStage_boot, State.setStage_comp, State.setStage_dog]
    exact ⟨rfl, rebuildSlots_length, fun k hretired hk => State.remapped_retired hk hretired, fun k hk hactive =>
      State.remapped_active hk hactive⟩
  · exact exec_stageReduced_commons bad hstage hresetting hruns himage hpower hheld hlc b cs
  · refine ⟨_, exec_stageFull hstage hresetting hruns hplaced htransit hdrained haxes htime hlc, ?_, ?_⟩
    · rw [State.startHealth_keeps.only.same .boot (by decide), State.setStage_boot]
    · have hpower : (s.quiet.setStage 5).health = s.health := State.setStage_five hstage
      have hstages : Keeps [.boot, .host, .health, .out] s.quiet (s.quiet.setStage 5) := State.setStage_keeps (fun _ => by decide)
      have honly : Keeps [.health, .dog, .boot, .host, .out] s (s.quiet.setStage 5).startHealth :=
        (State.quiet_keeps.mono (by decide)).trans ((hstages.mono (by decide)).trans (State.startHealth_keeps.mono (by decide)))
      exact honly.only.of_health ((State.startHealth_keeps.only.same .health (by decide)).trans hpower)

end Sys2Proof.Machine

/-! SUPPORT. The update of the firmware and the report of its slots (R427 to R430, R472 to R474, R476). -/

namespace Sys2Proof.Machine

/-! ### What a served request answers (R399, R400) -/

section Served

variable {s u : State} {fn : Fin 9} {slot : Fin 4} {op : Nat} {body : Req → State → Answer} (hwaits : s.Waits fn slot op)
include hwaits

theorem served_reply {st : Nat} {pay : List Byte} (hbody : body (s.reqIn fn slot) (s.taken fn slot) = .reply u st pay) :
    done (s.quiet.serve fn slot op body) = .next ((u.answer (slotIndex fn slot) st pay).settleRound) :=
  congrArg Host.Outcome.next ((serve_of_waits hwaits).trans (by rw [hbody]; rfl))

theorem served_wait (hbody : body (s.reqIn fn slot) (s.taken fn slot) = .wait u) :
    done (s.quiet.serve fn slot op body) = .next u.settleRound :=
  congrArg Host.Outcome.next ((serve_of_waits hwaits).trans (by rw [hbody]; rfl))

end Served

/-! ### FW_UPDATE_BEGIN (R427, R472) -/

theorem Sheepdog.updateTarget_lt (g : Sheepdog) (b : Bcb) : (g.updateTarget b).2 < 2 := by
  unfold Sheepdog.updateTarget
  split
  · dsimp only
    split <;> decide
  · dsimp only
    generalize (if b.states.getD b.boot .empty = .pending && b.confirmed < 2 then b.confirmed else b.boot) = boot
    cases hfree : [0, 1].find? (fun i => i != boot && i != b.confirmed) with
    | none => exact Nat.lt_succ_of_le (Nat.sub_le 1 boot)
    | some i =>
      have hmem := List.mem_of_find?_eq_some hfree
      simp only [List.mem_cons, List.not_mem_nil, or_false] at hmem
      change i < 2
      omega

/-- R472: the erase of the target leaves the session. -/
theorem Sheepdog.beginErase_session (g : Sheepdog) (i : Nat) :
    (g.beginErase i).session = g.session ∧ (g.beginErase i).sessionCounter = g.sessionCounter := by
  unfold Sheepdog.beginErase
  dsimp only
  split
  · exact ⟨rfl, rfl⟩
  · obtain ⟨j, n, hj⟩ := Sheepdog.Journaled.append { g with erasing := g.targetSectors i } .eraseStart ((g.targetSectors i).headD 0)
    rw [hj]
    exact ⟨rfl, rfl⟩

/-- R472: the number of the next session; never 0. -/
def Sheepdog.nextSession (g : Sheepdog) : Word := if g.sessionCounter + 1 = 0 then 1 else g.sessionCounter + 1

theorem Sheepdog.nextSession_ne (g : Sheepdog) : g.nextSession ≠ 0 := by
  unfold Sheepdog.nextSession
  split
  · decide
  · next h => exact h

/-- R427: the session that opens. -/
def Sheepdog.newSession (g : Sheepdog) (bytes : Nat) (version : Word) : Session :=
  { number := g.nextSession, imageBytes := bytes, version := version, target := (g.updateTarget ((g.bcbNow).getD .none')).2
    accepted := 0, lastOffset := 0, lastData := [] }

theorem Sheepdog.openSession_session (g : Sheepdog) (bytes : Nat) (version : Word) :
    (g.openSession bytes version).session = some (g.newSession bytes version) ∧
      (g.openSession bytes version).sessionCounter = g.nextSession := by
  unfold Sheepdog.openSession
  dsimp only
  exact Sheepdog.beginErase_session _ _

/-- R427: the Sheepdog once a session is open; a version below the running one takes the presence window. -/
def Sheepdog.opened (g : Sheepdog) (bytes version running : Nat) : Sheepdog :=
  { (g.openSession bytes (BitVec.ofNat 32 version)) with window := if version < running then none else g.window }

theorem Sheepdog.opened_session (g : Sheepdog) (bytes version running : Nat) :
    (g.opened bytes version running).session = some (g.newSession bytes (BitVec.ofNat 32 version)) ∧
      (g.opened bytes version running).sessionCounter = g.nextSession := by
  unfold Sheepdog.opened
  dsimp only
  exact g.openSession_session bytes (BitVec.ofNat 32 version)

theorem fwUpdateBegin_opens {r : Req} {s t : State} (ht : s.sampleHoldup true = t) (hsession : t.dog.session = none)
    (hconfirmed : ((t.dog.settled.bcbNow).getD .none').states.contains .unconfirmed = false)
    (hlock : ((t.dog.settled.identNow).getD .none').ownerLock = false) (hjob : t.jobActive = false) (hsome : r.f 0 4 ≠ 0)
    (hfits : r.f 0 4 ≤ if t.dog.dualSlot then 48 * mib else 24 * mib) (hflags : r.f 8 1 ≤ 1) (hzero : r.zero 9 16 = true)
    (hfloor : t.dog.floor ≤ r.f 4 4 / 2 ^ 24) (hlower : r.f 4 4 < t.fwVersion → r.f 8 1 = 1 ∧ t.windowOpen = true) :
    fwUpdateBegin true r s = .reply (t.modDog (fun g => g.opened (r.f 0 4) (r.f 4 4) t.fwVersion)) stOk
      (leBytes 4 (t.dog.opened (r.f 0 4) (r.f 4 4) t.fwVersion).sessionCounter.toNat ++ leBytes 4 2048) := by
  have hparam : ¬ (decide (r.f 0 4 = 0) || decide ((if t.dog.dualSlot then 48 * mib else 24 * mib) < r.f 0 4) || decide (1 < r.f 8 1) ||
      !(r.zero 9 16) || (decide (r.f 4 4 < t.fwVersion) && decide (r.f 8 1 = 0))) = true := by
    rw [hzero, decide_eq_false hsome, decide_eq_false (Nat.not_lt.2 hfits), decide_eq_false (Nat.not_lt.2 hflags)]
    by_cases h : r.f 4 4 < t.fwVersion
    · simp [(hlower h).1]
    · simp [h]
  have hpresence : ¬ (decide (r.f 4 4 < t.fwVersion) && !(t.windowOpen)) = true := by
    by_cases h : r.f 4 4 < t.fwVersion
    · simp [(hlower h).2]
    · simp [h]
  have hfree : ¬ (t.dog.session.isSome || ((t.dog.settled.bcbNow).getD .none').states.contains .unconfirmed) = true := by
    rw [hsession, hconfirmed]
    decide
  unfold fwUpdateBegin
  rw [ht]
  dsimp only
  rw [if_neg hfree, if_neg (by simp [hlock]), if_neg (by simp [hjob]), if_neg (by decide), if_neg hparam,
    if_neg (Nat.not_lt.2 hfloor), if_neg hpresence]
  rfl

/-! ### FW_UPDATE_BLOCK (R428, R473) -/

theorem State.session?_of_open {s : State} {x : Session} {n : Nat} (hopen : s.dog.session = some x) (hnumber : x.number.toNat = n) :
    s.session? n = some x := by
  unfold State.session?
  rw [hopen]
  exact if_pos hnumber

theorem blockAnswer_of_open {s : State} {x : Session} {n : Nat} (hopen : s.dog.session = some x) (hnumber : x.number.toNat = n)
    (st : Nat) : blockAnswer s n st = .reply s st (leBytes 4 x.accepted) := by
  unfold blockAnswer
  rw [State.session?_of_open hopen hnumber]
  rfl

section Block

variable {r : Req} {s : State} {x : Session} (hopen : s.dog.session = some x) (hnumber : x.number.toNat = r.f 0 4)
  (hzero : r.zero 10 16 = true)
include hopen hnumber hzero

/-- R428: a block of the open session, its reserved bytes zero. -/
theorem takeOrWait_of_open : takeOrWait true r s =
    if r.f 4 4 != x.accepted then
      blockAnswer s (r.f 0 4) (if x.lastData != [] && r.f 4 4 = x.lastOffset && r.pay.drop 16 = x.lastData then stOk else stSequence)
    else if r.pay.drop 16 = [] || (r.pay.drop 16).length != min 2048 (x.imageBytes - x.accepted) then blockAnswer s (r.f 0 4) stBadParam
    else if (s.dog.blockSectors x).any (fun a => s.dog.erasing.contains a) then .wait s
    else blockAnswer (s.modDog (fun g => g.takeBlock x (r.pay.drop 16))) (r.f 0 4) stOk := by
  unfold takeOrWait
  dsimp only
  rw [State.session?_of_open hopen hnumber, hzero]
  rfl

theorem takeOrWait_again (hoffset : r.f 4 4 ≠ x.accepted) (hlast : r.f 4 4 = x.lastOffset) (hnonempty : x.lastData ≠ [])
    (hdata : r.pay.drop 16 = x.lastData) : takeOrWait true r s = .reply s stOk (leBytes 4 x.accepted) := by
  rw [takeOrWait_of_open hopen hnumber hzero, if_pos (bne_iff_ne.2 hoffset), blockAnswer_of_open hopen hnumber,
    if_pos (by simp [hlast, hdata, hnonempty])]

theorem takeOrWait_sequence (hoffset : r.f 4 4 ≠ x.accepted) (hother : r.f 4 4 ≠ x.lastOffset ∨ r.pay.drop 16 ≠ x.lastData) :
    takeOrWait true r s = .reply s stSequence (leBytes 4 x.accepted) := by
  have hdiffers : ¬ (x.lastData != [] && r.f 4 4 = x.lastOffset && r.pay.drop 16 = x.lastData) = true := by
    simp only [Bool.and_eq_true, decide_eq_true_eq, not_and]
    exact fun h hdata => hother.elim (fun ho => ho h.2) (fun hd => hd hdata)
  rw [takeOrWait_of_open hopen hnumber hzero, if_pos (bne_iff_ne.2 hoffset), blockAnswer_of_open hopen hnumber, if_neg hdiffers]

variable (hoffset : r.f 4 4 = x.accepted) (hnonempty : r.pay.drop 16 ≠ []) (hlength : (r.pay.drop 16).length = min 2048 (x.imageBytes - x.accepted))
include hoffset hnonempty hlength

theorem takeOrWait_next : takeOrWait true r s =
    if (s.dog.blockSectors x).any (fun a => s.dog.erasing.contains a) then .wait s
    else blockAnswer (s.modDog (fun g => g.takeBlock x (r.pay.drop 16))) (r.f 0 4) stOk := by
  rw [takeOrWait_of_open hopen hnumber hzero, if_neg (by simp [hoffset]), if_neg (by simp only [hlength]; simpa using hnonempty)]

theorem takeOrWait_waits (herasing : ∃ a ∈ s.dog.blockSectors x, a ∈ s.dog.erasing) : takeOrWait true r s = .wait s := by
  obtain ⟨a, ha, hin⟩ := herasing
  rw [takeOrWait_next hopen hnumber hzero hoffset hnonempty hlength, if_pos (List.any_eq_true.2 ⟨a, ha, List.contains_iff_mem.2 hin⟩)]

theorem takeOrWait_takes (herased : ∀ a ∈ s.dog.blockSectors x, a ∉ s.dog.erasing) : takeOrWait true r s =
    .reply (s.modDog (fun g => g.takeBlock x (r.pay.drop 16))) stOk (leBytes 4 (x.accepted + (r.pay.drop 16).length)) := by
  have hnone : ¬ (s.dog.blockSectors x).any (fun a => s.dog.erasing.contains a) = true := fun h => by
    obtain ⟨a, ha, hin⟩ := List.any_eq_true.1 h
    exact herased a ha (List.contains_iff_mem.1 hin)
  rw [takeOrWait_next hopen hnumber hzero hoffset hnonempty hlength, if_neg hnone]
  exact blockAnswer_of_open (x := { x with accepted := x.accepted + (r.pay.drop 16).length, lastOffset := x.accepted,
                                           lastData := r.pay.drop 16 }) rfl hnumber stOk

end Block

/-! ### FW_UPDATE_COMMIT, FW_CONFIRM_HEALTH and FW_UPDATE_ABORT (R429, R474, R476) -/

section Commit

variable {r : Req} {s t : State} {x : Session} (ht : s.sampleHoldup true = t) (hzero : r.zero 5 8 = true)
  (hopen : t.dog.session = some x) (hnumber : x.number.toNat = r.f 0 4) (hwhole : x.imageBytes ≤ x.accepted) (hjob : t.jobActive = false)
  (hactivate : r.f 4 1 ≤ 1)
include ht hzero hopen hnumber hwhole hjob hactivate

/-- R429: a commit of the open session that has taken its whole image. -/
theorem fwUpdateCommit_of_open : fwUpdateCommit true r s =
    if !(t.dog.verified x.target) || t.dog.imageVersion x.target != x.version then refuse (t.modDog Sheepdog.closeSession) stIntegrity
    else if r.f 4 1 = 1 then .wait (((t.modDog (fun g => g.commit x)).answer r.slot stOk []).ccReset 10)
    else .reply (t.modDog (fun g => g.commit x)) stOk [] := by
  have hparam : ¬ (decide (1 < r.f 4 1) || !(r.zero 5 8)) = true := by
    rw [hzero, decide_eq_false (Nat.not_lt.2 hactivate)]
    decide
  unfold fwUpdateCommit
  rw [ht]
  dsimp only
  rw [if_neg hparam, State.session?_of_open hopen hnumber]
  dsimp only
  rw [if_neg (Nat.not_lt.2 hwhole), if_neg (Bool.eq_false_iff.1 hjob)]
  rfl

theorem fwUpdateCommit_integrity (hbad : t.dog.verified x.target = false ∨ t.dog.imageVersion x.target ≠ x.version) :
    fwUpdateCommit true r s = .reply (t.modDog Sheepdog.closeSession) stIntegrity [] := by
  rw [fwUpdateCommit_of_open ht hzero hopen hnumber hwhole hjob hactivate, if_pos (by simpa using hbad)]
  rfl

theorem fwUpdateCommit_commits (hverified : t.dog.verified x.target = true) (hversion : t.dog.imageVersion x.target = x.version) :
    fwUpdateCommit true r s = if r.f 4 1 = 1 then .wait (((t.modDog (fun g => g.commit x)).answer r.slot stOk []).ccReset 10)
      else .reply (t.modDog (fun g => g.commit x)) stOk [] := by
  rw [fwUpdateCommit_of_open ht hzero hopen hnumber hwhole hjob hactivate, if_neg (by simp [hverified, hversion])]

end Commit

theorem fwUpdateAbort_of_open {r : Req} {s : State} {x : Session} (hzero : r.zero 4 8 = true) (hopen : s.dog.session = some x)
    (hnumber : x.number.toNat = r.f 0 4) : fwUpdateAbort r s =
    .reply ((s.modDog Sheepdog.closeSession).forAll (s.busySlots 0x0602 (fun _ => true)) State.retryBlock) stOk [] := by
  unfold fwUpdateAbort
  rw [if_neg (by simp [hzero]), State.session?_of_open hopen hnumber]

/-! ### FW_SLOT_STATUS (R430, Table 17.9) -/

theorem Sheepdog.length_slotRecord (g : Sheepdog) (b : Bcb) (i : Nat) : (g.slotRecord b i).length = 16 := by
  simp [Sheepdog.slotRecord, length_leBytes]

/-- Table 17.9: the slot records: three of a device that has two slots, else the boot slot's and the other's. -/
def Sheepdog.slotRecords (g : Sheepdog) : List Byte :=
  if g.dualSlot then [0, 1, 2].flatMap (g.slotRecord ((g.bcbNow).getD .none'))
  else g.slotRecord ((g.bcbNow).getD .none') ((g.bcbNow).getD .none').boot ++
    g.slotRecord ((g.bcbNow).getD .none') (1 - ((g.bcbNow).getD .none').boot) ++ List.replicate 16 0

theorem Sheepdog.length_slotRecords (g : Sheepdog) : g.slotRecords.length = 48 := by
  unfold Sheepdog.slotRecords
  split <;> simp [Sheepdog.length_slotRecord]

/-- Table 17.9: the whole answer; `active` is the slot in use. -/
def State.slotStatus (s : State) (active : Byte) : List Byte :=
  [BitVec.ofNat 8 (natOfBool (!s.dog.settled.dualSlot)), active, BitVec.ofNat 8 (natOfBool s.dog.settled.session.isSome), 0] ++
    leBytes 4 s.dog.settled.flashMib ++ s.dog.settled.slotRecords ++ leBytes 4 s.healthLeft ++ leBytes 4 0

theorem fwSlotStatus_answers (r : Req) (s : State) : ∃ active, fwSlotStatus r s = .reply s stOk (s.slotStatus active) := ⟨_, rfl⟩

theorem State.length_slotStatus (s : State) (active : Byte) : (s.slotStatus active).length = 64 := by
  simp [State.slotStatus, Sheepdog.length_slotRecords]

/-- R478: the settled Sheepdog has the flash and the session of the one whose writes still wait. -/
theorem Sheepdog.settled_session (g : Sheepdog) : g.settled.session = g.session := (Sheepdog.Written.flushOwn g).session
theorem Sheepdog.settled_flashMib (g : Sheepdog) : g.settled.flashMib = g.flashMib := (Sheepdog.Written.flushOwn g).flashMib

theorem State.slotStatus_dual (s : State) (active : Byte) :
    leField (s.slotStatus active) 0 1 = if 128 ≤ s.dog.flashMib then 0 else 1 := by
  change leNat [BitVec.ofNat 8 (natOfBool (!s.dog.settled.dualSlot))] = _
  unfold Sheepdog.dualSlot
  rw [s.dog.settled_flashMib]
  by_cases h : 128 ≤ s.dog.flashMib <;> simp [h, natOfBool, leNat]

theorem State.slotStatus_session (s : State) (active : Byte) :
    leField (s.slotStatus active) 2 1 = if s.dog.session.isSome then 1 else 0 := by
  change leNat [BitVec.ofNat 8 (natOfBool s.dog.settled.session.isSome)] = _
  rw [s.dog.settled_session]
  cases s.dog.session.isSome <;> rfl

theorem State.slotStatus_flash (s : State) (active : Byte) : leField (s.slotStatus active) 4 4 = s.dog.flashMib % 2 ^ 32 := by
  unfold State.slotStatus
  rw [List.append_assoc, List.append_assoc, List.append_assoc, leField_append_of_length (a := [_, _, _, _]) (n := 4) rfl,
    leField_leBytes_append, s.dog.settled_flashMib]
  rfl

/-- Settles O36: every command of the update session checks the session first, and ends it, or goes on with it, as R427 to R430 say. -/
theorem firmwareUpdate : Obligations.FirmwareUpdate := by
  unfold Obligations.FirmwareUpdate
  refine ⟨fun fn slot s hwaits => ?_, fun fn slot x s hwaits => ?_, fun fn slot x s hwaits => ?_,
    fun fn slot s hwaits => ⟨fun h => ?_, fun h => ?_⟩, fun fn slot x s hwaits hzero hopen hnumber => ?_, fun fn slot s hwaits => ?_⟩
  · intro r t b u hsession hconfirmed hlock hjob hsome hfits hflags hzero hfloor hlower
    obtain ⟨hopened, hcounter⟩ := t.dog.opened_session (r.f 0 4) (r.f 4 4) t.fwVersion
    exact ⟨served_reply hwaits (fwUpdateBegin_opens rfl hsession hconfirmed hlock hjob hsome hfits hflags hzero hfloor hlower),
      _, hopened, hcounter.symm, t.dog.nextSession_ne, rfl, rfl, t.dog.updateTarget_lt _⟩
  · intro r t data hopen hnumber hzero
    refine ⟨fun hoffset hnonempty hlength herased => ⟨_, rfl, ?_, _, rfl, rfl, rfl⟩, fun hoffset hnonempty hlength herasing => ?_,
      fun hoffset hlast hnonempty hdata => ?_, fun hoffset hother => ?_⟩
    · exact served_reply hwaits (takeOrWait_takes hopen hnumber hzero hoffset hnonempty hlength herased)
    · exact served_wait hwaits (takeOrWait_waits hopen hnumber hzero hoffset hnonempty hlength herasing)
    · exact served_reply hwaits (takeOrWait_again hopen hnumber hzero hoffset hlast hnonempty hdata)
    · exact served_reply hwaits (takeOrWait_sequence hopen hnumber hzero hoffset hother)
  · intro r t u hzero hopen hnumber hwhole hjob
    refine ⟨fun hverified hversion => ⟨fun hpassive => ?_, fun hactive => ?_⟩, fun hbad hactivate => ?_⟩
    · exact served_reply hwaits ((fwUpdateCommit_commits rfl hzero hopen hnumber hwhole hjob (by omega) hverified hversion).trans
        (if_neg (by omega)))
    · exact served_wait hwaits ((fwUpdateCommit_commits rfl hzero hopen hnumber hwhole hjob (by omega) hverified hversion).trans
        (if_pos hactive))
    · exact served_reply hwaits (fwUpdateCommit_integrity rfl hzero hopen hnumber hwhole hjob hactivate hbad)
  · exact served_reply hwaits (if_pos h)
  · exact served_reply hwaits (if_neg (Bool.eq_false_iff.1 h))
  · exact served_reply hwaits (fwUpdateAbort_of_open hzero hopen hnumber)
  · obtain ⟨active, hanswer⟩ := fwSlotStatus_answers (s.reqIn fn slot) (s.taken fn slot)
    exact ⟨_, served_reply hwaits hanswer, State.length_slotStatus .., State.slotStatus_dual .., State.slotStatus_session ..,
      State.slotStatus_flash ..⟩

end Sys2Proof.Machine

/-! SUPPORT. The life-cycle, owner-lock and debug-unlock commands (R431, R453 to R458), and the debug registers (R432). -/

namespace Sys2Proof.Machine

/-! ### What a command in the presence window checks first (R411, R414) -/

section Presence

variable {s : State} {session : Bool} (hsession : session = true → s.dog.session = none)
include hsession

theorem State.no_session : ¬ (session && s.dog.session.isSome) = true := by
  cases session <;> simp [hsession]

theorem State.presenceFails_of_open (hwindow : s.windowOpen = true) (hseal : s.dog.sealIntact = true) : s.presenceFails session = none := by
  unfold State.presenceFails
  rw [if_neg (by simp [hwindow]), if_neg (State.no_session hsession), if_neg (by simp [hseal])]

theorem State.presenceFails_of_closed (h : s.windowOpen = false ∨ s.dog.sealIntact = false) :
    s.presenceFails session = some stPresence := by
  unfold State.presenceFails
  by_cases hwindow : s.windowOpen = true
  · have hseal : s.dog.sealIntact = false := h.resolve_left (by simp [hwindow])
    rw [if_neg (by simp [hwindow]), if_neg (State.no_session hsession), if_pos (by simp [hseal])]
  · rw [if_pos (by simp [hwindow])]

end Presence

/-! ### LC_STATE_GET (R431) -/

/-- R431: the answer of LC_STATE_GET. -/
def State.lcReport (s : State) (strap : Bool) : List Byte :=
  [BitVec.ofNat 8 s.dog.lcState, BitVec.ofNat 8 s.windowSeconds,
    BitVec.ofNat 8 (natOfBool strap + natOfBool s.dog.sealIntact <<< 1 +
      natOfBool ((s.dog.settled.identNow).getD .none').ownerLock <<< 2 + s.dog.debugLevel <<< 3), 0] ++
    leBytes 4 ((s.dog.settled.identNow).getD .none').transitions.toNat ++ List.replicate 8 0

theorem lcStateGet_answers (strap : Bool) (r : Req) (s : State) :
    lcStateGet strap r s = .reply (s.sampleStrap strap) stOk ((s.sampleStrap strap).lcReport strap) := rfl

theorem State.length_lcReport (s : State) (strap : Bool) : (s.lcReport strap).length = 16 := by simp [State.lcReport]

theorem State.lcReport_state {s : State} {strap : Bool} (h : s.dog.lcState ≤ 5) : leField (s.lcReport strap) 0 1 = s.dog.lcState := by
  change (BitVec.ofNat 8 s.dog.lcState).toNat + 256 * 0 = s.dog.lcState
  rw [BitVec.toNat_ofNat]
  omega

theorem State.lcReport_reserved {s : State} {strap : Bool} {b : Byte} (h : b ∈ (s.lcReport strap).drop 8) : b = 0 := by
  unfold State.lcReport at h
  rw [List.drop_left' (by simp)] at h
  exact List.eq_of_mem_replicate h

/-! ### LC_TRANSITION (R431, R455 to R458) -/

theorem lcTransition_presence {strap : Bool} {r : Req} {s t : State} (ht : s.sampleStrap strap = t)
    (hfails : t.presenceFails true = some stPresence) : lcTransition strap r s = .reply t stPresence [] := by
  unfold lcTransition
  rw [ht]
  dsimp only
  rw [hfails]
  rfl

theorem lcTransition_accepts {strap st : Bool} {who : Authority} {r : Req} {s t : State} (ht : s.sampleStrap strap = t)
    (hpasses : t.presenceFails true = none) (hrule : lcRule t.dog.lcState (r.f 0 1) = some (who, st)) (hstrap : st = true → strap = true)
    (hjob : t.jobActive = false) (hreserved : r.f 1 1 = 0) (hzero : r.zero 4 8 = true)
    (hshape : authShape 1 (r.f 0 1) (r.pay.drop 8) = true) (hauth : t.dog.authOk who (r.pay.drop 8) = true)
    (howners : who = .newOwner → t.dog.ownerSlots.length < 8) : lcTransition strap r s =
    .wait ((((t.modDog (fun g => (g.transition t.dog.lcState (r.f 0 1) (sha384 (((r.pay.drop 8).drop 16).take 97))).closeWindow)).answer
      r.slot stOk []).endRegistration).warmReset 7) := by
  have hneeds : ¬ ((some (who, st)).elim false Prod.snd && !strap) = true := by
    cases st <;> simp [hstrap]
  have hroom : ¬ (decide (who = .newOwner) && decide (8 ≤ t.dog.ownerSlots.length)) = true := by
    simp only [Bool.and_eq_true, decide_eq_true_eq, not_and, Nat.not_le]
    exact howners
  unfold lcTransition
  rw [ht]
  dsimp only
  rw [hpasses]
  dsimp only
  rw [hrule, if_neg hneeds]
  dsimp only
  rw [if_neg (Bool.eq_false_iff.1 hjob), if_neg (by simp [hreserved, hzero, hshape]), if_neg (by simp [hauth]), if_neg hroom]

/-! ### OWNER_LOCK and OWNER_UNLOCK (R458) -/

theorem ownerLockTo_presence {lock strap : Bool} {r : Req} {s t : State} (ht : s.sampleStrap strap = t)
    (hfails : t.presenceFails true = some stPresence) : ownerLockTo lock strap r s = .reply t stPresence [] := by
  unfold ownerLockTo
  rw [ht]
  dsimp only
  rw [hfails]
  rfl

theorem ownerLockTo_accepts {lock strap : Bool} {r : Req} {s t : State} (ht : s.sampleStrap strap = t)
    (hpasses : t.presenceFails true = none) (hstrap : lock = true ∨ strap = true)
    (hlc : t.dog.lcState = lcOwned ∨ t.dog.lcState = lcLocked) (hreserved : r.zero 0 2 = true) (hzero : r.zero 4 8 = true)
    (hshape : authShape (if lock then 2 else 3) 0 (r.pay.drop 8) = true) (hauth : t.dog.authOk .owner (r.pay.drop 8) = true) :
    ownerLockTo lock strap r s =
      .reply (t.modDog (fun g => (g.countTransition (fun x => { x with ownerLock := lock })).closeWindow)) stOk [] := by
  have hneeds : ¬ (!lock && !strap) = true := by
    rcases hstrap with h | h <;> simp [h]
  have howned : ¬ (t.dog.lcState != lcOwned && t.dog.lcState != lcLocked) = true := by
    rcases hlc with h | h <;> simp [h]
  unfold ownerLockTo
  rw [ht]
  dsimp only
  rw [hpasses]
  dsimp only
  rw [if_neg hneeds, if_neg howned, if_neg (by simp [hreserved, hzero, hshape]), if_neg (by simp [hauth])]

/-! ### DEBUG_UNLOCK (R431, R432, R458) -/

/-- R432: the Sheepdog at a debug level; the transition is counted. -/
def Sheepdog.atDebugLevel (g : Sheepdog) (level : Nat) : Sheepdog := { g.countTransition id with debugLevel := level }

theorem debugUnlock_locks {strap : Bool} {r : Req} {s t : State} (ht : s.sampleStrap strap = t) (hlevel : r.f 0 1 = 0) :
    debugUnlock strap r s = if r.f 1 1 != 0 || !(r.zero 4 8) then .reply t stBadParam [] else
      .reply (t.modDog (fun g => g.atDebugLevel (r.f 0 1))) stOk [] := by
  unfold debugUnlock
  rw [ht]
  exact if_pos hlevel

theorem debugUnlock_presence {strap : Bool} {r : Req} {s t : State} (ht : s.sampleStrap strap = t) (hlevel : r.f 0 1 ≠ 0)
    (hfails : t.presenceFails false = some stPresence) : debugUnlock strap r s = .reply t stPresence [] := by
  unfold debugUnlock
  rw [ht]
  dsimp only
  rw [if_neg hlevel, hfails]
  rfl

theorem debugUnlock_unlocks {strap : Bool} {who : Authority} {r : Req} {s t : State} (ht : s.sampleStrap strap = t) (hlow : 1 ≤ r.f 0 1)
    (hhigh : r.f 0 1 ≤ 2) (hpasses : t.presenceFails false = none) (hstrap : r.f 0 1 = 2 → strap = true)
    (hwho : debugAuthority t.dog.lcState = some who) (hreserved : r.f 1 1 = 0) (hzero : r.zero 4 8 = true)
    (hauth : who = .none ∨ (authShape 4 (r.f 0 1) (r.pay.drop 8) = true ∧ t.dog.authOk who (r.pay.drop 8) = true)) :
    debugUnlock strap r s = .reply ((t.modDog (fun g => g.atDebugLevel (r.f 0 1))).modDog (fun g => { g with window := none })) stOk [] := by
  have hneeds : ¬ (decide (r.f 0 1 = 2) && !strap) = true := by
    by_cases h : r.f 0 1 = 2
    · simp [hstrap h]
    · simp [h]
  have hparam : ¬ (decide (2 < r.f 0 1) || r.f 1 1 != 0 || !(r.zero 4 8) || (who != .none && !(authShape 4 (r.f 0 1) (r.pay.drop 8)))) = true := by
    rw [decide_eq_false (Nat.not_lt.2 hhigh), hreserved, hzero]
    rcases hauth with h | ⟨h, -⟩ <;> simp [h]
  have hsigned : ¬ (who != .none && !(t.dog.authOk who (r.pay.drop 8))) = true := by
    rcases hauth with h | ⟨-, h⟩ <;> simp [h]
  unfold debugUnlock
  rw [ht]
  dsimp only
  rw [if_neg (by omega), hpasses]
  dsimp only
  rw [if_neg hneeds, hwho]
  dsimp only
  rw [if_neg hparam, if_neg hsigned]
  simp only [State.modDog, Sheepdog.atDebugLevel, Sheepdog.closeWindow]

/-- Settles O37: the strap is sampled, the window, the session and the seal loop are looked at, and only then the command's own checks. -/
theorem lifeCycle : Obligations.LifeCycle := by
  unfold Obligations.LifeCycle
  refine ⟨fun fn slot strap s hwaits => ?_, fun fn slot who st strap s hwaits => ?_, fun fn slot lock strap s hwaits => ?_,
    fun fn slot strap who s hwaits => ?_, fun fn slot strap s hclosed => ⟨fun hwaits hsession => ?_, fun hwaits hsession => ?_,
      fun hwaits hsession => ?_, fun hwaits hlevel => ?_⟩⟩
  · exact ⟨_, served_reply hwaits (lcStateGet_answers ..), State.length_lcReport .., fun hsound => State.lcReport_state hsound.1,
      fun b => State.lcReport_reserved⟩
  · intro r t auth key hwindow hsession hseal hrule hstrap hjob hreserved hzero hshape hauth howners
    exact served_wait hwaits (lcTransition_accepts rfl (State.presenceFails_of_open (fun _ => hsession) hwindow hseal) hrule hstrap hjob
      hreserved hzero hshape hauth howners)
  · intro r t auth hwindow hsession hseal hstrap hlc hreserved hzero hshape hauth
    have hpasses : t.presenceFails true = none := State.presenceFails_of_open (fun _ => hsession) hwindow hseal
    have hanswer : ownerLockTo lock strap r (s.taken fn slot) = _ :=
      ownerLockTo_accepts rfl hpasses hstrap hlc hreserved hzero hshape hauth
    cases lock
    · exact served_reply hwaits hanswer
    · exact served_reply hwaits hanswer
  · intro r t auth unlock
    refine ⟨fun hlevel hreserved hzero => ?_, fun hlevel hbad => ?_,
      fun hlow hhigh hwindow hseal hstrap hwho hreserved hzero hauth => ?_⟩
    · exact served_reply hwaits ((debugUnlock_locks rfl hlevel).trans (if_neg (by simp [hreserved, hzero])))
    · exact served_reply hwaits ((debugUnlock_locks rfl hlevel).trans (if_pos (by simpa using hbad)))
    · exact served_reply hwaits (debugUnlock_unlocks rfl hlow hhigh
        (State.presenceFails_of_open (fun h => Bool.noConfusion h) hwindow hseal) hstrap hwho hreserved hzero hauth)
  · exact served_reply hwaits (lcTransition_presence rfl (State.presenceFails_of_closed (fun _ => hsession) hclosed))
  · exact served_reply hwaits (ownerLockTo_presence rfl (State.presenceFails_of_closed (fun _ => hsession) hclosed))
  · exact served_reply hwaits (ownerLockTo_presence rfl (State.presenceFails_of_closed (fun _ => hsession) hclosed))
  · exact served_reply hwaits (debugUnlock_presence rfl hlevel (State.presenceFails_of_closed (fun h => Bool.noConfusion h) hclosed))

/-! ### DEBUG_REG_READ and DEBUG_REG_WRITE (R432) -/

theorem State.length_readWords (s : State) (a n : Nat) : (s.readWords a n).1.length = 4 * n := by
  induction n generalizing s a with
  | zero => rfl
  | succ n ih =>
    rw [State.readWords, List.length_append, length_leBytes, ih]
    omega

/-- R432: the first word of the answer is the register's. -/
theorem State.readWords_published {s : State} {a n : Nat} {p : Published} (h : published a = some p) (hn : 1 ≤ n) :
    (s.readWords a n).1.take 4 = leBytes 4 (s.readPublished p).1 := by
  obtain ⟨m, rfl⟩ := Nat.exists_eq_succ_of_ne_zero (Nat.ne_of_gt hn)
  rw [State.readWords, h, List.take_left' (length_leBytes ..)]

section DebugRegRead

variable {r : Req} {s : State} (halign : r.f 0 8 % 4 = 0) (hlow : 1 ≤ r.f 8 2) (hhigh : r.f 8 2 ≤ 1000) (hzero : r.zero 10 16 = true)
include halign hlow hhigh hzero

theorem debugRegRead_of_shape : debugRegRead r s =
    if s.dog.debugLevel = 0 && (List.range (r.f 8 2)).any (fun i => (published (r.f 0 8 + 4 * i)).isNone) then refuse s stNotPermitted
    else .reply (s.readWords (r.f 0 8) (r.f 8 2)).2 stOk (s.readWords (r.f 0 8) (r.f 8 2)).1 := by
  have hparam : ¬ (r.f 0 8 % 4 != 0 || decide (r.f 8 2 = 0) || decide (1000 < r.f 8 2) || !(r.zero 10 16)) = true := by
    rw [halign, hzero, decide_eq_false (Nat.ne_of_gt hlow), decide_eq_false (Nat.not_lt.2 hhigh)]
    decide
  unfold debugRegRead
  exact if_neg hparam

theorem debugRegRead_reads (hreached : s.dog.debugLevel ≠ 0 ∨ ∀ k < r.f 8 2, (published (r.f 0 8 + 4 * k)).isSome = true) :
    debugRegRead r s = .reply (s.readWords (r.f 0 8) (r.f 8 2)).2 stOk (s.readWords (r.f 0 8) (r.f 8 2)).1 := by
  have hpermitted : ¬ (decide (s.dog.debugLevel = 0) && (List.range (r.f 8 2)).any (fun i => (published (r.f 0 8 + 4 * i)).isNone)) = true := by
    rw [Bool.and_eq_true, decide_eq_true_eq, List.any_eq_true, not_and]
    rintro hlevel ⟨k, hk, hnone⟩
    have hsome := (hreached.resolve_left (fun h => h hlevel)) k (List.mem_range.1 hk)
    rw [Option.isNone_iff_eq_none.1 hnone] at hsome
    exact Bool.noConfusion hsome
  rw [debugRegRead_of_shape halign hlow hhigh hzero, if_neg hpermitted]

theorem debugRegRead_refuses (hlevel : s.dog.debugLevel = 0) (hhidden : ∃ k < r.f 8 2, published (r.f 0 8 + 4 * k) = none) :
    debugRegRead r s = .reply s stNotPermitted [] := by
  obtain ⟨k, hk, hnone⟩ := hhidden
  have hany : (List.range (r.f 8 2)).any (fun i => (published (r.f 0 8 + 4 * i)).isNone) = true :=
    List.any_eq_true.2 ⟨k, List.mem_range.2 hk, Option.isNone_iff_eq_none.2 hnone⟩
  rw [debugRegRead_of_shape halign hlow hhigh hzero, if_pos (by simp only [hlevel, hany]; rfl)]
  rfl

end DebugRegRead

section DebugRegWrite

variable {r : Req} {s : State} (halign : r.f 0 8 % 4 = 0) (hzero : r.zero 12 16 = true)
include halign hzero

theorem debugRegWrite_of_shape : debugRegWrite r s = match published (r.f 0 8) with
    | some (.topo _) => refuse s stNotPermitted
    | some p => .reply (s.writePublished (r.f 8 4) p) stOk []
    | none => if s.dog.debugLevel < 2 then refuse s stNotPermitted else .reply s stOk [] := by
  unfold debugRegWrite
  exact if_neg (by simp [halign, hzero])

theorem debugRegWrite_topo {high : Bool} (h : published (r.f 0 8) = some (.topo high)) : debugRegWrite r s = .reply s stNotPermitted [] := by
  rw [debugRegWrite_of_shape halign hzero, h]
  rfl

theorem debugRegWrite_foldStatus {k : Nat} (h : published (r.f 0 8) = some (.foldStatus k)) :
    debugRegWrite r s = .reply (if (r.f 8 4).testBit 15 then s.modFold k (fun x => { x with provHidden := false }) else s) stOk [] := by
  rw [debugRegWrite_of_shape halign hzero, h]
  rfl

theorem debugRegWrite_aging (h : published (r.f 0 8) = some .aging) : debugRegWrite r s =
    .reply (if 2 ≤ r.f 8 4 % 256 ∧ r.f 8 4 % 256 ≤ 64 then s.modNp (fun n => { n with thresh := BitVec.ofNat 8 (r.f 8 4) }) else s)
      stOk [] := by
  rw [debugRegWrite_of_shape halign hzero, h]
  simp only [State.writePublished, Bool.and_eq_true, decide_eq_true_eq]

theorem debugRegWrite_none (h : published (r.f 0 8) = none) : debugRegWrite r s =
    if s.dog.debugLevel < 2 then .reply s stNotPermitted [] else .reply s stOk [] := by
  rw [debugRegWrite_of_shape halign hzero, h]
  rfl

end DebugRegWrite

/-- Settles O38: the words are read one after the other, and what a write does depends on the register alone. -/
theorem debugRegisters : Obligations.DebugRegisters := by
  unfold Obligations.DebugRegisters
  refine ⟨fun fn slot s hwaits => ?_, fun fn slot s hwaits => ?_⟩
  · intro r halign hlow hhigh hzero
    refine ⟨fun hreached => ⟨_, _, served_reply hwaits (debugRegRead_reads halign hlow hhigh hzero hreached), State.length_readWords ..,
      fun p hp => State.readWords_published hp hlow⟩, fun hlevel hhidden => ?_⟩
    exact served_reply hwaits (debugRegRead_refuses halign hlow hhigh hzero hlevel hhidden)
  · intro r t halign hzero
    refine ⟨fun k h => ?_, fun h => ?_, fun k h => ?_, fun h hlevel => ?_, fun h hlevel => ?_⟩
    · exact served_reply hwaits (debugRegWrite_foldStatus halign hzero h)
    · exact served_reply hwaits (debugRegWrite_aging halign hzero h)
    · exact served_reply hwaits (debugRegWrite_topo halign hzero h)
    · exact served_reply hwaits ((debugRegWrite_none halign hzero h).trans (if_pos hlevel))
    · exact served_reply hwaits ((debugRegWrite_none halign hzero h).trans (if_neg (Nat.not_lt.2 hlevel)))

end Sys2Proof.Machine

/-! SUPPORT. The commands that report (R415 to R417, R420, R423), and a command's pen that does not exist or that its function does not
reach (R410). -/

namespace Sys2Proof.Machine

/-! ### A pen that is not reached (R410) -/

/-- R410: a command whose body looks at its pen before anything else. -/
def OnPen (c : Fin 9 → Fin 4 → Instr) (op : Nat) : Prop :=
  ∃ body : Req → State → Nat → Answer, ∀ fn slot s, exec (c fn slot) s = done (s.quiet.serve fn slot op (fun r t => withPen r t (body r t)))

/-- The pen commands of R410. -/
def penInstrs : List ((Fin 9 → Fin 4 → Instr) × Nat) :=
  [(Instr.devStatus, 0x0102), (.penCreate, 0x0201), (.penDestroy, 0x0202), (.penSetQuota, 0x0203), (.penSetPriority, 0x0204),
    (.penBindVf, 0x0205), (.tensorRegister, 0x0301), (.tensorRelease, 0x0302), (.itineraryLoad, 0x0303), (.poolQuery, 0x0304),
    (.baseRegister, 0x0305), (.queueCreate, 0x0403), (.queueDestroy, 0x0404), (.videoStreamOpen, 0x0501), (.videoStreamClose, 0x0502),
    (.videoPoolSet, 0x0503), (.jobQuiesce, 0x0902), (.jobResume, 0x0903), (.checkpointDrain, 0x0904), (.jobAbort, 0x0905)]

theorem onPen_of_mem {c : Fin 9 → Fin 4 → Instr} {op : Nat} (h : (c, op) ∈ penInstrs) : OnPen c op := by
  have hall : ∀ x ∈ penInstrs, OnPen x.1 x.2 := by
    simp only [penInstrs, List.forall_mem_cons, List.not_mem_nil, false_imp_iff, implies_true, and_true]
    refine ⟨?_, ?_, ?_, ?_, ?_, ?_, ?_, ?_, ?_, ?_, ?_, ?_, ?_, ?_, ?_, ?_, ?_, ?_, ?_, ?_⟩
    all_goals exact ⟨_, fun _ _ _ => rfl⟩
  exact hall _ h

section NotReached

variable {s : State} {fn : Fin 9} {slot : Fin 4} (k : Nat → Answer)

theorem withPen_beyond (h : 8 ≤ (s.reqIn fn slot).f 0 1) :
    withPen (s.reqIn fn slot) (s.taken fn slot) k = .reply (s.taken fn slot) stBadParam [] := by
  unfold withPen Req.pen
  dsimp only
  rw [if_pos h]
  rfl

theorem withPen_unbound (hlt : (s.reqIn fn slot).f 0 1 < 8) (hfn : fn ≠ 0) (hbound : s.boundPen fn ≠ some ((s.reqIn fn slot).f 0 1)) :
    withPen (s.reqIn fn slot) (s.taken fn slot) k = .reply (s.taken fn slot) stNotPermitted [] := by
  have hval : (s.reqIn fn slot).fn ≠ 0 := fun h => hfn (Fin.ext h)
  have hother : ((s.reqIn fn slot).fn != 0 && (s.taken fn slot).boundPen (s.reqIn fn slot).fn != some ((s.reqIn fn slot).f 0 1)) = true := by
    rw [bne_iff_ne.2 hval, Bool.true_and, bne_iff_ne]
    exact hbound
  unfold withPen Req.pen
  dsimp only
  rw [if_neg (Nat.not_le.2 hlt), if_pos hother]
  rfl

end NotReached

/-- Settles O28: every command of the list looks at its pen first. -/
theorem penNotReached : Obligations.PenNotReached := by
  unfold Obligations.PenNotReached
  intro c op hmem fn slot s hwaits
  obtain ⟨body, hexec⟩ := onPen_of_mem hmem
  rw [hexec]
  exact ⟨fun h => served_reply hwaits (withPen_beyond _ h), fun hlt hfn hbound => served_reply hwaits (withPen_unbound _ hlt hfn hbound)⟩

/-! ### Fields of the answers -/

theorem leField_append_skip {a : List Byte} {off : Nat} (h : a.length ≤ off) (b : List Byte) (n : Nat) :
    leField (a ++ b) off n = leField b (off - a.length) n := by
  rw [leField, leField, List.drop_append, List.drop_eq_nil_of_le h, List.nil_append]

theorem leField_byte (x : Byte) (b : List Byte) : leField (x :: b) 0 1 = x.toNat := rfl

theorem leField_byte_of_lt {v : Nat} (h : v < 256) (b : List Byte) : leField (BitVec.ofNat 8 v :: b) 0 1 = v := by
  rw [leField_byte, BitVec.toNat_ofNat]
  exact Nat.mod_eq_of_lt h

/-- The entries of a table of 8-byte fields. -/
theorem leField_flatMap {α : Type} (f : α → Nat) (b : List Byte) {l : List α} {i : Nat} (h : i < l.length) :
    leField (l.flatMap (fun x => leBytes 8 (f x)) ++ b) (8 * i) 8 = f l[i] % 2 ^ 64 := by
  induction l generalizing i with
  | nil => exact absurd h (Nat.not_lt_zero i)
  | cons x l ih =>
    rw [List.flatMap_cons, List.append_assoc]
    cases i with
    | zero => exact leField_leBytes_append ..
    | succ i =>
      rw [leField_append_skip (by rw [length_leBytes]; omega), length_leBytes, show 8 * (i + 1) - 8 = 8 * i by omega]
      exact ih (Nat.lt_of_succ_lt_succ h)

theorem length_flatMap_leBytes {α : Type} (f : α → Nat) (l : List α) : (l.flatMap (fun x => leBytes 8 (f x))).length = 8 * l.length := by
  simp [List.length_flatMap, Nat.mul_comm]

/-! ### DEV_IDENTIFY, DEV_STATUS and DEV_CAPS (R415 to R417) -/

/-- Table 17.3. -/
def State.identity (s : State) : List Byte :=
  leBytes 2 0x1F3C ++ leBytes 2 0x0384 ++ [0xB0, 2, BitVec.ofNat 8 s.eszerMinor, 0] ++ leBytes 4 s.fwVersion ++
    leBytes 4 0 ++ leBytes 8 s.dog.serial.toNat ++ [BitVec.ofNat 8 s.dog.lcState] ++ List.replicate 7 0

theorem State.identity_fields (s : State) : s.identity.length = 32 ∧ leField s.identity 0 2 = 0x1F3C ∧ leField s.identity 2 2 = 0x0384 ∧
    leField s.identity 4 1 = 0xB0 ∧ leField s.identity 5 1 = 2 ∧ leField s.identity 16 8 = s.dog.serial.toNat := by
  refine ⟨by simp [State.identity], rfl, rfl, rfl, rfl, ?_⟩
  simp only [State.identity, List.append_assoc, leField_append_skip, length_leBytes, List.length_cons, List.length_nil, Nat.reduceAdd,
    Nat.reduceSub, Nat.reduceLeDiff, leField_leBytes_append]
  exact Nat.mod_eq_of_lt s.dog.serial.isLt

theorem State.identity_lcState {s : State} (h : s.dog.lcState ≤ 5) : leField s.identity 24 1 = s.dog.lcState := by
  simp only [State.identity, List.append_assoc, leField_append_skip, length_leBytes, List.length_cons, List.length_nil, Nat.reduceAdd,
    Nat.reduceSub, Nat.reduceLeDiff]
  exact leField_byte_of_lt (by omega) _

section DevStatus

variable (s : State) (fn p : Nat) (record : List Byte)

/-- Table 17.4: the PEN_STATE byte of a pen, as a function sees it. -/
def State.seenPenState (s : State) (fn p k : Nat) : Byte := if fn = 0 || k = p then (s.pen k).stateByte else 0

theorem State.seenPenState_eq (s : State) (fn : Fin 9) (p k : Nat) :
    s.seenPenState fn p k = if fn = 0 ∨ k = p then (s.pen k).stateByte else 0 := by
  simp only [State.seenPenState, Bool.or_eq_true, decide_eq_true_eq, Fin.val_eq_zero_iff]

/-- Table 17.4; `record` is the recovery record, where it is asked for. -/
def State.statusReport (s : State) (fn p : Nat) (record : List Byte) : List Byte :=
  [BitVec.ofNat 8 s.boot.stage, BitVec.ofNat 8 (bitsOf (s.stageReg fn) 20 16), 0, 0] ++ (List.range 8).map (s.seenPenState fn p) ++
    leBytes 4 s.boot.heartbeat.toNat ++ leBytes 8 s.time.now.toNat ++ leBytes 2 (if s.bootHandler then 0 else s.time.epoch.toNat) ++
    [BitVec.ofNat 8 (s.time.role + natOfBool s.time.synced <<< 2)] ++ List.replicate 5 0 ++ record

theorem State.statusReport_stage {s : State} {fn p : Nat} {record : List Byte} (h : s.boot.stage ≤ 5) :
    leField (s.statusReport fn p record) 0 1 = s.boot.stage := by
  simp only [State.statusReport, List.append_assoc, List.cons_append]
  exact leField_byte_of_lt (by omega) _

theorem State.statusReport_pen {s : State} {fn p : Nat} {record : List Byte} {k : Nat} (hk : k < 8) :
    (s.statusReport fn p record).getD (4 + k) 0 = s.seenPenState fn p k := by
  simp only [State.statusReport, List.append_assoc]
  rw [List.getD_append_right _ _ _ _ (by simp), List.getD_append _ _ _ _ (by simpa using hk)]
  simp [hk]

theorem State.statusReport_fields :
    leField (s.statusReport fn p record) 12 4 = s.boot.heartbeat.toNat ∧ leField (s.statusReport fn p record) 16 8 = s.time.now.toNat ∧
      leField (s.statusReport fn p record) 24 2 = if s.bootHandler then 0 else s.time.epoch.toNat := by
  have hepoch : (if s.bootHandler then 0 else s.time.epoch.toNat) < 256 ^ 2 := by
    split
    · decide
    · exact s.time.epoch.isLt
  simp only [State.statusReport, List.append_assoc, leField_append_skip, length_leBytes, List.length_cons, List.length_nil, List.length_map,
    List.length_range, Nat.reduceAdd, Nat.reduceSub, Nat.reduceLeDiff, leField_leBytes_append]
  exact ⟨Nat.mod_eq_of_lt s.boot.heartbeat.isLt, Nat.mod_eq_of_lt s.time.now.isLt, Nat.mod_eq_of_lt hepoch⟩

theorem devStatus_answers {s : State} {fn : Fin 9} {slot : Fin 4} {p : Nat} (hpen : (s.reqIn fn slot).f 0 1 = p) (hp : p < 8)
    (hreach : fn = 0 ∨ s.boundPen fn = some p) (hrecord : (s.reqIn fn slot).f 1 1 ≤ 1) (hzero : (s.reqIn fn slot).zero 2 8 = true) :
    ∃ record, devStatus (s.reqIn fn slot) (s.taken fn slot) =
      .reply (s.taken fn slot) stOk ((s.taken fn slot).statusReport fn p record) := by
  have hparam : ¬ (decide (1 < (s.reqIn fn slot).f 1 1) || !((s.reqIn fn slot).zero 2 8)) = true := by
    rw [decide_eq_false (Nat.not_lt.2 hrecord), hzero]
    decide
  refine ⟨if (s.reqIn fn slot).f 1 1 = 1 then (s.taken fn slot).recoveryRecord ((s.taken fn slot).pen p) else [], ?_⟩
  unfold devStatus
  rw [withPen_of_reached hpen hp hreach, if_neg hparam]
  rfl

end DevStatus

section DevCaps

variable (s : State)

/-- Table 17.5 up to the near capacity. -/
def State.capsHead (s : State) : List Byte :=
  [BitVec.ofNat 8 (if 3 ≤ s.boot.stage then s.enabledFolds 0 128 else 0), BitVec.ofNat 8 s.health.power.point.code] ++
    leBytes 2 s.health.power.point.mhz ++
    (List.range 4).map (fun d => BitVec.ofNat 8 (if 3 ≤ s.boot.stage then s.enabledFolds (32 * d) 32 else 0))

/-- Table 17.5: the capacities; `units` are the four bytes on the ports, the host link and the video cores. -/
def State.caps (s : State) (units : List Byte) : List Byte :=
  s.capsHead ++ leBytes 8 (48 * 2 ^ 30 * (s.np.stackList.filter Stack.trained).length) ++ leBytes 8 s.drover.farCapacity ++ units ++
    leBytes 4 s.health.power.limit ++ leBytes 4 (if 4 ≤ s.boot.stage then 1048576 else 0) ++
    leBytes 4 (if 4 ≤ s.boot.stage then 1048576 else 0) ++ leBytes 8 0

theorem devCaps_answers (r : Req) : ∃ units, units.length = 4 ∧ devCaps r s = .reply s stOk (s.caps units) := ⟨_, rfl, rfl⟩

theorem State.enabledFolds_le (lo n : Nat) : s.enabledFolds lo n ≤ n :=
  (List.length_filter_le _ _).trans_eq List.length_range

theorem State.caps_folds (units : List Byte) :
    leField (s.caps units) 0 1 = if 3 ≤ s.boot.stage then s.enabledFolds 0 128 else 0 := by
  have hfolds := s.enabledFolds_le 0 128
  simp only [State.caps, State.capsHead, List.append_assoc, List.cons_append]
  refine leField_byte_of_lt ?_ _
  split <;> omega

theorem State.length_capsHead : s.capsHead.length = 8 := by simp [State.capsHead]

variable {s}

theorem State.caps_near {units : List Byte} (h : s.np.stackList.length = 8) :
    leField (s.caps units) 8 8 = 48 * 2 ^ 30 * (s.np.stackList.filter Stack.trained).length := by
  have hcount := List.length_filter_le Stack.trained s.np.stackList
  simp only [State.caps, List.append_assoc, leField_append_skip, State.length_capsHead, Nat.reduceSub, le_refl,
    leField_leBytes_append]
  exact Nat.mod_eq_of_lt (by omega)

theorem State.caps_contexts {units : List Byte} (hunits : units.length = 4) :
    leField (s.caps units) 32 8 = leField (leBytes 4 (if 4 ≤ s.boot.stage then 1048576 else 0) ++
      (leBytes 4 (if 4 ≤ s.boot.stage then 1048576 else 0) ++ leBytes 8 0)) 0 8 := by
  simp only [State.caps, List.append_assoc, leField_append_skip, State.length_capsHead, length_leBytes, hunits, Nat.reduceSub,
    Nat.reduceLeDiff, le_refl]

theorem State.caps_none {units : List Byte} (hunits : units.length = 4) (hstage : s.boot.stage < 4) : leField (s.caps units) 32 8 = 0 := by
  rw [State.caps_contexts hunits, if_neg (Nat.not_le.2 hstage)]
  rfl

theorem State.caps_full {units : List Byte} (hunits : units.length = 4) (hstage : 4 ≤ s.boot.stage) :
    leField (s.caps units) 32 4 = 1048576 ∧ leField (s.caps units) 36 4 = 1048576 := by
  simp only [State.caps, List.append_assoc, leField_append_skip, State.length_capsHead, length_leBytes, hunits, Nat.reduceSub,
    Nat.reduceLeDiff, le_refl, if_pos hstage]
  exact ⟨rfl, rfl⟩

end DevCaps

/-! ### POOL_QUERY and LINK_STATUS (R420, R423) -/

section PoolQuery

/-- R420: the pool, and what the pen may take and has taken of it. -/
def State.poolFigures (s : State) (p : Nat) : List Nat :=
  [poolBytes, s.poolFree, s.nearShared, s.drover.farCapacity, s.drover.farCapacity - ((s.pens.map Pen.farUse).sum + s.farShared), s.farShared,
    (s.pen p).nearMin, (s.pen p).farMax, (s.pen p).nearUse, (s.pen p).farUse]

def State.poolReport (s : State) (p : Nat) : List Byte := (s.poolFigures p).flatMap (leBytes 8)

theorem State.length_poolReport (s : State) (p : Nat) : (s.poolReport p).length = 80 := length_flatMap_leBytes id (s.poolFigures p)

theorem State.poolReport_field (s : State) (p : Nat) {i : Nat} (h : i < (s.poolFigures p).length) :
    leField (s.poolReport p) (8 * i) 8 = (s.poolFigures p)[i] % 2 ^ 64 := by
  have hfield := leField_flatMap id [] h
  rwa [List.append_nil] at hfield

theorem poolQuery_answers {s : State} {fn : Fin 9} {slot : Fin 4} {p : Nat} (hpen : (s.reqIn fn slot).f 0 1 = p) (hp : p < 8)
    (hreach : fn = 0 ∨ s.boundPen fn = some p) (hzero : (s.reqIn fn slot).zero 1 8 = true) :
    poolQuery (s.reqIn fn slot) (s.taken fn slot) = .reply (s.taken fn slot) stOk ((s.taken fn slot).poolReport p) := by
  unfold poolQuery
  rw [withPen_of_reached hpen hp hreach, if_neg (by simp [hzero])]
  rfl

end PoolQuery

section LinkStatus

variable (s : State)

/-- R423: the ports, the topology and the rings. -/
def State.linkReport (s : State) : List Byte :=
  (List.range 8).flatMap (fun p => leBytes 8 (s.port p).status) ++ leBytes 8 s.fabTopo ++ leBytes 8 s.fabRing ++
    (List.range 4).flatMap (fun p => leBytes 8 (s.talsenAt p).status)

theorem State.length_linkReport : s.linkReport.length = 112 := by
  simp only [State.linkReport, List.length_append, length_flatMap_leBytes (fun p => (s.port p).status),
    length_flatMap_leBytes (fun p => (s.talsenAt p).status), length_leBytes, List.length_range]

theorem State.linkReport_port {p : Nat} (hp : p < 8) : leField s.linkReport (8 * p) 8 = (s.port p).status % 2 ^ 64 := by
  unfold State.linkReport
  rw [List.append_assoc, List.append_assoc, leField_flatMap (fun p => (s.port p).status) _ (by simpa using hp), List.getElem_range]

theorem State.linkReport_topology :
    leField s.linkReport 64 8 = s.fabTopo % 2 ^ 64 ∧ leField s.linkReport 72 8 = s.fabRing % 2 ^ 64 := by
  simp only [State.linkReport, List.append_assoc, leField_append_skip, length_flatMap_leBytes (fun p => (s.port p).status), length_leBytes,
    List.length_range, Nat.reduceMul, Nat.reduceSub, Nat.reduceLeDiff, le_refl, leField_leBytes_append]
  exact ⟨rfl, rfl⟩

theorem linkStatus_answers (r : Req) : linkStatus r s = .reply s stOk s.linkReport := rfl

end LinkStatus

/-- Settles O27: each command answers with its table, whose fields stand at the offsets of the table. -/
theorem reportingCommands : Obligations.ReportingCommands := by
  unfold Obligations.ReportingCommands
  refine ⟨fun fn slot s hwaits => ?_, fun fn slot p s hwaits hpen hp hreach hrecord hzero => ?_, fun fn slot s hwaits => ?_,
    fun fn slot p s hwaits hpen hp hreach hzero => ?_, fun fn slot s hwaits => ?_⟩
  · obtain ⟨hlength, hvendor, hdevice, hclass, hmajor, hserial⟩ := (s.taken fn slot).identity_fields
    exact ⟨_, served_reply (body := devIdentify) hwaits rfl, hlength, hvendor, hdevice, hclass, hmajor, hserial,
      fun hsound => State.identity_lcState (s := s.taken fn slot) hsound.1⟩
  · obtain ⟨record, hanswer⟩ := devStatus_answers hpen hp hreach hrecord hzero
    obtain ⟨hbeat, htime, hepoch⟩ := (s.taken fn slot).statusReport_fields fn p record
    refine ⟨_, served_reply hwaits hanswer, fun hsound => State.statusReport_stage (s := s.taken fn slot) hsound.1, fun k hk => ?_, hbeat, htime,
      hepoch⟩
    rw [State.statusReport_pen hk, State.seenPenState_eq]
    rfl
  · obtain ⟨units, hunits, hanswer⟩ := devCaps_answers (s.taken fn slot) (s.reqIn fn slot)
    have hfolds := (s.taken fn slot).caps_folds units
    exact ⟨_, served_reply hwaits hanswer, fun hstage => hfolds.trans (if_pos hstage), fun hstage => hfolds.trans (if_neg (Nat.not_le.2 hstage)),
      State.caps_none (s := s.taken fn slot) hunits, State.caps_full (s := s.taken fn slot) hunits,
      fun hsound => State.caps_near (s := s.taken fn slot) hsound.1⟩
  · exact ⟨_, served_reply hwaits (poolQuery_answers hpen hp hreach hzero), State.length_poolReport ..,
      State.poolReport_field (s.taken fn slot) p (i := 6) (Nat.le_of_ble_eq_true rfl),
      State.poolReport_field (s.taken fn slot) p (i := 7) (Nat.le_of_ble_eq_true rfl)⟩
  · obtain ⟨htopo, hring⟩ := (s.taken fn slot).linkReport_topology
    exact ⟨_, served_reply hwaits (linkStatus_answers (s.taken fn slot) _), State.length_linkReport _, fun p hp => State.linkReport_port (s.taken fn slot) hp,
      htopo, hring⟩

end Sys2Proof.Machine

/-! SUPPORT. The video streams and their pool (R367 to R369, R426). -/

namespace Sys2Proof.Machine

/-! ### A command on a live pen (R347, R410) -/

theorem withLivePen_of_reached {s : State} {fn : Fin 9} {slot : Fin 4} {p : Nat} (hpen : (s.reqIn fn slot).f 0 1 = p) (hp : p < 8)
    (hreach : fn = 0 ∨ s.boundPen fn = some p) (hlive : (s.pen p).state.live = true) (k : Nat → Answer) :
    withLivePen (s.reqIn fn slot) (s.taken fn slot) k = k p :=
  (withPen_of_reached hpen hp hreach _).trans (if_pos hlive)

section Video

variable {s : State} {fn : Fin 9} {slot : Fin 4} {p : Nat} (hpen : (s.reqIn fn slot).f 0 1 = p) (hp : p < 8)
  (hreach : fn = 0 ∨ s.boundPen fn = some p) (hlive : (s.pen p).state.live = true)

/-! ### VIDEO_STREAM_OPEN (R367, R369) -/

/-- R367: a stream that has just been opened. -/
def Stream.opened (n p : Nat) (c : StreamRec) : Stream :=
  { number := n, pen := p, conf := c, pieces := [], offset := 0, work := [], ready := none, pictures := []
    outputs := [], flush := none, context := 0, outUpTo := 0, nextPicture := 0, qp := c.qp, sizes := []
    sinceKey := none, band := 0, skipping := none, clashes := [], closing := false, closeSlots := [] }

/-- R426: the fields of the stream record of a VIDEO_STREAM_OPEN. -/
def Req.streamBytes (r : Req) : List Byte := (r.pay.drop 8).take 64
def Req.stream (r : Req) : StreamRec := parseStream r.streamBytes

include hpen hp hreach hlive

theorem videoStreamOpen_opens {n : Nat} (hzero : (s.reqIn fn slot).zero 1 8 = true)
    (hfields : streamFieldsOk (s.reqIn fn slot).streamBytes (s.reqIn fn slot).stream = true)
    (hqueue : ∃ q, s.queue? (s.reqIn fn slot).stream.queue = some q ∧ q.type = .vid ∧ q.pen = p ∧ q.dying = false)
    (hcontext : s.freeContext (s.reqIn fn slot).stream.encode = some n)
    (hbytes : (s.reqIn fn slot).stream.bufferBytes ≤ (s.pen p).pool.elim 0 Prod.snd)
    (hreserve : (s.reqIn fn slot).stream.reserve ≤ s.unreserved p) :
    videoStreamOpen (s.reqIn fn slot) (s.taken fn slot) = .reply ((s.taken fn slot).modVideo (fun v => { v with
      streams := v.streams ++ [Stream.opened n p (s.reqIn fn slot).stream] })) stOk (leBytes 2 n) := by
  obtain ⟨q, hq, htype, howner, hdying⟩ := hqueue
  unfold Req.stream Req.streamBytes at *
  have hfound : (s.taken fn slot).queue? (parseStream (((s.reqIn fn slot).pay.drop 8).take 64)).queue = some q := hq
  have hfree : (s.taken fn slot).freeContext (parseStream (((s.reqIn fn slot).pay.drop 8).take 64)).encode = some n := hcontext
  unfold videoStreamOpen
  rw [withLivePen_of_reached hpen hp hreach hlive]
  dsimp only
  rw [hfound, hfree]
  dsimp only
  rw [if_neg (by simp [hzero, hfields, htype, howner, hdying]), State.taken_pen, State.taken_unreserved,
    if_neg (by simp [hbytes, hreserve])]
  rfl

/-! ### VIDEO_STREAM_CLOSE (R368) -/

theorem videoStreamClose_closes {x : Stream} (hreserved : (s.reqIn fn slot).f 1 1 = 0) (hzero : (s.reqIn fn slot).zero 4 8 = true)
    (hstream : s.stream? ((s.reqIn fn slot).f 2 2) = some x) (howner : x.pen = p) :
    videoStreamClose (s.reqIn fn slot) (s.taken fn slot) =
      if (((s.taken fn slot).closeStream ((s.reqIn fn slot).f 2 2) (some (slotIndex fn slot))).stream? ((s.reqIn fn slot).f 2 2)).isSome then
        .wait ((s.taken fn slot).closeStream ((s.reqIn fn slot).f 2 2) (some (slotIndex fn slot)))
      else .reply ((s.taken fn slot).closeStream ((s.reqIn fn slot).f 2 2) (some (slotIndex fn slot))).makeAllReady stOk [] := by
  unfold videoStreamClose
  rw [withLivePen_of_reached hpen hp hreach hlive]
  dsimp only
  rw [if_neg (by simp [hreserved, hzero]), State.taken_streamOpt, hstream]
  dsimp only
  rw [if_neg (by simp [howner])]
  rfl

/-! ### VIDEO_POOL_SET (R369) -/

/-- R369: the pen with its new pool. -/
def State.withPool (s : State) (p : Nat) (r : Req) : State :=
  s.modPen p (fun x => { x with pool := if r.f 4 4 = 0 then none else some (r.f 4 4, r.f 8 8) })

theorem videoPoolSet_sets (hzero : (s.reqIn fn slot).zero 1 4 = true) (hcount : (s.reqIn fn slot).f 4 4 ≤ 4096)
    (hbytes : (s.reqIn fn slot).f 8 8 % pageBytes = 0) (hclosed : ∀ x ∈ s.video.streams, x.pen ≠ p) :
    videoPoolSet (s.reqIn fn slot) (s.taken fn slot) =
      if (s.pen p).nearMin < (((s.taken fn slot).withPool p (s.reqIn fn slot)).pen p).fixedUse then
        .reply (s.taken fn slot) stNoResource []
      else .reply ((s.taken fn slot).withPool p (s.reqIn fn slot)).retryAllocs stOk [] := by
  have hparam : ¬ (!((s.reqIn fn slot).zero 1 4) || decide (4096 < (s.reqIn fn slot).f 4 4) || (s.reqIn fn slot).f 8 8 % pageBytes != 0) =
      true := by
    rw [hzero, hbytes, decide_eq_false (Nat.not_lt.2 hcount)]
    decide
  have hnone : ¬ (s.taken fn slot).video.streams.any (fun x => x.pen = p) = true := fun h => by
    obtain ⟨x, hx, hown⟩ := List.any_eq_true.1 h
    exact hclosed x hx (of_decide_eq_true hown)
  unfold videoPoolSet
  rw [withLivePen_of_reached hpen hp hreach hlive]
  dsimp only
  rw [if_neg hparam, if_neg hnone]
  rfl

end Video

/-- Settles O33: the checks of a request come first; then a stream opens on the context that is free, closes, or the pool is set. -/
theorem videoStreamCommands : Obligations.VideoStreamCommands := by
  unfold Obligations.VideoStreamCommands
  refine ⟨fun fn slot p n s hwaits => ?_, fun fn slot p x s hwaits => ?_, fun fn slot p s hwaits => ?_⟩
  · intro r b c hpen hp hreach hlive hzero hfields hqueue hcontext hbytes hreserve
    exact served_reply hwaits (videoStreamOpen_opens hpen hp hreach hlive hzero hfields hqueue hcontext hbytes hreserve)
  · intro r t hpen hp hreach hlive hreserved hzero hstream howner
    have hanswer := videoStreamClose_closes hpen hp hreach hlive hreserved hzero hstream howner
    refine ⟨fun hgone => ?_, fun hstays => ?_⟩
    · exact served_reply hwaits (hanswer.trans (if_neg (by simpa using hgone)))
    · exact served_wait hwaits (hanswer.trans (if_pos (Option.isSome_iff_ne_none.2 hstays)))
  · intro r u hpen hp hreach hlive hzero hcount hbytes hclosed
    have hanswer := videoPoolSet_sets hpen hp hreach hlive hzero hcount hbytes hclosed
    exact ⟨fun hfits => served_reply hwaits (hanswer.trans (if_neg (Nat.not_lt.2 hfits))),
      fun hshort => served_reply hwaits (hanswer.trans (if_pos hshort))⟩

end Sys2Proof.Machine

/-! SUPPORT. The machine after a cold reset, and where a command stops (Table 18.6, R255). -/

namespace Sys2Proof.Machine

/-! ### The machine after a cold reset (Table 18.6) -/

theorem State.reset_pen (p : Nat) : State.reset.pen p = .vacant :=
  List.getD_eq_getElem?_getD.trans (List.getElem?_getD_replicate_default_eq ..)
theorem State.reset_port (p : Nat) : State.reset.port p = .initial :=
  List.getD_eq_getElem?_getD.trans (List.getElem?_getD_replicate_default_eq ..)
theorem State.reset_fold (k : Nat) : State.reset.fold k = .off :=
  List.getD_eq_getElem?_getD.trans (List.getElem?_getD_replicate_default_eq ..)
theorem State.reset_slotAt (i : Nat) : State.reset.slotAt i = .idle :=
  List.getD_eq_getElem?_getD.trans (List.getElem?_getD_replicate_default_eq ..)

/-- Settles O3: nothing is listed in the sparse memories, and the numbered parts are copies of one initial part. -/
theorem resetState : Obligations.ResetState := by
  unfold Obligations.ResetState
  refine ⟨rfl, rfl, rfl, rfl, fun p _ => ?_, fun a _ => rfl, rfl, fun p _ => ?_, fun k _ => ?_, fun i _ => State.reset_slotAt i, rfl, rfl,
    rfl, rfl⟩
  · rw [State.reset_pen]
    exact ⟨rfl, rfl⟩
  · rw [State.reset_port]
    rfl
  · rw [State.reset_fold]
    rfl

/-! ### Where a command stops (R255) -/

theorem Result.Completes.not_refused {r : Result} (h : r.Completes) (x : Refusal) : r ≠ .refused x := by
  obtain ⟨t, rfl⟩ := h
  nofun

theorem Result.Completes.not_fault {r : Result} (h : r.Completes) (f : Fault) : r ≠ .fault f := by
  obtain ⟨t, rfl⟩ := h
  nofun

theorem npCommand_stops {s : State} {r : NpReq} {len : Nat} (h : nearBytes < r.kind.addr + len) :
    npCommand s r len = .fault (.noSuchNearAddress r.kind.addr) := if_pos h

/-- Only the five commands that name a near address have a near end, and each stops when its end lies beyond the 384 GiB. -/
theorem exec_stops {c : Instr} {s : State} (h : nearBytes < Instr.nearEnd c) : ∃ a, exec c s = .fault (.noSuchNearAddress a) ∧
    ((∃ cls src len, c = .nearPastureRead cls src a len ∧ nearBytes < a + len) ∨
      (∃ cls src bs, c = .nearPastureWrite cls src a bs ∧ nearBytes < a + bs.length) ∨
      (∃ cls src tb ab ys, c = .accumulateWrite cls src a tb ab ys ∧ nearBytes < a + ys.length * (if tb then 2 else 4)) ∨
      (c = .npCe a ∧ nearBytes ≤ a) ∨ (c = .npUe a ∧ nearBytes ≤ a)) := by
  cases c
  case nearPastureRead cls src a len => exact ⟨a, npCommand_stops h, .inl ⟨_, _, _, rfl, h⟩⟩
  case nearPastureWrite cls src a bs => exact ⟨a, npCommand_stops h, .inr (.inl ⟨_, _, _, rfl, h⟩)⟩
  case accumulateWrite cls src a tb ab ys => exact ⟨a, npCommand_stops h, .inr (.inr (.inl ⟨_, _, _, _, _, rfl, h⟩))⟩
  case npCe a => exact ⟨a, if_pos (Nat.le_of_lt_succ h), .inr (.inr (.inr (.inl ⟨rfl, Nat.le_of_lt_succ h⟩)))⟩
  case npUe a => exact ⟨a, if_pos (Nat.le_of_lt_succ h), .inr (.inr (.inr (.inr ⟨rfl, Nat.le_of_lt_succ h⟩)))⟩
  all_goals exact absurd h (Nat.not_lt_zero _)

/-- Settles O7: within the 384 GiB every command completes, and the five that name a byte beyond them stop. -/
theorem commandsStopOnlyBeyondNearPasture : Obligations.CommandsStopOnlyBeyondNearPasture := by
  unfold Obligations.CommandsStopOnlyBeyondNearPasture
  intro c s
  rcases Nat.lt_or_ge nearBytes (Instr.nearEnd c) with hbeyond | hwithin
  · obtain ⟨a, hstop, hnamed⟩ := exec_stops (s := s) hbeyond
    rw [hstop]
    exact ⟨nofun, fun f hf => ⟨a, (Host.Outcome.fault.inj hf).symm, hnamed⟩⟩
  · have hcompletes := exec_completes (s := s) hwithin
    exact ⟨hcompletes.not_refused, fun f hf => absurd hf (hcompletes.not_fault f)⟩

end Sys2Proof.Machine

/-! SUPPORT. Near pasture with a flush that waits under a mask that is no mask (R256, R258). -/

namespace Sys2Proof.Machine

/-! ### A flush that waits with a mask that is no mask (R256, R258)

A sound machine has a proper mask in every open entry, but nothing is said of the masks of the flushes that wait.  256 bytes are taken
for a whole line, whatever offsets they name, so such a flush changes a byte for which it holds none. -/

namespace RepeatedMask

/-- The flush that waits holds 256 bytes, and all of them for offset 0 of line 0. -/
def flush : NpReq := { kind := .merge 0 (List.replicate 256 (0, 5)), source := .host, cls := .norm, urgent := false }

/-- The line has an open entry of one byte. -/
def entry : WcEntry := { line := 0, bytes := [(0, 1)], source := .host, cls := .norm, writers := [.host], due := none }

/-- A machine whose stacks serve every source, and whose owner function reaches device address 0 at the start of its BAR4. -/
def waiting : State :=
  { State.reset with
    boot := { Boot.initial with stage := 5, linkUp := true }
    host := { HostIf.initial with fns := List.replicate 9 { FnRegs.initial with winEnable := true, winBase := 1 } }
    pens := List.replicate 8 { Pen.vacant with state := .running, pages := [(1, 0)] }
    np := { NearMem.initial with
      stackList := List.replicate 8 { Stack.initial with trained := true, powered := true }, wc := [entry], waiting := [flush] } }

theorem sound : waiting.np.Sound := ⟨rfl, rfl, rfl, List.nodup_singleton _, by decide⟩

/-- No request that waits has a byte for address 1, and no accumulate-write lies over it. -/
theorem settled : waiting.np.SettledAt 1 := ⟨rfl, fun r hr => by rw [List.mem_singleton.1 hr]; exact id⟩

theorem unpoisoned : lineOf 1 ∉ waiting.np.poison := List.not_mem_nil

theorem served (l : Nat) (h : l ∈ linesOf 0 4) : waiting.npBlocked .host l = false := by
  rw [show linesOf 0 4 = [0] from rfl, List.mem_singleton] at h
  subst h
  rfl

/-- Byte 1 of near pasture after a command. -/
def byteOne : Result → Option Byte
  | .next t => some (t.npByte 1)
  | .fault _ | .refused _ => none

/-- A command that lets the flush reach memory changes byte 1. -/
theorem changes {c : Instr} {t : State} (hfive : byteOne (exec c waiting) = some 5) (h : exec c waiting = .next t) : t.npByte 1 ≠ 0 := by
  rw [h] at hfive
  rw [Option.some.inj hfive]
  decide

theorem byteOne_read : byteOne (exec (.nearPastureRead .norm .host 0 4) waiting) = some 5 := by decide +kernel

theorem byteOne_write : byteOne (exec (.nearPastureWrite .norm .host 64 [7]) waiting) = some 5 := by decide +kernel

theorem byteOne_accumulate : byteOne (exec (.accumulateWrite .norm .host 64 false false [none]) waiting) = some 5 := by decide +kernel

theorem byteOne_ageFlush : byteOne (exec (.wcAgeFlush 0) waiting) = some 5 := by decide +kernel

theorem byteOne_bar4Read : byteOne (exec (.bar4Read 0 0 4) waiting) = some 5 := by decide +kernel

end RepeatedMask

/-- Refutes O43: the read flushes the entry of its line behind the flush that waits, which changes a byte for which it holds none. -/
theorem not_nearPastureReads : ¬ Obligations.NearPastureReads := by
  unfold Obligations.NearPastureReads
  intro h
  obtain ⟨t, ht, -, hkept⟩ := (h .norm .host 0 4 RepeatedMask.waiting (by decide)).2 RepeatedMask.served
  exact RepeatedMask.changes RepeatedMask.byteOne_read ht (hkept RepeatedMask.sound 1 RepeatedMask.unpoisoned RepeatedMask.settled)

/-- Refutes O44: the narrow write of byte 64 comes behind the flush that waits, which changes byte 1. -/
theorem not_nearPastureWrites : ¬ Obligations.NearPastureWrites := by
  unfold Obligations.NearPastureWrites
  intro h
  obtain ⟨t, ht, hkept⟩ := (h .norm .host 64 [7] RepeatedMask.waiting (by decide)).1 RepeatedMask.sound
  exact RepeatedMask.changes RepeatedMask.byteOne_write ht (hkept 1 (.inl RepeatedMask.unpoisoned) RepeatedMask.settled)

/-- Refutes O45: the accumulate-write at byte 64 comes behind the flush that waits, which changes byte 1. -/
theorem not_accumulateWrites : ¬ Obligations.AccumulateWrites := by
  unfold Obligations.AccumulateWrites
  intro h
  obtain ⟨t, ht, -, hkept⟩ := (h .norm .host 64 false false [none] RepeatedMask.waiting (by decide)).2 RepeatedMask.served rfl RepeatedMask.sound
  exact RepeatedMask.changes RepeatedMask.byteOne_accumulate ht (hkept 1 (by decide) RepeatedMask.unpoisoned RepeatedMask.settled)

/-- Refutes O46: the entry that is flushed after 1 µs comes behind the flush that waits, which changes byte 1. -/
theorem not_nearPastureWaits : ¬ Obligations.NearPastureWaits := by
  unfold Obligations.NearPastureWaits
  rintro ⟨h, -⟩
  obtain ⟨t, ht, -, hkept⟩ := (h 0 RepeatedMask.entry RepeatedMask.waiting rfl).1 rfl RepeatedMask.sound
  exact RepeatedMask.changes RepeatedMask.byteOne_ageFlush ht (hkept 1 RepeatedMask.unpoisoned RepeatedMask.settled)

/-- Refutes O23: a read through the window flushes the entry of its line behind the flush that waits, which changes byte 1. -/
theorem not_bar4Accesses : ¬ Obligations.Bar4Accesses := by
  unfold Obligations.Bar4Accesses
  rintro ⟨h, -⟩
  obtain ⟨t, ht, -, hkept⟩ := (h 0 0 4 0 RepeatedMask.waiting rfl (by decide) rfl).1 RepeatedMask.served
  exact RepeatedMask.changes RepeatedMask.byteOne_bar4Read ht (hkept RepeatedMask.sound 1 RepeatedMask.unpoisoned RepeatedMask.settled)

end Sys2Proof.Machine

/-! SUPPORT. The commands of the fault log, the Tally, telemetry and the power limit (R80, R433, R486, R487, R494, R497, R499). -/

namespace Sys2Proof.Machine

/-- R80: the list of Folds to test gains one Fold and loses none. -/
theorem mem_insertNat {n k : Nat} {l : List Nat} : k ∈ insertNat n l ↔ k = n ∨ k ∈ l := by
  induction l with
  | nil => simp [insertNat]
  | cons m l ih =>
    unfold insertNat
    split
    · simp
    · split
      case isTrue h => simp [h]
      case isFalse => simp [ih, or_left_comm]

section Bodies

variable {r : Req} {u : State}

/-! ### FAULT_READ and FAULT_CLEAR (R80, R486, R487) -/

theorem faultRead_answers {b : FaultBank} (hlow : 1 ≤ r.f 2 1) (hhigh : r.f 2 1 ≤ 32) (hzero : r.zero 3 8 = true)
    (hbank : u.health.banks[r.f 0 1]? = some b) : faultRead r u = .reply u stOk
      ([BitVec.ofNat 8 b.records.length, BitVec.ofNat 8 ((b.records.drop (r.f 1 1)).take (r.f 2 1)).length] ++ List.replicate 6 0 ++
        ((b.records.drop (r.f 1 1)).take (r.f 2 1)).flatMap recordBytes) := by
  unfold faultRead
  dsimp only
  rw [if_neg (by simp [hzero]; omega), hbank]

section Clear

variable (hzero : r.zero 3 8 = true)
include hzero

theorem faultClear_record {b : FaultBank} (hbank : u.health.banks[r.f 0 1]? = some b) (hmode : r.f 1 1 = 0) (hrecord : r.f 2 1 < b.records.length) :
    faultClear r u = .reply (u.modBank (r.f 0 1) (fun x => { x with records := x.records.set (r.f 2 1) none })) stOk [] := by
  unfold faultClear
  dsimp only
  rw [if_neg (by simp [hzero, hmode]), if_neg (by omega), hbank]
  dsimp only
  rw [if_neg (by omega), if_neg (by omega)]

theorem faultClear_bank {b : FaultBank} (hbank : u.health.banks[r.f 0 1]? = some b) (hmode : r.f 1 1 = 1) :
    faultClear r u = .reply (u.modBank (r.f 0 1) (fun x => { x with records := x.records.map (fun _ => none), lost := 0 })) stOk [] := by
  unfold faultClear
  dsimp only
  rw [if_neg (by simp [hzero, hmode]), if_neg (by omega), hbank]
  dsimp only
  rw [if_pos hmode]

theorem faultClear_retired (hmode : r.f 1 1 = 2) (hfold : r.f 2 1 ≤ 135) (hretired : (u.fold (r.f 2 1)).state = .retired) :
    faultClear r u = .reply (u.modDog (fun g => { g with retest := insertNat (r.f 2 1) g.retest })) stOk [] := by
  unfold faultClear
  dsimp only
  rw [if_neg (by simp [hzero, hmode]), if_pos hmode, if_neg (by omega), if_neg (by simp [hretired])]

end Clear

/-! ### TALLY_SNAPSHOT (R494) -/

section Snapshot

variable (hnone : u.health.snapshot = none) (hreserved : r.f 1 1 = 0) (hzero : r.zero 4 8 = true)
include hnone hreserved hzero

theorem tallySnapshot_now (hmode : r.f 0 1 = 0) : tallySnapshot r u = .reply u.tick stOk u.tick.tickBytes := by
  unfold tallySnapshot
  dsimp only
  rw [if_neg (by simp [hnone]), if_neg (by simp [hreserved, hzero, hmode]), if_pos hmode]

theorem tallySnapshot_scheduled (hmode : r.f 0 1 = 1) (hepoch : r.f 2 2 = u.time.epoch.toNat)
    (hsoon : r.f 8 8 ≤ u.time.now.toNat + 1000000000) (hlater : u.time.now.toNat < r.f 8 8) (hplain : u.isBellwether = false) :
    tallySnapshot r u = .wait (u.modHealth (fun h => { h with
      snapshot := some (BitVec.ofNat 16 (r.f 2 2), BitVec.ofNat 64 (r.f 8 8), some r.slot) })) := by
  unfold tallySnapshot
  dsimp only
  rw [if_neg (by simp [hnone]), if_neg (by simp [hreserved, hzero, hmode]), if_neg (by omega), if_neg (by simp [hepoch]; omega),
    if_pos hlater, if_neg (by simp [hplain])]

end Snapshot

/-! ### TELEMETRY_READ and POWER_LIMIT_SET (R497, R499) -/

theorem telemetryRead_answers (hlow : 1 ≤ r.f 2 2) (hhigh : r.f 2 2 ≤ 500) (hzero : r.zero 4 8 = true) (hitem : r.f 0 2 < 58) :
    telemetryRead r u = .reply u stOk (leBytes 2 (min (r.f 2 2) (58 - r.f 0 2)) ++ List.replicate 6 0 ++
      (List.range (min (r.f 2 2) (58 - r.f 0 2))).flatMap (fun i => leBytes 8 (u.item (r.f 0 2 + i)))) := by
  unfold telemetryRead
  dsimp only
  rw [if_neg (by simp [hzero]; omega), if_neg (by omega)]

theorem powerLimitSet_sets (hzero : r.zero 4 8 = true) (hlow : 600 ≤ r.f 0 4) (hhigh : r.f 0 4 ≤ 1200) :
    powerLimitSet r u = .reply (u.modPower (fun p => { p with limit := r.f 0 4 })) stOk (leBytes 4 (r.f 0 4) ++ leBytes 4 0) := by
  unfold powerLimitSet
  dsimp only
  rw [if_neg (by simp [hzero]; omega)]

theorem powerLimitSet_refuses (hout : r.f 0 4 < 600 ∨ 1200 < r.f 0 4) : powerLimitSet r u = .reply u stBadParam [] := by
  unfold powerLimitSet
  dsimp only
  rw [if_pos (by simpa using Or.inl hout)]
  rfl

end Bodies

/-- Settles O34: each clause is what its command's body answers on the request taken. -/
theorem healthCommands : Obligations.HealthCommands := by
  unfold Obligations.HealthCommands
  refine ⟨fun fn slot b s hwaits => ?_, fun fn slot b s hwaits => ?_, fun fn slot s hwaits => ?_, fun fn slot s hwaits => ?_,
    fun fn slot s hwaits => ?_, fun fn slot s hwaits => ?_⟩
  · intro r rs hlow hhigh hzero hbank
    exact served_reply hwaits (faultRead_answers hlow hhigh hzero hbank)
  · intro r hzero hbank
    exact ⟨fun hmode hrecord => served_reply hwaits (faultClear_record hzero hbank hmode hrecord),
      fun hmode => served_reply hwaits (faultClear_bank hzero hbank hmode)⟩
  · intro r hzero hmode hfold hretired
    exact ⟨_, served_reply hwaits (faultClear_retired hzero hmode hfold hretired), mem_insertNat.2 (.inl rfl),
      fun k hk => mem_insertNat.2 (.inr hk), fun k hk => mem_insertNat.1 hk⟩
  · intro r hnone hreserved hzero
    exact ⟨fun hmode => served_reply hwaits (tallySnapshot_now hnone hreserved hzero hmode), fun hmode hepoch hsoon hlater hplain =>
      served_wait hwaits (tallySnapshot_scheduled hnone hreserved hzero hmode hepoch hsoon hlater hplain)⟩
  · intro r hlow hhigh hzero hitem
    exact served_reply hwaits (telemetryRead_answers hlow hhigh hzero hitem)
  · intro r hzero
    exact ⟨fun hlow hhigh => served_reply hwaits (powerLimitSet_sets hzero hlow hhigh),
      fun hout => served_reply hwaits (powerLimitSet_refuses hout)⟩

end Sys2Proof.Machine

/-! SUPPORT. The leaders of a torus, and what is sent again (R267, R331 to R334, R340). -/

namespace Sys2Proof.Machine

section Messages

variable {s : State}

/-! ### BEACON and PROBE (R332) -/

theorem exec_beaconPeriod (hleads : s.isBellwether = true) (hother : s.fab.deputy ≠ s.fab.bellwether) :
    exec .beaconPeriod s = .next (s.quiet.sendMgmt 0x24 s.fab.deputy [0] []) := by
  change execBeaconPeriod s = _
  simp only [execBeaconPeriod, State.quiet_isBellwether, State.quiet_fab, hleads, bne_iff_ne.2 hother, Bool.and_self, if_true]
  rfl

theorem exec_beacon {x : Nat × Packet} (hhead : s.quiet.beaconPacket (· = 0) = some x) (hdeputy : s.isDeputy = true)
    (hsrc : pSrc x.2 = s.fab.bellwether) :
    exec .beacon s = .next ((s.quiet.takePacket x).modCoord (fun c => { c with probing := false })) := by
  have htakes : ((s.quiet.takePacket x).isDeputy && pSrc x.2 == (s.quiet.takePacket x).fab.bellwether) = true :=
    Bool.and_eq_true_iff.2 ⟨hdeputy, beq_iff_eq.2 hsrc⟩
  change execBeacon s = _
  unfold execBeacon
  dsimp only
  rw [hhead]
  dsimp only
  rw [if_pos htakes]
  rfl

theorem exec_beaconTimeout (hdeputy : s.isDeputy = true) : exec .beaconTimeout s =
    .next ((s.quiet.modCoord (fun c => { c with probing := true })).sendMgmt 0x24 s.fab.bellwether [1] []) := by
  change done (if s.quiet.isDeputy then _ else _) = _
  rw [State.quiet_isDeputy, if_pos hdeputy]
  rfl

section Probe

variable {x : Nat × Packet} (hhead : s.quiet.beaconPacket (· != 0) = some x)
include hhead

theorem exec_probe_asked (hask : leField x.2 8 1 = 1) (hleads : s.isBellwether = true) :
    exec .probe s = .next ((s.quiet.takePacket x).sendMgmt 0x24 (pSrc x.2) [2] []) := by
  have hanswers : (s.quiet.takePacket x).isBellwether = true := hleads
  change execProbe s = _
  unfold execProbe
  dsimp only
  rw [hhead]
  dsimp only
  rw [hask]
  exact congrArg Host.Outcome.next (if_pos hanswers)

theorem exec_probe_answered (hanswer : leField x.2 8 1 = 2) :
    exec .probe s = .next ((s.quiet.takePacket x).modCoord (fun c => { c with probing := false })) := by
  change execProbe s = _
  unfold execProbe
  dsimp only
  rw [hhead]
  dsimp only
  rw [hanswer]
  rfl

end Probe

/-! ### A takeover and a change (R331, R332) -/

/-- R332: the deputy names itself Bellwether, and the next device that may be used as deputy. -/
def State.promoted (s : State) : State :=
  (s.modCoord (fun c => { c with probing := false, jobs := c.jobs.map Job.restarted })).nameLeaders s.fab.coord
    (deputyOf s.fab.extent s.fab.coord s.coord.unusable)

theorem State.takeOver_promoted (hprobing : s.coord.probing = true) (hdeputy : s.isDeputy = true) : s.takeOver =
    (s.promoted.sendDown 0x25 (changeOp s.promoted.fab.bellwether s.promoted.fab.deputy)).rejoin := by
  rw [State.takeOver, if_pos (by rw [hprobing, hdeputy]; rfl)]
  rfl

theorem State.retime_fab (s : State) : s.retime.fab = s.fab := State.retime_keeps.only.same .fab (by decide)

theorem State.promoted_bellwether (s : State) : s.promoted.fab.bellwether = s.fab.coord := by
  rw [State.promoted, State.nameLeaders, State.retime_fab]
  rfl

theorem State.promoted_isBellwether (hdeputy : s.isDeputy = true) : s.promoted.isBellwether = true := by
  simp only [State.isDeputy, Bool.and_eq_true] at hdeputy
  obtain ⟨⟨⟨hplaced, hhub⟩, -⟩, -⟩ := hdeputy
  rw [State.isBellwether, State.isMaster, State.hubPresent, State.promoted, State.nameLeaders, State.retime_fab, State.retime_boot]
  exact Bool.and_eq_true_iff.2 ⟨Bool.and_eq_true_iff.2 ⟨hplaced, beq_self_eq_true _⟩, hhub⟩

section Change

variable {i : Nat} {p : Packet} (hhead : s.quiet.mgmtPacket 0x25 = some (i, p))
include hhead

theorem exec_bellwetherChange : exec .bellwetherChange s =
    .next (if BitVec.ofNat 16 (leField p 8 2) = s.fab.bellwether ∧ BitVec.ofNat 16 (leField p 10 2) = s.fab.deputy then s.quiet.takePacket (i, p)
      else (((s.quiet.takePacket (i, p)).nameLeaders (BitVec.ofNat 16 (leField p 8 2)) (BitVec.ofNat 16 (leField p 10 2))).sendOn i 0x25
        (changeOp (BitVec.ofNat 16 (leField p 8 2)) (BitVec.ofNat 16 (leField p 10 2)))).rejoin) := by
  change execBellwetherChange s = _
  unfold execBellwetherChange
  dsimp only
  rw [hhead]
  dsimp only
  simp only [Bool.and_eq_true, decide_eq_true_eq]
  exact (apply_ite Host.Outcome.next _ _ _).symm

end Change

/-! ### What is sent again (R334) -/

theorem State.isBellwether_of_wiring {t : State} (hw : t.wiring = s.wiring) (hb : t.boot = s.boot) : t.isBellwether = s.isBellwether := by
  have hcoord : t.fab.coord = s.fab.coord := congrArg Wiring.coord hw
  have hplaced : t.fab.placed = s.fab.placed := congrArg Wiring.placed hw
  have hleader : t.fab.bellwether = s.fab.bellwether := congrArg Wiring.bellwether hw
  have htransit : t.fab.transitOnly = s.fab.transitOnly := congrArg Wiring.transitOnly hw
  rw [State.isBellwether, State.isMaster, State.hubPresent, hcoord, hplaced, hleader, htransit, hb]
  rfl

theorem State.sendJoin_wiring (s : State) (p : Nat) : (s.sendJoin p).wiring = s.wiring := by
  unfold State.sendJoin
  split
  · exact State.sendLeaders_wiring ..
  · rfl

/-- R334: what a member has sent and what is unanswered of it. -/
def State.resendMember (s : State) (p : Nat) : State :=
  (if (s.pen p).joining then s.sendJoin p else s).forAll (s.pen p).notices State.sendNotice

theorem State.resendMember_wiring (s : State) (p : Nat) : (s.resendMember p).wiring = s.wiring := by
  refine (State.forAll_same (fun u n => State.sendLeaders_wiring ..) _ _).trans ?_
  split
  · exact State.sendJoin_wiring ..
  · rfl

theorem State.resendMember_boot (s : State) (p : Nat) : (s.resendMember p).boot = s.boot := by
  refine (State.forAll_same (fun u n => State.sendNotice_keeps.only.same .boot (by decide)) _ _).trans ?_
  split
  · exact State.sendJoin_keeps.only.same .boot (by decide)
  · rfl

/-- R334: the epoch request and the messages of the members that are unanswered. -/
def State.resendMembers (s : State) : State :=
  (if s.time.epochReq then s.quiet.sendEpochReq else s.quiet).forAll (List.range 8) State.resendMember

theorem State.resendMembers_isBellwether (s : State) : s.resendMembers.isBellwether = s.isBellwether := by
  refine State.isBellwether_of_wiring ((State.forAll_same State.resendMember_wiring _ _).trans ?_)
    ((State.forAll_same State.resendMember_boot _ _).trans ?_)
  · split
    · exact State.sendMgmt_wiring ..
    · rfl
  · split
    · exact State.sendEpochReq_keeps.only.same .boot (by decide)
    · rfl

theorem State.sendJoin_pen (s : State) (k p : Nat) : (s.sendJoin k).pen p = s.pen p :=
  congrArg (fun l => l.getD p Pen.vacant) (State.sendJoin_keeps.only.same .pens (by decide) : (s.sendJoin k).pens = s.pens)

theorem State.resendMember_eq (s : State) (p : Nat) : s.resendMember p =
    (if (s.pen p).joining then s.sendJoin p else s).forAll ((if (s.pen p).joining then s.sendJoin p else s).pen p).notices State.sendNotice := by
  unfold State.resendMember
  split
  · rw [State.sendJoin_pen]
  · rfl

theorem exec_managementResend (s : State) : exec .managementResend s = .next (if s.isBellwether = true
    then s.resendMembers.forAll (s.resendMembers.coord.jobs.filter (fun j => j.phase.announced)) (fun u j =>
      u.forAll j.waiting (fun v m => v.sendRecovery j m))
    else s.resendMembers) := by
  rw [← State.resendMembers_isBellwether]
  have hmembers : s.resendMembers = (if s.time.epochReq then s.quiet.sendEpochReq else s.quiet).forAll (List.range 8) (fun u p =>
      (if (u.pen p).joining then u.sendJoin p else u).forAll ((if (u.pen p).joining then u.sendJoin p else u).pen p).notices
        State.sendNotice) :=
    congrArg (State.forAll _ _) (funext fun u => funext fun p => State.resendMember_eq u p)
  change execManagementResend s = _
  unfold execManagementResend
  dsimp only
  rw [State.quiet_time, ← hmembers]
  rfl

/-! ### SLOW and the watchdog of a ring (R267, R340) -/

theorem exec_slow {i : Nat} {p : Packet} (hhead : s.quiet.mgmtPacket 0x2B = some (i, p)) :
    exec .slow s = .next ((s.quiet.takePacket (i, p)).modPort i (fun x => { x with slow := leField p 8 1 = 1 })) := by
  change execSlow s = _
  unfold execSlow
  dsimp only
  rw [hhead]
  rfl

theorem exec_collWatchdog {q id : Nat} {x : Queue} (hqueue : s.queue? q = some x) (hwaits : s.waitingHead x = some id)
    (hmember : (s.pen x.pen).member = true) :
    exec (.collWatchdog q) s = .next (s.quiet.penFault x.pen 0x84 (q % 2 ^ 20 + id <<< 32)).retryAllocs := by
  have hmember' : (s.quiet.pen x.pen).member = true := hmember
  change execCollWatchdog q s = _
  unfold execCollWatchdog
  dsimp only
  rw [show s.quiet.queue? q = some x from hqueue]
  dsimp only
  rw [State.quiet_waitingHead, hwaits]
  dsimp only
  rw [if_pos hmember']
  rfl

end Messages

/-- Settles O55: each clause is what its row does under the clause's premises. -/
theorem leaders : Obligations.Leaders := by
  unfold Obligations.Leaders
  refine ⟨fun s hleads hother => exec_beaconPeriod hleads hother, fun x s hhead hdeputy hsrc => exec_beacon hhead hdeputy hsrc,
    fun s hdeputy => exec_beaconTimeout hdeputy, fun x s hhead => ⟨exec_probe_asked hhead, exec_probe_answered hhead⟩,
    fun s hprobing hdeputy => ?_, fun i p s hhead => ?_, fun p s hnotices => ?_, fun s => ?_, fun i p s hhead => exec_slow hhead,
    fun p s => rfl, fun q id x s hqueue hwaits hmember => exec_collWatchdog hqueue hwaits hmember⟩
  · exact ⟨congrArg Host.Outcome.next (State.takeOver_promoted hprobing hdeputy), State.promoted_bellwether s.quiet,
      State.promoted_isBellwether (s := s.quiet) hdeputy⟩
  · intro bw dep u
    rw [exec_bellwetherChange hhead]
    exact ⟨fun hbw hdep => by rw [if_pos ⟨hbw, hdep⟩], fun hnew => by rw [if_neg (fun h => hnew.elim (· h.1) (· h.2))]⟩
  · change done (if (s.pen p).notices != [] then _ else _) = _
    rw [if_pos (bne_iff_ne.2 hnotices)]
    rfl
  · intro t
    have ht : t = s.resendMembers := rfl
    rw [exec_managementResend, ht]
    exact ⟨fun hother => by rw [if_neg (by simp [hother])], fun hleads => by rw [if_pos hleads]⟩

end Sys2Proof.Machine

/-! SUPPORT. The head descriptor of a ROP queue, and operations without a response (R306, R308, R311, R319). -/

namespace Sys2Proof.Machine

/-! ### The head descriptor that a ROP queue offers (R306, R308, R311) -/

/-- The ROP queue takes entries, this is its head descriptor, and its operation has a command. -/
structure State.OffersRop (s : State) (q : Nat) (x : Queue) (d : List Byte) : Prop where
  queue : s.queue? q = some x
  type : x.type = .rop
  takes : s.takes x = true
  entry : s.headEntry x = .ok d

section RopHead

variable {s : State} {q : Nat} {x : Queue} {d : List Byte} (h : s.OffersRop q x d)
include h

theorem State.OffersRop.ropHead_closed (hclosed : s.ropOpen x = false) (op : Nat) : s.ropHead q op = s := by
  simp [State.ropHead, h.queue, hclosed]

/-- R308: the checks decide between the halt and the take, which waits while near pasture holds the source. -/
theorem State.OffersRop.ropHead_open (hopen : s.ropOpen x = true) : s.ropHead q (rOp d) =
    (s.ropError x d).elim (if s.ropHeld x d then s else s.ropTake x d) (s.ropRefused x d) := by
  cases he : s.ropError x d <;> simp [State.ropHead, h.queue, h.type, h.takes, h.entry, hopen, he]

end RopHead

/-- R308: a refused descriptor halts its queue with its HEAD at it. -/
theorem State.ropRefused_queue? {s : State} {q : Nat} {x : Queue} (h : s.queue? q = some x) (htype : x.type = .rop) (d : List Byte)
    (code : Nat) : ∃ y, (s.ropRefused x d code).queue? q = some y ∧ y.halted = true ∧ y.head = x.head := by
  obtain rfl := State.queue?_id h
  have hhalted := State.queue?_modQueue_same (f := fun y => { y.halt code with
    expectSeq := if rSeq d = y.expectSeq.toNat then y.expectSeq + 1 else y.expectSeq }) h
  refine ⟨{ x.halt code with expectSeq := if rSeq d = x.expectSeq.toNat then x.expectSeq + 1 else x.expectSeq },
    (State.queue?_of_qe (State.count_qe ..) _).trans ?_, rfl, rfl⟩
  unfold State.ropCpl
  split
  · exact State.cpl_queue? hhalted (by simp [Queue.halt, htype])
  · exact hhalted

/-- The commands of the remote operations with their codes. -/
def ropCommands : List ((Nat → Instr) × Nat) := [(.put, 1), (.get, 2), (.putAcc, 3), (.atomic, 4), (.signal, 5), (.ropFence, 6)]

theorem exec_ropCommand (q : Nat) (s : State) : ∀ r ∈ ropCommands, exec (r.1 q) s = .next (s.quiet.ropHead q r.2) := by
  simp only [ropCommands, List.forall_mem_cons]
  exact ⟨rfl, rfl, rfl, rfl, rfl, rfl, nofun⟩

/-- Settles O57: the command looks at the queue's head descriptor, and a time-out fails the operation that it names. -/
theorem remoteOperations : Obligations.RemoteOperations := by
  unfold Obligations.RemoteOperations
  refine ⟨?_, fun q seq r s hfind => ?_⟩
  · rintro c _ hc q x d s hqueue htype htakes hentry rfl
    have hexec := exec_ropCommand q s _ hc
    have hoffers : s.quiet.OffersRop q x d := ⟨hqueue, htype, htakes, hentry⟩
    have hhead (hopen : s.ropOpen x = true) := hexec.trans (congrArg Host.Outcome.next (hoffers.ropHead_open hopen))
    refine ⟨fun hclosed => ?_, fun hopen hpasses hserved => ?_, fun hopen hpasses hheld => ?_, fun code hopen hfails => ⟨?_, ?_⟩⟩
    · exact hexec.trans (congrArg Host.Outcome.next (hoffers.ropHead_closed hclosed _))
    · rw [hhead hopen, State.quiet_ropError, hpasses, State.quiet_ropHeld, hserved]
      rfl
    · rw [hhead hopen, State.quiet_ropError, hpasses, State.quiet_ropHeld, hheld]
      rfl
    · rw [hhead hopen, State.quiet_ropError, hfails, Option.elim_some]
    · exact State.ropRefused_queue? hoffers.queue htype d code
  · change execRopTimeout q seq s = _
    unfold execRopTimeout
    rw [hfind]
    rfl

end Sys2Proof.Machine

/-! SUPPORT. The head entry of a VID queue, the choice of a picture, and the resets of the video cores (R371, R372, R382 to R384, R391). -/

namespace Sys2Proof.Machine

/-! ### The head entry that a VID queue offers (R371, R372) -/

/-- The VID queue takes entries, this is its head entry, and its stream takes it now. -/
structure State.OffersVideo (s : State) (q : Nat) (x : Queue) (e : List Byte) : Prop where
  queue : s.queue? q = some x
  type : x.type = .vid
  takes : s.takes x = true
  entry : s.headEntry x = .ok e

section VideoHead

variable {s : State} {q : Nat} {x : Queue} {e : List Byte} (h : s.OffersVideo q x e)
include h

theorem State.OffersVideo.videoHead_closed (hclosed : s.streamTakes e = false) (op : Nat) : s.videoHead q op = s := by
  simp [State.videoHead, h.queue, h.type, h.takes, h.entry, hclosed]

/-- R371: the checks decide between the halt and the take, which waits while near pasture holds the data. -/
theorem State.OffersVideo.videoHead_open (hopen : s.streamTakes e = true) : s.videoHead q (vOp e) =
    (s.videoError x e).elim (if vOp e = 1 && s.videoHeld x.pen e then s.videoFetch x.pen e true else s.videoTake x e)
      (s.videoRefused x e) := by
  cases he : s.videoError x e <;> simp [State.videoHead, h.queue, h.type, h.takes, h.entry, hopen, he]

end VideoHead

/-- The commands of a VID queue with their codes. -/
def videoCommands : List ((Nat → Instr) × Nat) := [(.data, 1), (.output, 2), (.encode, 3), (.flush, 4)]

theorem exec_videoCommand (q : Nat) (s : State) : ∀ r ∈ videoCommands, exec (r.1 q) s = .next (s.quiet.videoHead q r.2) := by
  simp only [videoCommands, List.forall_mem_cons]
  exact ⟨rfl, rfl, rfl, rfl, nofun⟩

/-! ### The choice of a picture (R383, R384) -/

/-- The better of two candidates is one of them. -/
theorem firstBy_mem {key : Stream × PicWork → Nat} {l : List (Stream × PicWork)} {c : Stream × PicWork} (h : firstBy key l = some c) : c ∈ l := by
  refine List.foldlRecOn (motive := fun best => ∀ c, best = some c → c ∈ l) l _ (fun _ h => by cases h)
    (fun best hbest y hy c hc => ?_) c h
  cases best with
  | none => exact Option.some.inj hc ▸ hy
  | some b =>
    dsimp only at hc
    split at hc
    · exact Option.some.inj hc ▸ hy
    · exact hbest c hc

theorem mem_of_mem_liveOrder {n : Nat} {l : List (Stream × PicWork)} {c : Stream × PicWork} (h : c ∈ liveOrder n l) : c ∈ l := by
  induction n generalizing l with
  | zero => exact absurd h List.not_mem_nil
  | succ n ih =>
    unfold liveOrder at h
    split at h
    next b hb =>
      rcases List.mem_cons.1 h with rfl | hlater
      · exact firstBy_mem hb
      · exact (List.mem_filter.1 (ih hlater)).1
    next => exact absurd h List.not_mem_nil

/-- R384: the picture that is chosen is a ready one. -/
theorem pickPicture_mem {now : Nat} {ready : List (Stream × PicWork)} {c : Stream × PicWork} (h : pickPicture now ready = some c) : c ∈ ready := by
  unfold pickPicture at h
  simp only [Option.or_eq_some_iff, Option.filter_eq_some_iff] at h
  rcases h with hredo | ⟨-, ⟨haged, -⟩ | ⟨-, hlive | ⟨-, hclass | ⟨-, hclass⟩⟩⟩⟩
  · exact (List.mem_filter.1 (firstBy_mem hredo)).1
  · exact (List.mem_filter.1 (List.mem_filter.1 (firstBy_mem haged)).1).1
  · exact (List.mem_filter.1 (mem_of_mem_liveOrder (List.mem_of_mem_head? hlive))).1
  · exact (List.mem_filter.1 (firstBy_mem hclass)).1
  · exact (List.mem_filter.1 (firstBy_mem hclass)).1

theorem exec_picturePick {core : Fin 6} {s : State} (hidle : (s.core core).busy = none) (hready : (s.core core).inReset = false)
    (hruns : s.boot.shepherdRuns = true) : exec (.picturePick core) s =
    match pickPicture s.time.clock (s.readyPictures (decide (4 ≤ core.val))) with
    | some (x, w) => .next ((s.quiet.modStream x.number (fun y => { y with ready := none })).modCore core (fun k => { k with
        busy := some (x.number, w) }))
    | none => .next s.quiet := by
  change execPicturePick core s = _
  simp only [execPicturePick, State.quiet_core, State.quiet_boot, State.quiet_time, State.quiet_readyPictures, hidle, hready, hruns]
  rfl

/-! ### The resets of the cores (R382, R391) -/

theorem State.core_eq (s : State) (c : Nat) :
    s.core c = s.video.cores[c]?.getD { busy := none, inReset := false, resetQueued := false } := List.getD_eq_getElem?_getD

/-- A core that works is one of the cores. -/
theorem State.core_of_busy {s : State} {c : Nat} (h : (s.core c).busy ≠ none) : s.video.cores[c]? = some (s.core c) := by
  rw [State.core_eq] at h ⊢
  cases hc : s.video.cores[c]? with
  | none => exact absurd (by rw [hc]; rfl) h
  | some k => rfl

section CoreReset

variable {s : State} {core : Fin 6}

/-- R391: the reset of a core is queued. -/
def State.queueReset (s : State) (core : Nat) : State := s.modCore core (fun k => { k with resetQueued := true })

theorem State.queueReset_cores (s : State) (core : Nat) :
    (s.queueReset core).video.cores = s.video.cores.modify core (fun k => { k with resetQueued := true }) := rfl

theorem State.queueReset_inReset (s : State) (core : Nat) :
    (s.queueReset core).video.cores.any VideoCore.inReset = s.video.cores.any VideoCore.inReset :=
  any_modify_of_keeps (f := fun k : VideoCore => { k with resetQueued := true }) (fun _ => rfl) ..

theorem exec_coreReset (hbusy : (s.core core).busy ≠ none) (hfree : (s.core core).inReset = false) :
    exec (.coreReset core) s = .next (s.quiet.queueReset core).nextCoreReset := by
  change execCoreReset core s = _
  simp only [execCoreReset, State.quiet_core, hfree, Bool.or_false, Option.isNone_iff_eq_none, hbusy, if_false]
  rfl

theorem State.nextCoreReset_waits (h : ∃ k ∈ s.video.cores, k.inReset = true) : s.nextCoreReset = s := by
  rw [State.nextCoreReset, if_pos (by rw [List.any_eq_true.2 h]; rfl)]

theorem State.queueReset_next (hruns : s.boot.shepherdRuns = true) (hbusy : (s.core core).busy ≠ none)
    (hidle : ∀ k ∈ s.video.cores, k.inReset = false ∧ k.resetQueued = false) :
    (s.queueReset core).nextCoreReset = (s.queueReset core).beginCoreReset core := by
  have hnone : (s.queueReset core).video.cores.any VideoCore.inReset = false :=
    (State.queueReset_inReset ..).trans (List.any_eq_false.2 (fun k hk => by simp [(hidle k hk).1]))
  have hcore : (s.queueReset core).video.cores.findIdx? VideoCore.resetQueued = some core.val := by
    obtain ⟨hlt, -⟩ := List.getElem?_eq_some_iff.1 (State.core_of_busy hbusy)
    refine List.findIdx?_eq_some_iff_getElem.2 ⟨by rwa [State.queueReset_cores, List.length_modify], ?_, fun j hj => ?_⟩
    · simp only [State.queueReset_cores, List.getElem_modify_eq]
    · simp only [State.queueReset_cores, List.getElem_modify_ne _ _ (Nat.ne_of_gt hj)]
      exact Bool.eq_false_iff.1 (hidle _ (List.getElem_mem _)).2
  rw [State.nextCoreReset, hnone, show (s.queueReset core).boot = s.boot from rfl, hruns, if_neg (by decide), hcore]

end CoreReset

/-- Settles O59: the command looks at the queue's head entry, the pick at the ready pictures, and a reset at the other cores. -/
theorem videoWork : Obligations.VideoWork := by
  unfold Obligations.VideoWork
  refine ⟨?_, fun core s hidle hready hruns => ?_, fun core s => ?_, fun core s hbusy hfree hruns => ?_, fun core s hreset => ?_⟩
  · rintro c _ hc q x e s hqueue htype htakes hentry rfl
    have hexec := exec_videoCommand q s _ hc
    have hoffers : s.quiet.OffersVideo q x e := ⟨hqueue, htype, htakes, hentry⟩
    have hhead (hopen : s.streamTakes e = true) := hexec.trans (congrArg Host.Outcome.next (hoffers.videoHead_open hopen))
    refine ⟨fun hclosed => ?_, fun hopen hpasses hserved => ?_, fun hopen hpasses hdata hheld => ?_, fun code hopen hfails => ?_⟩
    · exact hexec.trans (congrArg Host.Outcome.next (hoffers.videoHead_closed hclosed _))
    · rw [hhead hopen, State.quiet_videoError, hpasses]
      exact congrArg Host.Outcome.next (if_neg (by simpa using hserved))
    · rw [hhead hopen, State.quiet_videoError, hpasses]
      exact congrArg Host.Outcome.next (if_pos (by simp [hdata, hheld]))
    · rw [hhead hopen, State.quiet_videoError, hfails, Option.elim_some]
  · rw [exec_picturePick hidle hready hruns]
    exact ⟨fun x w hpick => ⟨pickPicture_mem hpick, by rw [hpick]⟩, fun hnone => by rw [hnone]⟩
  · refine ⟨fun hfree hserved => ?_, fun hfree hheld => ?_, fun hqueued => if_pos hqueued⟩
    · exact (if_neg (Bool.eq_false_iff.1 hfree)).trans (if_neg (Bool.eq_false_iff.1 hserved))
    · exact (if_neg (Bool.eq_false_iff.1 hfree)).trans (if_pos hheld)
  · rw [exec_coreReset hbusy hfree]
    refine ⟨fun hother => ?_, fun hidle => ?_⟩
    · have hother' : ∃ k ∈ (s.quiet.queueReset core).video.cores, k.inReset = true := by
        rw [← List.any_eq_true, State.queueReset_inReset, List.any_eq_true]
        exact hother
      rw [State.nextCoreReset_waits hother']
      rfl
    · rw [State.queueReset_next (s := s.quiet) hruns hbusy hidle]
      rfl
  · exact if_pos hreset

end Sys2Proof.Machine

/-! SUPPORT. Remote requests and responses as they arrive (R293, R307, R309 to R312, R316, R318, R332). -/

namespace Sys2Proof.Machine

/-! ### A request in its pen (R307, R309, R312) -/

section Arrivals

variable {u : State} {p : Packet}

/-- R312: a fragment that its pen does not take leaves near pasture and the pens as they are. -/
theorem State.arrivePut_refused {len : Nat} {acc : Bool} (hbad : u.acceptOp p ≠ 0) :
    (u.arrivePut p len acc).1.np = u.np ∧ (u.arrivePut p len acc).1.pens = u.pens := by
  have hclose {t : State} {o : OpenOp} (ho : o.status ≠ 0) : (t.closePut o).1.np = t.np ∧ (t.closePut o).1.pens = t.pens := by
    unfold State.closePut
    split
    · dsimp only
      split <;> exact ⟨rfl, rfl⟩
    · exact ⟨rfl, rfl⟩
  unfold State.arrivePut
  dsimp only
  rw [if_neg hbad]
  refine hclose ?_
  dsimp only
  split
  · exact hbad
  · assumption

theorem State.arriveGet_refused (hbad : u.acceptOp p ≠ 0) :
    u.arriveGet p = (u, [u.response p 0x12 0 (u.acceptOp p) (pArg1 p) []]) := by
  simp [State.arriveGet, hbad]

theorem State.arriveGet_unmapped (hok : u.acceptOp p = 0) (hmap : u.penMapped (pPen p) (pAddr p) (pArg0 p) = false) :
    u.arriveGet p = (u, [u.response p 0x12 0 0x10 (pArg1 p) []]) := by
  simp [State.arriveGet, hok, hmap]

theorem State.arriveGet_mapped (hok : u.acceptOp p = 0) (hmap : u.penMapped (pPen p) (pAddr p) (pArg0 p) = true) :
    u.arriveGet p = (u.count 16 (pArg0 p), [u.response p 0x12 (if u.penPoisoned (pPen p) (pAddr p) (pArg0 p) then 32 else 0) 0 (pArg1 p)
      (u.penRead (pPen p) (pAddr p) (pArg0 p))]) := by
  simp [State.arriveGet, hok, hmap]

theorem State.arriveAtomic_refused (hbad : u.acceptOp p ≠ 0) :
    u.arriveAtomic p = (u, [u.response p 0x13 0 (u.acceptOp p) 0 []]) := by
  simp [State.arriveAtomic, hbad]

theorem State.arriveAtomic_unmapped (hok : u.acceptOp p = 0) (hmap : u.penMapped (pPen p) (pAddr p) 8 = false) :
    u.arriveAtomic p = (u, [u.response p 0x13 0 0x10 0 []]) := by
  simp [State.arriveAtomic, hok, hmap]

/-- R307: what an ATOMIC leaves once the entries of its line are flushed: the sum, the value exchanged if it compares equal, or the value
swapped. -/
def State.atomicDone (v : State) (p : Packet) : State :=
  let old := leNat (v.penRead (pPen p) (pAddr p) 8)
  let put (n : Nat) : State := v.penWrite .hi .queue (pPen p) (pAddr p) (leBytes 8 n)
  if pSubop p = 0 then put ((old + leField (pPayload p) 0 8) % 2 ^ 64)
  else if pSubop p = 1 then (if old = leField (pPayload p) 0 8 then put (leField (pPayload p) 8 8) else v)
  else put (leField (pPayload p) 0 8)

theorem State.arriveAtomic_mapped (hok : u.acceptOp p = 0) (hmap : u.penMapped (pPen p) (pAddr p) 8 = true) :
    let v := u.penFlush (pPen p) (pAddr p) 8
    u.arriveAtomic p = (v.atomicDone p, [(v.atomicDone p).response p 0x13 (if v.penPoisoned (pPen p) (pAddr p) 8 then 32 else 0) 0 0
      (leBytes 8 (leNat (v.penRead (pPen p) (pAddr p) 8)))]) := by
  rcases hsubop : pSubop p with _ | _ | n
  · simp [State.arriveAtomic, State.atomicDone, hok, hmap, hsubop]
  · by_cases hequal : leNat ((u.penFlush (pPen p) (pAddr p) 8).penRead (pPen p) (pAddr p) 8) = leField (pPayload p) 0 8 <;>
      simp [State.arriveAtomic, State.atomicDone, hok, hmap, hsubop, hequal]
  · simp [State.arriveAtomic, State.atomicDone, hok, hmap, hsubop]

theorem State.arriveSignal_refused (hbad : u.acceptOp p ≠ 0) : u.arriveSignal p =
    (u, [if (pArg1 p).testBit 16 then u.response p 0x13 0 (u.acceptOp p) 0 [] else u.response p 0x10 0 0 (u.acceptOp p) []]) := by
  simp [State.arriveSignal, hbad]

theorem State.arriveSignal_taken (hok : u.acceptOp p = 0) :
    let t := u.addCounter (pPen p) (pArg1 p % 65536) (BitVec.ofNat 64 (pArg0 p))
    u.arriveSignal p = (t, [if (pArg1 p).testBit 16 then t.response p 0x13 0 0 0 (leBytes 8 (t.signalCounter (pPen p) (pArg1 p % 65536)).toNat)
      else t.response p 0x10 0 1 0 []]) := by
  simp [State.arriveSignal, hok]

end Arrivals

/-! ### The rows of requests (R266, R275, R321) -/

theorem State.headPacket_type {s : State} {vc ty : Nat} {x : Nat × Packet} (h : s.headPacket vc ty = some x) : pType x.2 = ty := by
  unfold State.headPacket at h
  split at h
  · split at h
    case isTrue htype => exact Option.some.inj h ▸ htype
    case isFalse => cases h
  · cases h

section Rows

variable {s : State} {x : Nat × Packet}

section Data

variable {vc ty : Nat} {acc : Bool} (hhead : s.headPacket vc ty = some x)
include hhead

theorem State.dataRow_held (hheld : s.putHeld x.2 acc = true) : s.dataRow vc ty acc = s := by
  simp [State.dataRow, hhead, hheld]

theorem State.dataRow_served (hserved : s.putHeld x.2 acc = false) : s.dataRow vc ty acc =
    ((s.takePacket x).arrivePut x.2 (Machine.dataBytes x.2) acc).1.forAll ((s.takePacket x).arrivePut x.2 (Machine.dataBytes x.2) acc).2 State.inject := by
  simp [State.dataRow, hhead, hserved]

end Data

section Request

variable {ty : Nat} (hhead : s.headPacket 0 ty = some x)
include hhead

theorem State.requestRow_held (hheld : s.requestHeld s.qe.held x.2 = true) :
    s.requestRow ty = (s.takePacket x).modQe (fun e => { e with held := e.held ++ [x.2] }) := by
  have hwaits : (s.takePacket x).requestHeld (s.takePacket x).qe.held x.2 = true := hheld
  simp only [State.requestRow, hhead, State.takeRequest, hwaits, if_true]
  rfl

/-- A request that is served with one answer. -/
theorem State.requestRow_served {t : State} {answer : Packet} (hserved : s.requestHeld s.qe.held x.2 = false)
    (hanswer : (s.takePacket x).answerRequest x.2 = (t, [answer])) : s.requestRow ty = t.inject answer := by
  have hgoes : (s.takePacket x).requestHeld (s.takePacket x).qe.held x.2 = false := hserved
  simp only [State.requestRow, hhead, State.takeRequest, hgoes, Bool.false_eq_true, if_false, hanswer]
  rfl

end Request

/-! ### The rows of responses (R310, R316, R318) -/

section Response

variable {ty : Nat} (hhead : s.headPacket 1 ty = some x)
include hhead

theorem State.responseRow_held (hheld : s.landingHeld x.2 = true) : s.responseRow ty = s := by
  simp [State.responseRow, hhead, hheld]

theorem State.responseRow_served (hserved : s.landingHeld x.2 = false) :
    s.responseRow ty = ((s.takePacket x).takeResponse x.2).afterRop (pTag x.2 % 2 ^ 20) := by
  simp [State.responseRow, hhead, hserved]

end Response

theorem State.takeResponse_none (h : s.ropOf (pTag x.2) = none) : s.takeResponse x.2 = s := by
  simp [State.takeResponse, h]

theorem State.takeResponse_ack {r : RopOp} (h : s.ropOf (pTag x.2) = some r) (htype : pType x.2 = 0x10) (hgood : pArg1 x.2 % 256 = 0) :
    s.takeResponse x.2 = s.ropDone r 0 := by
  simp [State.takeResponse, h, htype, hgood]

section Refusal

variable (hhead : s.headPacket 1 0x11 = some x)
include hhead

theorem exec_refusal_operation {r : RopOp} (hrop : s.ropOf (pTag x.2) = some r) : exec .refusal s =
    .next (((s.quiet.takePacket x).takeRefusal r x.2).afterRop r.queue |>.leaderRefused (pSrc x.2) 0 (leField x.2 31 1)) := by
  have hrop' : (s.quiet.takePacket x).ropOf (pTag x.2) = some r := hrop
  change execRefusal s = _
  simp only [execRefusal, State.quiet_headPacket, hhead, hrop']
  rfl

theorem exec_refusal_other (hrop : s.ropOf (pTag x.2) = none) : exec .refusal s =
    .next ((s.quiet.takePacket x).leaderRefused (pSrc x.2) (leField x.2 8 1) (leField x.2 31 1)) := by
  have hrop' : (s.quiet.takePacket x).ropOf (pTag x.2) = none := hrop
  change execRefusal s = _
  simp only [execRefusal, State.quiet_headPacket, hhead, hrop']
  rfl

end Refusal

/-- R316: the first refusal of a fragment, of a route that has changed since. -/
theorem State.takeRefusal_again {r : RopOp} (hstatus : leField x.2 31 1 = 2) (hroute : r.epoch ≠ s.fab.routeEpoch)
    (hfrag : r.frags[refusedIndex r x.2]? = some .inFlight) : s.takeRefusal r x.2 =
    (s.modRop r (fun y => { y with frags := y.frags.set (refusedIndex r x.2) .refused })).modQueue r.queue (fun q => { q with
      routeHold := true }) := by
  simp [State.takeRefusal, hstatus, refusalStatus, hroute, hfrag]

theorem State.takeRefusal_fails {r : RopOp} (hlast : r.epoch = s.fab.routeEpoch ∨ r.frags[refusedIndex r x.2]? ≠ some .inFlight ∨
    refusalStatus (leField x.2 31 1) ≠ 0x15) : s.takeRefusal r x.2 = s.ropFail r (refusalStatus (leField x.2 31 1)) := by
  unfold State.takeRefusal
  dsimp only
  rw [if_neg]
  simp only [Bool.and_eq_true, decide_eq_true_eq, bne_iff_ne]
  rintro ⟨⟨hstatus, hroute⟩, hfrag⟩
  rcases hlast with h | h | h
  · exact hroute h
  · exact h hfrag
  · exact h hstatus

theorem refusalStatus_eq (n : Nat) : refusalStatus n =
    if n = 1 then 0x14 else if n = 2 then 0x15 else if n = 3 then 0x07 else if n = 4 then 0x16 else if n = 5 then 0x17 else n := by
  unfold refusalStatus
  split <;> simp_all

theorem State.leaderRefused_plain {src : B16} {status : Nat} (h : status ≠ 5) : s.leaderRefused src 0 status = s := by
  simp [State.leaderRefused, h]

/-! ### The deputy takes over (R332) -/

theorem State.leaderRefused_probe {src : B16} (hsrc : src = s.fab.bellwether) : s.leaderRefused src 1 1 = s.takeOver := by
  simp [State.leaderRefused, hsrc]

theorem State.sendDown_wiring (s : State) (ptype : Nat) (op : List Byte) : (s.sendDown ptype op).wiring = s.wiring :=
  State.forAll_same (fun u _ => u.sendHop_wiring ..) _ _

theorem State.rejoin_wiring (s : State) : s.rejoin.wiring = s.wiring :=
  State.forAll_same (fun _ _ => (State.sendJoin_wiring ..).trans (State.modPen_wiring ..)) _ _

theorem State.takeOver_bellwether (hprobing : s.coord.probing = true) (hdeputy : s.isDeputy = true) :
    s.takeOver.fab.bellwether = s.fab.coord := by
  rw [State.takeOver_promoted hprobing hdeputy]
  exact (congrArg Wiring.bellwether ((State.rejoin_wiring _).trans (State.sendDown_wiring ..))).trans s.promoted_bellwether

end Rows

/-- Settles O58: each clause is what becomes of the packet at the head of its channel. -/
theorem remotePackets : Obligations.RemotePackets := by
  unfold Obligations.RemotePackets
  refine ⟨fun x s hhead => ?_, fun x s hhead => ?_, fun x s hhead => ?_, fun c ty x s hc hhead hheld => ?_, fun x s hhead hserved => ?_,
    fun x s hhead hserved => ?_, fun c ty x s hc hhead => ?_, fun x r s hhead hrop => ?_, fun x s hhead hrop => ?_⟩
  · intro r
    exact ⟨fun hserved => ⟨congrArg Host.Outcome.next (State.dataRow_served hhead hserved), fun hbad => State.arrivePut_refused hbad⟩,
      fun hheld => congrArg Host.Outcome.next (State.dataRow_held hhead hheld)⟩
  · intro r
    exact ⟨fun hserved => ⟨congrArg Host.Outcome.next (State.dataRow_served hhead hserved), fun hbad => State.arrivePut_refused hbad⟩,
      fun hheld => congrArg Host.Outcome.next (State.dataRow_held hhead hheld)⟩
  · have hanswer {r : State × List Packet} (h : (s.quiet.takePacket x).arriveGet x.2 = r) :
        (s.quiet.takePacket x).answerRequest x.2 = r := by
      rw [State.answerRequest, State.headPacket_type hhead]
      exact h
    refine ⟨fun hheld => congrArg Host.Outcome.next (State.requestRow_held hhead hheld), fun hserved => ⟨fun hbad => ?_, fun hok hmap => ?_,
      fun hok hmap => ?_⟩⟩
    · exact congrArg Host.Outcome.next (State.requestRow_served hhead hserved (hanswer (State.arriveGet_refused hbad)))
    · exact congrArg Host.Outcome.next (State.requestRow_served hhead hserved (hanswer (State.arriveGet_unmapped hok hmap)))
    · exact congrArg Host.Outcome.next (State.requestRow_served hhead hserved (hanswer (State.arriveGet_mapped hok hmap)))
  · have hrow : exec c s = .next (s.quiet.requestRow ty) := by
      simp only [List.mem_cons, Prod.mk.injEq, List.not_mem_nil, or_false] at hc
      rcases hc with ⟨rfl, rfl⟩ | ⟨rfl, rfl⟩ <;> rfl
    exact hrow.trans (congrArg Host.Outcome.next (State.requestRow_held hhead hheld))
  · intro u
    have hanswer {r : State × List Packet} (h : u.arriveAtomic x.2 = r) : u.answerRequest x.2 = r := by
      rw [State.answerRequest, State.headPacket_type hhead]
      exact h
    refine ⟨fun hbad => ?_, fun hok hmap => ?_, fun hok hmap => ?_⟩
    · exact congrArg Host.Outcome.next (State.requestRow_served hhead hserved (hanswer (State.arriveAtomic_refused hbad)))
    · exact congrArg Host.Outcome.next (State.requestRow_served hhead hserved (hanswer (State.arriveAtomic_unmapped hok hmap)))
    · exact congrArg Host.Outcome.next (State.requestRow_served hhead hserved (hanswer (State.arriveAtomic_mapped hok hmap)))
  · intro w u
    have hanswer {r : State × List Packet} (h : w.arriveSignal x.2 = r) : w.answerRequest x.2 = r := by
      rw [State.answerRequest, State.headPacket_type hhead]
      exact h
    have htaken (hok : s.acceptOp x.2 = 0) := State.requestRow_served hhead hserved (hanswer (State.arriveSignal_taken (u := w) hok))
    refine ⟨fun hbad => ?_, fun hok hplain => ?_, fun hok hback => ?_⟩
    · exact congrArg Host.Outcome.next (State.requestRow_served hhead hserved (hanswer (State.arriveSignal_refused hbad)))
    · exact congrArg Host.Outcome.next ((htaken hok).trans (congrArg _ (if_neg (Bool.eq_false_iff.1 hplain))))
    · exact congrArg Host.Outcome.next ((htaken hok).trans (congrArg _ (if_pos hback)))
  · have hrow : exec c s = .next (s.quiet.responseRow ty) := by
      simp only [List.mem_cons, Prod.mk.injEq, List.not_mem_nil, or_false] at hc
      rcases hc with ⟨rfl, rfl⟩ | ⟨rfl, rfl⟩ | ⟨rfl, rfl⟩ <;> rfl
    exact ⟨fun hheld => hrow.trans (congrArg Host.Outcome.next (State.responseRow_held hhead hheld)),
      fun hserved => hrow.trans (congrArg Host.Outcome.next (State.responseRow_served hhead hserved)),
      State.takeResponse_none (s := s.quiet.takePacket x),
      fun r hrop hack hgood => State.takeResponse_ack (s := s.quiet.takePacket x) hrop ((State.headPacket_type hhead).trans hack) hgood⟩
  · intro u status i
    have hexec := exec_refusal_operation (s := s) hhead hrop
    refine ⟨fun hstatus hroute hfrag => ?_, fun hlast => ?_⟩
    · have hplain : status ≠ 5 := by omega
      rw [hexec, State.leaderRefused_plain hplain, State.takeRefusal_again (s := s.quiet.takePacket x) hstatus hroute hfrag]
    · have hfails : r.epoch = u.fab.routeEpoch ∨ r.frags[i]? ≠ some .inFlight ∨ refusalStatus status ≠ 0x15 := by
        refine hlast.imp_right (Or.imp_right (fun h => ?_))
        rcases h with h | h | h | h <;> rw [h] <;> decide
      rw [hexec, State.takeRefusal_fails hfails, refusalStatus_eq]
  · intro u
    have hexec := exec_refusal_other (s := s) hhead hrop
    refine ⟨hexec, fun hkind hstatus hsrc hprobing hdeputy => ⟨?_, State.takeOver_bellwether (s := u) hprobing hdeputy⟩⟩
    rw [hexec, hkind, hstatus, State.leaderRefused_probe (s := u) hsrc]

end Sys2Proof.Machine

/-! SUPPORT. Errors of near pasture and live retraining (R245, R249, R270, R271, R273 to R275). -/

namespace Sys2Proof.Machine

/-! ### Uncorrectable sectors (R245, R249, R271) -/

/-- R271: the line is poisoned, and the sector is counted and logged DEFERRED. -/
def State.sectorLost (s : State) (line : Nat) : State :=
  ((s.npPoison line).count 19 1).logFault 8 0x0202 .deferred (npStack line) none (some line)

theorem State.mem_sectorLost_poison (s : State) (line : Nat) : line ∈ (s.sectorLost line).np.poison := by
  rw [State.sectorLost, State.logFault_np, State.count_np]
  simp [State.npPoison]

section Lost

variable {addr : Nat} {s : State} (haddr : addr < nearBytes)
include haddr

theorem exec_npCe : exec (.npCe addr) s = .next (s.quiet.npCe addr) := if_neg (Nat.not_le.2 haddr)

theorem exec_npUe : exec (.npUe addr) s = .next (match (s.quiet.sectorLost (lineOf addr)).nearCopyAt (lineOf addr) with
    | some (p, x) => ((s.quiet.sectorLost (lineOf addr)).poisonTensor p x false).retryAllocs
    | none => match (s.quiet.sectorLost (lineOf addr)).baseAt (lineOf addr) with
      | some n => (s.quiet.sectorLost (lineOf addr)).poisonBase n
      | none => s.quiet.sectorLost (lineOf addr)) :=
  if_neg (Nat.not_le.2 haddr)

theorem exec_npUe_tensor {p : Nat} {x : Tensor} (hcopy : (s.quiet.sectorLost (lineOf addr)).nearCopyAt (lineOf addr) = some (p, x)) :
    exec (.npUe addr) s = .next ((s.quiet.sectorLost (lineOf addr)).poisonTensor p x false).retryAllocs := by
  rw [exec_npUe haddr, hcopy]

theorem exec_npUe_base {n : Nat} (hcopy : (s.quiet.sectorLost (lineOf addr)).nearCopyAt (lineOf addr) = none)
    (hbase : (s.quiet.sectorLost (lineOf addr)).baseAt (lineOf addr) = some n) :
    exec (.npUe addr) s = .next ((s.quiet.sectorLost (lineOf addr)).poisonBase n) := by
  rw [exec_npUe haddr, hcopy, hbase]

theorem exec_npUe_neither (hcopy : (s.quiet.sectorLost (lineOf addr)).nearCopyAt (lineOf addr) = none)
    (hbase : (s.quiet.sectorLost (lineOf addr)).baseAt (lineOf addr) = none) :
    exec (.npUe addr) s = .next (s.quiet.sectorLost (lineOf addr)) := by
  rw [exec_npUe haddr, hcopy, hbase]

end Lost

/-- Settles O47: a corrected sector is counted and logged, and an uncorrectable one goes to the owner of its line. -/
theorem nearPastureErrors : Obligations.NearPastureErrors := by
  unfold Obligations.NearPastureErrors
  exact ⟨fun addr s haddr => exec_npCe haddr, fun addr s haddr => ⟨State.mem_sectorLost_poison .., exec_npUe_neither haddr,
    fun p x => exec_npUe_tensor haddr, fun n => exec_npUe_base haddr⟩⟩

/-! ### The corrected sectors of a group (R273) -/

/-- The group of a number that names none: it is trained at 0 °C and not due. -/
def PcGroup.fresh : PcGroup := { trainedTemp := 0, due := false, corrected := [] }

/-- R273: the corrected sectors of the last 60 s. -/
def PcGroup.recent (g : PcGroup) (now : Nat) : List Nat := g.corrected.filter (fun c => now ≤ c + 60000000000)

/-- R273: `n` sectors of a group, corrected one by one. -/
def PcGroup.correctEach (g : PcGroup) (now : Nat) : Nat → PcGroup
  | 0 => g
  | n + 1 => (g.correctEach now n).correct now 1

theorem PcGroup.correct_one_corrected (g : PcGroup) (now : Nat) : (g.correct now 1).corrected = g.recent now ++ [now] := rfl

theorem PcGroup.correct_one_due (g : PcGroup) (now : Nat) :
    (g.correct now 1).due = true ↔ g.due = true ∨ 1000 < (g.recent now).length + 1 := by
  simp [PcGroup.correct, PcGroup.recent]

/-- The sectors corrected now stay recent. -/
theorem PcGroup.correctEach_recent (g : PcGroup) (now n : Nat) : ((g.correctEach now n).recent now).length = (g.recent now).length + n := by
  induction n with
  | zero => rfl
  | succ n ih =>
    have hkept : (g.correctEach now (n + 1)).recent now = (g.correctEach now n).recent now ++ [now] := by
      rw [PcGroup.recent, PcGroup.correctEach, PcGroup.correct_one_corrected, List.filter_append]
      simp [PcGroup.recent]
    rw [hkept, List.length_append, ih]
    rfl

theorem PcGroup.correctEach_due (g : PcGroup) (now n : Nat) :
    (g.correctEach now n).due = true ↔ g.due = true ∨ (n ≠ 0 ∧ 1000 < (g.recent now).length + n) := by
  induction n with
  | zero => simp [PcGroup.correctEach]
  | succ n ih =>
    rw [PcGroup.correctEach, PcGroup.correct_one_due, ih, PcGroup.correctEach_recent]
    by_cases hdue : g.due = true
    · simp [hdue]
    · simp only [hdue, Bool.false_eq_true, false_or]
      omega

theorem State.npCe_groups (s : State) (a : Nat) :
    (s.npCe a).np.groups = s.np.groups.modify (npGroup a) (fun g => g.correct s.time.clock 1) := by
  rw [State.npCe, State.logFault_np, State.count_np]
  rfl

theorem State.npCe_time (s : State) (a : Nat) : (s.npCe a).time = s.time := by
  rw [State.npCe, State.logFault_time, State.count_time]
  rfl

/-- Sectors of one group reach that group alone. -/
theorem State.npCe_all_groups {s : State} {g : Nat} {l : List Nat} (h : ∀ a ∈ l, npGroup a = g) :
    (s.forAll l State.npCe).np.groups = s.np.groups.modify g (fun x => x.correctEach s.time.clock l.length) := by
  induction l using List.reverseRecOn with
  | nil => exact (List.modify_id ..).symm
  | append_singleton l a ih =>
    have htime : (s.forAll l State.npCe).time = s.time := State.forAll_same State.npCe_time _ _
    have hearlier := ih (fun b hb => h b (List.mem_append_left _ hb))
    rw [State.forAll, List.foldl_append]
    change ((s.forAll l State.npCe).npCe a).np.groups = _
    rw [State.npCe_groups, htime, hearlier, h a (by simp), List.modify_modify_eq, List.length_append]
    rfl

/-- R273: the sectors of the group that the patrol scrub has passed over. -/
def sectorsOf (g : Nat) (sectors : List Nat) : List Nat := sectors.filter (fun a => a < nearBytes && npGroup a = g)

theorem State.patrolScrub_groups (g : Fin 64) (sectors : List Nat) (s : State) :
    (s.quiet.forAll (sectorsOf g sectors) State.npCe).np.groups =
      s.np.groups.modify g (fun x => x.correctEach s.time.clock (sectorsOf g sectors).length) := by
  refine State.npCe_all_groups (s := s.quiet) (fun a ha => ?_)
  have hboth := (List.mem_filter.1 ha).2
  simp only [Bool.and_eq_true, decide_eq_true_eq] at hboth
  exact hboth.2

/-! ### Live retraining (R274) -/

/-- R274: a group that is due, of a stack that is trained and Normal or Warm. -/
def State.mayRetrain (s : State) (g : Nat) : Prop :=
  (s.np.groups.getD g .fresh).due = true ∧ (s.stackAt (g / 8)).trained = true ∧ (s.stackAt (g / 8)).tstate ≤ 1

theorem State.retrainable_some {s : State} {g : Nat} (h : s.retrainable = some g) : g < s.np.groups.length ∧ s.mayRetrain g := by
  unfold State.retrainable at h
  obtain ⟨⟨x, i⟩, hmem, hx⟩ := List.exists_of_findSome?_eq_some h
  obtain ⟨-, hlt, hget⟩ := List.mem_zipIdx hmem
  dsimp only at hx
  split at hx
  case isTrue hdue =>
    obtain rfl := Option.some.inj hx
    simp only [Bool.and_eq_true, decide_eq_true_eq] at hdue
    obtain ⟨⟨hdue, htrained⟩, hcool⟩ := hdue
    have hlen : i < s.np.groups.length := by simpa using hlt
    refine ⟨hlen, ?_, htrained, hcool⟩
    rw [← List.getElem_eq_getD (h := hlen) .fresh]
    simpa [hget] using hdue
  case isFalse => cases hx

theorem State.retrainable_isSome {s : State} {g : Nat} (hlt : g < s.np.groups.length) (h : s.mayRetrain g) : s.retrainable ≠ none := by
  unfold State.retrainable
  rw [Ne, List.findSome?_eq_none_iff]
  intro hnone
  obtain ⟨hdue, htrained, hcool⟩ := h
  have hmem : (s.np.groups[g], g) ∈ s.np.groups.zipIdx := List.mem_zipIdx_iff_getElem?.2 (List.getElem?_eq_getElem hlt)
  rw [← List.getElem_eq_getD (h := hlt) .fresh] at hdue
  have hskip := hnone _ hmem
  simp [hdue, htrained, hcool] at hskip

theorem exec_retrainWindowStart {s : State} {g : Nat} (hidle : s.np.retraining = none)
    (hspaced : ∀ w, s.np.lastWindow = some w → w + 10000000 ≤ s.time.clock) (hgroup : s.retrainable = some g) :
    exec .retrainWindowStart s = .next (s.quiet.modNp (fun n => { n with
      retraining := some g, lastWindow := some s.time.clock, groups := n.groups.modify g (fun x => { x with due := false }) })) := by
  have hgroup' : s.quiet.retrainable = some g := hgroup
  change execRetrainWindowStart s = _
  unfold execRetrainWindowStart
  dsimp only
  rw [hgroup']
  cases hlast : s.np.lastWindow with
  | none =>
    simp only [State.quiet_np, hidle, hlast]
    rfl
  | some w =>
    simp only [State.quiet_np, State.quiet_time, hidle, hlast, hspaced w hlast]
    rfl

/-- Settles O48: the corrections of a group are counted one by one, and a window takes a group that may be retrained. -/
theorem liveRetraining : Obligations.LiveRetraining := by
  unfold Obligations.LiveRetraining
  refine ⟨fun g sectors s hs => ?_, fun g s => rfl, fun s hidle hspaced hs hdue => ?_, fun s g hopen => ?_⟩
  · have hgroups := State.patrolScrub_groups g sectors s
    refine ⟨s.quiet.forAll (sectorsOf g sectors) State.npCe, rfl, (execPatrolScrub_keeps _ rfl).only, fun k _ hk => ?_, ?_⟩
    · rw [hgroups, List.getElem?_modify_ne _ _ (Ne.symm hk)]
    · have hlt : g.val < s.np.groups.length := by
        obtain ⟨-, hlen, -⟩ := hs
        omega
      rw [hgroups, List.getD_eq_getElem?_getD, List.getElem?_modify_eq, List.getD_eq_getElem?_getD, List.getElem?_eq_getElem hlt]
      exact PcGroup.correctEach_due ..
  · obtain ⟨g, hlt, hmay⟩ := hdue
    obtain ⟨-, hlen, -⟩ := hs.np
    obtain ⟨k, hk⟩ := Option.ne_none_iff_exists'.1 (State.retrainable_isSome (hlen ▸ hlt) hmay)
    obtain ⟨hklt, hkdue, -, hkcool⟩ := State.retrainable_some hk
    exact ⟨_, k, exec_retrainWindowStart hidle hspaced hk, hlen ▸ hklt, hkdue, hkcool, rfl⟩
  · change execRetrainWindowEnd s = _
    unfold execRetrainWindowEnd
    dsimp only
    rw [State.quiet_np, hopen]
    rfl

end Sys2Proof.Machine

/-! SUPPORT. The arrival of a far chunk, the choice of a fetch's path and lost needs (R207, R208, R222, R240 to R243). -/

namespace Sys2Proof.Machine

/-! ### A far chunk (R207, R208, R241 to R243) -/

theorem FarChunk.bytes?_isSome_iff {c : FarChunk} : c.bytes?.isSome = true ↔ ∃ b, c = .confirmed b := by
  cases c <;> simp [FarChunk.bytes?]

theorem Fetch.all_confirmed_iff {f : Fetch} :
    f.chunks.all (fun c => c.bytes?.isSome) = true ↔ ∀ c ∈ f.chunks, ∃ b, c = .confirmed b := by
  simp only [List.all_eq_true, FarChunk.bytes?_isSome_iff]

/-- R207: a chunk that passes agrees with its far entry. -/
theorem Tensor.farCheck_of_farPasses {t : Tensor} {copy : FarCopy} {chunk : Nat} {bytes : List Byte}
    (h : t.farPasses copy chunk bytes = true) : t.farCheck chunk = some (BitVec.ofNat 32 (crc32c bytes)) := by
  simp only [Tensor.farPasses, Bool.and_eq_true, beq_iff_eq] at h
  exact h.1.symm

/-- R207, R208: whether a far chunk as it arrived is kept. -/
def Tensor.chunkGood (t : Tensor) (copy : FarCopy) (chunk : Nat) (bytes : List Byte) (poison : Bool) : Bool :=
  !poison && bytes.length = 4096 && t.farPasses copy chunk bytes

theorem Tensor.chunkGood_iff {t : Tensor} {copy : FarCopy} {chunk : Nat} {bytes : List Byte} {poison : Bool} :
    t.chunkGood copy chunk bytes poison = true ↔ poison = false ∧ bytes.length = 4096 ∧ t.farPasses copy chunk bytes = true := by
  simp [Tensor.chunkGood, and_assoc]

/-- R241: the fetch with the bytes of one more chunk. -/
def Fetch.confirm (f : Fetch) (chunk : Nat) (bytes : List Byte) : Fetch :=
  { f with chunks := f.chunks.set chunk (.confirmed bytes) }

/-- R208: the chunk is counted and kept, and the verdicts that it completes are sent. -/
def State.keepChunk (s : State) (h : Nat) (t : Tensor) (g : Fetch) (chunk n : Nat) : State :=
  ((s.quiet.count 20 n).modAny h (fun x => { x with fetch := some g })).sendVerdicts h t g chunk

/-- R207: a far form that is not coded is the near form, and its chunk has its verdict at once. -/
theorem State.keepChunk_bare {s : State} {handle : Word} {t : Tensor} {g : Fetch} {chunk n : Nat} (hcoded : ¬ t.farCoded = true) :
    s.keepChunk handle.toNat t g chunk n =
      ((s.quiet.count 20 n).modAny handle.toNat (fun x => { x with fetch := some g })).sendVerdict { handle := handle, chunk := chunk } true := by
  unfold State.keepChunk State.sendVerdicts
  rw [if_neg hcoded, BitVec.ofNat_toNat, BitVec.setWidth_eq]

/-- R222, R241: whether a chunk kept was the last one of a fetch that still goes on and is to land. -/
def State.lands (v : State) (h : Nat) (t : Tensor) (g : Fetch) : Bool :=
  g.chunks.all (fun c => c.bytes?.isSome) && ((v.any? h).bind Tensor.fetch).isSome && t.run.isNone && (t.res = .far || isBaseHandle h)

theorem State.lands_iff {v : State} {h : Nat} {t : Tensor} {g : Fetch} :
    v.lands h t g = true ↔ (∀ c ∈ g.chunks, ∃ b, c = .confirmed b) ∧ ((v.any? h).bind Tensor.fetch).isSome = true ∧ t.run = none ∧
      (t.res = .far ∨ isBaseHandle h = true) := by
  simp only [State.lands, Bool.and_eq_true, Bool.or_eq_true, Fetch.all_confirmed_iff, decide_eq_true_eq, Option.isNone_iff_eq_none, and_assoc]

section Chunk

variable {handle : Word} {chunk : Nat} {bytes : List Byte} {poison : Bool} {t : Tensor} {f : Fetch} {copy : FarCopy} {s : State}
  (ht : s.any? handle.toNat = some t) (hf : t.fetch = some f) (hissued : f.chunks[chunk]? = some .issued)
include ht hf hissued

theorem exec_farReadComplete (hcopy : t.far = some copy) : exec (.farReadComplete handle chunk bytes poison) s = .next (
    if t.chunkGood copy chunk bytes poison then
      (if (s.keepChunk handle.toNat t (f.confirm chunk bytes) chunk bytes.length).lands handle.toNat t (f.confirm chunk bytes) then
        (s.keepChunk handle.toNat t (f.confirm chunk bytes) chunk bytes.length).landFetch handle.toNat t (f.confirm chunk bytes) copy
      else (s.keepChunk handle.toNat t (f.confirm chunk bytes) chunk bytes.length).endSwitched handle.toNat).retryAllocs.pumpReads
    else ((s.quiet.count 20 bytes.length).farCopyBad handle.toNat chunk (if poison then 2 else 1)).pumpReads) := by
  change execFarReadComplete handle chunk bytes poison s = _
  unfold execFarReadComplete
  dsimp only
  rw [ht]
  dsimp only
  rw [hf, hcopy]
  dsimp only
  rw [hissued]
  refine (if_neg (by simp)).trans ?_
  change (if (!t.chunkGood copy chunk bytes poison) = true then _ else _) = _
  cases t.chunkGood copy chunk bytes poison with
  | false => rfl
  | true => rfl

theorem exec_farReadTimeout : exec (.farReadTimeout handle chunk) s = .next (s.quiet.farCopyBad handle.toNat chunk 4).pumpReads := by
  change execFarReadTimeout handle chunk s = _
  unfold execFarReadTimeout
  rw [ht, Option.bind_some, hf]
  exact if_pos hissued

end Chunk

/-! ### The path of a fetch (R240, R243) -/

theorem State.repredict_switch {h r : Nat} {t : Tensor} {f : Fetch} {s : State} (ht : s.tensor? h = some t) (hf : t.fetch = some f)
    (hnew : f.switched = false) (hrun : t.run = none) (hpen : (s.pen (h / 2 ^ 29)).drained = false)
    (hrecipe : s.predictRecipe t f.deadline = some r) (hlate : ∀ x, s.predictFetch t f.deadline = some x → f.deadline < x ∧ r < x) :
    s.repredict h = (s.modTensor h (fun x => { x with fetch := some { f with
      switched := true, chunks := f.chunks.map (fun c => if c = .waiting then .cancelled else c) } })).startRecipe (h / 2 ^ 29) h f.deadline := by
  unfold State.repredict
  rw [ht]
  dsimp only
  rw [hf]
  dsimp only
  rw [hrecipe, hnew, hrun, hpen]
  cases hfetch : s.predictFetch t f.deadline with
  | none => simp
  | some x =>
    obtain ⟨hmiss, hearlier⟩ := hlate x hfetch
    simp [hmiss, hearlier]

/-- R243: a need whose wait is over and that still has no path fails its pen. -/
theorem exec_needWaitTimeout {handle : Word} {t : Tensor} {s : State} (ht : s.tensor? handle.toNat = some t) (hwaits : t.waitUntil ≠ none)
    (hno : t.needsPath = true ∨ s.stalled t = true) : exec (.needWaitTimeout handle) s =
      .next ((s.quiet.count 24 1).penFault (handle.toNat / 2 ^ 29) 0x81 handle.toNat).retryAllocs := by
  change execNeedWaitTimeout handle s = _
  unfold execNeedWaitTimeout
  rw [ht]
  refine if_pos ?_
  rw [Bool.and_eq_true, Bool.or_eq_true]
  exact ⟨Option.isSome_iff_ne_none.2 hwaits, hno⟩

/-- Settles O49: what a far chunk does as it arrives, by whether it is good and whether the fetch lands with it. -/
theorem farReads : Obligations.FarReads := by
  unfold Obligations.FarReads
  refine ⟨fun handle chunk bytes poison t f copy s => ?_, fun s => rfl, fun h r t f s => State.repredict_switch,
    fun handle t s => exec_needWaitTimeout⟩
  intro h g u v whole ht hf hcopy hissued
  have hverdicts : v = s.keepChunk h t (f.confirm chunk bytes) chunk bytes.length := by
    by_cases hcoded : t.farCoded = true
    · exact if_pos hcoded
    · exact (if_neg hcoded).trans (State.keepChunk_bare hcoded).symm
  have hwhole : v.lands h t g = true ↔ whole := State.lands_iff
  have hexec := exec_farReadComplete (bytes := bytes) (poison := poison) ht hf hissued hcopy
  rw [← hverdicts] at hexec
  clear_value v whole
  refine ⟨fun hpoison hlen hpass => ?_, fun hbad => ?_, Tensor.farCheck_of_farPasses, exec_farReadTimeout ht hf hissued⟩
  · rw [if_pos (Tensor.chunkGood_iff.2 ⟨hpoison, hlen, hpass⟩)] at hexec
    exact ⟨fun hw => hexec.trans (congrArg (fun x : State => Host.Outcome.next x.retryAllocs.pumpReads) (if_pos (hwhole.2 hw))),
      fun hw => hexec.trans (congrArg (fun x : State => Host.Outcome.next x.retryAllocs.pumpReads) (if_neg (mt hwhole.1 hw)))⟩
  · refine hexec.trans (congrArg Host.Outcome.next (if_neg fun hgood => ?_))
    obtain ⟨hpoison, hlen, hpass⟩ := Tensor.chunkGood_iff.1 hgood
    simp [hpoison, hlen, hpass] at hbad

end Sys2Proof.Machine

/-! SUPPORT. Placing a task: the choice of the operator, its room, the half it goes to (R65, R67, R112, R161, R162, R223, R229, R350,
R351). -/

namespace Sys2Proof.Machine

/-! ### Folds and their halves -/

section Folds

variable {s : State} {k j : Nat} {h : Bool}

theorem State.fold_lt (hstate : (s.fold k).state ≠ .off) : k < s.comp.folds.length := by
  by_contra hout
  refine hstate ?_
  rw [State.fold, List.getD_eq_getElem?_getD, List.getElem?_eq_none (Nat.le_of_not_lt hout)]
  rfl

theorem State.modFold_fold_same (hk : k < s.comp.folds.length) (f : Fold → Fold) : (s.modFold k f).fold k = f (s.fold k) := by
  rw [State.fold, State.fold, State.modFold_comp, List.getD_eq_getElem?_getD, List.getD_eq_getElem?_getD, List.getElem?_modify_eq,
    List.getElem?_eq_getElem hk]
  rfl

theorem State.modHalf_half_same (hk : k < s.comp.folds.length) (f : AccHalf → AccHalf) : (s.modHalf k h f).half k h = f (s.half k h) := by
  unfold State.half State.modHalf
  rw [State.modFold_fold_same hk]
  cases h <;> rfl

end Folds

/-! ### The choice of an operator and a half (R112, R162, R350, R351) -/

section Choice

variable {s : State} {o : Op} {i k : Nat} {h : Bool}

theorem State.slotsFor_of_readyTask (hready : s.readyTask o = some i) : s.slotsFor o (o.gangOf i).length = true := by
  unfold State.readyTask at hready
  split at hready
  case isFalse => cases hready
  case isTrue =>
    split at hready
    · cases hready
    · split at hready
      · split at hready
        case isTrue hgo =>
          cases hready
          exact (Bool.and_eq_true _ _ ▸ hgo).2
        case isFalse => cases hready
      · cases hready

/-- R112: the best operator has a ready task. -/
theorem State.readyTask_of_bestOp {rank : Op → List Int} {os : List Op} (hbest : s.bestOp rank os = some (o, i)) :
    s.readyTask o = some i := by
  suffices hall : ∀ x, s.bestOp rank os = some x → s.readyTask x.1 = some x.2 from hall _ hbest
  unfold State.bestOp
  refine List.foldlRecOn (motive := fun (best : Option (Op × Nat)) => ∀ x, best = some x → s.readyTask x.1 = some x.2) os _
    (by simp) ?_
  intro best hkeeps y _ x hx
  cases hready : s.readyTask y with
  | none =>
    rw [hready] at hx
    exact hkeeps x hx
  | some j =>
    rw [hready] at hx
    cases best with
    | none =>
      cases hx
      exact hready
    | some b =>
      dsimp only at hx
      split at hx
      · cases hx
        exact hready
      · exact hkeeps x hx

/-- A fold that keeps its best or takes the next element ends with an element. -/
theorem foldl_pick_mem {α : Type} {f : Option α → α → Option α} (hpick : ∀ best x, f best x = some x ∨ f best x = best) {l : List α} {y : α}
    (hbest : l.foldl f none = some y) : y ∈ l := by
  suffices hall : ∀ z, l.foldl f none = some z → z ∈ l from hall y hbest
  refine List.foldlRecOn (motive := fun best => ∀ z, best = some z → z ∈ l) l f (by simp) ?_
  intro best hkeeps x hx z hz
  rcases hpick best x with htake | hkeep
  · exact Option.some.inj (htake.symm.trans hz) ▸ hx
  · exact hkeeps z (hkeep ▸ hz)

theorem State.preemptible_grazing {x : Nat × Nat × Bool × Nat} (hx : x ∈ s.preemptible) :
    (s.pen (s.half x.2.1 x.2.2.1).pen).grazing = true := by
  obtain ⟨n, -, hn⟩ := List.mem_flatMap.1 hx
  split at hn
  · cases hn
  · obtain ⟨b, -, hb⟩ := List.mem_filterMap.1 hn
    split at hb
    · split at hb
      case isTrue hgrazing =>
        cases hb
        exact hgrazing
      case isFalse => cases hb
    · cases hb

theorem State.freeSlots_free {x : Nat × Nat × Bool} (hx : x ∈ s.freeSlots) :
    (s.fold x.2.1).state = .active ∧ (s.half x.2.1 x.2.2).busy = none := by
  obtain ⟨n, -, hn⟩ := List.mem_filterMap.1 hx
  split at hn
  case h_1 => cases hn
  case h_2 y hslot =>
    obtain ⟨b, hfree, rfl⟩ := Option.map_eq_some_iff.1 hn
    constructor
    · unfold State.slotFold at hslot
      split at hslot
      · cases hslot
      · dsimp only at hslot
        split at hslot
        case isTrue hactive =>
          cases hslot
          exact of_decide_eq_true (Bool.and_eq_true _ _ ▸ hactive).2
        case isFalse => cases hslot
    · unfold State.freeHalf at hfree
      split at hfree
      case isTrue hnone =>
        cases hfree
        exact Option.isNone_iff_eq_none.1 hnone
      case isFalse =>
        split at hfree
        case isTrue hnone =>
          cases hfree
          exact Option.isNone_iff_eq_none.1 hnone
        case isFalse => cases hfree

/-- R162: a task is placed in a free slot. -/
theorem State.mem_freeSlots_of_placeFor {taken : List Nat} (hplace : s.placeFor o i taken = some (k, h)) :
    ∃ n, (n, k, h) ∈ s.freeSlots := by
  unfold State.placeFor at hplace
  extract_lets all home fs onDie at hplace
  have hfree : ∀ x ∈ fs, x ∈ s.freeSlots := by
    intro x hx
    have hall : x ∈ all := by
      by_cases hhome : home = []
      · simpa only [fs, if_pos hhome] using hx
      · simp only [fs, if_neg hhome] at hx
        simp only [home] at hx
        split at hx
        · exact List.mem_of_mem_filter hx
        · cases hx
    exact List.mem_of_mem_filter hall
  split at hplace
  case h_1 x hfind =>
    exact ⟨x.1, Option.some.inj hplace ▸ hfree x (List.mem_of_find?_eq_some hfind)⟩
  case h_2 =>
    obtain ⟨x, hbest, hx⟩ := Option.map_eq_some_iff.1 hplace
    refine ⟨x.1, hx ▸ hfree x (foldl_pick_mem (fun best y => ?_) hbest)⟩
    cases best with
    | none => exact .inl rfl
    | some b => exact ite_eq_or_eq ..

/-- R351: the task that stops is a grazing pen's. -/
theorem State.grazing_of_victimTask {taken : List Nat} (hvictim : s.victimTask taken = some (k, h)) :
    (s.pen (s.half k h).pen).grazing = true := by
  obtain ⟨x, hbest, hx⟩ := Option.map_eq_some_iff.1 hvictim
  have hmem : x ∈ s.preemptible := by
    refine List.mem_of_mem_filter (foldl_pick_mem (fun best y => ?_) hbest)
    cases best with
    | none => exact .inl rfl
    | some b => exact ite_eq_or_eq ..
  obtain ⟨rfl, rfl⟩ := Prod.mk.inj hx
  exact State.preemptible_grazing hmem

end Choice

/-! ### The step (R65, R67, R162, R223, R229) -/

section Step

/-- R67, R223: the room of an operator's outputs before its next task, unless the task is provisional. -/
def State.roomFor (s : State) (o : Op) : State × Bool := if s.openChunks o = [] then s.giveOutputs o else (s, true)

variable {s : State} {o : Op} {i k : Nat} {h : Bool}

theorem State.startTask_eq : s.startTask o i =
    if (s.roomFor o).2 then ((s.roomFor o).1.placeAll (((s.roomFor o).1.op? o.id).getD o) (o.gangOf i) [], true) else s.roomFor o := by
  unfold State.startTask State.roomFor
  by_cases hopen : s.openChunks o = []
  · rw [hopen]
    rfl
  · simp only [bne_iff_ne, hopen, ne_eq, not_false_eq_true, if_true, if_false]

theorem State.startTask_of_room (hroom : (s.roomFor o).2 = true) :
    s.startTask o i = ((s.roomFor o).1.placeAll (((s.roomFor o).1.op? o.id).getD o) (o.gangOf i) [], true) :=
  State.startTask_eq.trans (if_pos hroom)

theorem State.startTask_of_no_room (hroom : (s.roomFor o).2 = false) : s.startTask o i = s.roomFor o :=
  State.startTask_eq.trans (if_neg (Bool.eq_false_iff.1 hroom))

/-- R229: outputs without room wait for it. -/
theorem State.giveOutputs_of_no_room (hroom : (s.giveOutputs o).2 = false) : o.roomed = false ∧
    (s.giveOutputs o).1 = (s.roomOutputs o (s.mayWrite o)).1.forAll (s.mayWrite o) (fun u x => u.setAllocWait x true) := by
  unfold State.giveOutputs at hroom ⊢
  split at hroom
  case isTrue => cases hroom
  case isFalse hroomed =>
    rw [if_neg hroomed]
    dsimp only at hroom ⊢
    split at hroom
    case isTrue => cases hroom
    case isFalse hfull => exact ⟨Bool.eq_false_iff.2 hroomed, congrArg Prod.fst (if_neg hfull)⟩

theorem State.roomFor_of_no_room (hroom : (s.roomFor o).2 = false) : o.roomed = false ∧
    (s.roomFor o).1 = (s.roomOutputs o (s.mayWrite o)).1.forAll (s.mayWrite o) (fun u x => u.setAllocWait x true) := by
  unfold State.roomFor at hroom ⊢
  split at hroom
  case isTrue hopen =>
    rw [if_pos hopen]
    exact State.giveOutputs_of_no_room hroom
  case isFalse => cases hroom

/-- R65: a task with provisional chunks does not have its inputs at hand. -/
theorem State.inputsHere_of_openChunks (hopen : s.openChunks o ≠ []) : s.inputsHere o = false := by
  obtain ⟨c, hc⟩ := List.exists_mem_of_ne_nil _ hopen
  obtain ⟨x, hread, hx⟩ := List.mem_flatMap.1 hc
  refine List.all_eq_false.2 ⟨x, hread, ?_⟩
  split at hx
  case h_1 => cases hx
  case h_2 t ht =>
    rw [ht]
    split at hx
    case h_1 hfar _ => simp [Tensor.readable, hfar]
    case h_2 => cases hx

/-- R59, R60, R65: a half as a task takes it. -/
def AccHalf.takenBy (x : AccHalf) (o : Op) (i : Nat) (prov : List ChunkId) (now : Nat) : AccHalf :=
  { AccHalf.idle with busy := some (o.id, i), pen := o.pen, prov := prov, lastPen := some o.pen
                      acc := if x.lastPen = some o.pen then x.acc else [], started := now }

/-- R154: the chain slots in use with one more. -/
def takeChain (chain : Option Nat) (l : List Nat) : List Nat := match chain with
  | some n => if l.contains n then l else l ++ [n]
  | none => l

/-- R59, R60, R65: the task has its half, and not its tiles yet. -/
def State.occupy (s : State) (o : Op) (i k : Nat) (h : Bool) (chain : Option Nat) : State :=
  ((s.modHalf k h (fun x => x.takenBy o i (s.openChunks o) s.time.clock)).modOp o.id (fun x => { x with
    tasks := x.tasks.modify i (fun y => { y with phase := .running, chain := chain, fold := some k }) })).modComp (fun c => { c with
      chains := takeChain chain c.chains, lastGrazing := if (s.pen o.pen).grazing then o.pen else c.lastGrazing })

theorem State.occupy_half {chain : Option Nat} (hk : k < s.comp.folds.length) :
    (s.occupy o i k h chain).half k h = (s.half k h).takenBy o i (s.openChunks o) s.time.clock :=
  State.modHalf_half_same hk (fun x => x.takenBy o i (s.openChunks o) s.time.clock)

/-- R58, R65: a task with provisional chunks is placed without its tiles. -/
theorem State.place_eq_occupy {t : Task} (htask : o.tasks[i]? = some t) (hopen : s.openChunks o ≠ []) :
    s.place o i k h = s.occupy o i k h (s.chainFor o t) := by
  have hhere : (s.occupy o i k h (s.chainFor o t)).inputsHere o = false := State.inputsHere_of_openChunks hopen
  have hkeep : (s.occupy o i k h (s.chainFor o t)).takeInputs k h o t = s.occupy o i k h (s.chainFor o t) := by
    unfold State.takeInputs
    rw [hhere, Bool.not_false, Bool.or_true]
    rfl
  refine Eq.trans ?_ hkeep
  unfold State.place
  rw [htask]
  dsimp only
  rw [if_neg hopen]
  rfl

theorem State.place_of_openChunks (htask : o.tasks[i]? ≠ none) (hopen : s.openChunks o ≠ []) (hk : k < s.comp.folds.length) :
    ((s.place o i k h).half k h).busy = some (o.id, i) ∧ ((s.place o i k h).half k h).pen = o.pen ∧
      ((s.place o i k h).half k h).prov = s.openChunks o ∧ (s.place o i k h).np = s.np := by
  obtain ⟨t, ht⟩ := Option.ne_none_iff_exists'.1 htask
  rw [State.place_eq_occupy ht hopen, State.occupy_half hk]
  exact ⟨rfl, rfl, rfl, rfl⟩

theorem State.preempt_np : (s.preempt k h).np = s.np := State.preempt_keeps.only.same .np (by decide)

end Step

/-! ### The statement -/

theorem exec_taskIssue (s : State) :
    exec .taskIssue s = .next (s.quiet.serveNeeds.startNext (s.quiet.serveNeeds.comp.ops.length + 1)) := rfl

theorem State.startNext_succ {s : State} {o : Op} {i : Nat} (hstart : s.nextStart = some (o, i)) (n : Nat) :
    s.startNext (n + 1) = if (s.startTask o i).2 then (s.startTask o i).1 else (s.startTask o i).1.startNext n := by
  rw [State.startNext, hstart]

theorem State.startNext_of_none {s : State} (hstart : s.nextStart = none) (n : Nat) : s.startNext n = s := by
  cases n with
  | zero => rfl
  | succ n => rw [State.startNext, hstart]

theorem State.nextStart_of_best {s : State} {x : Op × Nat} (hbest : s.bestOp s.opRank (s.opsOf false) = some x ∨
    (s.bestOp s.opRank (s.opsOf false) = none ∧ s.bestOp s.grazingRank (s.opsOf true) = some x)) : s.nextStart = some x := by
  unfold State.nextStart
  rcases hbest with hprimary | ⟨hnone, hgrazing⟩
  · rw [hprimary]
  · rw [hnone]
    exact hgrazing

theorem State.readyTask_of_nextStart {s : State} {o : Op} {i : Nat} (hstart : s.nextStart = some (o, i)) : s.readyTask o = some i := by
  unfold State.nextStart at hstart
  split at hstart
  case h_1 hbest => exact State.readyTask_of_bestOp (hbest.trans hstart)
  case h_2 => exact State.readyTask_of_bestOp hstart

/-- An operator found under its own number is found again. -/
theorem State.op?_getD_id (s : State) (o : Op) : (s.op? ((s.op? o.id).getD o).id).getD ((s.op? o.id).getD o) = (s.op? o.id).getD o := by
  cases hfound : s.op? o.id with
  | none => simp [hfound]
  | some x =>
    have hid : x.id = o.id := by simpa using List.find?_some hfound
    simp [hid, hfound]

section Alone

variable {s : State} {o : Op} {i k : Nat} {h : Bool} (hop : (s.op? o.id).getD o = o)
include hop

theorem State.placeAll_of_placeFor (hplace : s.placeFor o i [] = some (k, h)) : s.placeAll o [i] [] = s.place o i k h := by
  rw [State.placeAll, hplace]
  dsimp only
  rw [State.placeAll, hop]

theorem State.placeAll_of_victimTask (hplace : s.placeFor o i [] = none) (hpen : (s.pen o.pen).grazing = false)
    (hvictim : s.victimTask [] = some (k, h)) : s.placeAll o [i] [] = (s.preempt k h).place o i k h := by
  rw [State.placeAll, hplace]
  dsimp only
  rw [hpen, hvictim]
  dsimp only
  rw [State.placeAll, hop]
  rfl

end Alone

theorem State.placeAll_of_none {s : State} {o : Op} {i : Nat} (hplace : s.placeFor o i [] = none)
    (hfull : (s.pen o.pen).grazing = true ∨ s.victimTask [] = none) : s.placeAll o [i] [] = s := by
  rw [State.placeAll, hplace]
  rcases hfull with hpen | hnone
  · exact if_pos hpen
  · dsimp only
    rw [hnone]
    exact ite_self _

/-- Settles O40: the first operator by rank starts its task, or waits for its room. -/
theorem taskPlacement : Obligations.TaskPlacement := by
  unfold Obligations.TaskPlacement
  intro o i s t room u o1 hbest
  have hstart : t.nextStart = some (o, i) := State.nextStart_of_best hbest
  have hexec : exec .taskIssue s = .next (t.startNext (t.comp.ops.length + 1)) := exec_taskIssue s
  rw [State.startNext_succ hstart] at hexec
  have hroomFor : t.roomFor o = room := rfl
  have hu : room.1 = u := rfl
  have hop : (u.op? o1.id).getD o1 = o1 := State.op?_getD_id u o
  have ho1 : (u.op? o.id).getD o = o1 := rfl
  clear_value t room u o1
  refine ⟨State.slotsFor_of_readyTask (State.readyTask_of_nextStart hstart), fun hroom => ?_, fun hroom => ?_, fun hroom halone => ?_⟩
  · obtain ⟨hroomed, hwait⟩ := State.roomFor_of_no_room (hroomFor ▸ hroom)
    have hnext : exec .taskIssue s = .next (u.startNext t.comp.ops.length) := by
      rw [hexec, State.startTask_of_no_room (hroomFor ▸ hroom), hroomFor, if_neg (Bool.eq_false_iff.1 hroom), hu]
    exact ⟨hroomed, by rw [← hu, ← hroomFor, hwait], hnext, fun hnone => by rw [hnext, State.startNext_of_none hnone]⟩
  · rw [hexec, State.startTask_of_room (hroomFor ▸ hroom), hroomFor, hu, ho1, if_pos rfl]
  · have hplaced : exec .taskIssue s = .next (u.placeAll o1 [i] []) := by
      rw [hexec, State.startTask_of_room (hroomFor ▸ hroom), hroomFor, hu, ho1, halone, if_pos rfl]
    refine ⟨fun k h hplace => ?_, fun k h hplace hpen hvictim => ?_, fun hplace hfull => ?_⟩
    · obtain ⟨n, hmem⟩ := State.mem_freeSlots_of_placeFor hplace
      obtain ⟨hactive, hfree⟩ := State.freeSlots_free hmem
      have hk : k < u.comp.folds.length := State.fold_lt (by rw [hactive]; decide)
      exact ⟨by rw [hplaced, State.placeAll_of_placeFor hop hplace], hactive, hfree,
        fun htask hopen => State.place_of_openChunks htask hopen hk⟩
    · exact ⟨by rw [hplaced, State.placeAll_of_victimTask hop hplace hpen hvictim], State.grazing_of_victimTask hvictim, State.preempt_np⟩
    · rw [hplaced, State.placeAll_of_none hplace hfull]

end Sys2Proof.Machine

/-! SUPPORT. What ends tasks leaves every Fold in its state and puts none into a half, and opens the takeovers only once no task is in
flight (R69, R75, R77, R81): the operations of a Fold's failure one by one. -/

namespace Sys2Proof.Machine

/-! ### Folds whose tasks can only end -/

/-- R77: every Fold keeps its state, no half gets a task, and a takeover opens only when no task is in flight. -/
structure State.Settles (s t : State) : Prop where
  length : t.comp.folds.length = s.comp.folds.length
  state : ∀ k, (t.fold k).state = (s.fold k).state
  busy : ∀ k h, (s.half k h).busy = none → (t.half k h).busy = none
  due : ∀ k, (t.fold k).dueTakeover = true → (s.fold k).dueTakeover = true ∨ t.foldsIdle = true

theorem State.foldsIdle_iff {s : State} : s.foldsIdle = true ↔ ∀ k h, (s.half k h).busy = none := by
  unfold State.foldsIdle
  simp only [List.all_eq_true, Bool.and_eq_true, Option.isNone_iff_eq_none]
  constructor
  · intro hidle k h
    rcases Nat.lt_or_ge k s.comp.folds.length with hk | hk
    · obtain ⟨h0, h1⟩ := hidle _ (List.getElem_mem hk)
      rw [List.getElem_eq_getD .off] at h0 h1
      cases h with
      | false => exact h0
      | true => exact h1
    · have hoff : s.fold k = .off := by rw [State.fold, List.getD_eq_getElem?_getD, List.getElem?_eq_none hk]; rfl
      cases h <;> (unfold State.half; rw [hoff]; rfl)
  · intro hnone f hf
    obtain ⟨k, hk, rfl⟩ := List.getElem_of_mem hf
    rw [List.getElem_eq_getD .off]
    exact ⟨hnone k false, hnone k true⟩

namespace State.Settles

variable {s t u : State}

theorem of_folds (h : t.comp.folds = s.comp.folds) : Settles s t := by
  have hfold (k : Nat) : t.fold k = s.fold k := congrArg (fun l => l.getD k Fold.off) h
  have hhalf (k : Nat) (b : Bool) : t.half k b = s.half k b := by
    unfold State.half
    rw [hfold]
  exact ⟨congrArg _ h, fun k => congrArg _ (hfold k), fun k b hb => (congrArg _ (hhalf k b)).trans hb,
    fun k hk => .inl ((congrArg _ (hfold k)).symm.trans hk)⟩

protected theorem rfl : Settles s s := of_folds (Eq.refl _)

theorem idle (h : Settles s t) (hidle : s.foldsIdle = true) : t.foldsIdle = true :=
  State.foldsIdle_iff.2 (fun k b => h.busy k b (State.foldsIdle_iff.1 hidle k b))

theorem trans (h : Settles s t) (k : Settles t u) : Settles s u :=
  ⟨k.length.trans h.length, fun j => (k.state j).trans (h.state j), fun j b hb => k.busy j b (h.busy j b hb),
    fun j hj => (k.due j hj).elim (fun ht => (h.due j ht).imp id k.idle) .inr⟩

/-- The last of several operations first. -/
theorem after (k : Settles t u) (h : Settles s t) : Settles s u := h.trans k

theorem forAll {α : Type} {f : State → α → State} (hf : ∀ v x, Settles v (f v x)) (s : State) (l : List α) : Settles s (s.forAll l f) := by
  induction l generalizing s with
  | nil => exact .rfl
  | cons x l ih => exact (hf s x).trans (ih (f s x))

theorem ite {p : Prop} [Decidable p] (ht : Settles s t) (hu : Settles s u) : Settles s (if p then t else u) := by
  split
  · exact ht
  · exact hu

end State.Settles

theorem Keeps.settles {cs : List Area} {s t : State} (h : Keeps cs s t) (hc : Area.comp ∉ cs) : s.Settles t :=
  .of_folds (congrArg Compute.folds (h.only.same .comp hc))

/-! ### Boundaries, halves and operators (R69, R77, R81) -/

section Boundary

variable (s : State)

theorem State.modComp_settles {f : Compute → Compute} (hf : (f s.comp).folds = s.comp.folds) : s.Settles (s.modComp f) := .of_folds hf

theorem State.modPen_settles (k : Nat) (f : Pen → Pen) : s.Settles (s.modPen k f) := .of_folds rfl

theorem State.modOp_settles (id : Nat) (f : Op → Op) : s.Settles (s.modOp id f) := .of_folds rfl

/-- R77, R81: a Fold that has failed may be taken over. -/
def Fold.openTakeover (f : Fold) : Fold := if f.state = .failed then { f with dueTakeover := true } else f

theorem Fold.openTakeover_eq (f : Fold) : f.openTakeover = f ∨ f.openTakeover = { f with dueTakeover := true } :=
  (ite_eq_or_eq ..).symm

theorem State.layerBoundary_folds : s.layerBoundary.comp.folds = s.comp.folds ∨
    s.layerBoundary.comp.folds = s.comp.folds.map Fold.openTakeover := by
  unfold State.layerBoundary
  split
  · exact .inl rfl
  · exact .inr rfl

/-- A map over the Folds that keeps an unpowered one acts on each. -/
theorem State.fold_of_map {s t : State} {f : Fold → Fold} (hoff : f .off = .off) (h : t.comp.folds = s.comp.folds.map f) (k : Nat) :
    t.fold k = f (s.fold k) := by
  rw [State.fold, State.fold, h, List.getD_eq_getElem?_getD, List.getD_eq_getElem?_getD, List.getElem?_map]
  cases s.comp.folds[k]? with
  | none => exact hoff.symm
  | some x => rfl

theorem State.idleBoundary_settles : s.Settles s.idleBoundary := by
  unfold State.idleBoundary
  split
  case isFalse => exact .rfl
  case isTrue hidle =>
    rcases s.layerBoundary_folds with hsame | hmap
    · exact .of_folds hsame
    · have hfold := State.fold_of_map rfl hmap
      have hhalf (k : Nat) (h : Bool) : s.layerBoundary.half k h = s.half k h := by
        unfold State.half
        rcases (s.fold k).openTakeover_eq with hopen | hopen <;> rw [hfold, hopen]
      have hbusy (k : Nat) (h : Bool) (hb : (s.half k h).busy = none) : (s.layerBoundary.half k h).busy = none :=
        (congrArg _ (hhalf k h)).trans hb
      refine ⟨by rw [hmap, List.length_map], fun k => ?_, hbusy,
        fun k _ => .inr (State.foldsIdle_iff.2 (fun j h => hbusy j h (State.foldsIdle_iff.1 hidle j h)))⟩
      rcases (s.fold k).openTakeover_eq with hopen | hopen <;> rw [hfold, hopen]

theorem State.modFold_fold_or (k j : Nat) (f : Fold → Fold) : (s.modFold k f).fold j = f (s.fold j) ∨ (s.modFold k f).fold j = s.fold j := by
  rw [State.fold, State.fold, State.modFold_comp, List.getD_eq_getElem?_getD, List.getD_eq_getElem?_getD, List.getElem?_modify]
  cases s.comp.folds[j]? with
  | none => exact .inr (by split <;> rfl)
  | some x =>
    split
    · exact .inl rfl
    · exact .inr rfl

/-- A half zeroed ends its task. -/
theorem State.zeroed_settles (k : Nat) (h : Bool) : s.Settles (s.modHalf k h AccHalf.zeroed) := by
  have hfold (j : Nat) : (s.modHalf k h AccHalf.zeroed).fold j = (if h then { s.fold j with half1 := (s.fold j).half1.zeroed }
      else { s.fold j with half0 := (s.fold j).half0.zeroed }) ∨ (s.modHalf k h AccHalf.zeroed).fold j = s.fold j := s.modFold_fold_or ..
  refine ⟨List.length_modify .., fun j => ?state, fun j b hb => ?busy, fun j hj => .inl ?due⟩
  case state => rcases hfold j with hj | hj <;> rw [hj]; cases h <;> rfl
  case busy =>
    unfold State.half at hb ⊢
    rcases hfold j with hj | hj <;> rw [hj]
    · cases h with
      | false =>
        cases b with
        | false => rfl
        | true => exact hb
      | true =>
        cases b with
        | false => exact hb
        | true => rfl
    · exact hb
  case due =>
    rcases hfold j with heq | heq <;> rw [heq] at hj
    · cases h <;> exact hj
    · exact hj

theorem State.discardTask_settles (k : Nat) (h : Bool) (failed : Option Nat) : s.Settles (s.discardTask k h failed) := by
  unfold State.discardTask
  split
  · exact .rfl
  · exact (((s.zeroed_settles k h).trans (State.modOp_settles ..)).trans (State.count_keeps.settles (by decide))).trans
      (State.idleBoundary_settles _)

theorem State.removeOp_settles (o : Op) : s.Settles (s.removeOp o) := by
  unfold State.removeOp
  exact .after (State.idleBoundary_settles _) (.after (State.modComp_settles _ (by rfl))
    (.forAll (fun v (x : Nat × Bool) => v.zeroed_settles x.1 x.2) _ _))

theorem State.endFaulted_settles (o : Op) (code flags : Nat) : s.Settles (s.endFaulted o code flags) := by
  unfold State.endFaulted
  exact .ite (s.removeOp_settles o) ((s.removeOp_settles o).trans (State.completeOn_keeps.settles (by decide)))

end Boundary

/-! ### Copies and recipe runs (R229, R231, R251) -/

section Copies

variable (s : State)

theorem State.unstage_settles (h : Nat) : s.Settles (s.unstage h) := .of_folds rfl

theorem State.freeCopies_settles (pen : Nat) (t : Tensor) : s.Settles (s.freeCopies pen t) := by
  unfold State.freeCopies
  exact ((State.freeRoom_keeps.settles (by decide)).trans (State.unstage_settles ..)).trans (State.modTensor_keeps.settles (by decide))

theorem State.dropNear_settles (pen : Nat) (t : Tensor) : s.Settles (s.dropNear pen t) := by
  unfold State.dropNear
  exact ((State.freeRoom_keeps.settles (by decide)).trans (State.unstage_settles ..)).trans (State.modTensor_keeps.settles (by decide))

theorem State.freeScratch_settles (pen : Nat) (r : List (List Byte)) : s.Settles (s.freeScratch pen r) := by
  unfold State.freeScratch
  refine State.Settles.forAll (fun v x => ?_) _ _
  split
  · exact v.freeCopies_settles pen _
  · exact .rfl

theorem State.abandonRun_settles (h : Nat) : s.Settles (s.abandonRun h) := by
  unfold State.abandonRun
  split
  · exact .rfl
  next t _ =>
    split
    · have hended : s.Settles (((s.forAll (s.comp.ops.filter (fun o => o.recipeFor = some (BitVec.ofNat 32 h))) State.removeOp).freeScratch
          (h / 2 ^ 29) t.recipe).modTensor h (fun x => { x with run := none })) :=
        ((State.Settles.forAll (fun v o => v.removeOp_settles o) _ _).trans (State.freeScratch_settles ..)).trans
          (State.modTensor_keeps.settles (by decide))
      exact .ite (hended.trans (State.endSwitched_keeps.settles (by decide))) (hended.trans (State.freeIdleRoom_keeps.settles (by decide)))
    · exact .rfl

theorem State.droverAbort_settles (pen : Nat) : s.Settles (s.droverAbort pen) := by
  unfold State.droverAbort State.droverQuiesce State.abandonRecipes
  exact .after (State.cancelFetches_keeps.settles (by decide)) (.after (State.modPen_settles ..)
    (.forAll (fun v h => v.abandonRun_settles h) _ _))

theorem State.penFault_settles (pen code info : Nat) : s.Settles (s.penFault pen code info) := by
  unfold State.penFault
  refine .ite ?_ .rfl
  have hended (v : State) (o : Op) : v.Settles ((if o.partial' then v.spoil o else v).endFaulted o (code % 256) 0) :=
    .after (State.endFaulted_settles ..) (.ite (State.spoil_keeps.settles (by decide)) .rfl)
  refine .after (State.faultNotice_keeps.settles (by decide)) (.after (State.endWaits_keeps.settles (by decide))
    (.after (State.dropRops_keeps.settles (by decide)) (.after (State.abandonEncodes_keeps.settles (by decide))
      (.after (State.droverAbort_settles ..) (.after (.forAll hended _ _) ?_)))))
  exact .ite (.after (State.logFault_keeps.settles (by decide)) (State.modPen_settles ..))
    (.after (State.healthEvent_keeps.settles (by decide)) (.after (State.logFault_keeps.settles (by decide)) (State.modPen_settles ..)))

end Copies

/-! ### Room, fetches and recipes (R223, R229, R240) -/

section Room

variable (s : State)

theorem State.makeRoom_settles (r : AllocReq) (n : Nat) : s.Settles (s.makeRoom r n).1 := by
  induction n generalizing s with
  | zero => exact .rfl
  | succ n ih =>
    unfold State.makeRoom
    split
    · exact .rfl
    · split
      · exact .rfl
      · split
        · exact (State.dropNear_settles ..).trans (ih _)
        · exact .rfl

theorem State.allocate_settles (pen : Nat) (t : Tensor) (prefetch : Bool) (deadline : Nat) : s.Settles (s.allocate pen t prefetch deadline).1 := by
  unfold State.allocate
  split
  · exact .rfl
  · dsimp only
    split
    · exact .rfl
    · split
      · split
        next hroom =>
          exact .after (State.modTensor_keeps.settles (by decide)) (.after ((State.takeRoom_keeps hroom).settles (by decide)) (s.makeRoom_settles ..))
        · exact s.makeRoom_settles ..
      · exact s.makeRoom_settles ..

theorem State.roomOutput_settles (o : Op) (h : Nat) : s.Settles (s.roomOutput o h).1 := by
  unfold State.roomOutput
  split
  · exact .rfl
  · split
    · exact .rfl
    · exact s.allocate_settles ..

theorem State.roomOutputs_settles (o : Op) (l : List Nat) : s.Settles (s.roomOutputs o l).1 := by
  induction l generalizing s with
  | nil => exact .rfl
  | cons h l ih =>
    unfold State.roomOutputs
    dsimp only
    split
    · exact (s.roomOutput_settles o h).trans (ih _)
    · exact s.roomOutput_settles o h

theorem State.startFetch_settles (pen h deadline : Nat) (prefetch : Bool) : s.Settles (s.startFetch pen h deadline prefetch) := by
  unfold State.startFetch
  split
  · exact .rfl
  · exact .ite ((s.allocate_settles ..).trans (State.beginFetch_keeps.settles (by decide)))
      ((s.allocate_settles ..).trans (State.setAllocWait_keeps.settles (by decide)))

theorem State.planFor_folds {s u : State} {d : List Byte} {x : Plan} (h : s.planFor d = some (x, u)) : u.comp.folds = s.comp.folds := by
  simp only [State.planFor] at h
  repeat' split at h
  all_goals simp only [Option.some.injEq, Prod.mk.injEq, reduceCtorEq] at h
  all_goals
    obtain ⟨-, rfl⟩ := h
    rw [State.count_comp]
    rfl

theorem State.tasksFor_folds (d : List Byte) : (s.tasksFor d).2.2.comp.folds = s.comp.folds := by
  unfold State.tasksFor
  split
  · split
    next hplan _ _ _ => exact State.planFor_folds hplan
    · rfl
  · split
    next hplan _ _ _ => exact State.planFor_folds hplan
    · rfl
  all_goals rfl

theorem State.newOp_settles (pen queue : Nat) (index : Word) (d : List Byte) (waits : List Nat) (recipe : Option Word) :
    s.Settles (s.newOp pen queue index d waits recipe) := .of_folds (s.tasksFor_folds d)

theorem State.runDescriptor_settles (pen h i : Nat) : s.Settles (s.runDescriptor pen h i) := by
  unfold State.runDescriptor
  split
  · exact .rfl
  · split
    · exact State.modTensor_keeps.settles (by decide)
    · exact (s.newOp_settles ..).trans (State.modTensor_keeps.settles (by decide))

theorem State.startRecipe_settles (pen h deadline : Nat) : s.Settles (s.startRecipe pen h deadline) := by
  unfold State.startRecipe
  exact ((s.runDescriptor_settles ..).trans (State.modTensor_keeps.settles (by decide))).trans (State.count_keeps.settles (by decide))

theorem State.takePath_settles (pen h deadline : Nat) (prefetch : Bool) : s.Settles (s.takePath pen h deadline prefetch) := by
  unfold State.takePath
  split
  · exact .rfl
  · split
    · exact State.hasten_keeps.settles (by decide)
    · dsimp only
      split
      · exact s.startFetch_settles ..
      · exact s.startRecipe_settles ..
      · exact .ite (s.penFault_settles ..) (.ite (State.hasten_keeps.settles (by decide)) (State.modTensor_keeps.settles (by decide)))

theorem State.retryAlloc_settles (h : Nat) : s.Settles (s.retryAlloc h) := by
  unfold State.retryAlloc
  split
  · exact .rfl
  · refine .ite .rfl ?_
    split
    next o _ =>
      have hroom := s.roomOutputs_settles o (s.mayWrite o)
      exact .ite ((hroom.trans (.forAll (fun v x => State.setAllocWait_keeps.settles (by decide)) _ _)).trans (State.modOp_settles ..)) hroom
    · exact .ite (.ite ((s.allocate_settles ..).trans (State.setAllocWait_keeps.settles (by decide))) (s.allocate_settles ..))
        (.ite (s.takePath_settles ..) (State.setAllocWait_keeps.settles (by decide)))

theorem State.retryAllocs_settles : s.Settles s.retryAllocs := .forAll (fun v _ => v.retryAlloc_settles _) s _

end Room

/-! ### The tasks of a Fold that fails (R75) -/

section Failure

variable (s : State)

theorem State.openOutput_settles (o : Op) (h : Nat) : s.Settles (s.openOutput o h) := by
  unfold State.openOutput
  split
  · exact .rfl
  · refine .ite .rfl ?_
    dsimp only
    have hopened (f : Tensor → Tensor) : s.Settles ((s.rejectOpen h).modTensor h f) :=
      .after (State.modTensor_keeps.settles (by decide)) (State.rejectOpen_keeps.settles (by decide))
    exact .ite (.after (State.abandonRun_settles ..) (hopened _)) (.ite (.after (State.abandonRun_settles ..) (hopened _))
      (.after (State.abandonRun_settles ..) (.after (State.modTensor_keeps.settles (by decide))
        (.after (State.becomeNear_keeps.settles (by decide)) (hopened _)))))

theorem State.openOutputs_settles (o : Op) : s.Settles (s.openOutputs o) := by
  unfold State.openOutputs
  exact .ite .rfl ((State.Settles.forAll (fun v h => v.openOutput_settles o h) _ _).trans (State.modOp_settles ..))

theorem State.applyEffect_settles (pen op : Nat) (e : Effect) : s.Settles (s.applyEffect pen op e) := by
  cases e with
  | store a bs => exact State.penWrite_keeps.settles (by decide)
  | scale a bs => exact State.penWrite_keeps.settles (by decide)
  | acc a bf w => exact State.penAcc_keeps.settles (by decide)
  | stage r e v => exact State.modOp_settles ..
  | plane a bs => exact State.npWrite_keeps.settles (by decide)

theorem State.releaseEffects_settles (o : Op) (es : List Effect) : s.Settles (s.releaseEffects o es) := by
  unfold State.releaseEffects
  dsimp only
  generalize es.filter (s.keepsEffect o) = kept
  have hstored : s.Settles ((((s.exposed o).forAll kept (fun u e => u.applyEffect o.pen o.id e)).npFlushSource .fold).touchStores o.pen
      (kept.filterMap Effect.span)) := .after (State.touchStores_keeps.settles (by decide)) (.after (State.npFlushSource_keeps.settles (by decide))
        (.after (.forAll (fun v e => v.applyEffect_settles o.pen o.id e) _ _) (State.exposed_keeps.settles (by decide))))
  exact .ite (.after (State.pagesAs_keeps.settles (by decide)) hstored) hstored

theorem State.failHalf_settles (k : Nat) (h : Bool) (gone : Nat) : s.Settles (s.failHalf k h gone) := by
  unfold State.failHalf
  split
  · exact .rfl
  · split
    · exact .rfl
    next o _ =>
      have hleft (es : List Effect) (i : Nat) : s.Settles (if es = [] then s else ((s.keepUndo o i es).openOutputs o).releaseEffects o es) :=
        .ite .rfl (.after (State.releaseEffects_settles ..) (.after (State.openOutputs_settles ..) (.of_folds rfl)))
      exact .ite (.after (State.penFault_settles ..) (.after (State.spoil_keeps.settles (by decide)) (hleft _ _)))
        (.after (State.discardTask_settles ..) (hleft _ _))

end Failure

/-! ### A Fold fails (R57, R74, R75, R79) -/

section Fails

variable {k : Nat} {s : State}

/-- R75: a Fold that fails is FAILED with both halves empty; its takeover is open only if no task is in flight. -/
theorem State.foldFails_active (code : Nat) (pen : Option Nat) (g0 g1 : Nat) (hactive : (s.fold k).state = .active) :
    ((s.foldFails k code pen g0 g1).fold k).state = .failed ∧ ((s.foldFails k code pen g0 g1).half k false).busy = none ∧
      ((s.foldFails k code pen g0 g1).half k true).busy = none ∧
      ((s.foldFails k code pen g0 g1).foldsIdle = false → ((s.foldFails k code pen g0 g1).fold k).dueTakeover = false) := by
  unfold State.foldFails
  rw [hactive]
  dsimp only
  generalize hended : ((((s.foldLog k code .uncontained pen (pen.getD 0)).ownWrite (.retire k)).failHalf k false g0).failHalf k true g1) = u
  have hu : s.Settles u := hended ▸ .after (State.failHalf_settles ..) (.after (State.failHalf_settles ..)
    (.after (State.ownWrite_keeps.settles (by decide)) (State.foldLog_keeps.settles (by decide))))
  have hk : k < u.comp.folds.length := hu.length ▸ State.fold_lt (by rw [hactive]; decide)
  generalize hfailed : u.modFold k (fun f => { f with state := .failed, half0 := f.half0.zeroed, half1 := f.half1.zeroed, dueTakeover := false }) = v
  have hv : v.fold k = { u.fold k with state := .failed, half0 := (u.fold k).half0.zeroed, half1 := (u.fold k).half1.zeroed, dueTakeover := false } :=
    hfailed ▸ State.modFold_fold_same hk _
  have ht : v.Settles v.idleBoundary.retryAllocs := .after (State.retryAllocs_settles _) (State.idleBoundary_settles _)
  have hhalf (h : Bool) : (v.half k h).busy = none := by
    unfold State.half
    rw [hv]
    cases h <;> rfl
  refine ⟨(ht.state k).trans (congrArg _ hv), ht.busy k false (hhalf false), ht.busy k true (hhalf true), fun hbusy => ?_⟩
  refine Bool.eq_false_iff.2 (fun hdue => ?_)
  rcases ht.due k hdue with hold | hidle
  · rw [hv] at hold
    cases hold
  · rw [hbusy] at hidle
    cases hidle

theorem State.foldFails_spare (code : Nat) (pen : Option Nat) (g0 g1 : Nat) (hspare : (s.fold k).state = .spare) :
    s.foldFails k code pen g0 g1 = s.retireSpare k := by
  unfold State.foldFails
  rw [hspare]

theorem State.retireSpare_fold (hspare : (s.fold k).state = .spare) : ((s.retireSpare k).fold k).state = .retired := by
  have hlogged : (s.modFold k (fun _ => { Fold.off with state := .retired })).Settles (s.retireSpare k) :=
    .after (State.ownWrite_keeps.settles (by decide)) (State.foldLog_keeps.settles (by decide))
  rw [hlogged.state, State.modFold_fold_same (State.fold_lt (by rw [hspare]; decide))]

theorem exec_foldTaskTimeout {k : Fin 136} {h : Bool} {g0 g1 : Nat} (hbusy : (s.half k h).busy ≠ none) :
    exec (.foldTaskTimeout k h g0 g1) s = .next (s.quiet.foldFails k 0x0104 (some (s.half k h).pen) g0 g1) :=
  if_pos (Option.isSome_iff_ne_none.2 hbusy)

/-- R57, R74: each of the three conditions fails the Fold. -/
theorem exec_foldFails {k : Fin 136} {c : Instr} (hc : (∃ g0 g1, c = .foldBufferUe k g0 g1) ∨ (∃ g0 g1, c = .foldParity k g0 g1) ∨
    ∃ h g0 g1, c = .foldTaskTimeout k h g0 g1 ∧ (s.half k h).busy ≠ none) :
    ∃ code pen g0 g1, exec c s = .next (s.quiet.foldFails k code pen g0 g1) := by
  rcases hc with ⟨g0, g1, rfl⟩ | ⟨g0, g1, rfl⟩ | ⟨h, g0, g1, rfl, hbusy⟩
  · exact ⟨_, _, g0, g1, rfl⟩
  · exact ⟨_, _, g0, g1, rfl⟩
  · exact ⟨_, _, g0, g1, exec_foldTaskTimeout hbusy⟩

theorem exec_foldBufferCe {k : Fin 136} {b : Fin 4} (hstate : (s.fold k).state = .active ∨ (s.fold k).state = .spare ∨ (s.fold k).state = .failed) :
    exec (.foldBufferCe k b) s = .next (s.quiet.logFault (k / 34) 0x0101 .corrected (k % 34) none none b) := by
  change execFoldBufferCe k b s = _
  unfold execFoldBufferCe
  rcases hstate with hstate | hstate | hstate <;> (rw [hstate]; rfl)

end Fails

/-! ### Spares (R77 to R79, R81) -/

section Spares

variable {n k : Nat} {s : State} (hslot : s.takeoverSlot = some n)
include hslot

theorem exec_spareTakeover_empty (bad : Bool) (hnone : s.spareOf (n / 32) = none) : exec (.spareTakeover bad) s =
    .next ((s.quiet.retireFold (34 * (n / 32) + (s.comp.slots.getD n { phys := 0, active := false, takeovers := 0 }).phys)).modFoldSlot n
      (fun x => { x with active := false })) := by
  change execSpareTakeover bad s = _
  unfold execSpareTakeover
  rw [hslot]
  dsimp only
  rw [hnone]
  rfl

theorem exec_spareTakeover_good (hsome : s.spareOf (n / 32) = some k) : exec (.spareTakeover false) s =
    .next (((s.quiet.retireFold (34 * (n / 32) + (s.comp.slots.getD n { phys := 0, active := false, takeovers := 0 }).phys)).modFold
      (34 * (n / 32) + k) (fun _ => { Fold.off with state := .active })).modFoldSlot n
        (fun x => { x with phys := k, takeovers := satInc x.takeovers 255 })) := by
  change execSpareTakeover false s = _
  unfold execSpareTakeover
  rw [hslot]
  dsimp only
  rw [hsome]
  rfl

theorem exec_spareTakeover_bad (hsome : s.spareOf (n / 32) = some k) : exec (.spareTakeover true) s =
    .next (((s.quiet.retireFold (34 * (n / 32) + k)).ownWrite (.retire (34 * (n / 32) + k))).modFold
      (34 * (n / 32) + (s.comp.slots.getD n { phys := 0, active := false, takeovers := 0 }).phys) (fun f => { f with dueTakeover := false })) := by
  change execSpareTakeover true s = _
  unfold execSpareTakeover
  rw [hslot]
  dsimp only
  rw [hsome]
  rfl

end Spares

theorem State.spareOf_some {s : State} {die k : Nat} (h : s.spareOf die = some k) : (s.fold (34 * die + k)).state = .spare ∧ k < 34 :=
  ⟨by simpa using List.find?_some h, List.mem_range.1 (List.mem_of_find?_eq_some h)⟩

theorem exec_spareSelftest_pass (k : Fin 136) (s : State) : exec (.spareSelftest k true) s = .next s.quiet :=
  if_neg (by simp)

theorem exec_spareSelftest_fail {k : Fin 136} {s : State} (hspare : (s.fold k).state = .spare) :
    exec (.spareSelftest k false) s = .next (s.quiet.retireSpare k) := if_pos (by simp [hspare])

/-! ### Hub faults (R296, R490) -/

section Hub

/-- R359: after its fault a pen is in no state that runs. -/
theorem State.penFault_faultable_same (s : State) (p code info : Nat) : ((s.penFault p code info).pen p).state.faultable = false := by
  rw [State.pen_state_eq, State.penFault_penStates]
  split
  case isTrue hfault =>
    rw [List.getD_eq_getElem?_getD, List.getElem?_modify_eq, List.getElem?_eq_getElem (State.lt_of_faultable hfault)]
    rfl
  case isFalse hsafe =>
    rw [← State.pen_state_eq]
    exact Bool.eq_false_iff.2 hsafe

theorem State.leaveJob_ready (s : State) (p : Nat) : s.leaveJob true p = s.penFault p 0x87 0 := if_neg (by simp)

/-- R490: once each of the first pens has been left, none of them runs. -/
theorem State.forAll_leaveJob_faultable (s : State) (n : Nat) :
    ∀ k < n, ((s.forAll (List.range n) (fun t p => t.leaveJob true p)).pen k).state.faultable = false := by
  induction n with
  | zero => exact fun k hk => absurd hk (Nat.not_lt_zero k)
  | succ n ih =>
    intro k hk
    rw [State.forAll, List.range_succ, List.foldl_append]
    rcases Nat.lt_succ_iff_lt_or_eq.1 hk with hlt | rfl
    · exact (congrArg PenState.faultable (State.leaveJob_ne _ true (Nat.ne_of_gt hlt))).trans (ih k hlt)
    · exact (congrArg (fun t : State => (t.pen k).state.faultable) (State.leaveJob_ready ..)).trans (State.penFault_faultable_same ..)

/-- R439: stage 5 falls to 4. -/
theorem State.leaveFive_boot (t : State) : (if t.boot.stage = 5 then t.setStage 4 else t).boot.stage ≠ 5 ∧
    (if t.boot.stage = 5 then t.setStage 4 else t).boot.hubFaulted = t.boot.hubFaulted := by
  split
  · simp
  next hstage => exact ⟨hstage, rfl⟩

theorem State.leaveFull_boot (s : State) : s.leaveFull.boot.stage ≠ 5 ∧ s.leaveFull.boot.hubFaulted = s.boot.hubFaulted := by
  unfold State.leaveFull
  split
  · exact State.leaveFive_boot _
  · exact State.leaveFive_boot _

theorem State.enterTransitOnly_boot (s : State) (ready : Bool) :
    (s.enterTransitOnly ready).boot = (s.modFab (fun f => { f with transitOnly := true })).leaveFull.boot := by
  refine State.forAll_same (g := State.boot) (fun t p => ?_) _ _
  split
  · rfl
  · exact State.penFault_keeps.only.same .boot (by decide)

/-- R490: the transit-only mode that a hub fault enters. -/
def State.hubLeaves (s : State) : State := (s.modBoot (fun b => { b with hubFaulted := true })).enterTransitOnly true

/-- R490: the notices of a hub fault change neither the states of the pens, nor the stage, nor the wiring. -/
theorem State.hubFault_notices (s : State) :
    s.hubFault.penStates = s.hubLeaves.penStates ∧ s.hubFault.boot = s.hubLeaves.boot ∧ s.hubFault.wiring = s.hubLeaves.wiring :=
  ⟨State.forAll_same (fun t p => t.faultNotice_penStates p 0xFF _) _ _,
    State.forAll_same (g := State.boot) (fun t p => State.faultNotice_keeps.only.same .boot (by decide)) _ _,
    State.forAll_same (fun t p => t.faultNotice_wiring p 0xFF _) _ _⟩

theorem State.hubLeaves_faultable (s : State) : ∀ p < 8, (s.hubLeaves.pen p).state.faultable = false := by
  unfold State.hubLeaves State.enterTransitOnly
  exact State.forAll_leaveJob_faultable _ 8

theorem State.hubFault_out (s : State) : s.hubFault.boot.hubFaulted = true ∧ s.hubFault.fab.transitOnly = true ∧ s.hubFault.boot.stage ≠ 5 ∧
    ∀ p < 8, (s.hubFault.pen p).state.faultable = false := by
  obtain ⟨hpens, hboot, hwiring⟩ := s.hubFault_notices
  obtain ⟨hstage, hfaulted⟩ := ((s.modBoot (fun b => { b with hubFaulted := true })).modFab (fun f => { f with transitOnly := true })).leaveFull_boot
  refine ⟨?_, ?_, ?_, fun p hp => ?_⟩
  · rw [hboot, State.hubLeaves, State.enterTransitOnly_boot, hfaulted]
    rfl
  · rw [← State.wiring_transitOnly, hwiring, State.hubLeaves, State.enterTransitOnly_wiring]
  · rw [hboot, State.hubLeaves, State.enterTransitOnly_boot]
    exact hstage
  · rw [State.pen_state_eq, hpens, ← State.pen_state_eq]
    exact s.hubLeaves_faultable p hp

end Hub

/-- R488, R490: each uncontained hub error is logged in its bank and takes the hub out. -/
theorem exec_hubError {c : Instr} {bank code unit : Nat} (s : State)
    (hc : (∃ u : Fin 7, c = .hubEcc u ∧ bank = 6 ∧ code = 0x0A01 ∧ unit = u) ∨
      (∃ u : Fin 5, c = .droveRoadUe u ∧ bank = 14 ∧ code = 0x0B02 ∧ unit = 16 + u) ∨
      (∃ u : Fin 16, c = .commonsUe u ∧ bank = 14 ∧ code = 0x0B04 ∧ unit = u) ∨ (c = .cometSramUe ∧ bank = 4 ∧ code = 0x0C01 ∧ unit = 0)) :
    exec c s = .next (s.quiet.logFault bank code .uncontained unit).hubFault := by
  rcases hc with ⟨u, rfl, rfl, rfl, rfl⟩ | ⟨u, rfl, rfl, rfl, rfl⟩ | ⟨u, rfl, rfl, rfl, rfl⟩ | ⟨rfl, rfl, rfl, rfl⟩ <;> rfl

/-- Settles O42: what a failing Fold's operations leave of every Fold, and what a hub fault leaves of the pens. -/
theorem hardwareErrors : Obligations.HardwareErrors := by
  unfold Obligations.HardwareErrors
  refine ⟨fun k b s => exec_foldBufferCe, fun c k s hc => ?fold, fun n bad s hslot => ?takeover, exec_spareSelftest_pass,
    fun k s => exec_spareSelftest_fail, fun u s => rfl, fun c bank code unit s hc => ?hub⟩
  case fold =>
    obtain ⟨code, pen, g0, g1, hexec⟩ := exec_foldFails hc
    refine ⟨fun hactive => ⟨_, hexec, State.foldFails_active code pen g0 g1 hactive⟩, fun hspare => ⟨?_, State.retireSpare_fold hspare⟩⟩
    rw [hexec, State.foldFails_spare (s := s.quiet) code pen g0 g1 hspare]
  case takeover =>
    refine ⟨exec_spareTakeover_empty hslot bad, fun k hsome => ?_⟩
    obtain ⟨hspare, hk⟩ := State.spareOf_some hsome
    exact ⟨hspare, hk, exec_spareTakeover_good hslot hsome, exec_spareTakeover_bad hslot hsome⟩
  case hub =>
    exact ⟨_, exec_hubError s hc, rfl, State.hubFault_out _⟩

end Sys2Proof.Machine

/-! SUPPORT. What near pasture's service leaves alone: the stacks (R266), and pens that have faulted (R359).  Operation by operation, from
the lines of near pasture up to all that goes on once a stack serves again (R266, R275). -/

namespace Sys2Proof.Machine

/-! ### Stacks and faulted pens -/

/-- R266, R359: the stacks are as they were, and a pen that has faulted stays so. -/
structure State.Steady (s t : State) : Prop where
  same : t.np.stackList = s.np.stackList
  faulted : ∀ k, (s.pen k).state = .faulted → (t.pen k).state = .faulted

namespace State.Steady

variable {s t u : State}

theorem of_eq (hn : t.np.stackList = s.np.stackList) (hp : t.penStates = s.penStates) : Steady s t :=
  ⟨hn, fun k hk => by rw [State.pen_state_eq, hp, ← State.pen_state_eq, hk]⟩

protected theorem rfl : Steady s s := ⟨Eq.refl _, fun _ => id⟩

theorem trans (h : Steady s t) (k : Steady t u) : Steady s u := ⟨k.same.trans h.same, fun j hj => k.faulted j (h.faulted j hj)⟩

/-- The last of several operations first. -/
theorem after (k : Steady t u) (h : Steady s t) : Steady s u := h.trans k

theorem forAll {α : Type} {f : State → α → State} (hf : ∀ v x, Steady v (f v x)) (s : State) (l : List α) : Steady s (s.forAll l f) := by
  induction l generalizing s with
  | nil => exact .rfl
  | cons x l ih => exact (hf s x).trans (ih (f s x))

theorem ite {p : Prop} [Decidable p] (ht : Steady s t) (hu : Steady s u) : Steady s (if p then t else u) := by
  split
  · exact ht
  · exact hu

theorem modNp {f : NearMem → NearMem} (hf : (f s.np).stackList = s.np.stackList) : Steady s (s.modNp f) := of_eq hf (Eq.refl _)

theorem modPen {k : Nat} {f : Pen → Pen} (hf : ∀ x, (f x).state = x.state) : Steady s (s.modPen k f) :=
  of_eq (Eq.refl _) (State.modPen_penStates_same hf)

/-- R359: a pen faults. -/
theorem fault (k : Nat) : Steady s (s.modPen k (fun p => { p with state := .faulted })) := by
  refine ⟨Eq.refl _, fun j hj => ?_⟩
  rw [State.pen_state_eq, State.modPen_penStates (g := fun _ => .faulted) (fun _ => Eq.refl _), List.getD_eq_getElem?_getD, List.getElem?_modify]
  rw [State.pen_state_eq, List.getD_eq_getElem?_getD] at hj
  cases hpen : s.penStates[j]? with
  | none => rw [hpen] at hj; cases hj
  | some x =>
    rw [hpen] at hj
    by_cases hkj : k = j
    · simp [hkj]
    · simpa [hkj] using hj

/-- R256 to R261: work of the hub. -/
theorem of_hubWork {cs : List Area} (h : HubWork s t) (k : Keeps cs s t) (hp : Area.pens ∉ cs) : Steady s t :=
  of_eq h.near.1 (k.penStates hp)

end State.Steady

theorem Keeps.steady {cs : List Area} {s t : State} (h : Keeps cs s t) (hc : Area.np ∉ cs ∧ Area.pens ∉ cs) : s.Steady t :=
  .of_eq (congrArg NearMem.stackList (h.only.same .np hc.1)) (h.penStates hc.2)

/-- What does not touch near pasture and keeps the states of the pens. -/
theorem Keeps.steady_of_penStates {cs : List Area} {s t : State} (h : Keeps cs s t) (hn : Area.np ∉ cs) (hp : t.penStates = s.penStates) :
    s.Steady t := .of_eq (congrArg NearMem.stackList (h.only.same .np hn)) hp

/-! ### Near pasture (R256 to R276) -/

section Near

variable (s : State)

theorem State.npDrop_steady (line : Nat) : s.Steady (s.npDrop line) := .modNp rfl

theorem State.npHold_steady (kind : NpKind) (src : NpSource) (cls : NpClass) : s.Steady (s.npHold kind src cls) := .modNp rfl

theorem State.npApply_steady (r : NpReq) : s.Steady (s.npApply r) := .of_hubWork (s.npApply_hubWork r) State.npApply_keeps (by decide)

theorem State.npAdd_steady (cls : NpClass) (t d : Bool) (a : Nat) (ys : List (Option Word)) : s.Steady (s.npAdd cls t d a ys) :=
  .of_hubWork (s.npAdd_hubWork cls t d a ys) State.npAdd_keeps (by decide)

theorem State.npSettle_steady (line : Nat) (all : Bool) (n : Nat) : s.Steady (s.npSettle line all n) :=
  .of_hubWork (s.npSettle_hubWork line all n) State.npSettle_keeps (by decide)

theorem State.npFlushNow_steady (line : Nat) (cls : Option NpClass) : s.Steady (s.npFlushNow line cls) :=
  .of_hubWork (s.npFlushNow_hubWork line cls) State.npFlushNow_keeps (by decide)

theorem State.npFlush_steady (line : Nat) (cls : Option NpClass) : s.Steady (s.npFlush line cls) :=
  .of_hubWork (s.npFlush_hubWork line cls) State.npFlush_keeps (by decide)

theorem State.npFlushSource_steady (src : NpSource) : s.Steady (s.npFlushSource src) :=
  .of_hubWork (s.npFlushSource_hubWork src) State.npFlushSource_keeps (by decide)

theorem State.npWriteLine_steady (cls : NpClass) (src : NpSource) (a : Nat) (bs : List Byte) : s.Steady (s.npWriteLine cls src a bs) :=
  .of_hubWork (s.npWriteLine_hubWork cls src a bs) State.npWriteLine_keeps (by decide)

theorem State.penWrite_steady (cls : NpClass) (src : NpSource) (pen a : Nat) (bs : List Byte) : s.Steady (s.penWrite cls src pen a bs) :=
  .of_hubWork (s.penWrite_hubWork cls src pen a bs) State.penWrite_keeps (by decide)

theorem State.npWrite_steady (cls : NpClass) (src : NpSource) (a : Nat) (bs : List Byte) : s.Steady (s.npWrite cls src a bs) :=
  .forAll (fun v (x : Nat × List Byte) => v.npWriteLine_steady cls src x.1 x.2) s _

theorem State.npAccLine_steady (cls : NpClass) (src : NpSource) (t d : Bool) (a : Nat) (ys : List (Option Word)) :
    s.Steady (s.npAccLine cls src t d a ys) := by
  unfold State.npAccLine
  have hentry : s.Steady (s.npHoldEntry (lineOf a)) := by
    unfold State.npHoldEntry
    split
    · exact .after (State.npHold_steady ..) (s.npDrop_steady _)
    · exact .rfl
  exact .ite (.after (State.npHold_steady ..) hentry)
    (.after (State.npAdd_steady ..) (.after (State.npFlushNow_steady ..) (s.npSettle_steady ..)))

theorem State.penAcc_steady (cls : NpClass) (src : NpSource) (t d : Bool) (pen a : Nat) (ys : List (Option Word)) :
    s.Steady (s.penAcc cls src t d pen a ys) := by
  refine .forAll (fun v x => ?_) s _
  split
  · exact v.npAccLine_steady ..
  · exact .rfl

theorem State.npPoison_steady (line : Nat) : s.Steady (s.npPoison line) := .modNp rfl

theorem State.poisonRange_steady (pen a len : Nat) : s.Steady (s.poisonRange pen a len) := by
  refine .forAll (fun v l => ?_) s _
  split
  · exact .after (State.npPoison_steady ..) (.after (State.npFlushNow_steady ..) (v.npSettle_steady ..))
  · exact .rfl

theorem State.penFlush_steady (pen a len : Nat) : s.Steady (s.penFlush pen a len) := by
  refine .forAll (fun v l => ?_) s _
  split
  · exact v.npFlushNow_steady ..
  · exact .rfl

theorem State.npLoosen_steady (a len : Nat) : s.Steady (s.npLoosen a len) := by
  unfold State.npLoosen
  exact .ite .rfl (.after (State.spend_keeps.steady (by decide)) (.modNp rfl))

theorem State.penLoosen_steady (pen a len : Nat) : s.Steady (s.penLoosen pen a len) := by
  unfold State.penLoosen
  refine .ite .rfl (.forAll (fun v p => ?_) s _)
  dsimp only
  split
  · exact v.npLoosen_steady ..
  · exact .rfl

theorem State.loosenRoom_steady (t : Tensor) (room : List (Nat × Nat)) : s.Steady (s.loosenRoom t room) :=
  .forAll (fun v _ => v.npLoosen_steady _ _) s _

theorem State.npFlushDue_steady : s.Steady s.npFlushDue := .forAll (fun v (e : WcEntry) => v.npFlush_steady e.line e.due) s _

theorem State.npServeRead_steady (src : NpSource) (a len : Nat) : s.Steady (s.npServeRead src a len) :=
  .after (State.emit_keeps.steady (by decide)) (.after (State.count_keeps.steady (by decide)) (.ite (s.npFlushNow_steady ..) .rfl))

theorem State.npServe_steady (r : NpReq) : s.Steady (s.npServe r) := by
  have hleave (v : State) : v.Steady (v.modNp (fun n => { n with waiting := n.waiting.erase r })) := .modNp rfl
  have hwrite (all : Bool) : s.Steady (((s.npSettle (lineOf r.kind.addr) all (s.np.waiting.idxOf r)).modNp (fun n =>
      { n with waiting := n.waiting.erase r })).npApply r) := .after (State.npApply_steady ..) (.after (hleave _) (s.npSettle_steady ..))
  unfold State.npServe
  refine .ite ?_ .rfl
  split
  · exact .after (State.npServeRead_steady ..) (hleave s)
  · exact hleave s
  · exact hwrite _
  · exact hwrite _
  · exact hwrite _

theorem State.npServeWaiting_steady : s.Steady s.npServeWaiting :=
  .after (State.npFlushDue_steady _) (.forAll (fun v r => v.npServe_steady r) s _)

end Near

/-! ### Tensors and their copies (R220 to R251) -/

section Tensors

variable (s : State)

theorem State.modTensor_steady (h : Nat) (f : Tensor → Tensor) : s.Steady (s.modTensor h f) :=
  State.modTensor_keeps.steady_of_penStates (by decide) (s.modTensor_penStates h f)

theorem State.modAny_steady (h : Nat) (f : Tensor → Tensor) : s.Steady (s.modAny h f) :=
  State.modAny_keeps.steady_of_penStates (by decide) (s.modAny_penStates h f)

theorem State.setAllocWait_steady (h : Nat) (b : Bool) : s.Steady (s.setAllocWait h b) := s.modTensor_steady ..

theorem State.hasten_steady (h deadline : Nat) : s.Steady (s.hasten h deadline) := s.modTensor_steady ..

theorem State.useTensor_steady (h : Nat) : s.Steady (s.useTensor h) := s.modTensor_steady ..

theorem State.addCounter_steady (pen id : Nat) (n : DWord) : s.Steady (s.addCounter pen id n) := .modPen (fun _ => rfl)

theorem State.pagesAs_steady (pen : Nat) (old : State) : s.Steady (s.pagesAs pen old) := .modPen (fun _ => rfl)

theorem State.mapRoom_steady (pen h : Nat) : s.Steady (s.mapRoom pen h) := by
  unfold State.mapRoom
  split
  · exact .rfl
  · exact .modPen (fun _ => rfl)

theorem State.exposed_steady (o : Op) : s.Steady (s.exposed o) := by
  unfold State.exposed
  split
  · exact s.mapRoom_steady ..
  · exact .rfl

theorem State.touchTable_steady (pen h : Nat) (spans : List (Nat × Nat)) : s.Steady (s.touchTable pen h spans) := by
  unfold State.touchTable
  split
  · exact .rfl
  · exact s.modTensor_steady ..

theorem State.touchStores_steady (pen : Nat) (spans : List (Nat × Nat)) : s.Steady (s.touchStores pen spans) := by
  refine .forAll (fun v t => ?_) s _
  split
  · exact .rfl
  · exact v.touchTable_steady ..

theorem State.freeRoom_steady (pen : Nat) (t : Tensor) : s.Steady (s.freeRoom pen t) :=
  State.freeRoom_keeps.steady_of_penStates (by decide) (s.freeRoom_penStates pen t)

theorem State.freeIdleRoom_steady (pen h : Nat) : s.Steady (s.freeIdleRoom pen h) :=
  State.freeIdleRoom_keeps.steady_of_penStates (by decide) (s.freeIdleRoom_penStates pen h)

theorem State.freeCopies_steady (pen : Nat) (t : Tensor) : s.Steady (s.freeCopies pen t) :=
  State.freeCopies_keeps.steady_of_penStates (by decide) (s.freeCopies_penStates pen t)

theorem State.dropNear_steady (pen : Nat) (t : Tensor) : s.Steady (s.dropNear pen t) := by
  unfold State.dropNear
  exact .after (State.modTensor_steady ..) (.after (State.unstage_keeps.steady (by decide)) (s.freeRoom_steady ..))

theorem State.endFetch_steady (pen h : Nat) : s.Steady (s.endFetch pen h) := by
  unfold State.endFetch
  split
  · exact .rfl
  · exact .ite (.after (State.freeIdleRoom_steady ..) (.after (State.modTensor_steady ..) (State.rejectOpen_keeps.steady (by decide)))) .rfl

theorem State.buryTensor_steady (h : Nat) : s.Steady (s.buryTensor h) := by
  unfold State.buryTensor
  split
  · exact .rfl
  · exact .ite (.after (State.modTensor_steady ..) (.after (State.freeCopies_steady ..) (s.endFetch_steady ..))) .rfl

theorem State.beginWriteBehind_steady (pen h : Nat) (stripe : List Nat) (retry : Bool) : s.Steady (s.beginWriteBehind pen h stripe retry) := by
  unfold State.beginWriteBehind
  split
  · exact .rfl
  · refine .ite (s.modTensor_steady ..) (.ite .rfl ?_)
    split
    · exact .rfl
    · exact .after (State.modTensor_steady ..) (.after (State.writeFar_keeps.steady (by decide)) (State.count_keeps.steady (by decide)))

theorem State.resumeWriteBehind_steady (h : Nat) : s.Steady (s.resumeWriteBehind h) := by
  unfold State.resumeWriteBehind
  split
  · exact .rfl
  · split
    · exact .ite (s.beginWriteBehind_steady ..) (s.modTensor_steady ..)
    · exact .rfl

theorem State.idleTensor_steady (h : Nat) : s.Steady (s.idleTensor h) := by
  unfold State.idleTensor
  dsimp only
  split
  · exact s.buryTensor_steady h
  · exact .ite (.after (State.beginWriteBehind_steady ..) (s.buryTensor_steady h)) (s.buryTensor_steady h)

theorem State.freeDead_steady (it : Itinerary) (k : Nat) : s.Steady (s.freeDead it k) := by
  unfold State.freeDead
  split
  · exact .rfl
  · exact .forAll (fun v _ => .after (State.buryTensor_steady ..) (v.modTensor_steady ..)) s _

theorem State.sweepReleased_steady : s.Steady s.sweepReleased := by
  refine .forAll (fun v x => ?_) s _
  split
  · exact .after (.modPen (fun _ => rfl)) (v.freeCopies_steady ..)
  · exact .rfl

theorem State.issueChunk_steady (h c : Nat) : s.Steady (s.issueChunk h c) := by
  unfold State.issueChunk
  split
  · exact .rfl
  · split
    · exact .ite (.after (State.modAny_steady ..) (State.emit_keeps.steady (by decide))) .rfl
    · exact .rfl

theorem State.pumpReads_steady : s.Steady s.pumpReads := by
  refine .forAll (fun v h => ?_) s _
  split
  · exact .forAll (fun w c => w.issueChunk_steady h c) v _
  · exact .rfl

theorem State.beginFetch_steady (h deadline : Nat) : s.Steady (s.beginFetch h deadline) := by
  unfold State.beginFetch
  split
  · exact .rfl
  · split
    · exact .rfl
    · exact .after (State.pumpReads_steady _) (.after (State.count_keeps.steady (by decide)) (s.modAny_steady ..))

theorem State.makeRoom_steady (r : AllocReq) (n : Nat) : s.Steady (s.makeRoom r n).1 := by
  induction n generalizing s with
  | zero => exact .rfl
  | succ n ih =>
    unfold State.makeRoom
    split
    · exact .rfl
    · split
      · exact .rfl
      · split
        · exact (State.dropNear_steady ..).trans (ih _)
        · exact .rfl

theorem State.zeroGaps_steady (pen : Nat) (t : Tensor) : s.Steady (s.zeroGaps pen t) := by
  unfold State.zeroGaps
  exact .ite .rfl (.after (State.pagesAs_steady ..) (.after (.forAll (fun v _ => v.penWrite_steady ..) _ _) (s.mapRoom_steady ..)))

theorem State.giveRoom_steady (pen : Nat) (t : Tensor) (ps : List Nat) : s.Steady (s.giveRoom pen t ps) :=
  .after (State.zeroGaps_steady ..) (.after (State.loosenRoom_steady ..) (.after (State.modDrover_keeps.steady (by decide)) (s.modTensor_steady ..)))

theorem State.takeRoom_steady {s u : State} {pen : Nat} {t : Tensor} (h : s.takeRoom pen t = some u) : s.Steady u := by
  unfold State.takeRoom at h
  split at h
  · exact Option.some.inj h ▸ .rfl
  · obtain ⟨ps, -, rfl⟩ := Option.map_eq_some_iff.1 h
    exact s.giveRoom_steady ..

theorem State.allocate_steady (pen : Nat) (t : Tensor) (prefetch : Bool) (deadline : Nat) : s.Steady (s.allocate pen t prefetch deadline).1 := by
  unfold State.allocate
  split
  · exact .rfl
  · dsimp only
    split
    · exact .rfl
    · split
      · split
        next hroom => exact .after (State.modTensor_steady ..) (.after (State.takeRoom_steady hroom) (s.makeRoom_steady ..))
        · exact s.makeRoom_steady ..
      · exact s.makeRoom_steady ..

end Tensors

/-! ### Operators that end, and pen faults (R110, R113, R251, R359) -/

section Ends

variable (s : State)

theorem State.putCpl_steady (q : Queue) (e : Nat × Nat × List Byte) : s.Steady (s.putCpl q e) := by
  unfold State.putCpl
  dsimp only
  refine .ite (.after (State.logQueueEvent_keeps.steady (by decide)) (State.modQueue_keeps.steady (by decide))) ?_
  generalize hs1 : (if q.cplHost then s.emit _ else s.penWrite _ _ _ _ _) = s1
  have hwritten : s.Steady s1 := hs1 ▸ .ite (State.emit_keeps.steady (by decide)) (s.penWrite_steady ..)
  have htail := hwritten.trans (State.modQueue_keeps (a1 := q.id) (a2 := fun x => { x with tail := x.tail + 1 }) |>.steady (by decide))
  exact .ite (.after (State.raiseVector_keeps.steady (by decide)) htail) htail

theorem State.cpl_steady (cq kind src : Nat) (payload : List Byte) : s.Steady (s.cpl cq kind src payload) := by
  unfold State.cpl
  split
  · exact .rfl
  · exact .ite .rfl (.ite (State.modQueue_keeps.steady (by decide)) (s.putCpl_steady ..))

theorem State.completeOn_steady (queue : Nat) (rec : List Byte) : s.Steady (s.completeOn queue rec) := by
  unfold State.completeOn
  split
  · exact s.cpl_steady ..
  · exact .rfl

theorem State.endFaulted_steady (o : Op) (code flags : Nat) : s.Steady (s.endFaulted o code flags) := by
  unfold State.endFaulted
  exact .ite (State.removeOp_keeps.steady (by decide)) (.after (State.completeOn_steady ..) (State.removeOp_keeps.steady (by decide)))

theorem State.spoil_steady (o : Op) : s.Steady (s.spoil o) := by
  refine .forAll (fun v h => ?_) s _
  split
  · exact .ite (.after (State.modTensor_steady ..) (v.penLoosen_steady ..)) .rfl
  · exact .rfl

theorem State.droverAbort_steady (pen : Nat) : s.Steady (s.droverAbort pen) :=
  State.droverAbort_keeps.steady_of_penStates (by decide) (s.droverAbort_penStates pen)

theorem State.abandonEncodes_steady (pen : Nat) : s.Steady (s.abandonEncodes pen) := .modPen (fun _ => rfl)

theorem State.endWaits_steady (pen status : Nat) (index : Bool) : s.Steady (s.endWaits pen status index) :=
  State.endWaits_keeps.steady_of_penStates (by decide) (s.endWaits_penStates pen status index)

theorem State.faultNotice_steady (pen cause : Nat) (suspect : B16) : s.Steady (s.faultNotice pen cause suspect) :=
  State.faultNotice_keeps.steady_of_penStates (by decide) (s.faultNotice_penStates pen cause suspect)

theorem State.penFault_steady (pen code info : Nat) : s.Steady (s.penFault pen code info) := by
  unfold State.penFault
  refine .ite ?_ .rfl
  have hended (v : State) (o : Op) : v.Steady ((if o.partial' then v.spoil o else v).endFaulted o (code % 256) 0) :=
    .after (State.endFaulted_steady ..) (.ite (v.spoil_steady o) .rfl)
  refine .after (State.faultNotice_steady ..) (.after (State.endWaits_steady ..) (.after (State.dropRops_keeps.steady (by decide))
    (.after (State.abandonEncodes_steady ..) (.after (State.droverAbort_steady ..) (.after (.forAll hended _ _) ?_)))))
  exact .ite (.after (State.logFault_keeps.steady (by decide)) (.fault pen))
    (.after (State.healthEvent_keeps.steady (by decide)) (.after (State.logFault_keeps.steady (by decide)) (.fault pen)))

end Ends

/-! ### Paths, recipes and room (R223, R229, R235, R240) -/

section Paths

variable (s : State)

theorem State.runDescriptor_steady (pen h i : Nat) : s.Steady (s.runDescriptor pen h i) := by
  unfold State.runDescriptor
  split
  · exact .rfl
  · split
    · exact s.modTensor_steady ..
    · exact .after (State.modTensor_steady ..) (State.newOp_keeps.steady (by decide))

theorem State.startRecipe_steady (pen h deadline : Nat) : s.Steady (s.startRecipe pen h deadline) :=
  .after (State.count_keeps.steady (by decide)) (.after (State.modTensor_steady ..) (s.runDescriptor_steady ..))

theorem State.startFetch_steady (pen h deadline : Nat) (prefetch : Bool) : s.Steady (s.startFetch pen h deadline prefetch) := by
  unfold State.startFetch
  split
  · exact .rfl
  · exact .ite (.after (State.beginFetch_steady ..) (s.allocate_steady ..)) (.after (State.setAllocWait_steady ..) (s.allocate_steady ..))

theorem State.takePath_steady (pen h deadline : Nat) (prefetch : Bool) : s.Steady (s.takePath pen h deadline prefetch) := by
  unfold State.takePath
  split
  · exact .rfl
  · refine .ite (s.hasten_steady ..) ?_
    dsimp only
    split
    · exact s.startFetch_steady ..
    · exact s.startRecipe_steady ..
    · exact .ite (s.penFault_steady ..) (.ite (s.hasten_steady ..) (s.modTensor_steady ..))

theorem State.roomOutput_steady (o : Op) (h : Nat) : s.Steady (s.roomOutput o h).1 := by
  unfold State.roomOutput
  split
  · exact .rfl
  · split
    · exact .rfl
    · exact s.allocate_steady ..

theorem State.roomOutputs_steady (o : Op) (l : List Nat) : s.Steady (s.roomOutputs o l).1 := by
  induction l generalizing s with
  | nil => exact .rfl
  | cons h l ih =>
    unfold State.roomOutputs
    dsimp only
    split
    · exact (s.roomOutput_steady o h).trans (ih _)
    · exact s.roomOutput_steady o h

theorem State.retryAlloc_steady (h : Nat) : s.Steady (s.retryAlloc h) := by
  unfold State.retryAlloc
  split
  · exact .rfl
  · refine .ite .rfl ?_
    split
    next o _ =>
      have hroom := s.roomOutputs_steady o (s.mayWrite o)
      exact .ite (.after (State.modOp_keeps.steady (by decide)) (.after (.forAll (fun v x => v.setAllocWait_steady x false) _ _) hroom)) hroom
    · exact .ite (.ite (.after (State.setAllocWait_steady ..) (s.allocate_steady ..)) (s.allocate_steady ..))
        (.ite (s.takePath_steady ..) (s.setAllocWait_steady ..))

theorem State.retryAllocs_steady : s.Steady s.retryAllocs := .forAll (fun v _ => v.retryAlloc_steady _) s _

theorem State.prepare_steady (pen : Nat) : s.Steady (s.prepare pen) := by
  unfold State.prepare
  exact .ite .rfl (.forAll (fun v _ => v.takePath_steady ..) s _)

theorem Pen.adopt_state (p : Pen) (layer phase micro : Nat) : (p.adopt layer phase micro).state = p.state := by
  unfold Pen.adopt
  split
  · split
    · split <;> rfl
    · rfl
  · rfl

theorem State.layerMark_steady (pen layer phase micro : Nat) : s.Steady (s.layerMark pen layer phase micro) := by
  unfold State.layerMark
  dsimp only
  have hadopt : s.Steady (s.modPen pen (fun p => p.adopt layer phase micro)) := .modPen (fun p => p.adopt_state layer phase micro)
  split
  · exact hadopt
  · split
    · exact .after (State.logFault_keeps.steady (by decide)) (.after (.modPen (fun _ => rfl)) hadopt)
    · exact .ite hadopt (.after (State.prepare_steady ..) (.after (.forAll (fun v _ => v.freeDead_steady ..) _ _)
        (.after (.modPen (fun _ => rfl)) hadopt)))

end Paths

/-! ### Operators from their effects to their end (R68, R110, R113) -/

section Operators

variable (s : State)

theorem State.applyEffect_steady (pen op : Nat) (e : Effect) : s.Steady (s.applyEffect pen op e) := by
  cases e with
  | store a bs => exact s.penWrite_steady ..
  | scale a bs => exact s.penWrite_steady ..
  | acc a bf w => exact s.penAcc_steady ..
  | stage r e v => exact State.modOp_keeps.steady (by decide)
  | plane a bs => exact s.npWrite_steady ..

theorem State.releaseEffects_steady (o : Op) (es : List Effect) : s.Steady (s.releaseEffects o es) := by
  unfold State.releaseEffects
  dsimp only
  generalize es.filter (s.keepsEffect o) = kept
  have hstored : s.Steady ((((s.exposed o).forAll kept (fun u e => u.applyEffect o.pen o.id e)).npFlushSource .fold).touchStores o.pen
      (kept.filterMap Effect.span)) := .after (State.touchStores_steady ..) (.after (State.npFlushSource_steady ..)
        (.after (.forAll (fun v e => v.applyEffect_steady o.pen o.id e) _ _) (s.exposed_steady o)))
  exact .ite (.after (State.pagesAs_steady ..) hstored) hstored

theorem State.releaseUnits_steady (id : Nat) (prev : List (Nat × Nat × Val)) (last : Bool) : s.Steady (s.releaseUnits id prev last) := by
  unfold State.releaseUnits
  split
  · exact .rfl
  · exact .after (State.modOp_keeps.steady (by decide)) (.after (State.touchStores_steady ..) (s.releaseEffects_steady ..))

theorem State.fillRows_steady (o : Op) : s.Steady (s.fillRows o) := by
  unfold State.fillRows
  split
  · exact .rfl
  · exact .after (State.spendRace_keeps.steady (by decide)) (s.releaseEffects_steady ..)

theorem State.closeOp_steady (o : Op) : s.Steady (s.closeOp o) :=
  .after (State.modOp_keeps.steady (by decide)) (.ite (.after (State.releaseUnits_steady ..) (s.fillRows_steady o)) (s.fillRows_steady o))

theorem State.signalAndRecord_steady (o : Op) (flags : Nat) : s.Steady (s.signalAndRecord o flags) := by
  unfold State.signalAndRecord
  dsimp only
  generalize hs1 : (if dSignalId o.desc = noCounter then s else s.addCounter o.pen (dSignalId o.desc) 1) = s1
  have hsignal : s.Steady s1 := hs1 ▸ .ite .rfl (s.addCounter_steady ..)
  exact .ite (.after (State.completeOn_steady ..) hsignal) hsignal

theorem State.reportMark_steady (o : Op) : s.Steady (s.reportMark o) := by
  unfold State.reportMark
  exact .ite (.ite (s.layerMark_steady ..) (.after (State.layerBoundary_keeps.steady (by decide)) (s.layerMark_steady ..))) .rfl

theorem State.completeOp_steady (o : Op) : s.Steady (s.completeOp o) := by
  unfold State.completeOp
  dsimp only
  generalize (s.inputHandles o.desc ++ s.outputHandles o.desc).eraseDups = hs
  have hleft : s.Steady ((s.forAll hs State.useTensor).removeOp o) :=
    .after (State.removeOp_keeps.steady (by decide)) (.forAll (fun v h => v.useTensor_steady h) s hs)
  have hidle (v : State) : v.Steady (v.forAll hs State.idleTensor) := .forAll (fun w h => w.idleTensor_steady h) v hs
  split
  · split
    · exact .after (hidle _) (.after (State.runDescriptor_steady ..) hleft)
    · exact hleft
  · exact .after (State.sweepQueues_keeps.steady (by decide)) (.after (State.retryAllocs_steady _) (.after (State.sweepReleased_steady _)
      (.after (hidle _) (.after (State.reportMark_steady ..) (.after (State.signalAndRecord_steady ..)
        (.after (State.countMiss_keeps.steady (by decide)) hleft))))))

theorem State.endOps_steady (n : Nat) : s.Steady (s.endOps n) := by
  induction n generalizing s with
  | zero => exact .rfl
  | succ n ih =>
    unfold State.endOps
    split
    · exact .after (ih _) (.ite (s.completeOp_steady _) (s.closeOp_steady _))
    · exact .rfl

theorem State.completeEnded_steady : s.Steady s.completeEnded := s.endOps_steady _

end Operators

/-! ### Remote operations at the destination (R309, R312 to R315) -/

section Destination

variable (s : State)

theorem State.putFragment_steady (p : Packet) (len : Nat) (acc : Bool) : s.Steady (s.putFragment p len acc).1 := by
  unfold State.putFragment
  dsimp only
  split
  · exact s.poisonRange_steady ..
  · split
    · exact s.penAcc_steady ..
    · exact s.penWrite_steady ..

theorem State.closePut_steady (o : OpenOp) : s.Steady (s.closePut o).1 := by
  unfold State.closePut
  split
  · dsimp only
    split
    · exact .ite (.after (State.addCounter_steady ..) (.after (State.npFlushSource_steady ..) (State.modQe_keeps.steady (by decide))))
        (State.modQe_keeps.steady (by decide))
    · exact State.modQe_keeps.steady (by decide)
  · exact .rfl

theorem State.arrivePut_steady (p : Packet) (len : Nat) (acc : Bool) : s.Steady (s.arrivePut p len acc).1 := by
  unfold State.arrivePut
  dsimp only
  generalize hr : (if s.acceptOp p = 0 then s.putFragment p len acc else (s, s.acceptOp p)) = r
  have hput : s.Steady r.1 := by
    rw [← hr]
    split
    · exact s.putFragment_steady ..
    · exact .rfl
  exact .after (State.closePut_steady ..) (.after (State.modQe_keeps.steady (by decide)) hput)

theorem State.arriveAtomic_steady (p : Packet) : s.Steady (s.arriveAtomic p).1 := by
  unfold State.arriveAtomic
  extract_lets bad status flushed old o0 o1 new poisoned written
  have hwritten : s.Steady written := by
    unfold written
    cases new with
    | some v => exact .after (State.penWrite_steady ..) (s.penFlush_steady ..)
    | none => exact s.penFlush_steady ..
  split
  · exact .rfl
  · exact hwritten

theorem State.arriveSignal_steady (p : Packet) : s.Steady (s.arriveSignal p).1 := by
  unfold State.arriveSignal
  dsimp only
  split
  · exact .rfl
  · exact s.addCounter_steady ..

theorem State.answerRequest_steady (p : Packet) : s.Steady (s.answerRequest p).1 := by
  unfold State.answerRequest
  split
  · exact State.arriveGet_keeps.steady (by decide)
  · exact s.arriveAtomic_steady p
  · exact s.arriveSignal_steady p

theorem State.takeRequest_steady (p : Packet) : s.Steady (s.takeRequest p).1 := by
  unfold State.takeRequest
  split
  · dsimp only
    exact State.modQe_keeps.steady (by decide)
  · exact s.answerRequest_steady p

theorem State.arrive_steady (p : Packet) (len : Nat) : s.Steady (s.arrive p len).1 := by
  unfold State.arrive
  split
  · exact s.arrivePut_steady ..
  · exact s.arrivePut_steady ..
  · exact s.takeRequest_steady p
  · exact s.takeRequest_steady p
  · exact s.takeRequest_steady p
  · exact .rfl

end Destination

/-! ### Remote operations at the source (R310, R311, R316 to R319, R321) -/

section Source

variable (s : State)

theorem State.ropCpl_steady (queue pen : Nat) (d : List Byte) (status result : Nat) : s.Steady (s.ropCpl queue pen d status result) := by
  unfold State.ropCpl
  split
  · exact s.cpl_steady ..
  · exact .rfl

theorem State.ropRelease_steady (r : RopOp) (result : Nat) : s.Steady (s.ropRelease r result) := by
  unfold State.ropRelease
  dsimp only
  have hflushed : s.Steady (((s.dropRop r).npFlushSource .fabricData).npFlushSource .queueData) :=
    .after (State.npFlushSource_steady ..) (.after (State.npFlushSource_steady ..) (State.dropRop_keeps.steady (by decide)))
  generalize ((s.dropRop r).npFlushSource .fabricData).npFlushSource .queueData = t at hflushed ⊢
  refine .ite hflushed (.after (State.count_keeps.steady (by decide)) ?_)
  have hcounted : s.Steady (if rLocalSignal r.desc then t.addCounter r.pen (rLocalId r.desc) 1 else t) :=
    .ite (.after (State.addCounter_steady ..) hflushed) hflushed
  exact .ite (.after (State.ropCpl_steady ..) hcounted) hcounted

theorem State.ropDone_steady (r : RopOp) (result : Nat) : s.Steady (s.ropDone r result) := by
  unfold State.ropDone
  exact .ite (State.modRop_keeps.steady (by decide)) (s.ropRelease_steady r result)

theorem State.ropFailOne_steady (r : RopOp) (status : Nat) : s.Steady (s.ropFailOne r status) := by
  unfold State.ropFailOne
  exact .ite (State.dropRop_keeps.steady (by decide)) (.after (State.count_keeps.steady (by decide))
    (.after (State.modQueue_keeps.steady (by decide)) (.after (State.ropCpl_steady ..) (State.dropRop_keeps.steady (by decide)))))

theorem State.ropFail_steady (r : RopOp) (status : Nat) : s.Steady (s.ropFail r status) := by
  unfold State.ropFail
  dsimp only
  generalize List.filter _ _ = later
  have hfailed : s.Steady ((s.ropFailOne r status).forAll later (fun t x => t.ropFailOne x status)) :=
    .after (.forAll (fun v x => v.ropFailOne_steady x status) _ _) (s.ropFailOne_steady r status)
  exact .ite hfailed (.after (State.faultNotice_steady ..) hfailed)

theorem State.takeGetData_steady (r : RopOp) (p : Packet) : s.Steady (s.takeGetData r p) := by
  unfold State.takeGetData
  dsimp only
  refine .ite (s.ropFail_steady ..) ?_
  generalize hs1 : (if pPoison p then s.poisonRange _ _ _ else s.penWrite _ _ _ _ _) = s1
  have hlanded : s.Steady s1 := hs1 ▸ .ite (s.poisonRange_steady ..) (s.penWrite_steady ..)
  exact .ite (.ite (.after (State.ropFail_steady ..) hlanded) (.after (State.ropDone_steady ..) hlanded))
    (.after (State.modRop_keeps.steady (by decide)) hlanded)

theorem State.takeValue_steady (r : RopOp) (p : Packet) : s.Steady (s.takeValue r p) := by
  unfold State.takeValue
  exact .ite (s.ropFail_steady ..) (.ite (.ite (.after (State.ropFail_steady ..) (s.poisonRange_steady ..))
    (.after (State.ropDone_steady ..) (s.penWrite_steady ..))) (s.ropDone_steady ..))

theorem State.takeResponse_steady (p : Packet) : s.Steady (s.takeResponse p) := by
  unfold State.takeResponse
  split
  · exact .rfl
  · split
    · exact .ite (s.ropDone_steady ..) (s.ropFail_steady ..)
    · exact s.takeGetData_steady ..
    · exact s.takeValue_steady ..
    · exact .rfl

theorem State.launch_steady (r : RopOp) : s.Steady (s.launch r) := by
  unfold State.launch State.loopback
  refine .ite (.forAll (fun v x => ?_) s _) (State.injectFrags_keeps.steady (by decide))
  exact .after (.forAll (fun w y => w.takeResponse_steady y) _ _) (v.arrive_steady ..)

theorem State.ropProgress_steady (q n : Nat) : s.Steady (s.ropProgress q n) := by
  induction n generalizing s with
  | zero => exact .rfl
  | succ n ih =>
    unfold State.ropProgress
    split
    · exact .rfl
    · exact .ite .rfl (.ite (.after (ih _) (s.ropDone_steady ..)) (.ite .rfl
        (.after (ih _) (.after (State.launch_steady ..) (State.modRop_keeps.steady (by decide))))))

theorem State.afterRop_steady (q : Nat) : s.Steady (s.afterRop q) :=
  .after (State.sweepQueues_keeps.steady (by decide)) (.after (State.ropProgress_steady ..)
    (.after (State.tryReinject_keeps.steady (by decide)) (s.ropProgress_steady ..)))

theorem State.deliver_steady (p : Packet) : s.Steady (s.deliver p) := by
  unfold State.deliver
  exact .ite (.after (State.afterRop_steady ..) (s.takeResponse_steady p)) (State.inject_keeps.steady (by decide))

theorem State.closePuts_steady : s.Steady s.closePuts :=
  .forAll (fun v o => .after (.forAll (fun w p => w.deliver_steady p) _ _) (v.closePut_steady o)) s _

theorem State.releaseRops_steady : s.Steady s.releaseRops := by
  unfold State.releaseRops
  refine .after (.forAll (fun v q => v.afterRop_steady _) _ _) (.forAll (fun v r => ?_) s _)
  split
  · exact v.ropDone_steady ..
  · exact .rfl

theorem State.serveHeld_steady (l : List Packet) : s.Steady (s.serveHeld l) := by
  induction l generalizing s with
  | nil => exact .rfl
  | cons p l ih =>
    unfold State.serveHeld
    exact .ite (.after (ih _) (State.modQe_keeps.steady (by decide)))
      (.after (ih _) (.after (.forAll (fun v x => v.deliver_steady x) _ _) (s.answerRequest_steady p)))

theorem State.queueServes_steady : s.Steady s.queueServes :=
  .after (State.releaseRops_steady _) (.after (State.closePuts_steady _) (.after (State.serveHeld_steady ..) (State.modQe_keeps.steady (by decide))))

end Source

/-! ### Poison met (R245, R249, R271) -/

section Poison

variable (s : State)

theorem State.discardTasks_steady (l : List (Nat × Bool)) : s.Steady (s.forAll l (fun u x => u.discardTask x.1 x.2 none)) :=
  .forAll (fun _ _ => State.discardTask_keeps.steady (by decide)) s l

theorem State.takeBasePoison_steady (pen base : Nat) : s.Steady (s.takeBasePoison pen base) :=
  .after (State.penFault_steady ..) (State.modDrover_keeps.steady (by decide))

theorem State.dropEncodesOn_penStates (n : Nat) : (s.dropEncodesOn n).penStates = s.penStates := by
  unfold State.dropEncodesOn State.penStates
  rw [List.map_map]
  rfl

theorem State.reloadBase_steady (n : Nat) : s.Steady (s.reloadBase n) := by
  unfold State.reloadBase
  split
  · exact .rfl
  · split
    · exact .ite (.after (State.beginFetch_steady ..) (State.moveBase_keeps.steady (by decide))) .rfl
    · exact .rfl

theorem State.poisonBase_steady (n : Nat) : s.Steady (s.poisonBase n) :=
  .after (State.reloadBase_steady ..) (.after (.forAll (fun v p => v.takeBasePoison_steady p _) _ _)
    (.after (State.dropEncodesOn_keeps.steady_of_penStates (by decide) (State.dropEncodesOn_penStates ..))
      (.after (State.modDrover_keeps.steady (by decide)) (State.modBase_keeps.steady (by decide)))))

theorem State.poisonTensor_steady (pen : Nat) (t : Tensor) (used : Bool) : s.Steady (s.poisonTensor pen t used) := by
  unfold State.poisonTensor
  dsimp only
  generalize (t.res = .both || s.usable t : Bool) = saved
  have hdropped (f : Tensor → Tensor) : s.Steady (((if saved then s.forAll (s.runningReaders t.handle.toNat)
      (fun u x => u.discardTask x.1 x.2 none) else s).dropNear pen t).modTensor t.handle.toNat f) :=
    .after (State.modTensor_steady ..) (.after (State.dropNear_steady ..) (.ite (s.discardTasks_steady _) .rfl))
  exact .ite (.after (State.penFault_steady ..) (hdropped _)) (hdropped _)

theorem State.meetPoison_steady (t : Tensor) : s.Steady (s.meetPoison t) := by
  unfold State.meetPoison
  have hbase : s.Steady (if s.basePoisoned t then s.poisonBase (t.base.toNat - 0x10000000) else s) := .ite (s.poisonBase_steady _) .rfl
  exact .after (State.retryAllocs_steady _) (.ite (.after (State.poisonTensor_steady ..) hbase) hbase)

end Poison

/-! ### Commands that waited for near pasture (R247, R421, R432) -/

section Waits

variable (s : State)

theorem State.adoptNow_steady (p : Nat) (it : Itinerary) : s.Steady (s.adoptNow p it) :=
  .after (State.prepare_steady ..) (.modPen (fun _ => rfl))

theorem State.loadFrom_steady (p : Nat) (t : Tensor) : s.Steady (s.loadFrom p t).state := by
  unfold State.loadFrom
  split
  · exact .rfl
  · split
    · exact s.meetPoison_steady t
    · split
      · exact .rfl
      · dsimp only
        split
        · split
          · exact .rfl
          · exact .after (State.useTensor_steady ..) (.modPen (fun _ => rfl))
        · split
          · exact .rfl
          · exact .after (State.useTensor_steady ..) (s.adoptNow_steady ..)

theorem itineraryLoad_steady (r : Req) : s.Steady (itineraryLoad r s).state := by
  unfold itineraryLoad withLivePen withPen
  split
  · exact .rfl
  · dsimp only
    split
    · split
      · exact .rfl
      · split
        · exact .modPen (fun _ => rfl)
        · split
          · exact .rfl
          · split
            · exact .rfl
            · split
              · exact .rfl
              · exact s.loadFrom_steady ..
    · exact .rfl

theorem State.settleItineraries_steady : s.Steady s.settleItineraries := by
  refine .forAll (fun v i => ?_) s _
  have hload := itineraryLoad_steady v { fn := slotFn i, slot := i, pay := (v.slotAt i).taken.drop 8 }
  split
  next hreply =>
    rw [hreply] at hload
    exact .after (State.answer_keeps.steady (by decide)) hload
  next hwait =>
    rw [hwait] at hload
    exact hload

theorem State.beginBase_steady (i pen n : Nat) (t : Tensor) : s.Steady (s.beginBase i pen n t) := by
  unfold State.beginBase
  dsimp only
  generalize hs0 : ((match s.base? (baseHandle n) with
    | some o => s.freeBasePages o
    | none => s).modDrover (fun d => { d with bases := d.bases.filter (fun b => b.1 != n) })) = s1
  have hfreed : s.Steady s1 := by
    refine hs0 ▸ .after (State.modDrover_keeps.steady (by decide)) ?_
    split
    · exact State.freeBasePages_keeps.steady (by decide)
    · exact .rfl
  split
  · exact .ite (State.answer_keeps.steady (by decide)) (.after (State.idleTensor_steady ..) (.after (State.beginFetch_steady ..)
      (.after (State.writeFar_keeps.steady (by decide)) (.after (State.useTensor_steady ..) (.after (State.npFlushSource_steady ..)
        (.after (State.npWrite_steady ..) (.after (State.count_keeps.steady (by decide)) (.after (State.modDrover_keeps.steady (by decide))
          hfreed))))))))
  · exact State.answer_keeps.steady (by decide)

theorem State.tryBase_steady (i pen n : Nat) (t : Tensor) : s.Steady (s.tryBase i pen n t) := by
  unfold State.tryBase
  exact .ite .rfl (.ite (s.meetPoison_steady t) (s.beginBase_steady i pen n t))

theorem State.settleBases_steady : s.Steady s.settleBases := by
  refine .forAll (fun v i => ?_) s _
  dsimp only
  refine .ite .rfl ?_
  split
  · exact .ite (v.tryBase_steady ..) .rfl
  · exact .rfl

theorem State.settleWaits_steady : s.Steady s.settleWaits :=
  .after (State.settleBases_steady _) (State.settleDrains_keeps.steady (by decide))

theorem State.nearServes_steady : s.Steady s.nearServes := by
  unfold State.nearServes
  exact .after (State.settleItineraries_steady _) (.after (State.settleWaits_steady _) (.after (.forAll (fun v x => v.resumeWriteBehind_steady _) _ _)
    (.after (State.completeEnded_steady _) (.after (State.queueServes_steady _) s.npServeWaiting_steady))))

theorem State.videoAct_steady (a : VideoAct) : s.Steady (s.videoAct a) := by
  cases a with
  | signal pen counter => exact s.addCounter_steady ..
  | event cpl queue payload => exact s.cpl_steady ..

theorem State.modVideo_steady (f : Video → Video) : s.Steady (s.modVideo f) := .of_eq rfl rfl

theorem State.releaseActs_steady (l : List VideoAct) : s.Steady (s.releaseActs l) := by
  induction l generalizing s with
  | nil => exact s.modVideo_steady _
  | cons a l ih =>
    unfold State.releaseActs
    exact .ite (s.modVideo_steady _) (.after (ih _) (s.videoAct_steady a))

/-- R266, R275: near pasture serves again. -/
theorem State.pastureServes_steady : s.Steady s.pastureServes :=
  .after (State.releaseActs_steady ..) s.nearServes_steady

end Waits

end Sys2Proof.Machine

/-! SUPPORT. The temperature reports of the stacks, their thermal states and the shutdown of a stack (R266 to R268). -/

namespace Sys2Proof.Machine

/-! ### Thermal states (Table 10.3) -/

section Bands

variable {c : Nat}

theorem bandOf_lt_85 (h : c < 85) : bandOf c = 0 := by
  rw [bandOf, if_neg (by omega), if_neg (by omega), if_neg (by omega)]

theorem bandOf_lt_95 (hlo : 85 ≤ c) (hhi : c < 95) : bandOf c = 1 := by
  rw [bandOf, if_neg (by omega), if_neg (by omega), if_pos hlo]

theorem bandOf_lt_105 (hlo : 95 ≤ c) (hhi : c < 105) : bandOf c = 2 := by
  rw [bandOf, if_neg (by omega), if_pos hlo]

theorem bandOf_of_105 (hlo : 105 ≤ c) : bandOf c = 3 := if_pos hlo

theorem bandOf_le (c : Nat) : bandOf c ≤ 3 := by
  unfold bandOf
  split
  · exact Nat.le_refl 3
  · split
    · decide
    · split <;> decide

/-- R266: a state is kept from 2 °C under its bound on. -/
theorem coolTo_of_warm {n st : Nat} (h : bandFloor st < c + 3) : coolTo c n st = st := by
  cases n with
  | zero => rfl
  | succ n => exact if_neg (by simp; omega)

/-- R266: 3 °C under its bound a state is left. -/
theorem coolTo_of_cool {n st : Nat} (hst : st ≠ 0) (h : c + 3 ≤ bandFloor st) : coolTo c (n + 1) st = coolTo c n (st - 1) :=
  if_pos (by simp [hst, h])

theorem nextThermal_of_lt {old : Nat} (hold : old ≠ 4) (h : c < 115) : nextThermal old c = coolTo c 3 (max old (bandOf c)) :=
  if_neg (by simp [hold]; omega)

theorem nextThermal_of_115 (old : Nat) (h : 115 ≤ c) : nextThermal old c = 4 := if_pos (by simp [h])

theorem nextThermal_four (c : Nat) : nextThermal 4 c = 4 := if_pos (by simp)

/-- Cooling ends at a state not above its start. -/
theorem coolTo_le (c n st : Nat) : coolTo c n st ≤ st := by
  induction n generalizing st with
  | zero => exact Nat.le_refl st
  | succ n ih =>
    unfold coolTo
    split
    · exact (ih _).trans (Nat.sub_le ..)
    · exact Nat.le_refl st

/-- R268: below 115 °C no stack is shut down. -/
theorem nextThermal_ne_four {old : Nat} (hold : old ≠ 4) (h : c < 115) : nextThermal old c ≠ 4 := by
  rw [nextThermal_of_lt hold h]
  have hband := bandOf_le c
  rcases Nat.lt_or_ge old 4 with hlow | hhigh
  · have hcool := coolTo_le c 3 (max old (bandOf c))
    omega
  · have hfloor : bandFloor old = 0 := by
      unfold bandFloor
      split <;> omega
    rw [max_eq_left (by omega), coolTo_of_warm (by omega)]
    exact hold

theorem nextThermal_rising (hnew : c < 115) (h : bandFloor (bandOf c) ≤ c) : nextThermal 0 c = bandOf c := by
  rw [nextThermal_of_lt (by decide) hnew, Nat.zero_max, coolTo_of_warm (by omega)]

/-- Table 10.3: the states of a stack as it grows warmer from Normal. -/
theorem nextThermal_zero : (∀ c < 85, nextThermal 0 c = 0) ∧ (∀ c, 85 ≤ c → c < 95 → nextThermal 0 c = 1) ∧
    (∀ c, 95 ≤ c → c < 105 → nextThermal 0 c = 2) ∧ ∀ c, 105 ≤ c → c < 115 → nextThermal 0 c = 3 := by
  refine ⟨fun c h => ?_, fun c hlo hhi => ?_, fun c hlo hhi => ?_, fun c hlo hhi => ?_⟩
  · have hband := bandOf_lt_85 h
    rw [nextThermal_rising (by omega) (by rw [hband]; exact Nat.zero_le c), hband]
  · have hband := bandOf_lt_95 hlo hhi
    rw [nextThermal_rising (by omega) (by rw [hband]; exact hlo), hband]
  · have hband := bandOf_lt_105 hlo hhi
    rw [nextThermal_rising (by omega) (by rw [hband]; exact hlo), hband]
  · have hband := bandOf_of_105 hlo
    rw [nextThermal_rising hhi (by rw [hband]; exact hlo), hband]

/-- R266: a stack keeps its state until it is 3 °C under its bound. -/
theorem nextThermal_kept {old : Nat} (hold : old ≠ 4) (hnew : c < 115) (hband : bandOf c ≤ old) (hwarm : bandFloor old < c + 3) :
    nextThermal old c = old := by
  rw [nextThermal_of_lt hold hnew, max_eq_left hband, coolTo_of_warm hwarm]

/-- R266: 3 °C under its bound a stack takes the state below. -/
theorem nextThermal_cooled {old : Nat} (hpos : old ≠ 0) (hold : old ≠ 4) (hnew : c < 115) (hband : bandOf c ≤ old)
    (hcool : c + 3 ≤ bandFloor old) (hwarm : bandFloor (old - 1) < c + 3) : nextThermal old c = old - 1 := by
  rw [nextThermal_of_lt hold hnew, max_eq_left hband, coolTo_of_cool hpos hcool, coolTo_of_warm hwarm]

theorem bandOf_le_one (h : c < 95) : bandOf c ≤ 1 := by
  rcases Nat.lt_or_ge c 85 with hlo | hlo
  · exact (bandOf_lt_85 hlo).trans_le (Nat.zero_le 1)
  · exact (bandOf_lt_95 hlo h).le

theorem bandOf_le_two (h : c < 105) : bandOf c ≤ 2 := by
  rcases Nat.lt_or_ge c 95 with hlo | hlo
  · exact (bandOf_le_one hlo).trans (by decide)
  · exact (bandOf_lt_105 hlo h).le

end Bands

/-! ### Stacks (R266, R267) -/

section Stacks

variable {s : State} {k : Nat}

theorem State.stackAt_of_same {s t : State} (h : t.np.stackList = s.np.stackList) (k : Nat) : t.stackAt k = s.stackAt k :=
  congrArg (fun l => l.getD k Stack.initial) h

theorem State.modStack_stackAt (hk : k < s.np.stackList.length) (f : Stack → Stack) : (s.modStack k f).stackAt k = f (s.stackAt k) := by
  rw [State.stackAt, State.stackAt, State.modStack_np, List.getD_eq_getElem?_getD, List.getD_eq_getElem?_getD, List.getElem?_modify_eq,
    List.getElem?_eq_getElem hk]
  rfl

theorem State.takeTemp_stackList (s : State) (k c new : Nat) : (s.takeTemp k c new).np.stackList =
    (s.modStack k (fun x => { x with temp := c, tstate := new, slow := hotState new, maxTemp := max x.maxTemp c })).np.stackList := by
  unfold State.takeTemp
  rw [State.modNp_np]
  split <;> rfl

theorem State.takeTemp_stackAt (hk : k < s.np.stackList.length) (c new : Nat) : (s.takeTemp k c new).stackAt k =
    { s.stackAt k with temp := c, tstate := new, slow := hotState new, maxTemp := max (s.stackAt k).maxTemp c } := by
  rw [State.stackAt_of_same (s.takeTemp_stackList k c new)]
  exact State.modStack_stackAt hk _

/-- R266 to R268: what a report does to its stack, before near pasture serves again. -/
def State.takeReport (s : State) (k c : Nat) : State :=
  if nextThermal (s.stackAt k).tstate c = 4 && (s.stackAt k).tstate != 4 then (s.takeTemp k c (nextThermal (s.stackAt k).tstate c)).shutDown k c
  else (s.takeTemp k c (nextThermal (s.stackAt k).tstate c)).slowNotices k (s.stackAt k).tstate (nextThermal (s.stackAt k).tstate c)

/-- R266: the health event of a device that begins or ends to be thermally limited. -/
def State.noteThermal (s v : State) : State := if v.thermal != s.thermal then v.healthEventAll 2 else v

theorem State.noteThermal_steady (s v : State) : v.Steady (s.noteThermal v) := .ite (State.healthEventAll_keeps.steady (by decide)) .rfl

theorem State.noteThermal_boot (s v : State) : (s.noteThermal v).boot = v.boot := by
  unfold State.noteThermal
  split
  · exact State.healthEventAll_keeps.only.same .boot (by decide)
  · rfl

theorem exec_stackTemperatureRead_served {k : Fin 8} (c : Nat) (hhub : s.boot.hubEn = true) (hrails : s.hubRails = true) :
    exec (.stackTemperatureRead k c) s = .next (s.quiet.noteThermal (s.quiet.takeReport k (min c 255))).pastureServes.thermalReset :=
  if_pos (by simp [hhub, hrails])

/-- R266, R268: near pasture serves again, and nothing of the report is lost, unless the device takes the reset of R268. -/
theorem exec_stackTemperatureRead {k : Fin 8} (c : Nat) (hhub : s.boot.hubEn = true) (hrails : s.hubRails = true) :
    ∃ w : State, exec (.stackTemperatureRead k c) s = .next w.thermalReset ∧ (s.quiet.takeReport k (min c 255)).Steady w ∧
      w.boot = (s.quiet.takeReport k (min c 255)).boot :=
  ⟨_, exec_stackTemperatureRead_served c hhub hrails, .after (State.pastureServes_steady _) (State.noteThermal_steady ..),
    (State.pastureServes_keeps.only.same .boot (by decide)).trans (State.noteThermal_boot ..)⟩

end Stacks

/-! ### The shutdown of a stack (R268) -/

section ShutDown

variable {s : State} {k c : Nat}

/-- R359: a pen that can fault has faulted. -/
theorem State.penFault_state (p code info : Nat) (h : (s.pen p).state.faultable = true) : ((s.penFault p code info).pen p).state = .faulted := by
  rw [State.pen_state_eq, State.penFault_penStates, if_pos h, List.getD_eq_getElem?_getD, List.getElem?_modify_eq,
    List.getElem?_eq_getElem (State.lt_of_faultable h)]
  rfl

/-- R268: the faults of the pens. -/
def State.faultPens (s : State) (code info : Nat) (l : List Nat) : State := s.forAll l (fun v p => v.penFault p code info)

theorem State.faultPens_steady (s : State) (code info : Nat) (l : List Nat) : s.Steady (s.faultPens code info l) :=
  .forAll (fun v p => v.penFault_steady p code info) s l

theorem State.faultPens_boot (s : State) (code info : Nat) (l : List Nat) : (s.faultPens code info l).boot = s.boot :=
  State.forAll_same (g := State.boot) (fun _ _ => State.penFault_keeps.only.same .boot (by decide)) s l

theorem State.faultPens_state {code info p : Nat} {l : List Nat} (hp : p ∈ l) (h : (s.pen p).state.faultable = true) :
    ((s.faultPens code info l).pen p).state = .faulted := by
  induction l generalizing s with
  | nil => cases hp
  | cons q l ih =>
    by_cases hqp : q = p
    · subst hqp
      exact (State.faultPens_steady (s.penFault q code info) code info l).faulted q (State.penFault_state q code info h)
    · refine ih (s := s.penFault q code info) ?_ ?_
      · exact (List.mem_cons.1 hp).resolve_left (Ne.symm hqp)
      · rw [State.penFault_state_ne s code info hqp]
        exact h

/-- R268: the stack without power, logged, and the pens faulted. -/
def State.stackLost (s : State) (k c : Nat) : State :=
  ((s.modStack k (fun x => { x with trained := false, powered := false })).logFault 8 0x86 .uncontained k none none (c % 256)).faultPens 0x86
    (c % 256) (List.range 8)

theorem State.stackLost_steady (s : State) (k c : Nat) :
    (s.modStack k (fun x => { x with trained := false, powered := false })).Steady (s.stackLost k c) :=
  .after (State.faultPens_steady ..) (State.logFault_keeps.steady (by decide))

theorem State.stackLost_boot (s : State) (k c : Nat) : (s.stackLost k c).boot = s.boot :=
  (State.faultPens_boot ..).trans (State.logFault_keeps.only.same .boot (by decide))

theorem State.stackLost_faulted {p : Nat} (c : Nat) (hp : p < 8) (h : (s.pen p).state.faultable = true) :
    ((s.stackLost k c).pen p).state = .faulted := by
  refine State.faultPens_state (List.mem_range.2 hp) ?_
  have hsame : ((s.modStack k (fun x => { x with trained := false, powered := false })).logFault 8 0x86 .uncontained k none none
      (c % 256)).penStates = s.penStates := State.logFault_keeps.penStates (by decide)
  rw [State.pen_state_eq, hsame, ← State.pen_state_eq]
  exact h

theorem State.shutDown_eq (s : State) (k c : Nat) :
    s.shutDown k c = (s.stackLost k c).fallToReduced.modBoot (fun b => { b with thermalWait := true }) := rfl

theorem State.modBoot_steady (s : State) (f : Boot → Boot) : s.Steady (s.modBoot f) := .of_eq rfl rfl

theorem State.shutDown_steady (s : State) (k c : Nat) : (s.stackLost k c).Steady (s.shutDown k c) := by
  rw [State.shutDown_eq]
  exact .after (State.modBoot_steady ..) (State.fallToReduced_keeps.steady (by decide))

theorem State.shutDown_stackAt (hk : k < s.np.stackList.length) (c : Nat) :
    (s.shutDown k c).stackAt k = { s.stackAt k with trained := false, powered := false } := by
  rw [State.stackAt_of_same ((s.stackLost_steady k c).trans (s.shutDown_steady k c)).same, State.modStack_stackAt hk]

/-- R268: a device above stage 3 falls to it. -/
theorem State.fallToReduced_stage (hkept : 4 ≤ s.boot.stage) (hwarm : s.boot.resetting ≠ some .controlComplex) : s.fallToReduced.boot.stage = 3 := by
  have hstage : s.keptStage = s.boot.stage := if_neg hwarm
  unfold State.fallToReduced
  rw [if_neg (by omega)]
  dsimp only
  rw [if_neg hwarm, State.setStage_boot]

/-- R268: in a control-complex reset the stage that it returns to falls. -/
theorem State.fallToReduced_ccStage (hreset : s.boot.resetting = some .controlComplex) (hkept : 4 ≤ s.boot.ccStage) :
    s.fallToReduced.boot.ccStage = 3 ∧ s.fallToReduced.boot.stage = s.boot.stage := by
  have hstage : s.keptStage = s.boot.ccStage := if_pos hreset
  unfold State.fallToReduced
  rw [if_neg (by omega)]
  dsimp only
  rw [if_pos hreset]
  exact ⟨rfl, rfl⟩

theorem State.shutDown_boot (s : State) (k c : Nat) : (s.shutDown k c).boot.stage = (s.stackLost k c).fallToReduced.boot.stage ∧
    (s.shutDown k c).boot.ccStage = (s.stackLost k c).fallToReduced.boot.ccStage ∧ (s.shutDown k c).boot.thermalWait = true := by
  rw [State.shutDown_eq]
  generalize (s.stackLost k c).fallToReduced = u
  exact ⟨rfl, rfl, rfl⟩

theorem State.shutDown_stage (hkept : 4 ≤ s.boot.stage) (hwarm : s.boot.resetting ≠ some .controlComplex) : (s.shutDown k c).boot.stage = 3 := by
  have hboot := s.stackLost_boot k c
  obtain ⟨hstage, -, -⟩ := s.shutDown_boot k c
  exact hstage.trans (State.fallToReduced_stage (by rw [hboot]; exact hkept) (by rw [hboot]; exact hwarm))

theorem State.shutDown_ccStage (hreset : s.boot.resetting = some .controlComplex) (hkept : 4 ≤ s.boot.ccStage) :
    (s.shutDown k c).boot.ccStage = 3 ∧ (s.shutDown k c).boot.stage = s.boot.stage := by
  have hboot := s.stackLost_boot k c
  obtain ⟨hstage, hcc, -⟩ := s.shutDown_boot k c
  obtain ⟨hthree, hsame⟩ := State.fallToReduced_ccStage (s := s.stackLost k c) (by rw [hboot]; exact hreset) (by rw [hboot]; exact hkept)
  exact ⟨hcc.trans hthree, hstage.trans (hsame.trans (congrArg Boot.stage hboot))⟩

theorem State.shutDown_thermalWait : (s.shutDown k c).boot.thermalWait = true := by
  obtain ⟨-, -, hwait⟩ := s.shutDown_boot k c
  exact hwait

theorem State.shutDown_faulted {p : Nat} (hp : p < 8) (h : (s.pen p).state.faultable = true) : ((s.shutDown k c).pen p).state = .faulted :=
  (s.shutDown_steady k c).faulted p (State.stackLost_faulted c hp h)

/-- R268: with a stack in Shutdown and hot the device stays out of its reset. -/
theorem State.thermalReset_of_hot {w : State} (hk : k < w.np.stackList.length) (hstate : (w.stackAt k).tstate = 4) (hhot : 95 ≤ (w.stackAt k).temp) :
    w.thermalReset = w := by
  rw [State.stackAt, ← List.getElem_eq_getD (h := hk)] at hstate hhot
  refine if_neg (fun hall => ?_)
  rw [Bool.and_eq_true, List.all_eq_true] at hall
  have hcool := hall.2 _ (List.getElem_mem hk)
  rw [Bool.or_eq_true, bne_iff_ne, decide_eq_true_eq] at hcool
  rcases hcool with hne | hlt
  · exact hne hstate
  · omega

end ShutDown

/-! ### Reports (R266 to R268) -/

section Reports

theorem State.takeReport_warm {s : State} {k c : Nat} (hnew : nextThermal (s.stackAt k).tstate c ≠ 4) : s.takeReport k c =
    (s.takeTemp k c (nextThermal (s.stackAt k).tstate c)).slowNotices k (s.stackAt k).tstate (nextThermal (s.stackAt k).tstate c) :=
  if_neg (by simp [hnew])

theorem State.takeReport_hot {s : State} {k c : Nat} (hold : (s.stackAt k).tstate ≠ 4) (hc : 115 ≤ c) :
    s.takeReport k c = (s.takeTemp k c 4).shutDown k c := by
  have hnew := nextThermal_of_115 (s.stackAt k).tstate hc
  unfold State.takeReport
  rw [hnew]
  exact if_pos (by simp [hold])

variable {s : State} {k : Fin 8} {c : Nat} (hhub : s.boot.hubEn = true) (hrails : s.hubRails = true) (hnp : s.np.Sound)
  (hold : (s.stackAt k).tstate ≠ 4)
include hhub hrails hnp hold

theorem exec_stackTemperatureRead_warm (hc : c < 115) (hwait : s.boot.thermalWait = false) :
    ∃ t, exec (.stackTemperatureRead k c) s = .next t ∧ (t.stackAt k).temp = c ∧ (t.stackAt k).tstate = nextThermal (s.stackAt k).tstate c ∧
      (t.stackAt k).slow = hotState (nextThermal (s.stackAt k).tstate c) ∧ (t.stackAt k).maxTemp = max (s.stackAt k).maxTemp c := by
  obtain ⟨hlen, -⟩ := hnp
  obtain ⟨w, hexec, hsteady, hboot⟩ := exec_stackTemperatureRead c hhub hrails
  rw [min_eq_left (by omega), State.takeReport_warm (s := s.quiet) (nextThermal_ne_four hold hc)] at hsteady hboot
  have hstay : w.thermalReset = w := by
    have hsame : w.boot.thermalWait = s.boot.thermalWait := congrArg Boot.thermalWait (hboot.trans
      (State.slowNotices_keeps.only.same .boot (by decide)))
    exact if_neg (by simp [hsame, hwait])
  have hstack := State.takeTemp_stackAt (s := s.quiet) (k := k) (k.isLt.trans_eq hlen.symm) c (nextThermal (s.stackAt k).tstate c)
  have hnotices : (s.quiet.takeTemp k c (nextThermal (s.stackAt k).tstate c)).Steady w :=
    hsteady.after (State.slowNotices_keeps.steady (by decide))
  rw [hstay] at hexec
  rw [← State.stackAt_of_same hnotices.same] at hstack
  exact ⟨w, hexec, by rw [hstack], by rw [hstack], by rw [hstack], by rw [hstack]; rfl⟩

/-- R268: what a report of 115 °C or more leaves. -/
theorem exec_stackTemperatureRead_hot (hc : 115 ≤ c) : ∃ t, exec (.stackTemperatureRead k c) s = .next t ∧
    ((s.quiet.takeTemp k (min c 255) 4).shutDown k (min c 255)).Steady t ∧
    t.boot = ((s.quiet.takeTemp k (min c 255) 4).shutDown k (min c 255)).boot ∧
    (t.stackAt k).tstate = 4 ∧ (t.stackAt k).trained = false ∧ (t.stackAt k).powered = false := by
  obtain ⟨hlen, -⟩ := hnp
  obtain ⟨w, hexec, hsteady, hboot⟩ := exec_stackTemperatureRead c hhub hrails
  have hc' : 115 ≤ min c 255 := by omega
  generalize min c 255 = d at hc' hsteady hboot hexec ⊢
  rw [State.takeReport_hot (s := s.quiet) hold hc'] at hsteady hboot
  have htaken := State.takeTemp_stackAt (s := s.quiet) (k := k) (k.isLt.trans_eq hlen.symm) d 4
  have hlen' : (s.quiet.takeTemp k d 4).np.stackList.length = 8 := by
    rw [State.takeTemp_stackList, State.modStack_np, List.length_modify]
    exact hlen
  have hstack := State.shutDown_stackAt (k := k) (k.isLt.trans_eq hlen'.symm) d
  rw [← State.stackAt_of_same hsteady.same, htaken] at hstack
  have hstay : w.thermalReset = w := by
    refine State.thermalReset_of_hot (k := k) ?_ (by rw [hstack]) (by rw [hstack]; dsimp only; omega)
    rw [hsteady.same, (State.shutDown_steady ..).same, (State.stackLost_steady ..).same, State.modStack_np, List.length_modify, hlen']
    exact k.isLt
  rw [hstay] at hexec
  exact ⟨w, hexec, hsteady, hboot, by rw [hstack], by rw [hstack], by rw [hstack]⟩

end Reports

/-! ### SLOW (R267) -/

theorem exec_slowRepeat {s : State} {k : Nat} (hk : k < 8) (hone : ∀ j < 8, hotState (s.stackAt j).tstate = true ↔ j = k) :
    exec .slowRepeat s = .next (s.quiet.sendSlow true k) := by
  have hlist : (List.range 8).filter (fun j => hotState (s.stackAt j).tstate) = [k] := by
    have hsame : ∀ j ∈ List.range 8, hotState (s.stackAt j).tstate = (j == k) := fun j hj => by
      rw [Bool.eq_iff_iff, hone j (List.mem_range.1 hj), beq_iff_eq]
    rw [List.filter_congr hsame, List.filter_beq, List.count_eq_one_of_mem List.nodup_range (List.mem_range.2 hk)]
    rfl
  change Host.Outcome.next (s.quiet.forAll ((List.range 8).filter (fun j => hotState (s.stackAt j).tstate)) _) = _
  rw [hlist]
  rfl

/-- Settles O17: the states of Table 10.3, and what near pasture's service leaves of the stacks and the pens. -/
theorem stackTemperatures : Obligations.StackTemperatures := by
  unfold Obligations.StackTemperatures
  obtain ⟨hnormal, hwarm, hhot, hcritical⟩ := nextThermal_zero
  refine ⟨fun k c s hhub hrails hnp hc hold hwait => exec_stackTemperatureRead_warm hhub hrails hnp hold hc hwait,
    fun k c s hhub hrails hnp hc hold hstage hwarm => ?reduced, fun k c s hhub hrails hnp hc hold hreset hstage => ?complex,
    fun k s hk hone => exec_slowRepeat hk hone, hnormal, hwarm, hhot, hcritical, fun old c hc => nextThermal_of_115 old hc, nextThermal_four,
    fun c hlo hhi => nextThermal_kept (by decide) (by omega) (bandOf_le_one hhi) (show 85 < c + 3 by omega),
    fun c h => nextThermal_cooled (by decide) (by decide) (by omega) (bandOf_le_one (by omega)) (show c + 3 ≤ 85 by omega) (show 0 < c + 3 by omega),
    fun c hlo hhi => nextThermal_kept (by decide) (by omega) (bandOf_le_two hhi) (show 95 < c + 3 by omega),
    fun c hlo hhi => nextThermal_cooled (by decide) (by decide) (by omega) (bandOf_le_two (by omega)) (show c + 3 ≤ 95 by omega)
      (show 85 < c + 3 by omega),
    fun c hlo hhi => nextThermal_kept (by decide) hhi (bandOf_le c) (show 105 < c + 3 by omega)⟩
  case reduced =>
    obtain ⟨t, hexec, hsteady, hboot, hstate, htrained, hpowered⟩ := exec_stackTemperatureRead_hot hhub hrails hnp hold hc
    refine ⟨t, hexec, hstate, htrained, hpowered, ?_, ?_, fun p hp hpen => ?_⟩
    · rw [hboot]
      exact State.shutDown_stage (s := s.quiet.takeTemp k (min c 255) 4) hstage hwarm
    · rw [hboot, State.shutDown_thermalWait]
    · have hfaultable : (s.pen p).state.faultable = true := by
        rw [PenState.faultable]
        simpa only [List.mem_cons, List.not_mem_nil, or_false, Bool.or_eq_true, decide_eq_true_eq, or_assoc] using Or.inr hpen
      exact hsteady.faulted p (State.shutDown_faulted (s := s.quiet.takeTemp k (min c 255) 4) hp hfaultable)
  case complex =>
    obtain ⟨t, hexec, -, hboot, hstate, -, -⟩ := exec_stackTemperatureRead_hot hhub hrails hnp hold hc
    obtain ⟨hcc, hsame⟩ := State.shutDown_ccStage (s := s.quiet.takeTemp k (min c 255) 4) hreset hstage
    exact ⟨t, hexec, hstate, by rw [hboot, hcc], by rw [hboot, hsame]; rfl, by rw [hboot, State.shutDown_thermalWait]⟩

end Sys2Proof.Machine
